-- ==== Sys2Proof/Word.lean ====
section
/-! DEFINITION. The word types of the GNA-6400: bytes, 32-bit registers, 64-bit stamps and addresses (R16). -/

namespace Sys2Proof

/-- One byte of a message, an image or DRAM. -/
abbrev Byte := BitVec 8

/-- One register of BAR0 or BAR4 (R100: every register access is one naturally aligned DW). -/
abbrev Word := BitVec 32

/-- A 64-bit stamp, address or serial number. -/
abbrev Dword := BitVec 64

end Sys2Proof
end

