-- ==== Sys2Proof/Syntax.lean ====
section
/-! DEFINITION. The commands of the block: one constructor of `Instr` per row of spec/opcode_table.json, with the row's operands; and the types of those operands. A message row carries the command's header and payload (R125); a register row its requester, offset and value; an event row what the world outside decides. -/

namespace Sys2Proof

/-- Who issues a register access (R28, R106 SOURCE). -/
inductive Requester where
  | pcie | smbus
deriving DecidableEq, Repr

/-- A base address register with registers in it (R99). -/
inductive Bar where
  | bar0 | bar4
deriving DecidableEq, Repr

/-- A command of the host message interface without its opcode (R125). `flags` holds bits 7:1 of FLAGS shifted into place
(bit 0, the phase, belongs to the ring entry); `reserved` is bytes 8–15. -/
structure Cmd where
  tag : BitVec 16 := 0
  unit : BitVec 16 := 0
  length : BitVec 8 := 0
  flags : BitVec 8 := 0
  reserved : BitVec 64 := 0
  payload : List Byte := []
deriving DecidableEq, Repr

/-- What comes of a bead: it takes effect (R265); at its issue, its target cannot accept it (R269); or the read of the
schedule store for its issue is corrected, or fails (R288). -/
inductive BeadCome where
  | effect | late | corrected | uncorrectable
deriving DecidableEq, Repr

/-- What the ECC of an on-chip store met (R203, R288, R363). -/
inductive StoreError where
  | none | corrected | uncorrectable
deriving DecidableEq, Repr

/-- DRAM words (address / 8) that a requester's reads find newly uncorrectable, and those that they correct (R418, R419). -/
structure DramErrs where
  ue : List Nat := []
  ce : List Nat := []
deriving DecidableEq, Repr

/-- The PEC byte of an SMBus transaction (R113). -/
inductive Pec where
  | none | good | bad
deriving DecidableEq, Repr

/-- What the converters gave for a channel: the means at P1, PM and P2, for a DAC in its own LSB as read through the
corrected reference ADC, the middle one with the corrected code sent (R457). -/
structure CalMeas where
  chan : Nat
  p1 : Int
  pm : Int
  p2 : Int
deriving DecidableEq, Repr

/-- The samples of one bank's two pulses, four raw codes each. -/
structure PairRead where
  bank : Nat
  high : List Nat
  low : List Nat
deriving DecidableEq, Repr

/-- What link start found: DI read 1 throughout, the DI phases that pass under each of the four combinations of CK and
DO inversion, the driver's versions and delay, and the final PROBE (R324). -/
structure LinkFound where
  diInv : Bool
  phases : List Nat
  verMin : Nat
  verMax : Nat
  delay : Nat
  probe : Bool
deriving DecidableEq, Repr

/-- What a training step or a firmware training found on a channel: passing taps of each lane's eye, centre shift of
each lane in taps, the offset of an uncorrectable byte in the channel's pattern area, and the outcome where firmware training ended. -/
structure StepResult where
  taps : List Nat
  shift : List Int
  ue : Option Nat
  firmware : Option Bool
deriving DecidableEq, Repr

/-- What the work of a start-up stage found (R523): stage 0 the safe-path read-back; stage 3 the channels whose firmware
training failed, as a mask, and in a warm reset the periodic step of each other channel; stage 4 the builders that failed
PBU_TEST, as a mask; stage 5 the shorts, as bank and signal index; stage 7 VREF_EXT in µV and what each channel gave. -/
structure StageResult where
  safePathOk : Bool := true
  failedChannels : Nat := 0
  steps : List (Nat × StepResult) := []
  failedBuilders : Nat := 0
  shorts : List (Nat × Nat) := []
  vrefUv : Nat := 2500000
  meas : List CalMeas := []
deriving DecidableEq, Repr

/-- Instructions of the test access port (R554). -/
inductive JtagInstr where
  | bypass | idcode | samplePreload | extest | clamp | highz | extestPulse | extestTrain
deriving DecidableEq, Repr

/-- One constructor per row of spec/opcode_table.json. -/
inductive Instr where
  /-- R517: BOOT_SRC, BOOT_ARM and SMB_ADDR as the balls are strapped. -/
  | powerOnReset (bootSrc : Fin 4) (bootArm : Bool) (smbAddr : Fin 4)
  /-- R542. -/
  | brownout
  /-- R480. -/
  | thermalTrip
  /-- R481. -/
  | thermalRestart
  /-- R528: the write of GLB_RESET with KEY 0xA5 and WARM. -/
  | warmReset (q : Requester)
  /-- R530: the same with HOST_BOOT. -/
  | hostBoot (q : Requester)
  /-- R495. -/
  | supervisorWatchdog
  /-- R528. -/
  | watchdogReset
  /-- R495: SYSCLK's edges are lost, or back. -/
  | clockLoss (lost : Bool)
  /-- R495: the AON SRAM offset. -/
  | aonUe (address : BitVec 32)
  /-- R339: the levels of INTLK_A and INTLK_B after 100 ns. -/
  | interlockOpen (aHigh bHigh : Bool)
  /-- R339. -/
  | interlockDiscrepancy
  /-- R523. -/
  | bootStageDone (r : StageResult)
  /-- R522: the value written to GLB_BOOT_CTRL; whether flash reads back what was programmed. -/
  | hostBootGo (q : Requester) (value : BitVec 32) (flashOk : Bool)
  /-- R279. -/
  | ftg0Start
  /-- R97. -/
  | flr
  /-- R98. -/
  | linkDown
  /-- R517. -/
  | perstN
  /-- R92: into D0, or into D3hot. -/
  | pmStateChange (d0 : Bool)
  /-- R95: Bus Master Enable as the host leaves it. -/
  | busMasterDisable (enable : Bool)
  /-- R94: which uncorrectable error of the list, from 0. -/
  | pcieUncorrectable (error : Fin 8)
  /-- R147: the new size of BAR2 as a power of two. -/
  | bar2Resize (log2 : Fin 64)
  /-- R149: requester ID, BAR2 byte offset, the bytes from there on; `none` where the byte enable is 0; what the reads of
  partly written words meet. -/
  | bar2Write (rid : BitVec 16) (off : Nat) (data : List (Option Byte)) (errs : DramErrs := {})
  /-- R149: requester ID, BAR2 byte offset, the byte enables from there on (all clear in a zero-length read); words
  (address / 8) this read finds uncorrectable, and corrects. -/
  | bar2Read (rid : BitVec 16) (off : Nat) (be : List Bool) (ue ce : List Nat)
  /-- R100, R103: requester ID, BAR, direction, offset, byte enables, length in DW of an access that is not one aligned DW;
  the first two DW that a write carries. -/
  | accessSize (rid : BitVec 16) (bar : Bar) (write : Bool) (off : BitVec 26) (firstBe lastBe : BitVec 4) (len : BitVec 12)
      (data : BitVec 64 := 0)
  /-- R108: requester, BAR, DW index, value; whether flash reads back what was programmed, should it program any. -/
  | registerWrite (q : Requester) (bar : Bar) (dw : Fin 0x1000000) (value : BitVec 32) (flashOk : Bool)
  /-- R28: requester, BAR, DW index. -/
  | shadowCaptureRead (q : Requester) (bar : Bar) (dw : Fin 0x1000000)
  /-- R107. -/
  | glbErrClear (q : Requester)
  /-- R106. -/
  | glbAccessErrClear (q : Requester)
  /-- R114: PEC_REQ of the same write. -/
  | writeLock (q : Requester) (pecReq : Bool)
  /-- R211. -/
  | pqPeakWrite (q : Requester) (value : BitVec 32)
  /-- R211. -/
  | pqRegenDone
  /-- R463: channel number, value. -/
  | calTargetWrite (q : Requester) (chan : Fin 128) (value : BitVec 32)
  /-- R402. -/
  | syncModeWrite (q : Requester) (value : BitVec 32)
  /-- R507: which of the eight registers, value. -/
  | pendingClear (q : Requester) (n : Fin 8) (value : BitVec 32)
  /-- R501. -/
  | firstErrorClear (q : Requester)
  /-- R112: byte count, value, PEC. -/
  | smbSetPointer (count : Fin 256) (value : BitVec 32) (pec : Pec)
  /-- R111. -/
  | smbReadRegister
  /-- R114: byte count, value, PEC. -/
  | smbWriteRegister (count : Fin 256) (value : BitVec 32) (pec : Pec) (flashOk : Bool)
  /-- R111. -/
  | smbReadStatus
  /-- R111. -/
  | smbReadSerial
  /-- R116. -/
  | smbAlertResponse
  /-- R115. -/
  | smbSclTimeout
  /-- R117: ENABLE as written. -/
  | hmiEnable (q : Requester) (enable : Bool)
  /-- R140: ENABLE of the same write. -/
  | hmiReset (q : Requester) (enable : Bool)
  /-- R119. -/
  | hmiDbCmd (value : BitVec 32)
  /-- R119. -/
  | hmiDbCpl (value : BitVec 32)
  /-- R119. -/
  | hmiDbEvt (value : BitVec 32)
  /-- R124. -/
  | hmiHeartbeat (q : Requester) (value : BitVec 32)
  /-- R124. -/
  | hostWatchdog
  /-- R120: the entry read, `none` when its one retry failed too; whether its completion's write fails; shorts found, for
  an LSD_PIN_TEST, as bank and signal index. -/
  | commandFetch (entry : Option (List Byte)) (cplFails : Bool) (shorts : List (Nat × Nat))
  /-- R121: whether the write fails. -/
  | eventPost (failed : Bool)
  /-- R105: vector 0 or 1. -/
  | coalesceTimeout (v : Fin 2)
  /-- R134. -/
  | hello (c : Cmd)
  /-- R138. -/
  | echo (c : Cmd)
  /-- R72. -/
  | imgStage (c : Cmd)
  /-- R72. -/
  | mirrorDone
  /-- R76. -/
  | imgActivate (c : Cmd)
  /-- R75: whether the append succeeded. -/
  | journalAppendDone (ok : Bool)
  /-- R75. -/
  | journalEraseDone
  /-- R76. -/
  | quiescedDone
  /-- R76. -/
  | switchedDone
  /-- R80. -/
  | imgConfirm (c : Cmd)
  /-- R81. -/
  | imgRollback (c : Cmd)
  /-- R68. -/
  | imgRevokeKey (c : Cmd)
  /-- R80. -/
  | trialTimeout
  /-- R168. -/
  | memFenceQuery (c : Cmd)
  /-- R176. -/
  | cmpLayerSurface (c : Cmd)
  /-- R176. -/
  | cmpLayerGeom (c : Cmd)
  /-- R179. -/
  | cmpCommit (c : Cmd)
  /-- R182. -/
  | cmpLayerReady (c : Cmd)
  /-- R39: the generator. -/
  | lineStart (f : Fin 2)
  /-- R183. -/
  | latchLine
  /-- R198, R246: the layer, none for a full row store, and the canvas line at which it runs dry. -/
  | composerDry (layer : Option (Fin 16)) (line : Nat)
  /-- R220: what the composition stores met during the pass. -/
  | passComplete (store : StoreError := .none)
  /-- R379: samples that met an uncorrectable error. -/
  | highlightPassDone (bad : List Nat) (errs : DramErrs := {})
  /-- R244: the logical slot. -/
  | tileStart (slot : Fin 22)
  /-- R242, R249: the logical slot; the output residue of each primary of its tile. -/
  | tileBuilt (slot : Fin 22) (residues : List (BitVec 32))
  /-- R258. -/
  | pbuTest (c : Cmd)
  /-- R258: the builder, the residue of its test tile. -/
  | pbuTestDone (builder : Fin 24) (residue : BitVec 32)
  /-- R33. -/
  | decisionPoint
  /-- R274. -/
  | segmentBoundary
  /-- R505. -/
  | quietFrameTick
  /-- R380. -/
  | ftg1Sof
  /-- R397. -/
  | holdEnd
  /-- R395. -/
  | symbolDecoded
  /-- R410. -/
  | stale
  /-- R270: rod and TIME of the bead, what comes of it; port, block, plane, SOURCE, BLANK; rows not prefetched in time; what the
  cache read met, and what the plane reads from DRAM meet. -/
  | loadBlock (rod : Fin 64) (time : BitVec 32) (how : BeadCome) (port : Fin 6) (block : Fin 16) (plane : Fin 48) (cached blank : Bool)
      (missing : List Nat) (cacheCe : Bool) (cacheUe : Option Nat) (errs : DramErrs := {})
  /-- R270: the masks; whether a lower-priority frame was being sent. -/
  | resetBlock (rod : Fin 64) (time : BitVec 32) (how : BeadCome) (port : Fin 6) (showMask darkMask : BitVec 16) (aborts : Bool)
  /-- R328: the primary; the level, `none` for ZERO. -/
  | level (rod : Fin 64) (time : BitVec 32) (how : BeadCome) (primary : Fin 3) (lvl : Option (Fin 16))
  /-- R349: the slots; open or close. -/
  | window (rod : Fin 64) (time : BitVec 32) (how : BeadCome) (slots : BitVec 24) (opens : Bool)
  /-- R331: the bank, the level, the width. -/
  | diagPulse (rod : Fin 64) (time : BitVec 32) (how : BeadCome) (bank : Fin 12) (lvl : Fin 16) (width : BitVec 16)
  /-- R232: the width of each pulse, the gap. -/
  | calPair (rod : Fin 64) (time : BitVec 32) (how : BeadCome) (width gap : BitVec 16)
  /-- R233: what the converters gave for each bank. -/
  | levelPairCorrection (reads : List PairRead)
  /-- R425: training or refresh; channels, PERIOD, COUNT. -/
  | dramSlot (rod : Fin 64) (time : BitVec 32) (how : BeadCome) (training : Bool) (channels period count : BitVec 16)
  /-- R397: LENGTH. -/
  | darkSpan (rod : Fin 64) (time : BitVec 32) (how : BeadCome) (length : BitVec 32)
  /-- R377: FIRST_LINE, COUNT, PERIOD. -/
  | scanLine (rod : Fin 64) (time : BitVec 32) (how : BeadCome) (first count : BitVec 16) (period : BitVec 32)
  /-- R282: whether the load succeeded. -/
  | variantLoadDone (ok : Bool)
  /-- R285. -/
  | rckRestore (c : Cmd)
  /-- R307. -/
  | statusSync (port : Fin 6)
  /-- R307. -/
  | syncTimeout (port : Fin 6)
  /-- R308: the fields of HELLO_ACK. -/
  | helloAck (port : Fin 6) (verMin verMax : BitVec 8) (width height : BitVec 16) (rows unpark : BitVec 8)
      (settle vendor model : BitVec 16) (serial : BitVec 32)
  /-- R301: the OP acknowledged, RESULT. -/
  | ack (port : Fin 6) (op result : BitVec 8)
  /-- R309: each lane's number, lock and inversion; errors. -/
  | trainReport (port : Fin 6) (lanes : List (Nat × Bool × Bool)) (errors : BitVec 32)
  /-- R312. -/
  | ready (port : Fin 6)
  /-- R312: STATE, FAULT_FLAGS, row errors, frame errors. -/
  | status (port : Fin 6) (st flags : BitVec 8) (rowErr frameErr : BitVec 32)
  /-- R312: the lane. -/
  | laneLost (port : Fin 6) (lane : Fin 16)
  /-- R301, R312: BLOCK and ROW. -/
  | rowErr (port : Fin 6) (block row : BitVec 8)
  /-- R302: the OP of the frame that the array discarded. -/
  | frameErr (port : Fin 6) (op : BitVec 8)
  /-- R302. -/
  | replyTimeout (port : Fin 6)
  /-- R312. -/
  | statusLaneSilent (port : Fin 6)
  /-- R312. -/
  | parkLate (port : Fin 6)
  /-- R307. -/
  | statusPoll (port : Fin 6)
  /-- R314. -/
  | plkRetrain (c : Cmd)
  /-- R314. -/
  | plkPark (c : Cmd)
  /-- R314. -/
  | plkUnpark (c : Cmd)
  /-- R314. -/
  | plkReadStatus (c : Cmd)
  /-- R325: the TYPE, DATA, FLAGS and CHECK bits that follow START (R319); version 1 has 12 bits of DATA, version 2 has 3 bits of
  CHECK. -/
  | driverReply (bank : Fin 12) (typ : BitVec 3) (data : BitVec 16) (flags : BitVec 2) (check : BitVec 7)
  /-- R331. -/
  | bankUnverified (bank : Fin 12)
  /-- R324. -/
  | linkStartDone (bank : Fin 12) (found : LinkFound)
  /-- R338. -/
  | lsdRearm (c : Cmd)
  /-- R340. -/
  | lsdSafe (c : Cmd)
  /-- R330. -/
  | lsdBrightness (c : Cmd)
  /-- R335: shorts found, as bank and signal index. -/
  | lsdPinTest (c : Cmd) (shorts : List (Nat × Nat))
  /-- R333. -/
  | lsdColourLock (c : Cmd)
  /-- R334. -/
  | lsdDerateOverride (c : Cmd)
  /-- R324. -/
  | lsdLinkRestart (c : Cmd)
  /-- R333. -/
  | derateUpdate
  /-- R351: the raw codes of the sixteen ADC inputs. -/
  | loopTick (samples : List Nat) (store : List (Nat × StoreError) := [])
  /-- R358. -/
  | lpeSwap (c : Cmd)
  /-- R365. -/
  | lpeSlotReset (c : Cmd)
  /-- R373: TSC of the tick boundary, quarter of the tick, raw samples before and after the crossing, extremes of the
  period that ends. -/
  | fastCrossing (tick : Nat) (idx : Fin 4) (before after pMax pMin : BitVec 16)
  /-- R372. -/
  | motionLost
  /-- R374. -/
  | lockTimeout
  /-- R370. -/
  | parkReached
  /-- R370. -/
  | parkForced
  /-- R377. -/
  | scanLineStart
  /-- R376. -/
  | scanLineEnd
  /-- R384. -/
  | hlsStart (c : Cmd)
  /-- R384. -/
  | hlsPark (c : Cmd)
  /-- R424: the channel. -/
  | refreshDue (chan : Fin 16)
  /-- R425: the channel. -/
  | refreshOpportunity (chan : Fin 16)
  /-- R427. -/
  | ownRefreshSlot
  /-- R426: the channel; the class read, `none` without a reading. -/
  | mr4Read (chan : Fin 16) (cls : Option (Fin 8))
  /-- R431: the channel; what the step found. -/
  | trainingStepDone (chan : Fin 16) (r : StepResult)
  /-- R433. -/
  | memTrain (c : Cmd)
  /-- R443. -/
  | audStart (c : Cmd)
  /-- R443: the port, 4 for the input. -/
  | audioPortRunning (port : Fin 5)
  /-- R443. -/
  | audStop (c : Cmd)
  /-- R447: the output. -/
  | sampleFrameOut (port : Fin 4) (errs : DramErrs := {})
  /-- R448: left and right samples. -/
  | sampleFrameIn (l r : BitVec 32)
  /-- R448. -/
  | audioFillCopy
  /-- R439. -/
  | audioPllUnlock
  /-- R462. -/
  | calRun (c : Cmd)
  /-- R457: VREF_EXT in µV; what each channel gave. -/
  | calRunDone (vrefUv : Nat) (meas : List CalMeas)
  /-- R461. -/
  | calRampStep
  /-- R466. -/
  | calStore (c : Cmd)
  /-- R466: whether the second read-back at the latest matched. -/
  | calStoreDone (ok : Bool)
  /-- R471: the die reading in 0.25 °C, if any; the raw codes of the eighteen NTC inputs. -/
  | sensorSample (die : Option Int) (ntc : List Nat)
  /-- R479. -/
  | thermalStopRampEnd
  /-- R484. -/
  | pwrSet (c : Cmd)
  /-- R485. -/
  | domainPowerGood
  /-- R485. -/
  | domainTimeout
  /-- R486. -/
  | thmClearMinmax (c : Cmd)
  /-- R510. -/
  | fltInject (c : Cmd)
  /-- R513. -/
  | fltReadLog (c : Cmd)
  /-- R302. -/
  | statusFrameDiscarded (port : Fin 6)
  /-- R325. -/
  | dlinkReplyMissing (bank : Fin 12)
  /-- R439. -/
  | audioPllLock
  /-- R105. -/
  | msixVectorUnmask (v : Fin 64)
  /-- R543: whether the rail is up after this retry. -/
  | vaux3v3Retry (up : Bool)
  /-- R195: the layer, the fill of its fetch buffer in KB. -/
  | fetchBufferWatermark (layer : Fin 16) (fillKb : Nat) (errs : DramErrs := {})
  /-- R400. -/
  | realignmentFrameStart
  /-- R401. -/
  | symbolArrival
  /-- R555: the instruction; what is shifted into the cells of LASER_EN, HL_EN and SHUTTER_OUT. -/
  | boundaryScanInstruction (i : JtagInstr) (lasers : BitVec 12) (hl shutter : Bool)
deriving DecidableEq, Repr

end Sys2Proof
end

