-- ==== Sys2Proof/Decode.lean ====
section
/-! DEFINITION. The command that a word spells by the opcode table's bits. No row of the table gives bits, so no word spells a command. -/

namespace Sys2Proof

/-- The command that the `nbits` bits of `w` spell: none, since the table gives no row any bits. -/
def decodeTableWord (_nbits _w : Nat) : Option Instr := none

end Sys2Proof
end

