-- ==== Sys2Proof/Config.lean ====
section
/-! DEFINITION. What the spec leaves open, as constants with no body: no proof can see a value of them. Each is named in a row of notes/assumptions. -/

namespace Sys2Proof.Config

/-- SHA-384 of FIPS 180-4 (R68): a published standard the spec names and does not restate. 48 bytes. DEDUCED (safe, log
entry 12). -/
opaque sha384 : List Byte → List Byte

/-- ECDSA P-384 verification of FIPS 186-5 (R68): public key, r, s, digest. DEDUCED (safe, log entry 12). -/
opaque ecdsaVerifies : List Byte → List Byte → List Byte → List Byte → Bool

/-- Whether the code of FAST_DRV for an amplitude AMPL and a phase of the NCO is the one above AMPL × sin, not the one below: R368
states no rounding. DEDUCED (safe, log entry 49). -/
opaque fastUp : Nat → Nat → Bool

/-- Phase of the Driver Link bit clock: the ns after a multiple of 10 ns of device time at which CK rises. R319 and R322
state none; FINE of a DRIVE frame follows from it. DESIGN CHOICE (safe, log entry 71). -/
opaque dlinkPhase : Nat

/-- A value the spec leaves undefined, fresh at each count of the state's counter: 32 bits. DESIGN CHOICE
(safe, log entry 11). -/
opaque freeWord : Nat → BitVec 32

/-- Bits 7:0 of the event code of IMG_STATE: R128 gives bits 15:8, R87 states no code. DEDUCED (safe,
log entry 14). -/
opaque imgStateLow : BitVec 8

end Sys2Proof.Config
end

