-- ==== Sys2Proof/Machine/Bits.lean ====
section
/-! DEFINITION. Bit fields, little-endian byte lists (R16), sparse canonical maps and indexed families: the plain helpers the rest of the machine is written with. -/

namespace Sys2Proof.Machine

/-- A register field: `v` placed at bits hi:lo (bits above the field's width are dropped). -/
def fld (hi lo v : Nat) : Nat := (v % 2 ^ (hi + 1 - lo)) * 2 ^ lo

/-- The value of bits hi:lo of `w`. -/
def bits (w hi lo : Nat) : Nat := (w / 2 ^ lo) % 2 ^ (hi + 1 - lo)

/-- Bit `i` of `w`. -/
def bitAt (w i : Nat) : Bool := Nat.testBit w i

/-- 1 for true, 0 for false. -/
def b2n (b : Bool) : Nat := if b then 1 else 0

/-- The word with bit `i` set for each index at which the list holds true. -/
def maskOf (l : List Bool) : Nat :=
  match l with
  | [] => 0
  | b :: t => b2n b + 2 * maskOf t

/-- A signed value in `n` bits, two's complement. -/
def twos (n : Nat) (v : Int) : Nat := (v % (2 ^ n : Nat)).toNat

/-- The signed value that `n` bits spell. -/
def signed (n : Nat) (v : Nat) : Int :=
  let w := v % 2 ^ n
  if w < 2 ^ (n - 1) then w else (w : Int) - (2 ^ n : Nat)

/-- Clamp to lo..hi. -/
def clampI (lo hi v : Int) : Int := max lo (min hi v)

/-- Round n/d to the nearest integer, halves away from zero upward (d > 0). -/
def divRound (n : Int) (d : Nat) : Int := (2 * n + d) / (2 * d : Nat)

/-- Ceiling of n/d. -/
def ceilDiv (n d : Nat) : Nat := (n + d - 1) / d

/-- `n` bytes of `v`, least significant first (R16). -/
def leBytes (n v : Nat) : List Byte :=
  match n with
  | 0 => []
  | k + 1 => BitVec.ofNat 8 v :: leBytes k (v / 256)

/-- The number a byte list spells, least significant first (R16). -/
def leNat (l : List Byte) : Nat :=
  match l with
  | [] => 0
  | b :: t => b.toNat + 256 * leNat t

/-- The number spelt by the `n` bytes at `off`. -/
def leAt (l : List Byte) (off n : Nat) : Nat := leNat ((l.drop off).take n)

/-- Byte `off` of a list, 0 beyond its end. -/
def byteAt (l : List Byte) (off : Nat) : Nat := (l.getD off 0).toNat

/-- Element `i` of a family, or `d` beyond its end. -/
def vget {α : Type} {n : Nat} (v : Vector α n) (i : Nat) (d : α) : α := v.toList.getD i d

/-- The family with `f` applied at index `i` (unchanged when `i` is beyond its end). -/
def vmod {α : Type} {n : Nat} (v : Vector α n) (i : Nat) (f : α → α) : Vector α n :=
  if h : i < n then v.set i (f v[i]) h else v

/-- The family with `a` at index `i`. -/
def vset {α : Type} {n : Nat} (v : Vector α n) (i : Nat) (a : α) : Vector α n :=
  vmod v i (fun _ => a)

/-- Read a sparse map: what it lists at `k`, else the default there. -/
def mapGet {α : Type} (dflt : Nat → α) (m : List (Nat × α)) (k : Nat) : α :=
  match m with
  | [] => dflt k
  | (j, a) :: t => if j = k then a else mapGet dflt t k

/-- Write a sparse map in canonical form: keys rising, no entry equal to the default. -/
def mapSet {α : Type} [DecidableEq α] (dflt : Nat → α) (m : List (Nat × α)) (k : Nat) (a : α) :
    List (Nat × α) :=
  match m with
  | [] => if a = dflt k then [] else [(k, a)]
  | (j, b) :: t =>
    if k < j then (if a = dflt k then (j, b) :: t else (k, a) :: (j, b) :: t)
    else if k = j then (if a = dflt k then t else (k, a) :: t)
    else (j, b) :: mapSet dflt t k a

/-- The canonical form: keys strictly rising from above `lo`, and no entry equal to the default. -/
def mapWfFrom {α : Type} [DecidableEq α] (dflt : Nat → α) (lo : Nat) (m : List (Nat × α)) : Bool :=
  match m with
  | [] => true
  | (k, a) :: t => decide (lo ≤ k) && decide (a ≠ dflt k) && mapWfFrom dflt (k + 1) t

/-- The canonical form of a sparse map. -/
def mapWf {α : Type} [DecidableEq α] (dflt : Nat → α) (m : List (Nat × α)) : Bool :=
  mapWfFrom dflt 0 m

/-- Apply `f` for each index 0 … n−1 in order. -/
def forN {σ : Type} (n : Nat) (f : σ → Nat → σ) (s : σ) : σ := (List.range n).foldl f s

/-- Apply `f` for each index whose bit is set in `mask`, of `n` indices, in ascending order. -/
def forMask {σ : Type} (n mask : Nat) (f : σ → Nat → σ) (s : σ) : σ :=
  forN n (fun s i => if bitAt mask i then f s i else s) s

/-- Number of set bits among the low `n`. -/
def popN (n mask : Nat) : Nat := (List.range n).foldl (fun a i => a + b2n (bitAt mask i)) 0

/-- The lowest index below `n` at which `p` holds. -/
def firstN (n : Nat) (p : Nat → Bool) : Option Nat := (List.range n).find? p

end Sys2Proof.Machine
end

