-- ==== Sys2Proof/Machine/RegTable.lean ====
section
/-! DEFINITION. The register tables of the spec's chapters as data: each register's BAR0 offset, its repeats, its named bits and its access types (R18) and reset value (R19). A row's comment names the register and the rule whose table gives it. -/

namespace Sys2Proof.Machine

/-- One row of a register table. `dims` lists (count, stride) of each repeat; `named` the bits that are not reserved;
the masks give the bits of each access type; `reset` is the value after power-on reset where it is a number. -/
structure RegRow where
  base : Nat
  dims : List (Nat × Nat)
  named : Nat
  rw : Nat
  rws : Nat
  w1c : Nat
  w1 : Nat
  tly : Bool
  reset : Nat
deriving DecidableEq, Repr

/-- Registers of the GLB block. -/
def glbRows0 : List RegRow := [
  -- GLB_ID (R106)
  ⟨0x0, [], 0xffffffff, 0x0, 0x0, 0x0, 0x0, false, 0x1e6b0000⟩,
  -- GLB_CAP (R8)
  ⟨0x10, [], 0xffffff, 0x0, 0x0, 0x0, 0x0, false, 0x0⟩,
  -- GLB_ERR_STATUS (R106)
  ⟨0x20, [], 0xf00000ff, 0x0, 0x0, 0x80000000, 0x0, false, 0x0⟩,
  -- GLB_ERR_ADDR (R106)
  ⟨0x24, [], 0x3ffffff, 0x0, 0x0, 0x0, 0x0, false, 0x0⟩,
  -- GLB_ACCESS_ERR (R106)
  ⟨0x28, [], 0xf00fffff, 0x0, 0x0, 0x80000000, 0x0, false, 0x0⟩,
  -- GLB_ACCESS_ADDR (R106)
  ⟨0x2c, [], 0x3ffffff, 0x0, 0x0, 0x0, 0x0, false, 0x0⟩,
  -- GLB_ACCESS_TALLY (R106)
  ⟨0x30, [], 0xffffffff, 0x0, 0x0, 0x0, 0x0, true, 0x0⟩,
  -- GLB_TALLY_SAT (R106)
  ⟨0x34, [], 0x1, 0x0, 0x0, 0x0, 0x0, false, 0x0⟩,
  -- GLB_SMB_CTRL (R106)
  ⟨0x38, [], 0x7f3, 0x2, 0x0, 0x0, 0x1, false, 0x0⟩,
  -- GLB_TSC_LO (R28)
  ⟨0x40, [], 0xffffffff, 0x0, 0x0, 0x0, 0x0, false, 0x0⟩,
  -- GLB_TSC_HI (R28)
  ⟨0x44, [], 0xffffffff, 0x0, 0x0, 0x0, 0x0, false, 0x0⟩,
  -- GLB_BOOT_STATUS (R530)
  ⟨0x50, [], 0x3ffff, 0x0, 0x0, 0x0, 0x0, false, 0x0⟩]

/-- Registers of the GLB block. -/
def glbRows1 : List RegRow := [
  -- GLB_BOOT_STAGE (R530)
  ⟨0x54, [], 0xff0f, 0x0, 0x0, 0x0, 0x0, false, 0x0⟩,
  -- GLB_RESET (R530)
  ⟨0x58, [], 0xff000003, 0x0, 0x0, 0x0, 0xff000003, false, 0x0⟩,
  -- GLB_BOOT_CTRL (R530)
  ⟨0x5c, [], 0xc07fffff, 0x407fffff, 0x0, 0x0, 0x80000000, false, 0x0⟩,
  -- GLB_BOOT_TIME (R530)
  ⟨0x60, [], 0xffffffff, 0x0, 0x0, 0x0, 0x0, false, 0x0⟩,
  -- GLB_FW_VER (R530)
  ⟨0x64, [], 0xffffffff, 0x0, 0x0, 0x0, 0x0, false, 0x0⟩,
  -- GLB_WARM_TALLY (R530)
  ⟨0x68, [], 0xffffffff, 0x0, 0x0, 0x0, 0x0, true, 0x0⟩,
  -- GLB_BOOT_TALLY_SAT (R530)
  ⟨0x6c, [], 0x1, 0x0, 0x0, 0x0, 0x0, false, 0x0⟩,
  -- GLB_IDENT_PART (R106)
  ⟨0x100, [], 0xffffffff, 0x0, 0x0, 0x0, 0x0, false, 0x0⟩,
  -- GLB_IDENT_LOT0 (R106)
  ⟨0x104, [], 0xffffffff, 0x0, 0x0, 0x0, 0x0, false, 0x0⟩,
  -- GLB_IDENT_LOT1 (R106)
  ⟨0x108, [], 0xffff, 0x0, 0x0, 0x0, 0x0, false, 0x0⟩,
  -- GLB_IDENT_DIE (R106)
  ⟨0x10c, [], 0xffffffff, 0x0, 0x0, 0x0, 0x0, false, 0x0⟩,
  -- GLB_IDENT_SERIAL_LO (R106)
  ⟨0x110, [], 0xffffffff, 0x0, 0x0, 0x0, 0x0, false, 0x0⟩]

/-- Registers of the GLB block. -/
def glbRows2 : List RegRow := [
  -- GLB_IDENT_SERIAL_HI (R106)
  ⟨0x114, [], 0xffffffff, 0x0, 0x0, 0x0, 0x0, false, 0x0⟩,
  -- GLB_IDENT_DRAM (R106)
  ⟨0x118, [], 0x7ffffff, 0x0, 0x0, 0x0, 0x0, false, 0x6002155⟩]

/-- Registers of the GLB block. -/
def glbRows : List RegRow := glbRows0 ++ glbRows1 ++ glbRows2

/-- Registers of the HMI block. -/
def hmiRows0 : List RegRow := [
  -- HMI_CTRL (R140)
  ⟨0x10000, [], 0x3, 0x1, 0x0, 0x0, 0x2, false, 0x0⟩,
  -- HMI_STATUS (R140)
  ⟨0x10004, [], 0xe0ff01ff, 0x0, 0x0, 0x0, 0x0, false, 0x0⟩,
  -- HMI_CMD_BASE_LO (R140)
  ⟨0x10010, [], 0xfffff000, 0xfffff000, 0x0, 0x0, 0x0, false, 0x0⟩,
  -- HMI_CMD_BASE_HI (R140)
  ⟨0x10014, [], 0xffffffff, 0xffffffff, 0x0, 0x0, 0x0, false, 0x0⟩,
  -- HMI_CMD_SIZE (R140)
  ⟨0x10018, [], 0xf, 0xf, 0x0, 0x0, 0x0, false, 0x4⟩,
  -- HMI_CPL_BASE_LO (R140)
  ⟨0x10020, [], 0xfffff000, 0xfffff000, 0x0, 0x0, 0x0, false, 0x0⟩,
  -- HMI_CPL_BASE_HI (R140)
  ⟨0x10024, [], 0xffffffff, 0xffffffff, 0x0, 0x0, 0x0, false, 0x0⟩,
  -- HMI_CPL_SIZE (R140)
  ⟨0x10028, [], 0xf, 0xf, 0x0, 0x0, 0x0, false, 0x4⟩,
  -- HMI_EVT_BASE_LO (R140)
  ⟨0x10030, [], 0xfffff000, 0xfffff000, 0x0, 0x0, 0x0, false, 0x0⟩,
  -- HMI_EVT_BASE_HI (R140)
  ⟨0x10034, [], 0xffffffff, 0xffffffff, 0x0, 0x0, 0x0, false, 0x0⟩,
  -- HMI_EVT_SIZE (R140)
  ⟨0x10038, [], 0xf, 0xf, 0x0, 0x0, 0x0, false, 0x4⟩,
  -- HMI_COALESCE (R140)
  ⟨0x10040, [], 0xffffffff, 0xffffffff, 0x0, 0x0, 0x0, false, 0x1000100⟩]

/-- Registers of the HMI block. -/
def hmiRows1 : List RegRow := [
  -- HMI_EVT_LOST (R140)
  ⟨0x10048, [], 0xffffffff, 0x0, 0x0, 0x0, 0x0, true, 0x0⟩,
  -- HMI_CMD_TALLY (R140)
  ⟨0x1004c, [], 0xffffffff, 0x0, 0x0, 0x0, 0x0, true, 0x0⟩,
  -- HMI_TALLY_SAT (R140)
  ⟨0x10050, [], 0x3, 0x0, 0x0, 0x0, 0x0, false, 0x0⟩,
  -- HMI_RING_ERR (R140)
  ⟨0x10054, [], 0xf000ffff, 0x0, 0x0, 0x0, 0x0, false, 0x0⟩,
  -- HMI_WATCHDOG (R140)
  ⟨0x10058, [], 0xffff, 0xffff, 0x0, 0x0, 0x0, false, 0x0⟩,
  -- HMI_HEARTBEAT (R140)
  ⟨0x1005c, [], 0xffffffff, 0x0, 0x0, 0x0, 0xffffffff, false, 0x0⟩]

/-- Registers of the HMI block. -/
def hmiRows : List RegRow := hmiRows0 ++ hmiRows1

/-- Registers of the IMG block. -/
def imgRows0 : List RegRow := [
  -- IMG_STATUS (R88)
  ⟨0x20000, [], 0x3fffff7, 0x0, 0x0, 0x2000000, 0x0, false, 0x3f05⟩,
  -- IMG_ACTIVE_VER (R88)
  ⟨0x20004, [], 0xffffffff, 0x0, 0x0, 0x0, 0x0, false, 0x0⟩,
  -- IMG_PREVIOUS_VER (R88)
  ⟨0x20008, [], 0xffffffff, 0x0, 0x0, 0x0, 0x0, false, 0x0⟩,
  -- IMG_STAGED_VER (R88)
  ⟨0x2000c, [], 0xffffffff, 0x0, 0x0, 0x0, 0x0, false, 0x0⟩,
  -- IMG_TRIAL_TIMEOUT (R88)
  ⟨0x20010, [], 0xffffffff, 0x0, 0xffffffff, 0x0, 0x0, false, 0x2710⟩,
  -- IMG_TRIAL_REMAIN (R88)
  ⟨0x20014, [], 0xffffffff, 0x0, 0x0, 0x0, 0x0, false, 0x0⟩,
  -- IMG_FAIL_INFO (R88)
  ⟨0x20018, [], 0xfffffff, 0x0, 0x0, 0x0, 0x0, false, 0x0⟩,
  -- IMG_JRN_SEQ (R88)
  ⟨0x2001c, [], 0xffffffff, 0x0, 0x0, 0x0, 0x0, false, 0x0⟩,
  -- IMG_KEY_STATUS (R88)
  ⟨0x20020, [], 0xff, 0x0, 0x0, 0x0, 0x0, false, 0x0⟩,
  -- IMG_ACT_TALLY (R88)
  ⟨0x20024, [], 0xffffffff, 0x0, 0x0, 0x0, 0x0, true, 0x0⟩,
  -- IMG_REVERT_TALLY (R88)
  ⟨0x20028, [], 0xffffffff, 0x0, 0x0, 0x0, 0x0, true, 0x0⟩,
  -- IMG_TALLY_SAT (R88)
  ⟨0x2002c, [], 0x3, 0x0, 0x0, 0x0, 0x0, false, 0x0⟩]

/-- Registers of the IMG block. -/
def imgRows : List RegRow := imgRows0

/-- Registers of the FLT block. -/
def fltRows0 : List RegRow := [
  -- FLT_STATUS (R516)
  ⟨0x40000, [], 0xf1ff0000, 0x0, 0x0, 0x0, 0x0, false, 0x0⟩,
  -- FLT_CTRL (R516)
  ⟨0x40004, [], 0x3, 0x3, 0x0, 0x0, 0x0, false, 0x2⟩,
  -- FLT_FIRST_TSC_LO (R516)
  ⟨0x40010, [], 0xffffffff, 0x0, 0x0, 0x0, 0x0, false, 0x0⟩,
  -- FLT_FIRST_TSC_HI (R516)
  ⟨0x40014, [], 0xffffffff, 0x0, 0x0, 0x0, 0x0, false, 0x0⟩,
  -- FLT_FIRST_ADDR_LO (R516)
  ⟨0x40018, [], 0xffffffff, 0x0, 0x0, 0x0, 0x0, false, 0x0⟩,
  -- FLT_FIRST_ADDR_HI (R516)
  ⟨0x4001c, [], 0xffffffff, 0x0, 0x0, 0x0, 0x0, false, 0x0⟩,
  -- FLT_FIRST_INFO (R516)
  ⟨0x40020, [], 0xffffffff, 0x0, 0x0, 0x80000000, 0x0, false, 0x0⟩,
  -- FLT_FIRST_MASTER (R516)
  ⟨0x40024, [], 0xffffff, 0x0, 0x0, 0x0, 0x0, false, 0x0⟩,
  -- FLT_FIRST_SEQ (R516)
  ⟨0x40028, [], 0xffffffff, 0x0, 0x0, 0x0, 0x0, false, 0x0⟩,
  -- FLT_LOG_HEAD (R516)
  ⟨0x40030, [], 0xffffffff, 0x0, 0x0, 0x0, 0x0, false, 0x0⟩,
  -- FLT_PENDING_n (R516)
  ⟨0x40040, [(8, 0x4)], 0xffffffff, 0x0, 0x0, 0xffffffff, 0x0, false, 0x0⟩,
  -- FLT_ACTIVE_n (R516)
  ⟨0x40060, [(8, 0x4)], 0xffffffff, 0x0, 0x0, 0x0, 0x0, false, 0x0⟩]

/-- Registers of the FLT block. -/
def fltRows1 : List RegRow := [
  -- FLT_RECORD_TALLY (R516)
  ⟨0x40080, [], 0xffffffff, 0x0, 0x0, 0x0, 0x0, true, 0x0⟩,
  -- FLT_COALESCE_TALLY (R516)
  ⟨0x40084, [], 0xffffffff, 0x0, 0x0, 0x0, 0x0, true, 0x0⟩,
  -- FLT_OVERWRITE_TALLY (R516)
  ⟨0x40088, [], 0xffffffff, 0x0, 0x0, 0x0, 0x0, true, 0x0⟩,
  -- FLT_INJECT_TALLY (R516)
  ⟨0x4008c, [], 0xffffffff, 0x0, 0x0, 0x0, 0x0, true, 0x0⟩,
  -- FLT_COINCIDENT_TALLY (R516)
  ⟨0x40090, [], 0xffffffff, 0x0, 0x0, 0x0, 0x0, true, 0x0⟩,
  -- FLT_TALLY_SAT (R516)
  ⟨0x40094, [], 0x1f, 0x0, 0x0, 0x0, 0x0, false, 0x0⟩,
  -- FLT_SRC_CFG (R516)
  ⟨0x41000, [(256, 0x10)], 0xffffffc3, 0x0, 0x0, 0x0, 0x0, false, 0x400000⟩,
  -- FLT_SRC_STATE (R516)
  ⟨0x41004, [(256, 0x10)], 0xf003ffff, 0x0, 0x0, 0x0, 0x0, false, 0x0⟩,
  -- FLT_SRC_COUNT (R516)
  ⟨0x41008, [(256, 0x10)], 0xffffffff, 0x0, 0x0, 0x0, 0x0, true, 0x0⟩,
  -- FLT_SRC_RECOVER (R516)
  ⟨0x4100c, [(256, 0x10)], 0xffffffff, 0x0, 0x0, 0x0, 0x0, true, 0x0⟩]

/-- Registers of the FLT block. -/
def fltRows : List RegRow := fltRows0 ++ fltRows1

/-- Registers of the PWR block. -/
def pwrRows0 : List RegRow := [
  -- PWR_STATE_0 (R489)
  ⟨0x50000, [], 0xffffffff, 0x0, 0x0, 0x0, 0x0, false, 0x0⟩,
  -- PWR_STATE_1 (R489)
  ⟨0x50004, [], 0xffffffff, 0x0, 0x0, 0x0, 0x0, false, 0x0⟩,
  -- PWR_STATE_2 (R489)
  ⟨0x50008, [], 0xff, 0x0, 0x0, 0x0, 0x0, false, 0x0⟩,
  -- PWR_PRESENT_LO (R489)
  ⟨0x5000c, [], 0xffffffff, 0x0, 0x0, 0x0, 0x0, false, 0x0⟩,
  -- PWR_PRESENT_HI (R489)
  ⟨0x50010, [], 0xf, 0x0, 0x0, 0x0, 0x0, false, 0x0⟩,
  -- PWR_STATUS (R489)
  ⟨0x50014, [], 0x80ff003f, 0x0, 0x0, 0x0, 0x0, false, 0x3f⟩,
  -- PWR_LAST_US (R489)
  ⟨0x50018, [], 0xffffffff, 0x0, 0x0, 0x0, 0x0, false, 0x0⟩,
  -- PWR_SET_TALLY (R489)
  ⟨0x5001c, [], 0xffffffff, 0x0, 0x0, 0x0, 0x0, true, 0x0⟩,
  -- PWR_TIMEOUT_TALLY (R489)
  ⟨0x50020, [], 0xffffffff, 0x0, 0x0, 0x0, 0x0, true, 0x0⟩,
  -- PWR_TALLY_SAT (R489)
  ⟨0x50024, [], 0x3, 0x0, 0x0, 0x0, 0x0, false, 0x0⟩]

/-- Registers of the PWR block. -/
def pwrRows : List RegRow := pwrRows0

/-- Registers of the THM block. -/
def thmRows0 : List RegRow := [
  -- THM_STATUS (R488)
  ⟨0x60000, [], 0xf83fffff, 0x0, 0x0, 0x80000000, 0x0, false, 0x0⟩,
  -- THM_NTC_BANK_CFG (R488)
  ⟨0x60008, [], 0xffffffff, 0x0, 0xffffffff, 0x0, 0x0, false, 0xd6b03e8⟩,
  -- THM_NTC_ARRAY_CFG (R488)
  ⟨0x6000c, [], 0xffffffff, 0x0, 0xffffffff, 0x0, 0x0, false, 0xd6b03e8⟩,
  -- THM_FAIL_LO (R488)
  ⟨0x60010, [], 0xffffffff, 0x0, 0x0, 0x0, 0x0, false, 0x0⟩,
  -- THM_FAIL_HI (R488)
  ⟨0x60014, [], 0x7, 0x0, 0x0, 0x0, 0x0, false, 0x0⟩,
  -- THM_TRIP_TALLY (R488)
  ⟨0x60018, [], 0xffffffff, 0x0, 0x0, 0x0, 0x0, true, 0x0⟩,
  -- THM_TALLY_SAT (R488)
  ⟨0x6001c, [], 0x1, 0x0, 0x0, 0x0, 0x0, false, 0x0⟩,
  -- THM_SENS_READ (R488)
  ⟨0x61000, [(35, 0x20)], 0xcf00ffff, 0x0, 0x0, 0x0, 0x0, false, 0x0⟩,
  -- THM_SENS_HIGH (R488)
  ⟨0x61004, [(35, 0x20)], 0xffffffff, 0x0, 0xffffffff, 0x0, 0x0, false, 0x0⟩,
  -- THM_SENS_LOW (R488)
  ⟨0x61008, [(35, 0x20)], 0xffffffff, 0x0, 0xffffffff, 0x0, 0x0, false, 0x0⟩,
  -- THM_SENS_HYST (R488)
  ⟨0x6100c, [(35, 0x20)], 0xff, 0x0, 0xff, 0x0, 0x0, false, 0xc⟩,
  -- THM_SENS_MINMAX (R488)
  ⟨0x61010, [(35, 0x20)], 0xffffffff, 0x0, 0x0, 0x0, 0x0, false, 0x0⟩]

/-- Registers of the THM block. -/
def thmRows1 : List RegRow := [
  -- THM_SENS_ASSERT_TALLY (R488)
  ⟨0x61014, [(35, 0x20)], 0xffffffff, 0x0, 0x0, 0x0, 0x0, true, 0x0⟩,
  -- THM_SENS_FAIL_TALLY (R488)
  ⟨0x61018, [(35, 0x20)], 0xffffffff, 0x0, 0x0, 0x0, 0x0, true, 0x0⟩,
  -- THM_SENS_TALLY_SAT (R488)
  ⟨0x6101c, [(35, 0x20)], 0x3, 0x0, 0x0, 0x0, 0x0, false, 0x0⟩]

/-- Registers of the THM block. -/
def thmRows : List RegRow := thmRows0 ++ thmRows1

/-- Registers of the CAL block. -/
def calRows0 : List RegRow := [
  -- CAL_STATUS (R469)
  ⟨0x70000, [], 0xf0000003, 0x0, 0x0, 0x0, 0x0, false, 0x0⟩,
  -- CAL_SEQ (R469)
  ⟨0x70004, [], 0xffffffff, 0x0, 0x0, 0x0, 0x0, false, 0x0⟩,
  -- CAL_VREF (R469)
  ⟨0x70008, [], 0xffffffff, 0x0, 0x0, 0x0, 0x0, false, 0x0⟩,
  -- CAL_FAIL_0 (R469)
  ⟨0x7000c, [], 0xffffffff, 0x0, 0x0, 0x0, 0x0, false, 0x0⟩,
  -- CAL_FAIL_1 (R469)
  ⟨0x70010, [], 0xffffffff, 0x0, 0x0, 0x0, 0x0, false, 0x0⟩,
  -- CAL_FAIL_2 (R469)
  ⟨0x70014, [], 0xffffffff, 0x0, 0x0, 0x0, 0x0, false, 0x0⟩,
  -- CAL_PD_RANGE (R469)
  ⟨0x70020, [], 0xfff, 0xfff, 0x0, 0x0, 0x0, false, 0x0⟩,
  -- CAL_RUN_TALLY (R469)
  ⟨0x70030, [], 0xffffffff, 0x0, 0x0, 0x0, 0x0, true, 0x0⟩,
  -- CAL_STORE_TALLY (R469)
  ⟨0x70034, [], 0xffffffff, 0x0, 0x0, 0x0, 0x0, true, 0x0⟩,
  -- CAL_FAIL_TALLY (R469)
  ⟨0x70038, [], 0xffffffff, 0x0, 0x0, 0x0, 0x0, true, 0x0⟩,
  -- CAL_TALLY_SAT (R469)
  ⟨0x7003c, [], 0x7, 0x0, 0x0, 0x0, 0x0, false, 0x0⟩,
  -- CAL_CH_APPLIED (R469)
  ⟨0x71000, [(73, 0x20)], 0xffffffff, 0x0, 0x0, 0x0, 0x0, false, 0x0⟩]

/-- Registers of the CAL block. -/
def calRows1 : List RegRow := [
  -- CAL_CH_TARGET (R469)
  ⟨0x71004, [(73, 0x20)], 0xffffffff, 0x0, 0x0, 0x0, 0x0, false, 0x0⟩,
  -- CAL_CH_MEASURED (R469)
  ⟨0x71008, [(73, 0x20)], 0xffffffff, 0x0, 0x0, 0x0, 0x0, false, 0x0⟩,
  -- CAL_CH_FACTORY (R469)
  ⟨0x7100c, [(73, 0x20)], 0xffffffff, 0x0, 0x0, 0x0, 0x0, false, 0x0⟩,
  -- CAL_CH_STATUS (R469)
  ⟨0x71010, [(73, 0x20)], 0xffff007f, 0x0, 0x0, 0x0, 0x0, false, 0x40000⟩]

/-- Registers of the CAL block. -/
def calRows : List RegRow := calRows0 ++ calRows1

/-- Registers of the MEM block. -/
def memRows0 : List RegRow := [
  -- MEM_STATUS (R437)
  ⟨0x100000, [], 0xe000ffff, 0x0, 0x0, 0x0, 0x0, false, 0x20000000⟩,
  -- MEM_REF_RATE (R437)
  ⟨0x100004, [], 0xffffffff, 0x0, 0x0, 0x0, 0x0, false, 0x55555555⟩,
  -- MEM_CTRL (R437)
  ⟨0x100008, [], 0xffff, 0x0, 0xffff, 0x0, 0x0, false, 0x280a⟩,
  -- MEM_ECC_LAST_LO (R437)
  ⟨0x100010, [], 0xffffffff, 0x0, 0x0, 0x0, 0x0, false, 0x0⟩,
  -- MEM_ECC_LAST_HI (R437)
  ⟨0x100014, [], 0xfc000003, 0x0, 0x0, 0x0, 0x0, false, 0x0⟩,
  -- MEM_DEBT_MAX (R437)
  ⟨0x100018, [], 0xf, 0x0, 0x0, 0xf, 0x0, false, 0x0⟩,
  -- MEM_CE_TALLY (R437)
  ⟨0x100020, [], 0xffffffff, 0x0, 0x0, 0x0, 0x0, true, 0x0⟩,
  -- MEM_UE_TALLY (R437)
  ⟨0x100024, [], 0xffffffff, 0x0, 0x0, 0x0, 0x0, true, 0x0⟩,
  -- MEM_FORCED_TALLY (R437)
  ⟨0x100028, [], 0xffffffff, 0x0, 0x0, 0x0, 0x0, true, 0x0⟩,
  -- MEM_TRN_FAIL_TALLY (R437)
  ⟨0x10002c, [], 0xffffffff, 0x0, 0x0, 0x0, 0x0, true, 0x0⟩,
  -- MEM_STEP_TALLY (R437)
  ⟨0x100030, [], 0xffffffff, 0x0, 0x0, 0x0, 0x0, true, 0x0⟩,
  -- MEM_DRAM_TALLY_SAT (R437)
  ⟨0x100034, [], 0x1f, 0x0, 0x0, 0x0, 0x0, false, 0x0⟩]

/-- Registers of the MEM block. -/
def memRows1 : List RegRow := [
  -- MEM_EYE_c (R437)
  ⟨0x100100, [(16, 0x4)], 0xffffffff, 0x0, 0x0, 0x0, 0x0, false, 0x0⟩,
  -- MEM_TRN_c (R437)
  ⟨0x100140, [(16, 0x4)], 0xc000ffff, 0x0, 0x0, 0x0, 0x0, false, 0x0⟩,
  -- MEM_MAP_INFO (R170)
  ⟨0x1f0000, [], 0xffffffff, 0x0, 0x0, 0x0, 0x0, false, 0x0⟩,
  -- MEM_BAR2_BASE (R170)
  ⟨0x1f0004, [], 0x3f, 0x3f, 0x0, 0x0, 0x0, false, 0x0⟩,
  -- MEM_FENCE_CTRL (R170)
  ⟨0x1f0008, [], 0x1, 0x1, 0x0, 0x0, 0x0, false, 0x0⟩,
  -- MEM_FENCE_STATUS (R170)
  ⟨0x1f000c, [], 0xffff, 0x0, 0x0, 0x0, 0x0, false, 0x100⟩,
  -- MEM_FENCE_TALLY (R170)
  ⟨0x1f0010, [], 0xffffffff, 0x0, 0x0, 0x0, 0x0, true, 0x0⟩,
  -- MEM_OUTSIDE_TALLY (R170)
  ⟨0x1f0014, [], 0xffffffff, 0x0, 0x0, 0x0, 0x0, true, 0x0⟩,
  -- MEM_KTC_ERR_TALLY (R170)
  ⟨0x1f0018, [], 0xffffffff, 0x0, 0x0, 0x0, 0x0, true, 0x0⟩,
  -- MEM_RETIRE_TALLY (R170)
  ⟨0x1f001c, [], 0xffffffff, 0x0, 0x0, 0x0, 0x0, true, 0x0⟩,
  -- MEM_TALLY_SAT (R170)
  ⟨0x1f0020, [], 0xf, 0x0, 0x0, 0x0, 0x0, false, 0x0⟩]

/-- Registers of the MEM block. -/
def memRows : List RegRow := memRows0 ++ memRows1

/-- Registers of the CMP block. -/
def cmpRows0 : List RegRow := [
  -- CMP_STATUS (R202)
  ⟨0x200000, [], 0xffffffff, 0x0, 0x0, 0x0, 0x0, false, 0x0⟩,
  -- CMP_PASS (R202)
  ⟨0x200004, [], 0xc0000fff, 0x0, 0x0, 0x0, 0x0, false, 0x0⟩,
  -- CMP_COMMIT_SEQ (R202)
  ⟨0x200008, [], 0xffffffff, 0x0, 0x0, 0x0, 0x0, false, 0x0⟩,
  -- CMP_TAKEN_SEQ (R202)
  ⟨0x20000c, [], 0xffffffff, 0x0, 0x0, 0x0, 0x0, false, 0x0⟩,
  -- CMP_COMMIT_STATUS (R202)
  ⟨0x200010, [], 0xffffffff, 0x0, 0x0, 0x0, 0x0, false, 0x0⟩,
  -- CMP_COMMIT_STATUS_HI (R202)
  ⟨0x200014, [], 0xffff, 0x0, 0x0, 0x0, 0x0, false, 0x0⟩,
  -- CMP_LATE (R202)
  ⟨0x200018, [], 0xffffffff, 0x0, 0x0, 0x0, 0x0, false, 0x0⟩,
  -- CMP_WM (R202)
  ⟨0x20001c, [], 0x3f3f, 0x3f3f, 0x0, 0x0, 0x0, false, 0x2010⟩,
  -- CMP_FETCH_LAST (R202)
  ⟨0x200020, [], 0xffffffff, 0x0, 0x0, 0x0, 0x0, false, 0x0⟩,
  -- CMP_REJECT_INFO (R202)
  ⟨0x200024, [], 0xffffff, 0x0, 0x0, 0x0, 0x0, false, 0xff00⟩,
  -- CMP_DRY_TALLY (R202)
  ⟨0x200028, [], 0xffffffff, 0x0, 0x0, 0x0, 0x0, true, 0x0⟩,
  -- CMP_RESTART_TALLY (R202)
  ⟨0x20002c, [], 0xffffffff, 0x0, 0x0, 0x0, 0x0, true, 0x0⟩]

/-- Registers of the CMP block. -/
def cmpRows1 : List RegRow := [
  -- CMP_ABANDON_TALLY (R202)
  ⟨0x200030, [], 0xffffffff, 0x0, 0x0, 0x0, 0x0, true, 0x0⟩,
  -- CMP_LATE_TALLY (R202)
  ⟨0x200034, [], 0xffffffff, 0x0, 0x0, 0x0, 0x0, true, 0x0⟩,
  -- CMP_URGENT_TALLY (R202)
  ⟨0x200038, [], 0xffffffff, 0x0, 0x0, 0x0, 0x0, true, 0x0⟩,
  -- CMP_TALLY_SAT (R202)
  ⟨0x20003c, [], 0x1f, 0x0, 0x0, 0x0, 0x0, false, 0x0⟩]

/-- Registers of the CMP block. -/
def cmpRows : List RegRow := cmpRows0 ++ cmpRows1

/-- Registers of the CLR block. -/
def clrRows0 : List RegRow := [
  -- CLR_STATUS (R235)
  ⟨0x300000, [], 0x11ff3, 0x0, 0x0, 0x0, 0x0, false, 0x0⟩,
  -- CLR_PQ_PEAK (R235)
  ⟨0x300004, [], 0xffff, 0xffff, 0x0, 0x0, 0x0, false, 0x3e8⟩,
  -- CLR_WB_GAIN_b (R235)
  ⟨0x300010, [(12, 0x4)], 0xffffffff, 0xffffffff, 0x0, 0x0, 0x0, false, 0x40000000⟩,
  -- CLR_GAIN_PRIMARY_c (R235)
  ⟨0x300040, [(3, 0x4)], 0xffffffff, 0x0, 0x0, 0x0, 0x0, false, 0x40000000⟩,
  -- CLR_RATIO_STATUS (R235)
  ⟨0x300050, [], 0xfffffff, 0x0, 0x0, 0x0, 0x0, false, 0x0⟩,
  -- CLR_OUT_OF_TOL (R235)
  ⟨0x300054, [], 0xfff, 0x0, 0x0, 0x0, 0x0, false, 0x0⟩,
  -- CLR_CLIP_TALLY (R235)
  ⟨0x300058, [], 0xffffffff, 0x0, 0x0, 0x0, 0x0, true, 0x0⟩,
  -- CLR_RATIO_TALLY (R235)
  ⟨0x30005c, [], 0xffffffff, 0x0, 0x0, 0x0, 0x0, true, 0x0⟩,
  -- CLR_TALLY_SAT (R235)
  ⟨0x300060, [], 0x3, 0x0, 0x0, 0x0, 0x0, false, 0x0⟩]

/-- Registers of the CLR block. -/
def clrRows : List RegRow := clrRows0

/-- Registers of the PBU block. -/
def pbuRows0 : List RegRow := [
  -- PBU_STATUS (R260)
  ⟨0x380000, [], 0x1f1f1f03, 0x0, 0x0, 0x0, 0x0, false, 0x0⟩,
  -- PBU_FENCED (R260)
  ⟨0x380004, [], 0xffffff, 0x0, 0x0, 0x0, 0x0, false, 0x0⟩,
  -- PBU_SPARE (R260)
  ⟨0x380008, [], 0xffffff, 0x0, 0x0, 0x0, 0x0, false, 0x0⟩,
  -- PBU_SET (R260)
  ⟨0x380020, [], 0x3f, 0x0, 0x0, 0x0, 0x0, false, 0x0⟩,
  -- PBU_BUILD_BOUND (R260)
  ⟨0x380024, [], 0xffffffff, 0x0, 0x0, 0x0, 0x0, false, 0x0⟩,
  -- PBU_BUILD_LAST (R260)
  ⟨0x380028, [], 0xffffffff, 0x0, 0x0, 0x0, 0x0, false, 0x0⟩,
  -- PBU_CACHE_STATUS (R260)
  ⟨0x38002c, [], 0x3ff003f, 0x0, 0x0, 0x0, 0x0, false, 0x0⟩,
  -- PBU_RESIDUE_TALLY (R260)
  ⟨0x380030, [], 0xffffffff, 0x0, 0x0, 0x0, 0x0, true, 0x0⟩,
  -- PBU_REISSUE_TALLY (R260)
  ⟨0x380034, [], 0xffffffff, 0x0, 0x0, 0x0, 0x0, true, 0x0⟩,
  -- PBU_CACHE_CE_TALLY (R260)
  ⟨0x380038, [], 0xffffffff, 0x0, 0x0, 0x0, 0x0, true, 0x0⟩,
  -- PBU_CACHE_UE_TALLY (R260)
  ⟨0x38003c, [], 0xffffffff, 0x0, 0x0, 0x0, 0x0, true, 0x0⟩,
  -- PBU_TALLY_SAT (R260)
  ⟨0x380040, [], 0xf, 0x0, 0x0, 0x0, 0x0, false, 0x0⟩]

/-- Registers of the PBU block. -/
def pbuRows1 : List RegRow := [
  -- PBU_SLOT_MAP_n (R260)
  ⟨0x380050, [(6, 0x4)], 0xffffffff, 0x0, 0x0, 0x0, 0x0, false, 0xffffffff⟩]

/-- Registers of the PBU block. -/
def pbuRows : List RegRow := pbuRows0 ++ pbuRows1

/-- Registers of the RCK block. -/
def rckRows0 : List RegRow := [
  -- RCK_STATUS (R287)
  ⟨0x400000, [], 0xfcff0000, 0x0, 0x0, 0x0, 0x0, false, 0xc0f0000⟩,
  -- RCK_SEG_STATUS (R287)
  ⟨0x400004, [], 0xfef00000, 0x0, 0x0, 0x0, 0x0, false, 0x0⟩,
  -- RCK_SEG_TIME (R287)
  ⟨0x400008, [], 0xffffffff, 0x0, 0x0, 0x0, 0x0, false, 0x0⟩,
  -- RCK_TMIN (R287)
  ⟨0x40000c, [], 0xffffffff, 0x0, 0x0, 0x0, 0x0, false, 0x0⟩,
  -- RCK_DELTA (R287)
  ⟨0x400010, [], 0xffffffff, 0x0, 0x0, 0x0, 0x0, false, 0x0⟩,
  -- RCK_BEADS (R287)
  ⟨0x400014, [], 0x3ffff, 0x0, 0x0, 0x0, 0x0, false, 0x0⟩,
  -- RCK_RODS_LO (R287)
  ⟨0x400018, [], 0xffffffff, 0x0, 0x0, 0x0, 0x0, false, 0x0⟩,
  -- RCK_RODS_HI (R287)
  ⟨0x40001c, [], 0xffffffff, 0x0, 0x0, 0x0, 0x0, false, 0x0⟩,
  -- RCK_LEAD (R287)
  ⟨0x400020, [], 0xffffff, 0x0, 0x0, 0x0, 0x0, false, 0x503000⟩,
  -- RCK_END_TALLY_k (R287)
  ⟨0x400040, [(16, 0x4)], 0xffffffff, 0x0, 0x0, 0x0, 0x0, true, 0x0⟩,
  -- RCK_REPEAT_TALLY (R287)
  ⟨0x400080, [], 0xffffffff, 0x0, 0x0, 0x0, 0x0, true, 0x0⟩,
  -- RCK_DISCARD_TALLY (R287)
  ⟨0x400084, [], 0xffffffff, 0x0, 0x0, 0x0, 0x0, true, 0x0⟩]

/-- Registers of the RCK block. -/
def rckRows1 : List RegRow := [
  -- RCK_LATE_TALLY (R287)
  ⟨0x400088, [], 0xffffffff, 0x0, 0x0, 0x0, 0x0, true, 0x0⟩,
  -- RCK_TALLY_SAT (R287)
  ⟨0x40008c, [], 0x7ffff, 0x0, 0x0, 0x0, 0x0, false, 0x0⟩]

/-- Registers of the RCK block. -/
def rckRows : List RegRow := rckRows0 ++ rckRows1

/-- Registers of the PLK block. -/
def plkRows0 : List RegRow := [
  -- PLK_STATE (R316)
  ⟨0x800000, [(6, 0x10000)], 0xff00ff1f, 0x0, 0x0, 0x0, 0x0, false, 0x0⟩,
  -- PLK_CTRL (R316)
  ⟨0x800004, [(6, 0x10000)], 0xff01, 0xff01, 0x0, 0x0, 0x0, false, 0x100⟩,
  -- PLK_LANES (R316)
  ⟨0x800008, [(6, 0x10000)], 0xffffffff, 0x0, 0x0, 0x0, 0x0, false, 0x0⟩,
  -- PLK_LANE_LOST (R316)
  ⟨0x80000c, [(6, 0x10000)], 0xffff, 0x0, 0x0, 0xffff, 0x0, false, 0x0⟩,
  -- PLK_ARRAY_ID (R316)
  ⟨0x800010, [(6, 0x10000)], 0xffffffff, 0x0, 0x0, 0x0, 0x0, false, 0x0⟩,
  -- PLK_ARRAY_SERIAL (R316)
  ⟨0x800014, [(6, 0x10000)], 0xffffffff, 0x0, 0x0, 0x0, 0x0, false, 0x0⟩,
  -- PLK_ARRAY_GEOM (R316)
  ⟨0x800018, [(6, 0x10000)], 0xffffffff, 0x0, 0x0, 0x0, 0x0, false, 0x0⟩,
  -- PLK_ARRAY_TIMING (R316)
  ⟨0x80001c, [(6, 0x10000)], 0xffffffff, 0x0, 0x0, 0x0, 0x0, false, 0x0⟩,
  -- PLK_ARRAY_STATUS (R316)
  ⟨0x800020, [(6, 0x10000)], 0xffff0000, 0x0, 0x0, 0x0, 0x0, false, 0x0⟩,
  -- PLK_PARK_LAST (R316)
  ⟨0x800024, [(6, 0x10000)], 0xffffffff, 0x0, 0x0, 0x0, 0x0, false, 0x0⟩,
  -- PLK_LOAD_TALLY (R316)
  ⟨0x800030, [(6, 0x10000)], 0xffffffff, 0x0, 0x0, 0x0, 0x0, true, 0x0⟩,
  -- PLK_RESET_TALLY (R316)
  ⟨0x800034, [(6, 0x10000)], 0xffffffff, 0x0, 0x0, 0x0, 0x0, true, 0x0⟩]

/-- Registers of the PLK block. -/
def plkRows1 : List RegRow := [
  -- PLK_ROW_ERR_TALLY (R316)
  ⟨0x800038, [(6, 0x10000)], 0xffffffff, 0x0, 0x0, 0x0, 0x0, true, 0x0⟩,
  -- PLK_FRAME_ERR_TALLY (R316)
  ⟨0x80003c, [(6, 0x10000)], 0xffffffff, 0x0, 0x0, 0x0, 0x0, true, 0x0⟩,
  -- PLK_ABORT_TALLY (R316)
  ⟨0x800040, [(6, 0x10000)], 0xffffffff, 0x0, 0x0, 0x0, 0x0, true, 0x0⟩,
  -- PLK_RETRAIN_TALLY (R316)
  ⟨0x800044, [(6, 0x10000)], 0xffffffff, 0x0, 0x0, 0x0, 0x0, true, 0x0⟩,
  -- PLK_TALLY_SAT (R316)
  ⟨0x800048, [(6, 0x10000)], 0x3f, 0x0, 0x0, 0x0, 0x0, false, 0x0⟩]

/-- Registers of the PLK block. -/
def plkRows : List RegRow := plkRows0 ++ plkRows1

/-- Registers of the LSD block. -/
def lsdRows0 : List RegRow := [
  -- LSD_STATUS (R343)
  ⟨0xa00000, [], 0xfcffffff, 0x0, 0x0, 0x0, 0x0, false, 0x40000fff⟩,
  -- LSD_CTRL (R343)
  ⟨0xa00004, [], 0x1, 0x1, 0x0, 0x0, 0x0, false, 0x0⟩,
  -- LSD_SAFE_INFO (R343)
  ⟨0xa00008, [], 0xff01, 0x0, 0x0, 0x0, 0x0, false, 0x0⟩,
  -- LSD_DERATE_c (R343)
  ⟨0xa00010, [(3, 0x4)], 0xcf01ffff, 0x0, 0x0, 0x0, 0x0, false, 0x10000⟩,
  -- LSD_SCALE_c (R343)
  ⟨0xa00020, [(3, 0x4)], 0x1ffff, 0x0, 0x0, 0x0, 0x0, false, 0x0⟩,
  -- LSD_BANK_STATE (R343)
  ⟨0xa00100, [(12, 0x40)], 0xf8ff3fff, 0x0, 0x0, 0x0, 0x0, false, 0x3ffc⟩,
  -- LSD_BANK_CODE (R343)
  ⟨0xa00104, [(12, 0x40)], 0xffffffff, 0x0, 0x0, 0x0, 0x0, false, 0x0⟩,
  -- LSD_NOM_TARGET (R343)
  ⟨0xa00108, [(12, 0x40)], 0xffff, 0x0, 0xffff, 0x0, 0x0, false, 0x0⟩,
  -- LSD_TARGET_EFF (R343)
  ⟨0xa0010c, [(12, 0x40)], 0xffff, 0x0, 0x0, 0x0, 0x0, false, 0x0⟩,
  -- LSD_THRESH (R343)
  ⟨0xa00110, [(12, 0x40)], 0xffff, 0xffff, 0x0, 0x0, 0x0, false, 0x0⟩,
  -- LSD_BANK_LINK (R343)
  ⟨0xa00114, [(12, 0x40)], 0xff00f3e7, 0x0, 0x0, 0x0, 0x0, false, 0x0⟩,
  -- LSD_OPEN_TALLY (R343)
  ⟨0xa00120, [(12, 0x40)], 0xffffffff, 0x0, 0x0, 0x0, 0x0, true, 0x0⟩]

/-- Registers of the LSD block. -/
def lsdRows1 : List RegRow := [
  -- LSD_LINK_ERR_TALLY (R343)
  ⟨0xa00124, [(12, 0x40)], 0xffffffff, 0x0, 0x0, 0x0, 0x0, true, 0x0⟩,
  -- LSD_CLAMP_TALLY (R343)
  ⟨0xa00128, [(12, 0x40)], 0xffffffff, 0x0, 0x0, 0x0, 0x0, true, 0x0⟩,
  -- LSD_BANK_TALLY_SAT (R343)
  ⟨0xa0012c, [(12, 0x40)], 0x7, 0x0, 0x0, 0x0, 0x0, false, 0x0⟩]

/-- Registers of the LSD block. -/
def lsdRows : List RegRow := lsdRows0 ++ lsdRows1

/-- Registers of the LPE block. -/
def lpeRows0 : List RegRow := [
  -- LPE_STATUS (R366)
  ⟨0xb00000, [], 0x80ffffff, 0x0, 0x0, 0x0, 0x0, false, 0x0⟩,
  -- LPE_WINDOW (R366)
  ⟨0xb00004, [], 0xffffff, 0x0, 0x0, 0x0, 0x0, false, 0x0⟩,
  -- LPE_SAT (R366)
  ⟨0xb00008, [], 0xffffff, 0x0, 0x0, 0x0, 0x0, false, 0x0⟩,
  -- LPE_OSC_ON (R366)
  ⟨0xb0000c, [], 0xffffff, 0x0, 0x0, 0x0, 0x0, false, 0x0⟩,
  -- LPE_SLOT_STATUS (R366)
  ⟨0xb00100, [(24, 0x40)], 0xffe0ffff, 0x0, 0x0, 0x0, 0x0, false, 0x0⟩,
  -- LPE_SLOT_OUT (R366)
  ⟨0xb00104, [(24, 0x40)], 0xffffffff, 0x0, 0x0, 0x0, 0x0, false, 0x0⟩,
  -- LPE_SLOT_TARGET (R366)
  ⟨0xb00108, [(24, 0x40)], 0xffffffff, 0x0, 0x0, 0x0, 0x0, false, 0x0⟩,
  -- LPE_SLOT_SETPOINT (R366)
  ⟨0xb0010c, [(24, 0x40)], 0xffffffff, 0x0, 0x0, 0x0, 0x0, false, 0x0⟩,
  -- LPE_SLOT_FB (R366)
  ⟨0xb00110, [(24, 0x40)], 0xffffffff, 0x0, 0x0, 0x0, 0x0, false, 0x0⟩,
  -- LPE_SLOT_MODEL (R366)
  ⟨0xb00114, [(24, 0x40)], 0xffffffff, 0x0, 0x0, 0x0, 0x0, false, 0x0⟩,
  -- LPE_SLOT_OUT_MIN (R366)
  ⟨0xb00118, [(24, 0x40)], 0xffffffff, 0x0, 0x0, 0x0, 0x0, false, 0x0⟩,
  -- LPE_SLOT_OUT_MAX (R366)
  ⟨0xb0011c, [(24, 0x40)], 0xffffffff, 0x0, 0x0, 0x0, 0x0, false, 0x0⟩]

/-- Registers of the LPE block. -/
def lpeRows1 : List RegRow := [
  -- LPE_SLOT_SLEW (R366)
  ⟨0xb00120, [(24, 0x40)], 0xffffffff, 0xffffffff, 0x0, 0x0, 0x0, false, 0x0⟩,
  -- LPE_SAT_TALLY (R366)
  ⟨0xb00124, [(24, 0x40)], 0xffffffff, 0x0, 0x0, 0x0, 0x0, true, 0x0⟩,
  -- LPE_SLEW_TALLY (R366)
  ⟨0xb00128, [(24, 0x40)], 0xffffffff, 0x0, 0x0, 0x0, 0x0, true, 0x0⟩,
  -- LPE_UPDATE_TALLY (R366)
  ⟨0xb0012c, [(24, 0x40)], 0xffffffff, 0x0, 0x0, 0x0, 0x0, true, 0x0⟩,
  -- LPE_RESID_TALLY (R366)
  ⟨0xb00130, [(24, 0x40)], 0xffffffff, 0x0, 0x0, 0x0, 0x0, true, 0x0⟩,
  -- LPE_OSC_TALLY (R366)
  ⟨0xb00134, [(24, 0x40)], 0xffffffff, 0x0, 0x0, 0x0, 0x0, true, 0x0⟩,
  -- LPE_SLOT_TALLY_SAT (R366)
  ⟨0xb00138, [(24, 0x40)], 0x1f, 0x0, 0x0, 0x0, 0x0, false, 0x0⟩]

/-- Registers of the LPE block. -/
def lpeRows : List RegRow := lpeRows0 ++ lpeRows1

/-- Registers of the HLS block. -/
def hlsRows0 : List RegRow := [
  -- HLS_STATUS (R386)
  ⟨0xc00000, [], 0xffff0fff, 0x0, 0x0, 0x0, 0x0, false, 0x0⟩,
  -- HLS_FREQ (R386)
  ⟨0xc00004, [], 0xffffffff, 0x0, 0x0, 0x0, 0x0, false, 0x0⟩,
  -- HLS_FAST_CTRL (R386)
  ⟨0xc00008, [], 0xffffffff, 0xffffffff, 0x0, 0x0, 0x0, false, 0x40000000⟩,
  -- HLS_FREQ_START (R386)
  ⟨0xc0000c, [], 0xffffffff, 0xffffffff, 0x0, 0x0, 0x0, false, 0x16e3600⟩,
  -- HLS_SENSE (R386)
  ⟨0xc00010, [], 0xffffff00, 0xffffff00, 0x0, 0x0, 0x0, false, 0xa00⟩,
  -- HLS_LOCK (R386)
  ⟨0xc00014, [], 0xffffffff, 0xffffffff, 0x0, 0x0, 0x0, false, 0x10001f4⟩,
  -- HLS_SLOW_TOL (R386)
  ⟨0xc00018, [], 0xffff, 0xffff, 0x0, 0x0, 0x0, false, 0x40⟩,
  -- HLS_SLOW_LIMIT (R386)
  ⟨0xc0001c, [], 0xffffffff, 0xffffffff, 0x0, 0x0, 0x0, false, 0xffff0000⟩,
  -- HLS_PARK (R386)
  ⟨0xc00020, [], 0xffffffff, 0xffffffff, 0x0, 0x0, 0x0, false, 0x80008000⟩,
  -- HLS_DAC_c (R386)
  ⟨0xc00030, [(3, 0x4)], 0xfff0fff, 0xfff0fff, 0x0, 0x0, 0x0, false, 0xfff0000⟩,
  -- HLS_PASS_NS (R386)
  ⟨0xc00040, [], 0xffffffff, 0x0, 0x0, 0x0, 0x0, false, 0x0⟩,
  -- HLS_LINE_TALLY (R386)
  ⟨0xc00050, [], 0xffffffff, 0x0, 0x0, 0x0, 0x0, true, 0x0⟩]

/-- Registers of the HLS block. -/
def hlsRows1 : List RegRow := [
  -- HLS_DARKLINE_TALLY (R386)
  ⟨0xc00054, [], 0xffffffff, 0x0, 0x0, 0x0, 0x0, true, 0x0⟩,
  -- HLS_SKIP_TALLY (R386)
  ⟨0xc00058, [], 0xffffffff, 0x0, 0x0, 0x0, 0x0, true, 0x0⟩,
  -- HLS_PASS_ABORT_TALLY (R386)
  ⟨0xc0005c, [], 0xffffffff, 0x0, 0x0, 0x0, 0x0, true, 0x0⟩,
  -- HLS_UNLOCK_TALLY (R386)
  ⟨0xc00060, [], 0xffffffff, 0x0, 0x0, 0x0, 0x0, true, 0x0⟩,
  -- HLS_TALLY_SAT (R386)
  ⟨0xc00064, [], 0x1f, 0x0, 0x0, 0x0, 0x0, false, 0x0⟩]

/-- Registers of the HLS block. -/
def hlsRows : List RegRow := hlsRows0 ++ hlsRows1

/-- Registers of the FTG block. -/
def ftgRows0 : List RegRow := [
  -- FTG_STATUS_f (R412)
  ⟨0xd00000, [(2, 0x100)], 0xefffffff, 0x0, 0x0, 0x0, 0x0, false, 0x0⟩,
  -- FTG_FRAME_LO_f (R412)
  ⟨0xd00004, [(2, 0x100)], 0xffffffff, 0x0, 0x0, 0x0, 0x0, false, 0x0⟩,
  -- FTG_FRAME_HI_f (R412)
  ⟨0xd00008, [(2, 0x100)], 0xffffffff, 0x0, 0x0, 0x0, 0x0, false, 0x0⟩,
  -- FTG_SOF_LO_f (R412)
  ⟨0xd0000c, [(2, 0x100)], 0xffffffff, 0x0, 0x0, 0x0, 0x0, false, 0x0⟩,
  -- FTG_SOF_HI_f (R412)
  ⟨0xd00010, [(2, 0x100)], 0xffffffff, 0x0, 0x0, 0x0, 0x0, false, 0x0⟩,
  -- FTG_LAST_LEN_f (R412)
  ⟨0xd00014, [(2, 0x100)], 0xffffffff, 0x0, 0x0, 0x0, 0x0, false, 0x0⟩,
  -- FTG_LINE_MATCH_f (R412)
  ⟨0xd00018, [(2, 0x100)], 0xffffff, 0xffffff, 0x0, 0x0, 0x0, false, 0x0⟩,
  -- FTG_EVT_EN_f (R412)
  ⟨0xd0001c, [(2, 0x100)], 0x7, 0x7, 0x0, 0x0, 0x0, false, 0x1⟩,
  -- FTG_GEOM (R412)
  ⟨0xd00020, [], 0xffffffff, 0x0, 0x0, 0x0, 0x0, false, 0x0⟩,
  -- FTG_LATCH (R412)
  ⟨0xd00024, [], 0xffffffff, 0x0, 0x0, 0x0, 0x0, false, 0x0⟩,
  -- FTG_LINE_PERIOD (R412)
  ⟨0xd00028, [], 0xffffffff, 0x0, 0x0, 0x0, 0x0, false, 0x0⟩,
  -- FTG_OFFSET (R412)
  ⟨0xd00120, [], 0xffffffff, 0x0, 0x0, 0x0, 0x0, false, 0x0⟩]

/-- Registers of the FTG block. -/
def ftgRows1 : List RegRow := [
  -- FTG_SYNC_CTRL (R412)
  ⟨0xd00200, [], 0x3, 0x0, 0x3, 0x0, 0x0, false, 0x0⟩,
  -- FTG_SYNC_TIMING (R412)
  ⟨0xd00204, [], 0xffffffff, 0x0, 0xffffffff, 0x0, 0x0, false, 0x9c40000⟩,
  -- FTG_SYNC_HOLD (R412)
  ⟨0xd00208, [], 0xffff, 0x0, 0xffff, 0x0, 0x0, false, 0x800⟩,
  -- FTG_SYNC_STATUS (R412)
  ⟨0xd0020c, [], 0xdfffffff, 0x0, 0x0, 0x0, 0x0, false, 0x0⟩,
  -- FTG_SYNC_DRIFT (R412)
  ⟨0xd00210, [], 0xffff, 0x0, 0x0, 0x0, 0x0, false, 0x0⟩,
  -- FTG_GROUP_g (R412)
  ⟨0xd00300, [(4, 0x4)], 0xc0000fff, 0x0, 0x0, 0x0, 0x0, false, 0x0⟩,
  -- FTG_UNDERRUN_TALLY_s (R412)
  ⟨0xd00340, [(12, 0x4)], 0xffffffff, 0x0, 0x0, 0x0, 0x0, true, 0x0⟩,
  -- FTG_SYNC_SYMERR_TALLY (R412)
  ⟨0xd00370, [], 0xffffffff, 0x0, 0x0, 0x0, 0x0, true, 0x0⟩,
  -- FTG_SYNC_MISS_TALLY (R412)
  ⟨0xd00374, [], 0xffffffff, 0x0, 0x0, 0x0, 0x0, true, 0x0⟩,
  -- FTG_SYNC_LOSS_TALLY (R412)
  ⟨0xd00378, [], 0xffffffff, 0x0, 0x0, 0x0, 0x0, true, 0x0⟩,
  -- FTG_TALLY_SAT (R412)
  ⟨0xd00380, [], 0x7fff, 0x0, 0x0, 0x0, 0x0, false, 0x0⟩]

/-- Registers of the FTG block. -/
def ftgRows : List RegRow := ftgRows0 ++ ftgRows1

/-- Registers of the VER block. -/
def verRows0 : List RegRow := [
  -- VER_STATUS (R413)
  ⟨0xd80000, [], 0x7f7f01, 0x0, 0x0, 0x0, 0x0, false, 0x0⟩,
  -- VER_STALE (R413)
  ⟨0xd80004, [], 0xffff, 0xffff, 0x0, 0x0, 0x0, false, 0x0⟩,
  -- VER_MISMATCH_TALLY (R413)
  ⟨0xd80010, [], 0xffffffff, 0x0, 0x0, 0x0, 0x0, true, 0x0⟩,
  -- VER_FREEZE_TALLY (R413)
  ⟨0xd80014, [], 0xffffffff, 0x0, 0x0, 0x0, 0x0, true, 0x0⟩,
  -- VER_STALE_TALLY (R413)
  ⟨0xd80018, [], 0xffffffff, 0x0, 0x0, 0x0, 0x0, true, 0x0⟩,
  -- VER_WITHHELD_TALLY (R413)
  ⟨0xd8001c, [], 0xffffffff, 0x0, 0x0, 0x0, 0x0, true, 0x0⟩,
  -- VER_TALLY_SAT (R413)
  ⟨0xd80020, [], 0xf, 0x0, 0x0, 0x0, 0x0, false, 0x0⟩,
  -- VER_REG_CTRL (R413)
  ⟨0xd81000, [(7, 0x200), (16, 0x20)], 0xffff0007, 0xffff0007, 0x0, 0x0, 0x0, false, 0x0⟩,
  -- VER_REG_ORIGIN (R413)
  ⟨0xd81004, [(7, 0x200), (16, 0x20)], 0xffffffff, 0xffffffff, 0x0, 0x0, 0x0, false, 0x0⟩,
  -- VER_REG_SIZE (R413)
  ⟨0xd81008, [(7, 0x200), (16, 0x20)], 0xffffffff, 0xffffffff, 0x0, 0x0, 0x0, false, 0x0⟩,
  -- VER_REG_EXPECT (R413)
  ⟨0xd8100c, [(7, 0x200), (16, 0x20)], 0xffffffff, 0xffffffff, 0x0, 0x0, 0x0, false, 0x0⟩,
  -- VER_REG_LAST (R413)
  ⟨0xd81010, [(7, 0x200), (16, 0x20)], 0xffffffff, 0x0, 0x0, 0x0, 0x0, false, 0x0⟩]

/-- Registers of the VER block. -/
def verRows1 : List RegRow := [
  -- VER_REG_FREEZE (R413)
  ⟨0xd81014, [(7, 0x200), (16, 0x20)], 0xffff, 0x0, 0x0, 0x0, 0x0, false, 0x0⟩,
  -- VER_REG_PASS (R413)
  ⟨0xd81018, [(7, 0x200), (16, 0x20)], 0xffffffff, 0x0, 0x0, 0x0, 0x0, false, 0x0⟩]

/-- Registers of the VER block. -/
def verRows : List RegRow := verRows0 ++ verRows1

/-- Registers of the AUD block. -/
def audRows0 : List RegRow := [
  -- AUD_STATUS (R452)
  ⟨0xe00000, [(5, 0x100)], 0xf80000ff, 0x0, 0x0, 0x0, 0x0, false, 0x0⟩,
  -- AUD_CH_MASK (R452)
  ⟨0xe00004, [(5, 0x100)], 0x3, 0x3, 0x0, 0x0, 0x0, false, 0x3⟩,
  -- AUD_CFG (R452)
  ⟨0xe00008, [(5, 0x100)], 0xff83ffff, 0x0, 0x0, 0x0, 0x0, false, 0x0⟩,
  -- AUD_RING_LO (R452)
  ⟨0xe0000c, [(5, 0x100)], 0xffffffff, 0xffffffff, 0x0, 0x0, 0x0, false, 0x0⟩,
  -- AUD_RING_HI (R452)
  ⟨0xe00010, [(5, 0x100)], 0x3, 0x3, 0x0, 0x0, 0x0, false, 0x0⟩,
  -- AUD_WR (R452)
  ⟨0xe00014, [(5, 0x100)], 0xffffffff, 0x0, 0x0, 0x0, 0x0, false, 0x0⟩,
  -- AUD_RD (R452)
  ⟨0xe00018, [(5, 0x100)], 0xffffffff, 0x0, 0x0, 0x0, 0x0, false, 0x0⟩,
  -- AUD_LOST (R452)
  ⟨0xe0001c, [(5, 0x100)], 0xffffffff, 0x0, 0x0, 0x0, 0x0, false, 0x0⟩,
  -- AUD_UNDERRUN_TALLY (R452)
  ⟨0xe00020, [(5, 0x100)], 0xffffffff, 0x0, 0x0, 0x0, 0x0, true, 0x0⟩,
  -- AUD_OVERRUN_TALLY (R452)
  ⟨0xe00024, [(5, 0x100)], 0xffffffff, 0x0, 0x0, 0x0, 0x0, true, 0x0⟩,
  -- AUD_HOLD_TALLY (R452)
  ⟨0xe00028, [(5, 0x100)], 0xffffffff, 0x0, 0x0, 0x0, 0x0, true, 0x0⟩,
  -- AUD_TALLY_SAT (R452)
  ⟨0xe0002c, [(5, 0x100)], 0x7, 0x0, 0x0, 0x0, 0x0, false, 0x0⟩]

/-- Registers of the AUD block. -/
def audRows : List RegRow := audRows0

/-- The blocks of BAR0 (R102). -/
inductive Block where
  | glb
  | hmi
  | img
  | flt
  | pwr
  | thm
  | cal
  | mem
  | cmp
  | clr
  | pbu
  | rck
  | plk
  | lsd
  | lpe
  | hls
  | ftg
  | ver
  | aud
  | beadStore | lut | bootWindow | unmapped
deriving DecidableEq, Repr

/-- The block that owns a BAR0 offset (R102). -/
def blockOf (off : Nat) : Block :=
  if 0x0 ≤ off ∧ off < 0x10000 then .glb else
  if 0x10000 ≤ off ∧ off < 0x20000 then .hmi else
  if 0x20000 ≤ off ∧ off < 0x40000 then .img else
  if 0x40000 ≤ off ∧ off < 0x50000 then .flt else
  if 0x50000 ≤ off ∧ off < 0x60000 then .pwr else
  if 0x60000 ≤ off ∧ off < 0x70000 then .thm else
  if 0x70000 ≤ off ∧ off < 0x100000 then .cal else
  if 0x100000 ≤ off ∧ off < 0x200000 then .mem else
  if 0x200000 ≤ off ∧ off < 0x300000 then .cmp else
  if 0x300000 ≤ off ∧ off < 0x380000 then .clr else
  if 0x380000 ≤ off ∧ off < 0x400000 then .pbu else
  if 0x400000 ≤ off ∧ off < 0x800000 then .rck else
  if 0x800000 ≤ off ∧ off < 0x860000 then .plk else
  if 0xa00000 ≤ off ∧ off < 0xb00000 then .lsd else
  if 0xb00000 ≤ off ∧ off < 0xc00000 then .lpe else
  if 0xc00000 ≤ off ∧ off < 0xd00000 then .hls else
  if 0xd00000 ≤ off ∧ off < 0xd80000 then .ftg else
  if 0xd80000 ≤ off ∧ off < 0xe00000 then .ver else
  if 0xe00000 ≤ off ∧ off < 0x1000000 then .aud else
  if 0x1000000 ≤ off ∧ off < 0x1800000 then .beadStore else
  if 0x1800000 ≤ off ∧ off < 0x2000000 then .lut else
  if 0x2000000 ≤ off ∧ off < 0x2400000 then .bootWindow else .unmapped

/-- The register rows of a block. -/
def rowsOf : Block → List RegRow
  | .glb => glbRows
  | .hmi => hmiRows
  | .img => imgRows
  | .flt => fltRows
  | .pwr => pwrRows
  | .thm => thmRows
  | .cal => calRows
  | .mem => memRows
  | .cmp => cmpRows
  | .clr => clrRows
  | .pbu => pbuRows
  | .rck => rckRows
  | .plk => plkRows
  | .lsd => lsdRows
  | .lpe => lpeRows
  | .hls => hlsRows
  | .ftg => ftgRows
  | .ver => verRows
  | .aud => audRows
  | .beadStore => []
  | .lut => []
  | .bootWindow => []
  | .unmapped => []

/-- The instance indices at which `delta` falls in a repeat pattern, outermost first. -/
def dimIndex (dims : List (Nat × Nat)) (delta : Nat) : Option (List Nat) :=
  match dims with
  | [] => if delta = 0 then some [] else none
  | (n, st) :: t =>
    let i := delta / st
    if i < n then (dimIndex t (delta % st)).map (fun l => i :: l) else none

/-- The row that holds a BAR0 offset. -/
def regRow (off : Nat) : Option RegRow :=
  (rowsOf (blockOf off)).find? (fun r => decide (r.base ≤ off) && (dimIndex r.dims (off - r.base)).isSome)

end Sys2Proof.Machine
end

