-- ==== Sys2Proof/Machine/State.lean ====
section
/-! DEFINITION. The machine's state as plain data: every register, buffer, queue, mode and pin the spec gives the module, and the queue of waiting commands. Registers of plain read/write kind live in one sparse file keyed by BAR0 offset (`regs`), tallies in another (`tallies`); what a unit computes with is typed here. -/

namespace Sys2Proof.Machine

/-- Why the block stops. No command of the spec stops it: every rule of the spec gives an effect, so no meaning raises this. Safe. -/
inductive Fault where
  /-- Raised by nothing: kept so that the type is inhabited. Safe (a stop proves nothing). -/
  | unreachable
deriving DecidableEq, Repr

/-- Why a command has no meaning in the model. -/
inductive Refusal where
  /-- Raised by a dispatch arm whose meaning is not written. Safe (a stop proves nothing). -/
  | notModelled (mnemonic : String)
deriving DecidableEq, Repr

/-! ### The ACTIVE image as the device holds it (chapter 2) -/

/-- TOPOLOGY (R52). -/
structure Topo where
  part : Nat := 0
  portEnable : Nat := 0
  leadGroup : Nat := 0
  portGroup : List Nat := []
  portPrimary : List Nat := []
  portTile : List Nat := []
  hlsEnable : Nat := 0
  hlsGroup : Nat := 0
  audOutGroup : List Nat := []
  audInGroup : Nat := 0
  videoMask : Nat := 0
  gfxMask : Nat := 0
  bankMask : Nat := 0
  bankPrimary : List Nat := []
deriving DecidableEq, Repr

/-- One LINKS record (R53). -/
structure LinkCfg where
  nomVersion : Nat := 0
  degradedVariant : Nat := 255
  width : Nat := 0
  height : Nat := 0
  blockRows : Nat := 0
  bpNominal : Nat := 0
  bpDegraded : Nat := 0
  settleMaxNs : Nat := 0
  laneMap : List Nat := []
deriving DecidableEq, Repr

/-- CANVAS (R54). -/
structure CanvasCfg where
  width : Nat := 0
  height : Nat := 0
  linePeriod : Nat := 0
  active : Nat := 0
  vblank : Nat := 0
  deltaLines : Nat := 0
  latchLine : Nat := 0
  fetchAllotment : Nat := 0
  carryEnable : Nat := 0
deriving DecidableEq, Repr

/-- One LAYERS record (R55), with its coefficient block (2 banks of taps) where it names one. -/
structure LayerCfg where
  maxSrcW : Nat := 0
  maxSrcH : Nat := 0
  formatMask : Nat := 0
  z : Nat := 0
  flags : Nat := 0
  coefOffset : Nat := 0
  coefs : List Int := []
deriving DecidableEq, Repr

/-- One COLOUR layer record (R56), with its linearisation table when TRANSFER = 5. -/
structure ColourCfg where
  transfer : Nat := 0
  primaries : Nat := 0
  matrix : List Int := []
  lutOffset : Nat := 0
  lut : List Nat := []
deriving DecidableEq, Repr

/-- One entry of a place-value table (R223): code bit, light level, duration in BP. -/
structure PvEntry where
  codeBit : Nat := 0
  level : Nat := 0
  duration : Nat := 0
deriving DecidableEq, Repr

/-- One place-value table set (R223). -/
structure PvSet where
  tableBp : Nat := 0
  extUnit : Nat := 0
  base : List PvEntry := []
  ext : List PvEntry := []
deriving DecidableEq, Repr

/-- One bead (R263): time from segment start, rod, action, target, argument. -/
structure Bead where
  time : Nat := 0
  rod : Nat := 0
  action : Nat := 0
  target : Nat := 0
  arg : Nat := 0
deriving DecidableEq, Repr

/-- One schedule variant (R57). -/
structure SchedVariant where
  kind : Nat := 0
  port : Nat := 255
  tmin : Nat := 0
  delta : Nat := 0
  base : List Bead := []
  ext : List Bead := []
deriving DecidableEq, Repr

/-- One tile entry of a build table (R58). -/
structure TileCfg where
  port : Nat := 0
  band : Nat := 0
  slot : Nat := 0
  seq : Nat := 0
  cacheMask : Nat := 0
deriving DecidableEq, Repr

/-- One build table (R58). -/
structure BuildTable where
  active : Nat := 0
  buildNs : Nat := 0
  tiles : List TileCfg := []
deriving DecidableEq, Repr

/-- One DRAM_PLAN stream record (R59). -/
structure StreamCfg where
  stream : Nat := 0
  base : Nat := 0
  size : Nat := 0
  bytesPerFrame : Nat := 0
deriving DecidableEq, Repr

/-- One LOOPS slot record (R60). -/
structure LoopCfg where
  kind : Nat := 0
  form : Nat := 2
  input : Nat := 0
  target : Nat := 0
  coefA : List Int := []
  coefB : List Int := []
  outMin : Int := 0
  outMax : Int := 0
  slew : Nat := 0
  residThresh : Nat := 0
  residTicks : Nat := 0
  modelTau : Nat := 0
  oscEnable : Nat := 0
  oscCount : Nat := 0
  oscAmpl : Nat := 0
  oscWindow : Nat := 0
deriving DecidableEq, Repr

/-- LIGHT (R61). -/
structure LightCfg where
  levelCount : Nat := 0
  dlinkMinVer : Nat := 0
  diagPulse : Nat := 0
  colourLock : Nat := 0
  knee : Int := 0
  derateSlope : Nat := 0
  rampMs : Nat := 0
  ceiling : List Nat := []
  /-- Level-major, 12 codes per level. -/
  levelCode : List Nat := []
deriving DecidableEq, Repr

/-- SCANNER with its tables (R62, chapter 12). -/
structure ScanCfg where
  fMin : Nat := 0
  fMax : Nat := 0
  pixels : Nat := 0
  lines : Nat := 0
  ftg1Offset : Int := 0
  timing : List Nat := []
  samples : List (Nat × Nat) := []
  /-- Image offset of the sample table. -/
  samplesAt : Nat := 0
  slow : List Nat := []
deriving DecidableEq, Repr

/-- One AUDIO record (R63). -/
structure AudCfg where
  enable : Nat := 0
  format : Nat := 0
  wordBits : Nat := 0
  chMask : Nat := 0
  fsHz : Nat := 0
  ringBytes : Nat := 0
  presOffset : Int := 0
deriving DecidableEq, Repr

/-- One FAULT_MAP entry (R64). -/
structure FaultMapEntry where
  cls : Nat := 1
  reaction : Nat := 0
  quiet : Nat := 0
deriving DecidableEq, Repr

/-- One CAL_LIMITS record (R66). -/
structure CalLimit where
  channel : Nat := 0
  offsetMin : Int := 0
  offsetMax : Int := 0
  gainMin : Nat := 0
  gainMax : Nat := 0
  residMax : Nat := 0
deriving DecidableEq, Repr

/-- An image as the device holds it after its tables are loaded. -/
structure ImageCfg where
  version : Nat := 0
  format : Nat := 3
  keyIndex : Nat := 0
  targetPart : Nat := 0
  topo : Topo := {}
  links : List LinkCfg := []
  canvas : CanvasCfg := {}
  layers : List LayerCfg := []
  colour : List ColourCfg := []
  wbGain : List Nat := []
  pv : List PvSet := []
  sched : List SchedVariant := []
  minActive : Nat := 0
  builds : List BuildTable := []
  plan : List StreamCfg := []
  plannedRate : Nat := 0
  loops : List LoopCfg := []
  light : LightCfg := {}
  scan : Option ScanCfg := none
  audio : List AudCfg := []
  faultMap : List FaultMapEntry := []
  requiredOn : Nat := 0
  retainOk : Nat := 0
  calLimits : Option (List CalLimit) := none
deriving DecidableEq, Repr

/-! ### Fuses, pins, power and start-up (chapters 0, 19, 20) -/

/-- The family's variants (R1). -/
inductive Variant where
  | gna6460 | gna6430 | gna6410
deriving DecidableEq, Repr

/-- What is fused at manufacture and what revocation adds (R68, R106, R109). A blank key slot is `none`. The part in
`State.reset` is a DESIGN CHOICE (UNSAFE, log entry 8). -/
structure Fuse where
  variant : Variant := .gna6460
  /-- GLB_IDENT_PART.STEPPING, two ASCII characters (R106). -/
  stepping : BitVec 16 := 0x3142
  lot : List Byte := [0, 0, 0, 0, 0, 0]
  dieSite : Byte := 0
  dieY : Byte := 0
  dieX : Byte := 0
  wafer : Byte := 1
  serial : BitVec 64 := 1
  keyHash : Vector (Option (List Byte)) 4 := Vector.replicate 4 none
  revoked : BitVec 4 := 0
  /-- Factory calibration value of each channel: gain, offset (R458). -/
  calFactory : Vector (Nat × Int) 73 := Vector.replicate 73 (32768, 0)
deriving DecidableEq, Repr

/-- Balls whose level the rules read or drive (R519, R527, chapter 20). Straps and inputs at reset are a DESIGN CHOICE
(UNSAFE, log entry 8). -/
structure Pins where
  /-- INTLK_A reads high (closed). -/
  intlkAHigh : Bool := true
  /-- INTLK_B reads high (open). -/
  intlkBHigh : Bool := false
  /-- TSC at which the two channels came to read as they do (R339). -/
  intlkAt : Nat := 0
  /-- LASER_ENb as a mask of 12. -/
  laserEn : Nat := 0
  /-- SHUTTER_OUT. -/
  shutterOut : Bool := false
  /-- HL_EN. -/
  hlEn : Bool := false
  /-- HL_DAC0–HL_DAC2 codes. -/
  hlDac : List Nat := [0, 0, 0]
  fastDrv : Nat := 32768
  slowDrv : Nat := 32768
  fsyncOut : Bool := false
  fsyncIn : Bool := false
  /-- Every output high-impedance: VIN applied and the safe-path test not begun (R527). -/
  highZ : Bool := true
  bootSrc : Nat := 0
  bootArm : Bool := false
  smbAddr : Nat := 0
  /-- CH_ACTIVE-independent audio outputs are low, AUD_MCLK low (R527). -/
  audMclk : Bool := false
deriving DecidableEq, Repr

/-- Whether the module runs: held in reset by a brownout (R542), or tripped by heat (R480). -/
inductive PowerState where
  | running | heldInReset | tripped
deriving DecidableEq, Repr

/-- What started the start-up in progress (R526 bits 3:0). -/
inductive StartKind where
  | por | brownout | thermal | warm | watchdog
deriving DecidableEq, Repr

/-- A firmware slot of flash as the ROM judges it (R521). What flash holds at reset is a DESIGN CHOICE (UNSAFE, log
entry 8). -/
structure FwSlot where
  valid : Bool := false
  seq : Nat := 0
  version : Nat := 0
deriving DecidableEq, Repr

/-- Start-up (chapter 19). -/
structure Boot where
  power : PowerState := .running
  kind : StartKind := .por
  /-- GLB_BOOT_STAGE.STAGE (R523); 15 is HALTED. -/
  stage : Nat := 0
  /-- GLB_BOOT_STAGE.RESULT. -/
  result : Nat := 0
  /-- GLB_BOOT_STATUS: BOOT_STATUS of the last completed start (R526). -/
  status : Nat := 0
  /-- BOOT_STATUS bits 17:5 gathered by the start in progress. -/
  gather : Nat := 0
  /-- TSC at the release of reset or the start of the warm reset. -/
  startTsc : Nat := 0
  /-- GLB_BOOT_TIME. -/
  bootMs : Nat := 0
  /-- GLB_FW_VER. -/
  fwVer : Nat := 0
  fwA : FwSlot := { valid := true, seq := 1, version := 0x01000000 }
  fwB : FwSlot := {}
  /-- A GLB_RESET write asked for host boot (R530). -/
  hostBoot : Bool := false
  /-- The start skipped or found no image (stages 6–8 skipped, R523). -/
  noImage : Bool := false
  /-- TSC of the record of 0xF0; a warm reset follows 1 ms later (R517, R528). -/
  watchdogAt : Option Nat := none
  /-- FTG0 has not started since this start began (R525). -/
  firstStart : Bool := true
  /-- Bytes written to the boot window (R522). -/
  window : List Host.Cell := []
  /-- SYSCLK is missing (R507). -/
  sysclkMissing : Bool := false
  /-- TSC at which a warm reset began, until its switched logic is reset 5 ms later (R528). -/
  warmAt : Option Nat := none
  /-- DRAM domains of PD0–PD7 that were OFF at the warm reset, as a mask (R523). -/
  warmOff : Nat := 0
  /-- THM_STATUS.TRIPPED, kept by AON (R481). -/
  tripFlag : Bool := false
deriving DecidableEq, Repr

/-- GLB_ERR and GLB_ACCESS_ERR groups and the locks (R106). -/
structure Glb where
  errValid : Bool := false
  errMulti : Bool := false
  errSmbus : Bool := false
  errBar4 : Bool := false
  errCode : Nat := 0
  errAddr : Nat := 0
  accValid : Bool := false
  accMulti : Bool := false
  accWrite : Bool := false
  accBar4 : Bool := false
  accFirstBe : Nat := 0
  accLastBe : Nat := 0
  accLength : Nat := 0
  accAddr : Nat := 0
  pecReq : Bool := false
  writeLock : Bool := false
deriving DecidableEq, Repr

/-- LO/HI shadows of one requester (R28, R163, R393). The first index of a pair names FTG0 and FTG1. -/
structure Shadows where
  tscHi : Nat := 0
  commitHi : Nat := 0
  frameHi0 : Nat := 0
  frameHi1 : Nat := 0
  sofHi0 : Nat := 0
  sofHi1 : Nat := 0
  eccHi : Nat := 0
deriving DecidableEq, Repr

/-! ### Host message interface (chapter 3) -/

/-- A negotiated version (R134). -/
structure Version where
  major : Nat
  minor : Nat
deriving DecidableEq, Repr

/-- An event entry (R127). -/
structure Event where
  code : Nat
  unit : Nat
  tsc : Nat
  payload : List Byte
deriving DecidableEq, Repr

/-- A completion entry (R126). -/
structure Completion where
  opcode : Nat
  dupTag : Bool
  tag : Nat
  status : Nat
  cmdHead : Nat
  tsc : Nat
  result : List Byte
deriving DecidableEq, Repr

/-- A command in flight: fetched and not yet completed (R120). -/
structure InFlight where
  /-- Model's own number of the command, unique while in flight. -/
  id : Nat
  opcode : Nat
  cmd : Cmd
  /-- Waits for an earlier command of its instance (R122). -/
  waiting : Bool
  /-- Its completion is not posted (R97, R140). -/
  mute : Bool
  /-- Version governing it, fixed at fetch (R135). -/
  ver : Version
  /-- Command-ring head after its fetch (R126). -/
  head : Nat
  /-- Arrival stamp (R96). -/
  arrival : Nat
  /-- It carries the TAG of a command in flight (R123). -/
  dup : Bool
  /-- Balls found shorted, for an LSD_PIN_TEST: bank and signal index (R335). -/
  shorts : List (Nat × Nat)
  /-- Completed under version 1 and waiting for ring order (R137): status and result. -/
  done : Option (Nat × List Byte)
deriving DecidableEq, Repr

/-- One MSI-X table entry (R103, R104). Masked at reset: PRESUMED (UNSAFE, log entry 9). -/
structure MsixEntry where
  addr : BitVec 64 := 0
  data : BitVec 32 := 0
  masked : Bool := true
deriving DecidableEq, Repr

/-- The host message interface and the PCI Express function (chapter 3). -/
structure Hmi where
  enabled : Bool := false
  version : Option Version := none
  cmdHead : Nat := 0
  cmdTail : Nat := 0
  cplHead : Nat := 0
  cplTail : Nat := 0
  evtHead : Nat := 0
  evtTail : Nat := 0
  cmdPhase : Bool := true
  cplPhase : Bool := true
  evtPhase : Bool := true
  cmdFailed : Bool := false
  cplFailed : Bool := false
  evtFailed : Bool := false
  /-- HMI_RING_ERR; `none` while no ring error has happened since the last reset of the block (R119). -/
  ringErr : Option Nat := none
  inFlight : List InFlight := []
  nextId : Nat := 0
  /-- Completions and events that wait for ring space, bus mastering or D0, oldest first. -/
  cplQueue : List Completion := []
  evtQueue : List Event := []
  /-- An overflow episode is in force (R121). -/
  episode : Bool := false
  /-- Events dropped since the last EVENTS_LOST (R139). -/
  lost : Nat := 0
  cplUnsig : Nat := 0
  cplFirst : Nat := 0
  evtUnsig : Nat := 0
  evtFirst : Nat := 0
  /-- Command doorbell writes with commands still to fetch: new tail, TSC (arrival stamps, R96). -/
  dbLog : List (Nat × Nat) := []
  /-- Host watchdog: TSC of its last restart, `none` while it has fired and waits to re-arm (R124). -/
  wdStart : Option Nat := none
  /-- Bus Master Enable (R95). Set at reset: DESIGN CHOICE (UNSAFE, log entry 9). -/
  busMaster : Bool := true
  d0 : Bool := true
  linkUp : Bool := false
  bar2Log2 : Nat := 28
  /-- BAR2 base address in PCI space (R147). -/
  bar2Addr : BitVec 64 := 0
  msix : Vector MsixEntry 64 := Vector.replicate 64 {}
  msixPending : BitVec 64 := 0
deriving DecidableEq, Repr

/-! ### Faults (chapter 18) -/

/-- A report on its way to the collector (R497, R510). -/
structure Report where
  source : Nat
  address : Nat := 0
  master : Nat := 0
  access : Nat := 0
  lengthDw : Nat := 0
  injected : Bool := false
  /-- REACT of the injection; true for a real report. -/
  react : Bool := true
  coincident : Bool := false
  /-- REACTION recorded instead of the source's own (R496: 0x0F of the thermal stop). -/
  reactionAs : Option Nat := none
deriving DecidableEq, Repr

/-- A fault record (R499). -/
structure FaultRec where
  tsc : Nat
  address : Nat
  seq : Nat
  frameLo : Nat
  source : Nat
  cls : Nat
  reaction : Nat
  flags : Nat
  master : Nat
  access : Nat
  lengthDw : Nat
  /-- The model's own mark of an injection with REACT 0, which acts on nothing (R511). -/
  silent : Bool := false
deriving DecidableEq, Repr

/-- State of a fault source (R505). -/
inductive SrcMode where
  | clear | fault | fatal
deriving DecidableEq, Repr

/-- An armed injection (R510). -/
structure Injection where
  address : Nat
  master : Nat
  react : Bool
deriving DecidableEq, Repr

/-- One fault source (R505, R507). -/
structure Src where
  mode : SrcMode := .clear
  pending : Bool := false
  quiet : Nat := 0
  /-- TSC of the last logged record, for coalescing (R502). -/
  lastLogged : Option Nat := none
  /-- SEQ of the last record (R514). -/
  lastSeq : Nat := 0
  armed : Option Injection := none
deriving DecidableEq, Repr

/-- The fault collector (chapter 18). -/
structure Flt where
  srcs : Vector Src 256 := Vector.replicate 256 {}
  /-- FAULT_MAP in force; empty while no image is active (R493). -/
  map : List FaultMapEntry := []
  /-- Newest logged records, newest first, at most 256 (R503). -/
  log : List FaultRec := []
  /-- Records of the log extension in DRAM, newest first, at most 32,768 (R503). -/
  ext : List FaultRec := []
  /-- TSC from which the next frame start counted while FTG0 is stopped is timed (R505). -/
  quietFrom : Nat := 0
  /-- FLT_LOG_HEAD: SEQ of the newest logged record. -/
  head : Nat := 0
  first : Option FaultRec := none
  /-- First-error capture kept readable after VALID is cleared (fields RO). -/
  firstShown : Option FaultRec := none
deriving DecidableEq, Repr

/-! ### Image slots, journal, activation (chapter 2) -/

/-- Journal states (R74). -/
inductive ImgState where
  | staged | verified | quiesced | switched | trial | confirmed
deriving DecidableEq, Repr

/-- The role map (R71): a physical slot 0–2, or 3 for an empty role. -/
structure Roles where
  active : Nat := 3
  previous : Nat := 3
  staged : Nat := 3
deriving DecidableEq, Repr

/-- A journal record (R74). -/
structure JRec where
  seq : Nat
  state : ImgState
  roles : Roles
  confRoles : Roles
  cause : Nat
  activeVer : Nat
  previousVer : Nat
  stagedVer : Nat
  tsc : Nat
  trialMs : Nat
  activating : Bool
deriving DecidableEq, Repr

/-- A flash append on its way, with whether it has failed once (R75). -/
structure Append where
  record : JRec
  retried : Bool := false
  /-- The record that always-on memory held before, for a withdrawal (R82). -/
  before : Option JRec := none
deriving DecidableEq, Repr

/-- What an activation in progress is (R76, R79, R81). -/
inductive ActKind where
  | activate | revert | rollback
deriving DecidableEq, Repr

/-- An activation, revert or rollback in progress. -/
structure Activation where
  kind : ActKind
  /-- The command to complete, by its in-flight id. -/
  cmdId : Option Nat
  cause : Nat
deriving DecidableEq, Repr

/-- The image unit (chapter 2). -/
structure Img where
  roles : Roles := {}
  confRoles : Roles := {}
  state : ImgState := .confirmed
  /-- CAUSE of the last record. -/
  cause : Nat := 0
  lastResult : Nat := 0
  failStep : Nat := 0
  failCode : Nat := 0
  failSection : Nat := 0
  interrupted : Bool := false
  mirrorDone : Bool := false
  /-- The flash mirror of the STAGED slot is running. -/
  mirroring : Bool := false
  /-- SEQ of the newest journal record. -/
  seq : Nat := 0
  /-- The record in always-on memory, 64 bytes, empty when it holds none (R74, R75). -/
  aonRec : List Byte := []
  /-- Records of the flash partitions JRN_A and JRN_B in the order of their appends, 64 bytes each (R70, R74). -/
  jrnA : List (List Byte) := []
  jrnB : List (List Byte) := []
  /-- The active partition is JRN_B. -/
  jrnActiveB : Bool := false
  erasing : Bool := false
  appends : List Append := []
  act : Option Activation := none
  /-- Command id of an IMG_CONFIRM waiting for its record (R80). -/
  confirmId : Option Nat := none
  /-- TSC at which the trial timer expires; `none` outside TRIAL. -/
  trialEnd : Option Nat := none
  /-- TSC of the last entry of QUIESCED (R179). -/
  quiescedAt : Nat := 0
  trialMs : Nat := 0
  /-- Version and signing key of the image in each physical slot. -/
  slotVer : Vector Nat 3 := Vector.replicate 3 0
  slotKey : Vector Nat 3 := Vector.replicate 3 0
  /-- Image bytes in each flash image partition (R70), empty when erased. -/
  flash : Vector (List Byte) 3 := Vector.replicate 3 []
  /-- The running configuration. -/
  cfg : Option ImageCfg := none
  /-- Streams of the image before, excluded from the host area during TRIAL (R144). -/
  oldPlan : List StreamCfg := []
deriving DecidableEq, Repr

/-! ### Memory, surfaces and composition (chapters 4 and 5) -/

/-- A surface descriptor (R150). -/
structure Surface where
  base : Nat := 0
  headerBase : Nat := 0
  pitch : Nat := 0
  width : Nat := 0
  height : Nat := 0
  format : Nat := 0
  ktc : Bool := false
  bufferId : Nat := 0
deriving DecidableEq, Repr

/-- Layer geometry and flags (R175). -/
structure Geom where
  srcX : Nat := 0
  srcY : Nat := 0
  srcW : Nat := 0
  srcH : Nat := 0
  dstX : Nat := 0
  dstY : Nat := 0
  dstW : Nat := 0
  dstH : Nat := 0
  alpha : Nat := 0
  enable : Bool := false
  opaq : Bool := false
  lateSkip : Bool := false
  coefBank : Bool := false
deriving DecidableEq, Repr

/-- One set of layer state (R174). -/
structure LayerSt where
  surf : Surface := {}
  geom : Geom := {}
deriving DecidableEq, Repr

/-- The pending state of a layer (R174, R182), with its commit's number, arrival stamp and CHANGED masks. -/
structure PendSt where
  st : LayerSt
  wait : Bool
  ready : Bool
  /-- Arrival stamp of the CMP_LAYER_READY that made it ready (R96, R182). -/
  readyAt : Nat := 0
  seq : Nat
  arrival : Nat
  changed : List Nat
deriving DecidableEq, Repr

/-- A retiring buffer and the frame whose FRAME_DONE releases it (R159). -/
structure Retiring where
  surf : Surface
  frame : Nat
deriving DecidableEq, Repr

/-- One layer: shadow, pending, current, and buffers not yet released (R174, R159). -/
structure Layer where
  shadow : LayerSt := {}
  pend : Option PendSt := none
  cur : LayerSt := {}
  retiring : List Retiring := []
  /-- Its DRAM requests are urgent (R195). -/
  urgent : Bool := false
deriving DecidableEq, Repr

/-- A commit accepted and not yet taken (R181, R184). -/
structure CommitRec where
  seq : Nat
  arrival : Nat
  changed : List Nat
deriving DecidableEq, Repr

/-- What a composer pass is doing (R198, R200, R560). -/
inductive PassMode where
  | running | waiting | stopped | complete
deriving DecidableEq, Repr

/-- A composer pass: the content of one take, from its latch on. -/
structure Pass where
  /-- Model's own number of the take, from 1. -/
  no : Nat
  mode : PassMode
  /-- The layer states it composes; a layer late under SKIP is left out. -/
  layers : List (Option LayerSt)
  takenSeq : Nat
  /-- FRAME_COUNT of the latch that started it. -/
  frame : Nat
  /-- Canvas line being composed. -/
  line : Nat
  /-- CHANGED masks of the take (R184). -/
  changed : List Nat
  /-- Covering layers as a mask (R191). -/
  cover : Nat
  /-- Carry buffer it reads (R220). -/
  carryIn : Bool
  /-- White-balance gains in force for it (R216). -/
  gains : List Nat
  /-- PEAK_CD behind the ST 2084 table it uses (R211). -/
  pqPeak : Nat
  /-- TSC of its start or restart (R253). -/
  start : Nat
  /-- What DRAM held before host writes that reached fenced bytes while it was under way: the canvas lines fetched by then,
  the contents (R167). -/
  held : List (Nat × List (Nat × Byte)) := []
  /-- DRAM words that it read as 0 for an injected error (R220, R421). -/
  zeroed : List Nat := []
deriving DecidableEq, Repr

/-- A write TLP of the DRAM window that followed the doorbell of a command still to be fetched: a commit among those fences
it from that doorbell on (R96, R159). -/
structure HostWrite where
  stamp : Nat
  rid : Nat
  dw : Nat
  /-- It has raised fault 0x28; it has counted in MEM_FENCE_TALLY. -/
  raised : Bool
  counted : Bool
  /-- The bytes it wrote, as they were before; none under POLICY LOG. -/
  before : List (Nat × Byte)
  /-- The addresses it wrote. -/
  wrote : List Nat
deriving DecidableEq, Repr

/-- The composition unit (chapter 5). -/
structure Cmp where
  layers : Vector Layer 16 := Vector.replicate 16 {}
  commits : List CommitRec := []
  commitSeq : Nat := 0
  takenSeq : Nat := 0
  takenFrame : Nat := 0
  lateSkipped : Nat := 0
  lateHeld : Nat := 0
  fetchLast : Nat := 0
  rejStatus : Nat := 0
  rejLayer : Nat := 255
  rejReason : Nat := 0
  /-- TSC of the running frame's LATCH_LINE, once passed (R181). -/
  latchStamp : Option Nat := none
  /-- A latch that waits for commits that arrived before it: TSC and frame of its LATCH_LINE, SEQ of the last commit accepted by then
  (R181). -/
  latchWait : Option (Nat × Nat × Nat) := none
  /-- TSC from which FTG0 has been stopped (R560). -/
  stoppedAt : Nat := 0
  /-- Host writes behind the doorbell of a command still to be fetched (R159). -/
  writes : List HostWrite := []
  /-- Number of takes so far. -/
  takeNo : Nat := 0
  /-- The pass of the newest take. -/
  pass : Option Pass := none
  /-- Scaler coefficients of each video layer, by index in the 3,584-byte block (R188, R190). -/
  coef : Vector (List (Nat × Int)) 4 := Vector.replicate 4 []
deriving DecidableEq, Repr

/-! ### Colour pipeline (chapter 6) and plane builders (chapter 7) -/

/-- The colour unit (chapter 6). -/
structure Clr where
  pqBusy : Bool := false
  /-- PEAK_CD of the ST 2084 table in force (R211). -/
  pqPeak : Nat := 1000
  carryRead : Bool := false
  /-- CLR_GAIN_PRIMARY_c: G_c of the pass last started (R214). -/
  gainPrimary : List Nat := [0x40000000, 0x40000000, 0x40000000]
  /-- Level L of the pair last calibrated (R232). -/
  pair : Nat := 0
  worstBank : Nat := 0
  worstPair : Nat := 0
  worstErr : Nat := 0
  /-- Largest error so far in the cycle of pairs in progress: bank, pair, error. -/
  cycWorst : Nat × Nat × Nat := (0, 0, 0)
  outOfTol : Nat := 0
  /-- Consecutive out-of-tolerance calibrations, bank-major, 16 levels each (R234). -/
  outCount : List (Nat × Nat) := []
deriving DecidableEq, Repr

/-- One logical slot of the builder pool in the pass in progress (R238, R244). -/
structure SlotRun where
  phys : Option Nat := none
  /-- SEQ of the tile it runs or takes next. -/
  seq : Nat := 0
  running : Bool := false
  /-- TSC at which the tile it runs was started (R242). -/
  start : Nat := 0
  /-- Its tiles of this pass are abandoned (R250). -/
  abandoned : Bool := false
deriving DecidableEq, Repr

/-- A change of the builder map and of the build table that waits for the next take (R250, R258). -/
inductive MapChange where
  /-- The fenced builder leaves its logical slot and the table with ACTIVE one smaller is selected. -/
  | shrink (slot builder : Nat)
  /-- The tested builder joins as the next logical slot and the table with ACTIVE one greater is selected. -/
  | grow (builder : Nat)
  /-- The fenced builder leaves its slot and no table is selected: the pool is below MIN_ACTIVE. Builder, slot, port and band
  of the tile. -/
  | lost (builder slot port band : Nat)
deriving DecidableEq, Repr

/-- A residue failure that the cycle's end handles (R250, R251). -/
structure FailedTile where
  slot : Nat
  phys : Nat
  port : Nat
  band : Nat
  /-- The residues differ by themselves. -/
  real : Bool
  inj : Option Injection
  /-- The pass whose tile it was. -/
  pass : Nat
deriving DecidableEq, Repr

/-- The plane builders and the plane cache (chapter 7). -/
structure Pbu where
  /-- Fenced physical builders (R240). -/
  fenced : Vector Bool 24 := Vector.replicate 24 false
  slots : Vector SlotRun 22 := Vector.replicate 22 {}
  /-- ACTIVE field of the table in use. -/
  table : Nat := 0
  /-- Changes for the next take, in the order they arose (R250, R258). -/
  mapNext : List MapChange := []
  /-- No further pass is built (R250). -/
  belowMin : Bool := false
  /-- Pass the builders work on, by its number. -/
  passNo : Nat := 0
  /-- Tiles built in that pass: (port, band). -/
  built : List (Nat × Nat) := []
  /-- PBU_SET.SHOWN as a mask of ports. -/
  shown : Nat := 0
  buildLast : Nat := 0
  buildBound : Nat := 0
  slotsUsed : Nat := 0
  retired : List Nat := []
  /-- Tests in progress: builder, in-flight id. -/
  tests : List (Nat × Nat) := []
  /-- Residue failures of this cycle, still to be handled (R251). -/
  failing : List FailedTile := []
  /-- The plane cache: its bytes by slot × 73,728 + offset, 0 where none is listed (R254). -/
  cache : List (Nat × Byte) := []
deriving DecidableEq, Repr

/-! ### The Reckoner (chapter 8) and the Plane Link (chapter 9) -/

/-- Why the running variant changes (R286). -/
inductive VarCause where
  | degraded | restore | newImage
deriving DecidableEq, Repr

/-- A selected variant, or one being loaded to be selected (R282). -/
structure VarSel where
  variant : Nat
  slot : Nat
  port : Nat
  cause : VarCause
  loaded : Bool
  /-- TSC of the selection: ports that lose a lane in one cycle are taken in the order of their numbers (R283). -/
  at_ : Nat := 0
deriving DecidableEq, Repr

/-- A plane as a reset block holds it (R270). -/
structure PlaneRef where
  plane : Nat := 0
  set : Nat := 0
  cached : Bool := false
  blank : Bool := true
deriving DecidableEq, Repr

/-- One reset block (R270): the plane of the last completed load, the load begun last with the TSC at which it is complete,
and the plane the mirrors show, `none` for off. -/
structure MirrorBlock where
  memory : Option PlaneRef := none
  loading : Option (PlaneRef × Nat) := none
  shows : Option PlaneRef := none
deriving DecidableEq, Repr

/-- The Reckoner (chapter 8). -/
structure Rck where
  running : Bool := false
  variant : Nat := 0
  slotRun : Nat := 0
  next : Option VarSel := none
  /-- Directory index held by each store slot (R280). -/
  store : Vector (Option Nat) 3 := Vector.replicate 3 none
  /-- Running segment: 0 base, 1–15 extension (R277). -/
  k : Nat := 0
  repeats : Bool := false
  condCommit : Bool := false
  condBuild : Bool := false
  lastK : Nat := 0
  /-- TSC at the start of the running segment, moved on by a hold (R397). -/
  segStart : Nat := 0
  /-- Contained until the next frame start (R269): ports, primaries, loop slots as masks. -/
  containPorts : Nat := 0
  containPrims : Nat := 0
  containSlots : Nat := 0
  /-- The next FTG0 start is the first under a newly loaded image (R286). -/
  newImage : Bool := false
  /-- Variant that ran when FTG0 last stopped (R286). -/
  lastVariant : Option Nat := none
  /-- In-flight id of RCK_RESTORE (R285). -/
  restoreId : Option Nat := none
  /-- The load of variant 0 into slot 0 is in progress (R282). -/
  loading0 : Bool := false
  /-- Beads issued whose effect time has not passed: rod and effect TSC (R266). -/
  issued : List (Nat × Nat) := []
  /-- The reset blocks of each port (R270). -/
  blocks : Vector (Vector MirrorBlock 16) 6 := Vector.replicate 6 (Vector.replicate 16 {})
deriving DecidableEq, Repr

/-- Port states (R307), in the order of their codes 0–8. -/
inductive PortMode where
  | disabled | sync | hello | train | check | mode | parked | active | failed
deriving DecidableEq, Repr

/-- One Plane Link port and what it knows of its array (chapter 9). -/
structure Port where
  mode : PortMode := .disabled
  cause : Nat := 0
  half : Nat := 0
  reversed : Bool := false
  version : Nat := 0
  lanes : Nat := 0
  inverted : Nat := 0
  locked : Nat := 0
  laneLost : Nat := 0
  vendor : Nat := 0
  model : Nat := 0
  serial : Nat := 0
  width : Nat := 0
  height : Nat := 0
  blockRows : Nat := 0
  unpark10us : Nat := 0
  settleNs : Nat := 0
  stState : Nat := 0
  stFlags : Nat := 0
  parkLast : Nat := 0
  /-- TSC of the PARK request whose ACK is awaited (R312), and of the last PARK sent (R316). -/
  parkAt : Option Nat := none
  parkFrom : Nat := 0
  /-- TSC of the entry to SYNC, or of the last HELLO, TRAIN, SET_MODE or UNPARK sent (R301, R307); of the last READ_STATUS. -/
  sentAt : Nat := 0
  statusAt : Nat := 0
  /-- Declared failed and not ACTIVE since (R313). -/
  failedHeld : Bool := false
  /-- STYLE of the last PARK sent (R301, R302). -/
  parkSent : Nat := 0
  /-- Mode and cause to enter when the park is acknowledged: retraining after a lane loss (R312). -/
  thenTrain : Bool := false
  /-- Sendings of the frame awaiting a reply (R302). -/
  attempts : Nat := 0
  /-- Failed training attempts at the width in use (R307). -/
  trainTries : Nat := 0
  /-- A correction was made in phase 0; the repeat must report the normal order (R309). -/
  corrected : Bool := false
  /-- Training runs at half width (R310). -/
  halfWidth : Bool := false
  /-- Half excluded by a lost lane (R312). -/
  excluded : Option Nat := none
  /-- PLK_RETRAIN with WIDTH 0: full width only (R314). -/
  fullOnly : Bool := false
  /-- The half-width port holds READY until its variant is loaded (R310). -/
  holdReady : Bool := false
  /-- UNPARK sent, READY awaited. -/
  unparking : Bool := false
  /-- Beads are delivered: the first frame start after READY has come (R268). -/
  delivering : Bool := false
  /-- The first training is over (R316). -/
  trainedOnce : Bool := false
  loadSeq : Nat := 0
  /-- READ_STATUS sent and not answered; consecutive misses (R312). -/
  statusWait : Bool := false
  statusMiss : Nat := 0
  /-- In-flight ids of the commands that wait on the port (R314). -/
  retrainId : Option Nat := none
  parkId : Option Nat := none
  unparkId : Option Nat := none
  statusId : Option Nat := none
deriving DecidableEq, Repr

/-! ### Power domains (chapter 17) -/

/-- State of a power domain (R482). -/
inductive DomMode where
  | off | retain | on
deriving DecidableEq, Repr

/-- A PWR_SET in progress (R484, R485). -/
structure PwrRun where
  cmdId : Nat
  target : DomMode
  /-- Domains still to move, the one moving first. -/
  todo : List Nat
  /-- TSC at which it began, and at which the domain that is moving began to (R485). -/
  start : Nat := 0
  since : Nat := 0
  /-- Domains that have reached STATE. -/
  moved : Nat
  /-- Those that stood in STATE from the beginning and are left unchanged (R484). -/
  kept : Nat := 0
deriving DecidableEq, Repr

/-- The power domains PD0–PD35 (chapter 17). -/
structure Pwr where
  dom : Vector DomMode 36 := Vector.replicate 36 .on
  run : Option PwrRun := none
deriving DecidableEq, Repr

/-! ### Laser bank drive (chapter 10) -/

/-- Bank states (R326), in the order of their codes 0–7. -/
inductive BankMode where
  | disabled | starting | paused | armed | safe | opened | short | linkFailed
deriving DecidableEq, Repr

/-- One laser bank with its Driver Link. -/
structure Bank where
  mode : BankMode := .disabled
  cause : Nat := 0
  unverified : Bool := false
  /-- FLAGS of the last reply. -/
  drvFlags : Nat := 0
  /-- Last measured current. -/
  measured : Nat := 0
  /-- Applied code (R328). -/
  code : Nat := 0
  /-- TSC of the last change of the applied code. -/
  codeAt : Nat := 0
  /-- A qualifying reply came in the span of this code; all of them read open; one reads high (R331). -/
  winAny : Bool := false
  winOpen : Bool := true
  winHigh : Bool := false
  /-- A measurable window that ended as the bank left ARMED and is still to be judged: it reads high; it reads open (R331). -/
  ended : Option (Bool × Bool) := none
  /-- TSC of the arming or of the end of the last measurable window (R331). -/
  windowAt : Nat := 0
  /-- Consecutive windows that read open, that read high. -/
  openRun : Nat := 0
  highRun : Nat := 0
  /-- Arming level y_b and the TSC at which its ramp began (R330). -/
  y : Nat := 4095
  yStart : Option Nat := none
  /-- Light-level table c_0 to c_15, and the link version whose units it is in, 0 for those of the image (R327). -/
  table : List Nat := List.replicate 16 0
  units : Nat := 0
  /-- Codes written and not yet in effect: level, code. -/
  writes : List (Nat × Nat) := []
  /-- LSD_THRESH and LSD_NOM_TARGET in force for the segment. -/
  thresh : Nat := 0
  nom : Nat := 0
  /-- Link: running, version in force, and what link start found (R324). -/
  linkRun : Bool := false
  version : Nat := 0
  drvDelay : Nat := 0
  drvMax : Nat := 0
  diPhase : Nat := 0
  diInv : Bool := false
  doInv : Bool := false
  ckInv : Bool := false
  /-- Reply errors in a row (R325). -/
  errRun : Nat := 0
  /-- DRV_FAULT stands and is reported. -/
  drvFault : Bool := false
  /-- Level of a light-test pulse in force; `some none` between the pulses of a pair (R232). -/
  pulse : Option (Option Nat) := none
  /-- A link start is running (R324). -/
  linking : Bool := false
  /-- Primary of the bank under the image in force. -/
  prim : Nat := 0
deriving DecidableEq, Repr

/-- A pulse of a light test still to begin or to end: TSC, bank, what is in force from then on. -/
structure PulseStep where
  at_ : Nat
  bank : Nat
  what : Option (Option Nat)
deriving DecidableEq, Repr

/-- A brightness ramp (R330): from, to, TSC of its start, length in cycles. -/
structure Ramp where
  x0 : Nat
  x1 : Nat
  start : Nat
  len : Nat
deriving DecidableEq, Repr

/-- The light-source drive. -/
structure Lsd where
  bank : Vector Bank 12 := Vector.replicate 12 {}
  x : Nat := 0
  target : Nat := 4095
  ramp : Option Ramp := none
  /-- k_c of the running segment (R328). -/
  k : List Nat := [0, 0, 0]
  /-- F_c in force, and as last computed (R333). -/
  f : List Nat := [65536, 65536, 65536]
  fNew : List Nat := [65536, 65536, 65536]
  held : List (Option Nat) := [none, none, none]
  fixed : List (Option Nat) := [none, none, none]
  hot : List Nat := [0, 0, 0]
  tc : List Int := [0, 0, 0]
  /-- Banks whose failed sensor has been judged, and banks whose failure holds their factor, as masks (R334). -/
  failedSeen : Nat := 0
  holdBy : Nat := 0
  lock : Bool := false
  lockNext : Option Bool := none
  /-- In-flight ids of the LSD_COLOUR_LOCK commands that wait (R340). -/
  lockIds : List Nat := []
  /-- Level in force on each primary, `none` for ZERO (R328). -/
  level : List (Option Nat) := [none, none, none]
  pulses : List PulseStep := []
  /-- Pair L of the next calibration (R232). -/
  pairNext : Nat := 1
  /-- TSC at which the pulses of the CAL_PAIR of this dark interval end, until the pair is corrected (R232). -/
  pairUntil : Option Nat := none
  /-- TSC of the last derating computation (R333). -/
  derateAt : Nat := 0
  /-- WB_GAIN of each bank behind the bank targets (R216). -/
  wb : List Nat := List.replicate 12 0x40000000
  /-- The safe state has been entered and not left. -/
  safeOn : Bool := false
  safeSource : Nat := 0
  safeShutter : Bool := false
  /-- LSD_PIN_TEST waiting for its link starts: in-flight id, SHORT_MASK (R335). -/
  pinTest : Option (Nat × Nat) := none
  /-- LSD_LINK_RESTART waiting: bank, in-flight id. -/
  restarts : List (Nat × Nat) := []
  /-- Interlock: channels judged open, discrepancy reported (R339). -/
  intlkOpen : Bool := false
deriving DecidableEq, Repr

/-! ### Loop Engine (chapter 11) -/

/-- An LPE_SWAP waiting for its boundary: in-flight id, bank B, new limits (R358). -/
structure Swap where
  id : Nat
  bankB : Bool
  limits : Option (Int × Int)
deriving DecidableEq, Repr

/-- One slot (R345–R361). Values are state values with 16 fractional bits (R347). -/
structure Slot where
  kind : Nat := 0
  form : Nat := 0
  input : Nat := 0
  target : Nat := 0
  bankB : Bool := false
  coefA : List Int := []
  coefB : List Int := []
  outMin : Int := 0
  outMax : Int := 0
  eh : List Int := [0, 0, 0]
  uh : List Int := [0, 0, 0]
  out : Int := 0
  /-- Target in force. -/
  tgt : Int := 0
  /-- Limiter output, and whether it has taken its first target. -/
  r : Int := 0
  rSet : Bool := false
  fb : Int := 0
  m : Int := 0
  sat : Bool := false
  hold : Bool := false
  lim : Bool := false
  updated : Bool := false
  idle : Bool := false
  /-- Window open; held by a late WINDOW bead until the next frame start (R349). -/
  window : Bool := false
  late : Bool := false
  resid : Nat := 0
  /-- Detector: ticks left of the open window, count, sign of the last qualifying error. -/
  oscLeft : Option Nat := none
  oscCnt : Nat := 0
  oscSign : Int := 0
  /-- An uncorrectable store error keeps it idle (R363). -/
  storeErr : Bool := false
  swaps : List Swap := []
  /-- In-flight ids of LPE_SLOT_RESET waiting for the next boundary. -/
  resets : List Nat := []
deriving DecidableEq, Repr

/-- The Loop Engine. -/
structure Lpe where
  running : Bool := false
  slot : Vector Slot 24 := Vector.replicate 24 {}
  /-- Slots run: the first tick of TRIAL, or of a start-up's first FTG0 start, has come (R363). -/
  active : Bool := false
  /-- The slots as their registers show them: as the last tick left them (R351, R366). -/
  shown : Vector Slot 24 := Vector.replicate 24 {}
  /-- TSC of the last tick boundary served (R30). -/
  lastTick : Option Nat := none
deriving DecidableEq, Repr

/-! ### Highlight Scanner (chapter 12) -/

/-- Scanner states (R369), in the order of their codes 0–5. -/
inductive HlsMode where
  | disabled | parked | starting | running | parking | failed
deriving DecidableEq, Repr

/-- The oscillator from TSC `at_` on: its phase there and its increment (R373). -/
structure Nco where
  at_ : Nat := 0
  phase : Nat := 0
  inc : Nat := 0
deriving DecidableEq, Repr

/-- A SCAN_LINE busy span (R377): its end, first line, count, lines started. -/
structure ScanSpan where
  t0 : Nat
  busyEnd : Nat
  first : Nat
  count : Nat
  started : Nat
deriving DecidableEq, Repr

/-- A running highlight pass (R379). -/
structure HlPass where
  /-- Take it belongs to. -/
  no : Nat
  start : Nat
  layer : Option LayerSt
  pqPeak : Nat
deriving DecidableEq, Repr

/-- A line being drawn: its direction, whether it is dark, and its field values by pixel and colour (R377, R378). -/
structure LineRun where
  reverse : Bool
  dark : Bool
  values : List (List Nat)
deriving DecidableEq, Repr

/-- The Highlight Scanner. -/
structure Hls where
  mode : HlsMode := .disabled
  cause : Nat := 0
  locked : Bool := false
  lockRun : Nat := 0
  shown : Bool := false
  passDone : Bool := false
  /-- The set last written is new since SHOWN last inverted; it is to be shown at FTG1's next SOF (R380). -/
  showNext : Bool := false
  line : Nat := 0
  passNs : Nat := 0
  pass : Option HlPass := none
  nco : Nco := {}
  ncoPrev : Nco := {}
  /-- Measured phase (R373). -/
  y : Int := 0
  /-- Largest and smallest fast sense code of the last full period, once one has passed. -/
  period : Option (Nat × Nat) := none
  /-- An amplitude episode is in force (fault 0x95). -/
  amplOut : Bool := false
  /-- The motion monitor reports motion; the cycle of the last rising crossing, or of the start (R372). -/
  motion : Bool := false
  crossAt : Nat := 0
  /-- The registers of HLS_FAST_CTRL to HLS_DAC_2 as they are in force since the last tick boundary (R386). -/
  force : List Nat := [0x40000000, 24000000, 2560, 256 * 65536 + 500, 64, 0xFFFF0000, 0x80008000, 0x0FFF0000, 0x0FFF0000, 0x0FFF0000]
  /-- The line of the half-period that runs (R377). -/
  lineNow : Option LineRun := none
  /-- TSC of the last park trigger (R370). -/
  parkTrigAt : Option Nat := none
  startedAt : Nat := 0
  parkedAt : Nat := 0
  parkFault : Bool := false
  /-- A park by QUIESCED, undone by the next TRIAL or resumption (R369). -/
  resume : Bool := false
  span : Option ScanSpan := none
  /-- Highlight arming level and the TSC its ramp began (R330). -/
  yH : Nat := 4095
  yHStart : Option Nat := none
  /-- Lasers kept off until the next line start (R371). -/
  dark : Bool := true
  startId : Option Nat := none
  parkId : List Nat := []
deriving DecidableEq, Repr

/-! ### Calibration (chapter 16) and thermal sensing (chapter 17) -/

/-- One calibration channel (R455–R463): gains unsigned 1.15, offsets signed. -/
structure CalCh where
  aGain : Nat := 32768
  aOff : Int := 0
  tGain : Nat := 32768
  tOff : Int := 0
  fGain : Nat := 32768
  fOff : Int := 0
  mGain : Nat := 32768
  mOff : Int := 0
  /-- Ramp step k of the ramp in progress, `none` when none runs. -/
  step : Option Nat := none
  /-- TSC of the change of target, or of the last step since (R461). -/
  stepAt : Nat := 0
  resid : Nat := 0
  result : Nat := 4
  failed : Bool := false
deriving DecidableEq, Repr

/-- A run in progress (R457): its command if one asked for it, and its channels. -/
structure CalRun where
  cmdId : Option Nat
  chans : List Nat
deriving DecidableEq, Repr

/-- A store in progress (R466): its command, what it writes and where. -/
structure CalStoreRun where
  cmdId : Nat
  slotB : Bool
  seq : Nat
  image : List Byte
deriving DecidableEq, Repr

/-- The calibration unit. -/
structure Cal where
  ch : Vector CalCh 73 := Vector.replicate 73 {}
  run : Option CalRun := none
  store : Option CalStoreRun := none
  vrefBad : Bool := false
  vrefUv : Nat := 0
  source : Nat := 0
  seq : Nat := 0
  /-- The snapshot loaded or last stored lies in CAL_B. -/
  lastB : Bool := true
  /-- Content of the first sector of CAL_A and CAL_B. -/
  slotA : List Byte := []
  slotB : List Byte := []
  /-- CAL_PD_RANGE.LOOP in force (R456). -/
  loopRange : Nat := 0
  /-- Last r_{L−1} of each bank's pair and the range it was read in, by 16·bank + L (R456). -/
  lastR : List (Nat × Option (Nat × Bool)) := []
  /-- Targets that changed while commands were on their way, newest first: TSC of the change, channel, gain and offset before
  it (R96, R466). -/
  past : List (Nat × Nat × Nat × Int) := []
deriving DecidableEq, Repr

/-- One temperature sensor (R471–R477). -/
structure Sensor where
  failed : Bool := false
  suspended : Bool := false
  reading : Int := 0
  seen : Bool := false
  max : Int := 0
  min : Int := 0
  asserted : Nat := 0
  /-- Consecutive readings that would assert, and that would deassert, each threshold 0–3. -/
  up : List Nat := [0, 0, 0, 0]
  down : List Nat := [0, 0, 0, 0]
  /-- Consecutive samples without a reading; consecutive valid ones while failed. -/
  miss : Nat := 0
  good : Nat := 0
deriving DecidableEq, Repr

/-- The thermal unit. -/
structure Thm where
  sensor : Vector Sensor 35 := Vector.replicate 35 {}
  /-- THM_STATUS.STOP. -/
  stop : Bool := false
  /-- TSC at which the ramp of the light-path thermal stop began, while it runs. -/
  stopAt : Option Nat := none
  /-- The record of fault 0xB5, reported after the restart (R481): TSC and FRAME_COUNT of the trip. -/
  tripAt : Option (Nat × Nat) := none
  /-- After a trip, consecutive die readings below 95 °C (R481). -/
  cool : Nat := 0
  /-- TSC of the last sample (R471). -/
  sampledAt : Option Nat := none
deriving DecidableEq, Repr

/-! ### Frame timing and genlock (chapter 13) -/

/-- What a decision point found (R33, R34, R44, R398): whether a frame will start at the boundary, whether a NEW symbol
is its cause, and the streams not ready. -/
structure Decision where
  newFrame : Bool
  bySymbol : Bool
  notReady : Nat
  /-- The take it judged. -/
  takeNo : Nat
deriving DecidableEq, Repr

/-- Genlock states (R400, R412): the values of FTG_SYNC_STATUS.STATE. -/
inductive SyncMode where
  | free | master | locked | searching
deriving DecidableEq, Repr

/-- The timing generators. -/
structure Ftg where
  /-- TSC of the last SOF of FTG0 and FTG1. -/
  sof : Nat := 0
  sof1 : Nat := 0
  /-- Length of the last completed frame. -/
  len : Nat := 0
  len1 : Nat := 0
  /-- Virtual lines (R39). -/
  line : Nat := 0
  line1 : Nat := 0
  /-- TSC at which their lines began, less the holds since (R397). -/
  lineAt : Nat := 0
  lineAt1 : Nat := 0
  /-- FRAME_COUNT that FTG1 carries, and whether FTG1 runs. -/
  frame1 : Nat := 0
  on1 : Bool := false
  /-- LINE_MATCH in force, taken at each SOF (R391). -/
  match0 : Nat := 0
  match1 : Nat := 0
  /-- Groups that show new content in the running frame, and those that repeat; the latter of the frame before. -/
  newGroups : Nat := 0
  repGroups : Nat := 0
  repPrev : Nat := 0
  /-- Number of the newest take each group has shown. -/
  shownTake : List Nat := [0, 0, 0, 0]
  decided : Option Decision := none
  /-- K_END of the previous frame. -/
  kEnd : Nat := 255
  /-- A hold is in progress (R397): TSC at its start, its length. -/
  hold : Option (Nat × Nat) := none
  /-- Length of the hold of the running base segment, fixed at its frame start. -/
  holdNow : Nat := 0
  /-- MODE in force (R402) and the lock state. -/
  mode : Nat := 0
  sync : SyncMode := .free
  error : Int := 0
  drift : Int := 0
  /-- Arrival of a NEW decoded since the previous decision point; a symbol decoded since then; the one that decided. -/
  newArr : Option Nat := none
  anySym : Bool := false
  decidedArr : Option Nat := none
  missRun : Nat := 0
  /-- Arrival of the high run on FSYNC_IN in progress. -/
  arrival : Option Nat := none
  /-- Edges to come on FSYNC_OUT: TSC, level (R396, R401). -/
  edges : List (Nat × Bool) := []
  /-- Re-alignment: a NEW came while SEARCHING, the running segment is to be the last (R400); FTG0 idles. -/
  realign : Bool := false
  idling : Bool := false
  /-- Target of the NEW symbol that ends the idle. -/
  target : Option Nat := none
deriving DecidableEq, Repr

/-! ### Picture verification (chapter 13) -/

/-- One region (R406): what is in force, what has been written since with its arrival stamp, and what it found. -/
structure Region where
  ctrl : Nat := 0
  origin : Nat := 0
  size : Nat := 0
  expect : Nat := 0
  /-- Written and not yet in force: arrival stamp, register 0–3, value. -/
  writes : List (Nat × Nat × Nat) := []
  last : Nat := 0
  passFrame : Nat := 0
  freeze : Nat := 0
  /-- A residue to compare the next with, `none` before the first and after a change of geometry. -/
  prev : Option Nat := none
deriving DecidableEq, Repr

/-- The verification unit. -/
structure Ver where
  /-- Region r of output o at 16·o + r. -/
  region : Vector Region 112 := Vector.replicate 112 {}
  mismatch : Nat := 0
  withheld : Nat := 0
  /-- Arrival of the last accepted commit; the later of it and the FTG0 start (R410). -/
  commitAt : Nat := 0
  since : Nat := 0
  stale : Bool := false
deriving DecidableEq, Repr

/-! ### DRAM controller (chapter 14) -/

/-- Training states of a channel (R437), in the order of their codes 0–3. -/
inductive TrnMode where
  | ok | fallback | failed | untrained
deriving DecidableEq, Repr

/-- One DRAM channel. -/
structure Chan where
  debt : Nat := 0
  /-- Rate in force: 1 = 1×, 2 = 2×, 3 = 4× (R426). -/
  rate : Nat := 1
  /-- The lower rate that the latest MR4 reads report, and how many consecutive ones. -/
  lowerRate : Nat := 0
  lower : Nat := 0
  /-- DRAM class of the last MR4 read, `none` when it gave none (R473). -/
  mr4 : Option Nat := none
  mode : TrnMode := .ok
  pauses : Nat := 0
  drift : Int := 0
  /-- Eye widths in ps: WR_B0, WR_B1, RD_B0, RD_B1 (R437). -/
  eye : List Nat := [0, 0, 0, 0]
  /-- Delay codes in use, by lane, in taps from where cold training left them. -/
  codes : List Int := [0, 0, 0, 0]
  /-- Next bank pair to refresh. -/
  pair : Nat := 0
  /-- TSC of the last debt increment and of the last opportunity used; the millisecond of the last MR4 read (R424–R426). -/
  dueAt : Option Nat := none
  oppAt : Option Nat := none
  mr4Ms : Option Nat := none
deriving DecidableEq, Repr

/-- A train of refresh slots (R425, R427): channels, first slot, spacing, slots; in segment time, or in TSC for the
controller's own. -/
structure RefTrain where
  own : Bool
  chans : Nat
  time : Nat
  period : Nat
  count : Nat
deriving DecidableEq, Repr

/-- The DRAM controller. -/
structure Mem where
  ch : Vector Chan 16 := Vector.replicate 16 {}
  ready : Bool := false
  trains : List RefTrain := []
  /-- The controller makes its own slots since FTG0 stopped, until the first slot of a refresh bead; the TSC from which
  their times count (R427). -/
  ownSlots : Bool := true
  ownFrom : Nat := 0
  /-- Channels still to be trained in the pause in progress or the next that names them (R429). -/
  pause : Nat := 0
  /-- TSC at which that pause ends, and at which the step in progress began (R429). -/
  pauseEnd : Nat := 0
  stepFrom : Nat := 0
  debtMax : Nat := 0
  /-- Last corrected or uncorrectable word: address, uncorrectable, poisoned (R437). -/
  eccAddr : Nat := 0
  eccUe : Bool := false
  eccPoison : Bool := false
  /-- MEM_TRAIN in progress: channel, in-flight id, MODE. -/
  train : List (Nat × Nat × Nat) := []
  /-- Channels that run one step before they serve again (R435). -/
  afterReset : Nat := 0
deriving DecidableEq, Repr

/-! ### Audio (chapter 15) -/

/-- One audio port: outputs 0–3, input 4. -/
structure AudPort where
  running : Bool := false
  /-- An AUD_START waiting: START_TSC, in-flight id. -/
  start : Option (Nat × Nat) := none
  /-- In-flight ids of AUD_STOP waiting for the next left edge. -/
  stopIds : List Nat := []
  mask : Nat := 3
  /-- Writes to AUD_CH_MASK not yet in force: arrival stamp, value (R449). -/
  maskNext : List (Nat × Nat) := []
  fifo : List (Nat × Nat) := []
  wr : Nat := 0
  rd : Nat := 0
  sent : Nat := 0
  taken : Nat := 0
  /-- Last frame sent, or last frame written by the input. -/
  last : Nat × Nat := (0, 0)
  /-- Bit 0 of the right word sent last: FORMAT 0 sends it one bit clock late (R440). -/
  tail : Bool := false
  /-- Its group repeats in the running frame; the hold is in force at the balls (R446). -/
  repeats : Bool := false
  holding : Bool := false
  underrun : Bool := false
  underSince : Bool := false
  overSince : Bool := false
  lost : Nat := 0
  /-- TSC of the last fill copy (R448). -/
  fillAt : Option Nat := none
  /-- TSC of its last left edge. -/
  edge : Nat := 0
deriving DecidableEq, Repr

/-- The audio unit. -/
structure Aud where
  port : Vector AudPort 5 := Vector.replicate 5 {}
  pllLock : Bool := false
deriving DecidableEq, Repr

/-! ### Test access port (chapter 20) -/

/-- The test access port: the instruction in force, whether it controls the balls, what it shifts into the cells of
LASER_EN, HL_EN and SHUTTER_OUT (R554, R555). -/
structure Jtag where
  instr : JtagInstr := .idcode
  control : Bool := false
  laserCells : Nat := 0
  hlCell : Bool := false
  shutterCell : Bool := false
deriving DecidableEq, Repr

/-! ### What the module has sent -/

/-- One row slot: its TAG word, its CHECK word and its payload in the order of R292 (R294). -/
structure RowSlot where
  tag : Nat
  check : Nat
  payload : List Byte
deriving DecidableEq, Repr

/-- What the module has put on a wire, newest first in `State.outs`. -/
inductive Output where
  /-- An MSI-X message (R104). -/
  | msix (vector : Nat)
  /-- The 64 bytes of a completion ring entry, written to host memory at an address (R117, R126). -/
  | completion (address : Nat) (data : List Byte)
  /-- The 64 bytes of an event ring entry, written to host memory at an address (R117, R127). -/
  | event (address : Nat) (data : List Byte)
  /-- An LTR message: 20 µs for snoop and no-snoop latency, or both Requirement bits clear (R93). -/
  | ltr (required : Bool)
  /-- Data answering a PCIe read, the enabled bytes in ascending order, and whether its completion carries the EP bit (R419). -/
  | readData (data : List Byte) (poisoned : Bool)
  /-- An AER report (R94). -/
  | aer (error : Nat)
  /-- Data or acknowledgement answering an SMBus transaction, `none` for a NACK; and the PEC byte of a read (R113). -/
  | smbus (data : Option (List Byte)) (pec : Option Byte)
  /-- A Plane Link control frame: port, OP, operand bytes (R301). -/
  | plkFrame (port : Nat) (op : Nat) (operands : List Nat)
  /-- The row slots of a load on the data lanes of a port (R296). -/
  | plkBlock (port : Nat) (slots : List RowSlot)
  /-- A command frame on a Driver Link: bank, the 25 bits with START as bit 24 (R319). -/
  | dlink (bank : Nat) (frame : Nat)
  /-- A symbol on FSYNC_OUT: high cycles (R395). -/
  | fsync (highCycles : Nat)
  /-- A sample frame on an audio output: port, then word select and data at each of its 64 bit clocks (R440). -/
  | audio (port : Nat) (bits : List (Bool × Bool))
  /-- A DRAM refresh: channel, bank, 1 for a forced one (R424, R428). -/
  | refresh (channel : Nat) (forced : Nat)
  /-- A flash command: flash offset (R70, R520), what (1 append, 2 erase, 3 program). -/
  | flash (offset : Nat) (what : Nat)
  /-- What the test access port shifts out under IDCODE (R554). -/
  | idcode (value : Nat)
deriving DecidableEq, Repr

/-! ### The whole machine -/

/-- The module: every piece of state the spec gives it, and the queue of commands that wait, first in, first out. -/
structure State where
  /-- Commands waiting, the front one next. -/
  pending : List Instr := []
  /-- The TSC in cycles of 4 ns (R27), wrapping at 64 bits (R20). -/
  tsc : Nat := 0
  /-- The model's own counter behind its free values: DESIGN CHOICE (safe, log entry 11). -/
  freeCtr : Nat := 0
  /-- Registers held by BAR0 offset, canonical against their reset values. -/
  regs : List (Nat × Word) := []
  /-- Tallies held by BAR0 offset, canonical against 0 (R18). -/
  tallies : List (Nat × Word) := []
  /-- Reports on their way to the fault collector; empty between commands. -/
  reports : List Report := []
  /-- What has been sent, newest first. -/
  outs : List Output := []
  fuse : Fuse := {}
  pins : Pins := {}
  boot : Boot := {}
  glb : Glb := {}
  shPcie : Shadows := {}
  shSmb : Shadows := {}
  /-- SMBus address pointer (R112). -/
  smbPtr : Nat := 0
  hmi : Hmi := {}
  flt : Flt := {}
  img : Img := {}
  /-- FRAME_COUNT of FTG0, 48 bits (R20, R36). -/
  frame : Nat := 0
  /-- FTG0 runs (R37). -/
  ftgOn : Bool := false
  /-- Module DRAM, one byte a cell, canonical against 0 (R142). -/
  dram : List Host.Cell := []
  /-- DRAM words (address / 8) that read with an uncorrectable error, or are poisoned (R419, R421). -/
  badWords : List Nat := []
  /-- Those of them whose POISON bit is set (R417, R420). -/
  poisoned : List Nat := []
  cmp : Cmp := {}
  clr : Clr := {}
  pbu : Pbu := {}
  rck : Rck := {}
  plk : Vector Port 6 := Vector.replicate 6 {}
  pwr : Pwr := {}
  lsd : Lsd := {}
  lpe : Lpe := {}
  hls : Hls := {}
  cal : Cal := {}
  thm : Thm := {}
  ftg : Ftg := {}
  ver : Ver := {}
  mem : Mem := {}
  aud : Aud := {}
  jtag : Jtag := {}
  /-- VAUX_3V3 is dropped by a short and waits for its retry (R543). -/
  vauxDown : Bool := false
deriving DecidableEq, Repr

/-- The machine right after power-on reset (R19, R517, R527). -/
def State.reset : State := {}

end Sys2Proof.Machine
end

