-- ==== Sys2Proof/Machine/Ops.lean ====
section
/-! DEFINITION. The operations every unit shares: the register file and tallies, the DRAM, MSI-X vectors, events and completions of the host message interface, and reports to the fault collector. -/

namespace Sys2Proof.Machine

/-! ### Family (R1) -/

/-- PART_CODE of a variant (R1). -/
def partCode : Variant → Nat
  | .gna6460 => 0x6460
  | .gna6430 => 0x6430
  | .gna6410 => 0x6410

/-- Plane Link ports present (R1). -/
def nPorts (s : State) : Nat :=
  match s.fuse.variant with | .gna6460 => 6 | .gna6430 => 3 | .gna6410 => 1

/-- Video layers present (R1). -/
def nVideo (s : State) : Nat :=
  match s.fuse.variant with | .gna6460 => 4 | .gna6430 => 2 | .gna6410 => 1

/-- Graphic layers present (R1). -/
def nGfx (s : State) : Nat :=
  match s.fuse.variant with | .gna6460 => 12 | .gna6430 => 8 | .gna6410 => 4

/-- Laser banks present (R1). -/
def nBanks (s : State) : Nat :=
  match s.fuse.variant with | .gna6460 => 12 | .gna6430 => 6 | .gna6410 => 3

/-- Audio output ports present (R1). -/
def nAudOut (s : State) : Nat :=
  match s.fuse.variant with | .gna6460 => 4 | .gna6430 => 2 | .gna6410 => 0

/-- Whether the audio input port is present (R1). -/
def hasAudIn (s : State) : Bool :=
  match s.fuse.variant with | .gna6460 => true | .gna6430 => true | .gna6410 => false

/-- Whether the Highlight Scanner is present (R1). -/
def hasHls (s : State) : Bool :=
  match s.fuse.variant with | .gna6460 => true | .gna6430 => false | .gna6410 => false

/-- Fitted DRAM in GB (R1). -/
def dramGb (s : State) : Nat :=
  match s.fuse.variant with | .gna6460 => 16 | .gna6430 => 8 | .gna6410 => 8

/-- Whether an audio port index (0–3 outputs, 4 the input) is present (R1). -/
def audPresent (s : State) (p : Nat) : Bool :=
  if p = 4 then hasAudIn s else decide (p < nAudOut s)

/-- Whether a LAYERS record index names a present layer (R4, R172). -/
def layerPresent (s : State) (l : Nat) : Bool :=
  if l < 4 then decide (l < nVideo s) else decide (l - 4 < nGfx s ∧ l < 16)

/-! ### Register file and tallies (R18) -/

/-- Default thresholds and hysteresis of the sensors (R475): 16-bit signed pairs in 0.25 °C. -/
def thmReset (off : Nat) : Option Word :=
  let i := (off - 0x61000) / 0x20
  let r := off % 0x20
  if 0x61000 ≤ off ∧ off < 0x61000 + 0x20 * 35 then
    if r = 4 then
      some (BitVec.ofNat 32 (if i = 0 then fld 31 16 440 + fld 15 0 400
        else if i ≤ 16 then fld 31 16 6 + fld 15 0 4
        else if i ≤ 28 then fld 31 16 260 + fld 15 0 220
        else fld 31 16 280 + fld 15 0 240))
    else if r = 8 then
      some (BitVec.ofNat 32 (if i = 0 then fld 31 16 (twos 16 (-160)) + fld 15 0 (twos 16 (-180))
        else if i ≤ 16 then fld 31 16 1 + fld 15 0 0
        else if i ≤ 28 then fld 31 16 20 + fld 15 0 (twos 16 (-20))
        else fld 31 16 (twos 16 (-40)) + fld 15 0 (twos 16 (-80))))
    else none
  else none

/-- What a register holds after power-on reset (R19). -/
def regReset (off : Nat) : Word :=
  match thmReset off with
  | some w => w
  | none =>
    match regRow off with
    | some r => BitVec.ofNat 32 r.reset
    | none => 0

/-- The register file at a BAR0 offset. -/
def reg (s : State) (off : Nat) : Word := mapGet regReset s.regs off

/-- The register file at a BAR0 offset, as a number. -/
def regN (s : State) (off : Nat) : Nat := (reg s off).toNat

/-- Write the register file. -/
def setReg (s : State) (off : Nat) (v : Nat) : State :=
  { s with regs := mapSet regReset s.regs off (BitVec.ofNat 32 v) }

/-- A tally (R18). -/
def tally (s : State) (off : Nat) : Nat := (mapGet (fun _ => (0 : Word)) s.tallies off).toNat

/-- Set a tally. -/
def setTally (s : State) (off : Nat) (v : Nat) : State :=
  { s with tallies := mapSet (fun _ => (0 : Word)) s.tallies off (BitVec.ofNat 32 v) }

/-- The value at which a tally saturates (R18). -/
def tallyMax : Nat := 0xFFFFFFFF

/-- Whether a tally is saturated: its SAT bit (R18). -/
def tallySat (s : State) (off : Nat) : Bool := tally s off == tallyMax

/-- Add 1 to a tally without its event; the flag says that this count saturated it (R18). -/
def bumpRaw (s : State) (off : Nat) : State × Bool :=
  if tally s off = tallyMax then (s, false)
  else (setTally s off (tally s off + 1), decide (tally s off + 1 = tallyMax))

/-! ### Outputs and vectors -/

/-- Put something on a wire. -/
def emit (s : State) (o : Output) : State := { s with outs := o :: s.outs }

/-- The function may send requests: link up, Bus Master Enable set, power state D0 (R92, R95). -/
def canMaster (s : State) : Bool := s.hmi.busMaster && s.hmi.d0 && s.hmi.linkUp

/-- Signal an MSI-X vector; a masked vector, or one that cannot be sent, sets its pending bit (R104, R105). -/
def signal (s : State) (v : Nat) : State :=
  if (vget s.hmi.msix v {}).masked || !canMaster s then
    { s with hmi := { s.hmi with msixPending := s.hmi.msixPending ||| (1#64 <<< v) } }
  else emit s (.msix v)

/-- Send every vector that is pending and no longer held back (R105). -/
def flushVectors (s : State) : State :=
  forN 64 (fun s v =>
    if s.hmi.msixPending.getLsbD v && !(vget s.hmi.msix v {}).masked && canMaster s then
      emit { s with hmi := { s.hmi with msixPending := s.hmi.msixPending &&& ~~~(1#64 <<< v) } } (.msix v)
    else s) s

/-! ### Events (R121, R127) -/

/-- Entries of a ring from its size register (R140). -/
def ringSize (s : State) (off : Nat) : Nat := 2 ^ bits (regN s off) 3 0

/-- Entries of the command ring. -/
def cmdSize (s : State) : Nat := ringSize s 0x10018
/-- Entries of the completion ring. -/
def cplSize (s : State) : Nat := ringSize s 0x10028
/-- Entries of the event ring. -/
def evtSize (s : State) : Nat := ringSize s 0x10038

/-- Whether the negotiated version is at least major.minor; with none negotiated only version 1.0 counts as met. -/
def verAtLeast (s : State) (major minor : Nat) : Bool :=
  match s.hmi.version with
  | none => decide (major ≤ 1 ∧ minor = 0)
  | some v => decide (major < v.major ∨ (major = v.major ∧ minor ≤ v.minor))

/-- Whether TSC fields of entries are filled (R137: zero before 1.3). -/
def tscShown (s : State) : Bool :=
  match s.hmi.version with
  | none => true
  | some v => decide (2 ≤ v.major ∨ 3 ≤ v.minor)

/-- Signal vector 1 for a written event entry, with coalescing under 2.1 (R105). -/
def coalesceEvt (s : State) : State :=
  if verAtLeast s 2 1 then
    let c := regN s 0x10040
    let n := s.hmi.evtUnsig + 1
    if bits c 23 16 = 0 ∨ max 1 (bits c 31 24) ≤ n then
      signal { s with hmi := { s.hmi with evtUnsig := 0 } } 1
    else { s with hmi := { s.hmi with evtUnsig := n,
                                      evtFirst := if s.hmi.evtUnsig = 0 then s.tsc else s.hmi.evtFirst } }
  else signal s 1

/-- Signal vector 0 for a written completion entry, with coalescing under 2.1 (R105). -/
def coalesceCpl (s : State) : State :=
  if verAtLeast s 2 1 then
    let c := regN s 0x10040
    let n := s.hmi.cplUnsig + 1
    if bits c 7 0 = 0 ∨ max 1 (bits c 15 8) ≤ n then
      signal { s with hmi := { s.hmi with cplUnsig := 0 } } 0
    else { s with hmi := { s.hmi with cplUnsig := n,
                                      cplFirst := if s.hmi.cplUnsig = 0 then s.tsc else s.hmi.cplFirst } }
  else signal s 0

/-- The event ring takes an entry now: not failed, not full, and the function may write (R95, R119). -/
def evtWritable (s : State) : Bool :=
  s.hmi.enabled && !s.hmi.evtFailed && canMaster s &&
    decide ((s.hmi.evtTail + 1) % evtSize s ≠ s.hmi.evtHead)

/-- Base address of a ring in host memory, from its BASE_LO register on (R117, R140). -/
def hostRing (s : State) (off : Nat) : Nat := regN s (off + 4) * 2 ^ 32 + regN s off

/-- The first `n` bytes of a list, zeros behind its end. -/
def padTo (n : Nat) (l : List Byte) : List Byte := l.take n ++ List.replicate (n - l.length) 0

/-- The 64 bytes of an event entry (R127). -/
def evtBytes (phase : Bool) (e : Event) : List Byte :=
  leBytes 2 e.code ++ leBytes 1 (min 40 e.payload.length) ++ leBytes 1 (b2n phase) ++ leBytes 2 e.unit
    ++ List.replicate 10 0 ++ leBytes 8 e.tsc ++ padTo 40 e.payload

/-- The write of an event entry at the tail, with the phase of the pass (R117, R118, R127, R137). -/
def evtWrite (s : State) (e : Event) : Output :=
  .event (hostRing s 0x10030 + 64 * s.hmi.evtTail) (evtBytes s.hmi.evtPhase (if tscShown s then e else { e with tsc := 0 }))

/-- Write one event entry at the tail, and signal vector 1. -/
def writeEvt (s : State) (e : Event) : State :=
  let s1 := emit s (evtWrite s e)
  let t := (s.hmi.evtTail + 1) % evtSize s
  coalesceEvt { s1 with hmi := { s1.hmi with
    evtTail := t, evtPhase := if t = 0 then !s1.hmi.evtPhase else s1.hmi.evtPhase } }

/-- Report to the fault collector; the collector acts at the end of the step (R497). -/
def report (s : State) (r : Report) : State := { s with reports := s.reports ++ [r] }

/-- Report what the ECC of an on-chip store met: a corrected error with one source, an uncorrectable one with another. -/
def storeReport (s : State) (e : StoreError) (ce ue : Nat) : State :=
  match e with
  | .none => s
  | .corrected => report s { source := ce }
  | .uncorrectable => report s { source := ue }

/-- BAR0 offset of HMI_EVT_LOST. -/
def offEvtLost : Nat := 0x10048

/-- Drop an event: count it, and begin an overflow episode with fault 0x12 (R121). A count that saturates the tally
raises TALLY_SATURATED, which the full queue drops as well. -/
def dropEvt (s : State) : State :=
  let p := bumpRaw s offEvtLost
  let s1 := p.1
  let s2 := { s1 with hmi := { s1.hmi with
    lost := min tallyMax (s1.hmi.lost + 1 + b2n p.2), episode := true } }
  if s.hmi.episode then s2 else report s2 { source := 0x12 }

/-- Offer an event to the ring: write it, queue it, or drop it; discarded while the rings are off (R121). -/
def pushEvt (s : State) (e : Event) : State :=
  if !s.hmi.enabled then s
  else if s.hmi.evtQueue.isEmpty && evtWritable s then writeEvt s e
  else if s.hmi.evtQueue.length < 512 then
    { s with hmi := { s.hmi with evtQueue := s.hmi.evtQueue ++ [e] } }
  else dropEvt s

/-- Post an event of every version (R127). -/
def post (s : State) (code unit : Nat) (payload : List Byte) : State :=
  pushEvt s { code := code, unit := unit, tsc := s.tsc, payload := payload }

/-- Post an event that only versions from 2.0 carry. -/
def post2 (s : State) (code unit : Nat) (payload : List Byte) : State :=
  if verAtLeast s 2 0 then post s code unit payload else s

/-- Add 1 to a tally; the count that saturates it posts TALLY_SATURATED once (R18, R515). -/
def bump (s : State) (off : Nat) : State :=
  let p := bumpRaw s off
  if p.2 then post p.1 0x0002 0 (leBytes 4 off) else p.1

/-- Add `n` to a tally. -/
def bumpBy (s : State) (off n : Nat) : State := forN n (fun s _ => bump s off) s

/-! ### Completions (R122, R126) -/

/-- Status codes of completions and rejections (R130). -/
inductive Status where
  | ok | badOpcode | badLength | outOfRange | badState | busy | unitAbsent | version | authFail
  | noResource | fenced | checkFail | timeout | unsupported
deriving DecidableEq, Repr

/-- The code of a status (R130). -/
def Status.code : Status → Nat
  | .ok => 0
  | .badOpcode => 1
  | .badLength => 2
  | .outOfRange => 3
  | .badState => 4
  | .busy => 5
  | .unitAbsent => 6
  | .version => 7
  | .authFail => 8
  | .noResource => 9
  | .fenced => 10
  | .checkFail => 11
  | .timeout => 12
  | .unsupported => 13

/-- The code a version carries: version 1 maps the later ones (R137). -/
def statusFor (v : Version) (st : Nat) : Nat :=
  if v.major = 1 then
    if st = 10 ∨ st = 11 ∨ st = 12 then 4
    else if st = 13 then 1
    else if st = 6 ∧ v.minor < 4 then 1
    else st
  else st

/-- The completion ring takes an entry now (R95, R120). -/
def cplWritable (s : State) : Bool :=
  s.hmi.enabled && !s.hmi.cplFailed && canMaster s &&
    decide ((s.hmi.cplTail + 1) % cplSize s ≠ s.hmi.cplHead)

/-- The 64 bytes of a completion entry (R126). -/
def cplBytes (phase : Bool) (c : Completion) : List Byte :=
  leBytes 2 c.opcode ++ leBytes 1 (min 40 c.result.length) ++ leBytes 1 (b2n phase + 2 * b2n c.dupTag) ++ leBytes 2 c.tag
    ++ leBytes 1 c.status ++ leBytes 1 0 ++ leBytes 2 c.cmdHead ++ List.replicate 6 0 ++ leBytes 8 c.tsc ++ padTo 40 c.result

/-- The write of a completion entry at the tail, with the phase of the pass (R117, R118, R126). -/
def cplWrite (s : State) (c : Completion) : Output :=
  .completion (hostRing s 0x10020 + 64 * s.hmi.cplTail) (cplBytes s.hmi.cplPhase c)

/-- Write one completion entry at the tail, and signal vector 0. -/
def writeCpl (s : State) (c : Completion) : State :=
  let s1 := emit s (cplWrite s c)
  let t := (s.hmi.cplTail + 1) % cplSize s
  coalesceCpl { s1 with hmi := { s1.hmi with
    cplTail := t, cplPhase := if t = 0 then !s1.hmi.cplPhase else s1.hmi.cplPhase } }

/-- Post a completion: written, or held until the ring takes it (R120); a failed ring takes none (R119). -/
def postCpl (s : State) (c : Completion) : State :=
  if !s.hmi.enabled || s.hmi.cplFailed then s
  else if s.hmi.cplQueue.isEmpty && cplWritable s then writeCpl s c
  else { s with hmi := { s.hmi with cplQueue := s.hmi.cplQueue ++ [c] } }

/-- Write held completions while the ring takes them, at most `n`. -/
def drainCpl (n : Nat) (s : State) : State :=
  match n with
  | 0 => s
  | k + 1 =>
    match s.hmi.cplQueue with
    | [] => s
    | c :: t =>
      if cplWritable s then drainCpl k (writeCpl { s with hmi := { s.hmi with cplQueue := t } } c) else s

/-- Commands in flight: fetched and not completed; those that version 1 holds for ring order have completed (R120, R137). -/
def flying (s : State) : Nat := (s.hmi.inFlight.filter (fun f => f.done.isNone)).length

/-- The completion entry of a command (R126). -/
def cplEntry (s : State) (f : InFlight) (st : Nat) (res : List Byte) : Completion :=
  { opcode := f.opcode, dupTag := f.dup, tag := f.cmd.tag.toNat, status := statusFor f.ver st, cmdHead := f.head,
    tsc := if f.ver.major = 1 ∧ f.ver.minor < 3 then 0 else s.tsc, result := res.take 40 }

/-- Whether a completion is posted at all: not muted (R97, R140), and not NO_CPL with OK (R125). -/
def cplShown (f : InFlight) (st : Nat) : Bool :=
  !f.mute && !(f.cmd.flags.getLsbD 1 && decide (st = 0))

/-- The state with other commands in flight. -/
def withInFlight (s : State) (l : List InFlight) : State := { s with hmi := { s.hmi with inFlight := l } }

/-- Post the finished commands at the front of the ring order (R137). -/
def flushOrdered (n : Nat) (s : State) : State :=
  match n with
  | 0 => s
  | k + 1 =>
    match s.hmi.inFlight with
    | [] => s
    | f :: t =>
      match f.done with
      | none => s
      | some (st, res) =>
        let s1 := withInFlight s t
        flushOrdered k (if cplShown f st then postCpl s1 (cplEntry s1 f st res) else s1)

/-- BAR0 offset of HMI_CMD_TALLY. -/
def offCmdTally : Nat := 0x1004C

/-- A command completes: it leaves the commands in flight and its completion is posted, under version 1 in ring order
(R122, R137). -/
def complete (s : State) (id : Nat) (st : Status) (res : List Byte) : State :=
  match s.hmi.inFlight.find? (fun f => f.id == id) with
  | none => s
  | some f =>
    let s1 := bump s offCmdTally
    if f.ver.major = 1 then
      let l := s1.hmi.inFlight.map (fun g => if g.id == id then { g with done := some (st.code, res) } else g)
      flushOrdered l.length (withInFlight s1 l)
    else
      let s2 := withInFlight s1 (s1.hmi.inFlight.filter (fun g => g.id != id))
      if cplShown f st.code then postCpl s2 (cplEntry s2 f st.code res) else s2

/-- Complete the command that waits, if one does. -/
def completeOpt (s : State) (id : Option Nat) (st : Status) (res : List Byte) : State :=
  match id with
  | none => s
  | some i => complete s i st res

/-! ### DRAM (R142) -/

/-- What an unlisted byte of DRAM reads as. DESIGN CHOICE (UNSAFE, log entry 3): R146 leaves the content after
power-on reset undefined. -/
def dramDefault (_ : Nat) : Byte := 0

/-- Usable bytes: fitted less the inline ECC eighth (R142). -/
def usable (s : State) : Nat := dramGb s * 0x40000000 / 8 * 7

/-- Base of the reserved area: the last 256 MB of the usable space (R142, R145). -/
def reservedBase (s : State) : Nat := usable s - 0x10000000

/-- One byte of DRAM. -/
def rd (s : State) (a : Nat) : Byte := mapGet dramDefault s.dram a

/-- Write one byte of DRAM. -/
def wr (s : State) (a : Nat) (b : Byte) : State := { s with dram := mapSet dramDefault s.dram a b }

/-- `n` bytes of DRAM from `a`. -/
def rdBytes (s : State) (a n : Nat) : List Byte := (List.range n).map (fun i => rd s (a + i))

/-- The little-endian number of `n` bytes at `a`. -/
def rdN (s : State) (a n : Nat) : Nat := leNat (rdBytes s a n)

/-- Write bytes at `a` upward, without regard to the words they stand in. -/
def wrRaw (s : State) (a : Nat) (l : List Byte) : State :=
  match l with
  | [] => s
  | b :: t => wrRaw (wr s a b) (a + 1) t

/-- What a write of `n` bytes from `a` does to uncorrectable words: a whole word written is good again, a part of one
merges into the uncorrectable word and poisons it (R419, R420). -/
def healWords (s : State) (a n : Nat) : State :=
  let whole (w : Nat) : Bool := decide (a ≤ 8 * w ∧ 8 * w + 8 ≤ a + n)
  let part (w : Nat) : Bool := decide (8 * w < a + n ∧ a < 8 * w + 8) && !whole w
  { s with
    badWords := s.badWords.filter (fun w => !whole w),
    poisoned := (s.poisoned.filter (fun w => !whole w)) ++ s.badWords.filter (fun w => part w && !s.poisoned.contains w) }

/-- Write bytes at `a` upward. -/
def wrBytes (s : State) (a : Nat) (l : List Byte) : State := healWords (wrRaw s a l) a l.length

/-- Set every byte of a range to 0: the listed cells of the range go. -/
def zeroRange (s : State) (a n : Nat) : State :=
  healWords { s with dram := s.dram.filter (fun c => !decide (a ≤ c.1 ∧ c.1 < a + n)) } a n

/-- Take the next free value: what the spec leaves undefined and the machine goes on with. -/
def free (s : State) : Word × State :=
  (Config.freeWord s.freeCtr, { s with freeCtr := s.freeCtr + 1 })

/-- What a command comes to: a completion now, or later by an event the owning chapter names (R122). -/
inductive Reply where
  | now (st : Status) (res : List Byte)
  | later
deriving DecidableEq, Repr

/-- A power domain is ON; a domain that serves only absent units never is (R11). -/
def domainOn (s : State) (d : Nat) : Bool := vget s.pwr.dom d .off == .on

/-- The running activation or start-up stands in QUIESCED or SWITCHED, or in start-up stage 8, which acts as SWITCHED
(R78, R179, R524). -/
def inSwitch (s : State) : Bool :=
  s.img.state == .quiesced || s.img.state == .switched || s.boot.stage == 8

/-- Cycles of one millisecond (R29). -/
def msCycles : Nat := 250000

end Sys2Proof.Machine
end

