-- ==== Sys2Proof/Machine/Mem.lean ====
section
/-! DEFINITION. Memory map, surfaces, pixel formats, KTC tiles, buffers and fences (chapter 4). -/

namespace Sys2Proof.Machine

/-- The running configuration; an empty one while no image runs. -/
def cfg (s : State) : ImageCfg := s.img.cfg.getD {}

/-! ### Address map (R142–R145) -/

/-- Device regions among the streams of a plan: carry, plane write, plane read (R143), each once. -/
def devRegionsOf (plan : List StreamCfg) : List (Nat × Nat) :=
  ((plan.filter (fun r => r.stream == 1 || r.stream == 2 || r.stream == 3)).map
    (fun r => (r.base, r.size))).eraseDups

/-- Device regions in force: those of the ACTIVE image, and during TRIAL those of the image before (R144). -/
def devRegions (s : State) : List (Nat × Nat) :=
  (devRegionsOf (cfg s).plan ++ devRegionsOf s.img.oldPlan).eraseDups

/-- Permanent entries of the fence table: the device regions of the ACTIVE image and the reserved area (R164, R165). -/
def permanentFences (s : State) : Nat := 1 + (devRegionsOf (cfg s).plan).length

/-- What an address belongs to (R149). -/
inductive Area where
  | host | device | reserved | beyond
deriving DecidableEq, Repr

/-- The area of a DRAM address (R142, R144, R149). -/
def areaOf (s : State) (a : Nat) : Area :=
  if usable s ≤ a then .beyond
  else if reservedBase s ≤ a then .reserved
  else if (devRegions s).any (fun r => decide (r.1 ≤ a ∧ a < r.1 + r.2)) then .device
  else .host

/-- Whether a whole range lies in the host area (R144). -/
def inHostArea (s : State) (lo hi : Nat) : Bool :=
  decide (hi ≤ reservedBase s) && (devRegions s).all (fun r => decide (hi ≤ r.1 ∨ r.1 + r.2 ≤ lo ∨ hi ≤ lo))

/-! ### Errors of DRAM words (R418–R421) -/

/-- A single-bit error was corrected: fault 0x20, with the requester's unit (R418). -/
def dramCe (s : State) (addr unit : Nat) : State :=
  report (bump { s with mem := { s.mem with eccAddr := addr, eccUe := false, eccPoison := false } } 0x100020)
    { source := 0x20, address := addr, master := unit }

/-- A request of a unit met an uncorrectable or poisoned word: fault 0x21, of the injection that caused it or real, then
perhaps coincident with one (R419, R421, R512). -/
def dramUe (s : State) (addr unit : Nat) (inj : Option Injection) (coincident : Bool) : State :=
  report (bump { s with mem := { s.mem with eccAddr := addr, eccUe := true, eccPoison := s.poisoned.contains (addr / 8) } } 0x100024)
    { source := 0x21, address := addr, master := unit, injected := inj.isSome, react := inj.elim true (·.react),
      coincident := coincident }

/-- A unit's reads meet DRAM errors: words newly uncorrectable stay so; each corrected one counts once, and is written back
(R418, R419). -/
def meetErrors (s : State) (e : DramErrs) (unit : Nat) : State :=
  let real (w : Nat) : Bool := decide (8 * w < usable s)
  let s1 := { s with badWords := s.badWords ++ (e.ue.eraseDups.filter (fun w => real w && !s.badWords.contains w)) }
  (e.ce.eraseDups.filter (fun w => real w && !s1.badWords.contains w)).foldl (fun s w => dramCe s (8 * w) unit) s1

/-- A DRAM word is uncorrectable or poisoned (R419). -/
def badAt (s : State) (a : Nat) : Bool := s.badWords.contains (a / 8)

/-- First byte of a range that lies in a word read as uncorrectable. -/
def firstBad (s : State) (a n : Nat) : Option Nat :=
  (s.badWords.filter (fun w => decide (a / 8 ≤ w ∧ w ≤ (a + n - 1) / 8 ∧ 0 < n))).foldl
    (fun (m : Option Nat) w => some (m.elim (max a (8 * w)) (min (max a (8 * w))))) none

/-- The injected uncorrectable read armed on source 0x21 for a word of a range (R421). -/
def armedUe (s : State) (a n : Nat) : Option Injection :=
  match (vget s.flt.srcs 0x21 {}).armed with
  | some i => if decide (a / 8 ≤ i.address / 8 ∧ i.address / 8 ≤ (a + n - 1) / 8 ∧ 0 < n) then some i else none
  | none => none

/-- A read of a range meets an uncorrectable word, stored or injected. -/
def readHits (s : State) (a n : Nat) : Bool := (firstBad s a n).isSome || (armedUe s a n).isSome

/-- The injection on a source is taken. -/
def disarm (s : State) (src : Nat) : State :=
  { s with flt := { s.flt with srcs := vmod s.flt.srcs src (fun x => { x with armed := none }) } }

/-- What one request reports: the first bad byte it met and the injection it took, as one record (R419, R421). -/
def reportUe (s : State) (bad : Option Nat) (inj : Option Injection) (unit : Nat) : State :=
  match bad, inj with
  | none, none => s
  | some x, none => dramUe s x unit none false
  | none, some i => dramUe (disarm s 0x21) i.address unit (some i) false
  | some x, some _ => dramUe (disarm s 0x21) x unit none true

/-- One read request of a unit over a range, as far as uncorrectable words go (R419, R421). -/
def readUe (s : State) (a n unit : Nat) : State := reportUe s (firstBad s a n) (armedUe s a n) unit

/-- No word can read as uncorrectable: nothing is stored so and no injection waits. -/
def dramClean (s : State) : Bool := s.badWords.isEmpty && (vget s.flt.srcs 0x21 {}).armed.isNone

/-! ### Surfaces (R150–R153) -/

/-- Bytes per pixel of a format (R153). -/
def bytesPP (fmt : Nat) : Nat :=
  if fmt = 0 then 2 else if fmt = 1 then 2 else if fmt = 2 then 3 else 4

/-- The footprint of a surface as ranges lo ≤ a < hi (R152). -/
def footprint (f : Surface) : List (Nat × Nat) :=
  if f.ktc then
    [(f.base, f.base + f.pitch * 8 * ceilDiv f.height 8),
     (f.headerBase, f.headerBase + 8 * ceilDiv f.width 8 * ceilDiv f.height 8)]
  else [(f.base, f.base + f.pitch * (f.height - 1) + f.width * bytesPP f.format)]

/-- A surface descriptor read from 32 payload bytes (R150). -/
def surfaceOf (p : List Byte) : Surface :=
  { base := leAt p 0 8, headerBase := leAt p 8 8, pitch := leAt p 16 4, width := leAt p 20 2,
    height := leAt p 22 2, format := byteAt p 24, ktc := bitAt (byteAt p 25) 0, bufferId := leAt p 26 2 }

/-- The encodings of a descriptor's own fields (R150, R176). -/
def surfaceEncOk (p : List Byte) : Bool :=
  let f := surfaceOf p
  decide (f.base % (if f.ktc then 256 else 64) = 0) &&
  (if f.ktc then decide (f.headerBase % 64 = 0) else decide (f.headerBase = 0)) &&
  decide (f.pitch % 64 = 0 ∧ 64 ≤ f.pitch ∧ f.pitch ≤ 65536) &&
  decide (1 ≤ f.width ∧ f.width ≤ 8192 ∧ 1 ≤ f.height ∧ f.height ≤ 8192) &&
  decide (f.format ≤ 4) && decide (byteAt p 25 < 2) && decide (leAt p 28 4 = 0)

/-- The encodings of a descriptor already held (R150). -/
def surfaceFieldsOk (f : Surface) : Bool :=
  decide (f.base % (if f.ktc then 256 else 64) = 0) &&
  (if f.ktc then decide (f.headerBase % 64 = 0) else decide (f.headerBase = 0)) &&
  decide (f.pitch % 64 = 0 ∧ 64 ≤ f.pitch ∧ f.pitch ≤ 65536) &&
  decide (1 ≤ f.width ∧ f.width ≤ 8192 ∧ 1 ≤ f.height ∧ f.height ≤ 8192) && decide (f.format ≤ 4)

/-- A descriptor is valid (R151). -/
def surfaceValid (s : State) (f : Surface) : Bool :=
  surfaceFieldsOk f &&
  (if f.ktc then decide (f.format = 3 ∨ f.format = 4) && decide (ceilDiv f.width 8 * 32 ≤ f.pitch)
   else decide (f.width * bytesPP f.format ≤ f.pitch)) &&
  (footprint f).all (fun r => inHostArea s r.1 r.2)

/-! ### Pixels (R153–R158) -/

/-- One pixel as 16-bit components. -/
structure Px where
  a : Nat := 0
  r : Nat := 0
  g : Nat := 0
  b : Nat := 0
deriving DecidableEq, Repr

/-- Copies of a w-bit value from bit 15 downward, the last cut off (R154): `n` copies left at shift `sh`. -/
def expandFrom (n v w : Nat) (sh : Int) : Nat :=
  match n with
  | 0 => 0
  | k + 1 =>
    if sh ≤ -(w : Int) then 0
    else (if 0 ≤ sh then v * 2 ^ sh.toNat else v / 2 ^ (-sh).toNat) ||| expandFrom k v w (sh - w)

/-- Expansion of a w-bit component to 16 bits by replication (R154). -/
def expand (v w : Nat) : Nat := expandFrom 17 v w (16 - w) % 65536

/-- Widths of the components A, R, G, B of a format; 0 means no alpha (R153). -/
def compWidths (fmt : Nat) : Nat × Nat × Nat × Nat :=
  if fmt = 0 then (0, 5, 6, 5) else if fmt = 1 then (1, 5, 5, 5) else if fmt = 2 then (0, 8, 8, 8)
  else if fmt = 3 then (8, 8, 8, 8) else (2, 10, 10, 10)

/-- The raw components A, R, G, B of a stored pixel (R153). -/
def rawComps (fmt w : Nat) : Nat × Nat × Nat × Nat :=
  let (wa, wr, wg, wb) := compWidths fmt
  ((w / 2 ^ (wb + wg + wr)) % 2 ^ wa, (w / 2 ^ (wb + wg)) % 2 ^ wr, (w / 2 ^ wb) % 2 ^ wg, w % 2 ^ wb)

/-- A stored pixel as 16-bit components (R154). -/
def pxOf (fmt w : Nat) : Px :=
  let (wa, wr, wg, wb) := compWidths fmt
  let (a, r, g, b) := rawComps fmt w
  { a := if wa = 0 then 65535 else expand a wa, r := expand r wr, g := expand g wg, b := expand b wb }

/-- `n` bits of a little-endian bit stream at bit `i` (R157). -/
def streamBits (l : List Byte) (i n : Nat) : Nat := (leNat l / 2 ^ i) % 2 ^ n

/-- Index width of a palette of N entries (R157). -/
def paletteBits (n : Nat) : Nat := if n ≤ 2 then 1 else if n ≤ 4 then 2 else if n ≤ 8 then 3 else 4

/-- One DELTA pixel: base plus sign-extended residuals, each modulo its component's width (R157). -/
def deltaPixel (fmt value kc ka : Nat) (data : List Byte) (p : Nat) : Nat :=
  let (wa, wr, wg, wb) := compWidths fmt
  let (a, r, g, b) := rawComps fmt value
  let o := p * (3 * kc + ka)
  let add (base w k i : Nat) : Nat := twos w ((base : Int) + signed k (streamBits data i k))
  let b' := add b wb kc o
  let g' := add g wg kc (o + kc)
  let r' := add r wr kc (o + 2 * kc)
  let a' := if ka = 0 then a else add a wa ka (o + 3 * kc)
  ((a' * 2 ^ wr + r') * 2 ^ wg + g') * 2 ^ wb + b'

/-- The 64 pixels of a KTC tile from its header and data slot, `none` on a decode error (R156–R158). -/
def decodeTile (fmt hdr : Nat) (slot : List Byte) : Option (List Nat) :=
  let value := bits hdr 63 32
  let p1 := bits hdr 15 12
  let p0 := bits hdr 11 8
  let size := bits hdr 7 4
  let mode := bits hdr 2 0
  if bits hdr 31 16 ≠ 0 ∨ bitAt hdr 3 = true ∨ 3 < mode then none
  else if mode = 0 then
    if value = 0 ∧ p0 = 0 ∧ p1 = 0 ∧ size = 8 then
      some ((List.range 64).map (fun p => leAt slot (4 * p) 4))
    else none
  else if mode = 1 then
    if p0 = 0 ∧ p1 = 0 ∧ size = 0 then some (List.replicate 64 value) else none
  else if mode = 2 then
    if 1 ≤ p0 ∧ p0 ≤ 8 ∧ p1 ≤ 8 ∧ size = ceilDiv (3 * p0 + p1) 4 then
      some ((List.range 64).map (fun p => deltaPixel fmt value p0 p1 slot p))
    else none
  else
    let n := p0 + 1
    let b := paletteBits n
    let idx := (List.range 64).map (fun p => streamBits (slot.drop (4 * n)) (b * p) b)
    if value = 0 ∧ p1 = 0 ∧ 1 ≤ p0 ∧ size = ceilDiv (4 * n + 8 * b) 32 ∧ idx.all (fun i => decide (i < n)) = true then
      some (idx.map (fun i => leAt slot (4 * i) 4))
    else none

/-- The tile (tx, ty) of a KTC surface as DRAM holds it now (R155). -/
def tileAt (s : State) (f : Surface) (tx ty : Nat) : Option (List Nat) :=
  let tilesX := ceilDiv f.width 8
  decodeTile f.format (rdN s (f.headerBase + 8 * (ty * tilesX + tx)) 8)
    (rdBytes s (f.base + ty * f.pitch * 8 + tx * 256) 256)

/-- Addresses of the header and of the data slot of a tile (R155). -/
def tileAddrs (f : Surface) (tx ty : Nat) : Nat × Nat :=
  (f.headerBase + 8 * (ty * ceilDiv f.width 8 + tx), f.base + ty * f.pitch * 8 + tx * 256)

/-- The reads of a tile: its header and what its mode stores of the data slot (R155, R156). -/
def tileReads (s : State) (f : Surface) (tx ty : Nat) : List (Nat × Nat) :=
  let (h, d) := tileAddrs f tx ty
  [(h, 8), (d, 32 * bits (rdN s h 8) 7 4)]

/-- The reads that pixel (x, y) of a surface draws on, as address and length: its own bytes; in a KTC tile the header, and
of the data slot the pixel's own word in RAW mode, all the fetched bytes in DELTA and PALETTE (R153, R155–R157). -/
def pixelReads (s : State) (f : Surface) (x y : Nat) : List (Nat × Nat) :=
  if f.ktc then
    let (h, d) := tileAddrs f (x / 8) (y / 8)
    let hdr := rdN s h 8
    (h, 8) :: (if bits hdr 2 0 = 0 then [(d + 4 * ((y % 8) * 8 + x % 8), 4)]
      else if bits hdr 2 0 = 1 then [] else [(d, 32 * bits hdr 7 4)])
  else [(f.base + y * f.pitch + x * bytesPP f.format, bytesPP f.format)]

/-- Pixel (x, y) of a surface (R153, R155); a tile with a decode error gives transparent black (R158), and a pixel that
draws on an uncorrectable word is 0 in every component (R419). -/
def surfacePx (s : State) (f : Surface) (x y : Nat) : Px :=
  if !dramClean s && (pixelReads s f x y).any (fun r => readHits s r.1 r.2) then {}
  else if f.ktc then
    match tileAt s f (x / 8) (y / 8) with
    | some l => pxOf f.format (l.getD ((y % 8) * 8 + x % 8) 0)
    | none => {}
  else pxOf f.format (rdN s (f.base + y * f.pitch + x * bytesPP f.format) (bytesPP f.format))

/-! ### Buffers and fences (R159–R166) -/

/-- A buffer's range rounded outward to 64 bytes (R164). -/
def round64 (r : Nat × Nat) : Nat × Nat := (r.1 / 64 * 64, ceilDiv r.2 64 * 64)

/-- The buffers of a layer that are not yet released: pending, current, retiring (R159). A state with ENABLE = 0 names none. -/
def layerBuffers (l : Layer) : List Surface :=
  (match l.pend with | some p => if p.st.geom.enable then [p.st.surf] else [] | none => []) ++
  (if l.cur.geom.enable then [l.cur.surf] else []) ++ l.retiring.map (·.surf)

/-- Buffer fences: layer, BUFFER_ID, range (R164). -/
def bufFences (s : State) : List (Nat × Nat × Nat × Nat) :=
  (List.range 16).flatMap (fun l =>
    (layerBuffers (vget s.cmp.layers l {})).flatMap (fun f =>
      (footprint f).map (fun r => (l, f.bufferId, (round64 r).1, (round64 r).2))))

/-- Whether a buffer fences a byte (R164). -/
def bufFenced (s : State) (a : Nat) : Bool :=
  (bufFences s).any (fun f => decide (f.2.2.1 ≤ a ∧ a < f.2.2.2))

/-- RETIRE of a buffer that is released: its fences are gone before it is posted (R162, R169). -/
def postRetire (s : State) (layer : Nat) (f : Surface) (flags frame : Nat) : State :=
  post (bump s 0x1F001C) 0x0301 layer
    (leBytes 2 f.bufferId ++ leBytes 1 layer ++ leBytes 1 flags ++ leBytes 4 0 ++ leBytes 8 f.base ++ leBytes 8 frame)

/-- First fence in a range: kind, layer, BUFFER_ID, first address (R168). -/
def fenceQuery (s : State) (addr len : Nat) : Nat × Nat × Nat × Nat :=
  let hi := addr + len
  let hits : List (Nat × Nat × Nat × Nat) :=
    ((bufFences s).filter (fun f => decide (f.2.2.1 < hi ∧ addr < f.2.2.2))).map
      (fun f => (1, f.1, f.2.1, max addr f.2.2.1)) ++
    ((devRegions s).filter (fun r => decide (r.1 < hi ∧ addr < r.1 + r.2))).map
      (fun r => (2, 255, 0, max addr r.1)) ++
    (if reservedBase s < hi then [(3, 255, 0, max addr (reservedBase s))] else [])
  hits.foldl (fun b h =>
      if h.2.2.2 < b.2.2.2 ∨ (h.2.2.2 = b.2.2.2 ∧ h.1 = 1 ∧ b.1 = 1 ∧ h.2.1 < b.2.1) then h else b)
    (0, 255, 0, 0xFFFFFFFFFFFFFFFF)

/-- Base of the BAR2 window in DRAM (R147). -/
def bar2Base (s : State) : Nat := bits (regN s 0x1F0004) 5 0 * 0x10000000

end Sys2Proof.Machine
end

