-- ==== Sys2Proof/Machine/Pixel.lean ====
section
/-! DEFINITION. The pixel path: scaling, linearisation, conversion, blending, white balance, code value and carry (chapters 5 and 6), as functions of what DRAM and the pass hold. -/

namespace Sys2Proof.Machine

/-! ### Layers of a configuration -/

/-- The LAYERS record of a layer. -/
def layerCfg (s : State) (l : Nat) : LayerCfg := (cfg s).layers.getD l {}

/-- The highlight layer: index 15 with FLAGS bit 1 in its record (R173). -/
def isHighlight (s : State) (l : Nat) : Bool := decide (l = 15) && bitAt (layerCfg s 15).flags 1

/-- A layer that TOPOLOGY enables (R172). -/
def layerEnabled (s : State) (l : Nat) : Bool :=
  if l < 4 then bitAt (cfg s).topo.videoMask l else bitAt (cfg s).topo.gfxMask (l - 4)

/-- Whether a canvas pixel lies in a DST rectangle. -/
def inDst (g : Geom) (x y : Nat) : Bool :=
  decide (g.dstX ≤ x ∧ x < g.dstX + g.dstW ∧ g.dstY ≤ y ∧ y < g.dstY + g.dstH)

/-! ### The progress of a pass (R167, R198) -/

/-- Canvas lines that a running pass has composed: 8 pixels per clock of 800 MHz, 25.6 a cycle. -/
def linesComposed (s : State) (p : Pass) : Nat :=
  let c := (cfg s).canvas
  min c.height ((s.tsc - p.start) * 128 / (5 * c.width))

/-- The canvas line being composed; 0 while none is (R202, log entry 69). -/
def passLineNow (s : State) (p : Pass) : Nat :=
  if p.mode == .running then min ((cfg s).canvas.height - 1) (linesComposed s p) else 0

/-- Canvas lines whose data the pass has fetched, and whose codes stand in the row store. -/
def linesFetched (s : State) (p : Pass) : Nat :=
  match p.mode with
  | .running => linesComposed s p
  | .complete => (cfg s).canvas.height
  | _ => 0

/-- What the pass reads of DRAM for a canvas line: what DRAM held when the line was fetched, the words that read as 0 for an
injection among the uncorrectable ones (R167, R421). -/
def fetched (s : State) (p : Pass) (y : Nat) : State :=
  let s1 := if p.zeroed.isEmpty then s else { s with badWords := p.zeroed ++ s.badWords }
  match p.held.find? (fun e => decide (y < e.1)) with
  | some e => { s1 with dram := e.2 }
  | none => s1

/-- A host write reaches fenced bytes: what the pass under way has fetched so far stays as it was read (R167). -/
def holdFetched (s : State) : State :=
  match s.cmp.pass with
  | some p =>
    let n := linesFetched s p
    if n = 0 then s
    else { s with cmp := { s.cmp with pass := some { p with held := p.held ++ [(n, s.dram)] } } }
  | none => s

/-! ### Scaling (R187, R188) -/

/-- Source index and phase of canvas position d (R187). -/
def scalePos (src dst d : Nat) : Int × Nat :=
  let step := ((src * 1048576 + dst / 2) / dst) % 4294967296
  let pos : Int := (step / 2 : Nat) - 524288 + (d : Int) * step
  (pos / 1048576, (pos / 16384 % 64).toNat)

/-- Scaler coefficient of a video layer by its index in the block (R188). -/
def coefAt (s : State) (v i : Nat) : Int := mapGet (fun _ => (0 : Int)) (vget s.cmp.coef v []) i

/-- Clamp to 0..65,535 (R188). -/
def sat16 (v : Int) : Nat := (clampI 0 65535 v).toNat

/-- A component of a pixel: 0 alpha, 1 red, 2 green, 3 blue. -/
def comp (p : Px) (c : Nat) : Nat := if c = 0 then p.a else if c = 1 then p.r else if c = 2 then p.g else p.b

/-- Vertically filtered component at source column i (R188). -/
def scaleV (s : State) (v : Nat) (st : LayerSt) (bank c i : Nat) (j : Int) (ph : Nat) : Nat :=
  let g := st.geom
  let acc := (List.range 6).foldl (fun (a : Int) (k : Nat) =>
    let jj := (clampI 0 ((g.srcH : Int) - 1) (j - 2 + k)).toNat
    a + coefAt s v (bank * 896 + 512 + 6 * ph + k) * comp (surfacePx s st.surf (g.srcX + i) (g.srcY + jj)) c) 0
  sat16 ((acc + 8192) / 16384)

/-- One component of a scaled video pixel at canvas offset (dx, dy) (R188). -/
def scaleC (s : State) (v : Nat) (st : LayerSt) (dx dy c : Nat) : Nat :=
  let g := st.geom
  let bank := b2n g.coefBank
  let (i, ph) := scalePos g.srcW g.dstW dx
  let (j, pv) := scalePos g.srcH g.dstH dy
  let acc := (List.range 8).foldl (fun (a : Int) (k : Nat) =>
    let ii := (clampI 0 ((g.srcW : Int) - 1) (i - 3 + k)).toNat
    a + coefAt s v (bank * 896 + 8 * ph + k) * (scaleV s v st bank c ii j pv : Nat)) 0
  sat16 ((acc + 8192) / 16384)

/-- The expanded, and for video layers scaled, pixel of layer l at canvas (x, y) (R204). -/
def layerPx (s : State) (l : Nat) (st : LayerSt) (x y : Nat) : Px :=
  let g := st.geom
  let dx := x - g.dstX
  let dy := y - g.dstY
  if l < 4 then
    { a := scaleC s l st dx dy 0, r := scaleC s l st dx dy 1, g := scaleC s l st dx dy 2, b := scaleC s l st dx dy 3 }
  else surfacePx s st.surf (g.srcX + dx) (g.srcY + dy)

/-! ### Linearisation (R207–R210) -/

/-- Largest n with (n − 1/2)^5 · den ≤ 65,535^5 · num, by bisection between lo and hi: rounding of a fifth root, halves up. -/
def fifthRoot (fuel lo hi num den : Nat) : Nat :=
  match fuel with
  | 0 => lo
  | k + 1 =>
    if hi ≤ lo then lo
    else
      let m := (lo + hi + 1) / 2
      if (2 * m - 1) ^ 5 * den ≤ 131070 ^ 5 * num then fifthRoot k m hi num den else fifthRoot k lo (m - 1) num den

/-- 65,535 · (num / den)^(1/5), rounded to nearest, halves up. -/
def pow5 (num den : Nat) : Nat := fifthRoot 17 0 65535 num den

/-- The encoded value behind table entry i (R208). -/
def entryV (i : Nat) : Nat := min (16 * i) 65535

/-- Entry i of the sRGB table (R207, R208). -/
def srgbEntry (i : Nat) : Nat :=
  let v := entryV i
  if v * 100000 ≤ 4045 * 65535 then (v * 200 + 1292) / 2584
  else pow5 ((v * 1000 + 55 * 65535) ^ 12) ((1055 * 65535) ^ 12)

/-- Entry i of the BT.1886 table (R207, R208). -/
def bt1886Entry (i : Nat) : Nat := pow5 (entryV i ^ 12) (65535 ^ 12)

/-! Powers, logarithms and exponentials as numbers of 96 fraction bits, for the two standards whose tables have no exact
form. -/

/-- 1 in that form. -/
def fxOne : Nat := 2 ^ 96

/-- Twice the sum of z^(2j+1) / (2j+1) over `n` terms from j on, `t` being z^(2j+1): a logarithm by its odd series. -/
def fxAtanh (n j t zz : Nat) : Nat :=
  match n with
  | 0 => 0
  | k + 1 => 2 * t / (2 * j + 1) + fxAtanh k (j + 1) (t * zz / fxOne) zz

/-- ln x for 1 ≤ x ≤ 2. -/
def fxLn1 (x : Nat) : Nat :=
  let z := (x - fxOne) * fxOne / (x + fxOne)
  fxAtanh 48 0 z (z * z / fxOne)

/-- −ln x for 0 < x ≤ 1. -/
def fxNegLn (x : Nat) : Nat :=
  let k := 96 - Nat.log2 x
  k * fxLn1 (2 * fxOne) - fxLn1 (x * 2 ^ k)

/-- The terms r^j / j! from j on, `t` being the first of them. -/
def fxExpSum (n j t r : Nat) : Nat :=
  match n with
  | 0 => 0
  | k + 1 => t + fxExpSum k (j + 1) (t * r / (fxOne * (j + 1))) r

/-- e^t for a number of that form, below or above 0. -/
def fxExp (t : Int) : Nat :=
  let l : Int := fxLn1 (2 * fxOne)
  let q := t / l
  let e := fxExpSum 40 0 fxOne (t - q * l).toNat
  if 0 ≤ q then e * 2 ^ q.toNat else e / 2 ^ (-q).toNat

/-- x^(num / den) for 0 ≤ x ≤ 1. -/
def fxPow (x num den : Nat) : Nat := if x = 0 then 0 else fxExp (-((fxNegLn x * num / den : Nat) : Int))

/-- 65,535 times a number of that form, at most 1, rounded to nearest, halves up. -/
def fxRound (x : Nat) : Nat := (2 * 65535 * min fxOne x + fxOne) / (2 * fxOne)

/-- The EOTF of SMPTE ST 2084, as a part of 10,000 cd/m², at an encoded value of 16 bits (R207): with its constants m1 = 2610 /
16384, m2 = 2523 / 32, c1 = 3424 / 4096, c2 = 2413 / 128, c3 = 2392 / 128 (PRESUMED, log entry 13). -/
def pqEotf (v : Nat) : Nat :=
  let p := fxPow (v * fxOne / 65535) 32 2523
  let num := p - 3424 * fxOne / 4096
  let den := (2413 * fxOne - 2392 * p) / 128
  fxPow (min fxOne (num * fxOne / den)) 8192 1305

/-- Entry i of the ST 2084 table for a peak in cd/m² (R207, R208, R211). -/
def pqEntry (peak i : Nat) : Nat := fxRound (10000 * pqEotf (entryV i) / peak)

/-- Entry i of the HLG table: the inverse OETF of ITU-R BT.2100 with a = 0.17883277, b = 0.28466892, c = 0.55991073
(R207, R208; PRESUMED, log entry 13). -/
def hlgEntry (i : Nat) : Nat :=
  let v := entryV i
  if 2 * v ≤ 65535 then (2 * v * v + 3 * 65535) / (6 * 65535)
  else
    let t : Int := ((v * 100000000 * fxOne / 65535 : Nat) - (55991073 * fxOne : Nat) : Int) / 17883277
    fxRound ((fxExp t + 28466892 * fxOne / 100000000) / 12)

/-- Entry i of the HLG OOTF table: Ys^0.2 (R210). -/
def ootfEntry (i : Nat) : Nat := pow5 (entryV i) 65535

/-- Entry i of the linearisation table of a layer (R207); TRANSFER 0 has none and reads as the identity. -/
def tableEntry (c : ColourCfg) (pqPeak i : Nat) : Nat :=
  if c.transfer = 1 then srgbEntry i
  else if c.transfer = 2 then bt1886Entry i
  else if c.transfer = 3 then pqEntry pqPeak i
  else if c.transfer = 4 then hlgEntry i
  else if c.transfer = 5 then c.lut.getD i 0
  else entryV i

/-- Decoding of a component from a table (R209). -/
def linearise (t : Nat → Nat) (v : Nat) : Nat :=
  let i := v / 16
  let f := v % 16
  ((t i * (16 - f) + t (i + 1) * f + 8) / 16) % 65536

/-- The linear source-primary values of a pixel (R207, R210). -/
def linearPx (c : ColourCfg) (pqPeak : Nat) (p : Px) : List Nat :=
  let t := tableEntry c pqPeak
  if c.transfer = 0 then [p.r, p.g, p.b]
  else
    let e := [linearise t p.r, linearise t p.g, linearise t p.b]
    if c.transfer = 4 then
      let ys := (17216 * e.getD 0 0 + 44433 * e.getD 1 0 + 3886 * e.getD 2 0 + 32768) / 65536
      let k := linearise ootfEntry ys
      e.map (fun v => (v * k + 32768) / 65536)
    else e

/-! ### Conversion, blending, white balance, code (R212–R217) -/

/-- Conversion to projector primaries, with whether any result was clipped (R212). -/
def convertPx (m : List Int) (l : List Nat) : List Nat × Bool :=
  let row (c : Nat) : Int :=
    (m.getD (3 * c) 0 * l.getD 0 0 + m.getD (3 * c + 1) 0 * l.getD 1 0 + m.getD (3 * c + 2) 0 * l.getD 2 0 + 134217728)
      / 268435456
  ([sat16 (row 0), sat16 (row 1), sat16 (row 2)],
   (List.range 3).any (fun c => decide (row c < 0 ∨ 65535 < row c)))

/-- p / 65,535 rounded half up (R196). -/
def div65535 (p : Nat) : Nat :=
  let q := p + 32768
  ((q + q / 65536) / 65536) % 65536

/-- Canvas pixel (x, y) lies in the DST of a covering layer above layer l (R191). -/
def coveredAt (s : State) (layers : List (Option LayerSt)) (cover l x y : Nat) : Bool :=
  (List.range 16).any (fun k =>
    bitAt cover k && decide ((layerCfg s l).z < (layerCfg s k).z) &&
    (match layers.getD k none with | some st => inDst st.geom x y | none => false))

/-- The columns or rows of a cell clipped to a DST extent: start and end (R192). -/
def cellSpan (cell size d0 dn : Nat) : Nat × Nat := (max (cell * size) d0, min ((cell + 1) * size) (d0 + dn))

/-- Layer l is skipped in cell (cx, cy): every pixel of the cell inside its DST is covered (R192). -/
def cellSkipped (s : State) (layers : List (Option LayerSt)) (cover l cx cy : Nat) (g : Geom) : Bool :=
  let (x0, x1) := cellSpan cx 64 g.dstX g.dstW
  let (y0, y1) := cellSpan cy 8 g.dstY g.dstH
  (List.range (y1 - y0)).all (fun dy => (List.range (x1 - x0)).all (fun dx =>
    coveredAt s layers cover l (x0 + dx) (y0 + dy)))

/-- Layers of a pass in ascending Z, the highlight layer left out (R196). -/
def zOrder (s : State) (p : Pass) : List (Nat × LayerSt) :=
  (List.range 16).flatMap (fun z => (List.range 16).flatMap (fun l =>
    match p.layers.getD l none with
    | some st =>
      if st.geom.enable && !isHighlight s l && layerEnabled s l && (layerCfg s l).z == z then [(l, st)] else []
    | none => []))

/-- One layer blended into a pixel: the three values and whether something was clipped (R196, R212). -/
def blendLayer (s : State) (p : Pass) (x y : Nat) (acc : List Nat × Bool) (e : Nat × LayerSt) : List Nat × Bool :=
  let g := e.2.geom
  if inDst g x y && !cellSkipped s p.layers p.cover e.1 (x / 64) (y / 8) g then
    let px := layerPx s e.1 e.2 x y
    let col := (cfg s).colour.getD e.1 {}
    let (sv, clip) := convertPx col.matrix (linearPx col p.pqPeak px)
    let a := div65535 ((if g.opaq then 65535 else px.a) * g.alpha)
    ((List.range 3).map (fun c => div65535 (a * sv.getD c 0 + (65535 - a) * acc.1.getD c 0)), acc.2 || clip)
  else acc

/-- The blended canvas pixel (R196). -/
def canvasPx (s : State) (p : Pass) (x y : Nat) : List Nat × Bool :=
  (zOrder s p).foldl (blendLayer s p x y) ([0, 0, 0], false)

/-- The primary gain G_c: the largest gain of an enabled bank of the primary (R214). -/
def primaryGain (t : Topo) (gains : List Nat) (c : Nat) : Nat :=
  (List.range 12).foldl (fun m b =>
    if bitAt t.bankMask b && t.bankPrimary.getD b 3 == c then max m (gains.getD b 0) else m) 0

/-- White balance: 20-bit linear value and whether it was clipped (R215). -/
def whiteBalance (d gain : Nat) : Nat × Bool :=
  let lin := (d * 16 * gain + 536870912) / 1073741824
  if 0xFFFFF < lin then (0xFFFFF, true) else (lin, false)

/-- Carry word address of a pixel in a carry buffer (R219). -/
def carryAddr (s : State) (buf : Bool) (x y : Nat) : Nat :=
  let w := (cfg s).canvas.width
  let h := (cfg s).canvas.height
  let base := ((cfg s).plan.find? (fun r => r.stream == 1)).elim 0 (·.base)
  base + b2n buf * (2 * w * h) + 2 * (y * w + x)

/-- Code value and next carry of one primary of a pixel (R217, R220). -/
def codeCarry (s : State) (p : Pass) (x y c lin : Nat) : Nat × Nat :=
  if (cfg s).canvas.carryEnable = 1 then
    let a := carryAddr s p.carryIn x y
    let cin := if !dramClean s && readHits s a 2 then 0 else bits (rdN s a 2) (4 * c + 3) (4 * c)
    let v := min 0xFFFFF (lin + cin)
    (v / 16, v % 16)
  else (min 65535 ((lin + 8) / 16), 0)

/-- One pixel of a pass: code values, next carries, and whether something was clipped (R204). -/
def passPx (s : State) (p : Pass) (x y : Nat) : List Nat × List Nat × Bool :=
  let (d, clip) := canvasPx s p x y
  let wb := (List.range 3).map (fun c => whiteBalance (d.getD c 0) (primaryGain (cfg s).topo p.gains c))
  let cc := (List.range 3).map (fun c => codeCarry s p x y c (wb.getD c (0, false)).1)
  (cc.map (·.1), cc.map (·.2), clip || wb.any (·.2))

/-- The code value of primary c at canvas (x, y); 0 beyond the canvas (R222). -/
def codeAt (s : State) (p : Pass) (x y c : Nat) : Nat :=
  if x < (cfg s).canvas.width ∧ y < (cfg s).canvas.height then (passPx s p x y).1.getD c 0 else 0

/-! ### CRC-32 of IEEE 802.3 -/

/-- One bit of the reflected CRC register. -/
def crcBit (r : Nat) : Nat := if r % 2 = 1 then (r / 2) ^^^ 0xEDB88320 else r / 2

/-- One byte into the CRC register. -/
def crcByte (r : Nat) (b : Byte) : Nat :=
  let x := r ^^^ b.toNat
  crcBit (crcBit (crcBit (crcBit (crcBit (crcBit (crcBit (crcBit x)))))))

/-- CRC-32 with the polynomial 0x04C1_1DB7 (R15), reflected, start and final XOR all ones (PRESUMED, log entry 4). -/
def crc32 (l : List Byte) : Nat := (l.foldl crcByte 0xFFFFFFFF) ^^^ 0xFFFFFFFF

end Sys2Proof.Machine
end

