-- ==== Sys2Proof/Machine/PbuOps.lean ====
section
/-! DEFINITION. Plane builders, build tables, plane store and plane cache (chapter 7). -/

namespace Sys2Proof.Machine

/-- The LINKS record of a port. -/
def linkCfg (s : State) (p : Nat) : LinkCfg := (cfg s).links.getD p {}

/-- A port that TOPOLOGY enables. -/
def portEnabled (s : State) (p : Nat) : Bool := decide (p < 6) && bitAt (cfg s).topo.portEnable p

/-- PORT_PRIMARY of a port (R52). -/
def portPrimary (s : State) (p : Nat) : Nat := (cfg s).topo.portPrimary.getD p 0

/-- Planes per band of a port: 16, or 48 on a field-sequential port (R247). -/
def planesPerBand (prim : Nat) : Nat := if prim = 3 then 48 else 16

/-- Bytes per plane row of an array width (R247). -/
def planeStride (w : Nat) : Nat := ceilDiv w 512 * 64

/-- Bytes of one band plane of a port (R247). -/
def bandBytes (c : ImageCfg) (p : Nat) : Nat :=
  let l := c.links.getD p {}
  l.blockRows * planeStride l.width

/-- Bytes of one plane set of the ports below p (R247). -/
def portOff (c : ImageCfg) (p : Nat) : Nat :=
  (List.range p).foldl (fun a i =>
    if bitAt c.topo.portEnable i then a + 16 * planesPerBand (c.topo.portPrimary.getD i 0) * bandBytes c i else a) 0

/-- SET_BYTES (R247). -/
def setBytes (c : ImageCfg) : Nat := portOff c 6

/-- BASE of the plane store: the stream-2 region (R247). -/
def planeBase (c : ImageCfg) : Nat := (c.plan.find? (fun r => r.stream == 2)).elim 0 (·.base)

/-- Address of a band plane: set, port, band, plane index (R247). -/
def planeAddr (c : ImageCfg) (set p band q : Nat) : Nat :=
  planeBase c + set * setBytes c + portOff c p +
    (band * planesPerBand (c.topo.portPrimary.getD p 0) + q) * bandBytes c p

/-- The bytes of one plane row from the row's code values: bit x mod 8 of byte x / 8 is bit q of code x (R247). -/
def planeRow (stride q : Nat) (codes : List Nat) : List Byte :=
  (List.range stride).map (fun i => BitVec.ofNat 8 (maskOf ((List.range 8).map (fun b => bitAt (codes.getD (8 * i + b) 0) q))))

/-- The code values of one array row of a tile for primary c, as the row store took them (R222, R242). -/
def tileRow (s : State) (ps : Pass) (p y c : Nat) : List Nat :=
  let w := (linkCfg s p).width
  let x0 := (cfg s).topo.portTile.getD p 0 * w
  let sy := fetched s ps y
  (List.range w).map (fun x => codeAt sy ps (x0 + x) y c)

/-- The primaries that a port builds (R243). -/
def portPrims (s : State) (p : Nat) : List Nat := if portPrimary s p = 3 then [0, 1, 2] else [portPrimary s p]

/-- Cache slots that an image needs, over both sets (R254). -/
def cacheSlots (c : ImageCfg) : Nat :=
  match c.builds with
  | [] => 0
  | t :: _ => 2 * t.tiles.foldl (fun a e =>
      a + popN 16 e.cacheMask * (if c.topo.portPrimary.getD e.port 0 = 3 then 3 else 1)) 0

/-- Domain of the cache bank of a slot (R254). -/
def cacheDomain (slot : Nat) : Nat := 18 + slot / 227

/-- Cache slot of a plane: set, port, band, plane index; `none` when it is not cached (R254). -/
def cacheSlot (c : ImageCfg) (set p band q : Nat) : Option Nat :=
  match c.builds with
  | [] => none
  | t :: _ =>
    let maskOfTile (pp bb : Nat) : Nat := ((t.tiles.find? (fun e => e.port == pp && e.band == bb)).elim 0 (·.cacheMask))
    let planes : List (Nat × Nat × Nat) := (List.range 6).flatMap (fun pp =>
      if bitAt c.topo.portEnable pp then
        (List.range 16).flatMap (fun bb =>
          (List.range (if c.topo.portPrimary.getD pp 0 = 3 then 3 else 1)).flatMap (fun pr =>
            ((List.range 16).filter (fun b => bitAt (maskOfTile pp bb) b)).map (fun b => (pp, bb, b + 16 * pr))))
      else [])
    (planes.findIdx? (fun e => e == (p, band, q))).map (fun i => set * planes.length + i)

/-- Bytes of one slot of the plane cache (R254). -/
def cacheSlotBytes : Nat := 73728

/-- Write bytes of a cache slot from an offset on. -/
def cacheWrite (s : State) (slot off : Nat) (l : List Byte) : State :=
  let a := slot * cacheSlotBytes + off
  { s with pbu := { s.pbu with
      cache := l.zipIdx.foldl (fun m e => mapSet (fun _ => (0 : Byte)) m (a + e.2) e.1) s.pbu.cache } }

/-- `n` bytes of a cache slot from an offset on. -/
def cacheRead (s : State) (slot off n : Nat) : List Byte :=
  (List.range n).map (fun i => mapGet (fun _ => (0 : Byte)) s.pbu.cache (slot * cacheSlotBytes + off + i))

/-- The slot that a plane of a set is written to and read from; a retired one is not (R255, R256). -/
def cachedIn (s : State) (set p band q : Nat) : Option Nat :=
  (cacheSlot (cfg s) set p band q).filter (fun n => !s.pbu.retired.contains n)

/-- Write one row of a plane to the plane store and, where the plane is cached, to its slot (R242, R255). -/
def writePlaneRow (s : State) (set p band q row : Nat) (l : List Byte) : State :=
  let off := row * planeStride (linkCfg s p).width
  let s1 := wrBytes s (planeAddr (cfg s) set p band q + off) l
  match cachedIn s set p band q with
  | some n => cacheWrite s1 n off l
  | none => s1

/-- Write the planes of a tile into the set the port does not show (R242, R243, R248). -/
def writeTile (s : State) (ps : Pass) (p band : Nat) : State :=
  let l := linkCfg s p
  let set := if bitAt s.pbu.shown p then 0 else 1
  (List.range l.blockRows).foldl (fun s1 row =>
    (portPrims s p).foldl (fun s2 c1 =>
      let codes := tileRow s ps p (band * l.blockRows + row) c1
      (List.range 16).foldl (fun s3 q =>
        let q' := if portPrimary s p = 3 then q + 16 * c1 else q
        writePlaneRow s3 set p band q' row (planeRow (planeStride l.width) q codes)) s2) s1) s

/-- One code value into the register of a residue: two bytes, the low one first (R249). -/
def residueCode (r v : Nat) : Nat := crcByte (crcByte r (BitVec.ofNat 8 v)) (BitVec.ofNat 8 (v / 256))

/-- The input residue of a tile for a primary: CRC-32 over its code values in row order (R249). -/
def inputResidue (s : State) (ps : Pass) (p band c : Nat) : Nat :=
  let rows := (linkCfg s p).blockRows
  (List.range rows).foldl (fun r row => (tileRow s ps p (band * rows + row) c).foldl residueCode r) 0xFFFFFFFF ^^^ 0xFFFFFFFF

/-- The input residues of a tile, one for each primary (R243, R249). -/
def inputResidues (s : State) (ps : Pass) (p band : Nat) : List Nat :=
  (portPrims s p).map (inputResidue s ps p band)

/-! ### The pool (R238–R241) -/

/-- Power domain of a builder's quarter (R238). -/
def builderDomain (n : Nat) : Nat := 14 + n / 6

/-- A builder is available: not fenced and in a quarter that is ON (R239). -/
def builderAvail (s : State) (n : Nat) : Bool := !vget s.pbu.fenced n true && domainOn s (builderDomain n)

/-- A builder is mapped to a logical slot. -/
def builderMapped (s : State) (n : Nat) : Bool := s.pbu.slots.toList.any (fun r => r.phys == some n)

/-- A builder that waits to become the next logical slot at the next take, instead of a spare (R258). -/
def builderJoins (s : State) (n : Nat) : Bool := s.pbu.mapNext.contains (.grow n)

/-- The spares: available builders that no slot maps (R238, R258). The pool exists once a SWITCHED has formed the map (R239). -/
def spares (s : State) : List Nat :=
  if s.pbu.table = 0 then []
  else (List.range 24).filter (fun n => builderAvail s n && !builderMapped s n && !builderJoins s n)

/-- The available builders in ascending order (R239). -/
def availBuilders (s : State) : List Nat := (List.range 24).filter (builderAvail s)

/-- The build table whose ACTIVE equals the given count. -/
def buildTable (c : ImageCfg) (active : Nat) : BuildTable :=
  (c.builds.find? (fun t => t.active == active)).getD {}

/-- Logical slots 0, 1 … mapped to the builders of a list, in its order (R239). -/
def slotsOf (l : List Nat) : Vector SlotRun 22 := Vector.ofFn (fun (i : Fin 22) => { phys := l[i.val]? })

/-- The builders that the slots hold, in slot order. -/
def mappedBuilders (s : State) : List Nat := s.pbu.slots.toList.filterMap (·.phys)

/-- ACTIVE of the table that the changes in hand lead to (R250, R258). -/
def tablePlanned (s : State) : Nat :=
  s.pbu.mapNext.foldl (fun n c => match c with | .shrink _ _ => n - 1 | .grow _ => n + 1 | .lost .. => n) s.pbu.table

/-- T_TILE in ns of a port (R242, R243). -/
def tileNs (c : ImageCfg) (p : Nat) : Nat := if c.topo.portPrimary.getD p 0 = 3 then 3 * 77632 else 77632

/-- ns from the start of the pass at which canvas row r is written, line_ns = WIDTH / 6.4 (R252), in 1/32 ns. -/
def rowNs32 (c : ImageCfg) (r : Nat) : Nat := min r c.canvas.height * c.canvas.width * 5

/-- The tiles of a slot in SEQ order, wherever the table stores them (R244, R252). -/
def slotTiles (t : BuildTable) (sl : Nat) : List TileCfg :=
  (List.range t.tiles.length).flatMap (fun q => t.tiles.filter (fun e => e.slot == sl && e.seq == q))

/-- The bound of a build table in ns, rounded up (R252). -/
def buildBound (c : ImageCfg) (t : BuildTable) : Nat :=
  let slotEnd (sl : Nat) : Nat :=
    (slotTiles t sl).foldl (fun (a : Nat) e =>
      let rows := (c.links.getD e.port {}).blockRows
      let beyond := decide (c.canvas.height ≤ e.band * rows)
      let first := if beyond then 0 else rowNs32 c (e.band * rows)
      let last := if beyond then 0 else rowNs32 c ((e.band + 1) * rows)
      max (max a first + tileNs c e.port * 32) (last + 8000 * 32)) 0
  let b := (List.range t.active).foldl (fun m sl => max m (slotEnd sl)) 0
  let tmax := (List.range 6).foldl (fun m p => if bitAt c.topo.portEnable p then max m (tileNs c p) else m) 0
  ceilDiv b 32 + 1000 + tmax

/-- At the start of SWITCHED: the map, the table in use, cleared cache state, both plane sets all zero, SHOWN 0
(R239, R248, R254). -/
def pbuSwitched (s : State) (c : ImageCfg) : State :=
  let n := min 22 (availBuilders s).length
  let s2 := { s with pbu := { s.pbu with
    slots := slotsOf ((availBuilders s).take n)
    table := n, mapNext := [], belowMin := false, built := [], passNo := 0, failing := [], cache := [],
    shown := 0, retired := [], slotsUsed := cacheSlots c, buildBound := buildBound c (buildTable c n) } }
  zeroRange s2 (planeBase c) (2 * setBytes c)

/-! ### Events and takes -/

/-- BUILDER_MAP (R259). -/
def postBuilderMap (s : State) (failed repl slot cause port band : Nat) : State :=
  post s 0x0601 slot
    (leBytes 1 failed ++ leBytes 1 repl ++ leBytes 1 slot ++ leBytes 1 cause ++ leBytes 1 port ++ leBytes 1 band ++
     leBytes 1 (min 2 (spares s).length) ++ leBytes 1 s.pbu.table ++
     leBytes 8 (s.cmp.pass.elim s.frame (·.frame)))

/-- One change of the map and of the table at a take (R250, R258): the slots behind a lost one close up, a builder
that joins takes the next logical slot. -/
def applyChange (s : State) (c : MapChange) : State :=
  let table := match c with | .shrink _ _ => s.pbu.table - 1 | .grow _ => s.pbu.table + 1 | .lost .. => s.pbu.table
  let slots := match c with
    | .shrink _ _ => slotsOf (mappedBuilders s)
    | .lost .. => s.pbu.slots
    | .grow n => vmod s.pbu.slots s.pbu.table (fun x => { x with phys := some n })
  let s1 := { s with pbu := { s.pbu with
    slots := slots
    table := table
    buildBound := buildBound (cfg s) (buildTable (cfg s) table) } }
  match c with
  | .shrink sl n => postBuilderMap s1 n 255 sl 3 255 255
  | .grow n => postBuilderMap s1 n n s.pbu.table 2 255 255
  | .lost n sl p b => postBuilderMap s1 n 255 sl 0 p b

/-- A change still stands at the take: a builder whose quarter has left ON dropped out of the pool (R241). -/
def changeStands (s : State) : MapChange → Bool
  | .shrink _ _ => true
  | .grow n => builderAvail s n
  | .lost .. => true

/-- The changes that wait for the take, in the order they arose (R250, R258). -/
def applyTable (s : State) : State :=
  (s.pbu.mapNext.filter (changeStands s)).foldl applyChange { s with pbu := { s.pbu with mapNext := [] } }

/-- The slots begin a pass at SEQ 0; tiles of an earlier pass stop (R244). -/
def beginBuild (s : State) (no : Nat) : State :=
  { s with pbu := { s.pbu with
      slots := Vector.map (fun r => { r with seq := 0, running := false, abandoned := false }) s.pbu.slots,
      built := [], passNo := no } }

/-- A take reaches the builders (R244, R250): none is built once the pool is below MIN_ACTIVE. -/
def pbuTake (s : State) (no : Nat) : State := beginBuild (applyTable s) no

/-- Every enabled tile of a port is built for the pass in hand. -/
def portBuilt (s : State) (p : Nat) : Bool :=
  !s.pbu.belowMin && (List.range 16).all (fun b => s.pbu.built.contains (p, b))

/-- Every tile of the table in use is built. -/
def allBuilt (s : State) : Bool :=
  (List.range 6).all (fun p => !portEnabled s p || portBuilt s p)

/-- The tile that a slot runs or takes next (R244). -/
def slotTile (s : State) (sl : Nat) : Option TileCfg :=
  let r := vget s.pbu.slots sl {}
  (buildTable (cfg s) s.pbu.table).tiles.find? (fun e => e.slot == sl && e.seq == r.seq)

/-- The injection armed on source 0x40 for a builder (R251). -/
def armedOn (s : State) (src inst : Nat) : Option Injection :=
  match (vget s.flt.srcs src {}).armed with
  | some i => if i.master = inst then some i else none
  | none => none

/-- A slot's tile and its later ones in the pass are abandoned (R250). -/
def abandonSlot (s : State) (sl : Nat) : State :=
  { s with pbu := { s.pbu with
      slots := vmod s.pbu.slots sl (fun x => { x with abandoned := true, running := false, phys := none }) } }

/-! ### The row store (R242, R244, R246) -/

/-- Canvas rows that the ring of the row store holds (R246). -/
def ringRows (s : State) : Nat := 14680064 / (6 * (cfg s).canvas.width)

/-- A tile reads a canvas row. -/
def tileReadsRow (s : State) (e : TileCfg) (r : Nat) : Bool :=
  let rows := (linkCfg s e.port).blockRows
  decide (e.band * rows ≤ r ∧ r < (e.band + 1) * rows)

/-- A tile is abandoned: it is its slot's tile in hand, or a later one, in a pass that the slot has abandoned (R250). -/
def tileAbandoned (s : State) (e : TileCfg) : Bool :=
  let r := vget s.pbu.slots e.slot {}
  (r.abandoned && decide (r.seq ≤ e.seq)) || s.pbu.belowMin

/-- The ring row that canvas row `r` needs is free: no row stands there, or every tile that reads that row is built or
abandoned (R246). -/
def ringRowFree (s : State) (r : Nat) : Bool :=
  decide (r < ringRows s) || (buildTable (cfg s) s.pbu.table).tiles.all (fun e =>
    !tileReadsRow s e (r - ringRows s) || s.pbu.built.contains (e.port, e.band) || tileAbandoned s e)

/-- The band of a tile lies wholly at or beyond HEIGHT: it reads nothing from the row store (R242). -/
def bandBeyond (s : State) (e : TileCfg) : Bool :=
  decide ((cfg s).canvas.height ≤ e.band * (linkCfg s e.port).blockRows)

/-- The first row of a tile's band is in the row store (R242, R244). -/
def firstRowIn (s : State) (ps : Pass) (e : TileCfg) : Bool :=
  bandBeyond s e || decide (e.band * (linkCfg s e.port).blockRows < linesFetched s ps)

/-- A tile may be built now: T_TILE after its start, and 8,000 ns after the last row of its band (R242, R243). -/
def tileDue (s : State) (ps : Pass) (e : TileCfg) (start : Nat) : Bool :=
  let last := if bandBeyond s e then 0 else rowNs32 (cfg s) ((e.band + 1) * (linkCfg s e.port).blockRows)
  decide (tileNs (cfg s) e.port ≤ 4 * (s.tsc - start) ∧ last + 8000 * 32 ≤ 128 * (s.tsc - ps.start))

/-! ### Tiles (R242–R251) -/

/-- The pass in hand is one whose tiles are built: it runs or is complete, and the slots work on it. -/
def buildsPass (s : State) (ps : Pass) : Bool := (ps.mode == .running || ps.mode == .complete) && ps.no == s.pbu.passNo

/-- A builder of a slot starts its next tile (R244). -/
def tileStart (s : State) (sl : Nat) : State :=
  match s.cmp.pass, slotTile s sl with
  | some ps, some e =>
    let r := vget s.pbu.slots sl {}
    if buildsPass s ps && r.phys.isSome && !r.running && !r.abandoned && !s.pbu.belowMin && firstRowIn s ps e &&
        s.pbu.failing.all (fun f => f.slot != sl) then
      { s with pbu := { s.pbu with slots := vmod s.pbu.slots sl (fun x => { x with running := true, start := s.tsc }) } }
    else s
  | _, _ => s

/-- A tile is built: the slot goes on to its next one; the last tile of the pass gives PBU_BUILD_LAST (R242, R253). -/
def tileDone (s : State) (ps : Pass) (sl : Nat) (e : TileCfg) : State :=
  let s1 := { s with pbu := { s.pbu with
    built := (e.port, e.band) :: s.pbu.built,
    slots := vmod s.pbu.slots sl (fun x => { x with running := false, seq := x.seq + 1 }) } }
  if allBuilt s1 then { s1 with pbu := { s1.pbu with buildLast := 4 * (s1.tsc - ps.start) } } else s1

/-- A tile's planes are written and its residues compared; `residues` are the output residues of its primaries
(R242, R243, R249, R251). A failure waits for the end of the cycle. -/
def tileBuilt (s : State) (sl : Nat) (residues : List Nat) : State :=
  match s.cmp.pass, slotTile s sl, (vget s.pbu.slots sl {}).phys with
  | some ps, some e, some phys =>
    if (vget s.pbu.slots sl {}).running && tileDue s ps e (vget s.pbu.slots sl {}).start then
      let s1 := writeTile s ps e.port e.band
      let real := residues != inputResidues s ps e.port e.band
      let inj := armedOn s1 0x40 phys
      if !real && inj.isNone then tileDone s1 ps sl e
      else
        let s2 := if inj.isSome then disarm s1 0x40 else s1
        { s2 with pbu := { s2.pbu with
            slots := vmod s2.pbu.slots sl (fun x => { x with running := false }),
            failing := s2.pbu.failing ++
              [{ slot := sl, phys := phys, port := e.port, band := e.band, real := real, inj := inj, pass := ps.no }] } }
    else s
  | _, _, _ => s

/-- The report of a residue failure (R251). -/
def failReport (f : FailedTile) (src : Nat) : Report :=
  match f.real, f.inj with
  | false, some i => { source := src, master := f.phys, address := i.address, injected := true, react := i.react }
  | _, some _ => { source := src, master := f.phys, coincident := true }
  | _, none => { source := src, master := f.phys }

/-- A spare takes the slot of a failed builder, and repeats its tile where the pass still stands (R250). -/
def reissue (s : State) (f : FailedTile) (sp : Nat) (again : Bool) : State :=
  let s1 := if again then bump s 0x380034 else s
  let s2 := { s1 with pbu := { s1.pbu with
    fenced := if f.real then vset s1.pbu.fenced f.phys true else s1.pbu.fenced,
    slots := vmod s1.pbu.slots f.slot (fun x =>
      { x with phys := some sp, running := again || x.running, start := if again then s.tsc else x.start }) } }
  postBuilderMap (report s2 (failReport f 0x40)) f.phys sp f.slot (if f.real then 0 else 1) f.port f.band

/-- An injected failure with no spare: the builder stays in its slot and repeats the tile (R251). -/
def repeatTile (s : State) (f : FailedTile) (again : Bool) : State :=
  let s1 := { s with pbu := { s.pbu with
    slots := vmod s.pbu.slots f.slot (fun x =>
      { x with running := again || x.running, start := if again then s.tsc else x.start }) } }
  postBuilderMap (report s1 (failReport f 0x40)) 255 255 f.slot 1 f.port f.band

/-- A failed builder with no spare: its slot's tiles are abandoned, and the next take has a smaller table, or none below
MIN_ACTIVE (R250). -/
def loseSlot (s : State) (f : FailedTile) : State :=
  let s1 := abandonSlot { s with pbu := { s.pbu with fenced := vset s.pbu.fenced f.phys true } } f.slot
  if tablePlanned s1 - 1 < (cfg s1).minActive ∨ tablePlanned s1 = 0 then
    report { s1 with pbu := { s1.pbu with
      belowMin := true, mapNext := s1.pbu.mapNext ++ [.lost f.phys f.slot f.port f.band] } } (failReport f 0x42)
  else report { s1 with pbu := { s1.pbu with mapNext := s1.pbu.mapNext ++ [.shrink f.slot f.phys] } } (failReport f 0x41)

/-- One residue failure (R250, R251). A failure whose pass was aborted in the same cycle re-issues nothing. -/
def residueFail (s : State) (f : FailedTile) : State :=
  let again := s.cmp.pass.elim false (fun p => buildsPass s p && p.no == f.pass)
  let s1 := bump s 0x380030
  match spares s1 with
  | sp :: _ => reissue s1 f sp again
  | [] => if f.real then loseSlot s1 f else repeatTile s1 f again

/-- At the end of each cycle: its residue failures, in ascending logical slot (R251). -/
def buildTick (s : State) : State :=
  if s.pbu.failing.isEmpty then s
  else
    let l := (List.range 22).flatMap (fun sl => s.pbu.failing.filter (fun f => f.slot == sl))
    l.foldl residueFail { s with pbu := { s.pbu with failing := [] } }

/-! ### PBU_TEST (R257, R258) -/

/-- Code value x of row y of the test tile (R258). -/
def testCode (x y : Nat) : Nat := (x * 40503 + y * 4099) % 65536

/-- The input residue of the test tile: CRC-32 over its code values in row order (R249, R258). -/
def testResidue : Nat :=
  (List.range 64).foldl (fun r y => (List.range 4096).foldl (fun r x => residueCode r (testCode x y)) r) 0xFFFFFFFF
    ^^^ 0xFFFFFFFF

/-- PBU_TEST starts on a builder that is not mapped and whose quarter is ON (R258). -/
def runPbuTest (s : State) (n id : Nat) : State × Reply :=
  if builderMapped s n || !domainOn s (builderDomain n) then (s, .now .badState [])
  else ({ s with pbu := { s.pbu with tests := s.pbu.tests ++ [(n, id)] } }, .later)

/-- The test tile of a builder completes with its output residue (R258). A builder that a slot took meanwhile keeps
its place and its fence. -/
def pbuTestDone (s : State) (n residue : Nat) : State :=
  match s.pbu.tests.find? (fun t => t.1 == n) with
  | none => s
  | some (_, id) =>
    let pass := residue == testResidue
    let res := leBytes 4 residue ++ leBytes 1 (b2n pass)
    let s1 := { s with pbu := { s.pbu with tests := s.pbu.tests.filter (fun t => t.1 != n) } }
    let grow := decide (0 < s1.pbu.table ∧ s1.pbu.table < 22 ∧ tablePlanned s1 < 22 ∧ (spares s1).length < 2)
    let s2 := if builderMapped s1 n then s1
      else { s1 with pbu := { s1.pbu with fenced := vset s1.pbu.fenced n (!pass) } }
    if !pass then complete s2 id .checkFail res
    else if builderMapped s1 n || builderJoins s1 n then complete s2 id .ok res
    else if grow then
      complete { s2 with pbu := { s2.pbu with mapNext := s2.pbu.mapNext ++ [.grow n] } } id .ok res
    else complete (postBuilderMap s2 n 255 255 2 255 255) id .ok res

end Sys2Proof.Machine
end

