-- ==== Sys2Proof/Machine/CmpOps.lean ====
section
/-! DEFINITION. Layers, commits, latches and composer passes (chapter 5). -/

namespace Sys2Proof.Machine

/-! ### Layer commands (R172, R175, R176) -/

/-- Layer geometry read from a CMP_LAYER_GEOM payload (R175). -/
def geomOf (p : List Byte) : Geom :=
  let f := byteAt p 18
  { srcX := leAt p 0 2, srcY := leAt p 2 2, srcW := leAt p 4 2, srcH := leAt p 6 2, dstX := leAt p 8 2,
    dstY := leAt p 10 2, dstW := leAt p 12 2, dstH := leAt p 14 2, alpha := leAt p 16 2, enable := bitAt f 0,
    opaq := bitAt f 1, lateSkip := bitAt f 2, coefBank := bitAt f 3 }

/-- The encodings of CMP_LAYER_GEOM: ranges and reserved bits (R175, R176). -/
def geomEncOk (l : Nat) (p : List Byte) : Bool :=
  let g := geomOf p
  decide (1 ≤ g.srcW ∧ g.srcW ≤ 8192 ∧ 1 ≤ g.srcH ∧ g.srcH ≤ 8192) &&
  decide (1 ≤ g.dstW ∧ g.dstW ≤ 8192 ∧ 1 ≤ g.dstH ∧ g.dstH ≤ 2304) &&
  decide (byteAt p 18 < 16 ∧ byteAt p 19 = 0) && (decide (l < 4) || !g.coefBank)

/-- The states that refuse a layer command: FTG0 stopped (R176), or a layer the image does not enable (R172). -/
def layerRefused (s : State) (l : Nat) : Bool := !s.ftgOn || !layerEnabled s l

/-- Replace the shadow of a layer. -/
def setShadow (s : State) (l : Nat) (st : LayerSt) : State :=
  { s with cmp := { s.cmp with layers := vmod s.cmp.layers l (fun x => { x with shadow := st }) } }

/-- CMP_LAYER_SURFACE (R176): its field encodings are a check of the payload, before the states of R172. -/
def runLayerSurface (s : State) (l : Nat) (p : List Byte) : State × Reply :=
  if !surfaceEncOk p then (s, .now .outOfRange [])
  else if layerRefused s l then (s, .now .badState [])
  else (setShadow s l { (vget s.cmp.layers l {}).shadow with surf := surfaceOf p }, .now .ok [])

/-- CMP_LAYER_GEOM (R176). -/
def runLayerGeom (s : State) (l : Nat) (p : List Byte) : State × Reply :=
  if !geomEncOk l p then (s, .now .outOfRange [])
  else if layerRefused s l then (s, .now .badState [])
  else (setShadow s l { (vget s.cmp.layers l {}).shadow with geom := geomOf p }, .now .ok [])

/-- CMP_LAYER_READY (R182), which arrived at `arrival` (R96). -/
def runLayerReady (s : State) (l arrival : Nat) (p : List Byte) : State × Reply :=
  if !layerEnabled s l then (s, .now .badState [])
  else
    match (vget s.cmp.layers l {}).pend with
    | none => (s, .now .badState [])
    | some q =>
      if !q.wait || q.ready || decide (q.st.surf.bufferId ≠ leAt p 0 2) then (s, .now .badState [])
      else ({ s with cmp := { s.cmp with
                layers := vmod s.cmp.layers l (fun x => { x with pend := some { q with ready := true, readyAt := arrival } }) } },
            .now .ok [])

/-! ### Coverage and the fetch budget (R191–R194) -/

/-- Add a range of columns lo ≤ c < hi to ranges kept apart and ascending (R193: merged source-column ranges). -/
def spanAdd (l : List (Nat × Nat)) (lo hi : Nat) : List (Nat × Nat) :=
  match l with
  | [] => [(lo, hi)]
  | (a, b) :: t =>
    if hi < a then (lo, hi) :: (a, b) :: t
    else if b < lo then (a, b) :: spanAdd t lo hi
    else spanAdd t (min a lo) (max b hi)

/-- Source columns or lines that feed the canvas extent lo ≤ d < hi of a layer: start and end within the surface (R193). -/
def feedSpan (video : Bool) (src0 srcN dst0 dstN lo hi before after : Nat) : Nat × Nat :=
  if video then
    let i0 := (scalePos srcN dstN (lo - dst0)).1 - (before : Int)
    let i1 := (scalePos srcN dstN (hi - 1 - dst0)).1 + (after : Int)
    (src0 + (clampI 0 ((srcN : Int) - 1) i0).toNat, src0 + (clampI 0 ((srcN : Int) - 1) i1).toNat + 1)
  else (src0 + (lo - dst0), src0 + (hi - dst0))

/-- The cells of row `cy` of a layer's DST that are fetched: line range and column range of the source that feed each
(R192, R193). -/
def fedRow (s : State) (layers : List (Option LayerSt)) (cover l : Nat) (g : Geom) (cy : Nat) :
    List ((Nat × Nat) × (Nat × Nat)) :=
  let video := decide (l < 4)
  (List.range ((g.dstX + g.dstW - 1) / 64 + 1 - g.dstX / 64)).flatMap (fun ix =>
    let cx := g.dstX / 64 + ix
    if cellSkipped s layers cover l cx cy g then []
    else
      let (x0, x1) := cellSpan cx 64 g.dstX g.dstW
      let (y0, y1) := cellSpan cy 8 g.dstY g.dstH
      [(feedSpan video g.srcY g.srcH g.dstY g.dstH y0 y1 2 3, feedSpan video g.srcX g.srcW g.dstX g.dstW x0 x1 3 4)])

/-- The rows of cells that a layer's DST meets, ascending. -/
def cellRows (g : Geom) : List Nat :=
  (List.range ((g.dstY + g.dstH - 1) / 8 + 1 - g.dstY / 8)).map (fun iy => g.dstY / 8 + iy)

/-- The cells of a layer's DST that are fetched. -/
def fedCells (s : State) (layers : List (Option LayerSt)) (cover l : Nat) (g : Geom) :
    List ((Nat × Nat) × (Nat × Nat)) :=
  (cellRows g).flatMap (fedRow s layers cover l g)

/-- The runs of columns that the fed cells of a layer need of one source row (R193). -/
def rowSpans (cells : List ((Nat × Nat) × (Nat × Nat))) (sy : Nat) : List (Nat × Nat) :=
  (cells.filter (fun c => decide (c.1.1 ≤ sy ∧ sy < c.1.2))).foldl (fun l c => spanAdd l c.2.1 c.2.2) []

/-- The KTC tiles that the fed cells of a layer need, as (tx, ty) (R192). -/
def fedTiles (cells : List ((Nat × Nat) × (Nat × Nat))) : List (Nat × Nat) :=
  (cells.flatMap (fun c => (List.range ((c.1.2 - 1) / 8 + 1 - c.1.1 / 8)).flatMap (fun iy =>
    (List.range ((c.2.2 - 1) / 8 + 1 - c.2.1 / 8)).map (fun ix => (c.2.1 / 8 + ix, c.1.1 / 8 + iy))))).eraseDups

/-- The cost of a layer state in bytes per pass (R193). -/
def layerCost (s : State) (layers : List (Option LayerSt)) (cover l : Nat) (st : LayerSt) : Nat :=
  let g := st.geom
  if !g.enable then 0
  else
    let cells := fedCells s layers cover l g
    (List.range g.srcH).foldl (fun a dy =>
      let sy := g.srcY + dy
      let spans := rowSpans cells sy
      a + (if st.surf.ktc then
          33 * (spans.foldl (fun t r => spanAdd t (r.1 / 8) ((r.2 - 1) / 8)) []).foldl (fun n r => n + (r.2 + 1 - r.1)) 0
        else
          let bpp := bytesPP st.surf.format
          spans.foldl (fun n r => n + (ceilDiv (r.2 * bpp) 64 * 64 - r.1 * bpp / 64 * 64)) 0)) 0

/-- The states the pending copies would give after a take, by layer (R191). -/
def statesAfter (layers : Vector Layer 16) : List (Option LayerSt) :=
  layers.toList.map (fun x => some (x.pend.elim x.cur (·.st)))

/-- The covering layers of a take, as a mask (R191): `waiting` tells the layers whose pending state has WAIT set. -/
def coverMask (s : State) (after : List (Option LayerSt)) (waiting : Nat → Bool) : Nat :=
  maskOf ((List.range 16).map (fun l =>
    match after.getD l none with
    | some st => st.geom.enable && st.geom.opaq && decide (st.geom.alpha = 65535) && !isHighlight s l && !waiting l
    | none => false))

/-- A layer's pending state has WAIT set. -/
def waits (layers : Vector Layer 16) (l : Nat) : Bool := ((vget layers l {}).pend.elim false (·.wait))

/-- The fetch budget of merged pending states (R194). -/
def fetchBudget (s : State) (layers : Vector Layer 16) : Nat :=
  let after := statesAfter layers
  let cover := coverMask s after (waits layers)
  (List.range 16).foldl (fun a l =>
    if isHighlight s l then a
    else
      let x := vget layers l {}
      let c1 := (after.getD l none).elim 0 (layerCost s after cover l)
      let c2 := match x.pend with
        | some q => if q.wait && !q.st.geom.lateSkip then layerCost s after cover l x.cur else 0
        | none => 0
      a + max c1 c2) 0

/-! ### Commit (R178–R180) -/

/-- The result payload of CMP_COMMIT (R178). -/
def commitResult (seq fetch reason layer : Nat) : List Byte :=
  leBytes 4 seq ++ leBytes 4 fetch ++ leBytes 1 reason ++ leBytes 1 layer ++ leBytes 2 0

/-- Scale limits of a video layer (R186). -/
def scaleOk (g : Geom) : Bool :=
  decide (g.dstW ≤ 16 * g.srcW ∧ g.srcW ≤ 4 * g.dstW ∧ g.dstH ≤ 16 * g.srcH ∧ g.srcH ≤ 4 * g.dstH)

/-- Steps 3–7 of R179 for one layer: the failing step and its status. -/
def layerCheck (s : State) (l : Nat) : Option (Nat × Status) :=
  let st := (vget s.cmp.layers l {}).shadow
  let g := st.geom
  let f := st.surf
  let r := layerCfg s l
  let cv := (cfg s).canvas
  if !g.enable then none
  else if !surfaceValid s f then some (3, .outOfRange)
  else if !bitAt r.formatMask f.format || (f.ktc && !bitAt r.flags 0) then some (4, .outOfRange)
  else if !decide (g.srcX + g.srcW ≤ f.width ∧ g.srcY + g.srcH ≤ f.height ∧ g.srcW ≤ r.maxSrcW ∧ g.srcH ≤ r.maxSrcH ∧
      g.dstX + g.dstW ≤ cv.width ∧ g.dstY + g.dstH ≤ cv.height) ||
      (if l < 4 then decide (4096 < g.srcW)
       else decide (g.srcW ≠ g.dstW ∨ g.srcH ≠ g.dstH) || g.coefBank) then some (5, .outOfRange)
  else if decide (l < 4) && !scaleOk g then some (6, .outOfRange)
  else if decide (l < 4) && decide (24576 < g.srcW * (5 + ceilDiv g.srcH g.dstH)) then some (7, .noResource)
  else none

/-- Step 2 of R179: the first layer of the mask that is absent or that the image does not enable. -/
def maskCheck (s : State) (mask : Nat) : Option (Nat × Status) :=
  (List.range 16).findSome? (fun l =>
    if !bitAt mask l then none
    else if !layerPresent s l then some (l, .unitAbsent)
    else if !layerEnabled s l then some (l, .badState) else none)

/-- The pending state that a merge makes of a layer's shadow (R180). -/
def mergedPend (x : Layer) (wait seq arrival : Nat) (changed : List Nat) (l : Nat) : PendSt :=
  { st := x.shadow, wait := bitAt wait l, ready := false, seq := seq, arrival := arrival, changed := changed }

/-- The layers with the shadows of `mask` merged into their pending states (R180). -/
def mergeLayers (s : State) (mask wait seq arrival : Nat) (changed : List Nat) : Vector Layer 16 :=
  (List.range 16).foldl (fun v l =>
    if bitAt mask l then vmod v l (fun x => { x with pend := some (mergedPend x wait seq arrival changed l) }) else v)
    s.cmp.layers

/-- A replaced pending state's buffer is released with NEVER_SHOWN, unless the new state names the identical
descriptor (R180, R160). -/
def releaseReplaced (old : Vector Layer 16) (s : State) (l : Nat) : State :=
  match (vget old l {}).pend with
  | none => s
  | some q =>
    let keep := match (vget s.cmp.layers l {}).pend with
      | some n => n.st.geom.enable && n.st.surf == q.st.surf
      | none => false
    if q.st.geom.enable && !keep then postRetire s l q.st.surf 1 s.frame else s

/-- Record a rejected commit (R179). -/
def rejectCommit (s : State) (st : Status) (reason layer fetch : Nat) : State × Reply :=
  ({ s with cmp := { s.cmp with
    rejStatus := st.code, rejLayer := layer, rejReason := reason } },
   .now st (commitResult 0 fetch reason layer))

/-- The payload checks of CMP_COMMIT at step 6 of R131: reserved bytes, and no WAIT_MASK under version 1 (R178). -/
def commitPayloadOk (v1 : Bool) (p : List Byte) : Bool :=
  decide (leAt p 4 4 = 0 ∧ leAt p 22 2 = 0) && !(v1 && decide (leAt p 2 2 ≠ 0))

/-- Accept a commit: merge, release what it replaces, note it for the next latch (R180). -/
def acceptCommit (s : State) (mask wait arrival fetch : Nat) (changed : List Nat) : State :=
  let seq := s.cmp.commitSeq + 1
  let s1 := { s with cmp := { s.cmp with
    layers := mergeLayers s mask wait seq arrival changed, commitSeq := seq, fetchLast := fetch,
    commits := s.cmp.commits ++ [{ seq := seq, arrival := arrival, changed := changed }] } }
  forMask 16 mask (releaseReplaced s.cmp.layers) s1

/-- The state that step 1 of R179 refuses, at the arrival stamp: FTG0 stopped, or an activation in QUIESCED or SWITCHED. A
commit still under check when FTG0 stops completes its checks (R560). -/
def commitShut (s : State) (arrival : Nat) : Bool :=
  (!s.ftgOn && decide (s.cmp.stoppedAt ≤ arrival)) || (inSwitch s && (s.img.state == .switched || decide (s.img.quiescedAt ≤ arrival)))

/-- What fences a layer set's pending buffers, as ranges. -/
def pendRanges (layers : Vector Layer 16) (mask : Nat) : List (Nat × Nat) :=
  (List.range 16).flatMap (fun l =>
    match (vget layers l {}).pend with
    | some q => if bitAt mask l && q.st.geom.enable then (footprint q.st.surf).map round64 else []
    | none => [])

/-- One host write behind the doorbell of a commit now accepted: the bytes that its buffers fence are taken back, and the
write is a fenced one (R159, R166). -/
def fenceLate (ranges : List (Nat × Nat)) (arrival : Nat) (s : State) (w : HostWrite) : State :=
  let hit (a : Nat) : Bool := ranges.any (fun r => decide (r.1 ≤ a ∧ a < r.2))
  match w.wrote.find? hit with
  | none => s
  | some a =>
    if w.stamp < arrival then s
    else
      let s1 := (w.before.filter (fun e => hit e.1)).foldl (fun s e => wr s e.1 e.2) s
      let s2 := if w.counted then s1 else bump s1 0x1F0010
      if w.raised then s2
      else report s2 { source := 0x28, address := a, master := w.rid, access := 0x11, lengthDw := w.dw }

/-- The host writes behind a commit's doorbell, the newest first, so that a byte written twice ends as it was. -/
def fenceWrites (s : State) (ranges : List (Nat × Nat)) (arrival : Nat) : State :=
  let hit (a : Nat) : Bool := ranges.any (fun r => decide (r.1 ≤ a ∧ a < r.2))
  let s1 := s.cmp.writes.reverse.foldl (fenceLate ranges arrival) s
  { s1 with cmp := { s1.cmp with writes := s1.cmp.writes.map (fun w =>
      if w.wrote.any hit && decide (arrival ≤ w.stamp) then { w with raised := true, counted := true } else w) } }

/-- CMP_COMMIT (R178, R179). `arrival` is its arrival stamp (R96). -/
def runCommitChecks (s : State) (arrival : Nat) (p : List Byte) : State × Reply :=
  let mask := leAt p 0 2
  let wait := leAt p 2 2
  let changed := (List.range 7).map (fun i => leAt p (8 + 2 * i) 2)
  if commitShut s arrival then rejectCommit s .badState 1 255 0
  else
    match maskCheck s mask with
    | some (l, st) => rejectCommit s st 2 l 0
    | none =>
      if wait &&& mask ≠ wait then
        rejectCommit s .outOfRange 2 ((firstN 16 (fun l => bitAt wait l && !bitAt mask l)).getD 255) 0
      else
        match (List.range 16).findSome? (fun l =>
            if bitAt mask l then (layerCheck s l).map (fun e => (l, e)) else none) with
        | some (l, step, st) => rejectCommit s st step l 0
        | none =>
          let fetch := fetchBudget s (mergeLayers s mask wait 0 arrival changed)
          if (cfg s).canvas.fetchAllotment < fetch then rejectCommit s .noResource 8 255 fetch
          else
            let s0 := acceptCommit s mask wait arrival fetch changed
            let s1 := if s0.cmp.writes.isEmpty then s0 else fenceWrites s0 (pendRanges s0.cmp.layers mask) arrival
            (s1, .now .ok (commitResult s1.cmp.commitSeq fetch 0 255))

/-! ### Passes (R183–R185, R198–R201, R560) -/

/-- PASS_RESTART (R201). -/
def postPassRestart (s : State) (p : Pass) (outcome layer : Nat) : State :=
  post s 0x0403 0
    (leBytes 1 outcome ++ leBytes 1 layer ++ leBytes 2 p.line ++ leBytes 4 p.takenSeq ++ leBytes 8 p.frame)

/-- KTC tiles with a decode error that the pass has fetched for the first `lines` canvas lines, each judged by what DRAM held
when its first row of cells was fetched (R158, R167, R192). -/
def ktcErrors (s : State) (p : Pass) (lines : Nat) : Nat :=
  (zOrder s p).foldl (fun n e =>
    let f := e.2.surf
    let g := e.2.geom
    if !f.ktc then n
    else
      let rows := (cellRows g).filter (fun cy => decide (8 * cy < lines))
      n + (rows.foldl (fun (a : List (Nat × Nat) × Nat) cy =>
        let s1 := fetched s p (8 * cy)
        let new := (fedTiles (fedRow s p.layers p.cover e.1 g cy)).filter (fun t => !a.1.contains t)
        (a.1 ++ new, a.2 + (new.filter (fun t =>
          (tileReads s1 f t.1 t.2).all (fun r => !readHits s1 r.1 r.2) && (tileAt s1 f t.1 t.2).isNone)).length)) ([], 0)).2) 0

/-- A pass ends, complete or not: the decode errors of what it has fetched count, and raise fault 0x2A once (R158). -/
def countKtc (s : State) (p : Pass) (lines : Nat) : State :=
  let n := ktcErrors s p lines
  if n = 0 then s else report (bumpBy s 0x1F0018 n) { source := 0x2A }

/-- A running pass ends before its last line: what it has fetched is judged, and its line is that of the abort (R158, R201). -/
def cutPass (s : State) (p : Pass) : State × Pass :=
  if p.mode == .running then (countKtc s p (passLineNow s p + 1), { p with line := passLineNow s p }) else (s, p)

/-- Set the pass. -/
def setPass (s : State) (p : Option Pass) : State := { s with cmp := { s.cmp with pass := p } }

/-- A pass still running or waiting to restart is aborted by a later take (R185). -/
def abortPass (s : State) : State :=
  match s.cmp.pass with
  | some p =>
    if p.mode == .running || p.mode == .waiting then
      let c := cutPass s p
      postPassRestart (setPass c.1 (some { c.2 with mode := .stopped })) c.2 2 255
    else s
  | none => s

/-- The gains that CLR_WB_GAIN_b hold (R216). -/
def wbGains (s : State) : List Nat := (List.range 12).map (fun b => regN s (0x300010 + 4 * b))

/-- The layer states a pass shows: a layer late under SKIP is left out (R183). -/
def shownStates (layers : Vector Layer 16) (skipped : Nat) : List (Option LayerSt) :=
  (List.range 16).map (fun l => if bitAt skipped l then none else some (vget layers l {}).cur)

/-- Start the pass of a take in a frame, from `start` on (R181, R183, R216, R220). -/
def startPass (s : State) (frame start takenSeq skipped cover : Nat) (changed : List Nat) : State :=
  let gains := wbGains s
  let no := s.cmp.takeNo + 1
  let p : Pass := {
    no := no, mode := .running, layers := shownStates s.cmp.layers skipped, takenSeq := takenSeq,
    frame := frame, line := 0, changed := changed, cover := cover, carryIn := s.clr.carryRead, gains := gains,
    pqPeak := s.clr.pqPeak, start := start }
  let s1 := { s with cmp := { s.cmp with pass := some p, takeNo := no },
                     clr := { s.clr with gainPrimary := (List.range 3).map (primaryGain (cfg s).topo gains) } }
  pbuTake s1 no

/-- A pending state that this latch may accept: its commit arrived before the latch's first cycle (R181). -/
def latchable (stamp : Nat) (q : PendSt) : Bool := decide (q.arrival < stamp)

/-- A pending state is not ready for a latch: WAIT set, and no CMP_LAYER_READY arrived before it (R182). -/
def unready (stamp : Nat) (q : PendSt) : Bool := q.wait && !(q.ready && decide (q.readyAt < stamp))

/-- A layer is late at the latch: WAIT set and not ready (R182, R183). -/
def isLate (stamp : Nat) (x : Layer) : Bool :=
  match x.pend with
  | some q => latchable stamp q && unready stamp q
  | none => false

/-- A layer's pending state is accepted at the latch (R183). -/
def isTaken (stamp : Nat) (x : Layer) : Bool :=
  match x.pend with
  | some q => latchable stamp q && !unready stamp q
  | none => false

/-- LAYER_LATE (R201). -/
def postLayerLate (frame : Nat) (s : State) (l : Nat) (q : PendSt) : State :=
  post (bump s 0x200034) 0x0402 l
    (leBytes 2 q.st.surf.bufferId ++ leBytes 1 (b2n q.st.geom.lateSkip) ++ leBytes 1 0 ++ leBytes 4 q.seq ++
     leBytes 8 frame)

/-- A layer takes its pending state: the buffer it showed retires until FRAME_DONE of the next frame (R159, R183). -/
def takeLayer (frame : Nat) (x : Layer) : Layer :=
  match x.pend with
  | some q =>
    { x with
      cur := q.st
      pend := none
      retiring := if x.cur.geom.enable then x.retiring ++ [{ surf := x.cur.surf, frame := (frame + 1) % 2 ^ 48 }]
                  else x.retiring }
  | none => x

/-- Bitwise OR of the CHANGED masks of the commits in a take (R184). -/
def orMasks (l : List (List Nat)) : List Nat :=
  l.foldl (fun a m => (List.range 7).map (fun i => a.getD i 0 ||| m.getD i 0)) (List.replicate 7 0)

/-- The latch at `stamp` in a frame (R183, R184): late layers are posted, the others taken, and a take starts a pass, which
runs from `start` on. -/
def latch (s : State) (stamp frame start : Nat) : State :=
  let old := s.cmp.layers
  let lateMask := maskOf (old.toList.map (isLate stamp))
  let takenMask := maskOf (old.toList.map (isTaken stamp))
  let skip := maskOf (old.toList.map (fun x => isLate stamp x && x.pend.elim false (·.st.geom.lateSkip)))
  let s1 := forMask 16 lateMask (fun s l =>
    match (vget old l {}).pend with | some q => postLayerLate frame s l q | none => s) s
  let commits := s.cmp.commits.filter (fun c => decide (c.arrival < stamp))
  let takenPend := (List.range 16).filterMap (fun l => if bitAt takenMask l then (vget old l {}).pend else none)
  let take := !commits.isEmpty || decide (takenMask ≠ 0)
  let layers := (List.range 16).foldl (fun v l => if bitAt takenMask l then vmod v l (takeLayer frame) else v) old
  let s2 := { s1 with cmp := { s1.cmp with
    layers := layers, lateHeld := lateMask ^^^ skip, lateSkipped := skip, latchStamp := some stamp, latchWait := none } }
  if !take then s2
  else
    let seq := (commits.map (·.seq) ++ takenPend.map (·.seq)).foldl max 0
    -- R411: the bits of a take whose pass this one aborts go on
    let aborted := match s.cmp.pass with
      | some p => if p.mode == .running || p.mode == .waiting then [p.changed] else []
      | none => []
    let changed := orMasks (commits.map (·.changed) ++ takenPend.map (·.changed) ++ aborted)
    let s3 := { s2 with cmp := { s2.cmp with
      commits := s2.cmp.commits.filter (fun c => !decide (c.arrival < stamp)), takenSeq := seq, takenFrame := frame } }
    let s4 := post s3 0x0401 0
      (leBytes 4 seq ++ leBytes 2 takenMask ++ leBytes 2 lateMask ++ leBytes 8 frame)
    let cover := coverMask s4 (shownStates layers skip) (fun l => (vget old l {}).pend.elim false (·.wait))
    startPass (abortPass s4) frame start seq skip cover changed

/-- T_pass in cycles: WIDTH · HEIGHT / 8 clocks of 800 MHz (R198), rounded up. -/
def passCycles (s : State) : Nat := ceilDiv ((cfg s).canvas.width * (cfg s).canvas.height * 250) (8 * 800)

/-- Restart a pass from line 0 with the same latched states (R198, R199, R200). -/
def restartPass (s : State) (p : Pass) : State :=
  let s1 := setPass s (some { p with mode := .running, line := 0, start := s.tsc, held := [] })
  beginBuild s1 p.no

/-- The composer runs dry on a layer at a canvas line; `deadline` is the decision point of boundary 15 (R198). For the row
store, 0xFE, it does where the ring row of that line is not free (R246). -/
def composerDry (s : State) (layer line deadline : Nat) : State :=
  match s.cmp.pass with
  | some p0 =>
    if p0.mode == .running && !(layer == 0xFE && ringRowFree s line) then
      let p := { p0 with line := line }
      let s0 := countKtc s p (line + 1)
      let s1 := report (bump s0 0x200028) { source := 0x30 }
      if s.tsc + passCycles s ≤ deadline then
        restartPass (postPassRestart (bump s1 0x20002C) p 0 layer) p
      else
        let s2 := report (bump s1 0x200030) { source := 0x31 }
        let s3 := setPass s2 (some { p with mode := .waiting })
        beginBuild (postPassRestart s3 p 1 layer) 0
    else s
  | none => s

/-- FTG0 stops: a pass that runs or waits stops with OUTCOME 3, and its tiles stop (R560, R244). -/
def stopPass (s : State) : State :=
  match s.cmp.pass with
  | some p =>
    if p.mode == .running || p.mode == .waiting then
      let c := cutPass s p
      beginBuild (postPassRestart (setPass c.1 (some { c.2 with mode := .stopped })) c.2 3 255) 0
    else s
  | none => s

/-- Release every buffer with IMAGE_SWITCH and clear all layer states (R77, R160, R174). -/
def switchLayers (s : State) : State :=
  let s1 := forN 16 (fun s l =>
    let x := vget s.cmp.layers l {}
    let bufs : List (Surface × Nat) :=
      (match x.pend with | some q => if q.st.geom.enable then [(q.st.surf, 3)] else [] | none => []) ++
      (if x.cur.geom.enable then [(x.cur.surf, 2)] else []) ++ x.retiring.map (fun r => (r.surf, 2))
    let s' := { s with cmp := { s.cmp with layers := vset s.cmp.layers l { urgent := x.urgent } } }
    bufs.foldl (fun s b => postRetire s l b.1 b.2 s.frame) s') s
  { s1 with cmp := { s1.cmp with commits := [], pass := none, latchStamp := none, latchWait := none, stoppedAt := 0, writes := [] } }

/-- A retiring buffer is due at the end of frame n: its frame is that one or, where FTG0 stopped in it, an earlier one (log
entry 70). -/
def retireDue (n : Nat) (r : Retiring) : Bool := decide ((n + 2 ^ 48 - r.frame) % 2 ^ 48 < 2 ^ 47)

/-- FRAME_DONE of frame n releases the buffers that retire with it, in ascending layer order (R159, R163). -/
def releaseRetiring (s : State) (n : Nat) : State :=
  forN 16 (fun s l =>
    let x := vget s.cmp.layers l {}
    let due := x.retiring.filter (retireDue n)
    let s' := { s with cmp := { s.cmp with
      layers := vmod s.cmp.layers l (fun y => { y with retiring := y.retiring.filter (fun r => !retireDue n r) }) } }
    due.foldl (fun s r => postRetire s l r.surf 0 n) s') s

/-! ### Completed passes (R158, R217–R220) -/

/-- The reads of a pass for one layer, as address and length: the runs of R193 of each source row, or for each KTC tile its
header and its data. -/
def layerReads (s : State) (p : Pass) (e : Nat × LayerSt) : List (Nat × Nat) :=
  let f := e.2.surf
  let g := e.2.geom
  let cells := fedCells s p.layers p.cover e.1 g
  if f.ktc then (fedTiles cells).flatMap (fun t => tileReads s f t.1 t.2)
  else (List.range g.srcH).flatMap (fun dy => (rowSpans cells (g.srcY + dy)).map (fun r =>
    (f.base + (g.srcY + dy) * f.pitch + r.1 * bytesPP f.format, (r.2 - r.1) * bytesPP f.format)))

/-- The uncorrectable words that a pass meets: a request for each read of a layer and for each line of carries (R419). -/
def passUes (s : State) (p : Pass) : State :=
  if dramClean s then s
  else
    let s1 := (zOrder s p).foldl (fun s1 e => (layerReads s p e).foldl (fun s2 r => readUe s2 r.1 r.2 4) s1) s
    if (cfg s).canvas.carryEnable = 1 then
      (List.range (cfg s).canvas.height).foldl (fun s1 y => readUe s1 (carryAddr s p.carryIn 0 y) (2 * (cfg s).canvas.width) 5) s1
    else s1

/-- Write the carry words of one canvas line and say whether a pixel of it clipped (R212, R215, R219). -/
def passLine (s0 : State) (p : Pass) (y : Nat) (a : State × Bool) : State × Bool :=
  let sy := fetched s0 p y
  let r := (List.range (cfg s0).canvas.width).foldl (fun (r : List Byte × Bool) x =>
    let (_, carry, clip) := passPx sy p x y
    (r.1 ++ leBytes 2 (carry.getD 0 0 + 16 * carry.getD 1 0 + 256 * carry.getD 2 0), r.2 || clip)) ([], a.2)
  (if (cfg s0).canvas.carryEnable = 1 then wrBytes a.1 (carryAddr s0 (!p.carryIn) 0 y) r.1 else a.1, r.2)

/-- The word whose injected error the reads of a pass have taken (R421). -/
def takenWords (s t : State) : List Nat :=
  match (vget s.flt.srcs 0x21 {}).armed with
  | some i => if (vget t.flt.srcs 0x21 {}).armed.isNone then [i.address / 8] else []
  | none => []

/-- The pass writes its last line: carries written, clips and KTC errors counted, CARRY_READ inverted (R158, R218,
R220, R235). -/
def finishPass (s : State) (p : Pass) : State :=
  let (s1, clip) := (List.range (cfg s).canvas.height).foldl (fun a y => passLine s p y a) (s, false)
  let s2 := passUes s1 p
  let n := ktcErrors s p (cfg s).canvas.height
  let s3 := if n = 0 then s2 else report (bumpBy s2 0x1F0018 n) { source := 0x2A }
  let s4 := if clip then bump s3 0x300058 else s3
  let done := { p with
    mode := .complete, line := (cfg s).canvas.height, zeroed := p.zeroed ++ takenWords s s2 }
  { s4 with cmp := { s4.cmp with pass := some done }, clr := { s4.clr with carryRead := !p.carryIn } }

/-- Fill of a layer's fetch buffer crosses a watermark (R195); the errors that its reads met on the way there, and those of
the carry reads beside them, are noted (R418, R419). -/
def fetchFill (s0 : State) (l fillKb : Nat) (errs : DramErrs) : State :=
  let carry (w : Nat) : Bool := areaOf s0 (8 * w) == .device
  let s := meetErrors (meetErrors s0 { ue := errs.ue, ce := errs.ce.filter (fun w => !carry w) } 4) { ce := errs.ce.filter carry } 5
  let wm := regN s 0x20001C
  let x := vget s.cmp.layers l {}
  let set (b : Bool) (s : State) : State :=
    { s with cmp := { s.cmp with layers := vmod s.cmp.layers l (fun y => { y with urgent := b }) } }
  if !x.urgent && decide (fillKb < bits wm 5 0) then bump (set true s) 0x200038
  else if x.urgent && decide (bits wm 13 8 ≤ fillKb) then set false s
  else s

end Sys2Proof.Machine
end

