-- ==== Sys2Proof/Machine/PlkOps.lean ====
section
/-! DEFINITION. Schedule variants (chapter 8) and the Plane Link port machine (chapter 9). -/

namespace Sys2Proof.Machine

/-! ### Ports (R307, R311, R315) -/

/-- A port. -/
def port (s : State) (p : Nat) : Port := vget s.plk p {}

/-- Change a port. -/
def modPort (s : State) (p : Nat) (f : Port → Port) : State := { s with plk := vmod s.plk p f }

/-- The code of a port state (R307). -/
def portCode : PortMode → Nat
  | .disabled => 0
  | .sync => 1
  | .hello => 2
  | .train => 3
  | .check => 4
  | .mode => 5
  | .parked => 6
  | .active => 7
  | .failed => 8

/-- Post PORT_STATE and signal the port's vector (R315, R104). -/
def postPortState (s : State) (p : Nat) (prev : PortMode) : State :=
  let x := port s p
  signal (post s 0x0801 p
    (leBytes 1 (portCode x.mode) ++ leBytes 1 (portCode prev) ++ leBytes 1 x.cause ++ leBytes 1 x.version ++
     leBytes 1 x.lanes ++ leBytes 1 x.half ++ leBytes 2 x.laneLost ++ leBytes 8 s.frame)) (8 + p)

/-- Enter a state with a cause; a change of state is posted, and so is each parking of a port already PARKED (R312, R315). -/
def enterPort (s : State) (p : Nat) (m : PortMode) (cause : Nat) : State :=
  let prev := (port s p).mode
  let s1 := modPort s p (fun x => { x with mode := m, cause := cause })
  if prev = m ∧ m ≠ .parked then s1 else postPortState s1 p prev

/-- Base of a port's registers (R316). -/
def portBase (p : Nat) : Nat := 0x800000 + 0x10000 * p

/-- Every mirror block of a port goes off. -/
def blocksOff (s : State) (p : Nat) : State :=
  { s with rck := { s.rck with blocks := vmod s.rck.blocks p (Vector.map (fun b => { b with shows := none })) } }

/-- Send a control-lane frame. -/
def sendFrame (s : State) (p op : Nat) (args : List Nat) : State := emit s (.plkFrame p op args)

/-- Send a frame whose reply has a limit (R301). -/
def sendAsking (s : State) (p op : Nat) (args : List Nat) : State :=
  sendFrame (modPort s p (fun x => { x with sentAt := s.tsc })) p op args

/-- PARK_STYLE of a port (R316). -/
def parkStyle (s : State) (p : Nat) : Nat := bits (regN s (portBase p + 4)) 0 0

/-- The cause byte of a failed completion (R314). -/
def causeByte (c : Nat) : List Byte := leBytes 1 c

/-- The selection of a degraded variant for a port is cancelled, and its slot is free (R283). -/
def dropSelection (s : State) (p : Nat) : State :=
  match s.rck.next with
  | some n => if n.cause == .degraded && n.port == p then { s with rck := { s.rck with next := none } } else s
  | none => s

/-- Declare a port failed: PARK sent, all lanes idle, fault 0x61, a selection made for it cancelled, commands waiting on it
completed (R283, R307, R312–R314). -/
def portFail (s : State) (p cause : Nat) : State :=
  let x := port s p
  let s1 := blocksOff (sendFrame (dropSelection s p) p 0x06 [parkStyle s p]) p
  let s2 := enterPort (modPort s1 p (fun y => { y with
      version := 0, lanes := 0, half := 0, parkAt := none, thenTrain := false, holdReady := false, unparking := false,
      delivering := false, trainedOnce := true, statusWait := false, statusMiss := 0, failedHeld := true,
      retrainId := none, parkId := none, unparkId := none, statusId := none })) p .failed cause
  let s3 := report s2 { source := 0x61, master := p, address := cause }
  completeOpt (completeOpt (completeOpt (completeOpt s3 x.retrainId .checkFail (causeByte cause))
    x.parkId .timeout (causeByte cause)) x.unparkId .checkFail (causeByte cause)) x.statusId .timeout []

/-- Park a port: PARK sent, PARKED with the cause, its blocks off and its beads discarded (R304, R312). -/
def parkPort (s : State) (p style cause : Nat) : State :=
  let s1 := blocksOff (sendFrame s p 0x06 [style]) p
  enterPort (modPort s1 p (fun y => { y with
    parkAt := some s.tsc, parkFrom := s.tsc, parkSent := style, delivering := false, unparking := false })) p .parked cause

/-- Park one port by a reaction, unless one holds it parked; an UNPARK that waits ends in BAD_STATE (R312, R496). -/
def parkArray (s : State) (p : Nat) : State :=
  let x := port s p
  if (x.mode == .active || (x.mode == .parked && (x.cause != 16 || x.unparking || x.unparkId.isSome))) && domainOn s (8 + p) then
    completeOpt (parkPort (modPort s p (fun y => { y with unparkId := none, thenTrain := false, holdReady := false }))
      p (parkStyle s p) 16) x.unparkId .badState []
  else s

/-- Reaction bit PARK_ARRAYS: every port in ACTIVE or PARKED is parked with CAUSE 16 (R312, R496). -/
def parkArrays (s : State) : State := forN 6 parkArray s

/-! ### Training (R302, R307–R310) -/

/-- Entry to SYNC or TRAIN after the first training counts (R316). -/
def countRetrain (s : State) (p : Nat) : State :=
  if (port s p).trainedOnce then bump s (portBase p + 0x44) else s

/-- Enter SYNC (R307). -/
def enterSync (s : State) (p cause : Nat) (fullOnly : Bool) : State :=
  countRetrain (enterPort (modPort (blocksOff s p) p (fun x => { x with
    sentAt := s.tsc, attempts := 0, trainTries := 0, corrected := false, halfWidth := false, excluded := none, fullOnly := fullOnly,
    holdReady := false, unparking := false, delivering := false, parkAt := none, thenTrain := false, version := 0, lanes := 0,
    half := 0, reversed := false, inverted := 0, locked := 0, statusWait := false, statusMiss := 0 })) p .sync cause) p

/-- Lanes of full width at a version (R291). -/
def fullLanes (version : Nat) : Nat := if version = 2 then 16 else 8

/-- Data lanes in use (R291). -/
def lanesInUse (x : Port) : Nat := if x.halfWidth then fullLanes x.version / 2 else fullLanes x.version

/-- Send TRAIN of a phase (R301, R309). -/
def sendTrain (s : State) (p phase : Nat) : State :=
  let x := port s p
  sendAsking s p 0x03 [lanesInUse x, phase, x.half]

/-- Enter TRAIN, or start it again, at the width in use (R309, R316). -/
def enterTrain (s : State) (p cause : Nat) : State :=
  let s1 := modPort s p (fun x => { x with lanes := lanesInUse x })
  let s2 := enterPort s1 p .train cause
  sendTrain (if (port s p).mode = .train then s2 else countRetrain s2 p) p 0

/-- The selection made in this very cycle for a port of a higher number (R283). -/
def supplanted (s : State) (p : Nat) : Option VarSel :=
  s.rck.next.filter (fun n => n.cause == .degraded && n.at_ == s.tsc && decide (p < n.port))

/-- The degraded variant of a port may be selected, or already runs for it (R283). -/
def halfPermitted (s : State) (p : Nat) : Bool :=
  let d := (linkCfg s p).degradedVariant
  let running := (cfg s).sched.getD s.rck.variant {}
  decide (d ≠ 255) && !(port s p).fullOnly &&
    ((decide (s.rck.variant = 0) && (s.rck.next.isNone || (supplanted s p).isSome)) || (running.kind == 1 && running.port == p))

/-- A store slot that neither runs nor is selected (R280). -/
def freeStoreSlot (s : State) : Nat := if s.rck.slotRun = 1 then 2 else 1

/-- Begin to load the degraded variant of a port, to be selected when the load is complete (R282). Nothing is loaded when
the port's variant runs already. Of two ports in one cycle the higher-numbered is declared failed (R283). -/
def selectDegraded (s : State) (p : Nat) : State :=
  if s.rck.variant = 0 then
    let s1 := match supplanted s p with
      | some n => portFail s n.port (if (port s n.port).cause = 13 then 12 else 11)
      | none => s
    { s1 with rck := { s1.rck with next := some {
        variant := (linkCfg s p).degradedVariant, slot := freeStoreSlot s, port := p, cause := .degraded, loaded := false,
        at_ := s.tsc } } }
  else s

/-- The variant a half-width port waits for is loaded, or runs (R310). -/
def variantReady (s : State) (p : Nat) : Bool :=
  match s.rck.next with
  | some n => n.port != p || n.loaded
  | none => true

/-- Switch training to half width on the given half (R310). -/
def trainHalf (s : State) (p half cause : Nat) : State :=
  let s1 := selectDegraded s p
  let s2 := modPort s1 p (fun x => { x with halfWidth := true, half := half, trainTries := 0, corrected := false, holdReady := true })
  enterTrain s2 p cause

/-- A training attempt fails with a mask of failed logical lanes (R307, R310). -/
def trainFail (s : State) (p failed failCause : Nat) (phase : Nat) : State :=
  let x := port s p
  if x.trainTries + 1 < 2 then
    sendTrain (modPort s p (fun y => { y with trainTries := y.trainTries + 1 })) p phase
  else if x.halfWidth then portFail s p failCause
  else
    let n := fullLanes x.version / 2
    let low := decide (failed % 2 ^ n ≠ 0)
    let high := decide (failed / 2 ^ n ≠ 0)
    if low && high then portFail s p failCause
    else if !halfPermitted s p then portFail s p 11
    else trainHalf s p (if low then 1 else 0) x.cause

/-- Send UNPARK as soon as the port may be READY: a half-width port waits for its variant (R307, R310). -/
def sendUnpark (s : State) (p : Nat) : State :=
  if (port s p).halfWidth && !variantReady s p then modPort s p (fun x => { x with holdReady := true })
  else sendAsking (modPort s p (fun x => { x with unparking := true, attempts := 1, holdReady := false })) p 0x07 []

/-- A frame of HELLO, SET_MODE or UNPARK is sent again, or the port fails after four attempts (R302). -/
def resend (s : State) (p op : Nat) (args : List Nat) (cause : Nat) : State :=
  if (port s p).attempts < 4 then
    sendAsking (modPort s p (fun x => { x with attempts := x.attempts + 1 })) p op args
  else portFail s p cause

/-- The SET_MODE operands of a port (R301). -/
def modeArgs (x : Port) : List Nat := [x.version, lanesInUse x, x.half]

/-- The lanes in use as a mask of logical lanes. -/
def laneMask (x : Port) : Nat := (2 ^ lanesInUse x - 1) * 2 ^ (x.half * lanesInUse x)

/-- 16 consecutive valid characters: SYNC to HELLO (R307). -/
def statusSync (s : State) (p : Nat) : State :=
  if (port s p).mode == .sync then
    let s1 := enterPort (modPort s p (fun x => { x with attempts := 1 })) p .hello (port s p).cause
    sendAsking s1 p 0x01 [1, 2]
  else s

/-- HELLO_ACK of an array, as R301 lays it out. -/
def helloAck (s : State) (p verMin verMax width height rows unpark settle vendor model serial : Nat) : State :=
  if (port s p).mode == .hello then
    let l := linkCfg s p
    let s1 := modPort s p (fun x => { x with
      width := width, height := height, blockRows := rows, unpark10us := unpark, settleNs := settle, vendor := vendor,
      model := model, serial := serial })
    if ¬ (verMin ≤ l.nomVersion ∧ l.nomVersion ≤ verMax) then portFail s1 p 3
    else if width ≠ l.width ∨ height ≠ l.height ∨ rows ≠ l.blockRows then portFail s1 p 4
    else if l.settleMaxNs < settle ∨ unpark < 1 ∨ 100 < unpark then portFail s1 p 5
    else
      let s2 := modPort s1 p (fun x => { x with version := l.nomVersion, trainTries := 0 })
      enterTrain s2 p (port s p).cause
  else s

/-- TRAIN_REPORT in phase 0: `lanes` gives for each receiver lane the ID seen, LOCKED and INVERTED (R309). -/
def trainReport0 (s : State) (p : Nat) (lanes : List (Nat × Bool × Bool)) : State :=
  let x := port s p
  let w := fullLanes x.version
  let used := (List.range w).filter (fun r => bitAt (laneMask x) r)
  let lane (r : Nat) : Nat × Bool × Bool := lanes.getD r (0, false, false)
  let lockedR := used.filter (fun r => (lane r).2.1)
  let normal := lockedR.all (fun r => (lane r).1 == r)
  let reversed := lockedR.all (fun r => (lane r).1 == w - 1 - r)
  let inv := lockedR.filter (fun r => (lane r).2.2)
  let locked := maskOf ((List.range 16).map (fun r => lockedR.contains r))
  let s1 := modPort s p (fun y => { y with locked := locked })
  if !normal && !reversed then portFail s1 p 7
  else
    let rev := !normal
    if (rev || !inv.isEmpty) && x.corrected then portFail s1 p 7
    else if rev || !inv.isEmpty then
      let invMask := maskOf ((List.range 16).map (fun n => inv.any (fun r => (lane r).1 == n)))
      let s2 := modPort s1 p (fun y => { y with
        corrected := true, reversed := y.reversed != rev, inverted := y.inverted ^^^ invMask })
      sendTrain s2 p 0
    else
      let failed := maskOf ((List.range 16).map (fun r => used.contains r && !(lane r).2.1))
      if failed ≠ 0 then trainFail s1 p failed 6 0
      else sendTrain (enterPort (modPort s1 p (fun y => { y with trainTries := 0 })) p .check x.cause) p 1

/-- TRAIN_REPORT in phase 1 (R309). -/
def trainReport1 (s : State) (p errors : Nat) : State :=
  let x := port s p
  if errors = 0 then
    sendAsking (enterPort (modPort s p (fun y => { y with attempts := 1 })) p .mode x.cause) p 0x02 (modeArgs x)
  else trainFail s p (laneMask x) 8 1

/-- TRAIN_REPORT (R309). -/
def trainReport (s : State) (p : Nat) (lanes : List (Nat × Bool × Bool)) (errors : Nat) : State :=
  match (port s p).mode with
  | .train => trainReport0 s p lanes
  | .check => trainReport1 s p errors
  | _ => s

/-- A park is acknowledged: its time, the command that waits, and the retraining that follows a lane loss (R312). -/
def parkAcked (s : State) (p : Nat) : State :=
  let x := port s p
  match x.parkAt with
  | none => s
  | some _ =>
    let s1 := completeOpt (modPort s p (fun y => { y with
      parkAt := none, parkLast := 4 * (s.tsc - x.parkFrom), parkId := none, thenTrain := false })) x.parkId .ok []
    if x.thenTrain then enterTrain s1 p x.cause else s1

/-- ACK of a SET_MODE or PARK (R301). -/
def plkAck (s : State) (p op result : Nat) : State :=
  let x := port s p
  if op = 0x02 ∧ x.mode = .mode then
    if result = 0 then
      sendUnpark (enterPort s p .parked x.cause) p
    else resend s p 0x02 (modeArgs x) 9
  else if op = 0x06 then parkAcked s p
  else s

/-- A port's group readiness note of chapter 13 is its READY event; here the port becomes ACTIVE (R307, R312). -/
def plkReady (s : State) (p : Nat) : State :=
  let x := port s p
  if x.mode = .parked ∧ x.unparking = true then
    let cause := if x.cause = 13 ∨ x.cause = 19 then x.cause else 0
    let s1 := enterPort (modPort s p (fun y => { y with
      unparking := false, attempts := 0, trainedOnce := true, fullOnly := false, failedHeld := false, retrainId := none,
      unparkId := none,
      statusWait := false, statusMiss := 0 })) p .active cause
    completeOpt (completeOpt s1 x.retrainId .ok []) x.unparkId .ok []
  else s

/-- A lane in use loses lock (R312, R283). -/
def laneLost (s : State) (p lane : Nat) : State :=
  let x := port s p
  if !bitAt (laneMask x) lane then s
  else
    let s1 := report (modPort s p (fun y => { y with laneLost := y.laneLost ||| 2 ^ lane }))
      { source := 0x60, master := p, address := lane }
    match x.mode with
    | .active | .parked =>
      if x.halfWidth || !halfPermitted s p then portFail s1 p 12
      else
        let n := fullLanes x.version / 2
        let s2 := selectDegraded s1 p
        let s3 := parkPort s2 p (parkStyle s p) 13
        modPort s3 p (fun y => { y with
          thenTrain := true, halfWidth := true, half := if lane < n then 1 else 0, excluded := some (lane / n),
          trainTries := 0, corrected := false, holdReady := true })
    | .train => trainFail s1 p (2 ^ lane) 6 0
    | .check => trainFail s1 p (2 ^ lane) 8 1
    | _ => s1

/-- No status-lane character for 1 µs, or three STATUS missed (R312). -/
def statusLost (s : State) (p : Nat) : State :=
  let m := (port s p).mode
  if m = .active ∨ m = .parked then
    portFail (report s { source := 0x64, master := p }) p 14
  else s

/-- A status-lane frame error is counted and raises 0x63 (R302). -/
def frameError (s : State) (p : Nat) : State :=
  report (bump s (portBase p + 0x3C)) { source := 0x63, master := p }

/-- FRAME_ERR names a frame the array discarded: it is resent where R302 says so; with a RESET_BLOCK every block of the array
went off (R305). -/
def frameErr (s : State) (p op : Nat) : State :=
  let s1 := frameError s p
  let x := port s p
  if op = 0x01 ∧ x.mode = .hello then resend s1 p 0x01 [1, 2] 2
  else if op = 0x02 ∧ x.mode = .mode then resend s1 p 0x02 (modeArgs x) 9
  else if op = 0x03 ∧ x.mode = .train then trainFail s1 p (laneMask x) 6 0
  else if op = 0x03 ∧ x.mode = .check then trainFail s1 p (laneMask x) 8 1
  else if op = 0x07 ∧ x.mode = .parked ∧ x.unparking = true then resend s1 p 0x07 [] 10
  else if op = 0x05 then blocksOff s1 p
  else if op = 0x06 then
    match x.parkAt with
    | some t => if s.tsc - t < 2500 then
        sendFrame (modPort s1 p (fun y => { y with parkFrom := s.tsc })) p 0x06 [x.parkSent] else s1
    | none => s1
  else s1

/-- The limit of what a port waits for, in cycles: 5 ms in SYNC, 10 µs for HELLO_ACK and ACK, 1 ms for TRAIN_REPORT,
UNPARK_10US × 10 µs for READY (R301, R307, R309). -/
def replyLimit (x : Port) : Nat :=
  match x.mode with
  | .sync => 1250000
  | .hello | .mode => 2500
  | .train | .check => 250000
  | _ => 2500 * x.unpark10us

/-- The port has waited as long as its limit. -/
def replyDue (s : State) (p : Nat) : Bool := decide ((port s p).sentAt + replyLimit (port s p) ≤ s.tsc)

/-- A READ_STATUS waits for its STATUS, and its 5 µs are over (R301). -/
def statusDue (s : State) (p : Nat) : Bool := (port s p).statusWait && decide ((port s p).statusAt + 1250 ≤ s.tsc)

/-- A READ_STATUS stays without its STATUS; the third in a row loses the status lane (R312). -/
def statusMissed (s : State) (p : Nat) : State :=
  let x := port s p
  let s1 := completeOpt (modPort s p (fun y => { y with
    statusWait := false, statusMiss := y.statusMiss + 1, statusId := none })) x.statusId .timeout []
  if 3 ≤ x.statusMiss + 1 then statusLost s1 p else s1

/-- A reply limit passes (R302, R312). -/
def replyTimeout (s : State) (p : Nat) : State :=
  let x := port s p
  if (x.mode == .parked || x.mode == .active) && statusDue s p then statusMissed s p
  else if !replyDue s p then s
  else match x.mode with
  | .hello => resend s p 0x01 [1, 2] 2
  | .mode => resend s p 0x02 (modeArgs x) 9
  | .train => trainFail s p (laneMask x) 6 0
  | .check => trainFail s p (laneMask x) 8 1
  | .parked => if x.unparking then resend s p 0x07 [] 10 else s
  | _ => s

/-- No ACK to PARK within 10 µs (R312). -/
def parkLate (s : State) (p : Nat) : State :=
  match (port s p).parkAt with
  | some t => if t + 2500 ≤ s.tsc then portFail (report s { source := 0x66, master := p }) p 20 else s
  | none => s

/-- STATUS of an array (R301, R312). -/
def plkStatus (s : State) (p st flags rowErr frameErrs : Nat) : State :=
  let x := port s p
  let s1 := modPort s p (fun y => { y with
    stState := st, stFlags := flags, statusWait := false, statusMiss := 0, statusId := none })
  let s2 := if flags ≠ 0 then report s1 { source := 0x65, master := p } else s1
  completeOpt s2 x.statusId .ok
    (leBytes 1 st ++ leBytes 1 flags ++ leBytes 2 0 ++ leBytes 4 rowErr ++ leBytes 4 frameErrs)

/-- An automatic or commanded READ_STATUS is sent (R307, R314). -/
def readStatus (s : State) (p : Nat) : State :=
  sendFrame (modPort s p (fun x => { x with statusWait := true, statusAt := s.tsc })) p 0x08 []

/-! ### Commands (R314) -/

/-- The states in which every Plane Link command is refused (R314). -/
def plkRefused (s : State) : Bool := !s.ftgOn || inSwitch s

/-- PLK_RETRAIN (R314). -/
def runRetrain (s : State) (p id : Nat) (pl : List Byte) : State × Reply :=
  if 1 < byteAt pl 0 ∨ leAt pl 1 3 ≠ 0 then (s, .now .outOfRange [])
  else if plkRefused s || !portEnabled s p || (port s p).mode == .disabled then (s, .now .badState [])
  else (modPort (enterSync s p 19 (byteAt pl 0 == 0)) p (fun x => { x with retrainId := some id }), .later)

/-- PLK_PARK (R314). -/
def runPark (s : State) (p id : Nat) (pl : List Byte) : State × Reply :=
  if 1 < byteAt pl 0 ∨ leAt pl 1 3 ≠ 0 then (s, .now .outOfRange [])
  else if plkRefused s || (port s p).mode != .active then (s, .now .badState [])
  else (modPort (parkPort s p (byteAt pl 0) 17) p (fun x => { x with parkId := some id }), .later)

/-- PLK_UNPARK (R314). -/
def runUnpark (s : State) (p id : Nat) : State × Reply :=
  let x := port s p
  if plkRefused s || !(x.mode == .parked && (x.cause == 16 || x.cause == 17)) then (s, .now .badState [])
  else (modPort (sendUnpark s p) p (fun y => { y with unparkId := some id }), .later)

/-- PLK_READ_STATUS (R314). -/
def runReadStatus (s : State) (p id : Nat) : State × Reply :=
  let m := (port s p).mode
  if plkRefused s || !(m == .parked || m == .active) then (s, .now .badState [])
  else (modPort (readStatus s p) p (fun x => { x with statusId := some id }), .later)

/-- RCK_RESTORE (R285). -/
def runRestore (s : State) (id : Nat) : State × Reply :=
  let halfTrained := (List.range 6).any (fun p =>
    portEnabled s p && (port s p).mode != .failed && (port s p).halfWidth)
  if s.rck.variant = 0 ∨ halfTrained = true then (s, .now .badState [])
  else if s.rck.next.isSome then (s, .now .busy [])
  else ({ s with rck := { s.rck with
            next := some { variant := 0, slot := 0, port := 255, cause := .restore, loaded := true },
            restoreId := some id } }, .later)

/-- The load of variant 0 into slot 0 ends; one that fails raises fault 0x53 (R282). -/
def schedLoaded (s : State) (ok : Bool) : State :=
  if s.rck.loading0 then
    let s1 := { s with rck := { s.rck with
      loading0 := false, store := if ok then vset s.rck.store 0 (some 0) else s.rck.store } }
    if ok then s1 else report s1 { source := 0x53, address := 0 }
  else s

/-- A variant's load ends: variant 0's, or a degraded one's (R282, R310). -/
def variantLoadDone (s : State) (ok : Bool) : State :=
  match s.rck.next with
  | none => schedLoaded s ok
  | some n =>
    if s.rck.loading0 then schedLoaded s ok
    else if n.loaded then s
    else if ok then
      let s1 := { s with rck := { s.rck with
        next := some { n with loaded := true }, store := vset s.rck.store n.slot (some n.variant) } }
      if (port s1 n.port).mode == .parked && (port s1 n.port).holdReady && !(port s1 n.port).thenTrain then
        sendUnpark s1 n.port else s1
    else
      portFail (report s { source := 0x53, address := 0x280000 * n.slot }) n.port 18

/-! ### Mirror blocks (R268–R270, R298) -/

/-- A port takes beads: in service since a frame start, and not contained (R268, R269). -/
def takesBeads (s : State) (p : Nat) : Bool :=
  (port s p).mode == .active && (port s p).delivering

/-- A bead is discarded because its port is out of service (R268). -/
def discardBead (s : State) : State := bump s 0x400084

/-- A late bead is discarded with fault 0x52 (R269, R288). -/
def beadLate (s : State) (rod time : Nat) : State :=
  report (bump s 0x400088) { source := 0x52, master := rod, address := time }

/-- A reset block of a port. -/
def mirror (s : State) (p b : Nat) : MirrorBlock := vget (vget s.rck.blocks p (Vector.replicate 16 {})) b {}

/-- The rows of a band plane in DRAM that draw on an uncorrectable word (R419). -/
def badRows (s : State) (p addr : Nat) : List Nat :=
  let l := linkCfg s p
  let st := planeStride l.width
  if dramClean s then [] else (List.range l.blockRows).filter (fun r => readHits s (addr + r * st) st)

/-- The TAG of a row slot (R294). -/
def rowTag (b row seq plane : Nat) (blank : Bool) : Nat :=
  1 + fld 4 1 b + fld 12 5 row + fld 15 13 seq + fld 21 16 plane + fld 22 22 (b2n blank)

/-- A row slot: the row's bytes, columns at and beyond the width 0, in 512 bytes; TAG; CHECK over both (R292, R294). -/
def rowSlot (tag : Nat) (row : List Byte) : RowSlot :=
  let payload := (row ++ List.replicate 512 0).take 512
  { tag := tag, check := crc32 (leBytes 4 tag ++ payload), payload := payload }

/-- The slots of a load in row order; the rows of `zeros` go out as zero payload (R296, R298). -/
def blockSlots (s : State) (p b seq : Nat) (r : PlaneRef) (row : Nat → List Byte) (zeros : List Nat) : List RowSlot :=
  (List.range (linkCfg s p).blockRows).map (fun i =>
    rowSlot (rowTag b i seq r.plane r.blank) (if r.blank || zeros.contains i then [] else row i))

/-- Length of a load on a port under the running variant (R42, R284). -/
def loadCycles (s : State) (p : Nat) : Nat :=
  let v := (cfg s).sched.getD s.rck.variant {}
  if v.kind = 1 ∧ v.port = p then (linkCfg s p).bpDegraded else (linkCfg s p).bpNominal

/-- The plane of the last load of a block that is complete at time t (R270). -/
def loadedAt (m : MirrorBlock) (t : Nat) : Option PlaneRef :=
  match m.loading with
  | some (r, c) => if c ≤ t then some r else m.memory
  | none => m.memory

/-- The port sends one block of rows; its memory holds the plane once the load is complete (R270, R296, R298). `row` gives
the bytes of each row, `zeros` are the rows sent as zero. -/
def sendBlock (s : State) (p b : Nat) (r : PlaneRef) (row : Nat → List Byte) (zeros : List Nat) : State :=
  let x := port s p
  let seq := (x.loadSeq + 1) % 8
  let s1 := emit (bump (modPort s p (fun y => { y with loadSeq := seq })) (portBase p + 0x30))
    (.plkBlock p (blockSlots s p b seq r row zeros))
  { s1 with rck := { s1.rck with blocks := vmod s1.rck.blocks p (fun v => vmod v b (fun m =>
      { m with memory := loadedAt m s.tsc, loading := some (r, s.tsc + loadCycles s p) })) } }

/-- The slot that a cached plane is read from: none where it has no slot, or where the slot of either set is retired
(R254–R256). -/
def liveSlot (s : State) (set p b plane : Nat) : Option Nat :=
  let dead := [0, 1].any (fun k => (cacheSlot (cfg s) k p b plane).elim true s.pbu.retired.contains)
  if dead then none else cacheSlot (cfg s) set p b plane

/-- A slot is retired after an uncorrectable read, at most 32 of them (R256). -/
def retireSlot (s : State) (n : Nat) : State :=
  if s.pbu.retired.length < 32 then { s with pbu := { s.pbu with retired := s.pbu.retired ++ [n] } } else s

/-- The cache reads a plane: corrected errors, and the rows it cannot give (R256). -/
def cacheErrors (s : State) (n : Nat) (ce : Bool) (ue : Option Nat) : State :=
  let s1 := if ce then report (bump s 0x380038) { source := 0x43, address := n } else s
  if ue.isSome then retireSlot (report (bump s1 0x38003C) { source := 0x44, address := n }) n else s1

/-- RESET_BLOCK at its effect time: SHOW takes the memory, DARK goes off (R270, R304). `aborts`: a lower-priority frame
was being sent. -/
def resetBlock (s : State) (p showMask darkMask : Nat) (aborts : Bool) : State :=
  let s1 := if aborts then bump s (portBase p + 0x40) else s
  let s2 := sendFrame (bump s1 (portBase p + 0x34)) p 0x05 [showMask, darkMask]
  { s2 with rck := { s2.rck with blocks := vmod s2.rck.blocks p (fun v =>
      (List.range 16).foldl (fun v b =>
        if bitAt showMask b then vmod v b (fun m => { m with shows := loadedAt m s.tsc })
        else if bitAt darkMask b then vmod v b (fun m => { m with shows := none }) else v) v) } }

/-- Contain a port until the next frame start: every block is reset to off (R269). -/
def containPort (s : State) (p : Nat) : State :=
  let s1 := resetBlock s p 0 0xFFFF false
  { s1 with rck := { s1.rck with containPorts := s1.rck.containPorts ||| 2 ^ p } }

/-- LOAD_BLOCK at its effect time (R270). `missing` are rows not in the prefetch buffer when their slot begins (R298);
`cacheCe` and `cacheUe` tell corrected and uncorrectable cache reads, the latter by row (R256). -/
def loadBlock (s : State) (p b plane : Nat) (cached blank : Bool) (missing : List Nat) (cacheCe : Bool)
    (cacheUe : Option Nat) : State :=
  let set := b2n (bitAt s.pbu.shown p)
  let addr := planeAddr (cfg s) set p b plane
  let st := planeStride (linkCfg s p).width
  if blank then sendBlock s p b { plane := 0, set := set, cached := false, blank := true } (fun _ => []) []
  else
    let slot := if cached then liveSlot s set p b plane else none
    let ref : PlaneRef := { plane := plane, set := set, cached := slot.isSome, blank := false }
    let s1 := match slot with
      | some n => sendBlock (cacheErrors s n cacheCe cacheUe) p b ref (fun i => cacheRead s n (i * st) st)
          (missing ++ cacheUe.toList)
      | none => sendBlock (readUe s addr (bandBytes (cfg s) p) 8) p b ref (fun i => rdBytes s (addr + i * st) st)
          (missing ++ badRows s p addr)
    if missing.isEmpty then s1 else containPort (report s1 { source := 0x67, master := p }) p

end Sys2Proof.Machine
end

