-- ==== Sys2Proof/Machine/CalOps.lean ====
section
/-! DEFINITION. Calibration (chapter 16): the correction of samples and codes, runs and their limits, gradual application, and snapshots in flash. -/

namespace Sys2Proof.Machine

/-- The numbers R454 defines. -/
def calDefined (n : Nat) : Bool :=
  decide (n ≤ 11 ∨ (16 ≤ n ∧ n ≤ 27) ∨ (32 ≤ n ∧ n ≤ 35) ∨ (40 ≤ n ∧ n ≤ 57) ∨ (64 ≤ n ∧ n ≤ 68) ∨ n = 72)

/-- A channel is present: its unit is (R454). -/
def calPresent (s : State) (n : Nat) : Bool :=
  if n ≤ 11 then decide (n < nBanks s)
  else if 16 ≤ n ∧ n ≤ 27 then decide (n - 16 < nBanks s)
  else if (32 ≤ n ∧ n ≤ 35) ∨ (64 ≤ n ∧ n ≤ 68) then hasHls s
  else if 40 ≤ n ∧ n ≤ 51 then decide (n - 40 < nBanks s)
  else if 52 ≤ n ∧ n ≤ 57 then decide (n - 52 < nPorts s)
  else decide (n = 72)

/-- A DAC channel (R454). -/
def calIsDac (n : Nat) : Bool := decide (64 ≤ n ∧ n ≤ 68)

/-- A channel of 12-bit width (R454). -/
def calIs12 (n : Nat) : Bool := decide (64 ≤ n ∧ n ≤ 66)

/-- Ideal codes at P1, PM and P2 (R454). -/
def calIdeal (n : Nat) : Int × Int × Int := if calIs12 n then (256, 2048, 3840) else (4096, 32768, 61440)

/-- One channel. -/
def calCh (s : State) (n : Nat) : CalCh := vget s.cal.ch n {}

/-- Change one channel. -/
def modCal (s : State) (n : Nat) (f : CalCh → CalCh) : State :=
  { s with cal := { s.cal with ch := vmod s.cal.ch n f } }

/-- Correct an ADC code with a gain and an offset (R455). -/
def adcWith (gain : Nat) (off raw : Int) : Nat := (clampI 0 65535 (((raw - off) * gain + 16384) / 32768)).toNat

/-- The corrected sample of a channel (R455). -/
def correct (s : State) (n raw : Nat) : Nat := adcWith (calCh s n).aGain (calCh s n).aOff raw

/-- The code at a DAC's converter for a requested code (R455). -/
def dacCode (s : State) (n req : Nat) : Nat :=
  let c := calCh s n
  (clampI 0 (if calIs12 n then 4095 else 65535) (((req : Int) * c.aGain + 16384) / 32768 + c.aOff)).toNat

/-- Calibration channel of photodiode b in a range (R454). -/
def pdChannel (b : Nat) (range1 : Bool) : Nat := if range1 then 16 + b else b

/-- Calibration channel behind ADC channel i of the loop sampler (R346, R456). -/
def adcChannel (s : State) (i : Nat) : Nat := if i < 12 then pdChannel i (bitAt s.cal.loopRange i) else 20 + i

/-! ### Gradual application (R461) -/

/-- A channel's target is about to change: what it was is kept while a command is on its way (R96, R466). -/
def calRemember (s : State) (n : Nat) : State :=
  let idle := s.hmi.cmdHead == s.hmi.cmdTail && s.hmi.inFlight.isEmpty
  let c := calCh s n
  { s with cal := { s.cal with past := if idle then [] else (s.tsc, n, c.tGain, c.tOff) :: s.cal.past } }

/-- Gain and offset of a channel's target at an arrival stamp (R96, R466). -/
def calTargetAt (s : State) (arrival n : Nat) : Nat × Int :=
  match (s.cal.past.filter (fun e => decide (arrival ≤ e.1 ∧ e.2.1 = n))).getLast? with
  | some e => e.2.2
  | none => ((calCh s n).tGain, (calCh s n).tOff)

/-- Set a new target and start its ramp from the value applied now. -/
def calRetarget (s : State) (n gain : Nat) (off : Int) : State :=
  modCal (calRemember s n) n (fun c => { c with
    tGain := gain, tOff := off, fGain := c.aGain, fOff := c.aOff, step := some 0, stepAt := s.tsc })

/-- One step of a ramp at a TSC after its start and its last step: k goes up and the applied value follows, truncating toward
its start. -/
def calStepCh (now : Nat) (c : CalCh) : CalCh :=
  match c.step with
  | none => c
  | some j =>
    if now ≤ c.stepAt then c else
    let k := j + 1
    let g : Int := c.fGain + Int.tdiv (((c.tGain : Int) - c.fGain) * k) 64
    let o : Int := c.fOff + Int.tdiv ((c.tOff - c.fOff) * k) 64
    { c with aGain := g.toNat, aOff := o, step := if 64 ≤ k then none else some k }

/-- CAL_RAMP_STEP: every ramping channel takes a step. -/
def calRampStep (s : State) : State :=
  if s.tsc % msCycles = 0 then { s with cal := { s.cal with ch := s.cal.ch.map (calStepCh s.tsc) } } else s

/-! ### Limits (R459) -/

/-- Limits of a channel: offset range, gain range, residual. -/
def calLimits (s : State) (n : Nat) : CalLimit :=
  let factory : CalLimit :=
    if calIs12 n then { channel := n, offsetMin := -32, offsetMax := 32, gainMin := 29491, gainMax := 36045, residMax := 1 }
    else { channel := n, offsetMin := -512, offsetMax := 512, gainMin := 29491, gainMax := 36045, residMax := 4 }
  match (cfg s).calLimits with
  | some l => (l.find? (fun r => r.channel == n)).getD factory
  | none => factory

/-- Offset and gain lie inside the limits. -/
def calInside (s : State) (n gain : Nat) (off : Int) : Bool :=
  let l := calLimits s n
  decide (l.offsetMin ≤ off ∧ off ≤ l.offsetMax ∧ l.gainMin ≤ gain ∧ gain ≤ l.gainMax)

/-! ### Runs (R457–R459, R462) -/

/-- The non-idle slots that sample ADC channel i. -/
def adcInUse (s : State) (i : Nat) : Bool :=
  s.lpe.slot.toList.any (fun x => x.kind != 0 && !x.idle && x.input == i)

/-- The scanner stands: DISABLED, PARKED or FAILED. -/
def hlsStands (s : State) : Bool := s.hls.mode == .disabled || s.hls.mode == .parked || s.hls.mode == .failed

/-- A channel is free to be measured (R462). -/
def calFree (s : State) (n : Nat) : Bool :=
  if n ≤ 11 then !((vget s.lsd.bank n {}).mode == .armed) && !adcInUse s n
  else if 16 ≤ n ∧ n ≤ 27 then !((vget s.lsd.bank (n - 16) {}).mode == .armed) && !adcInUse s (n - 16)
  else if (32 ≤ n ∧ n ≤ 35) ∨ (64 ≤ n ∧ n ≤ 68) then hlsStands s
  else true

/-- The sensor whose NTC input a channel is, if it is one (R454, R471). -/
def calSensor (n : Nat) : Option Nat :=
  if 40 ≤ n ∧ n ≤ 51 then some (17 + (n - 40)) else if 52 ≤ n ∧ n ≤ 57 then some (29 + (n - 52)) else none

/-- Suspend or release the sensors of the NTC channels of a run (R462). -/
def calSuspend (s : State) (chans : List Nat) (on : Bool) : State :=
  chans.foldl (fun s n =>
    match calSensor n with
    | none => s
    | some i => { s with thm := { s.thm with sensor := vmod s.thm.sensor i (fun x => { x with suspended := on }) } }) s

/-- Start a run of channels. -/
def calStart (s : State) (cmdId : Option Nat) (chans : List Nat) : State :=
  calSuspend { s with cal := { s.cal with run := some { cmdId := cmdId, chans := chans } } } chans true

/-- The channels a CAL_RUN mask names. -/
def calNamed (lo hi : Nat) : List Nat := (List.range 80).filter (fun n => bitAt (lo + hi * 2 ^ 64) n)

/-- CAL_RUN (R467). -/
def runCalRun (s : State) (id : Nat) (p : List Byte) : State × Reply :=
  let l := calNamed (leAt p 0 8) (leAt p 8 2)
  if leAt p 10 6 ≠ 0 ∨ l = [] ∨ l.any (fun n => !calDefined n) then (s, .now .outOfRange [])
  else if l.any (fun n => !calPresent s n) then (s, .now .unitAbsent [])
  else if s.cal.run.isSome then (s, .now .busy [])
  else if l.any (fun n => !calFree s n) then (s, .now .badState [])
  else (calStart s (some id) l, .later)

/-- n / d rounded half up, for d of either sign (R457). -/
def roundHalfUp (n d : Int) : Int := Int.fdiv (2 * n + d) (2 * d)

/-- Gain, offset and residual of a channel from its measurement; `none` when a value does not fit its field (R457). -/
def calSolve (n : Nat) (m : CalMeas) : Option (Nat × Int × Nat) :=
  let (i1, im, i2) := calIdeal n
  let d := m.p2 - m.p1
  if d = 0 then none
  else
    let g := roundHalfUp ((i2 - i1) * 32768) d
    let o := if calIsDac n then i1 - Int.fdiv (m.p1 * g + 16384) 32768
      else roundHalfUp (m.p1 * (i2 - i1) - i1 * d) (i2 - i1)
    if g < 0 ∨ 65535 < g ∨ o < -32768 ∨ 32767 < o then none
    else
      let got : Int := if calIsDac n then m.pm else adcWith g.toNat o m.pm
      some (g.toNat, o, min 255 (got - im).natAbs)

/-- A channel fails its run (R458, R459). -/
def calFail (s : State) (n result : Nat) : State :=
  bump (modCal s n (fun c => { c with result := result, failed := true })) 0x70038

/-- Judge one channel of a run; the list gathers the channels that passed. -/
def calJudge (meas : List CalMeas) (refOk : Bool) (a : State × List Nat) (n : Nat) : State × List Nat :=
  let fail (s : State) := report (calFail s n 2) { source := 0xC4, address := n }
  match meas.find? (fun m => m.chan == n) with
  | none => (fail a.1, a.2)
  | some m =>
    match calSolve n m with
    | none => (fail a.1, a.2)
    | some (g, o, r) =>
      let s := modCal a.1 n (fun c => { c with mGain := g, mOff := o, resid := r })
      if calInside s n g o && decide (r ≤ (calLimits s n).residMax) && (refOk || !calIsDac n) then
        (modCal (calRetarget s n g o) n (fun c => { c with result := 1, failed := false }), a.2 ++ [n])
      else (fail s, a.2)

/-- The channels of a run in the order R457 measures them. -/
def calOrder (chans : List Nat) : List Nat :=
  chans.filter (· == 72) ++ chans.filter (fun n => n != 72 && !calIsDac n) ++ chans.filter calIsDac

/-- A mask of channels 0–63, and of channels 64–79. -/
def calMasks (l : List Nat) : Nat × Nat :=
  (l.foldl (fun m n => if n < 64 then m ||| 2 ^ n else m) 0,
   l.foldl (fun m n => if 64 ≤ n then m ||| 2 ^ (n - 64) else m) 0)

/-- CAL_RUN_DONE: the run ends (R457–R459, R468). -/
def calRunDone (s0 : State) (vrefUv : Nat) (meas : List CalMeas) : State :=
  match s0.cal.run with
  | none => s0
  | some r =>
    let s := calSuspend s0 r.chans false
    let bad := decide (vrefUv < 2450000 ∨ 2550000 < vrefUv)
    let s1 := { s with cal := { s.cal with run := none, vrefBad := bad, vrefUv := vrefUv } }
    let res : State × List Nat :=
      if bad then (report (r.chans.foldl (fun s n => calFail s n 3) s1) { source := 0xC3 }, [])
      else
        (calOrder r.chans).foldl (fun a n =>
          calJudge meas (!r.chans.contains 72 || a.2.contains 72) a n) (s1, [])
    let m := calMasks res.2
    let s2 := post (bump res.1 0x70030) 0x0F01 0
      (leBytes 8 m.1 ++ leBytes 2 m.2 ++ [BitVec.ofNat 8 (b2n bad), BitVec.ofNat 8 (b2n r.cmdId.isSome)]
        ++ leBytes 4 vrefUv ++ leBytes 8 s.tsc)
    completeOpt s2 r.cmdId .ok (leBytes 8 m.1 ++ leBytes 2 m.2)

/-- A write to CAL_CH_TARGET (R463): the code of its rejection, or the state after it. -/
def writeCalTarget (s : State) (n v : Nat) : Except Status State :=
  let g := bits v 31 16
  let o := signed 16 (bits v 15 0)
  if !calDefined n then .error .outOfRange
  else if !calPresent s n then .error .unitAbsent
  else if !calInside s n g o then .error .outOfRange
  else if (s.cal.run.elim false (fun r => r.chans.contains n)) then .error .badState
  else .ok (modCal (calRetarget s n g o) n (fun c => { c with result := 5 }))

/-! ### Snapshots (R464–R466) -/

/-- MARK of a snapshot (R464). -/
def calMark : Nat := 0x4C41434B

/-- Present channels, ascending. -/
def calPresentList (s : State) : List Nat := (List.range 73).filter (fun n => calDefined n && calPresent s n)

/-- A snapshot of the targets as they were at an arrival stamp (R464, R466). -/
def calSnapshot (s : State) (arrival seq : Nat) : List Byte :=
  let l := calPresentList s
  let body := leBytes 4 calMark ++ leBytes 2 1 ++ leBytes 2 l.length ++ leBytes 4 seq ++ leBytes 4 0
    ++ leBytes 8 s.fuse.serial.toNat ++ leBytes 8 s.tsc
    ++ (l.map (fun n =>
      let c := calCh s n
      let t := calTargetAt s arrival n
      leBytes 1 n ++ leBytes 1 c.resid ++ leBytes 2 (twos 16 t.2) ++ leBytes 2 t.1 ++ leBytes 2 0)).flatten
  body ++ leBytes 4 (crc32 body)

/-- The records of a snapshot: channel, gain, offset. -/
def calRecords (b : List Byte) : List (Nat × Nat × Int) :=
  (List.range (leAt b 6 2)).map (fun i =>
    (leAt b (32 + 8 * i) 1, leAt b (36 + 8 * i) 2, signed 16 (leAt b (34 + 8 * i) 2)))

/-- Numbers rise strictly. -/
def rising (l : List Nat) : Bool :=
  match l with
  | [] => true
  | [_] => true
  | a :: b :: t => decide (a < b) && rising (b :: t)

/-- A slot holds a valid snapshot (R465). -/
def calValid (s : State) (b : List Byte) : Bool :=
  let n := leAt b 6 2
  decide (leAt b 0 4 = calMark ∧ leAt b 4 2 = 1 ∧ 1 ≤ n ∧ n ≤ 64 ∧ 36 + 8 * n ≤ b.length
    ∧ leAt b (32 + 8 * n) 4 = crc32 (b.take (32 + 8 * n)) ∧ leAt b 16 8 = s.fuse.serial.toNat)
  && rising ((calRecords b).map (·.1))

/-- Start values of every channel: the newest valid snapshot's, else the factory values (R460, R465). -/
def calLoad (s : State) : State :=
  let va := calValid s s.cal.slotA
  let vb := calValid s s.cal.slotB
  let sa := leAt s.cal.slotA 8 4
  let sb := leAt s.cal.slotB 8 4
  let useB := vb && (!va || decide (sa < sb))
  let any := va || vb
  let recs := if !any then [] else calRecords (if useB then s.cal.slotB else s.cal.slotA)
  let start (n : Nat) : CalCh :=
    let (g, o) := match recs.find? (fun r => r.1 == n) with
      | some r => (r.2.1, r.2.2)
      | none => vget s.fuse.calFactory n (32768, 0)
    { aGain := g, aOff := o, tGain := g, tOff := o, fGain := g, fOff := o, mGain := g, mOff := o }
  let s1 := { s with cal := { s.cal with
    ch := (Vector.range 73).map start, run := none, store := none, vrefBad := false, vrefUv := 0,
    source := if !any then 0 else if useB then 2 else 1,
    seq := if !any then 0 else if useB then sb else sa,
    lastB := if any then useB else true } }
  if !any then report s1 { source := 0xC6 }
  else if va && vb then s1
  else report s1 { source := 0xC5, address := if va then 1 else 0 }

/-- CAL_STORE (R466, R467): the targets are captured as they were at its arrival stamp, and the sector is erased. -/
def runCalStore (s : State) (id arrival : Nat) : State × Reply :=
  if s.cal.store.isSome then (s, .now .busy [])
  else
    let toB := !s.cal.lastB
    let seq := (s.cal.seq + 1) % 2 ^ 32
    let run : CalStoreRun := { cmdId := id, slotB := toB, seq := seq, image := calSnapshot s arrival seq }
    let s1 := emit s (.flash (if toB then 0x00D10000 else 0x00D00000) 2)
    ({ s1 with cal := { s1.cal with
        store := some run,
        slotA := if toB then s1.cal.slotA else [],
        slotB := if toB then [] else s1.cal.slotB } }, .later)

/-- CAL_STORE_DONE: the read-back compares equal, or has failed twice (R466). -/
def calStoreDone (s : State) (ok : Bool) : State :=
  match s.cal.store with
  | none => s
  | some r =>
    if ok then
      let s1 := { s with cal := { s.cal with
        store := none, seq := r.seq, lastB := r.slotB,
        slotA := if r.slotB then s.cal.slotA else r.image,
        slotB := if r.slotB then r.image else s.cal.slotB } }
      complete (bump s1 0x70034) r.cmdId .ok (leBytes 4 r.seq ++ leBytes 1 (b2n r.slotB))
    else
      complete (report { s with cal := { s.cal with store := none } }
        { source := 0xC7, address := b2n r.slotB }) r.cmdId .checkFail []

end Sys2Proof.Machine
end

