-- ==== Sys2Proof/Machine/LsdOps.lean ====
section
/-! DEFINITION. Laser bank drive (chapter 10) with the level-pair calibration of chapter 6: bank states, applied codes, brightness, derating, links, pin test, safe state, interlock and commands. -/

namespace Sys2Proof.Machine

/-! ### Banks -/

/-- One bank. -/
def bankAt (s : State) (b : Nat) : Bank := vget s.lsd.bank b {}

/-- Change one bank. -/
def modBank (s : State) (b : Nat) (f : Bank → Bank) : State :=
  { s with lsd := { s.lsd with bank := vmod s.lsd.bank b f } }

/-- The code of a bank state (R326). -/
def bankCode : BankMode → Nat
  | .disabled => 0
  | .starting => 1
  | .paused => 2
  | .armed => 3
  | .safe => 4
  | .opened => 5
  | .short => 6
  | .linkFailed => 7

/-- BANK_MASK of the image in force enables the bank. -/
def bankEnabled (s : State) (b : Nat) : Bool := decide (b < 12) && bitAt (cfg s).topo.bankMask b

/-- BAR0 offset of a bank's registers (R343). -/
def bankBase (b : Nat) : Nat := 0xA00100 + 0x40 * b

/-- The KIND-1 slot of a bank (R345). -/
def bankSlot (s : State) (b : Nat) : Option Nat :=
  firstN 24 (fun i => let x := vget s.lpe.slot i {}; x.kind == 1 && x.target == b)

/-- Change one slot. -/
def modSlot (s : State) (i : Nat) (f : Slot → Slot) : State :=
  { s with lpe := { s.lpe with slot := vmod s.lpe.slot i f } }

/-- A slot cleared as R348 states: histories, model, detector and SAT, starting again from zero. -/
def clearSlot (x : Slot) : Slot :=
  { x with
    eh := [0, 0, 0], uh := [0, 0, 0], out := 0, r := 0, rSet := false, m := 0, sat := false, hold := false,
    lim := false, updated := false, resid := 0, oscLeft := none, oscCnt := 0, oscSign := 0 }

/-- The trim of a bank: its slot's output in whole codes (R328, R351). -/
def bankTrim (s : State) (b : Nat) : Int :=
  match bankSlot s b with
  | none => 0
  | some i => ((vget s.lpe.slot i {}).out + 32768) / 65536

/-- BANK_STATE (R341). -/
def postBank (s : State) (b : Nat) (prev : BankMode) : State :=
  let x := bankAt s b
  post s 0x0901 b (leBytes 1 (bankCode x.mode) ++ leBytes 1 (bankCode prev) ++ leBytes 1 x.cause
    ++ leBytes 1 (b2n x.unverified) ++ leBytes 2 x.measured ++ leBytes 2 x.code ++ leBytes 8 s.frame)

/-! ### Brightness and scale (R328–R330) -/

/-- The largest n in lo..hi at which `p` holds, `p` holding at lo and falling once. -/
def largest (fuel lo hi : Nat) (p : Nat → Bool) : Nat :=
  match fuel with
  | 0 => lo
  | k + 1 => if hi ≤ lo then lo else let mid := (lo + hi + 1) / 2
             if p mid then largest k mid hi p else largest k lo (mid - 1) p

/-- B(x) (R329): the greatest n with n − 1/2 at most 65,536 × 10^(−3(4,095 − x)/4,095), by exact powers. -/
def brightness (x : Nat) : Nat :=
  largest 18 0 65536 (fun n => decide (n = 0) || decide ((2 * n - 1) ^ 1365 * 10 ^ (4095 - x) ≤ 131072 ^ 1365))

/-- The value a ramp has reached at time t (R330): the division truncates toward its start. -/
def rampValue (r : Ramp) (t : Nat) : Nat :=
  if r.len ≤ t then r.x1
  else ((r.x0 : Int) + Int.tdiv (((r.x1 : Int) - r.x0) * t) r.len).toNat

/-- Length of LIGHT.RAMP_MS in cycles. -/
def rampCycles (s : State) : Nat := (cfg s).light.rampMs * msCycles

/-- Start a brightness ramp from the x in force (R330). -/
def startRamp (s : State) (x1 len : Nat) : State :=
  { s with lsd := { s.lsd with ramp := some { x0 := s.lsd.x, x1 := x1, start := s.tsc, len := len } } }

/-- k_c of every primary (R328). -/
def scaleOf (s : State) : List Nat :=
  let b := brightness s.lsd.x
  let used := (List.range 3).filter (fun c => (List.range 12).any (fun i => bankEnabled s i && (bankAt s i).prim == c))
  let low := (used.map (fun c => s.lsd.f.getD c 65536)).foldl min 65536
  (List.range 3).map (fun c => if s.lsd.lock then min b low else min b (s.lsd.f.getD c 65536))

/-- k_b: the scale of a bank (R328). -/
def bankScale (s : State) (b : Nat) : Nat :=
  let x := bankAt s b
  min (s.lsd.k.getD x.prim 0) (brightness x.y)

/-- Largest drive code in the units of a bank's table (R327). -/
def codeMax (x : Bank) : Nat := if x.units = 1 then 4095 else 65535

/-- A code of the image in the units of a link version (R327). -/
def codeUnits (version v : Nat) : Nat := if version = 1 then min 4095 ((v + 8) / 16) else v

/-- CEILING of a bank in the units in force (R327). -/
def ceilingOf (s : State) (b : Nat) : Nat := codeUnits (bankAt s b).units ((cfg s).light.ceiling.getD b 0)

/-- The applied code of a bank at a level with a trim, and whether it was clamped (R328). -/
def appliedCode (s : State) (b l : Nat) (trim : Int) : Nat × Bool :=
  let x := bankAt s b
  let t : Int := x.thresh
  let c : Int := (x.table.getD l 0 : Nat) + (if l = 0 then trim else 0)
  let d := t + ((c - t) * (bankScale s b : Nat) + 32768) / 65536
  let cap : Int := x.thresh + ((ceilingOf s b - x.thresh) * s.lsd.f.getD x.prim 65536) / 65536
  let top := min cap (codeMax x : Nat)
  ((clampI 0 top d).toNat, decide (d < 0 ∨ top < d))

/-- The level in force on a bank: a light-test pulse, else its primary's level. -/
def bankLevel (s : State) (b : Nat) : Option Nat :=
  match (bankAt s b).pulse with
  | some p => p
  | none => s.lsd.level.getD (bankAt s b).prim none

/-- G_c: the largest bank gain of a primary among the gains behind the bank targets (R214, R216). -/
def gainOf (s : State) (c : Nat) : Nat :=
  ((List.range 12).filter (fun i => bankEnabled s i && (bankAt s i).prim == c)).foldl
    (fun a i => max a (s.lsd.wb.getD i 0)) 0

/-- The loop slot's set-point at level 0 in LSB, for a scale (R328): rounded half up. -/
def bankTarget (s : State) (b k : Nat) : Nat :=
  let x := bankAt s b
  let g := gainOf s x.prim
  if g = 0 then 0 else (2 * x.nom * s.lsd.wb.getD b 0 * k + g * 65536) / (2 * g * 65536)

/-- Give every KIND-1 slot its target (R354). -/
def setTargets (s : State) : State :=
  forN 24 (fun s i =>
    let x := vget s.lpe.slot i {}
    if x.kind = 1 then modSlot s i (fun y => { y with tgt := (bankTarget s x.target (bankScale s x.target) * 65536 : Nat) })
    else s) s

/-! ### Windows (R331) and bank changes -/

/-- Check bits of a Driver Link frame over `n` bits of `v` from the top down: CRC of a width and polynomial, preset to all
ones, no final inversion (R319). -/
def dlinkCrc (width poly n v : Nat) : Nat :=
  ((List.range n).reverse.map (bitAt v)).foldl (fun r b =>
    let d := 2 * r % 2 ^ width
    if bitAt r (width - 1) != b then d ^^^ poly else d) (2 ^ width - 1)

/-- A frame of 25 bits: START, CMD, CODE, FINE, CHECK in the layout of a version (R319). -/
def dlinkFrame (version cmd code fine : Nat) : Nat :=
  if version = 2 then
    let v := fld 20 18 cmd + fld 17 2 code + fld 1 0 fine
    2 ^ 24 + 8 * v + dlinkCrc 3 3 21 v
  else
    let v := fld 16 14 cmd + fld 13 2 code + fld 1 0 fine
    2 ^ 24 + 128 * v + dlinkCrc 7 9 17 v

/-- A reply as its 25 bits in the layout of a version (R319). -/
def replyFrame (version typ data flags check : Nat) : Nat :=
  2 ^ 24 + fld 23 21 typ
    + (if version = 2 then fld 20 5 data + fld 4 3 flags + fld 2 0 check
      else fld 20 9 data + fld 8 7 flags + fld 6 0 check)

/-- TYPE of a reply (R319). -/
def replyType (f : Nat) : Nat := bits f 23 21
/-- DATA of a reply in the layout of a version. -/
def replyData (version f : Nat) : Nat := if version = 2 then bits f 20 5 else bits f 20 9
/-- FLAGS of a reply. -/
def replyFlags (version f : Nat) : Nat := if version = 2 then bits f 4 3 else bits f 8 7

/-- A reply has its START, and its CHECK holds (R319). -/
def replyOk (version f : Nat) : Bool :=
  bitAt f 24 && decide (f = dlinkFrame version (replyType f) (replyData version f) (replyFlags version f))

/-- Send a command frame with FINE 0 (R319, R320). -/
def sendLink (s : State) (b cmd code : Nat) : State := emit s (.dlink b (dlinkFrame (bankAt s b).version cmd code 0))

/-- FINE of a DRIVE frame that takes effect now: the apply instant, a rising edge of CK plus FINE × 2.5 ns plus DRV_DELAY, falls
within 1.25 ns of the effect time (R322). -/
def driveFine (s : State) (b : Nat) : Nat :=
  let r := (((4 * s.tsc : Nat) : Int) - (bankAt s b).drvDelay - Config.dlinkPhase) % 10
  ((4 * r + 5) / 10).toNat % 4

/-- Send DRIVE (R320). -/
def sendDrive (s : State) (b code : Nat) : State :=
  emit s (.dlink b (dlinkFrame (bankAt s b).version 1 code (driveFine s b)))

/-- Whether a measurable window stands on a bank, to be judged when it ends: code unchanged and non-zero for 375 cycles, with
a qualifying reply (R331). -/
def windowStands (s : State) (x : Bank) : Bool :=
  x.mode == .armed && decide (x.code ≠ 0) && decide (x.codeAt + 375 ≤ s.tsc) && x.winAny

/-- A bank takes a state and a cause; on leaving ARMED its code falls to 0, its pulse ends, and so does its window, which
the next cycle judges (R326, R331). -/
def bankMark (s : State) (b : Nat) (m : BankMode) (cause : Nat) : State :=
  modBank s b (fun x =>
    let leaves := x.mode == .armed && m != .armed
    { x with
      mode := m, cause := cause,
      code := if leaves then 0 else x.code,
      codeAt := if leaves then s.tsc else x.codeAt,
      pulse := if leaves then none else x.pulse,
      ended := if leaves && windowStands s x then some (x.winHigh, !x.winHigh && x.winOpen) else x.ended })

/-- The bank's loop slot, if it has one, clears (R348). -/
def clearBankSlot (s : State) (b : Nat) : State :=
  match bankSlot s b with
  | some i => modSlot s i clearSlot
  | none => s

/-- A bank that leaves ARMED: LASER_EN falls, its light tests end, DRIVE 0 goes out while its link runs, its slot clears
(R326, R348). -/
def bankLeave (s : State) (b : Nat) : State :=
  let s1 := { s with
    pins := { s.pins with laserEn := s.pins.laserEn &&& (0xFFF ^^^ 2 ^ b) }
    lsd := { s.lsd with pulses := s.lsd.pulses.filter (fun q => q.bank != b) } }
  clearBankSlot (if (bankAt s b).linkRun then sendDrive s1 b 0 else s1) b

/-- The highlight lasers go off at the balls (R370, R371). -/
def hlOff (s : State) : State :=
  { s with pins := { s.pins with hlEn := false, hlDac := [0, 0, 0] }, hls := { s.hls with dark := true } }

/-- Change a bank's state without more, and post BANK_STATE; a bank in SAFE keeps the highlight lasers off (R326, R341,
R371). -/
def setBank (s : State) (b : Nat) (m : BankMode) (cause : Nat) : State :=
  let s0 := bankMark s b m cause
  let s1 := if m == .safe then hlOff s0 else s0
  postBank (if (bankAt s b).mode == .armed && m != .armed then bankLeave s1 b else s1) b (bankAt s b).mode

/-- A window that has ended is judged: it reads high, or open, or neither; two in a row raise 0x70 or 0x71, and take an ARMED
bank to OPEN (R331). -/
def judgeWindow (s : State) (b : Nat) (high opn : Bool) : State :=
  let s1 := modBank s b (fun x => { x with
    openRun := if opn then x.openRun + 1 else 0,
    highRun := if high then x.highRun + 1 else 0,
    unverified := x.unverified && (opn || high),
    windowAt := s.tsc, ended := none, winAny := false })
  let s2 := if opn || high then bump s1 (bankBase b + 0x20) else s1
  let y := bankAt s2 b
  let open_ (s : State) (cause : Nat) : State := if y.mode == .armed then setBank s b .opened cause else s
  if 2 ≤ y.openRun then report (open_ s2 4) { source := 0x70, master := b }
  else if 2 ≤ y.highRun then report (open_ s2 5) { source := 0x71, master := b }
  else s2

/-- A window ends as the applied code is about to change (R331). -/
def endWindow (s : State) (b : Nat) : State :=
  let x := bankAt s b
  if windowStands s x then judgeWindow s b x.winHigh (!x.winHigh && x.winOpen) else s

/-- At each cycle: the windows that ended as their banks left ARMED are judged. -/
def windowTick (s : State) : State :=
  forN 12 (fun s b =>
    match (bankAt s b).ended with
    | some (high, opn) => judgeWindow s b high opn
    | none => s) s

/-- Give an ARMED bank the applied code of the level in force. With `force` a DRIVE frame goes out for an unchanged
code as well (R322, R351). -/
def applyCode (s : State) (b : Nat) (force : Bool) : State :=
  if (bankAt s b).mode == .armed then
    let r := match bankLevel s b with
      | none => (0, false)
      | some l => appliedCode s b l (bankTrim s b)
    let s1 := if r.2 then bump s (bankBase b + 0x28) else s
    let s2 := if r.1 = (bankAt s1 b).code then s1 else endWindow s1 b
    if (bankAt s2 b).mode == .armed then
      if r.1 = (bankAt s2 b).code then (if force then sendDrive s2 b r.1 else s2)
      else
        sendDrive (modBank s2 b (fun x => { x with
          code := r.1, codeAt := s.tsc, winAny := false, winOpen := true, winHigh := false })) b r.1
    else s2
  else s

/-- A bank enters ARMED: LASER_EN rises and a DRIVE frame follows for the level in force (R338). -/
def armBank (s : State) (b cause : Nat) : State :=
  let s1 := { s with pins := { s.pins with laserEn := s.pins.laserEn ||| 2 ^ b } }
  let s2 := modBank s1 b (fun x => { x with
    openRun := 0, highRun := 0, winAny := false, winOpen := true, winHigh := false, ended := none, codeAt := s.tsc,
    windowAt := s.tsc })
  applyCode (setBank s2 b .armed cause) b true

/-! ### Safe state (R337) and leaving it -/

/-- A bank is in SAFE: LSD_STATUS.SAFE. -/
def anySafe (s : State) : Bool := s.lsd.bank.toList.any (fun x => x.mode == .safe)

/-- SAFE_STATE (R341). -/
def postSafe (s : State) (entered : Bool) : State :=
  post s 0x0902 0 ([BitVec.ofNat 8 (b2n entered), BitVec.ofNat 8 s.lsd.safeSource, BitVec.ofNat 8 (b2n s.lsd.safeShutter)]
    ++ leBytes 5 0)

/-- One bank is taken off: SAFE for that bank alone (R337, and BANK_OFF of chapter 18). A link start on it goes on. -/
def bankOff (s : State) (b : Nat) : State :=
  let x := bankAt s b
  if x.mode == .starting || x.mode == .paused || x.mode == .armed then
    let s1 := setBank s b .safe 3
    if x.linkRun && x.mode != .armed then sendDrive s1 b 0 else s1
  else s

/-- DRIVE 0 on every running link whose bank does not leave its state now (R337). -/
def driveOthersOff (s : State) : State :=
  forN 12 (fun s b =>
    let x := bankAt s b
    if x.linkRun && !(x.mode == .starting || x.mode == .paused || x.mode == .armed) then sendDrive s b 0 else s) s

/-- The safe state begins, with its SOURCE, unless it is in force (R337). -/
def safeBegin (s : State) (source : Nat) (shutter : Bool) : State :=
  if s.lsd.safeOn then s
  else
    let s1 := { s with lsd := { s.lsd with safeOn := true, safeSource := source, safeShutter := shutter } }
    driveOthersOff (signal (postSafe s1 true) 14)

/-- Every laser output is low, light tests end, and the shutter closes when the trigger calls for it (R337). -/
def lightOff (s : State) (shutter : Bool) : State :=
  hlOff { s with
    pins := { s.pins with laserEn := 0, shutterOut := s.pins.shutterOut && !shutter },
    lsd := { s.lsd with pulses := [] } }

/-- The light-source safe state is entered. A trigger while it is in force keeps its SOURCE and posts nothing; a bank
armed since then still goes to SAFE, and the shutter closes when the trigger calls for it (R337). -/
def enterSafe (s : State) (source : Nat) (shutter : Bool) : State :=
  let s1 := lightOff (forN 12 bankOff (safeBegin s source shutter)) shutter
  if anySafe s1 then s1 else { s1 with lsd := { s1.lsd with safeOn := false } }

/-- The safe state is over once no bank is left in SAFE: SAFE_STATE. Where a bank `was` in SAFE, LSD_STATUS.SAFE returns to 0,
and the highlight lasers' arming level starts from 0 (R330, R341). -/
def leaveSafe (was : Bool) (s : State) : State :=
  if anySafe s then s
  else
    let s1 := if s.lsd.safeOn then postSafe { s with lsd := { s.lsd with safeOn := false } } false else s
    if was then { s1 with hls := { s1.hls with yH := 0, yHStart := some s.tsc } } else s1

/-- SHUTTER_OUT rises when no bank is left in SAFE (R338, R527). -/
def openShutter (s : State) : State :=
  if anySafe s then s else { s with pins := { s.pins with shutterOut := true } }

/-- Either interlock channel reads open (R338, R339). -/
def interlockOpen (s : State) : Bool := !s.pins.intlkAHigh || s.pins.intlkBHigh

/-- A fatal fault is recorded and not cleared by the host (R338). -/
def fatalHeld (s : State) : Bool := s.flt.srcs.toList.any (fun x => x.mode == .fatal)

/-- What refuses LSD_REARM whatever banks stand in (R338, R478, R509). -/
def rearmBlocked (s : State) (mask : Nat) : Bool :=
  interlockOpen s || fatalHeld s || (vget s.flt.srcs 0 {}).mode != .clear || (vget s.flt.srcs 1 {}).mode != .clear || bitAt (vget s.thm.sensor 0 {}).asserted 3
    || (List.range 12).any (fun b => bitAt mask b && bitAt (vget s.thm.sensor (17 + b) {}).asserted 0)

/-- Banks of a mask beyond those present (R9). -/
def banksAbsent (s : State) (mask : Nat) : Bool := (List.range 12).any (fun b => bitAt mask b && decide (nBanks s ≤ b))

/-- LSD_REARM (R338, R340). -/
def runRearm (s : State) (p : List Byte) : State × Reply :=
  let m := leAt p 0 2
  if 4096 ≤ m then (s, .now .outOfRange [])
  else if banksAbsent s m then (s, .now .unitAbsent [])
  else if rearmBlocked s m || inSwitch s
      || (List.range 12).any (fun b => bitAt m b &&
        !((bankAt s b).mode == .safe || (bankAt s b).mode == .opened)) then (s, .now .badState [])
  else
    let s1 := forMask 12 m (fun s b =>
      let s1 := modBank s b (fun x => { x with y := 0, yStart := some s.tsc })
      if s.ftgOn then armBank s1 b 2 else setBank s1 b .paused 2) s
    let s2 := openShutter (leaveSafe (anySafe s) s1)
    ({ s2 with thm := { s2.thm with stop := s2.thm.stop && s2.thm.stopAt.isSome } }, .now .ok [])

/-! ### Pulses of light tests (R264, R265) -/

/-- Put a pulse level in force on an ARMED bank; on any other it has no effect (R326). -/
def setPulse (s : State) (b : Nat) (p : Option (Option Nat)) : State :=
  if (bankAt s b).mode == .armed then applyCode (modBank s b (fun x => { x with pulse := p })) b true else s

/-- Begin or end the pulses whose time has come. -/
def pulseTick (s : State) : State :=
  let due := s.lsd.pulses.filter (fun q => decide (q.at_ ≤ s.tsc))
  due.foldl (fun s q => setPulse s q.bank q.what)
    { s with lsd := { s.lsd with pulses := s.lsd.pulses.filter (fun q => decide (s.tsc < q.at_)) } }

/-- LEVEL takes effect on a primary (R264). -/
def levelBead (s : State) (c : Nat) (l : Option Nat) : State :=
  let s1 := { s with lsd := { s.lsd with level := s.lsd.level.set c l } }
  forN 12 (fun s b => if bankEnabled s b && (bankAt s b).prim == c then applyCode s b true else s) s1

/-- DIAG_PULSE lights one bank at a level for WIDTH cycles, while it is ARMED (R326). -/
def diagPulse (s : State) (b l width : Nat) : State :=
  let s1 := setPulse s b (some (some l))
  if (bankAt s1 b).mode != .armed then s1
  else { s1 with lsd := { s1.lsd with pulses := s1.lsd.pulses ++ [{ at_ := s.tsc + width, bank := b, what := none }] } }

/-- CAL_PAIR lights every enabled bank that is ARMED at levels L − 1 and L of the pair whose turn it is; with one level no
pair exists (R232, R326). -/
def calPair (s : State) (width gap : Nat) : State :=
  if (cfg s).light.levelCount < 2 then s
  else
    let l := s.lsd.pairNext
    let s0 := { s with lsd := { s.lsd with pairUntil := some (s.tsc + 2 * width + gap) } }
    forN 12 (fun s b =>
      if bankEnabled s b then
        let s1 := setPulse s b (some (some (l - 1)))
        let t := s.tsc
        if (bankAt s1 b).mode != .armed then s1
        else { s1 with lsd := { s1.lsd with pulses := s1.lsd.pulses ++
          ((if gap = 0 then [] else [{ at_ := t + width, bank := b, what := some none : PulseStep }])
            ++ [{ at_ := t + width + gap, bank := b, what := some (some l) },
                { at_ := t + 2 * width + gap, bank := b, what := none }]) } }
      else s) s0

/-! ### Level pairs (R232–R234, R456) -/

/-- Mean of the corrected samples of a pulse (R232). -/
def pulseMean (s : State) (ch : Nat) (l : List Nat) : Nat :=
  if l.isEmpty then 0 else (l.map (correct s ch)).foldl (· + ·) 0 / l.length

/-- The range a bank's pair is measured in (R456). -/
def pairRange (s : State) (b l : Nat) : Bool :=
  match mapGet (fun _ => (none : Option (Nat × Bool))) s.cal.lastR (16 * b + l) with
  | none => true
  | some (r, true) => !decide (r < 7000)
  | some (r, false) => !decide (r < 60000)

/-- Photodiode input that measures a bank (R232). -/
def pairInput (s : State) (b : Nat) : Nat :=
  match bankSlot s b with
  | some i => (vget s.lpe.slot i {}).input
  | none => b

/-- The corrected code of level L from the two readings (R233), and whether it changed. -/
def correctLevel (x : Bank) (l rm rl : Nat) : Nat × Bool :=
  let c : Int := x.table.getD l 0
  let e : Int := 2 * (rl : Int) - rm
  if (e.natAbs : Int) * 1024 > rm then
    let step : Int :=
      if rl = 0 then 16
      else
        let q := clampI (-16) 16 (roundHalfUp (-e * c) (2 * rl))
        if q = 0 then (if 0 < e then -1 else 1) else q
    ((clampI 0 (codeMax x) (c + step)).toNat, true)
  else (c.toNat, false)

/-- Calibrate the pair of one bank: its code, its error, and its run out of tolerance. -/
def pairBank (s : State) (l : Nat) (q : PairRead) : State :=
  let b := q.bank
  let ch := pdChannel (pairInput s b) (pairRange s b l)
  let rm := pulseMean s ch q.high
  let rl := pulseMean s ch q.low
  let e := (2 * (rl : Int) - rm).natAbs
  let r := correctLevel (bankAt s b) l rm rl
  let s1 := if r.2 then bump (modBank s b (fun x => { x with table := x.table.set l r.1 })) 0x30005C else s
  let err := if rm = 0 then (if e = 0 then 0 else 65535) else min 65535 (e * 65536 / rm)
  let (_, _, w) := s1.clr.cycWorst
  let n := if e * 512 ≤ rm then 0 else mapGet (fun _ => (0 : Nat)) s1.clr.outCount b + 1
  let s2 := { s1 with
    clr := { s1.clr with
      cycWorst := if w < err then (b, l, err) else s1.clr.cycWorst,
      outCount := mapSet (fun _ => (0 : Nat)) s1.clr.outCount b n,
      outOfTol := if n = 0 then s1.clr.outOfTol &&& (0xFFF ^^^ 2 ^ b)
        else if n = 64 then s1.clr.outOfTol ||| 2 ^ b else s1.clr.outOfTol },
    cal := { s1.cal with lastR := mapSet (fun _ => (none : Option (Nat × Bool))) s1.cal.lastR (16 * b + l) (some (rm, pairRange s b l)) } }
  if n = 64 then report s2 { source := 0x78, master := b } else s2

/-- LEVEL_PAIR_CORRECTION: once its pulses have ended, the pair of this dark interval on every enabled bank, and the next
pair (R232–R234). -/
def levelPair (s : State) (reads : List PairRead) : State :=
  let n := (cfg s).light.levelCount
  if n < 2 || !s.lsd.pairUntil.elim false (fun t => decide (t ≤ s.tsc)) then s
  else
    let l := s.lsd.pairNext
    let s1 := forN 12 (fun s b =>
      if bankEnabled s b then
        pairBank s l ((reads.find? (fun q => q.bank == b)).getD { bank := b, high := [], low := [] })
      else s) s
    let next := if l + 1 < n then l + 1 else 1
    let s2 := { s1 with clr := { s1.clr with pair := l }, lsd := { s1.lsd with pairNext := next, pairUntil := none } }
    if next = 1 then
      let (b, wl, err) := s2.clr.cycWorst
      { s2 with clr := { s2.clr with worstBank := b, worstPair := wl, worstErr := err, cycWorst := (0, 0, 0) } }
    else s2

/-! ### Segment boundary, FTG0 start, activation -/

/-- What the light-source drive does at a segment boundary: codes, thresholds and targets written come into use, then
colour lock, factors, brightness, arming levels and scales (R327–R330, R333). No action is added: the image leaves every
primary at ZERO there (R275). -/
def lsdBoundary (s : State) : State :=
  let s1 := { s with
   lsd := { s.lsd with
    bank := (Vector.range 12).map (fun b =>
      let x := bankAt s b
      { x with
        table := x.writes.foldl (fun t w => t.set w.1 w.2) x.table,
        writes := [],
        thresh := bits (regN s (bankBase b + 0x10)) 15 0,
        nom := bits (regN s (bankBase b + 8)) 15 0,
        y := match x.yStart with
          | none => x.y
          | some t => rampValue { x0 := 0, x1 := 4095, start := t, len := rampCycles s } (s.tsc - t),
        yStart := match x.yStart with
          | none => none
          | some t => if rampCycles s ≤ s.tsc - t then none else some t }),
    lock := s.lsd.lockNext.getD s.lsd.lock,
    lockNext := none,
    lockIds := [],
    f := s.lsd.fNew,
    x := match s.lsd.ramp with
      | none => s.lsd.x
      | some r => rampValue r (s.tsc - r.start),
    ramp := match s.lsd.ramp with
      | none => none
      | some r => if r.len ≤ s.tsc - r.start then none else some r },
   hls := { s.hls with
      yH := match s.hls.yHStart with
        | none => s.hls.yH
        | some t => rampValue { x0 := 0, x1 := 4095, start := t, len := rampCycles s } (s.tsc - t),
      yHStart := match s.hls.yHStart with
        | none => none
        | some t => if rampCycles s ≤ s.tsc - t then none else some t },
   cal := { s.cal with loopRange := bits (regN s 0x70020) 11 0 } }
  let s2 := s.lsd.lockIds.foldl (fun s id => complete s id .ok []) s1
  setTargets { s2 with lsd := { s2.lsd with k := scaleOf s2 } }

/-- The white-balance gains behind the bank targets change with the content shown (R216). -/
def showGains (s : State) (gains : List Nat) : State := setTargets { s with lsd := { s.lsd with wb := gains } }

/-- QUIESCED_DONE: the ramp is over, LASER_EN low, banks PAUSED (R76, R326, R330). -/
def lsdQuiesced (s : State) : State :=
  let s1 := { s with lsd := { s.lsd with x := 0, ramp := none, pulses := [] } }
  forN 12 (fun s b => if (bankAt s b).mode == .armed then setBank s b .paused 1 else s) s1

/-- FTG0 starts: x ramps from 0 (R330). -/
def lsdRampStart (s : State) : State :=
  let s0 := startRamp { s with lsd := { s.lsd with x := 0 } } s.lsd.target (rampCycles s)
  { s0 with lsd := { s0.lsd with k := scaleOf s0 } }

/-- FTG0 starts: banks leave PAUSED, at the first start of a start-up to ARMED or SAFE by the strap and by what would
refuse a re-arm (R326, R525). Their events follow the SOF (R390). -/
def lsdStart (s1 : State) (first : Bool) : State :=
  let paused := (List.range 12).filter (fun b => (bankAt s1 b).mode == .paused)
  let hold := if first then
      (if s1.pins.bootArm then paused.filter (fun b => rearmBlocked s1 (2 ^ b)) else paused)
    else []
  let s2 := if hold.isEmpty then s1
    else
      let s2 := if s1.lsd.safeOn then s1
        else signal (postSafe { s1 with lsd := { s1.lsd with safeOn := true, safeSource := 0xFD, safeShutter := true } } true) 14
      hold.foldl (fun s b => setBank s b .safe 3)
        { s2 with boot := { s2.boot with gather := s2.boot.gather ||| 2 ^ 17 },
                  pins := { s2.pins with shutterOut := false } }
  let arm := paused.filter (fun b => !hold.contains b)
  let s3 := arm.foldl (fun s b => armBank s b 0) s2
  if arm.isEmpty then s3 else openShutter s3

/-- The PROBE of link start, in the layout of version 1 (R324). -/
def probeFrame : Nat := dlinkFrame 1 3 0x5A3 0

/-- Begin a link start on a bank (R324): LASER_EN stays low, CK runs, the first PROBE is sent in version 1. -/
def beginLink (s : State) (b : Nat) : State :=
  emit (modBank s b (fun x => { x with linking := true, linkRun := true, errRun := 0, drvFault := false })) (.dlink b probeFrame)

/-- Send frames on a Driver Link one after the other. -/
def sendFrames (s : State) (b : Nat) (l : List Nat) : State := l.foldl (fun s f => emit s (.dlink b f)) s

/-- Fill the light-level table of a bank from the image, in the units of a link version (R327). -/
def fillTable (version : Nat) (s : State) (b : Nat) : State :=
  modBank s b (fun x => { x with
    table := (List.range 16).map (fun l => codeUnits version ((cfg s).light.levelCode.getD (12 * l + b) 0)), units := version,
    writes := [] })

/-- The table comes into the units of the version that link start has set: the image's codes are converted; a table kept
through a restart stays while the version is the same, and is filled again where it has changed (R327). -/
def fitTable (s : State) (b v : Nat) : State :=
  let x := bankAt s b
  if x.units = v then s
  else if x.units = 0 then
    modBank s b (fun x => { x with
      table := x.table.map (codeUnits v), writes := x.writes.map (fun w => (w.1, codeUnits v w.2)), units := v })
  else fillTable v s b

/-- Complete an LSD_LINK_RESTART of a bank, if one waits. -/
def restartDone (s : State) (b : Nat) (st : Status) : State :=
  match s.lsd.restarts.find? (fun e => e.1 == b) with
  | none => s
  | some e =>
    complete { s with lsd := { s.lsd with restarts := s.lsd.restarts.filter (fun e => e.1 != b) } } e.2 st []

/-- The start of SWITCHED under the new image (R324, R326, R327, R333): tables, primaries, colour lock, and link starts, which
banks in SAFE and OPEN go through in their state. -/
def lsdSwitched (s : State) : State :=
  let keep := bitAt (regN s 0xA00004) 0
  let s1 := { s with
   lsd := { s.lsd with
    lock := decide ((cfg s).light.colourLock = 1), lockNext := none, pairNext := 1, pairUntil := none,
    wb := (List.range 12).map (fun b => regN s (0x300010 + 4 * b)), level := [none, none, none] },
   cal := { s.cal with lastR := [] },
   clr := { s.clr with cycWorst := (0, 0, 0) } }
  let s1 := s.lsd.lockIds.foldl (fun s id => complete s id .badState [])
    { s1 with lsd := { s1.lsd with lockIds := [] } }
  let s2 := forN 12 (fun s b =>
    let x := bankAt s b
    if bankEnabled s b then
      let prim := (cfg s).topo.bankPrimary.getD b 0
      let s1 := if keep && decide (x.prim = prim) && x.mode != .disabled then s
        else fillTable 0 (modBank s b (fun x => { x with prim := prim })) b
      if x.mode == .short || x.mode == .linkFailed then s1
      else if x.mode == .safe || x.mode == .opened then beginLink s1 b
      else beginLink (setBank s1 b .starting 1) b
    else
      let s1 := modBank s b (fun x => { x with linkRun := false, linking := false, version := 0 })
      restartDone (if x.mode == .disabled then s1 else setBank s1 b .disabled 1) b .badState) s1
  let s3 := leaveSafe (anySafe s) s2
  { s3 with lsd := { s3.lsd with k := scaleOf s3 } }

/-! ### Links (R324, R325) and the pin test (R335, R336) -/

/-- Middle of a set of passing phases. -/
def midPhase (m : Nat) : Nat :=
  let l := (List.range 8).filter (bitAt m)
  l.getD ((l.length - 1) / 2) 0

/-- The LSD_PIN_TEST completes once none of its link starts is left (R335). -/
def pinTestCheck (s : State) : State :=
  match s.lsd.pinTest with
  | none => s
  | some (id, m) =>
    if (List.range 12).any (fun b => (bankAt s b).linking && (bankAt s b).mode != .starting) then s
    else
      complete { s with lsd := { s.lsd with pinTest := none } } id (if m = 0 then .ok else .checkFail)
        (if m = 0 then [] else leBytes 2 m)

/-- A bank's link fails: LINK_FAILED and fault 0x75 (R324, R325, R344). -/
def linkFail (s : State) (b cause : Nat) : State :=
  let s1 := modBank s b (fun x => { x with linking := false, linkRun := false, version := 0 })
  let s2 := report (setBank s1 b .linkFailed cause) { source := 0x75, master := b }
  pinTestCheck (restartDone (leaveSafe (anySafe s) s2) b .checkFail)

/-- The frames of a link start that follow its first PROBE: PROBE at the 8 phases of each combination tried; once combination
`found` has passed, READ of versions and delay; then SET_VER and the final PROBE where version `v` is taken (R324). -/
def linkFrames (found v : Option Nat) : List Nat :=
  List.replicate (8 * found.elim 4 (· + 1) - 1) probeFrame
    ++ (if found.isSome then [dlinkFrame 1 2 0 0, dlinkFrame 1 2 2 0] else [])
    ++ (match v with | some v => [dlinkFrame 1 4 v 0, dlinkFrame v 3 0x5A3 0] | none => [])

/-- LINK_START_DONE (R324). -/
def linkStartDone (s : State) (b : Nat) (r : LinkFound) : State :=
  let x := bankAt s b
  if x.linking then
    let s := modBank s b (fun x => { x with diInv := r.diInv })
    let v := min 2 r.verMax
    let refused := decide (r.verMax < (cfg s).light.dlinkMinVer ∨ 40 < r.delay ∨ v < r.verMin ∨ v = 0)
    let found := firstN 4 (fun i => decide (r.phases.getD i 0 % 256 ≠ 0))
    let s := sendFrames s b (linkFrames found (if found.isSome && !refused then some v else none))
    match found with
    | none => linkFail s b 7
    | some i =>
      let s1 := modBank s b (fun x => { x with
        ckInv := decide (i % 2 = 1), doInv := decide (2 ≤ i), diPhase := midPhase (r.phases.getD i 0),
        drvMax := r.verMax, drvDelay := r.delay })
      if r.verMax < (cfg s).light.dlinkMinVer then linkFail s1 b 9
      else if 40 < r.delay then linkFail s1 b 10
      else if v < r.verMin ∨ v = 0 ∨ !r.probe then linkFail s1 b 7
      else
        let s2 := modBank s1 b (fun x => { x with linking := false, version := v })
        let s3 := fitTable s2 b v
        let s4 := if x.mode == .starting then
            (if s.ftgOn then openShutter (armBank s3 b 0) else setBank s3 b .paused 0) else s3
        pinTestCheck (restartDone s4 b .ok)
  else s

/-- A reply that is missing, fails its CHECK or carries TYPE 7 (R325). -/
def replyError (s : State) (b : Nat) : State :=
  let s1 := report (bump (modBank s b (fun x => { x with errRun := x.errRun + 1 })) (bankBase b + 0x24))
    { source := 0x74, master := b }
  if 4 ≤ (bankAt s1 b).errRun then linkFail s1 b 8 else s1

/-- The link of a bank runs and no link start is on it. -/
def linkInUse (s : State) (b : Nat) : Bool := (bankAt s b).linkRun && !(bankAt s b).linking

/-- The frame after a reply: NOP, as between command frames (R321). -/
def nextNop (s : State) (b : Nat) : State := if linkInUse s b then sendLink s b 0 0 else s

/-- DRIVER_REPLY: a reply of 25 bits whose first bit ends its 200 ns of averaging now (R319, R320, R325, R331). -/
def driverReply (s : State) (b f : Nat) : State :=
  if linkInUse s b then
    let x := bankAt s b
    let typ := replyType f
    let data := replyData x.version f
    let flags := replyFlags x.version f
    if !replyOk x.version f || decide (typ = 7) then nextNop (replyError s b) b
    else
      let qual := x.mode == .armed && decide (x.code ≠ 0) && decide (x.codeAt + 300 ≤ s.tsc)
      let high := decide (x.code * 5 + (if x.version = 1 then 64 else 1024) < data * 4)
      let isMeas := decide (typ ≤ 1)
      let fault := bitAt flags 1
      let s1 := modBank s b (fun x => { x with
        errRun := 0, drvFlags := flags % 4, drvFault := fault,
        measured := if isMeas then data else x.measured,
        winAny := x.winAny || (qual && isMeas),
        winOpen := x.winOpen && !(qual && isMeas && !decide (data * 10 < x.code)),
        winHigh := x.winHigh || (qual && isMeas && high) })
      if fault && !x.drvFault then report (sendLink s1 b 5 0) { source := 0x76, master := b } else nextNop s1 b
  else s

/-- DLINK_REPLY_MISSING (R325). -/
def replyMissing (s : State) (b : Nat) : State := if linkInUse s b then nextNop (replyError s b) b else s

/-- BANK_UNVERIFIED: 1,000 ms ARMED without a measurable window (R331). -/
def bankUnverified (s : State) (b : Nat) : State :=
  let x := bankAt s b
  let due := decide (x.windowAt + 1000 * msCycles ≤ s.tsc) && !(decide (x.code ≠ 0) && decide (x.codeAt + 375 ≤ s.tsc))
  if x.mode == .armed && !x.unverified && due then
    report (modBank s b (fun x => { x with unverified := true })) { source := 0x72, master := b }
  else s

/-- Run the pin test on the banks of a mask, given the shorts found: (bank, signal index) (R335, R336). Answers the
mask of shorted banks. No pin of an absent bank is read (R13). -/
def pinTest (s : State) (mask : Nat) (found : List (Nat × Nat)) : State × Nat :=
  let shorts := found.filter (fun e => decide (e.1 < nBanks s ∧ e.2 ≤ 6))
  let bad := (shorts.map (·.1)).foldl (fun m b => m ||| 2 ^ b) 0
  let s1 := forMask 12 mask (fun s b =>
    modBank s b (fun x => { x with linkRun := false, linking := false, version := 0 })) s
  let s2 := forN 12 (fun s b =>
    if bitAt bad b then
      let s1 := restartDone (if (bankAt s b).mode == .short then s else setBank s b .short 6) b .checkFail
      report s1 { source := 0x73, master := b, address := ((shorts.filter (fun e => e.1 == b)).map (·.2)).foldl min 6 }
    else if bitAt mask b && (bankAt s b).mode == .short then
      (fun s => if s.lsd.safeOn then s
        else { s with lsd := { s.lsd with safeOn := true } }) (setBank s b .safe 11)
    else s) s1
  (s2, bad)

/-- LSD_PIN_TEST (R335, R340). -/
def runPinTest (s : State) (id : Nat) (p : List Byte) (shorts : List (Nat × Nat)) : State × Reply :=
  let m := leAt p 0 2
  if 4096 ≤ m then (s, .now .outOfRange [])
  else if banksAbsent s m then (s, .now .unitAbsent [])
  else if (List.range 12).any (fun b => bitAt m b &&
      ((bankAt s b).mode == .armed || (bankAt s b).mode == .starting || (bankAt s b).mode == .paused))
    then (s, .now .badState [])
  else
    let r := pinTest s m shorts
    let s1 := forMask 12 m (fun s b =>
      if (bankAt s b).mode == .safe || (bankAt s b).mode == .opened then beginLink s b else s) r.1
    let s2 := leaveSafe (anySafe s) s1
    (pinTestCheck { s2 with lsd := { s2.lsd with pinTest := some (id, r.2) } }, .later)

/-! ### Derating (R333, R334) -/

/-- Enabled banks of a primary. -/
def primBanks (s : State) (c : Nat) : List Nat :=
  (List.range 12).filter (fun b => bankEnabled s b && (bankAt s b).prim == c)

/-- DERATE (R341). -/
def postDerate (s : State) (c : Nat) : State :=
  post s 0x0903 c (leBytes 4 (s.lsd.fNew.getD c 65536) ++ leBytes 1 (b2n (s.lsd.held.getD c none).isSome)
    ++ leBytes 1 (s.lsd.hot.getD c 0) ++ leBytes 2 (twos 16 (s.lsd.tc.getD c 0)))

/-- F_c from the hottest reading (R333). -/
def derateFactor (s : State) (t : Int) : Nat :=
  let above := t - (cfg s).light.knee
  let cut : Int := if 0 < above then ((cfg s).light.derateSlope * above) / 4 else 0
  (max 0 (65536 - cut)).toNat

/-- The hottest bank of those whose sensor reads, with its reading; the lowest number among equals. -/
def hotBank (s : State) (l : List Nat) : Option (Nat × Int) :=
  l.foldl (fun a b =>
    let r := (vget s.thm.sensor (17 + b) {}).reading
    match a with
    | none => some (b, r)
    | some (_, q) => if q < r then some (b, r) else a) none

/-- One primary's factor for this millisecond (R333, R334). -/
def deratePrim (s : State) (c : Nat) : State :=
  let l := primBanks s c
  let failing (b : Nat) : Bool := (vget s.thm.sensor (17 + b) {}).failed
  let fresh := l.filter (fun b => failing b && !bitAt s.lsd.failedSeen b)
  let fixed := s.lsd.fixed.getD c none
  let old := s.lsd.fNew.getD c 65536
  let wasHeld := s.lsd.held.getD c none
  let seen := l.foldl (fun m b => if failing b then m ||| 2 ^ b else m &&& (0xFFF ^^^ (2 ^ b &&& m))) s.lsd.failedSeen
  let by1 := l.foldl (fun m b => if failing b then (if fresh.contains b && fixed.isNone then m ||| 2 ^ b else m)
    else m &&& (0xFFF ^^^ (2 ^ b &&& m))) s.lsd.holdBy
  let held : Option Nat :=
    if l.any (fun b => bitAt by1 b) then (match wasHeld with | some h => some h | none => some old) else none
  let hb := hotBank s (l.filter (fun b => !failing b))
  let comp := match hb with
    | some (_, t) => derateFactor s t
    | none => if l.isEmpty then 65536 else old
  let f := match fixed with
    | some v => v
    | none => match held with
      | some h => min h comp
      | none => comp
  let s1 := { s with lsd := { s.lsd with
    failedSeen := seen, holdBy := by1,
    held := s.lsd.held.set c held,
    fNew := s.lsd.fNew.set c f,
    hot := match hb with | some (b, _) => s.lsd.hot.set c b | none => s.lsd.hot,
    tc := match hb with | some (_, t) => s.lsd.tc.set c t | none => s.lsd.tc } }
  let s2 := if held.isSome ≠ wasHeld.isSome ∨ decide (f = 65536) ≠ decide (old = 65536) then postDerate s1 c else s1
  fresh.foldl (fun s _ => report s { source := 0x77, master := c }) s2

/-- DERATE_UPDATE: every 1 ms (R333). -/
def derateUpdate (s : State) : State :=
  if s.lsd.derateAt + msCycles ≤ s.tsc then
    (List.range 3).foldl deratePrim { s with lsd := { s.lsd with derateAt := s.tsc } }
  else s

/-- LSD_DERATE_OVERRIDE (R334, R340). -/
def runDerate (s : State) (c : Nat) (p : List Byte) : State × Reply :=
  let mode := leAt p 0 1
  let f := leAt p 4 4
  if 1 < mode ∨ leAt p 1 3 ≠ 0 ∨ 65536 < f ∨ (mode = 0 ∧ f ≠ 0) then (s, .now .outOfRange [])
  else
    let had := (s.lsd.held.getD c none).isSome
    let hadFix := s.lsd.fixed.getD c none
    let fixed := if mode = 1 then some f else none
    let s1 := { s with lsd := { s.lsd with
      held := s.lsd.held.set c none,
      holdBy := (primBanks s c).foldl (fun m b => m &&& (0xFFF ^^^ (2 ^ b &&& m))) s.lsd.holdBy,
      fixed := s.lsd.fixed.set c fixed,
      fNew := if mode = 1 then s.lsd.fNew.set c f else s.lsd.fNew } }
    (if had ∨ hadFix ≠ fixed then postDerate s1 c else s1, .now .ok [])

/-! ### Remaining commands (R340) -/

/-- LSD_SAFE. -/
def runSafe (s : State) (p : List Byte) : State × Reply :=
  let sh := leAt p 0 1
  if 1 < sh then (s, .now .outOfRange [])
  else (enterSafe s 0xFE (decide (sh = 1)), .now .ok [])

/-- LSD_BRIGHTNESS; during the ramp of a thermal stop the target is set and no ramp starts (R330, R340, R479). -/
def runBrightness (s : State) (p : List Byte) : State × Reply :=
  let l := leAt p 0 2
  let r := leAt p 2 2
  if 4095 < l ∨ 10000 < r then (s, .now .outOfRange [])
  else if inSwitch s then (s, .now .busy [])
  else
    let s1 := { s with lsd := { s.lsd with target := l } }
    (if s.thm.stopAt.isSome then s1
      else startRamp s1 l (if r = 0 then rampCycles s else r * msCycles), .now .ok [])

/-- LSD_COLOUR_LOCK: at the next segment boundary, at once while FTG0 is stopped (R333, R340). -/
def runColourLock (s : State) (id : Nat) (p : List Byte) : State × Reply :=
  let on := leAt p 0 1
  if 1 < on then (s, .now .outOfRange [])
  else if s.ftgOn then
    ({ s with lsd := { s.lsd with lockNext := some (decide (on = 1)), lockIds := s.lsd.lockIds ++ [id] } }, .later)
  else ({ s with lsd := { s.lsd with lock := decide (on = 1) } }, .now .ok [])

/-- LSD_LINK_RESTART (R324, R340). -/
def runLinkRestart (s : State) (b id : Nat) : State × Reply :=
  let m := (bankAt s b).mode
  if m == .linkFailed || m == .safe || m == .opened then
    let s1 := beginLink (setBank s b .starting 0) b
    (leaveSafe (anySafe s) { s1 with lsd := { s1.lsd with restarts := s1.lsd.restarts ++ [(b, id)] } }, .later)
  else (s, .now .badState [])

/-! ### Interlock (R339) -/

/-- INTERLOCK_OPEN: the channels have read open for 100 ns; the safe state follows with the shutter, and fault 0x00 is
raised once per opening. The flag tells whether channel A, channel B, or both are open. -/
def interlockPins (s : State) (aHigh bHigh : Bool) : State :=
  let same := decide (s.pins.intlkAHigh = aHigh ∧ s.pins.intlkBHigh = bHigh)
  let s1 := { s with pins := { s.pins with
    intlkAHigh := aHigh, intlkBHigh := bHigh, intlkAt := if same then s.pins.intlkAt else s.tsc } }
  let opn := interlockOpen s1
  { s1 with lsd := { s1.lsd with intlkOpen := opn } }

end Sys2Proof.Machine
end

