-- ==== Sys2Proof/Machine/HlsOps.lean ====
section
/-! DEFINITION. Highlight Scanner (chapter 12): states, parking, oscillator, motion and lock, lines, the highlight pass and commands. -/

namespace Sys2Proof.Machine

/-- The code of a scanner state (R369). -/
def hlsCode : HlsMode → Nat
  | .disabled => 0
  | .parked => 1
  | .starting => 2
  | .running => 3
  | .parking => 4
  | .failed => 5

/-- Offsets of the registers whose writes wait for a tick boundary (R386). -/
def hlsOffsets : List Nat :=
  [0xC00008, 0xC0000C, 0xC00010, 0xC00014, 0xC00018, 0xC0001C, 0xC00020, 0xC00030, 0xC00034, 0xC00038]

/-- A register of the block as it is in force (R386). -/
def hlsReg (s : State) (off : Nat) : Nat := s.hls.force.getD (hlsOffsets.idxOf off) 0

/-- At a tick boundary the values written come into force (R386). -/
def hlsForce (s : State) : State := { s with hls := { s.hls with force := hlsOffsets.map (regN s) } }

/-- SCANNER of the image in force. -/
def scanCfg (s : State) : ScanCfg := (cfg s).scan.getD {}

/-- The slot of a scanner KIND. -/
def hlsSlot (s : State) (kind : Nat) : Option Nat := firstN 24 (fun i => (vget s.lpe.slot i {}).kind == kind)

/-- Change the slot of a scanner KIND. -/
def modHlsSlot (s : State) (kind : Nat) (f : Slot → Slot) : State :=
  match hlsSlot s kind with
  | some i => modSlot s i f
  | none => s

/-- Set the target of a scanner slot, a whole number (R354). -/
def hlsTarget (s : State) (kind : Nat) (v : Nat) : State := modHlsSlot s kind (fun x => { x with tgt := (v * 65536 : Nat) })

/-! ### Oscillator (R373) -/

/-- NCO phase at a TSC. -/
def ncoPhase (s : State) (t : Nat) : Nat :=
  let n := if s.hls.nco.at_ ≤ t then s.hls.nco else s.hls.ncoPrev
  (n.phase + n.inc * (t - n.at_)) % 2 ^ 32

/-- A new increment from TSC t on. -/
def setInc (s : State) (inc t : Nat) : State :=
  let p := ncoPhase s t
  { s with hls := { s.hls with ncoPrev := if s.hls.nco.at_ ≤ t then s.hls.nco else s.hls.ncoPrev, nco := { at_ := t, phase := p, inc := inc } } }

/-- INC_START. -/
def incStart (s : State) : Nat := (2 * hlsReg s 0xC0000C * 2 ^ 32 + 250000000000) / 500000000000

/-- HLS_FREQ of an increment, mHz. -/
def incFreq (inc : Nat) : Nat := inc * 250000000000 / 2 ^ 32

/-- The increment in force: a new one from its actuation time on (R373). -/
def incNow (s : State) : Nat := if s.hls.nco.at_ ≤ s.tsc then s.hls.nco.inc else s.hls.ncoPrev.inc

/-- The frequency of an increment lies outside F_MIN_MHZ to F_MAX_MHZ (R373). -/
def incOutside (s : State) (inc : Int) : Bool :=
  decide (inc * 250000000000 < (scanCfg s).fMin * 2 ^ 32 ∨ ((scanCfg s).fMax * 2 ^ 32 : Nat) < inc * 250000000000)

/-! ### States (R369, R370) -/

/-- HLS_STATE (R385). -/
def postHls (s : State) (prev : HlsMode) : State :=
  post s 0x0B01 0 (leBytes 1 (hlsCode s.hls.mode) ++ leBytes 1 (hlsCode prev) ++ leBytes 1 s.hls.cause ++ leBytes 1 0
    ++ leBytes 4 (incFreq (incNow s)) ++ leBytes 8 s.frame)

/-- Enter a scanner state with a cause. -/
def setHls (s : State) (m : HlsMode) (cause : Nat) : State :=
  postHls { s with hls := { s.hls with mode := m, cause := cause } } s.hls.mode

/-- PARK_CODE and PARK_POS in force (R386). -/
def parkCode (s : State) : Nat := bits (hlsReg s 0xC00020) 31 16
/-- PARK_POS. -/
def parkPos (s : State) : Nat := bits (hlsReg s 0xC00020) 15 0
/-- SLOW_TOL. -/
def slowTol (s : State) : Nat := bits (hlsReg s 0xC00018) 15 0

/-- Send a code on SLOW_DRV through its calibration (R376, R455). -/
def slowDrive (s : State) (code : Nat) : State := { s with pins := { s.pins with slowDrv := dacCode s 68 code } }

/-- The latest slow sense reading: the KIND-3 slot's feedback in codes (R376). -/
def slowRead (s : State) : Int :=
  match hlsSlot s 3 with
  | some i => (vget s.lpe.slot i {}).fb / 65536
  | none => 0

/-- The slow sense reading lies within SLOW_TOL of a position. -/
def slowNear (s : State) (pos : Nat) : Bool := decide ((slowRead s - pos).natAbs ≤ slowTol s)

/-- The start of the scanner's motion (R369): both slots from zero towards their first targets, INC_START. -/
def hlsEnter (s : State) : State :=
  let s1 := { s with hls := { s.hls with
    locked := false, lockRun := 0, period := none, amplOut := false, motion := false, startedAt := s.tsc, crossAt := s.tsc,
    lineNow := none, parkFault := false, resume := false, span := none, dark := true, y := bits (hlsReg s 0xC00008) 31 16 } }
  let s2 := modHlsSlot (modHlsSlot s1 2 clearSlot) 3 clearSlot
  let s3 := hlsTarget (hlsTarget s2 2 (bits (hlsReg s 0xC00008) 31 16)) 3 ((scanCfg s).slow.getD 0 0)
  setHls (setInc s3 (incStart s) s.tsc) .starting 0

/-- The scanner's outputs go to rest for a park: highlight lasers off, FAST_DRV at mid-scale, lock and lines dropped (R370). -/
def scannerRest (s : State) (cause : Nat) (fault : Bool) : State :=
  let s1 := hlOff s
  { s1 with
    pins := { s1.pins with fastDrv := dacCode s 67 32768 },
    hls := { s1.hls with
      parkFault := fault, parkedAt := s.tsc, locked := false, lockRun := 0, span := none, lineNow := none, motion := false,
      resume := decide (cause = 1) } }

/-- What the KIND-3 slot forgets as the scanner leaves its running state: histories, model, detector, SAT. It goes on from
its present output and set-point towards PARK_POS (R348, R370). -/
def forgetSlot (x : Slot) : Slot :=
  { x with
    eh := [0, 0, 0], uh := [0, 0, 0], m := 0, sat := false, hold := false, resid := 0, oscLeft := none, oscCnt := 0, oscSign := 0 }

/-- A park trigger: an HLS_START of the same cycle gives way to it (R370). -/
def parkTrigger (s : State) : State := { s with hls := { s.hls with parkTrigAt := some s.tsc } }

/-- Park the scanner (R370). A trigger outside RUNNING and STARTING changes nothing. -/
def parkScanner (s0 : State) (cause : Nat) (fault : Bool) : State :=
  let s := parkTrigger s0
  if s.hls.mode == .running || s.hls.mode == .starting then
    let s1 := modHlsSlot (modHlsSlot (scannerRest s cause fault) 2 clearSlot) 3 forgetSlot
    setHls (setInc (hlsTarget s1 3 (parkPos s)) 0 s.tsc) .parking cause
  else s

/-- The scanner starts (R369); an INC_START outside the image's range is fault 0x92 and PARKING (R373). -/
def hlsBegin (s : State) : State :=
  let s1 := hlsEnter s
  if incOutside s (incStart s) then
    parkScanner (report s1 { source := 0x92, address := incFreq (incStart s) }) 7 true
  else s1

/-- The end of a park: PARKED, or FAILED when a fault caused it; the commands that wait end (R369, R370, R384). -/
def parkEnd (s : State) : State :=
  let s1 := slowDrive (modHlsSlot s 3 clearSlot) (parkCode s)
  let s2 := setHls s1 (if s.hls.parkFault then .failed else .parked) s.hls.cause
  let s3 := completeOpt s2 s.hls.startId .checkFail (leBytes 1 s.hls.cause)
  let s4 := s.hls.parkId.foldl (fun s id => complete s id .ok []) s3
  { s4 with hls := { s4.hls with startId := none, parkId := [] } }

/-- A park by QUIESCED that ends after FTG0 runs again: the scanner starts with no command (R369). -/
def hlsResume (s : State) : State :=
  if s.hls.resume && s.hls.mode == .parked && s.ftgOn && !inSwitch s then hlsBegin s else s

/-- PARK_REACHED: the slow axis lies within SLOW_TOL of PARK_POS (R370). -/
def parkReached (s : State) : State :=
  if s.hls.mode == .parking && slowNear s (parkPos s) then hlsResume (parkEnd s) else s

/-- PARK_FORCED: 5 ms after entry to PARKING (R370). -/
def parkForced (s : State) : State :=
  if s.hls.mode == .parking && decide (s.hls.parkedAt + 5 * msCycles ≤ s.tsc) then
    let near := slowNear s (parkPos s)
    let s1 := parkEnd s
    hlsResume (if near then s1 else report s1 { source := 0x97 })
  else s

/-- LOCK_TIMEOUT (R374). -/
def lockTimeout (s : State) : State :=
  if s.hls.mode == .starting && !s.hls.locked
      && decide (s.hls.startedAt + bits (hlsReg s 0xC00014) 15 0 * msCycles ≤ s.tsc) then parkScanner (report s { source := 0x91 }) 6 true else s

/-- No motion: fault 0x90 and PARKING (R372). -/
def noMotion (s : State) : State :=
  if s.hls.mode == .running || s.hls.mode == .starting then parkScanner (report s { source := 0x90 }) 5 true else s

/-- MOTION_LOST: no rising crossing within two periods at F_MIN (R372). -/
def motionLost (s : State) : State :=
  if 500000000000 ≤ (s.tsc - s.hls.crossAt) * (scanCfg s).fMin then noMotion s else s

/-- The motion monitor judges the peak-to-peak value of a period: no motion below half of AMPL_NOM, 0x95 once per episode
outside the tolerance (R372). -/
def judgePeriod (s : State) (hi lo : Nat) : State :=
  let nom := bits (hlsReg s 0xC00010) 31 16
  let tol := bits (hlsReg s 0xC00010) 15 8
  let pp := hi - lo
  let s1 := { s with hls := { s.hls with period := some (hi, lo) } }
  if nom ≠ 0 ∧ 2 * pp < nom then noMotion s1
  else
    let bad := decide (nom ≠ 0 ∧ (pp * 100 < nom * (100 - tol) ∨ nom * (100 + tol) < pp * 100))
    let s2 := { s1 with hls := { s1.hls with motion := true, amplOut := bad } }
    if bad && !s.hls.amplOut then report s2 { source := 0x95 } else s2

/-- The phase measured at a crossing at TSC `t`, unwrapped around PHASE (R373). -/
def phaseAt (s : State) (t : Nat) : Int :=
  let goal : Int := bits (hlsReg s 0xC00008) 31 16
  goal - 32768 + (((ncoPhase s t / 65536 : Nat) : Int) - (goal - 32768)) % 65536

/-- Lock after a phase (R374). -/
def lockStep (s : State) (y : Int) : State :=
  let goal : Int := bits (hlsReg s 0xC00008) 31 16
  let run := if (y - goal).natAbs ≤ bits (hlsReg s 0xC00014) 31 16 then min 64 (s.hls.lockRun + 1) else 0
  let lock := decide (run = 64)
  let s1 := { s with hls := { s.hls with y := y, lockRun := run, locked := lock } }
  if s.hls.locked && !lock && s.hls.mode == .running then bump s1 0xC00060 else s1

/-- A rising crossing on the fast sense channel, between two raw samples whose first lies `idx` quarters of a tick after
a tick boundary at TSC `tick`; the largest and smallest raw codes of the period that this crossing ends (R372–R374). Samples
that do not bracket the level of the period before are no crossing. The first period gives the level, and no phase yet. -/
def fastCrossing (s : State) (tick idx before after pMax pMin : Nat) : State :=
  if !(s.hls.mode == .running || s.hls.mode == .starting) then s
  else
    match hlsSlot s 2 with
    | none => s
    | some i =>
      let ch := adcChannel s (vget s.lpe.slot i {}).input
      let v0 := correct s ch before
      let v1 := correct s ch after
      let judged := judgePeriod { s with hls := { s.hls with crossAt := s.tsc } } (correct s ch pMax) (correct s ch pMin)
      match s.hls.period with
      | none => judged
      | some (mx, mn) =>
        let lev2 := mx + mn
        if 2 * v0 < lev2 ∧ lev2 ≤ 2 * v1 then
          if judged.hls.mode == .parking then judged
          else
            -- 62.5 cycles between samples; the crossing to the nearest cycle
            let off := (idx * 125 * (2 * (v1 - v0)) + 125 * (lev2 - 2 * v0) + 2 * (v1 - v0)) / (2 * (2 * (v1 - v0)))
            lockStep judged (phaseAt s (tick + off))
        else s

/-- π/2 × 2^60. -/
def halfPi60 : Int := 1811004864519280711

/-- sin(π/2 × p / 2^30) × 2^60 for p up to 2^30, by its series to the 19th power in whole units of 2^−60. -/
def sinQuarter (p : Nat) : Int :=
  let x := halfPi60 * p / 2 ^ 30
  let q := x * x / 2 ^ 60
  let one : Int := 2 ^ 60
  let h := [18 * 19, 16 * 17, 14 * 15, 12 * 13, 10 * 11, 8 * 9, 6 * 7, 4 * 5, 2 * 3].foldl
    (fun (acc : Int) (d : Int) => one - q * acc / 2 ^ 60 / d) one
  x * h / 2 ^ 60

/-- sin(2π × phase / 2^32) × 2^60. -/
def sin60 (phase : Nat) : Int :=
  let p := phase % 2 ^ 31
  let v := sinQuarter (if p ≤ 2 ^ 30 then p else 2 ^ 31 - p)
  if phase % 2 ^ 32 < 2 ^ 31 then v else -v

/-- The code of FAST_DRV: AMPL × sin of the NCO phase in offset binary, AMPL in 1/65,536 of the full-scale sine of 32,768 codes
(R368, R386). The spec states no rounding to a code. -/
def fastCode (ampl phase : Nat) : Nat :=
  let v : Int := 32768 * 2 ^ 61 + ampl * sin60 phase
  (clampI 0 65535 (v / 2 ^ 61 + (if v % 2 ^ 61 ≠ 0 && Config.fastUp ampl phase then 1 else 0))).toNat

/-- FAST_DRV of a running axis, every 10 cycles (R368). -/
def fastDrive (s : State) : State :=
  if (s.hls.mode == .running || s.hls.mode == .starting) && decide (s.tsc % 10 = 0) then
    { s with pins := { s.pins with fastDrv := dacCode s 67 (fastCode (bits (hlsReg s 0xC00008) 15 0) (ncoPhase s s.tsc)) } }
  else s

/-- SLOW_DRV at a tick: the KIND-3 slot's output, or PARK_CODE where the scanner rests (R369, R376). -/
def slowTick (s : State) : State :=
  if s.hls.mode == .running || s.hls.mode == .starting || s.hls.mode == .parking then
    match hlsSlot s 3 with
    | some i => slowDrive s (clampI 0 65535 (32768 + ((vget s.lpe.slot i {}).out + 32768) / 65536)).toNat
    | none => s
  else if hasHls s && domainOn s 32 then slowDrive s (parkCode s) else s

/-- What the scanner does at a tick after its slots have computed (R373, R376): the slow drive, the slow limits, and the new
increment. -/
def hlsTick (s : State) : State :=
  let s1 := slowTick s
  if s.hls.mode == .running || s.hls.mode == .starting then
    let rd := slowRead s1
    let s2 := if (hlsSlot s1 3).isSome ∧ (rd < bits (hlsReg s 0xC0001C) 15 0 ∨ (bits (hlsReg s 0xC0001C) 31 16 : Int) < rd)
      then parkScanner (report s1 { source := 0x94 }) 8 true else s1
    match hlsSlot s2 2 with
    | some i =>
      let inc : Int := incStart s + ((vget s1.lpe.slot i {}).out + 32768) / 65536
      if incOutside s inc then
        parkScanner (report s2 { source := 0x92, address := incFreq inc.toNat }) 7 true
      else if s2.hls.mode == .parking then s2
      else setInc s2 inc.toNat (s.tsc + 175)
    | none => s2
  else s1

/-! ### Frame start and FTG1 (R369, R374, R380) -/

/-- The scanner at an FTG0 frame start: STARTING becomes RUNNING once locked and near SLOW[0]. -/
def hlsFrameStart (s : State) : State :=
  if s.hls.mode == .starting && s.hls.locked && slowNear s ((scanCfg s).slow.getD 0 0) then
    let s1 := completeOpt (setHls s .running 0) s.hls.startId .ok []
    { s1 with hls := { s1.hls with startId := none } }
  else s

/-- At the first SOF of TRIAL, a start-up's first FTG0 start, or the resumption of the old image: the scanner starts from
DISABLED, or from a park by QUIESCED (R369). -/
def hlsTrialStart (s : State) : State :=
  if (cfg s).topo.hlsEnable = 1 ∧ (cfg s).scan.isSome ∧ hasHls s = true then
    if s.hls.mode == .disabled || (s.hls.resume && s.hls.mode == .parked) then hlsBegin s else s
  else s

/-- FTG1's SOF: SHOWN inverts when new content is to be shown (R380). -/
def hlsSof (s : State) : State :=
  if s.hls.showNext then { s with hls := { s.hls with shown := !s.hls.shown, showNext := false } } else s

/-- Where the field sets begin (R145). -/
def fieldBase (s : State) : Nat := reservedBase s + 0x3600000

/-- Bytes of one field set. -/
def fieldBytes (s : State) : Nat := (scanCfg s).lines * (scanCfg s).pixels * 8

/-- Address of a sample of a field set. The second set follows 8 MB after the first. -/
def fieldAddr (s : State) (set : Bool) (line i : Nat) : Nat :=
  fieldBase s + (if set then 0x800000 else 0) + (line * (scanCfg s).pixels + i) * 8

/-- The scanner at the start of SWITCHED (R369, R381): both sets are zeros, SHOWN 0; an image without the scanner disables it. -/
def hlsSwitched (s : State) : State :=
  let s1 := zeroRange s (fieldBase s) 0x1000000
  let s2 := { s1 with hls := { s1.hls with
    shown := false, showNext := false, pass := none, passDone := false, span := none, lineNow := none } }
  if (cfg s).topo.hlsEnable = 1 then s2
  else if s2.hls.mode == .disabled then s2
  else
    let s3 := if s2.hls.mode == .parking then parkEnd s2 else s2
    setHls { s3 with hls := { s3.hls with resume := false } } .disabled 1

/-! ### Highlight pass (R379, R381) -/

/-- A take starts a highlight pass; a running one is aborted. -/
def hlsTake (s : State) (no : Nat) (layer : Option LayerSt) (pqPeak : Nat) : State :=
  if (cfg s).topo.hlsEnable = 1 ∧ hasHls s = true then
    let s1 := if s.hls.pass.isSome then bump s 0xC0005C else s
    { s1 with hls := { s1.hls with
      pass := some { no := no, start := s.tsc, layer := layer, pqPeak := pqPeak }, passDone := false } }
  else s

/-- One highlight sample (R379): the three field values at sample position (X, Y) for pixel weight w, and how many of its pixels
the conversion clipped (R212). -/
def hlSample (s : State) (p : HlPass) (sx8 sy8 w : Nat) : List Nat × Nat :=
  match p.layer with
  | none => ([0, 0, 0], 0)
  | some st =>
    if sx8 = 0xFFFF ∨ !st.geom.enable ∨ !layerEnabled s 15 then ([0, 0, 0], 0)
    else
      let g := st.geom
      let col := (cfg s).colour.getD 15 {}
      let q (dx dy : Nat) : List Nat × Bool :=
        let x := sx8 / 8 + dx
        let y := sy8 / 8 + dy
        if inDst g x y then
          let px := layerPx s 15 st x y
          let v := convertPx col.matrix (linearPx col p.pqPeak px)
          let a := div65535 ((if g.opaq then 65535 else px.a) * g.alpha)
          let k := (if dx = 1 then sx8 % 8 else 8 - sx8 % 8) * (if dy = 1 then sy8 % 8 else 8 - sy8 % 8)
          (v.1.map (fun c => k * div65535 (c * a)), v.2)
        else ([0, 0, 0], false)
      let l := [q 0 0, q 1 0, q 0 1, q 1 1]
      ((List.range 3).map (fun c =>
        let acc := (l.map (fun e => e.1.getD c 0)).foldl (· + ·) 0
        div65535 (((acc + 32) / 64) * w)),
       (l.filter (·.2)).length)

/-- Dwell weight of pixel i. -/
def dwell (s : State) (i : Nat) : Nat := (scanCfg s).timing.getD (2 * i + 1) 0

/-- The samples of a pass, line-major, each with the pixels it clipped; a sample named in `bad` read with an uncorrectable error
(R379, R381). -/
def hlSamples (s : State) (p : HlPass) (bad : List Nat) : List (List Nat × Nat) :=
  (List.range ((scanCfg s).lines * (scanCfg s).pixels)).map (fun n =>
    let e := (scanCfg s).samples.getD n (0xFFFF, 0)
    if bad.contains n then ([0, 0, 0], 0) else hlSample s p e.1 e.2 (dwell s (n % (scanCfg s).pixels)))

/-- The values of a pass, line-major (R379). -/
def hlValues (s : State) (p : HlPass) (bad : List Nat) : List (List Nat) := (hlSamples s p bad).map (·.1)

/-- DRAM address of an entry of the sample table, in the slot of the ACTIVE image (R145, R382). -/
def sampleEntry (s : State) (n : Nat) : Nat :=
  reservedBase s + 0x1000000 * s.img.roles.active + (scanCfg s).samplesAt + 4 * n

/-- The samples of a pass whose table entry meets an uncorrectable word: those named, and those whose word is known so. -/
def badSamples (s : State) (bad : List Nat) : List Nat :=
  (List.range ((scanCfg s).lines * (scanCfg s).pixels)).filter (fun n =>
    bad.contains n || (!dramClean s && readHits s (sampleEntry s n) 4))

/-- The requests of a highlight pass that met an uncorrectable word: table entries and pixels of layer 15 (R381, R419). -/
def hlPassUes (s : State) (p : HlPass) (bad : List Nat) : State :=
  let s1 := bad.foldl (fun s n =>
    if readHits s (sampleEntry s n) 4 then readUe s (sampleEntry s n) 4 0x0B
    else dramUe s (sampleEntry s n) 0x0B none false) s
  match p.layer with
  | none => s1
  | some st =>
    if dramClean s then s1
    else (scanCfg s).samples.foldl (fun s e =>
      [(0, 0), (1, 0), (0, 1), (1, 1)].foldl (fun s (d : Nat × Nat) =>
        let x := e.1 / 8 + d.1
        let y := e.2 / 8 + d.2
        if e.1 ≠ 0xFFFF ∧ st.geom.enable = true ∧ layerEnabled s 15 = true ∧ inDst st.geom x y = true then
          (pixelReads s st.surf (st.geom.srcX + (x - st.geom.dstX)) (st.geom.srcY + (y - st.geom.dstY))).foldl
            (fun s r => readUe s r.1 r.2 0x0B) s
        else s) s) s1

/-- HIGHLIGHT_PASS_DONE: the pass writes the set that is not shown, and its clips are counted (R212, R379). -/
def hlPassWrite (s0 : State) (p : HlPass) (bad : List Nat) : State :=
  let vals := hlValues s0 p bad
  let s := bumpBy (hlPassUes s0 p bad) 0x300058 (((hlSamples s0 p bad).map (·.2)).foldl (· + ·) 0)
  let a := fieldAddr s (!s.hls.shown) 0 0
  let s1 := wrBytes s a (vals.flatMap (fun v =>
    leBytes 2 (v.getD 0 0) ++ leBytes 2 (v.getD 1 0) ++ leBytes 2 (v.getD 2 0) ++ leBytes 2 0))
  let s2 := { s1 with hls := { s1.hls with
    pass := none, passDone := true, passNs := (s.tsc - p.start) * 4 % 2 ^ 32 } }
  if bad.isEmpty then s2 else report s2 { source := 0x96 }

/-! ### Lines (R377, R378) -/

/-- What R371 asks of the lasers. -/
def lasersAllowed (s : State) : Bool :=
  s.hls.mode == .running && !anySafe s && !interlockOpen s && s.hls.motion

/-- DAC code of a field value (R378, R455). -/
def hlCode (s : State) (c f : Nat) : Nat :=
  let b := min (brightness s.lsd.x) (brightness s.hls.yH)
  let e := (f * b + 32768) / 65536
  let full := bits (hlsReg s (0xC00030 + 4 * c)) 27 16
  let th := bits (hlsReg s (0xC00030 + 4 * c)) 11 0
  dacCode s (64 + c) (if e = 0 then 0 else th + div65535 (e * (full - th)))

/-- The field values that a line reads, and whether an uncorrectable error was met (R381, R419). -/
def lineValues (s : State) (line : Nat) : List (List Nat) × Bool :=
  let one (i : Nat) : List Nat × Bool :=
    let a := fieldAddr s s.hls.shown line i
    if readHits s a 8 then ([0, 0, 0], true) else ([rdN s a 2, rdN s (a + 2) 2, rdN s (a + 4) 2], false)
  let l := (List.range (scanCfg s).pixels).map one
  (l.map (·.1), l.any (·.2))

/-- SCAN_LINE takes effect (R377). -/
def scanLine (s : State) (first count period : Nat) : State :=
  { s with hls := { s.hls with span := some {
    t0 := s.tsc, busyEnd := s.tsc + ceilDiv (count * period) 65536, first := first, count := count, started := 0 } } }

/-- The scan phase θ at a TSC (R375). -/
def theta (s : State) (t : Nat) : Nat := (((ncoPhase s t : Int) - s.hls.y * 65536 + 2 ^ 30) % (2 ^ 32 : Nat)).toNat

/-- The half-period is the reverse one (R375). -/
def reverseHalf (s : State) : Bool := decide (2 ^ 31 ≤ theta s s.tsc)

/-- A half-period begins in this cycle, and its line is not drawn yet (R375, R377). -/
def halfBegins (s : State) : Bool :=
  decide (theta s s.tsc % 2 ^ 31 < incNow s) && s.hls.lineNow.elim true (fun l => l.reverse != reverseHalf s)

/-- The half-period that begins ends at or before a TSC. -/
def halfFits (s : State) (t : Nat) : Bool := decide (2 ^ 31 ≤ (t - s.tsc) * incNow s + theta s s.tsc % 2 ^ 31)

/-- The slow slot stands farther than SLOW_TOL from its set-point (R377). -/
def slowOff (s : State) : Bool :=
  match hlsSlot s 3 with
  | some i => let x := vget s.lpe.slot i {}; decide ((slowTol s * 65536 : Nat) < (x.r - x.fb).natAbs)
  | none => false

/-- SCAN_LINE_START: a half-period begins within the busy span, and the next line is drawn in it (R375–R378). -/
def scanLineStart (s : State) : State :=
  match s.hls.span with
  | none => s
  | some sp =>
    if s.hls.mode == .running && decide (sp.started < sp.count) && decide (sp.t0 ≤ s.tsc) && halfBegins s && halfFits s sp.busyEnd then
      let line := sp.first + sp.started
      let off := slowOff s
      let s1 := bump s 0xC00050
      let s2 := if off then report (bump s1 0xC00054) { source := 0x93, address := line } else s1
      let ok := lasersAllowed s2
      let v := lineValues s2 line
      let s3 := if v.2 then
        report (readUe s2 (fieldAddr s2 s2.hls.shown line 0) (8 * (scanCfg s2).pixels) 0x0B) { source := 0x96 } else s2
      let s4 := { s3 with
        pins := { s3.pins with hlEn := ok },
        hls := { s3.hls with
          line := line, dark := !ok, span := some { sp with started := sp.started + 1 },
          lineNow := some { reverse := reverseHalf s, dark := off || !s.hls.locked || !ok, values := v.1 } } }
      hlsTarget s4 3 ((scanCfg s).slow.getD line 0)
    else s

/-- Start u_i of a pixel in 2^−16 of a half-period, u_PIXELS being END (R378). -/
def pixelStart (s : State) (i : Nat) : Nat := (scanCfg s).timing.getD (2 * i) 0

/-- The pixel lit at a point of a line in 2^−16 of its half-period: mirrored in a reverse line; none outside u_0 to END (R378). -/
def pixelAt (s : State) (rev : Bool) (w : Nat) : Option Nat :=
  firstN (scanCfg s).pixels (fun i =>
    if rev then decide (65536 - pixelStart s (i + 1) ≤ w ∧ w < 65536 - pixelStart s i)
    else decide (pixelStart s i ≤ w ∧ w < pixelStart s (i + 1)))

/-- The codes of the highlight DACs in this cycle (R371, R378). -/
def dacCodes (s : State) : List Nat :=
  match s.hls.lineNow with
  | none => [0, 0, 0]
  | some l =>
    if l.dark || s.hls.dark then [0, 0, 0]
    else
      match pixelAt s l.reverse (theta s s.tsc % 2 ^ 31 / 2 ^ 15) with
      | none => [0, 0, 0]
      | some i => (List.range 3).map (fun c => hlCode s c ((l.values.getD i []).getD c 0))

/-- At each cycle: the line is over when its half-period is; each DAC sends its code, and FAST_DRV its own (R368, R377,
R378). -/
def scanTick (s : State) : State :=
  let s1 := match s.hls.lineNow with
    | some l => if l.reverse == reverseHalf s then s else { s with hls := { s.hls with lineNow := none } }
    | none => s
  fastDrive (if s.hls.lineNow.isSome then { s1 with pins := { s1.pins with hlDac := dacCodes s1 } } else s1)

/-- SCAN_LINE_END: the busy span is over; lines left are skipped, and the flyback begins (R376, R377). -/
def scanLineEnd (s : State) : State :=
  match s.hls.span with
  | none => s
  | some sp =>
    if s.tsc < sp.busyEnd then s
    else
      let s1 := bumpBy s 0xC00058 (sp.count - sp.started)
      let s2 := { s1 with hls := { s1.hls with span := none } }
      hlsTarget s2 3 ((scanCfg s).slow.getD ((sp.first + sp.count) % max 1 (scanCfg s).lines) 0)

/-! ### Commands (R384) -/

/-- HLS_START; a park trigger of the same cycle goes before it (R370). -/
def runHlsStart (s : State) (id : Nat) : State × Reply :=
  if (s.hls.mode == .parked || s.hls.mode == .failed) && s.ftgOn && s.hls.parkTrigAt != some s.tsc then
    let s1 := hlsBegin s
    ({ s1 with hls := { s1.hls with startId := some id } }, .later)
  else (s, .now .badState [])

/-- HLS_PARK. -/
def runHlsPark (s : State) (id : Nat) : State × Reply :=
  match s.hls.mode with
  | .disabled => (s, .now .badState [])
  | .parked => (parkTrigger s, .now .ok [])
  | .failed => (parkTrigger s, .now .ok [])
  | .parking => ({ s with hls := { s.hls with parkId := s.hls.parkId ++ [id] } }, .later)
  | .starting | .running =>
    let s1 := parkScanner s 2 false
    ({ s1 with hls := { s1.hls with parkId := s1.hls.parkId ++ [id] } }, .later)

end Sys2Proof.Machine
end

