-- ==== Sys2Proof/Machine/LpeOps.lean ====
section
/-! DEFINITION. Loop Engine (chapter 11): the tick of its 24 slots, windows, swap, supervision and commands. -/

namespace Sys2Proof.Machine

/-- One slot. -/
def slotAt (s : State) (i : Nat) : Slot := vget s.lpe.slot i {}

/-- BAR0 offset of a slot's registers (R366). -/
def slotBase (i : Nat) : Nat := 0xB00100 + 0x40 * i

/-- LOOPS record of a slot. -/
def loopCfg (s : State) (i : Nat) : LoopCfg := (cfg s).loops.getD i {}

/-- Limit a value to 48 bits (R352). -/
def sat48 (v : Int) : Int := clampI (-(2 ^ 47)) (2 ^ 47 - 1) v

/-- The state of the scanner lets a slot of KIND 2 or 3 run (R345, R369, R370). -/
def scannerRuns (s : State) (kind : Nat) : Bool :=
  s.hls.mode == .starting || s.hls.mode == .running || (decide (kind = 3) && s.hls.mode == .parking)

/-- A slot is idle (R348, R363). -/
def slotIdle (s : State) (x : Slot) : Bool :=
  x.storeErr || !s.lpe.active ||
    (if x.kind = 1 then !((bankAt s x.target).mode == .armed) || decide ((bankAt s x.target).nom = 0)
     else if x.kind = 0 then true else !scannerRuns s x.kind)

/-- The detector of a slot is on (R361). -/
def oscOn (s : State) (c : LoopCfg) : Bool :=
  decide (c.oscEnable = 1) || (decide (c.oscEnable = 2) && (s.hmi.version.elim false (fun v => decide (v.major = 1))))

/-- Slew limiter (R355). -/
def slewStep (x : Slot) (slew : Nat) : Slot :=
  if slew = 0 ∨ !x.rSet then { x with r := x.tgt, rSet := true, lim := false }
  else
    let d := x.tgt - x.r
    if (slew : Int) < d then { x with r := x.r + slew, lim := true }
    else if d < -(slew : Int) then { x with r := x.r - slew, lim := true }
    else { x with r := x.tgt, lim := false }

/-- The raw output of the compensator and its error (R352). -/
def compensate (x : Slot) (y : Int) : Int × Int :=
  let c := if x.bankB then x.coefB else x.coefA
  let e0 := sat48 (x.r - y)
  let b (k : Nat) := c.getD k 0
  let e (k : Nat) := x.eh.getD k 0
  let u (k : Nat) := x.uh.getD k 0
  let acc := b 0 * e0 + b 1 * e 0 + b 2 * e 1 + b 3 * e 2 - b 4 * u 0 - b 5 * u 1 - b 6 * u 2
  (sat48 ((acc + 134217728) / 268435456), e0)

/-- Clamp and anti-windup (R353). -/
def clampStep (x : Slot) (v e0 : Int) : Slot :=
  let c := if x.bankB then x.coefB else x.coefA
  let dir := (c.getD 0 0).sign * e0.sign
  let out := if x.outMax < v then x.outMax else if v < x.outMin then x.outMin else v
  let clamped := decide (x.outMax < v ∨ v < x.outMin)
  let hold := decide ((x.outMax < v ∧ 0 < dir) ∨ (¬ x.outMax < v ∧ v < x.outMin ∧ dir < 0))
  let x1 := { x with out := out, sat := clamped, hold := hold }
  if hold then x1
  else { x1 with eh := [e0, x.eh.getD 0 0, x.eh.getD 1 0], uh := [out, x.uh.getD 0 0, x.uh.getD 1 0] }

/-- The prediction y* of the plausibility model (R359). -/
def prediction (s : State) (x : Slot) : Int :=
  if x.kind = 1 then
    match bankLevel s x.target with
    | none => 0
    | some l =>
      let b := bankAt s x.target
      let d : Int := (appliedCode s x.target l 0).1
      let c0 : Int := b.table.getD 0 0
      let p : Int := bankTarget s x.target 65536
      if d ≤ b.thresh ∨ c0 ≤ b.thresh then 0 else Int.tdiv (p * (d - b.thresh) * 65536) (c0 - b.thresh)
  else x.r

/-- One step of the model's lag (R359). -/
def modelStep (c : LoopCfg) (m ystar : Int) : Int := m + ((ystar - m) * (65536 / c.modelTau : Nat) + 32768) / 65536

/-- The plausibility count of an update tick (R360). -/
def residStep (s : State) (i : Nat) (c : LoopCfg) (diff : Int) : State :=
  if c.residTicks = 0 then s
  else if c.residThresh < diff.natAbs then
    let s1 := bump s (slotBase i + 0x30)
    let n := (slotAt s i).resid + 1
    if c.residTicks ≤ n then
      report (modSlot s1 i (fun x => { x with resid := 0 })) { source := 0x80, master := i, address := twos 64 diff }
    else modSlot s1 i (fun x => { x with resid := n })
  else modSlot s i (fun x => { x with resid := 0 })

/-- The detector of an update tick (R361). -/
def oscStep (s : State) (i : Nat) (c : LoopCfg) (e0 : Int) : State :=
  let x := slotAt s i
  if oscOn s c && decide (c.oscAmpl * 65536 ≤ e0.natAbs) && decide (e0 ≠ 0) then
    let change := decide (x.oscSign ≠ 0 ∧ x.oscSign ≠ e0.sign)
    let s1 := modSlot s i (fun x => { x with oscSign := e0.sign })
    if change then
      let n := match x.oscLeft with
        | none => 1
        | some _ => x.oscCnt + 1
      let left := match x.oscLeft with
        | none => some c.oscWindow
        | some k => some k
      if c.oscCount ≤ n then
        report (bump (modSlot s1 i (fun x => { x with oscLeft := none, oscCnt := 0 })) (slotBase i + 0x34))
          { source := 0x81, master := i }
      else modSlot s1 i (fun x => { x with oscLeft := left, oscCnt := n })
    else s1
  else s

/-- Detector windows advance in time, whether or not the slot updates; a detector switched off forgets (R361). -/
def oscTime (on : Bool) (x : Slot) : Slot :=
  if on then { x with oscLeft := x.oscLeft.map (· - 1) }
  else { x with oscLeft := none, oscCnt := 0, oscSign := 0 }

/-- A detector window whose ticks have passed closes, after what this tick has counted in it (R361). -/
def oscClose (x : Slot) : Slot := if x.oscLeft = some 0 then { x with oscLeft := none, oscCnt := 0 } else x

/-- Swap and reset of a slot at a tick boundary (R358, R365): the oldest swap takes effect, and every reset. -/
def slotBoundary (s : State) (i : Nat) : State :=
  let x := slotAt s i
  let s1 := match x.swaps with
    | [] => s
    | w :: t =>
      let mn := match w.limits with | some l => l.1 | none => x.outMin
      let mx := match w.limits with | some l => l.2 | none => x.outMax
      let uh := x.uh.map (clampI mn mx)
      let s1 := modSlot s i (fun x => { x with
        swaps := t, bankB := w.bankB, outMin := mn, outMax := mx, uh := uh, sat := x.sat || decide (uh ≠ x.uh) })
      complete s1 w.id .ok (leBytes 8 s.tsc)
  if x.resets.isEmpty then s1
  else
    x.resets.foldl (fun s id => complete s id .ok [])
      (modSlot s1 i (fun x => { clearSlot x with resets := [], storeErr := false }))

/-- A slot that is idle at a tick: output 0 and no update. What an ARMED bank's slot, or one held by a store error, remembers
stays; else it is cleared (R348, R363). -/
def idleSlot (s : State) (x : Slot) (sample : Nat) : Slot :=
  let keeps := s.lpe.active && (x.storeErr || (decide (x.kind = 1) && (bankAt s x.target).mode == .armed))
  let y := if keeps then { x with out := 0, lim := false, updated := false } else clearSlot x
  { y with idle := true, fb := (sample * 65536 : Nat) }

/-- What the ECC of the slots' stores met at this tick: 0x84 corrected; 0x83 uncorrectable, and the slot stands idle until
it is reset (R363). -/
def slotStore (s : State) (e : Nat × StoreError) : State :=
  if (slotAt s e.1).kind = 0 then s
  else
    match e.2 with
    | .none => s
    | .corrected => report s { source := 0x84, master := e.1 }
    | .uncorrectable => report (modSlot s e.1 (fun x => { x with storeErr := true })) { source := 0x83, master := e.1 }

/-- One slot at a tick (R351–R361), with the corrected loop sample of its input. -/
def slotStep (sample : Nat → Nat) (s : State) (i : Nat) : State :=
  let c := loopCfg s i
  let x := slotAt s i
  if x.kind = 0 then s
  else if slotIdle s x then
    modSlot s i (fun x => idleSlot s x (sample x.input))
  else
    let y : Int := if x.kind = 2 then s.hls.y * 65536 else (sample x.input * 65536 : Nat)
    let x1 := slewStep { x with idle := false, fb := y } (regN s (slotBase i + 0x20))
    let x2 := oscTime (oscOn s c) (if c.residTicks = 0 then x1 else { x1 with m := modelStep c x1.m (prediction s x1) })
    let s1 := modSlot s i (fun _ => x2)
    let s2 := if x2.lim then bump s1 (slotBase i + 0x28) else s1
    let upd := if x.kind = 1 then x.window && !x.late else true
    if !upd then modSlot s2 i (fun x => oscClose { x with updated := false })
    else
      let (v, e0) := compensate x2 y
      let x3 := { clampStep x2 v e0 with updated := true }
      let s3 := bump (modSlot s2 i (fun _ => x3)) (slotBase i + 0x2C)
      let s4 := if x3.sat then bump s3 (slotBase i + 0x24) else s3
      let s5 := residStep s4 i c (y - x3.m)
      let s6 := modSlot (oscStep s5 i c e0) i oscClose
      let full := decide (x.tgt ≠ 0 ∧ (sample x.input = 0 ∨ sample x.input = 65535))
      if full then report s6 { source := 0x82, master := i, address := x.input } else s6

/-- One slot at a tick: its boundary, its step, and a changed trim on its bank (R351). -/
def slotTick (sample : Nat → Nat) (s : State) (i : Nat) : State :=
  let s1 := slotStep sample (slotBoundary s i) i
  let x := slotAt s1 i
  if x.kind = 1 ∧ x.out ≠ (slotAt s i).out then applyCode s1 x.target false else s1

/-- LOOP_TICK at a tick boundary, a TSC that is a multiple of 250: values written come into force, the slots in ascending
order, then the scanner; the registers show the tick (R30, R351, R366). -/
def loopTick (s : State) (samples : List Nat) (store : List (Nat × StoreError)) : State :=
  if s.tsc % 250 ≠ 0 ∨ s.lpe.lastTick = some s.tsc then s
  else
    let s0 := store.foldl slotStore (hlsForce s)
    let sample (i : Nat) : Nat := correct s0 (adcChannel s0 i) (samples.getD i 0)
    let s1 := if scannerRuns s0 2 then hlsTarget s0 2 (bits (hlsReg s0 0xC00008) 31 16) else s0
    let s2 := forN 24 (slotTick sample) s1
    hlsTick { s2 with lpe := { s2.lpe with shown := s2.lpe.slot, lastTick := some s.tsc } }

/-- WINDOW opens or closes its slots (R264, R349). -/
def windowBead (s : State) (mask : Nat) (opens : Bool) : State :=
  forMask 24 mask (fun s i => if (slotAt s i).kind = 1 then modSlot s i (fun x => { x with window := opens }) else s) s

/-- A late WINDOW bead: its slots hold until the next frame start (R269, R349). -/
def windowLate (s : State) (mask : Nat) : State :=
  forMask 24 mask (fun s i => modSlot s i (fun x => { x with window := false, late := true })) s

/-- Every window is closed: a segment boundary, or FTG0 stopping (R275, R279, R349); `frame` ends late holds. -/
def closeWindows (s : State) (frame : Bool) : State :=
  { s with lpe := { s.lpe with slot := s.lpe.slot.map (fun x => { x with window := false, late := x.late && !frame }) } }

/-- The slots at the start of SWITCHED (R357, R363): loaded from the new image; commands overtaken end with BAD_STATE. -/
def lpeSwitched (s : State) : State :=
  let ids := s.lpe.slot.toList.flatMap (fun x => x.swaps.map (·.id) ++ x.resets)
  let load (i : Nat) : Slot :=
    let c := loopCfg s i
    if c.kind = 0 then {}
    else { kind := c.kind, form := c.form, input := c.input, target := c.target, coefA := c.coefA, coefB := c.coefB,
           outMin := c.outMin, outMax := c.outMax, idle := true }
  let s1 := { s with lpe := { s.lpe with running := true, active := false, slot := (Vector.range 24).map load } }
  let s2 := forN 24 (fun s i => setReg s (slotBase i + 0x20) (if (loopCfg s i).kind = 0 then 0 else (loopCfg s i).slew)) s1
  ids.foldl (fun s id => complete s id .badState []) s2

/-- What makes an LPE command complete with BAD_STATE (R365). -/
def lpeRefused (s : State) (i : Nat) : Bool := decide ((slotAt s i).kind = 0) || s.img.cfg.isNone || inSwitch s

/-- LPE_SWAP (R358, R365). -/
def runLpeSwap (s : State) (i id : Nat) (p : List Byte) : State × Reply :=
  let bank := leAt p 0 1
  let fl := leAt p 1 1
  let mn := signed 32 (leAt p 4 4)
  let mx := signed 32 (leAt p 8 4)
  if 1 < bank ∨ 1 < fl ∨ leAt p 2 2 ≠ 0 ∨ (fl = 0 ∧ (mn ≠ 0 ∨ mx ≠ 0)) ∨ (fl = 1 ∧ mx ≤ mn) then (s, .now .outOfRange [])
  else if lpeRefused s i then (s, .now .badState [])
  else
    (modSlot s i (fun x => { x with
      swaps := x.swaps ++ [{ id := id, bankB := decide (bank = 1), limits := if fl = 1 then some (mn, mx) else none }] }),
     .later)

/-- LPE_SLOT_RESET (R365). -/
def runSlotReset (s : State) (i id : Nat) : State × Reply :=
  if lpeRefused s i then (s, .now .badState [])
  else (modSlot s i (fun x => { x with resets := x.resets ++ [id] }), .later)

end Sys2Proof.Machine
end

