-- ==== Sys2Proof/Machine/MemOps.lean ====
section
/-! DEFINITION. DRAM controller (chapter 14): channels and ECC, refresh, training, MEM_TRAIN. -/

namespace Sys2Proof.Machine

/-- One channel. -/
def chan (s : State) (c : Nat) : Chan := vget s.mem.ch c {}

/-- Change one channel. -/
def modChan (s : State) (c : Nat) (f : Chan → Chan) : State :=
  { s with mem := { s.mem with ch := vmod s.mem.ch c f } }

/-- The channel of a DRAM address (R416). -/
def channelOf (a : Nat) : Nat :=
  let u := a / 448
  (u ^^^ (u / 16) ^^^ (u / 256)) % 16

/-- The 512-byte unit of a DRAM address in its channel, as row, bank and column, and the address's byte in it (R416, R417). -/
def dramPlace (a : Nat) : Nat × Nat × Nat × Nat :=
  let o := a / 448 / 16 * 512
  (o / 32768, o / 2048 % 16, o % 2048, a % 448)

/-- The requests of PD0–PD7 are served: all of them are ON (R435). -/
def memServing (s : State) : Bool := (List.range 8).all (fun m => domainOn s m)

/-- The code of a training state (R437). -/
def trnCode : TrnMode → Nat
  | .ok => 0
  | .fallback => 1
  | .failed => 2
  | .untrained => 3

/-- MEM_EYE_c of the eye widths WR_B0, WR_B1, RD_B0, RD_B1 (R437). -/
def eyeWord (l : List Nat) : Nat :=
  fld 7 0 (l.getD 0 0) + fld 15 8 (l.getD 1 0) + fld 23 16 (l.getD 2 0) + fld 31 24 (l.getD 3 0)

/-- Set the training state of a channel; a change posts TRAIN_STATE (R436). -/
def setTrn (s : State) (c : Nat) (m : TrnMode) (cause : Nat) : State :=
  let old := (chan s c).mode
  if old = m then s
  else
    let s1 := modChan s c (fun x => { x with mode := m })
    post s1 0x0D01 c (leBytes 1 (trnCode m) ++ leBytes 1 (trnCode old) ++ leBytes 1 cause ++ leBytes 1 0
      ++ leBytes 4 (eyeWord (chan s1 c).eye) ++ leBytes 8 s.frame)

/-! ### Refresh (R424–R428) -/

/-- The rate in force on a channel: 4× while its sensor has failed (R474). -/
def rateOf (s : State) (c : Nat) : Nat := if (vget s.thm.sensor (1 + c) {}).failed then 3 else (chan s c).rate

/-- Due interval of a rate in cycles (R424). -/
def dueInterval (rate : Nat) : Nat := if rate = 3 then 30 else if rate = 2 then 60 else 120

/-- Issue one REFpb on a channel (R424, R425). -/
def refpb (s : State) (c : Nat) (forced : Bool) : State :=
  emit (modChan s c (fun x => { x with debt := x.debt - 1, pair := (x.pair + 1) % 8 })) (.refresh c (b2n forced))

/-- REFRESH_DUE: at a multiple of the due interval the debt goes up; at 8 a REFpb is forced (R424, R428). -/
def refreshDue (s : State) (c : Nat) : State :=
  if memServing s && decide (s.tsc % dueInterval (rateOf s c) = 0 ∧ (chan s c).dueAt ≠ some s.tsc) then
    let s1 := modChan s c (fun x => { x with debt := x.debt + 1, dueAt := some s.tsc })
    let d := (chan s1 c).debt
    let s2 := { s1 with mem := { s1.mem with debtMax := max s1.mem.debtMax (min 15 d) } }
    if 8 ≤ d then report (bump (refpb s2 c true) 0x100028) { source := 0x22, master := c } else s2
  else s

/-- Segment time now (R397): the time since the segment's start, standing still in a hold. -/
def segTime (s : State) : Nat :=
  match s.ftg.hold with
  | some (t, _) => t - s.rck.segStart
  | none => s.tsc - s.rck.segStart

/-- A slot of a train has an opportunity now for the channel (R425, R427). -/
def trainOpens (s : State) (c : Nat) (r : RefTrain) : Bool :=
  let now := if r.own then s.tsc else segTime s
  bitAt r.chans c && decide (r.time ≤ now) && (r.own || s.ftg.hold.isNone) &&
    (let d := now - r.time
     let j := if r.period = 0 then 0 else d / r.period
     let o := if r.period = 0 then d else d % r.period
     decide (j < r.count ∧ (o = 0 ∨ o = 23 ∨ o = 46 ∨ o = 69)))

/-- REFRESH_OPPORTUNITY: at an opportunity with debt above 0 one REFpb is issued; a debt increment of the same cycle counts
first (R425). -/
def refreshOpportunity (s : State) (c : Nat) : State :=
  let s1 := refreshDue s c
  if memServing s1 && s1.mem.trains.any (trainOpens s1 c) && decide (0 < (chan s1 c).debt ∧ (chan s1 c).oppAt ≠ some s1.tsc) then
    refpb (modChan s1 c (fun x => { x with oppAt := some s1.tsc })) c false
  else s1

/-- The controller makes a slot of its own in this cycle: every 100 cycles from the first cycle of the hold, or of the stop
of FTG0 (R427). -/
def ownSlotDue (s : State) : Bool :=
  match s.ftg.hold with
  | some (t, _) => decide ((s.tsc - t) % 100 = 0)
  | none => s.mem.ownSlots && decide ((s.tsc - s.mem.ownFrom) % 100 = 0)

/-- OWN_REFRESH_SLOT: the controller opens a slot of its own on every channel (R427). -/
def ownSlot (s : State) : State :=
  if ownSlotDue s then
    { s with mem := { s.mem with
      trains := { own := true, chans := 0xFFFF, time := s.tsc, period := 0, count := 1 } ::
        s.mem.trains.filter (fun r => !r.own || decide (s.tsc ≤ r.time + 69)) } }
  else s

/-- A refresh DRAM_SLOT takes effect; the first one after an FTG0 start ends the controller's own slots (R425, R427). -/
def refreshBead (s : State) (chans period count : Nat) : State :=
  { s with mem := { s.mem with
    ownSlots := false
    trains := { own := false, chans := chans, time := segTime s, period := period, count := count } ::
      s.mem.trains.filter (fun r => !r.own) } }

/-- MR4 of a channel may be read now: at an opportunity, once per ms (R426). -/
def mr4Due (s : State) (c : Nat) : Bool :=
  memServing s && s.mem.trains.any (trainOpens s c) && decide ((chan s c).mr4Ms ≠ some (s.tsc / msCycles))

/-- MR4_READ: the refresh-rate class of a channel, or no reading (R426, R473). -/
def mr4Read (s : State) (c : Nat) (cls : Option Nat) : State :=
  if !mr4Due s c then s
  else
  let s1 := modChan s c (fun x => { x with mr4 := cls, mr4Ms := some (s.tsc / msCycles) })
  match cls with
  | none => s1
  | some k =>
    let rate := if k ≤ 2 then 1 else if k = 3 then 2 else 3
    let old := (chan s c).rate
    let s2 := modChan s1 c (fun x =>
      if old < rate then { x with rate := rate, lower := 0 }
      else if rate = old then { x with lower := 0 }
      else
        let n := if x.lowerRate = rate then x.lower + 1 else 1
        if 4 ≤ n then { x with rate := rate, lower := 0 } else { x with lowerRate := rate, lower := n })
    if 5 ≤ k then report s2 { source := 0x25, master := c } else s2

/-! ### Training (R429–R433) -/

/-- Eye width in ps of a number of passing taps, to the nearest ps (R430). -/
def eyePs (taps : Nat) : Nat := min 255 ((2 * taps * 11719 + 6400) / 12800)

/-- The shift of largest magnitude. -/
def worstShift (l : List Int) : Int := l.foldl (fun a x => if a.natAbs < x.natAbs then x else a) 0

/-- The channel's 256 KB of the training pattern area (R145, R430). -/
def patternBase (s : State) (c : Nat) : Nat := reservedBase s + 0x3000000 + 0x40000 * c

/-- A step of a channel fails (R431). -/
def stepFails (s : State) (c : Nat) (r : StepResult) : Bool :=
  let least := bits (regN s 0x100008) 15 8
  r.ue.isSome || (armedUe s (patternBase s c) 0x40000).isSome || (List.range 4).any (fun i => decide (eyePs (r.taps.getD i 0) < least ∨ 8 < (r.shift.getD i 0).natAbs))

/-- Note what a step measured; an uncorrectable word of the pattern area raises fault 0x21 (R419). -/
def noteStep (s : State) (c : Nat) (r : StepResult) : State :=
  let s1 := reportUe s (r.ue.map (patternBase s c + ·)) (armedUe s (patternBase s c) 0x40000) 0x0D
  modChan s1 c (fun x => { x with
    eye := (List.range 4).map (fun i => eyePs (r.taps.getD i 0)), drift := clampI (-128) 127 (worstShift r.shift) })

/-- Move the codes of a channel toward the measured centres, at most 2 taps (R430). -/
def moveCodes (s : State) (c : Nat) (r : StepResult) : State :=
  bump (modChan s c (fun x => { x with
    codes := (List.range 4).map (fun i => x.codes.getD i 0 + clampI (-2) 2 (r.shift.getD i 0)) })) 0x100030

/-- A periodic step ends (R430, R431). -/
def periodicStep (s : State) (c : Nat) (r : StepResult) : State :=
  let s1 := noteStep s c r
  if stepFails s c r then
    let s2 := report (bump s1 0x10002C) { source := 0x23, master := c }
    setTrn (modChan s2 c (fun x => { x with pauses := 0 })) c .fallback 0
  else moveCodes s1 c r

/-- A channel fails for good: fault 0x24 (R431, R433). -/
def channelFails (s : State) (c cause : Nat) : State := report (setTrn s c .failed cause) { source := 0x24, master := c }

/-- The step of a channel in the training pause in progress ends now: channels in ascending order, but for those that have
failed; a periodic step lasts 1,600 cycles, a slice of firmware training at most so many (R429, R431). -/
def pauseTurn (s : State) (c : Nat) : Bool :=
  let due (i : Nat) : Bool := bitAt s.mem.pause i && (chan s i).mode != .failed
  due c && (List.range c).all (fun i => !due i) && decide (s.tsc ≤ s.mem.pauseEnd)
    && (if (chan s c).mode == .fallback then decide (s.tsc ≤ s.mem.stepFrom + 1600) else decide (s.tsc = s.mem.stepFrom + 1600))

/-- TRAINING_STEP_DONE (R429–R433, R435). -/
def trainingDone (s : State) (c : Nat) (r : StepResult) : State :=
  match s.mem.train.find? (fun e => e.1 == c) with
  | some (_, id, mode) =>
    let s0 := { s with mem := { s.mem with train := s.mem.train.filter (fun e => e.1 != c) } }
    let s1 := noteStep s0 c r
    let bad := if mode = 0 then stepFails s c r else !(r.firmware.getD false)
    if bad then
      let s2 := if mode = 0 then report (bump s1 0x10002C) { source := 0x23, master := c } else s1
      complete (channelFails s2 c 4) id .checkFail (leBytes 4 (eyeWord (chan s1 c).eye))
    else
      let s2 := setTrn (if mode = 0 then moveCodes s1 c r else s1) c .ok 4
      complete s2 id .ok (leBytes 4 (eyeWord (chan s1 c).eye))
  | none =>
    if bitAt s.mem.afterReset c then
      periodicStep { s with mem := { s.mem with afterReset := s.mem.afterReset ^^^ 2 ^ c } } c r
    else if pauseTurn s c then
      let s1 := { s with mem := { s.mem with pause := s.mem.pause ^^^ 2 ^ c, stepFrom := s.tsc } }
      match (chan s c).mode with
      | .fallback =>
        match r.firmware with
        | none => s1
        | some true => setTrn (noteStep s1 c r) c .ok 1
        | some false => channelFails (noteStep s1 c r) c 2
      | .ok | .untrained => periodicStep s1 c r
      | .failed => s
    else s

/-- A training DRAM_SLOT opens a pause of `count` cycles; each channel in fall-back uses one of its 64 (R429, R431). -/
def trainingBead (s : State) (chans count : Nat) : State :=
  let s1 := { s with mem := { s.mem with pause := chans, pauseEnd := s.tsc + count, stepFrom := s.tsc } }
  forMask 16 chans (fun s c =>
    if (chan s c).mode == .fallback then modChan s c (fun x => { x with pauses := x.pauses + 1 }) else s) s1

/-- The end of a segment ends its pauses and trains; a fall-back that has used 64 pauses fails (R425, R431). -/
def memBoundary (s : State) : State :=
  let s1 := forN 16 (fun s c =>
    if (chan s c).mode == .fallback && decide (64 ≤ (chan s c).pauses) then channelFails s c 3 else s) s
  { s1 with mem := { s1.mem with pause := 0, trains := s1.mem.trains.filter (·.own) } }

/-- MEM_TRAIN (R433). -/
def runMemTrain (s : State) (c id : Nat) (p : List Byte) : State × Reply :=
  let mode := leAt p 0 1
  if 1 < mode ∨ leAt p 1 3 ≠ 0 then (s, .now .outOfRange [])
  else if s.ftgOn || s.img.act.isSome then (s, .now .badState [])
  else ({ s with mem := { s.mem with train := s.mem.train ++ [(c, id, mode)] } }, .later)

/-- DRAM training of a start completes: every channel whose firmware training passed is OK (R432, R523). -/
def coldTrained (s : State) (failed : Nat) : State :=
  let s1 := forN 16 (fun s c => modChan s c (fun x => { x with mode := if bitAt failed c then .failed else .ok })) s
  { s1 with mem := { s1.mem with ready := true } }

end Sys2Proof.Machine
end

