-- ==== Sys2Proof/Machine/AudOps.lean ====
section
/-! DEFINITION. Audio ports (chapter 15): rings and FIFO, states, lip-sync, hold, underrun, overrun and fill. -/

namespace Sys2Proof.Machine

/-- One audio port. -/
def audPort (s : State) (p : Nat) : AudPort := vget s.aud.port p {}

/-- Change one audio port. -/
def modAud (s : State) (p : Nat) (f : AudPort → AudPort) : State :=
  { s with aud := { s.aud with port := vmod s.aud.port p f } }

/-- AUDIO record of a port. -/
def audCfg (s : State) (p : Nat) : AudCfg := (cfg s).audio.getD p {}

/-- The image enables the port. -/
def audEnabled (s : State) (p : Nat) : Bool := audPresent s p && decide ((audCfg s p).enable = 1)

/-- BAR0 offset of a port's registers (R452). -/
def audBase (p : Nat) : Nat := 0xE00000 + 0x100 * p

/-- DRAM address of a port's ring (R441). -/
def ringBase (s : State) (p : Nat) : Nat :=
  regN s (audBase p + 0xC) + bits (regN s (audBase p + 0x10)) 1 0 * 2 ^ 32

/-- RING_BYTES of a port. -/
def ringBytes (s : State) (p : Nat) : Nat := (audCfg s p).ringBytes

/-- Frames between the pointers of a ring. -/
def ringFrames (s : State) (p : Nat) : Nat :=
  let x := audPort s p
  if ringBytes s p = 0 then 0 else ((x.wr + ringBytes s p - x.rd) % ringBytes s p) / 8

/-- Frames of room in a ring (R441). -/
def ringRoom (s : State) (p : Nat) : Nat := ringBytes s p / 8 - 1 - ringFrames s p

/-- One ring word, 0 under fault 0x21 where it reads with an uncorrectable error (R442). -/
def ringWord (s : State) (a : Nat) : State × Nat :=
  if readHits s a 4 then (readUe s a 4 0x0E, 0) else (s, rdN s a 4)

/-- Fetch frames from the ring into the FIFO, at most `n` (R442). -/
def audFetch (p : Nat) (n : Nat) (s : State) : State :=
  match n with
  | 0 => s
  | k + 1 =>
    let x := audPort s p
    if x.rd = x.wr ∨ 64 ≤ x.fifo.length ∨ ringBytes s p = 0 then s
    else
      let (s1, l) := ringWord s (ringBase s p + x.rd)
      let (s2, r) := ringWord s1 (ringBase s p + x.rd + 4)
      audFetch p k (modAud s2 p (fun x => { x with
        fifo := x.fifo ++ [(l, r)], rd := (x.rd + 8) % ringBytes s p, taken := (x.taken + 1) % 2 ^ 64 }))

/-- A word as it goes out: the top WORD_BITS bits, 0 on a masked channel (R440, R449). -/
def audWord (s : State) (p : Nat) (mask bit w : Nat) : Nat :=
  if bitAt mask bit then
    let n := 32 - (audCfg s p).wordBits
    w / 2 ^ n * 2 ^ n
  else 0

/-- Writes to AUD_CH_MASK whose stamp lies before a left edge take effect at it (R449). -/
def maskEdge (s : State) (p : Nat) : State :=
  modAud s p (fun x =>
    let due := x.maskNext.filter (fun w => decide (w.1 < s.tsc))
    { x with mask := (due.getLast?.map (·.2)).getD x.mask, maskNext := x.maskNext.filter (fun w => !decide (w.1 < s.tsc)) })

/-- Commands to stop a port take effect at a left edge (R443). -/
def stopEdge (s : State) (p : Nat) : State :=
  (audPort s p).stopIds.foldl (fun s id => complete s id .ok [])
    (modAud s p (fun x => { x with running := false, stopIds := [], holding := false, underrun := false }))

/-- Bits of a word, from bit 31 down. -/
def msbFirst (w : Nat) : List Bool := (List.range 32).map (fun i => bitAt w (31 - i))

/-- A sample frame from its left edge on: word select and data at each of 64 bit clocks. FORMAT 0 holds word select low in
the left slot and sends each bit one bit clock late, `tail` first; FORMAT 1 holds it high there (R440). -/
def frameBits (format : Nat) (tail : Bool) (left right : Nat) : List (Bool × Bool) :=
  let data := msbFirst left ++ msbFirst right
  let low := List.replicate 32 false
  let high := List.replicate 32 true
  if format = 0 then (low ++ high).zip (tail :: data) else (high ++ low).zip data

/-- Put a frame on an output's balls: its two words, masked (R440, R449). -/
def putFrame (s : State) (p left right : Nat) : State :=
  let x := audPort s p
  emit (modAud s p (fun x => { x with tail := bitAt right 0 })) (.audio p (frameBits (audCfg s p).format x.tail left right))

/-- Send a frame on an output and count it. -/
def sendFrameOut (s : State) (p : Nat) (f : Nat × Nat) : State :=
  let m := (audPort s p).mask
  putFrame (modAud s p (fun x => { x with last := f, sent := (x.sent + 1) % 2 ^ 64, edge := s.tsc })) p
    (audWord s p m 0 f.1) (audWord s p m 1 f.2)

/-- SAMPLE_FRAME_OUT: a left edge of a RUNNING output (R443–R449). -/
def sampleOut (s0 : State) (p : Nat) : State :=
  if !(audPort s0 p).running then s0
  else
    let s := maskEdge s0 p
    if !(audPort s p).stopIds.isEmpty then putFrame (stopEdge s p) p 0 0
    else
      let s1 := modAud s p (fun x => { x with holding := x.repeats })
      let x := audPort s1 p
      if x.holding then bump (sendFrameOut s1 p x.last) (audBase p + 0x28)
      else
        let s2 := audFetch p 64 s1
        match (audPort s2 p).fifo with
        | f :: t =>
          audFetch p 64 (sendFrameOut (modAud s2 p (fun x => { x with fifo := t, underrun := false })) p f)
        | [] =>
          let s3 := bump (sendFrameOut s2 p x.last) (audBase p + 0x20)
          let s4 := modAud s3 p (fun x => { x with underrun := true, underSince := true })
          if x.underrun then s4 else report s4 { source := 0xD0, master := p }

/-- Write one frame into the input's ring. -/
def ringPut (s : State) (f : Nat × Nat) : State :=
  let x := audPort s 4
  let s1 := wrBytes s (ringBase s 4 + x.wr) (leBytes 4 f.1 ++ leBytes 4 f.2)
  modAud s1 4 (fun x => { x with
    wr := if ringBytes s 4 = 0 then x.wr else (x.wr + 8) % ringBytes s 4, taken := (x.taken + 1) % 2 ^ 64, last := f })

/-- SAMPLE_FRAME_IN: the input receives a sample frame (R442, R444, R448, R449). -/
def sampleIn (s0 : State) (l r : Nat) : State :=
  if !(audPort s0 4).running then s0
  else
    let s := maskEdge s0 4
    if !(audPort s 4).stopIds.isEmpty then stopEdge s 4
    else
      let s1 := modAud s 4 (fun x => { x with sent := (x.sent + 1) % 2 ^ 64, edge := s.tsc })
      let x := audPort s1 4
      let f := (audWord s 4 x.mask 0 l, audWord s 4 x.mask 1 r)
      if 0 < x.lost ∨ ringRoom s1 4 = 0 then
        let n := min tallyMax (x.lost + 1)
        let s2 := bump (modAud s1 4 (fun x => { x with lost := n, overSince := true })) (audBase 4 + 0x24)
        let s3 := if x.lost = 0 then report s2 { source := 0xD1, master := 4 } else s2
        if n = tallyMax ∧ x.lost ≠ tallyMax then report s3 { source := 0xD3, master := 4 } else s3
      else ringPut s1 f

/-- AUDIO_FILL_COPY: one copy of the last frame written, for one lost frame, at most one per 32 cycles (R448). -/
def fillCopy (s : State) : State :=
  let x := audPort s 4
  if 0 < x.lost ∧ 0 < ringRoom s 4 ∧ x.fillAt.all (fun t => decide (t + 32 ≤ s.tsc)) = true then
    modAud (ringPut s x.last) 4 (fun x => { x with lost := x.lost - 1, fillAt := some s.tsc })
  else s

/-! ### States, start, lip-sync -/

/-- AUD_START (R443, R450). -/
def runAudStart (s : State) (p id : Nat) (pl : List Byte) : State × Reply :=
  let x := audPort s p
  if x.running || x.start.isSome || !audEnabled s p || !s.aud.pllLock || s.img.cfg.isNone || inSwitch s then
    (s, .now .badState [])
  else if ringBase s p % 64 ≠ 0 ∨ inHostArea s (ringBase s p) (ringBase s p + ringBytes s p) = false then
    (s, .now .outOfRange [])
  else (modAud s p (fun x => { x with start := some (leAt pl 0 8, id) }), .later)

/-- AUDIO_PORT_RUNNING: a left edge at or after START_TSC (R443). -/
def audRunning (s : State) (p : Nat) : State :=
  match (audPort s p).start with
  | none => s
  | some (t, id) =>
    if t ≤ s.tsc then
      let s1 := modAud s p (fun x => { x with running := true, start := none, edge := s.tsc, underrun := false, holding := false })
      complete (if p = 4 then s1 else audFetch p 64 s1) id .ok (leBytes 8 s.tsc)
    else s

/-- AUD_STOP (R443, R450). -/
def runAudStop (s : State) (p id : Nat) : State × Reply :=
  if (audPort s p).running then (modAud s p (fun x => { x with stopIds := x.stopIds ++ [id] }), .later)
  else (s, .now .badState [])

/-- Every port enters STOPPED; commands that wait end with the given status (R439, R443). -/
def audStopAll (s : State) (st : Status) : State :=
  forN 5 (fun s p =>
    let x := audPort s p
    let s1 := modAud s p (fun x => { x with
      running := false, start := none, stopIds := [], holding := false, repeats := false, underrun := false, tail := false })
    let s2 := x.stopIds.foldl (fun s id => complete s id .ok []) s1
    completeOpt s2 (x.start.map (·.2)) st []) s

/-- AUDIO_PLL_UNLOCK (R439). -/
def pllUnlock (s : State) : State :=
  if s.aud.pllLock then
    let s1 := audStopAll { s with aud := { s.aud with pllLock := false }, pins := { s.pins with audMclk := false } } .badState
    report s1 { source := 0xD2 }
  else s

/-- AUDIO_PLL_LOCK: after SWITCHED, under an image that enables a port (R439). -/
def pllLock (s : State) : State :=
  if (List.range 5).any (audEnabled s) then
    { s with aud := { s.aud with pllLock := true }, pins := { s.pins with audMclk := true } }
  else s

/-- The audio unit at the start of SWITCHED (R443, R449): STOPPED, pointers 0, masks from the image. -/
def audSwitched (s : State) : State :=
  let s1 := audStopAll s .badState
  let s2 := forN 5 (fun s p =>
    let m := (audCfg s p).chMask % 4
    setReg (modAud s p (fun x => { x with wr := 0, rd := 0, fifo := [], lost := 0, mask := m, maskNext := [] }))
      (audBase p + 4) m) s1
  { s2 with aud := { s2.aud with pllLock := false } }

/-- Left edges between the last one and a TSC, counted with sign: the first edge at or after it (R444). -/
def edgesTo (fs last t : Nat) : Int :=
  if fs = 0 then 0 else -(Int.fdiv (((last : Int) - t) * fs) 250000000)

/-- AUD_FRAME of a RUNNING port at a frame start (R444, R446, R451). -/
def audFrame (s : State) (p : Nat) : State :=
  let x := audPort s p
  if x.running then
    let c := audCfg s p
    let goal : Int := s.tsc + c.presOffset
    let n := edgesTo c.fsHz x.edge goal.toNat
    let stamp : Int := x.edge + (if c.fsHz = 0 then 0 else (n * 250000000) / c.fsHz)
    let sent : Int := x.sent + n
    let taken : Int := if x.repeats && decide (p ≠ 4) then x.taken else x.taken + (if p = 4 then n else min n (ringFrames s p))
    let flags := b2n x.repeats + 2 * b2n x.underSince + 4 * b2n x.overSince
    let s1 := post (modAud s p (fun x => { x with underSince := false, overSince := false })) 0x0E01 p
      (leBytes 8 s.frame ++ leBytes 8 (twos 64 stamp) ++ leBytes 8 (twos 64 sent) ++ leBytes 8 (twos 64 taken)
        ++ leBytes 1 flags ++ leBytes 7 0)
    signal s1 (16 + p)
  else s

/-- F: frames of sound in the shortest frame of the running variant (R445). -/
def framesPerTmin (s : State) (p : Nat) : Nat :=
  ceilDiv ((audCfg s p).fsHz * ((cfg s).sched.getD s.rck.variant {}).tmin) 250000000

/-- A port is ready at a decision point (R445). -/
def audReady (s : State) (p : Nat) : Bool :=
  let x := audPort s p
  !x.running || (if p = 4 then decide (framesPerTmin s p ≤ ringRoom s p)
    else decide (framesPerTmin s p ≤ x.fifo.length + ringFrames s p))

end Sys2Proof.Machine
end

