-- ==== Sys2Proof/Machine/ThmOps.lean ====
section
/-! DEFINITION. Thermal sensing and power domains (chapter 17): sensors, thresholds, the light-path thermal stop, PWR_SET. -/

namespace Sys2Proof.Machine

/-! ### Readings (R471–R474) -/

/-- One sensor. -/
def sensorAt (s : State) (i : Nat) : Sensor := vget s.thm.sensor i {}

/-- Change one sensor. -/
def modSensor (s : State) (i : Nat) (f : Sensor → Sensor) : State :=
  { s with thm := { s.thm with sensor := vmod s.thm.sensor i f } }

/-- BAR0 offset of a sensor's registers (R488). -/
def sensBase (i : Nat) : Nat := 0x61000 + 0x20 * i

/-- The sensor's unit is present (R471). -/
def sensorPresent (s : State) (i : Nat) : Bool :=
  if i ≤ 16 then true else if i ≤ 28 then decide (i - 17 < nBanks s) else decide (i - 29 < nPorts s)

/-- Fractional bits of the fixed-point logarithm. -/
def lnOne : Nat := 2 ^ 64

/-- Terms z, z³/3, z⁵/5, … of atanh, z in units of 2⁻⁶⁴. -/
def atanhSum (fuel : Nat) (k : Nat) (zp z2 : Nat) : Nat :=
  match fuel with
  | 0 => 0
  | n + 1 => zp / k + atanhSum n (k + 2) (zp * z2 / lnOne) z2

/-- ln of a ratio num/den between 1 and 2, in units of 2⁻⁶⁴: 2·atanh((num − den)/(num + den)). -/
def lnUnit (num den : Nat) : Nat :=
  let z := (num - den) * lnOne / (num + den)
  2 * atanhSum 44 1 z (z * z / lnOne)

/-- ln of a positive ratio in units of 2⁻⁶⁴, by powers of two. -/
def lnRatio (num den : Nat) : Int :=
  let e : Int := (Nat.log2 num : Int) - Nat.log2 den
  let n := if e < 0 then num * 2 ^ (-e).toNat else num
  let d := if e < 0 then den else den * 2 ^ e.toNat
  let ln2 : Int := lnUnit 2 1
  if n < d then e * ln2 - lnUnit d n else e * ln2 + lnUnit n d

/-- Reading of an NTC input from its corrected sample (R472): `none` for a short or an open, else the value in 0.25 °C.
1/t is formed in units of 2⁻⁶⁴ and the quotient floored. -/
def ntcReading (b r25 smp : Nat) : Option Int :=
  if smp ≤ 500 ∨ 65000 ≤ smp then none
  else
    let ln := lnRatio (1000 * smp) ((65536 - smp) * r25)
    let x : Int := Int.fdiv ((lnOne : Int) * 2000) 596300 + Int.fdiv ln b
    -- floor(4·(1/x − 273.15) + 1/2)
    some (Int.fdiv (400 * (lnOne : Int) * lnOne - 109210 * x * lnOne) (100 * x * lnOne))

/-- THM_THRESH with vector 15 (R477, R487). -/
def postThresh (s : State) (i k : Nat) (on : Bool) (level : Int) : State :=
  signal (post s 0x1001 i (leBytes 1 k ++ leBytes 1 (b2n on) ++ leBytes 2 (twos 16 (sensorAt s i).reading)
    ++ leBytes 2 (twos 16 level) ++ leBytes 2 0 ++ leBytes 8 s.frame)) 15

/-- Level of a threshold: 0 LOW_CRIT, 1 LOW_WARN, 2 HIGH_WARN, 3 HIGH_CRIT (R488). -/
def threshLevel (s : State) (i k : Nat) : Int :=
  let w := if k < 2 then regN s (sensBase i + 8) else regN s (sensBase i + 4)
  signed 16 (if k % 2 = 0 then bits w 15 0 else bits w 31 16)

/-- Hysteresis of a sensor (R475). -/
def hysteresis (s : State) (i : Nat) : Int :=
  if 1 ≤ i ∧ i ≤ 16 then 1 else bits (regN s (sensBase i + 0xC)) 7 0

/-- The light-path thermal stop starts its ramp (R479). -/
def stopBegin (s : State) : State :=
  let s1 := startRamp s 0 (20 * msCycles)
  { s1 with thm := { s1.thm with stop := true, stopAt := some s.tsc } }

/-- The end of the ramp: safe state with the shutter, arrays and scanner parked, and the record of 0xB0 (R479, R496). -/
def stopEnd (s : State) : State :=
  if s.thm.stopAt.isSome then
    let s1 := { s with lsd := { s.lsd with x := 0, ramp := none }, thm := { s.thm with stopAt := none } }
    let s2 := parkScanner (parkArrays (enterSafe s1 0xB0 true)) 4 false
    report s2 { source := 0xB0, address := 3, reactionAs := some 0x0F }
  else s

/-- THERMAL_STOP_RAMP_END: the ramp has lasted 20 ms (R479). -/
def stopRampEnd (s : State) : State :=
  if s.thm.stopAt.elim false (fun t => decide (t + 20 * msCycles ≤ s.tsc)) then stopEnd s else s

/-- A fault whose reaction includes the safe state has been recorded while the thermal stop's ramp runs (R479). -/
def stopOvertaken (s : State) : Bool :=
  match s.thm.stopAt with
  | some a => s.flt.log.any (fun r => decide (a ≤ r.tsc) && bitAt r.reaction 0)
  | none => false

/-- Such a fault ends the stop at once, without the rest of its ramp: within the cycle (R479). -/
def stopTick (s : State) : State :=
  if s.boot.power == .running && stopOvertaken s then stopEnd s else s

/-- A threshold asserts (R477). -/
def threshAssert (s : State) (i k : Nat) : State :=
  let s1 := postThresh (bump s (sensBase i + 0x14)) i k true (threshLevel s i k)
  if i = 0 ∧ k = 3 then stopBegin s1
  else report s1 { source := if k = 0 ∨ k = 3 then 0xB2 else 0xB1, master := i, address := k }

/-- One threshold of one valid reading (R476). -/
def threshStep (i : Nat) (v : Int) (s : State) (k : Nat) : State :=
  let x := sensorAt s i
  let l := threshLevel s i k
  let h := hysteresis s i
  let on := if k < 2 then decide (v ≤ l) else decide (l ≤ v)
  let off := if k < 2 then decide (l + h ≤ v) else decide (v ≤ l - h)
  if bitAt x.asserted k then
    let n := if off then x.down.getD k 0 + 1 else 0
    if 4 ≤ n then
      postThresh (modSensor s i (fun x => { x with
        asserted := x.asserted &&& (15 ^^^ 2 ^ k), down := x.down.set k 0, up := x.up.set k 0 })) i k false l
    else modSensor s i (fun x => { x with down := x.down.set k n })
  else
    let n := if on then x.up.getD k 0 + 1 else 0
    if 4 ≤ n then
      threshAssert (modSensor s i (fun x => { x with
        asserted := x.asserted ||| 2 ^ k, up := x.up.set k 0, down := x.down.set k 0 })) i k
    else modSensor s i (fun x => { x with up := x.up.set k n })

/-- One sample of one sensor (R471, R474, R476). -/
def sampleSensor (r : Nat → Option Int) (s : State) (i : Nat) : State :=
  let x := sensorAt s i
  if !sensorPresent s i || x.suspended then s
  else
    match r i with
    | none =>
      let s1 := modSensor s i (fun x => { x with miss := min 4 (x.miss + 1), good := 0 })
      if x.miss + 1 = 4 ∧ !x.failed then
        report (bump (modSensor s1 i (fun x => { x with failed := true })) (sensBase i + 0x18))
          { source := if i = 0 then 0xB4 else 0xB3, master := i }
      else s1
    | some v =>
      if x.failed then
        modSensor s i (fun x => { x with
          miss := 0, reading := v, good := if 64 ≤ x.good + 1 then 0 else x.good + 1, failed := decide (x.good + 1 < 64) })
      else
        let s1 := modSensor s i (fun x => { x with
          miss := 0, reading := v, seen := true,
          max := if x.seen then max x.max v else v, min := if x.seen then min x.min v else v })
        let s2 := (List.range 4).foldl (threshStep i v) s1
        if i = 0 ∧ s2.thm.stopAt.isSome = true ∧ s.thm.stopAt.isSome = true ∧ threshLevel s 0 3 + 20 ≤ v then stopEnd s2 else s2

/-- The readings of one sample: the die's, the DRAM classes of the last MR4 reads, and the NTC inputs from their raw
codes (R471–R474, R483). A conversion beyond 16 bits is a value the spec does not state: a free one. -/
def sampleReading (s : State) (die : Option Int) (ntc : List Nat) (i : Nat) : Option Int :=
  if i = 0 then (match die with
    | some v => if v < -240 ∨ 600 < v then none else some v
    | none => none)
  else if i ≤ 16 then (if memServing s then (chan s (i - 1)).mr4.map (fun c => (c : Int)) else none)
  else if domainOn s 30 then
    let cfgW := regN s (if i ≤ 28 then 0x60008 else 0x6000C)
    let ch := if i ≤ 28 then 40 + (i - 17) else 52 + (i - 29)
    (ntcReading (bits cfgW 31 16) (bits cfgW 15 0) (correct s ch (ntc.getD (i - 17) 0))).map
      (fun v => if -32768 ≤ v ∧ v ≤ 32767 then v else signed 16 (Config.freeWord (s.freeCtr + i)).toNat)
  else none

/-- SENSOR_SAMPLE: at each multiple of 1 ms, every sensor in ascending order (R471, R477). -/
def sampleAll (s : State) (die : Option Int) (ntc : List Nat) : State :=
  if s.tsc % msCycles = 0 ∧ s.thm.sampledAt ≠ some s.tsc then
    let s1 := forN 35 (sampleSensor (sampleReading s die ntc)) { s with thm := { s.thm with sampledAt := some s.tsc } }
    { s1 with freeCtr := s1.freeCtr + 35 }
  else s

/-- SENSOR_SAMPLE after a trip: AON samples the die alone, and counts consecutive readings below 95 °C (R481). -/
def sampleTripped (s : State) (die : Option Int) : State :=
  if s.tsc % msCycles = 0 ∧ s.thm.sampledAt ≠ some s.tsc then
    { s with thm := { s.thm with
        sampledAt := some s.tsc, cool := if die.elim false (fun v => decide (v < 380)) then s.thm.cool + 1 else 0 } }
  else s

/-- THM_CLEAR_MINMAX (R486). -/
def runClearMinMax (s : State) (i : Nat) : State × Reply :=
  (modSensor s i (fun x => { x with max := x.reading, min := x.reading }), .now .ok [])

/-! ### Power domains (R482–R485) -/

/-- A domain that does not serve only absent units (R11). -/
def domainPresent (s : State) (d : Nat) : Bool :=
  if 8 ≤ d ∧ d ≤ 13 then decide (d - 8 < nPorts s)
  else if 22 ≤ d ∧ d ≤ 25 then decide (d - 22 < nVideo s)
  else if d = 26 then decide (0 < nGfx s)
  else if d = 27 then decide (6 < nGfx s)
  else if d = 32 then hasHls s
  else if d = 33 then decide (0 < nAudOut s) || hasAudIn s
  else decide (d < 36)

/-- Parent of a domain (R483). -/
def domainParent (d : Nat) : Option Nat :=
  if 22 ≤ d ∧ d ≤ 27 then some 28 else if d = 28 ∨ d = 29 then some 35 else none

/-- The code of a domain state (R484, R489). -/
def domCode : DomMode → Nat
  | .off => 0
  | .retain => 1
  | .on => 2

/-- A layer is in use: its current or pending state has ENABLE (R483). -/
def layerInUse (s : State) (l : Nat) : Bool :=
  let x := vget s.cmp.layers l {}
  x.cur.geom.enable || x.pend.elim false (·.st.geom.enable)

/-- A cache bank holds allocated slots under the image in force (R254, R255). -/
def bankAllocated (s : State) (n : Nat) : Bool :=
  decide (s.img.cfg.isSome = true ∧ n * 227 < cacheSlots (cfg s))

/-- A request taking the domain out of ON finds it in use (R483). `next` gives the states after the request. -/
def domainInUse (s : State) (next : Nat → DomMode) (d : Nat) : Bool :=
  let lit := (List.range 12).any (fun b => let m := (bankAt s b).mode; m == .starting || m == .paused || m == .armed)
  if d ≤ 7 then s.ftgOn || s.img.act.isSome || (List.range 8).any (fun m => next m != next d)
  else if d ≤ 13 then !((port s (d - 8)).mode == .disabled || (port s (d - 8)).mode == .failed)
  else if d ≤ 17 then s.img.cfg.isSome && (List.range 6).any (fun i => builderMapped s (6 * (d - 14) + i))
  else if d ≤ 21 then bankAllocated s (d - 18)
  else if d ≤ 25 then layerInUse s (d - 22)
  else if d = 26 then (List.range 6).any (fun g => layerInUse s (4 + g))
  else if d = 27 then (List.range 6).any (fun g => layerInUse s (10 + g))
  else if d = 28 ∨ d = 29 then s.ftgOn
  else if d = 30 ∨ d = 31 then lit
  else if d = 32 then s.hls.mode == .starting || s.hls.mode == .running || s.hls.mode == .parking
  else if d = 33 then (List.range 5).any (fun p => (audPort s p).running)
  else if d = 34 then s.ver.region.toList.any (fun r => decide (r.ctrl % 4 ≠ 0))
  else s.img.cfg.isSome

/-- Domains that the image in force needs ON (R51, R65). -/
def requiredOn (c : ImageCfg) : Nat :=
  if c.format = 3 then c.requiredOn
  else
    let t := c.topo
    maskOf ((List.range 36).map (fun d =>
      if d ≤ 7 ∨ d = 28 ∨ d = 29 ∨ d = 35 then true
      else if 8 ≤ d ∧ d ≤ 13 then bitAt t.portEnable (d - 8)
      else if 18 ≤ d ∧ d ≤ 21 then decide ((d - 18) * 227 < cacheSlots c)
      else if 22 ≤ d ∧ d ≤ 25 then bitAt t.videoMask (d - 22)
      else if d = 26 then decide (t.gfxMask % 64 ≠ 0)
      else if d = 27 then decide (t.gfxMask / 64 ≠ 0)
      else if d = 30 ∨ d = 31 then decide (t.bankMask ≠ 0) || c.loops.any (fun l => decide (l.kind ≠ 0))
      else if d = 32 then decide (t.hlsEnable = 1)
      else if d = 33 then c.audio.any (fun a => decide (a.enable = 1))
      else false))

/-- Domains that the image tolerates in RETAIN (R51, R65). -/
def retainOk (c : ImageCfg) : Nat :=
  if c.format = 3 then c.retainOk else 2 ^ 36 - 1

/-- The next domain of a request to move (R485): up, parents first and ascending; down, children first and descending. -/
def nextDomain (up : Bool) (todo : List Nat) : Option Nat :=
  let free (d : Nat) : Bool :=
    if up then !((domainParent d).elim false (fun p => todo.contains p))
    else !(todo.any (fun e => domainParent e == some d))
  let l := todo.filter free
  if up then l.foldl (fun a d => some (match a with | none => d | some x => min x d)) none
  else l.foldl (fun a d => some (match a with | none => d | some x => max x d)) none

/-- The order in which a request moves its domains. -/
def domainOrder (up : Bool) (n : Nat) (todo : List Nat) : List Nat :=
  match n with
  | 0 => []
  | k + 1 =>
    match nextDomain up todo with
    | none => []
    | some d => d :: domainOrder up k (todo.filter (· != d))

/-- PWR_STATE (R487). -/
def postPwr (s : State) (mask st cause : Nat) : State :=
  post s 0x1002 0 (leBytes 8 mask ++ leBytes 1 st ++ leBytes 1 cause ++ leBytes 6 0)

/-- The state a code names (R484). -/
def domOf (n : Nat) : DomMode := if n = 0 then .off else if n = 1 then .retain else .on

/-- Domain d is at PD d: presence, as a mask. -/
def presentMask (s : State) : Nat := maskOf ((List.range 36).map (domainPresent s))

/-- Blocks that live in a domain: BAR0 ranges (R106, R483). -/
def domainBlocks (d : Nat) : List (Nat × Nat) :=
  if d = 28 then [(0x200000, 0x180000), (0x1800000, 0x60000)]
  else if 8 ≤ d ∧ d ≤ 13 then [(0x800000 + 0x10000 * (d - 8), 0x10000)]
  else if d = 29 then [(0x400000, 0x400000), (0x1000000, 0x800000)]
  else if d = 30 then [(0xB00000, 0x100000), (0x1870000, 0x10000)]
  else if d = 31 then [(0xA00000, 0x100000), (0x1860000, 0x10000)]
  else if d = 32 then [(0xC00000, 0x100000)]
  else if d = 33 then [(0xE00000, 0x100000)]
  else if d = 34 then [(0xD80000, 0x80000)]
  else []

/-- Registers and tallies of a domain's blocks return to reset values (R482). -/
def clearBlocks (s : State) (d : Nat) : State :=
  let inB (off : Nat) : Bool := (domainBlocks d).any (fun b => decide (b.1 ≤ off ∧ off < b.1 + b.2))
  { s with regs := s.regs.filter (fun e => !inB e.1), tallies := s.tallies.filter (fun e => !inB e.1) }

/-- A domain returns to ON from OFF: registers at reset values, and, with an image ACTIVE, its tables from the image
again (R482). -/
def domainFresh (s : State) (d : Nat) : State :=
  let s1 := clearBlocks s d
  if d = 28 then
    let s2 := { s1 with cmp := { s1.cmp with layers := Vector.replicate 16 {}, commits := [], pass := none } }
    if s.img.cfg.isSome then
      (List.range 12).foldl (fun s b => setReg s (0x300010 + 4 * b) ((cfg s).wbGain.getD b 0)) s2
    else s2
  else if 22 ≤ d ∧ d ≤ 25 then
    let l := layerCfg s (d - 22)
    { s1 with cmp := { s1.cmp with
        layers := vset s1.cmp.layers (d - 22) {},
        coef := vset s1.cmp.coef (d - 22) (l.coefs.zipIdx.filterMap (fun e => if e.1 = 0 then none else some (e.2, e.1))) } }
  else if d = 26 then (List.range 6).foldl (fun s g => { s with cmp := { s.cmp with layers := vset s.cmp.layers (4 + g) {} } }) s1
  else if d = 27 then (List.range 6).foldl (fun s g => { s with cmp := { s.cmp with layers := vset s.cmp.layers (10 + g) {} } }) s1
  else if d = 29 then
    { s1 with rck := { s1.rck with
        variant := 0, slotRun := 0, next := none, k := 0, repeats := false, condCommit := false, condBuild := false, lastK := 0,
        store := if s.img.cfg.isSome then #v[some 0, none, none] else #v[none, none, none], issued := [],
        blocks := Vector.replicate 6 (Vector.replicate 16 {}) } }
  else if 8 ≤ d ∧ d ≤ 13 then
    { s1 with plk := vmod s1.plk (d - 8) (fun x => { failedHeld := x.failedHeld }) }
  else if d = 32 then { s1 with hls := { yH := s1.hls.yH, yHStart := s1.hls.yHStart } }
  else if 18 ≤ d ∧ d ≤ 21 then
    { s1 with pbu := { s1.pbu with cache := s1.pbu.cache.filter (fun e => decide (cacheDomain (e.1 / cacheSlotBytes) ≠ d)) } }
  else if d = 31 then (if s.img.cfg.isSome then forN 12 (fun s b => fillTable (bankAt s b).version s b) s1 else s1)
  else if d = 30 then (if s.img.cfg.isSome then { lpeSwitched s1 with lpe := { (lpeSwitched s1).lpe with active := s1.lpe.active } } else s1)
  else if d = 33 then (if s.img.cfg.isSome then audSwitched s1 else { s1 with aud := {} })
  else if d = 34 then { s1 with ver := { s1.ver with region := Vector.replicate 112 {}, mismatch := 0, withheld := 0 } }
  else s1

/-- A domain reaches a state (R482, R435). -/
def setDomain (s : State) (d : Nat) (m : DomMode) : State :=
  let old := vget s.pwr.dom d .off
  let s1 := { s with pwr := { s.pwr with dom := vset s.pwr.dom d m } }
  if m = .on ∧ old = .off then
    (if d ≤ 7 then
      let fresh (x : Chan) : Chan := { x with codes := [0, 0, 0, 0], debt := 0 }
      modChan (modChan s1 (2 * d) fresh) (2 * d + 1) fresh
    else domainFresh s1 d)
  else if d ≤ 7 ∧ m = .on ∧ old = .retain then
    { s1 with mem := { s1.mem with afterReset := s1.mem.afterReset ||| 3 * 4 ^ d } }
  else if d ≤ 7 ∧ m = .off then { s1 with
    dram := [], badWords := [], poisoned := []
    flt := { s1.flt with ext := [] } }
  else s1

/-- The last PWR_SET's result, where its registers keep it (R489): the status, the domain timed out, the duration. -/
def notePwr (s : State) (st : Status) (us : Nat) : State :=
  setReg (setReg s 0x50014 (st.code * 65536 + regN s 0x50014 % 65536)) 0x50018 us

/-- A PWR_SET ends (R485–R487). -/
def pwrEnd (s : State) (r : PwrRun) (st : Status) (cause : Nat) : State :=
  let us := (s.tsc - r.start) / 250
  let s1 := notePwr { s with pwr := { s.pwr with run := none } } st us
  let s2 := postPwr s1 (r.moved ^^^ r.kept) (domCode r.target) cause
  let s3 := if st = .ok then bump s2 0x5001C else s2
  complete s3 r.cmdId st (leBytes 8 r.moved ++ leBytes 4 us)

/-- Longest transition time of a domain in µs (R483). -/
def domainTime (d : Nat) (old new : DomMode) : Nat :=
  let pick (retain wake off on : Nat) : Nat :=
    match old, new with
    | _, .off => off
    | .on, .retain => retain
    | .retain, .on => wake
    | _, _ => on
  if d ≤ 7 then pick 20 1000 50 60000
  else if d ≤ 13 then pick 5 10 10 500
  else if d ≤ 27 then pick 5 10 10 200
  else if d ≤ 29 then pick 10 20 20 500
  else if d ≤ 32 then pick 10 20 20 1000
  else if d = 33 then pick 10 20 20 3000
  else if d = 34 then pick 5 10 10 200
  else pick 10 20 20 500

/-- TSC by which the domain that is moving must report power-good (R485). -/
def domainLimit (s : State) (r : PwrRun) (d : Nat) : Nat :=
  r.since + (2 * domainTime d (vget s.pwr.dom d .off) r.target + 100) * 250

/-- DOMAIN_POWER_GOOD: the domain in motion reaches STATE in time, and the next one starts, or the command completes (R485). -/
def powerGood (s : State) : State :=
  match s.pwr.run with
  | none => s
  | some r =>
    match r.todo with
    | [] => s
    | d :: t =>
      if domainLimit s r d < s.tsc then s else
      let s1 := setDomain s d r.target
      let r1 := { r with todo := t, moved := r.moved ||| 2 ^ d, since := s.tsc }
      if t.isEmpty then pwrEnd s1 r1 .ok 0 else { s1 with pwr := { s1.pwr with run := some r1 } }

/-- DOMAIN_TIMEOUT: the domain in motion has not reported power-good in time (R485). -/
def powerTimeout (s : State) : State :=
  match s.pwr.run with
  | none => s
  | some r =>
    match r.todo with
    | [] => s
    | d :: _ =>
      if s.tsc < domainLimit s r d then s else
      let s1 := setDomain s d .off
      let s2 := report (bump s1 0x50020) { source := 0xB6, address := d, master := d }
      pwrEnd (setReg s2 0x50014 (regN s2 0x50014 / 64 * 64 + d)) r .timeout 2

/-- PWR_SET (R484). -/
def runPwrSet (s : State) (id : Nat) (p : List Byte) : State × Reply :=
  let m := leAt p 0 8
  let st := leAt p 8 1
  let tgt := domOf st
  let named (d : Nat) : Bool := bitAt m d
  let now (d : Nat) : DomMode := vget s.pwr.dom d .off
  let next (d : Nat) : DomMode := if named d then tgt else now d
  let all := List.range 36
  if m = 0 ∨ 2 ^ 36 ≤ m ∨ 2 < st ∨ leAt p 9 7 ≠ 0 then (s, .now .outOfRange [])
  else if all.any (fun d => named d && !domainPresent s d) then (s, .now .unitAbsent [])
  else if s.pwr.run.isSome then (s, .now .busy [])
  else if all.any (fun d => named d && now d == .off && tgt == .retain) then (s, .now .badState [])
  else if all.any (fun d => next d == .on && (domainParent d).elim false (fun q => next q != .on))
      || all.any (fun d => now d == .on && next d != .on && domainInUse s next d) then (s, .now .badState [])
  else if s.img.cfg.isSome && all.any (fun d => now d != next d &&
      ((next d != .on && bitAt (requiredOn (cfg s)) d) || (next d == .retain && !bitAt (retainOk (cfg s)) d)))
    then (s, .now .badState [])
  else
    let todo := domainOrder (tgt == .on) 36 (all.filter (fun d => named d && now d != tgt))
    let done := maskOf (all.map (fun d => named d && now d == tgt))
    let r : PwrRun := { cmdId := id, target := tgt, todo := todo, moved := done, kept := done, start := s.tsc, since := s.tsc }
    if todo.isEmpty then
      let s1 := postPwr (bump (notePwr s .ok 0) 0x5001C) 0 st 0
      (s1, .now .ok (leBytes 8 done ++ leBytes 4 0))
    else ({ s with pwr := { s.pwr with run := some r } }, .later)

end Sys2Proof.Machine
end

