-- ==== Sys2Proof/Machine/VerOps.lean ====
section
/-! DEFINITION. Picture verification (chapter 13): regions, residues, mismatches, freezes and stale content. -/

namespace Sys2Proof.Machine

/-! ### Regions (R406, R413) -/

/-- Output o is present: a port, or the scanner (R406). -/
def verPresent (s : State) (o : Nat) : Bool := if o < 6 then decide (o < nPorts s) else hasHls s

/-- TOPOLOGY enables output o. -/
def verEnabled (s : State) (o : Nat) : Bool :=
  if o < 6 then portEnabled s o else decide ((cfg s).topo.hlsEnable = 1) && hasHls s

/-- Width and height of an output (R413). -/
def verExtent (s : State) (o : Nat) : Nat × Nat :=
  if o < 6 then ((linkCfg s o).width, (linkCfg s o).height) else ((scanCfg s).pixels, (scanCfg s).lines)

/-- BAR0 offset of a region's registers (R413). -/
def regionBase (o r : Nat) : Nat := 0xD81000 + 0x200 * o + 0x20 * r

/-- One region. -/
def regionAt (s : State) (o r : Nat) : Region := vget s.ver.region (16 * o + r) {}

/-- Change one region. -/
def modRegion (s : State) (o r : Nat) (f : Region → Region) : State :=
  { s with ver := { s.ver with region := vmod s.ver.region (16 * o + r) f } }

/-- A region's four registers after a write that takes effect: which one, value. A change of geometry starts the freeze
count afresh and leaves nothing to compare with (R411). -/
def regionApply (g : Region) (k v : Nat) : Region :=
  if k = 0 then { g with ctrl := v }
  else if k = 3 then { g with expect := v }
  else if k = 1 then (if v = g.origin then g else { g with origin := v, freeze := 0, prev := none })
  else (if v = g.size then g else { g with size := v, freeze := 0, prev := none })

/-- What refuses a region write: `k` is 0 CTRL, 1 ORIGIN, 2 SIZE, 3 EXPECT (R413). -/
def regionRangeOk (s : State) (o r k v : Nat) : Bool :=
  let get (i : Nat) : Nat := if i = k then v else regN s (regionBase o r + 4 * i)
  let mode := bits (get 0) 1 0
  let w := bits (get 2) 15 0
  let h := bits (get 2) 31 16
  let e := verExtent s o
  decide (mode ≠ 3) && (decide (mode = 0) || decide (1 ≤ w ∧ 1 ≤ h ∧ bits (get 1) 15 0 + w ≤ e.1 ∧ bits (get 1) 31 16 + h ≤ e.2))

/-- An accepted region write: read back at once, in force from a later take (R406). -/
def regionWrite (s : State) (o r k v : Nat) : State :=
  modRegion (setReg s (regionBase o r + 4 * k) v) o r
    (fun g => { g with writes := g.writes ++ [(s.tsc, k, v)] })

/-- A take at a latch: the region writes that arrived before it come into force (R406). -/
def verTake (s : State) (stamp : Nat) : State :=
  let f (g : Region) : Region :=
    if g.writes.isEmpty then g
    else
      let g1 := (g.writes.filter (fun w => decide (w.1 < stamp))).foldl (fun g w => regionApply g w.2.1 w.2.2) g
      { g1 with writes := g.writes.filter (fun w => !decide (w.1 < stamp)) }
  { s with ver := { s.ver with region := s.ver.region.map f } }

/-- The start of SWITCHED: MODE 0 everywhere, counts and residues cleared (R406). -/
def verSwitched (s : State) : State :=
  let s1 := forN 112 (fun s i =>
    let a := regionBase (i / 16) (i % 16)
    setReg s a (regN s a / 4 * 4)) s
  forN 112 (fun s i =>
    let a := regionBase (i / 16) (i % 16)
    modRegion s (i / 16) (i % 16) (fun _ => {
      ctrl := regN s a, origin := regN s (a + 4), size := regN s (a + 8), expect := regN s (a + 12) }))
    { s1 with ver := { s1.ver with mismatch := 0, withheld := 0 } }

/-! ### Residues (R407) -/

/-- The bytes of a region of a port for a completed pass, in raster order. -/
def portRegionBytes (s : State) (ps : Pass) (o : Nat) (g : Region) : List Byte :=
  let prim := portPrimary s o
  let prims := if prim = 3 then [0, 1, 2] else [prim]
  let x0 := (cfg s).topo.portTile.getD o 0 * (linkCfg s o).width + bits g.origin 15 0
  (List.range (bits g.size 31 16)).flatMap (fun dy =>
    (List.range (bits g.size 15 0)).flatMap (fun dx =>
      prims.flatMap (fun c => leBytes 2 (codeAt s ps (x0 + dx) (bits g.origin 31 16 + dy) c))))

/-- The bytes of a region of the scanner for the values of a highlight pass, line-major. -/
def hlRegionBytes (s : State) (vals : List (List Nat)) (g : Region) : List Byte :=
  let n := (scanCfg s).pixels
  (List.range (bits g.size 31 16)).flatMap (fun dy =>
    (List.range (bits g.size 15 0)).flatMap (fun dx =>
      let v := vals.getD ((bits g.origin 31 16 + dy) * n + bits g.origin 15 0 + dx) []
      leBytes 2 (v.getD 0 0) ++ leBytes 2 (v.getD 1 0) ++ leBytes 2 (v.getD 2 0)))

/-! ### A completed pass (R407–R409) -/

/-- One region of a completed pass: residue recorded, freeze judged. `carried`: the take carries its CHANGED bit. -/
def verRecord (s : State) (o r residue frame : Nat) (carried : Bool) : State :=
  let g := regionAt s o r
  let n := bits g.ctrl 31 16
  let judged := decide (n ≠ 0) && carried && g.prev.isSome
  let cnt := if judged then (if g.prev == some residue then g.freeze + 1 else 0) else g.freeze
  let frozen := judged && decide (n ≤ cnt)
  let s1 := modRegion s o r (fun g => { g with
    last := residue, passFrame := frame % 2 ^ 32, prev := some residue, freeze := if frozen then 0 else cnt })
  if frozen then report (bump s1 0xD80014) { source := 0xA1, master := o, address := r } else s1

/-- Bit `o` of a mask set or cleared. -/
def putBit (m o : Nat) (b : Bool) : Nat := if b then m ||| 2 ^ o else if bitAt m o then m ^^^ 2 ^ o else m

/-- A pass of output `o` completes: residues, mismatches with any armed injection, withholding, freezes. `bytes` gives the
values of a region, `changed` the CHANGED mask of the output, `frame` the FRAME_COUNT of its latch. -/
def verPass (s : State) (o : Nat) (bytes : Region → List Byte) (changed frame : Nat) : State :=
  let on := (List.range 16).filter (fun r => decide (bits (regionAt s o r).ctrl 1 0 ≠ 0))
  let res := on.map (fun r => (r, crc32 (bytes (regionAt s o r))))
  let inj := armedOn s 0xA0 o
  let real := (res.filter (fun e => decide (bits (regionAt s o e.1).ctrl 1 0 = 2 ∧ e.2 ≠ (regionAt s o e.1).expect))).map (·.1)
  let injR := match inj with
    | some i => if real.contains i.address then [] else [i.address]
    | none => []
  let bad := real ++ injR
  let held := bad.any (fun r => decide (r < 16) && bitAt (regionAt s o r).ctrl 2)
  let s1 := match inj with
    | some i => report (disarm s 0xA0) { source := 0xA0, master := o, address := i.address, injected := true, react := i.react }
    | none => s
  let s2 := real.foldl (fun s r => report s { source := 0xA0, master := o, address := r }) s1
  let s3 := bumpBy s2 0xD80010 bad.length
  let s4 := { s3 with ver := { s3.ver with
    mismatch := putBit s3.ver.mismatch o (!bad.isEmpty), withheld := putBit s3.ver.withheld o held } }
  let s5 := if held then bump s4 0xD8001C else s4
  res.foldl (fun s e => verRecord s o e.1 e.2 frame (bitAt changed e.1)) s5

/-- A composer pass completes: every enabled port (R407). -/
def verPortPasses (s : State) (ps : Pass) : State :=
  forN 6 (fun s o =>
    if portEnabled s o then verPass s o (portRegionBytes s ps o) (ps.changed.getD o 0) ps.frame else s) s

/-! ### Stale content (R410) -/

/-- A commit is accepted: the stale episode ends and the time starts afresh. -/
def verCommit (s : State) (arrival : Nat) : State :=
  { s with ver := { s.ver with commitAt := arrival, since := arrival, stale := false } }

/-- STALE: MS milliseconds have passed without an accepted commit. -/
def verStale (s : State) : State :=
  if s.ftgOn && !s.ver.stale
      && decide (bits (regN s 0xD80004) 15 0 ≠ 0 ∧ s.ver.since + bits (regN s 0xD80004) 15 0 * msCycles ≤ s.tsc) then
    let s1 := bump { s with ver := { s.ver with stale := true } } 0xD80018
    post s1 0x0C08 0 (leBytes 4 ((s.tsc - s.ver.commitAt) / msCycles) ++ leBytes 4 s.cmp.commitSeq)
  else s

end Sys2Proof.Machine
end

