-- ==== Sys2Proof/Machine/FltOps.lean ====
section
/-! DEFINITION. The fault collector (chapter 18): classes and reactions, records, fault states and recovery, injection. -/

namespace Sys2Proof.Machine

/-! ### Sources (R491–R495 and the owning chapters) -/

/-- Fixed sources: ID, class, reaction (R493, R495 and the tables of the owning chapters). -/
def fixedSources : List (Nat × Nat × Nat) := [
  (0x00, 1, 3), (0x01, 2, 3), (0x02, 2, 3), (0x10, 0, 0), (0x11, 1, 0), (0x12, 0, 0), (0x16, 0, 0), (0x20, 0, 0),
  (0x22, 1, 0), (0x23, 0, 0), (0x24, 2, 5), (0x26, 2, 0), (0x27, 0, 0), (0x28, 1, 0), (0x29, 0, 0), (0x30, 0, 0),
  (0x31, 1, 0), (0x32, 0, 0), (0x40, 0, 0), (0x41, 1, 0), (0x42, 2, 0), (0x43, 0, 0), (0x50, 0, 0), (0x51, 2, 5),
  (0x52, 1, 0), (0x53, 1, 0), (0x59, 0, 0), (0x60, 1, 0), (0x61, 1, 0), (0x64, 1, 0), (0x66, 2, 1), (0x67, 1, 0)] ++ [
  (0x70, 1, 0), (0x71, 1, 0), (0x73, 1, 0), (0x75, 1, 0), (0x77, 1, 0), (0x83, 1, 0), (0x84, 0, 0), (0x90, 1, 8),
  (0x91, 1, 0), (0x92, 1, 8), (0x94, 1, 8), (0x97, 1, 0), (0xB0, 1, 15), (0xB4, 2, 3), (0xB5, 2, 0), (0xB6, 1, 0),
  (0xC0, 1, 0), (0xC1, 1, 0), (0xC2, 1, 0), (0xC5, 0, 0), (0xC7, 1, 0), (0xD2, 1, 0), (0xD3, 1, 0), (0xF0, 2, 15),
  (0xF1, 0, 0), (0xF2, 2, 7), (0xF3, 2, 15)]

/-- Sources that take class, reaction and quiet period from the fault map. -/
def mapSources : List Nat := [
  0x13, 0x14, 0x15, 0x21, 0x25, 0x2A, 0x33, 0x44, 0x58, 0x5A, 0x62, 0x63, 0x65, 0x72, 0x74, 0x76, 0x78, 0x80, 0x81, 0x82,
  0x93, 0x95, 0x96, 0xA0, 0xA1, 0xB1, 0xB2, 0xB3, 0xC3, 0xC4, 0xC6, 0xD0, 0xD1, 0xFF]

/-- A source that no unit raises on any variant (R491). -/
def neverAsserts (src : Nat) : Bool := !(fixedSources.any (fun e => e.1 == src)) && !mapSources.contains src

/-- A source of a unit the variant lacks (R13): the scanner's, and those of the audio ports. -/
def sourceAbsent (s : State) (src : Nat) : Bool :=
  (decide (0x90 ≤ src ∧ src ≤ 0x97) && !hasHls s) || (decide (0xD0 ≤ src ∧ src ≤ 0xD3) && decide (nAudOut s = 0))

/-- Class, reaction, quiet period and FIXED of a source as they are in force (R493, R505). -/
def sourceCfg (s : State) (src : Nat) : Nat × Nat × Nat × Bool :=
  match fixedSources.find? (fun e => e.1 == src) with
  | some e => (e.2.1, e.2.2, 64, true)
  | none =>
    match s.flt.map with
    | [] => (1, 0, 64, false)
    | l => let e := l.getD src {}
           (e.cls, e.reaction, if e.quiet = 0 then 64 else e.quiet, false)

/-- Change one source. -/
def modSrc (s : State) (src : Nat) (f : Src → Src) : State :=
  { s with flt := { s.flt with srcs := vmod s.flt.srcs src f } }

/-- One source. -/
def srcAt (s : State) (src : Nat) : Src := vget s.flt.srcs src {}

/-- BAR0 offset of a source's registers, by its 8-bit ID (R491, R516). -/
def srcBase (src : Nat) : Nat := 0x41000 + 0x10 * (src % 256)

/-! ### Records (R499–R504) -/

/-- The 32 bytes of a record (R499). -/
def recBytes (r : FaultRec) : List Byte :=
  leBytes 8 r.tsc ++ leBytes 8 r.address ++ leBytes 4 r.seq ++ leBytes 4 r.frameLo ++ leBytes 1 r.source
  ++ leBytes 1 r.cls ++ leBytes 1 r.reaction ++ leBytes 1 r.flags ++ leBytes 2 r.master ++ leBytes 1 r.access
  ++ leBytes 1 r.lengthDw

/-- Reaction bits a report applies (R496, R511). -/
def reactionOf (s : State) (r : Report) : Nat :=
  match r.reactionAs with
  | some v => v
  | none => if r.injected && !r.react then 0 else (sourceCfg s r.source).2.1

/-- The fault state of a source after a record of a class (R505, R507). -/
def enterFault (s : State) (src cls : Nat) : State :=
  modSrc s src (fun x => { x with
    mode := if cls = 0 then x.mode else if cls = 2 || x.mode == .fatal then .fatal else .fault,
    pending := x.pending || decide (cls ≠ 0),
    quiet := if cls = 1 then 0 else x.quiet })

/-- The log takes a record (R503). -/
def logNote (s : State) (r : FaultRec) : State :=
  { s with flt := { s.flt with log := (r :: s.flt.log).take 256, head := r.seq } }

/-- The extension of the log takes a record, over its oldest one when it is full (R503). -/
def extNote (s : State) (r : FaultRec) : State :=
  { s with flt := { s.flt with ext := (r :: s.flt.ext).take 32768 } }

/-- Write a logged record to the log and, while PD0–PD7 are ON, to the extension in DRAM (R503). -/
def logRecord (s : State) (r : FaultRec) : State :=
  let s1 := logNote s r
  if (List.range 8).all (fun d => domainOn s d) then
    let s2 := if s.flt.ext.length = 32768 then bump s1 0x40088 else s1
    wrBytes (extNote s2 r) (reservedBase s + 0x3500000 + 32 * (r.seq % 32768)) (recBytes r)
  else s1

/-- A corrected report of a source that was logged within the last 1 ms coalesces (R502). -/
def coalesces (s : State) (src : Nat) : Bool :=
  decide ((sourceCfg s src).1 = 0) && (match (srcAt s src).lastLogged with
    | some t => decide (s.tsc - t < 250000)
    | none => false)

/-- The record of one report (R499); `several`: the cycle holds two or more. -/
def recordOf (several : Bool) (s : State) (r : Report) : FaultRec :=
  { tsc := s.tsc, address := r.address, seq := if coalesces s r.source then 0 else (s.flt.head + 1) % 2 ^ 32,
    frameLo := s.frame % 2 ^ 32, source := r.source, cls := (sourceCfg s r.source).1, reaction := reactionOf s r,
    flags := b2n r.injected + 2 * b2n r.coincident + 4 * b2n several + 8 * b2n s.flt.first.isNone
      + 16 * b2n (sourceCfg s r.source).2.2.2,
    master := r.master % 65536, access := r.access, lengthDw := r.lengthDw, silent := r.injected && !r.react }

/-- The first-error capture takes the record while it is empty (R501). -/
def captureFirst (s : State) (rc : FaultRec) : State :=
  if s.flt.first.isNone then { s with flt := { s.flt with first := some rc, firstShown := some rc } } else s

/-- Tallies of a report: its source's, those of injected and of coincident ones (R512, R516). -/
def countReport (s : State) (r : Report) : State :=
  let s1 := bump s (srcBase r.source + 8)
  let s2 := if r.injected || r.coincident then bump s1 0x4008C else s1
  if r.coincident then bump s2 0x40090 else s2

/-- The source notes its last record, and enters the fault state of its class; an injection without REACT leaves that
(R505, R507, R511). -/
def noteSource (s : State) (r : Report) (rc : FaultRec) (coal : Bool) : State :=
  let s1 := modSrc s r.source (fun y => { y with
    lastSeq := rc.seq, lastLogged := if coal then y.lastLogged else some s.tsc })
  if r.injected && !r.react then s1 else enterFault s1 r.source rc.cls

/-- A coalesced record is only counted; any other is logged, and posted with its vector (R502–R504, R514). -/
def publish (s : State) (rc : FaultRec) (coal : Bool) : State :=
  if coal then bump s 0x40084
  else
    let s1 := logRecord (bump s 0x40080) rc
    if rc.cls = 0 && !bitAt (regN s1 0x40004) 1 then s1
    else signal (post s1 0x1101 0 (recBytes rc)) (if rc.cls = 0 then 3 else 2)

/-- Make the record of one report (R499–R507). -/
def recordReport (several : Bool) (s : State) (r : Report) : State :=
  let rc := recordOf several s r
  let coal := coalesces s r.source
  publish (noteSource (countReport (captureFirst s rc) r) r rc coal) rc coal

/-! ### Order, coincidence and reactions (R496, R497, R500, R512) -/

/-- Severity of a report (R492). -/
def severity (s : State) (r : Report) : Nat := (sourceCfg s r.source).1

/-- Sources whose reports of one cycle are recorded as they come: the builders', which come by ascending slot (R251, R500). -/
def comesOrdered (src : Nat) : Bool := decide (0x40 ≤ src ∧ src ≤ 0x42)

/-- Whether report `a` is recorded before `b` (R500). -/
def recordsBefore (s : State) (a b : Report) : Bool :=
  decide (severity s b < severity s a ∨ (severity s a = severity s b ∧
    (a.source < b.source ∨ (a.source = b.source ∧ a.master < b.master ∧ comesOrdered a.source = false))))

/-- Insert a report behind those it does not precede. -/
def insertReport (s : State) (r : Report) (l : List Report) : List Report :=
  match l with
  | [] => [r]
  | q :: t => if recordsBefore s r q then r :: q :: t else q :: insertReport s r t

/-- Mark one real report of a source as coincident: the one with the injection's target if there is one, else the first. -/
def markCoincident (l : List Report) (i : Report) : List Report :=
  let exact := fun (r : Report) => r.source == i.source && !r.injected && r.master == i.master && r.address == i.address
  let any := fun (r : Report) => r.source == i.source && !r.injected
  match l.findIdx? exact, l.findIdx? any with
  | some k, _ => l.set k { l.getD k i with coincident := true }
  | none, some k => l.set k { l.getD k i with coincident := true }
  | none, none => l

/-- The reports of a cycle with coincident injections merged into the real ones (R512), in the order of R500. -/
def orderReports (s : State) (l : List Report) : List Report :=
  let merged := l.foldl (fun acc r =>
    if r.injected && l.any (fun q => q.source == r.source && !q.injected) then
      markCoincident (acc.filter (fun q => q != r)) r
    else acc) l
  merged.foldl (fun acc r => insertReport s r acc) []

/-- Apply the combined reactions of a cycle's reports (R496, R497). The thermal stop's record carries reactions already
applied (R479). -/
def applyReactions (s : State) (l : List Report) : State :=
  let act := l.filter (fun r => r.reactionAs.isNone)
  let rs := act.map (fun r => (r, reactionOf s r))
  let has (k : Nat) : Bool := rs.any (fun e => bitAt e.2 k)
  let s1 := match rs.find? (fun e => bitAt e.2 0) with
    | some e => enterSafe s e.1.source (has 1)
    | none => s
  let s2 := if has 2 then parkArrays s1 else s1
  let s3 := if has 3 then parkScanner s2 3 true else s2
  (rs.filter (fun e => bitAt e.2 4)).foldl (fun s e => if e.1.master < 12 then bankOff s e.1.master else s) s3

/-- One round of the collector: the reports in hand are recorded and their reactions applied. -/
def collectOnce (s : State) : State :=
  let l := orderReports s s.reports
  let s1 := l.foldl (recordReport (decide (2 ≤ l.length))) { s with reports := [] }
  applyReactions s1 l

/-- The collector takes every report of the step, and those that its own reactions cause. -/
def collectN (n : Nat) (s : State) : State :=
  match n with
  | 0 => { s with reports := [] }
  | k + 1 => if s.reports.isEmpty then s else collectN k (collectOnce s)

/-- The collector (R497): four rounds, beyond which no reaction raises a report. -/
def collect (s : State) : State := collectN 4 s

/-! ### Leaving a fault state (R505–R507) -/

/-- FAULT_RECOVERED (R514). -/
def postRecovered (s : State) (src cause count : Nat) : State :=
  post2 s 0x1102 0 (leBytes 1 src ++ leBytes 1 cause ++ leBytes 2 0 ++ leBytes 4 count
    ++ leBytes 4 (srcAt s src).lastSeq)

/-- A source leaves FAULT by itself (R505, R506). -/
def recover (s : State) (src cause : Nat) : State :=
  let s1 := bump (modSrc s src (fun x => { x with mode := .clear, quiet := 0 })) (srcBase src + 0xC)
  postRecovered s1 src cause (tally s1 (srcBase src + 0xC))

/-- The exit condition of R506 has come for a source in FAULT. -/
def exitHold (s : State) (src : Nat) : State :=
  if (srcAt s src).mode == .fault then recover s src 1 else s

/-- The sources that leave FAULT on their own condition only (R506). -/
def exitOnly : List Nat := [0x11, 0x61, 0x90, 0x91, 0x92, 0x94, 0xB0]

/-- A re-arm has succeeded: a bank has left SAFE or OPEN for ARMED or PAUSED (R338). -/
def rearmed (before s : State) : Bool :=
  (List.range 12).any (fun b =>
    ((vget before.lsd.bank b {}).mode == .safe || (vget before.lsd.bank b {}).mode == .opened) &&
    ((vget s.lsd.bank b {}).mode == .armed || (vget s.lsd.bank b {}).mode == .paused))

/-- Port failures end when every port that failed is ACTIVE again; the scanner's faults when it runs; the thermal stop's
when its threshold has deasserted and a re-arm has succeeded; the host block's at its reset (R506). Called at the end of
every command. -/
def exitConditions (before s : State) : State :=
  let port61 := (srcAt s 0x61).mode == .fault && (List.range 6).any (fun p =>
      (vget before.plk p {}).mode != .active && (vget s.plk p {}).mode == .active) &&
    (List.range 6).all (fun p => !(vget s.plk p {}).failedHeld)
  let s1 := if port61 then exitHold s 0x61 else s
  let s2 := if before.hls.mode != .running && s.hls.mode == .running then
      [0x90, 0x91, 0x92, 0x94].foldl exitHold s1 else s1
  let s3 := if (before.thm.stop && !s.thm.stop || rearmed before s) && !bitAt (vget s.thm.sensor 0 {}).asserted 3 then
      exitHold s2 0xB0 else s2
  s3

/-- One frame start counts toward the exit of one source (R505, R506). -/
def quietOne (s : State) (src : Nat) : State :=
  let x := srcAt s src
  if x.mode == .fault && !exitOnly.contains src then
    if src = 0 && interlockOpen s then modSrc s src (fun x => { x with quiet := 0 })
    else
      let n := x.quiet + 1
      if (sourceCfg s src).2.2.1 ≤ n then recover s src (if src = 0 then 1 else 0)
      else modSrc s src (fun x => { x with quiet := n })
  else s

/-- A frame start of FTG0, or one counted while it is stopped (R505). -/
def quietTick (s : State) : State := forN 256 quietOne s

/-- 1/24 s, in cycles. -/
def quietCycles : Nat := 41666667

/-- A frame start counted while FTG0 is stopped: 1/24 s after the stop, the power-on reset or the one counted last (R505). -/
def quietFrame (s : State) : State :=
  if !s.ftgOn && decide (s.flt.quietFrom + quietCycles ≤ s.tsc) then
    quietTick { s with flt := { s.flt with quietFrom := s.flt.quietFrom + quietCycles } }
  else s

/-- What blocks the clear of a source's PENDING bit (R507). -/
def clearBlocked (s : State) (src : Nat) : Bool :=
  if src = 0x01 then s.pins.intlkAHigh == s.pins.intlkBHigh
  else if src = 0x24 then s.mem.ch.toList.any (fun c => c.mode == .failed)
  else if src = 0x42 then s.pbu.belowMin
  else if src = 0xB4 then (sensorAt s 0).failed
  else if src = 0xF3 then s.boot.sysclkMissing
  else false

/-- A write of FLT_PENDING_n that a condition of R507 rejects. -/
def pendingRefused (s : State) (n v : Nat) : Bool :=
  (List.range 32).any (fun i => bitAt v i && (srcAt s (32 * n + i)).pending && clearBlocked s (32 * n + i))

/-- An accepted write of FLT_PENDING_n (R507). -/
def pendingClear (s : State) (n v : Nat) : State :=
  forMask 32 v (fun s i =>
    let src := 32 * n + i
    let x := srcAt s src
    if x.pending then
      let s1 := modSrc s src (fun x => { x with pending := false })
      if x.mode == .fatal then postRecovered (modSrc s1 src (fun x => { x with mode := .clear })) src 2 0 else s1
    else s) s

/-- SMB_ALERT_N is asserted (R116, R507). -/
def smbAlert (s : State) : Bool := s.flt.srcs.toList.any (·.pending)

/-! ### Commands (R513) -/

/-- FLT_INJECT's own checks of its payload, at step 6 of R131. -/
def injectPayloadOk (p : List Byte) : Bool :=
  !neverAsserts (byteAt p 0) && decide (byteAt p 1 < 2 ∧ leAt p 4 4 = 0)

/-- FLT_INJECT (R510–R513). -/
def runInject (s : State) (p : List Byte) : State × Reply :=
  let src := byteAt p 0
  let react := bitAt (byteAt p 1) 0
  if !injectPayloadOk p then (s, .now .outOfRange [])
  else if sourceAbsent s src then (s, .now .unitAbsent [])
  else if !bitAt (regN s 0x40004) 0 || inSwitch s then (s, .now .badState [])
  else if (srcAt s src).armed.isSome then (s, .now .busy [])
  else if src = 0x21 ∨ src = 0x40 ∨ src = 0xA0 then
    (modSrc s src (fun x => { x with armed := some { address := leAt p 8 8, master := leAt p 2 2, react := react } }),
     .now .ok (leBytes 4 0))
  else
    let s1 := collect (report s { source := src, address := leAt p 8 8, master := leAt p 2 2, injected := true, react := react })
    (s1, .now .ok (leBytes 4 (srcAt s1 src).lastSeq))

/-- FLT_READ_LOG (R513). -/
def runReadLog (s : State) (p : List Byte) : State × Reply :=
  let q := leAt p 0 4
  match (s.flt.log ++ s.flt.ext).find? (fun r => r.seq == q && decide (q ≠ 0)) with
  | some r => (s, .now .ok (recBytes r))
  | none => (s, .now .outOfRange [])

end Sys2Proof.Machine
end

