-- ==== Sys2Proof/Machine/HmiOps.lean ====
section
/-! DEFINITION. The PCI Express function and the rings of the host message interface (chapter 3): enabling and resetting, doorbells, ring errors, events that wait, vectors, the host watchdog. -/

namespace Sys2Proof.Machine

/-! ### Stopping and starting the rings (R117, R135, R140) -/

/-- The rings stop: unfetched commands, and entries that wait, are discarded, and no version is negotiated. -/
def ringsStop (h : Hmi) : Hmi :=
  { h with
    enabled := false, version := none, cmdHead := 0, cmdTail := 0, cplHead := 0, cplTail := 0, evtHead := 0,
    evtTail := 0, cmdPhase := true, cplPhase := true, evtPhase := true, cplQueue := [], evtQueue := [], episode := false,
    lost := 0, cplUnsig := 0, evtUnsig := 0, dbLog := [] }

/-- Commands already fetched complete without posting (R97, R140). -/
def muteAll (h : Hmi) : Hmi := { h with inFlight := h.inFlight.map (fun f => { f with mute := true }) }

/-- The LTR message that goes with ENABLE, once it has changed (R93). -/
def sendLtr (before s : State) : State :=
  if before.hmi.enabled == s.hmi.enabled then s else emit s (.ltr s.hmi.enabled)

/-- ENABLE is set: every index is 0 and every phase 1 (R117). -/
def hmiEnable (s : State) : State :=
  if s.hmi.enabled then s else sendLtr s { s with hmi := { ringsStop s.hmi with enabled := true } }

/-- ENABLE is cleared (R135, R140). -/
def hmiDisable (s : State) : State := if s.hmi.enabled then sendLtr s { s with hmi := ringsStop s.hmi } else s

/-- HMI_CTRL.RESET, the one exit of fault 0x11 (R140, R506). -/
def hmiReset (s : State) : State :=
  sendLtr s <| exitHold { s with hmi := { muteAll (ringsStop s.hmi) with
    ringErr := none, cmdFailed := false, cplFailed := false, evtFailed := false } } 0x11

/-- A write to HMI_CTRL. -/
def writeHmiCtrl (s : State) (v : Nat) : State :=
  if bitAt v 1 then hmiReset s else if bitAt v 0 then hmiEnable s else hmiDisable s

/-! ### Resets through PCI Express (R97, R98, R517) -/

/-- What a Function Level Reset resets: configuration space, BAR sizes, MSI-X, the HMI block. Commands already fetched
run on and are not posted. -/
def hmiClear (s : State) : State :=
  let keep (e : Nat × Word) : Bool := !decide (0x10000 ≤ e.1 ∧ e.1 < 0x20000)
  { s with
    regs := s.regs.filter keep, tallies := s.tallies.filter keep,
    hmi := { ({} : Hmi) with
      inFlight := (muteAll s.hmi).inFlight, nextId := s.hmi.nextId, linkUp := s.hmi.linkUp } }

/-- A Function Level Reset (R97). -/
def functionReset (s : State) : State := sendLtr s (hmiClear s)

/-- LINK_DOWN, PERST_N (R98, R517). -/
def linkDown (s : State) : State :=
  let s1 := hmiClear s
  report { s1 with hmi := { s1.hmi with linkUp := false } } { source := 0x14 }

/-- The rings may move again: completions that waited, then vectors (R92, R95, R105). -/
def hmiResume (s : State) : State :=
  let s1 := drainCpl s.hmi.cplQueue.length s
  flushVectors s1

/-- PM_STATE_CHANGE (R92). -/
def setPowerState (s : State) (d0 : Bool) : State :=
  let s1 := { s with hmi := { s.hmi with d0 := d0 } }
  if d0 then hmiResume s1 else s1

/-- BUS_MASTER_DISABLE, or Bus Master Enable set again (R95). -/
def setBusMaster (s : State) (on : Bool) : State :=
  let s1 := { s with hmi := { s.hmi with busMaster := on } }
  if on then hmiResume s1 else s1

/-! ### Ring errors and doorbells (R119) -/

/-- Mark a ring as failed: 0 command, 1 completion, 2 event. -/
def failRing (h : Hmi) (ring : Nat) : Hmi :=
  if ring = 0 then { h with cmdFailed := true }
  else if ring = 1 then { h with cplFailed := true, cplQueue := [] }
  else { h with evtFailed := true, evtQueue := [], episode := false }

/-- Whether a ring has failed. -/
def ringFailed (h : Hmi) (ring : Nat) : Bool :=
  if ring = 0 then h.cmdFailed else if ring = 1 then h.cplFailed else h.evtFailed

/-- A ring error: RING, REASON and INDEX in the layout of HMI_RING_ERR (R119, R140). A ring that has failed raises none. -/
def ringError (s : State) (ring reason index : Nat) : State :=
  if ringFailed s.hmi ring then s
  else
    let w := fld 31 30 ring + fld 29 28 reason + fld 15 0 index
    let h := failRing s.hmi ring
    let s1 := { s with hmi := { h with ringErr := some (h.ringErr.getD w) } }
    let s2 := signal (report s1 { source := 0x11 }) 21
    if h.evtFailed then s2 else post s2 0x0003 0 (leBytes 4 w)

/-- The rings run: enabled and free of error (R140). -/
def ringsRun (s : State) : Bool := s.hmi.enabled && s.hmi.ringErr.isNone

/-- The host watchdog restarts (R124). -/
def wdRestart (s : State) : State := { s with hmi := { s.hmi with wdStart := some s.tsc } }

/-- HMI_DB_CMD with a value whose reserved bits are 0 (R119, R124). -/
def doorbellCmd (s : State) (v : Nat) : State :=
  if !s.hmi.enabled then s
  else
    let s1 := wdRestart s
    if cmdSize s ≤ v then ringError s1 0 0 v
    else if v = s.hmi.cmdTail then s1
    else { s1 with hmi := { s1.hmi with cmdTail := v, dbLog := s1.hmi.dbLog ++ [(v, s.tsc)] } }

/-- HMI_DB_CPL: space returns, and completions that waited for it are written (R119, R120). -/
def doorbellCpl (s : State) (v : Nat) : State :=
  if !s.hmi.enabled then s
  else if cplSize s ≤ v then ringError s 1 0 v
  else
    let s1 := { s with hmi := { s.hmi with cplHead := v } }
    drainCpl s1.hmi.cplQueue.length s1

/-- HMI_DB_EVT (R119). -/
def doorbellEvt (s : State) (v : Nat) : State :=
  if !s.hmi.enabled then s
  else if evtSize s ≤ v then ringError s 2 0 v
  else { s with hmi := { s.hmi with evtHead := v } }

/-! ### Events that wait (R121, R139) -/

/-- The oldest queued event is written; the overflow episode ends when none is left. -/
def writeQueued (s : State) : State :=
  match s.hmi.evtQueue with
  | [] => s
  | e :: t =>
    if evtWritable s then
      writeEvt { s with hmi := { s.hmi with evtQueue := t, episode := s.hmi.episode && !t.isEmpty } } e
    else s

/-- EVENTS_LOST goes ahead of the events that remain queued, from version 2.2 (R121). -/
def writeLost (s : State) : State :=
  if verAtLeast s 2 2 && decide (0 < s.hmi.lost) && !s.hmi.evtQueue.isEmpty && evtWritable s then
    writeEvt { s with hmi := { s.hmi with lost := 0 } }
      { code := 0x0001, unit := 0, tsc := s.tsc, payload := leBytes 4 s.hmi.lost }
  else s

/-- EVENT_POST; a write that fails is a ring error (R119): that of the oldest queued event, or with none queued that of
the entry written last (log entry 26). -/
def eventPost (s : State) (failed : Bool) : State :=
  if s.hmi.evtQueue.isEmpty then
    (if failed && s.hmi.enabled then ringError s 2 3 ((s.hmi.evtTail + evtSize s - 1) % evtSize s) else s)
  else if !evtWritable s then s
  else if failed then ringError s 2 3 s.hmi.evtTail
  else writeQueued (writeLost s)

/-- The time field of vector 0 or 1 has elapsed since the first unsignalled entry (R105, R140). -/
def coalesceDue (s : State) (v : Nat) : Bool :=
  let c := regN s 0x10040
  if v = 0 then decide (0 < s.hmi.cplUnsig ∧ s.hmi.cplFirst + 250 * bits c 7 0 ≤ s.tsc)
  else decide (0 < s.hmi.evtUnsig ∧ s.hmi.evtFirst + 250 * bits c 23 16 ≤ s.tsc)

/-- COALESCE_TIMEOUT of vector 0 or 1 (R105). -/
def coalesceTimeout (s : State) (v : Nat) : State :=
  if !verAtLeast s 2 1 || !coalesceDue s v then s
  else if v = 0 then signal { s with hmi := { s.hmi with cplUnsig := 0 } } 0
  else signal { s with hmi := { s.hmi with evtUnsig := 0 } } 1

/-- MSIX_VECTOR_UNMASK (R105). -/
def unmaskVector (s : State) (v : Nat) : State :=
  flushVectors { s with hmi := { s.hmi with msix := vmod s.hmi.msix v (fun e => { e with masked := false }) } }

/-- The host watchdog is on, and TIMEOUT_MS have elapsed since its last restart (R124). -/
def watchdogDue (s : State) : Bool :=
  let ms := regN s 0x10058 % 65536
  decide (ms ≠ 0) && s.hmi.wdStart.elim false (fun t => decide (t + ms * msCycles ≤ s.tsc))

/-- HOST_WATCHDOG: once, until the next restart (R124). -/
def hostWatchdog (s : State) : State :=
  if watchdogDue s then
    report { s with hmi := { s.hmi with wdStart := none } } { source := 0x15 }
  else s

/-- An uncorrectable PCI Express error of the list of R94. -/
def pcieError (s : State) (e : Nat) : State := report (emit s (.aer e)) { source := 0x13 }

end Sys2Proof.Machine
end

