-- ==== Sys2Proof/Machine/FrameOps.lean ====
section
/-! DEFINITION. Frames: alignment groups and readiness, decision points, frame starts, FTG0's start and stop, FTG1, lines, latches, genlock (chapters 1, 8 and 13). -/

namespace Sys2Proof.Machine

/-! ### Segment time (R32, R274, R397) -/

/-- A schedule variant of the running configuration, by directory index. -/
def schedOf (s : State) (v : Nat) : SchedVariant := (cfg s).sched.getD v {}

/-- The running variant; none without an image. -/
def runSched (s : State) : SchedVariant := if s.img.cfg.isSome then schedOf s s.rck.variant else {}

/-- Length of the running segment (R274). -/
def segLength (s : State) : Nat := if s.rck.k = 0 then (runSched s).tmin else (runSched s).delta

/-- The Reckoner issues beads: it runs, and segment time does not stand in a hold (R263, R397). -/
def issuing (s : State) : Bool := s.rck.running && s.ftg.hold.isNone

/-- Segment time runs on: FTG0 is on, does not idle, and no hold stands (R397, R400). -/
def segRuns (s : State) : Bool := s.ftgOn && !s.ftg.idling && s.ftg.hold.isNone

/-- The running segment ends in this cycle (R32). -/
def boundaryDue (s : State) : Bool := segRuns s && decide (s.rck.segStart + segLength s = s.tsc)

/-! ### Streams and groups (R43, R44, R403) -/

/-- Stream s is a present unit: ports 0–5, the scanner 6, audio outputs 7–10, audio input 11. -/
def streamPresent (s : State) (i : Nat) : Bool :=
  if i < 6 then decide (i < nPorts s) else if i = 6 then hasHls s else decide (i < 12) && audPresent s (i - 7)

/-- The image enables stream s (R403). -/
def streamEnabled (s : State) (i : Nat) : Bool :=
  if i < 6 then portEnabled s i else if i = 6 then verEnabled s 6 else audEnabled s (i - 7)

/-- The alignment group of stream s (R43). -/
def streamGroup (s : State) (i : Nat) : Nat :=
  let t := (cfg s).topo
  if i < 6 then t.portGroup.getD i 0 else if i = 6 then t.hlsGroup
  else if i < 11 then t.audOutGroup.getD (i - 7) 0 else t.audInGroup

/-- The members of a group as a mask of streams (R412). -/
def groupMembers (s : State) (g : Nat) : Nat :=
  if s.img.cfg.isSome then maskOf ((List.range 12).map (fun i => streamPresent s i && decide (streamGroup s i = g))) else 0

/-- The pass of the newest take is complete. -/
def passComplete (s : State) : Bool :=
  match s.cmp.pass with
  | some p => p.mode == .complete
  | none => false

/-- Stream s is ready for the pass of the newest take (R403). -/
def streamReady (s : State) (i : Nat) : Bool :=
  if i < 6 then passComplete s && portBuilt s i && !bitAt s.ver.withheld i
  else if i = 6 then s.hls.passDone && !bitAt s.ver.withheld 6
  else audReady s (i - 7)

/-- The enabled streams that are not ready, as a mask (R403, R404). -/
def notReadyMask (s : State) : Nat :=
  maskOf ((List.range 12).map (fun i => streamEnabled s i && !streamReady s i))

/-- Content is pending for a group: it has not shown the pass of the newest take (R44). -/
def groupPending (s : State) (g : Nat) : Bool :=
  s.cmp.pass.isSome && decide (s.ftg.shownTake.getD g 0 ≠ s.cmp.takeNo)

/-- The lead group. -/
def leadGroup (s : State) : Nat := (cfg s).topo.leadGroup

/-! ### Genlock (R394–R402) -/

/-- FTG_SYNC_TIMING.SYNC_LEAD. -/
def syncLead (s : State) : Nat := bits (regN s 0xD00204) 31 16
/-- FTG_SYNC_TIMING.PATH_CYCLES. -/
def pathCycles (s : State) : Nat := bits (regN s 0xD00204) 15 0
/-- FTG_SYNC_HOLD.HOLD_NOM. -/
def holdNom (s : State) : Nat := bits (regN s 0xD00208) 15 0

/-- The code of a genlock state (R412). -/
def syncCode : SyncMode → Nat
  | .free => 0
  | .master => 1
  | .locked => 2
  | .searching => 3

/-- Change the genlock state and post GENLOCK (R400). -/
def setSync (s : State) (m : SyncMode) (cause : Nat) : State :=
  let old := s.ftg.sync
  let s1 := { s with ftg := { s.ftg with sync := m } }
  post s1 0x0C07 0 (leBytes 1 (syncCode m) ++ leBytes 1 (syncCode old) ++ leBytes 1 cause ++ leBytes 1 0
    ++ leBytes 4 (twos 32 s1.ftg.error) ++ leBytes 8 s.frame)

/-- A LOCKED slave loses lock, but for the count of the loss (R400). -/
def lockLost (s : State) (cause : Nat) : State :=
  report (setSync { s with ftg := { s.ftg with realign := false } } .searching cause) { source := 0x58 }

/-- A LOCKED slave loses lock (R400). -/
def loseLock (s : State) (cause : Nat) : State := bump (lockLost s cause) 0xD00378

/-- The master boundary in the slave's TSC for a symbol that arrived at `a` (R399). -/
def symbolTarget (s : State) (a : Nat) : Int := (a : Int) - pathCycles s + syncLead s + 64

/-- The mode written comes into force at a frame start (R402); in mode FREE FSYNC_OUT is low (R394). -/
def takeMode (s : State) : State :=
  let m := bits (regN s 0xD00200) 1 0
  if m = s.ftg.mode then s
  else
    setSync { s with
      ftg := { s.ftg with mode := m, missRun := 0, realign := false, target := none, edges := if m = 0 then [] else s.ftg.edges }
      pins := { s.pins with fsyncOut := if m = 0 then false else s.pins.fsyncOut } }
      (if m = 1 then .master else if m = 2 then .searching else .free) 3

/-- Phase and hold of a frame start (R399): `a` is the arrival of the NEW symbol that caused it. The phase is a 32-bit
value; a loss of lock is counted by the frame start, after its SOF. -/
def phaseHold (s : State) (a : Option Nat) : State :=
  let nom := holdNom s
  if s.ftg.mode = 0 then { s with ftg := { s.ftg with holdNow := 0 } }
  else
    match s.ftg.sync, a with
    | .locked, some t =>
      let eps : Int := signed 32 (twos 32 ((s.tsc : Int) - symbolTarget s t))
      let tol : Int := (syncLead s : Int) - pathCycles s - 64
      let s1 := { s with ftg := { s.ftg with error := eps, holdNow := nom } }
      if tol < eps.natAbs then lockLost s1 1
      else
        let drift := clampI (-(nom : Int)) nom (s.ftg.drift - eps / 4)
        { s1 with ftg := { s1.ftg with
          drift := drift, holdNow := (clampI 0 (2 * (nom : Int)) ((nom : Int) + drift - eps)).toNat } }
    | _, _ => { s with ftg := { s.ftg with holdNow := nom } }

/-! ### Decision points (R33, R34, R396, R398) -/

/-- Evaluate the frame-start conditions now. -/
def evaluate (s : State) : Decision :=
  let nr := notReadyMask s
  let lead := groupPending s (leadGroup s) && decide (nr &&& groupMembers s (leadGroup s) = 0)
  let last := decide (s.rck.k = 15)
  if s.ftg.mode = 2 then
    { newFrame := s.ftg.newArr.isSome || last, bySymbol := s.ftg.newArr.isSome, notReady := nr, takeNo := s.cmp.takeNo }
  else { newFrame := lead || last, bySymbol := false, notReady := nr, takeNo := s.cmp.takeNo }

/-- The decision point of the coming boundary lies in this cycle: 64 cycles before it, in MASTER mode SYNC_LEAD more
(R33, R396). -/
def decisionDue (s : State) : Bool :=
  segRuns s && s.ftg.decided.isNone
    && decide (s.rck.segStart + segLength s = s.tsc + 64 + (if s.ftg.mode = 1 then syncLead s else 0))

/-- A symbol starts on FSYNC_OUT: so many cycles high (R395, R396). -/
def sendSymbol (s : State) (n : Nat) : State :=
  emit { s with
    ftg := { s.ftg with edges := s.ftg.edges ++ [(s.tsc + n, false)] }
    pins := { s.pins with fsyncOut := true } } (.fsync n)

/-- A slave relays a sampled edge of FSYNC_IN, 4 cycles after it (R401). -/
def relayEdge (s : State) (high : Bool) : State :=
  if s.ftg.mode = 2 then { s with ftg := { s.ftg with edges := s.ftg.edges ++ [(s.tsc + 4, high)] } } else s

/-- At each cycle: the edges of FSYNC_OUT that are due. -/
def fsyncTick (s : State) : State :=
  match s.ftg.edges with
  | [] => s
  | (t, high) :: rest =>
    if t ≤ s.tsc then { s with ftg := { s.ftg with edges := rest }, pins := { s.pins with fsyncOut := high } } else s

/-- DECISION_POINT. -/
def decisionPoint (s : State) : State :=
  if decisionDue s then
    let d := evaluate s
    let pend := groupPending s (leadGroup s)
    let s1 := { s with
      rck := { s.rck with condCommit := pend,
                          condBuild := pend && decide (d.notReady &&& groupMembers s (leadGroup s) = 0) },
      ftg := { s.ftg with decided := some d } }
    if s.ftg.mode = 1 then sendSymbol s1 (if d.newFrame then 48 else 16)
    else if s.ftg.mode = 2 then
      let miss := !s.ftg.anySym
      let s2 := { s1 with ftg := { s1.ftg with
        decidedArr := s.ftg.newArr, newArr := none, anySym := false,
        missRun := if miss then s.ftg.missRun + 1 else 0 } }
      let s3 := if miss then bump s2 0xD00374 else s2
      if miss && s3.ftg.sync == .locked && decide (2 ≤ s3.ftg.missRun) then loseLock s3 2 else s3
    else s1
  else s

/-! ### Frame start (R36, R44, R276, R390) -/

/-- FRAME_DONE of the frame that ends at boundary k, and its length (R278, R390). -/
def frameDone (s : State) (k : Nat) : State :=
  let len := (s.tsc - s.ftg.sof) % 2 ^ 32
  let s1 := post s 0x0C04 0 (leBytes 8 s.frame ++ leBytes 4 len ++ leBytes 1 k ++ leBytes 1 s.ftg.repGroups ++ leBytes 2 0)
  { s1 with ftg := { s1.ftg with len := len }, rck := { s1.rck with lastK := k } }

/-- The newest pass is complete for stream i and withheld (R408). -/
def contentWithheld (s : State) (i : Nat) : Bool :=
  bitAt s.ver.withheld i && (if i < 6 then passComplete s else decide (i = 6) && s.hls.passDone)

/-- The streams of a group for which content is pending that are not ready at a frame start (R44, R404). -/
def groupNotReady (s : State) (d : Decision) (g : Nat) : Nat :=
  let all := maskOf ((List.range 12).map (streamEnabled s))
  if groupPending s g then (if d.takeNo = s.cmp.takeNo then d.notReady else all) &&& groupMembers s g else 0

/-- One group at a frame start (R44, R404); the new frame's number is `n`. -/
def groupAdvance (d : Decision) (n : Nat) (s : State) (g : Nat) : State :=
  if groupMembers s g = 0 then s
  else
    let nr := groupNotReady s d g
    if !groupPending s g then { s with ftg := { s.ftg with repGroups := s.ftg.repGroups ||| 2 ^ g } }
    else if nr = 0 then
      { s with ftg := { s.ftg with
        newGroups := s.ftg.newGroups ||| 2 ^ g, shownTake := s.ftg.shownTake.set g s.cmp.takeNo } }
    else
      let first := (firstN 12 (bitAt nr)).getD 0
      let cause := if d.bySymbol && decide (g = leadGroup s) then 2
        else if contentWithheld s first then 1 else 0
      let s1 := post s 0x0C05 0 (leBytes 1 g ++ leBytes 1 first ++ leBytes 2 nr ++ leBytes 1 cause ++ leBytes 3 0 ++ leBytes 8 n)
      report { s1 with ftg := { s1.ftg with repGroups := s1.ftg.repGroups ||| 2 ^ g } } { source := 0x5A, master := g }

/-- What a frame start counts, after its SOF (R390): the frame that ended at boundary k, the underruns of the streams that
were not ready in the state `before`, a loss of lock, and a frame in which a group repeats (R278, R400, R404, R515). -/
def frameTallies (before : State) (k : Option Nat) (d : Decision) (lost : Bool) (s : State) : State :=
  let s1 := match k with
    | some k => bump s (0x400040 + 4 * k)
    | none => s
  let s2 := (List.range 4).foldl (fun s g => forMask 12 (groupNotReady before d g) (fun s i => bump s (0xD00340 + 4 * i)) s) s1
  let s3 := if lost then bump s2 0xD00378 else s2
  if s3.ftg.repGroups = 0 then s3 else bump s3 0x400080

/-- SOF of a generator (R389, R393). -/
def postSof (s : State) (f frame tsc : Nat) : State :=
  if bitAt (regN s (0xD0001C + 0x100 * f)) 0 then
    signal (post s 0x0C01 f (leBytes 8 frame ++ leBytes 8 tsc ++ leBytes 1 s.ftg.newGroups ++ leBytes 1 s.rck.variant
      ++ leBytes 1 s.ftg.kEnd ++ leBytes 1 (syncCode s.ftg.sync) ++ leBytes 4 0)) (if f = 0 then 4 else 6)
  else s

/-- SOB and LINE_MATCH of the line a generator has reached (R389). -/
def lineEvents (s : State) (f line : Nat) : State :=
  let en := regN s (0xD0001C + 0x100 * f)
  let frame := if f = 0 then s.frame else s.ftg.frame1
  let sig (s : State) : State := if f = 0 then signal s 5 else s
  let s1 := if bitAt en 1 && decide (line = (cfg s).canvas.active) then sig (post s 0x0C02 f (leBytes 8 frame)) else s
  if bitAt en 2 && decide (line = if f = 0 then s.ftg.match0 else s.ftg.match1) then
    sig (post s1 0x0C03 f (leBytes 8 frame ++ leBytes 4 line ++ leBytes 1 s.rck.k ++ leBytes 3 0))
  else s1

/-- The running variant of the coming frame, and whether it changes (R276, R283, R285). -/
def variantDue (s : State) : Option VarSel :=
  match s.rck.next with
  | some n => if n.loaded && (n.cause != .degraded || (port s n.port).mode == .active) then some n else none
  | none => none

/-- VARIANT (R286). -/
def postVariant (s : State) (prev cause pt : Nat) : State :=
  post s 0x0701 0 (leBytes 1 s.rck.variant ++ leBytes 1 prev ++ leBytes 1 cause ++ leBytes 1 pt ++ leBytes 1 s.rck.slotRun
    ++ leBytes 3 0 ++ leBytes 8 s.frame)

/-- A variant selected takes effect at the frame start (R276), before the events; the event follows at step 4. -/
def takeVariant (s : State) (v : Option VarSel) : State :=
  match v with
  | some n => { s with rck := { s.rck with variant := n.variant, slotRun := n.slot, next := none } }
  | none => s

/-- VARIANT where it is due, and the RCK_RESTORE that waited (R285, R286). -/
def variantEvents (s : State) (v : Option VarSel) (prev : Nat) : State :=
  let s1 := if s.rck.newImage then
      let s1 := postVariant s (s.rck.lastVariant.getD 255) 2 ((v.map (·.port)).getD 255)
      { s1 with rck := { s1.rck with newImage := false } }
    else
      match v with
      | some n => postVariant s prev (match n.cause with | .degraded => 0 | .restore => 1 | .newImage => 2) n.port
      | none => s
  if s1.rck.variant = 0 ∧ s1.rck.restoreId.isSome then
    completeOpt { s1 with rck := { s1.rck with restoreId := none } } s1.rck.restoreId .ok []
  else s1

/-- What the end of every segment does beside the schedule (R275, R349, R425, chapter 10). -/
def segmentEnd (s : State) (frame : Bool) : State := closeWindows (memBoundary (lsdBoundary s)) frame

/-- FTG1's SOF comes before the frame start it belongs to: FTG1_OFFSET is negative (R380, R388). -/
def sof1Early (s : State) : Bool := decide ((scanCfg s).ftg1Offset < 0)

/-- A frame start so judged shows new content in the scanner's group (R44). -/
def scannerNew (s : State) (d : Decision) : Bool :=
  let g := streamGroup s 6
  d.newFrame && groupPending s g && decide (d.takeNo = s.cmp.takeNo) && decide (d.notReady &&& groupMembers s g = 0)

/-- The planes and fields of the groups that show new content change over (R216, R248, R380, R446). Where FTG1's SOF came
before this frame start, `seen`, it has shown the scanner's new field. -/
def showNew (s : State) (seen : Bool) : State :=
  let new (i : Nat) : Bool := bitAt s.ftg.newGroups (streamGroup s i)
  let shown := (List.range 6).foldl (fun m p => if streamPresent s p && new p then m ^^^ 2 ^ p else m) s.pbu.shown
  let s1 := { s with
    pbu := { s.pbu with shown := shown },
    hls := { s.hls with showNext := if hasHls s && new 6 && !seen then true else s.hls.showNext } }
  let s2 := forN 5 (fun s p => modAud s p (fun x => { x with repeats := streamPresent s (7 + p) && !new (7 + p) })) s1
  if s.ftg.newGroups = 0 then s2
  else
    match s.cmp.pass with
    | some p => showGains s2 p.gains
    | none => s2

/-- A frame starts (R36, R276, R390): `k` is the boundary that ends the frame before, `none` at an FTG0 start. -/
def frameStart (s : State) (k : Option Nat) (d : Decision) : State :=
  let n := (s.frame + 1) % 2 ^ 48
  let s0 := match k with
    | some k => frameDone s k
    | none => s
  let ended := s.frame
  let v := variantDue s0
  let prev := s0.rck.variant
  let s1 := { s0 with ftg := { s0.ftg with repPrev := s0.ftg.repGroups, newGroups := 0, repGroups := 0 } }
  let s2 := (List.range 4).foldl (groupAdvance d n) s1
  let arr := if d.bySymbol then s2.ftg.decidedArr else none
  let s3 := phaseHold (takeMode s2) arr
  let s4 := takeVariant { s3 with
    frame := n,
    ftg := { s3.ftg with
      sof := s.tsc, line := 0, lineAt := s.tsc, kEnd := k.getD 255, match0 := regN s 0xD00018, decided := none, decidedArr := none,
      hold := none, idling := false, realign := false, target := none },
    rck := { s3.rck with
      running := true, k := 0, segStart := s.tsc, repeats := decide (s3.ftg.repGroups ≠ 0), containPorts := 0,
      containPrims := 0, containSlots := 0 },
    cmp := { s3.cmp with latchStamp := none } } v
  let lost := decide (s2.ftg.sync = .locked ∧ s4.ftg.sync = .searching)
  let s5 := showNew (segmentEnd (postSof s4 0 n s.tsc) true) (sof1Early s && s.ftg.decided.isSome)
  let s6 := frameTallies s1 k d lost s5
  let s7 := forN 6 (fun s p => if (port s p).mode == .active then modPort s p (fun x => { x with delivering := true }) else s) s6
  let s8 := variantEvents s7 v prev
  let s9 := releaseRetiring s8 ended
  let s10 := hlsFrameStart (forN 5 audFrame s9)
  let s11 := match s10.cmp.pass with
    | some p => if p.mode == .waiting then restartPass s10 p else s10
    | none => s10
  lineEvents (quietTick s11) 0 0

/-- SEGMENT_BOUNDARY (R274, R277, R400). -/
def segmentBoundary (s : State) : State :=
  if boundaryDue s then
    let d := s.ftg.decided.getD (evaluate s)
    if s.ftg.realign then
      let s1 := forN 6 blocksOff (segmentEnd s false)
      { s1 with ftg := { s1.ftg with idling := true, realign := false, decided := none } }
    else if d.newFrame || decide (s.rck.k = 15) then frameStart s (some s.rck.k) d
    else
      let s1 := segmentEnd s false
      { s1 with rck := { s1.rck with k := s.rck.k + 1, segStart := s.tsc }, ftg := { s1.ftg with decided := none } }
  else s

/-- REALIGNMENT_FRAME_START (R400): the idle ends at the target of the next NEW symbol, and the slave is LOCKED. -/
def realignStart (s : State) : State :=
  if s.ftgOn && s.ftg.idling && decide (s.ftg.target = some s.tsc) then
    let d := { evaluate s with newFrame := true, bySymbol := true }
    let s1 := setSync { s with ftg := { s.ftg with error := 0, drift := 0, missRun := 0, newArr := none } } .locked 0
    let s2 := frameStart { s1 with ftg := { s1.ftg with decidedArr := none } } (some s.rck.k) d
    s2
  else s

/-! ### FTG0 starts and stops (R37, R279, R388, R525, R560) -/

/-- FTG0 may run: an image is CONFIRMED or in TRIAL and no switch is on (R37). -/
def ftgMayRun (s : State) : Bool :=
  s.img.cfg.isSome && !s.ftgOn && !inSwitch s && s.boot.power == .running
  && s.img.appends.all (fun a => a.record.state == .staged || a.record.state == .verified) && decide (9 ≤ s.boot.stage ∧ s.boot.stage ≤ 10)

/-- The pass of the newest take starts again when its content is still pending for a group (R560). -/
def resumePass (s : State) : State :=
  match s.cmp.pass with
  | some p =>
    if (List.range 4).any (fun g => decide (groupMembers s g ≠ 0) && groupPending s g) then
      hlsTake (restartPass s p) p.no (p.layers.getD 15 none) p.pqPeak
    else s
  | none => s

/-- Ports parked by QUIESCED are sent UNPARK at a resumption (R312). -/
def unparkQuiesced (s : State) : State :=
  forN 6 (fun s p =>
    let x := port s p
    if x.mode == .parked && x.cause == 15 then
      sendUnpark (modPort s p (fun x => { x with thenTrain := false })) p
    else s) s

/-- A degraded variant that ran before a stop is selected again (R279, R282). -/
def reselect (s : State) : State :=
  if s.rck.newImage || decide (s.rck.variant = 0) then { s with rck := { s.rck with variant := 0, slotRun := 0 } }
  else
    let p := ((cfg s).sched.getD s.rck.variant {}).port
    { s with rck := { s.rck with
      next := match s.rck.next with
        | some n => some n
        | none => some { variant := s.rck.variant, slot := s.rck.slotRun, port := p, cause := .degraded, loaded := true, at_ := s.tsc },
      variant := 0, slotRun := 0 } }

/-- FTG0 starts: a frame start that ends no frame, judged at this cycle (R36). -/
def ftgStart (s : State) (first : Bool) : State :=
  let s1 := reselect { s with ftgOn := true, lpe := { s.lpe with active := true },
                              ftg := { s.ftg with anySym := false, newArr := none, missRun := 0 },
                              ver := { s.ver with since := s.tsc } }
  let s2 := unparkQuiesced (lsdRampStart s1)
  let s3 := if s2.ftg.mode = 2 ∧ s2.ftg.sync ≠ .searching then setSync s2 .searching 3 else s2
  let s4 := frameStart s3 none { evaluate s3 with newFrame := true, bySymbol := false }
  resumePass (hlsTrialStart (lsdStart s4 first))

/-- FTG0 stops (R279, R388, R560): the running frame ends without FRAME_DONE. -/
def ftgStop (s : State) : State :=
  if s.ftgOn then
    let s1 := closeWindows (stopPass s) false
    { s1 with
      ftgOn := false,
      flt := { s1.flt with quietFrom := s.tsc },
      rck := { s1.rck with running := false, lastVariant := some s1.rck.variant },
      ftg := { s1.ftg with
        on1 := false, hold := none, decided := none, realign := false, idling := false, target := none, newArr := none },
      cmp := { s1.cmp with latchStamp := none, latchWait := none, stoppedAt := s.tsc },
      hls := { s1.hls with pass := none, span := none },
      lsd := { s1.lsd with level := [none, none, none] },
      mem := { s1.mem with ownSlots := true, ownFrom := s.tsc, pause := 0, trains := s1.mem.trains.filter (·.own) } }
  else s

/-! ### FTG1 (R380, R388, R389) -/

/-- The boundary of this cycle, or the one decided for later, starts a frame (R34, R35). -/
def startsFrame (s : State) : Bool :=
  s.ftg.decided.elim false (fun d => d.newFrame || decide (s.rck.k = 15)) && !s.ftg.realign

/-- FTG1's SOF lies in this cycle: FTG1_OFFSET after a frame start, or before one that is decided; at FTG0's start itself
where it would lie before that (R380, R388, R400; log entry 67). -/
def sof1Due (s : State) : Bool :=
  let off := (scanCfg s).ftg1Offset
  s.ftgOn && verEnabled s 6 && s.ftg.hold.isNone && !(s.ftg.on1 && decide (s.ftg.sof1 = s.tsc))
    && (if s.ftg.idling then s.ftg.target.elim false (fun t => decide ((t : Int) + off = s.tsc) && decide (off < 0))
        else if off < 0 then
          (startsFrame s && decide ((s.rck.segStart : Int) + segLength s + off = s.tsc))
          || (!s.ftg.on1 && decide (s.rck.k = 0 ∧ s.rck.segStart = s.tsc))
        else decide (s.rck.k = 0 ∧ (s.rck.segStart : Int) + off = s.tsc))

/-- FTG1_SOF. -/
def ftg1Sof (s : State) : State :=
  if sof1Due s then
    let s1 := if s.ftg.on1 then
        let len := (s.tsc - s.ftg.sof1) % 2 ^ 32
        let s1 := post s 0x0C04 1 (leBytes 8 s.ftg.frame1 ++ leBytes 4 len ++ leBytes 1 s.ftg.kEnd ++ leBytes 1 s.ftg.repPrev
          ++ leBytes 2 0)
        { s1 with ftg := { s1.ftg with len1 := len } }
      else s
    let next := s1.hls.showNext || (sof1Early s && (s.ftg.decided.map (scannerNew s)).getD false)
    let s2 := hlsSof { s1 with
     hls := { s1.hls with showNext := next }
     ftg := { s1.ftg with
      on1 := true, frame1 := s.frame, sof1 := s.tsc, line1 := 0, lineAt1 := s.tsc, match1 := regN s 0xD00118 } }
    lineEvents (postSof s2 1 s.frame s.tsc) 1 0
  else s

/-! ### Lines and latches (R39, R183, R406) -/

/-- A generator's line ends in this cycle, and no SOF of it lies here (R39, R388). -/
def lineDue (s : State) (f : Nat) : Bool :=
  let per := (cfg s).canvas.linePeriod
  let sof := boundaryDue s && startsFrame s
  if f = 0 then segRuns s && decide (s.ftg.lineAt + per = s.tsc) && !sof
  else
    s.ftg.on1 && s.ftg.hold.isNone && decide (s.ftg.lineAt1 + per = s.tsc) && !sof1Due s
      && !(sof && decide ((scanCfg s).ftg1Offset = 0))

/-- LINE_START of FTG0 or FTG1. -/
def lineStart (s : State) (f : Nat) : State :=
  if !lineDue s f then s
  else if f = 0 then
    let l := (s.ftg.line + 1) % 2 ^ 24
    lineEvents { s with ftg := { s.ftg with line := l, lineAt := s.tsc } } 0 l
  else
    let l := (s.ftg.line1 + 1) % 2 ^ 24
    lineEvents { s with ftg := { s.ftg with line1 := l, lineAt1 := s.tsc } } 1 l

/-- The first cycle of LATCH_LINE, a line of the base segment (R39, R54). -/
def latchDue (s : State) : Bool :=
  segRuns s && decide (s.rck.k = 0 ∧ s.rck.segStart + (cfg s).canvas.latchLine * (cfg s).canvas.linePeriod = s.tsc)

/-- The latch with what follows a take: regions, and the highlight pass (R183, R379, R406). -/
def latchAll (s : State) (stamp frame start : Nat) : State :=
  let s1 := latch s stamp frame start
  if s1.cmp.takeNo = s.cmp.takeNo then s1
  else
    match s1.cmp.pass with
    | some p => hlsTake (verTake s1 stamp) p.no (p.layers.getD 15 none) p.pqPeak
    | none => s1

/-- A command that arrived before `stamp` is still to be fetched: a commit may be among them (R96, R181). -/
def underCheck (s : State) (stamp : Nat) : Bool :=
  ringsRun s && s.hmi.cmdHead != s.hmi.cmdTail && s.hmi.dbLog.head?.elim false (fun e => decide (e.2 < stamp))

/-- LATCH_LINE. While commands that arrived before it are still to be fetched, the latch waits for them (R181). -/
def latchLine (s : State) : State :=
  if latchDue s && s.cmp.latchStamp.isNone then
    if underCheck s s.tsc then
      { s with cmp := { s.cmp with latchStamp := some s.tsc, latchWait := some (s.tsc, s.frame, s.cmp.commitSeq) } }
    else latchAll s s.tsc s.frame s.tsc
  else s

/-- A waiting latch is resolved once no command that arrived before it is to be fetched, at most 8 µs after it; the pass
begins now where a commit was still under check at the latch, else at the start of the line (R179, R181). -/
def latchResolve (s : State) : State :=
  match s.cmp.latchWait with
  | some (t, n, seq) =>
    if underCheck s t && decide (s.tsc < t + 2000) then s
    else latchAll s t n (if s.cmp.commitSeq = seq then t else s.tsc)
  | none => s

/-- At each cycle: a latch that has waited 8 µs. -/
def latchTick (s : State) : State :=
  match s.cmp.latchWait with
  | some (t, _, _) => if t + 2000 ≤ s.tsc then latchResolve s else s
  | none => s

/-- CMP_COMMIT: an accepted commit ends a stale episode (R410). -/
def runCommit (s : State) (arrival : Nat) (p : List Byte) : State × Reply :=
  let r := runCommitChecks s arrival p
  if r.1.cmp.commitSeq = s.cmp.commitSeq then r else (verCommit r.1 arrival, r.2)

/-- PASS_COMPLETE (R220, R407), with what the composition stores met during the pass (R203). -/
def passDone (s : State) (store : StoreError) : State :=
  match s.cmp.pass with
  | some p => if p.mode == .running then storeReport (verPortPasses (finishPass s p) p) store 0x32 0x33 else s
  | none => s

/-- HIGHLIGHT_PASS_DONE (R379, R407). `bad` names samples that met an uncorrectable error. -/
def hlPassDone (s : State) (bad : List Nat) : State :=
  match s.hls.pass with
  | some p =>
    let bad := badSamples s bad
    let vals := hlValues s p bad
    let changed := match s.cmp.pass with | some q => q.changed.getD 6 0 | none => 0
    let frame := match s.cmp.pass with | some q => q.frame | none => s.frame
    verPass (hlPassWrite s p bad) 6 (hlRegionBytes s vals) changed frame
  | none => s

/-! ### Symbols and holds (R395, R397, R400, R401) -/

/-- SYMBOL_ARRIVAL: the first high cycle on FSYNC_IN. -/
def symbolArrival (s : State) : State :=
  relayEdge { s with
    ftg := { s.ftg with arrival := some s.tsc },
    pins := { s.pins with fsyncIn := true } } true

/-- SYMBOL_DECODED: the first low cycle after a high run. -/
def symbolDecoded (s : State) : State :=
  match s.ftg.arrival with
  | none => s
  | some a =>
    let run := s.tsc - a
    let s2 := relayEdge { s with
      ftg := { s.ftg with arrival := none },
      pins := { s.pins with fsyncIn := false } } false
    if run < 8 ∨ 63 < run then report (bump s2 0xD00370) { source := 0x59 }
    else if s.ftg.mode = 2 ∧ s.ftgOn = true then
      let isNew := decide (32 ≤ run)
      let s3 := { s2 with ftg := { s2.ftg with anySym := true, newArr := if isNew then some a else s2.ftg.newArr } }
      if isNew && s.ftg.sync == .searching then
        if s.ftg.idling || s.ftg.realign then
          { s3 with ftg := { s3.ftg with target := some (symbolTarget s a).toNat } }
        else { s3 with ftg := { s3.ftg with realign := true } }
      else s3
    else s2

/-- DARK_SPAN takes effect: in a base segment the hold begins (R397). -/
def darkSpan (s : State) : State :=
  if s.rck.k = 0 ∧ 0 < s.ftg.holdNow ∧ s.ftg.hold = none then
    { s with ftg := { s.ftg with hold := some (s.tsc, s.ftg.holdNow) } }
  else s

/-- HOLD_END: the hold has lasted its length, and segment time resumes. -/
def holdEnd (s : State) : State :=
  match s.ftg.hold with
  | some (t, len) =>
    if t + len = s.tsc then
      { s with
        ftg := { s.ftg with hold := none, lineAt := s.ftg.lineAt + len, lineAt1 := s.ftg.lineAt1 + len },
        rck := { s.rck with segStart := s.rck.segStart + len },
        mem := { s.mem with trains := s.mem.trains.filter (fun r => !r.own || s.mem.ownSlots) } }
    else s
  | none => s

/-- READY: the port becomes ACTIVE and posts READY (R312, R405). -/
def portReady (s : State) (p : Nat) : State :=
  let s1 := plkReady s p
  if (port s1 p).mode == .active && (port s p).mode != .active then
    let x := port s1 p
    post s1 0x0C06 p (leBytes 1 x.version ++ leBytes 1 x.lanes ++ leBytes 1 x.half ++ leBytes 5 0 ++ leBytes 8 s.frame)
  else s1

end Sys2Proof.Machine
end

