-- ==== Sys2Proof/Machine/ImgParse.lean ====
section
/-! DEFINITION. Reading an Otkor image (chapter 2): header, section table and every section, from a source of bytes by offset. -/

namespace Sys2Proof.Machine

/-- `n`-byte number at an offset of an image (R16). -/
def num (r : Nat → Byte) (off n : Nat) : Nat := leNat ((List.range n).map (fun i => r (off + i)))

/-- `n`-byte signed number at an offset of an image. -/
def snum (r : Nat → Byte) (off n : Nat) : Int := signed (8 * n) (num r off n)

/-- `cnt` numbers of `n` bytes in a row. -/
def nums (r : Nat → Byte) (off n cnt : Nat) : List Nat := (List.range cnt).map (fun i => num r (off + n * i) n)

/-- `cnt` signed numbers of `n` bytes in a row. -/
def snums (r : Nat → Byte) (off n cnt : Nat) : List Int := (List.range cnt).map (fun i => snum r (off + n * i) n)

/-- The bytes of a range. -/
def bytesOf (r : Nat → Byte) (off n : Nat) : List Byte := (List.range n).map (fun i => r (off + i))

/-- A range holds only zeros. -/
def zerosAt (r : Nat → Byte) (off n : Nat) : Bool := (List.range n).all (fun i => r (off + i) == 0)

/-! ### Header and section table (R47–R51) -/

/-- FORMAT. -/
def imgFormat (r : Nat → Byte) : Nat := num r 4 2

/-- Header length of a format (R51). -/
def hdrSize (r : Nat → Byte) : Nat := if imgFormat r = 2 then 32 else 64

/-- Section table entry length of a format (R51). -/
def entSize (r : Nat → Byte) : Nat := if imgFormat r = 2 then 12 else 16

/-- IMAGE_LENGTH. -/
def imgLength (r : Nat → Byte) : Nat := num r 16 4

/-- SECTION_COUNT. -/
def secCount (r : Nat → Byte) : Nat := num r 14 2

/-- A section table entry (R48). -/
structure SecEnt where
  id : Nat
  ver : Nat
  off : Nat
  len : Nat
  crc : Nat
deriving DecidableEq, Repr

/-- The section table; an image has at most 32 entries. -/
def secEnts (r : Nat → Byte) : List SecEnt :=
  (List.range (min 32 (secCount r))).map (fun i =>
    let a := hdrSize r + entSize r * i
    { id := num r a 2, ver := num r (a + 2) 2, off := num r (a + 4) 4, len := num r (a + 8) 4,
      crc := if imgFormat r = 2 then 0 else num r (a + 12) 4 })

/-- A section by its ID. -/
def secOf (r : Nat → Byte) (id : Nat) : Option SecEnt := (secEnts r).find? (fun e => e.id == id)

/-- Offset of a section. -/
def secOff (r : Nat → Byte) (id : Nat) : Nat := (secOf r id).elim 0 (·.off)

/-- Length of a section, 0 when it is absent. -/
def secLen (r : Nat → Byte) (id : Nat) : Nat := (secOf r id).elim 0 (·.len)

/-- The packed version of an image (R88). -/
def imgVersion (r : Nat → Byte) : Nat := num r 8 1 * 2 ^ 24 + num r 9 1 * 2 ^ 16 + num r 10 2

/-! ### Sections (R52–R66) -/

/-- TOPOLOGY (R52). -/
def parseTopo (r : Nat → Byte) (o : Nat) : Topo :=
  { part := num r o 2, portEnable := num r (o + 2) 1, leadGroup := num r (o + 3) 1, portGroup := nums r (o + 4) 1 6,
    portPrimary := nums r (o + 10) 1 6, portTile := nums r (o + 16) 1 6, hlsEnable := num r (o + 22) 1,
    hlsGroup := num r (o + 23) 1, audOutGroup := nums r (o + 24) 1 4, audInGroup := num r (o + 28) 1,
    videoMask := num r (o + 29) 1, gfxMask := num r (o + 30) 2, bankMask := num r (o + 32) 2,
    bankPrimary := nums r (o + 34) 1 12 }

/-- One LINKS record (R53). -/
def parseLink (r : Nat → Byte) (o : Nat) : LinkCfg :=
  { nomVersion := num r o 1, degradedVariant := num r (o + 1) 1, width := num r (o + 2) 2, height := num r (o + 4) 2,
    blockRows := num r (o + 6) 2, bpNominal := num r (o + 8) 2, bpDegraded := num r (o + 10) 2,
    settleMaxNs := num r (o + 12) 4,
    laneMap := (List.range 16).map (fun n => (num r (o + 16) 8 / 16 ^ n) % 16) }

/-- CANVAS (R54). -/
def parseCanvas (r : Nat → Byte) (o : Nat) : CanvasCfg :=
  { width := num r o 2, height := num r (o + 2) 2, linePeriod := num r (o + 4) 4, active := num r (o + 8) 2,
    vblank := num r (o + 10) 2, deltaLines := num r (o + 12) 2, latchLine := num r (o + 14) 2,
    fetchAllotment := num r (o + 16) 4, carryEnable := num r (o + 20) 1 }

/-- One LAYERS record with its coefficient block (R55, R188). -/
def parseLayer (r : Nat → Byte) (sec o : Nat) : LayerCfg :=
  let c := num r (o + 8) 4
  { maxSrcW := num r o 2, maxSrcH := num r (o + 2) 2, formatMask := num r (o + 4) 2, z := num r (o + 6) 1,
    flags := num r (o + 7) 1, coefOffset := c, coefs := if c = 0 then [] else snums r (sec + c) 2 1792 }

/-- One COLOUR layer record with its loaded table (R56, R208). -/
def parseColour (r : Nat → Byte) (sec o : Nat) : ColourCfg :=
  let t := num r o 1
  let l := num r (o + 40) 4
  { transfer := t, primaries := num r (o + 1) 1, matrix := snums r (o + 4) 4 9, lutOffset := l,
    lut := if t = 5 then nums r (sec + l) 2 4097 else [] }

/-- Place-value entries (R223). -/
def parsePv (r : Nat → Byte) (o n : Nat) : List PvEntry :=
  (List.range n).map (fun i =>
    { codeBit := num r (o + 4 * i) 1, level := num r (o + 4 * i + 1) 1, duration := num r (o + 4 * i + 2) 2 })

/-- One place-value set (R223). Counts beyond the limits of R223 are cut off one past the limit. -/
def parsePvSet (r : Nat → Byte) (sec o : Nat) : PvSet :=
  { tableBp := num r (o + 12) 2, extUnit := num r (o + 14) 2,
    base := parsePv r (sec + num r (o + 4) 4) (min 65 (num r o 2)),
    ext := parsePv r (sec + num r (o + 8) 4) (min 65 (num r (o + 2) 2)) }

/-- Beads (R263). -/
def parseBeads (r : Nat → Byte) (o n : Nat) : List Bead :=
  (List.range n).map (fun i =>
    let a := o + 16 * i
    { time := num r a 4, rod := num r (a + 4) 1, action := num r (a + 5) 1, target := num r (a + 6) 1, arg := num r (a + 8) 8 })

/-- One schedule variant (R57). -/
def parseVariant (r : Nat → Byte) (sec o : Nat) : SchedVariant :=
  { kind := num r o 1, port := num r (o + 1) 1, tmin := num r (o + 4) 4, delta := num r (o + 8) 4,
    base := parseBeads r (sec + num r (o + 12) 4) (num r (o + 16) 4),
    ext := parseBeads r (sec + num r (o + 20) 4) (num r (o + 24) 4) }

/-- One build table (R58). -/
def parseBuild (r : Nat → Byte) (sec o : Nat) : BuildTable :=
  let t := sec + num r (o + 4) 4
  { active := num r o 1, buildNs := num r (o + 8) 4,
    tiles := (List.range (num r (o + 2) 2)).map (fun i =>
      let a := t + 8 * i
      { port := num r a 1, band := num r (a + 1) 1, slot := num r (a + 2) 1, seq := num r (a + 3) 1,
        cacheMask := num r (a + 4) 2 }) }

/-- One DRAM_PLAN record (R59). -/
def parseStream (r : Nat → Byte) (o : Nat) : StreamCfg :=
  { stream := num r o 1, base := num r (o + 8) 8, size := num r (o + 16) 8, bytesPerFrame := num r (o + 24) 8 }

/-- One LOOPS record (R60). -/
def parseLoop (r : Nat → Byte) (o : Nat) : LoopCfg :=
  { kind := num r o 1, form := num r (o + 1) 1, input := num r (o + 2) 1, target := num r (o + 3) 1,
    coefA := snums r (o + 4) 4 7, coefB := snums r (o + 32) 4 7, outMin := snum r (o + 60) 4, outMax := snum r (o + 64) 4,
    slew := num r (o + 68) 4, residThresh := num r (o + 72) 4, residTicks := num r (o + 76) 2, modelTau := num r (o + 78) 2,
    oscEnable := num r (o + 80) 1, oscCount := num r (o + 81) 1, oscAmpl := num r (o + 82) 2, oscWindow := num r (o + 84) 2 }

/-- LIGHT (R61). -/
def parseLight (r : Nat → Byte) (o : Nat) : LightCfg :=
  { levelCount := num r o 1, dlinkMinVer := num r (o + 1) 1, diagPulse := num r (o + 2) 1, colourLock := num r (o + 3) 1,
    knee := snum r (o + 4) 2, derateSlope := num r (o + 6) 2, rampMs := num r (o + 8) 2, ceiling := nums r (o + 12) 2 12,
    levelCode := nums r (o + 36) 2 192 }

/-- SCANNER with its tables (R62, R382). -/
def parseScan (r : Nat → Byte) (o : Nat) : ScanCfg :=
  let px := num r (o + 8) 2
  let ln := num r (o + 10) 2
  { fMin := num r o 4, fMax := num r (o + 4) 4, pixels := px, lines := ln, ftg1Offset := snum r (o + 24) 4,
    timing := nums r (o + num r (o + 12) 4) 2 (2 * px + 2),
    samples := (List.range (px * ln)).map (fun i =>
      (num r (o + num r (o + 16) 4 + 4 * i) 2, num r (o + num r (o + 16) 4 + 4 * i + 2) 2)),
    samplesAt := o + num r (o + 16) 4, slow := nums r (o + num r (o + 20) 4) 2 ln }

/-- One AUDIO record (R63). -/
def parseAud (r : Nat → Byte) (o : Nat) : AudCfg :=
  { enable := num r o 1, format := num r (o + 1) 1, wordBits := num r (o + 2) 1, chMask := num r (o + 3) 1,
    fsHz := num r (o + 4) 4, ringBytes := num r (o + 8) 4, presOffset := snum r (o + 12) 4 }

/-- One CAL_LIMITS record (R66). -/
def parseCal (r : Nat → Byte) (o : Nat) : CalLimit :=
  { channel := num r o 1, offsetMin := snum r (o + 2) 2, offsetMax := snum r (o + 4) 2, gainMin := num r (o + 6) 2,
    gainMax := num r (o + 8) 2, residMax := num r (o + 10) 2 }

/-- The whole image as the device holds it. -/
def parseImage (r : Nat → Byte) : ImageCfg :=
  let lay := secOff r 4
  let col := secOff r 5
  let pv := secOff r 6
  let sch := secOff r 7
  let bt := secOff r 8
  let dp := secOff r 9
  {
    version := imgVersion r, format := imgFormat r, keyIndex := num r (secOff r 0x11) 1, targetPart := num r 12 2,
    topo := parseTopo r (secOff r 1),
    links := (List.range 6).map (fun p => parseLink r (secOff r 2 + 32 * p)),
    canvas := parseCanvas r (secOff r 3),
    layers := (List.range 16).map (fun i => parseLayer r lay (lay + 16 * i)),
    colour := (List.range 16).map (fun i => parseColour r col (col + 64 * i)),
    wbGain := nums r (col + 1024) 4 12,
    pv := (List.range (min 17 (num r pv 2))).map (fun i => parsePvSet r pv (pv + 16 + 16 * i)),
    sched := (List.range (min 17 (num r sch 2))).map (fun i => parseVariant r sch (sch + 16 + 32 * i)),
    minActive := num r (bt + 1) 1,
    builds := (List.range (num r bt 1)).map (fun i => parseBuild r bt (bt + 4 + 16 * i)),
    plan := (List.range (num r dp 2)).map (fun i => parseStream r (dp + 16 + 32 * i)),
    plannedRate := num r (dp + 8) 8,
    loops := (List.range 24).map (fun i => parseLoop r (secOff r 10 + 96 * i)),
    light := parseLight r (secOff r 11),
    scan := if (secOf r 12).isSome && decide (num r (secOff r 1 + 22) 1 = 1) then some (parseScan r (secOff r 12)) else none,
    audio := if (secOf r 13).isSome then (List.range 5).map (fun i => parseAud r (secOff r 13 + 16 * i)) else [],
    faultMap := (List.range 256).map (fun i =>
      let a := secOff r 14 + 4 * i
      { cls := num r a 1, reaction := num r (a + 1) 1, quiet := num r (a + 2) 2 }),
    requiredOn := if imgFormat r = 3 then num r (secOff r 15) 8 else 0,
    retainOk := if imgFormat r = 3 then num r (secOff r 15 + 8) 8 else 0,
    calLimits := if imgFormat r = 3 then
        some ((List.range (num r (secOff r 16) 2)).map (fun i => parseCal r (secOff r 16 + 16 + 16 * i)))
      else none }

end Sys2Proof.Machine
end

