-- ==== Sys2Proof/Machine/ImgCheck.lean ====
section
/-! DEFINITION. The checks of an Otkor image (R69, steps 1–10): container, signature, sections, schedules at bead level, budgets, power. Among several failures at one step the lowest section ID is reported (DESIGN CHOICE, log entry 20). -/

namespace Sys2Proof.Machine

/-- What a failed check reports (R69, R88): step, status, section. -/
structure CheckFail where
  step : Nat
  code : Status
  section_ : Nat
deriving DecidableEq, Repr

/-- The lowest section ID of the conditions that fail (log entry 20). -/
def firstFail (l : List (Nat × Bool)) : Option Nat :=
  l.foldl (fun m e => if e.2 then m else some (m.elim e.1 (min e.1))) none

/-- A step of R69 from its conditions. -/
def checkStep (n : Nat) (st : Status) (l : List (Nat × Bool)) : Option CheckFail :=
  (firstFail l).map (fun sec => { step := n, code := st, section_ := sec })

/-- Whether all elements of a list differ. -/
def distinct {α : Type} [DecidableEq α] (l : List α) : Bool :=
  match l with
  | [] => true
  | a :: t => !t.contains a && distinct t

/-- Consecutive elements all stand in a relation. -/
def chained {α : Type} (p : α → α → Bool) (l : List α) : Bool :=
  match l with
  | [] => true
  | [_] => true
  | a :: b :: t => p a b && chained p (b :: t)

/-! ### Steps 1 to 6: the container (R46–R51, R67–R69) -/

/-- Step 1: the length, and the length a command gives. -/
def lengthOk (r : Nat → Byte) (cmdLen : Option Nat) : Bool :=
  decide (4096 ≤ imgLength r ∧ imgLength r ≤ 0x1000000) && cmdLen.elim true (· == imgLength r)

/-- Step 2: magic and header CRC (R47, R51). -/
def headerOk (r : Nat → Byte) : Bool :=
  let at_ := if imgFormat r = 2 then 28 else 60
  decide (num r 0 4 = 0x524B544F) && decide (crc32 (bytesOf r 0 at_) = num r at_ 4)

/-- A section ID the format allows (R49–R51). -/
def idAllowed (fmt id : Nat) : Bool :=
  (decide (1 ≤ id ∧ id ≤ 0x11) && !(fmt == 2 && (id == 15 || id == 16))) || decide (0x100 ≤ id ∧ id ≤ 0x7FFF)

/-- The table end: sections start at or after it. -/
def tableEnd (r : Nat → Byte) : Nat := hdrSize r + entSize r * secCount r

/-- Sections in ascending order, 64-byte aligned, without overlap, zero padding between (R46, R49). -/
def secOrder (r : Nat → Byte) (pos : Nat) (l : List SecEnt) : List (Nat × Bool) :=
  match l with
  | [] => []
  | e :: t => (e.id, decide (e.off % 64 = 0 ∧ pos ≤ e.off ∧ e.off + e.len ≤ imgLength r)
      && zerosAt r pos (e.off - pos)) :: secOrder r (e.off + e.len) t

/-- Sections an image needs (R50). -/
def secNeeded (s : State) (r : Nat → Byte) : List Nat :=
  [1, 2, 3, 4, 5, 6, 7, 8, 9, 10, 11]
  ++ (if num r (secOff r 1 + 22) 1 ≠ 0 then [12] else [])
  ++ (if nAudOut s ≠ 0 ∨ hasAudIn s = true then [13] else []) ++ [14]
  ++ (if imgFormat r = 3 then [15, 16] else []) ++ [17]

/-- Step 4 (R46–R50). -/
def structureChecks (s : State) (r : Nat → Byte) : List (Nat × Bool) :=
  let ents := secEnts r
  [(0, decide (num r 6 2 = hdrSize r ∧ num r 20 4 = hdrSize r ∧ 1 ≤ secCount r ∧ secCount r ≤ 32)
      && decide (tableEnd r ≤ imgLength r)),
   (0, distinct (ents.map (·.id)))]
  ++ ents.map (fun e => (e.id, idAllowed (imgFormat r) e.id))
  ++ secOrder r (tableEnd r) ents
  ++ (secNeeded s r).map (fun id => (id, (secOf r id).isSome))
  ++ [(17, ents.getLast?.elim false (fun e => e.id == 17 && e.len == 256 && e.off + e.len == imgLength r))]

/-- Step 5 (R48). -/
def crcChecks (r : Nat → Byte) : List (Nat × Bool) :=
  if imgFormat r = 3 then
    ((secEnts r).filter (·.id != 17)).map (fun e => (e.id, decide (crc32 (bytesOf r e.off e.len) = e.crc)))
  else []

/-- Step 6: the signature (R67, R68). -/
def signatureOk (s : State) (r : Nat → Byte) : Bool :=
  let o := secOff r 17
  let k := num r o 1
  let key := bytesOf r (o + 16) 97
  decide (k < 4) && (vget s.fuse.keyHash k none == some (Config.sha384 key)) && !s.fuse.revoked.getLsbD k
    && Config.ecdsaVerifies key (bytesOf r (o + 128) 48) (bytesOf r (o + 176) 48) (Config.sha384 (bytesOf r 0 o))

/-! ### Step 7: the variant (R12, R52, R63) -/

/-- TARGET_PART, TOPOLOGY and AUDIO against the variant. -/
def variantChecks (s : State) (r : Nat → Byte) (c : ImageCfg) : List (Nat × Bool) :=
  let t := c.topo
  [(0, decide (c.targetPart = partCode s.fuse.variant)),
   (1, decide (t.portEnable < 2 ^ nPorts s ∧ t.videoMask < 2 ^ nVideo s ∧ t.gfxMask < 2 ^ nGfx s
        ∧ t.bankMask < 2 ^ nBanks s)
      && (List.range 6).all (fun p => decide (p < nPorts s) || t.portGroup.getD p 0 == 0xFF)
      && (hasHls s || (t.hlsEnable == 0 && t.hlsGroup == 0xFF))
      && (List.range 4).all (fun i => decide (i < nAudOut s) || t.audOutGroup.getD i 0 == 0xFF)
      && (hasAudIn s || t.audInGroup == 0xFF)),
   (13, (secOf r 13).isNone || (List.range 5).all (fun i => audPresent s i || (c.audio.getD i {}).enable == 0))]

/-! ### Step 8: field encodings and ranges -/

/-- Enabled ports of an image. -/
def portsOf (c : ImageCfg) : List Nat := (List.range 6).filter (fun p => bitAt c.topo.portEnable p)

/-- Enabled banks of an image. -/
def banksOf (c : ImageCfg) : List Nat := (List.range 12).filter (fun b => bitAt c.topo.bankMask b)

/-- TOPOLOGY (R43, R52). -/
def topoOk (s : State) (r : Nat → Byte) (c : ImageCfg) : Bool :=
  let t := c.topo
  decide (secLen r 1 = 64 ∧ t.part = c.targetPart ∧ t.leadGroup ≤ 3 ∧ t.hlsEnable ≤ 1)
  && (List.range 6).all (fun p => !decide (p < nPorts s) || decide (t.portGroup.getD p 0 ≤ 3))
  && (!hasHls s || decide (t.hlsGroup ≤ 3))
  && (List.range 4).all (fun i => !decide (i < nAudOut s) || decide (t.audOutGroup.getD i 0 ≤ 3))
  && (!hasAudIn s || decide (t.audInGroup ≤ 3))
  && t.portPrimary.all (fun v => decide (v ≤ 2) || (v == 3 && s.fuse.variant == .gna6410))
  && t.portTile.all (fun v => decide (v ≤ 1)) && t.bankPrimary.all (fun v => decide (v ≤ 2))
  && zerosAt r (secOff r 1 + 46) 18
  && (portsOf c).any (fun p => t.portGroup.getD p 0 == t.leadGroup)

/-- LINKS: the records of enabled ports (R53). -/
def linksOk (r : Nat → Byte) (c : ImageCfg) : Bool :=
  decide (secLen r 2 = 192) && (portsOf c).all (fun p =>
    let l := c.links.getD p {}
    decide (1 ≤ l.nomVersion ∧ l.nomVersion ≤ 2 ∧ 64 ≤ l.width ∧ l.width ≤ 4096 ∧ 1 ≤ l.blockRows
      ∧ l.height = 16 * l.blockRows ∧ l.height ≤ 2304)
    && (l.degradedVariant != 0xFF || l.bpDegraded == 0)
    && distinct l.laneMap && zerosAt r (secOff r 2 + 32 * p + 24) 8)

/-- Tmin and Δ of CANVAS (R38). -/
def canvasTmin (v : CanvasCfg) : Nat := (v.active + v.vblank) * v.linePeriod

/-- CANVAS (R54, R32, R38). -/
def canvasOk (r : Nat → Byte) (c : ImageCfg) : Bool :=
  let v := c.canvas
  let d := v.deltaLines * v.linePeriod
  decide (secLen r 3 = 32 ∧ 64 ≤ v.width ∧ v.width ≤ 8192 ∧ v.width % 8 = 0 ∧ 64 ≤ v.height ∧ v.height ≤ 2304
    ∧ 1 ≤ v.deltaLines ∧ v.latchLine < v.active + v.vblank ∧ v.carryEnable ≤ 1)
  && decide (1041666 ≤ canvasTmin v ∧ canvasTmin v + 15 * d ≤ 41666667 ∧ 64 ≤ d)
  && zerosAt r (secOff r 3 + 21) 11

/-- A layer that TOPOLOGY enables. -/
def layerOn (c : ImageCfg) (l : Nat) : Bool := if l < 4 then bitAt c.topo.videoMask l else bitAt c.topo.gfxMask (l - 4)

/-- One LAYERS record (R55, R188). -/
def layerOk (s : State) (r : Nat → Byte) (c : ImageCfg) (i : Nat) : Bool :=
  let l := c.layers.getD i {}
  let o := secOff r 4 + 16 * i
  if layerPresent s i then
    decide (l.formatMask < 32 ∧ l.z ≤ 15 ∧ l.flags < (if i = 15 then 4 else 2)) && zerosAt r (o + 12) 4
    && (if i < 4 then
          (l.coefOffset == 0 && !layerOn c i)
            || decide (l.coefOffset ≠ 0 ∧ l.coefOffset % 2 = 0 ∧ l.coefOffset + 3584 ≤ secLen r 4)
        else l.coefOffset == 0)
  else zerosAt r o 16

/-- LAYERS (R55). -/
def layersOk (s : State) (r : Nat → Byte) (c : ImageCfg) : Bool :=
  decide (256 ≤ secLen r 4) && (List.range 16).all (layerOk s r c)
  && distinct (((List.range 16).filter (layerOn c)).map (fun i => (c.layers.getD i {}).z))

/-- The identity matrix of R213. -/
def identityMatrix : List Int := [0x10000000, 0, 0, 0, 0x10000000, 0, 0, 0, 0x10000000]

/-- COLOUR (R56, R208, R213). -/
def colourOk (r : Nat → Byte) (c : ImageCfg) : Bool :=
  decide (1088 ≤ secLen r 5) && (List.range 16).all (fun i =>
    let l := c.colour.getD i {}
    let o := secOff r 5 + 64 * i
    decide (l.transfer ≤ 5 ∧ l.primaries ≤ 2) && (l.primaries != 2 || l.matrix == identityMatrix)
    && (if l.transfer = 5 then decide (l.lutOffset % 2 = 0 ∧ l.lutOffset + 8194 ≤ secLen r 5) else l.lutOffset == 0)
    && zerosAt r (o + 2) 2 && zerosAt r (o + 44) 20)
  && zerosAt r (secOff r 5 + 1072) 16

/-- Weight of a code bit in entries counted in units of `u` cycles, in 2⁻¹⁵ cycles at level 0 (R224). -/
def pvWeight (l : List PvEntry) (u b : Nat) : Nat :=
  ((l.filter (fun e => e.codeBit == b)).map (fun e => e.duration * u * 2 ^ (15 - e.level))).sum

/-- W_base(b) of a set. -/
def wBase (p : PvSet) (b : Nat) : Nat := pvWeight p.base p.tableBp b

/-- W_ext(b) of a set. -/
def wExt (p : PvSet) (b : Nat) : Nat := pvWeight p.ext p.extUnit b

/-- BP of a port in a variant (R42, R53, check 6 of R284). -/
def variantBp (c : ImageCfg) (v : SchedVariant) (p : Nat) : Nat :=
  let l := c.links.getD p {}
  if v.kind = 1 ∧ v.port = p then l.bpDegraded else l.bpNominal

/-- An entry of a place-value table (check 1 of R226). -/
def pvEntryOk (c : ImageCfg) (e : PvEntry) : Bool :=
  decide (e.codeBit ≤ 15 ∧ e.level < c.light.levelCount ∧ e.level ≤ 15 ∧ 1 ≤ e.duration ∧ e.duration ≤ 4096)

/-- The checks of R226 on set i. -/
def pvSetOk (c : ImageCfg) (i : Nat) : Bool :=
  let p := c.pv.getD i {}
  let v := c.sched.getD i {}
  let p0 := c.pv.getD 0 {}
  let v0 := c.sched.getD 0 {}
  let present (b : Nat) : Bool := p.ext.any (fun e => e.codeBit == b)
  let f : Int := wBase p 15 * v.delta
  let e : Int := wExt p 15 * v.tmin
  decide (16 ≤ p.base.length ∧ p.base.length ≤ 64 ∧ 1 ≤ p.ext.length ∧ p.ext.length ≤ 64 ∧ p.tableBp ≤ p.extUnit)
  && p.base.all (pvEntryOk c) && p.ext.all (pvEntryOk c)
  && (List.range 16).all (fun b => p.base.any (fun x => x.codeBit == b))
  && (List.range 15).all (fun b => decide (wBase p (b + 1) = 2 * wBase p b))
  && present 15 && (List.range 15).all (fun b =>
      !present b || (present (b + 1) && decide (wExt p (b + 1) = 2 * wExt p b)))
  && decide ((e - f).natAbs * 2048 ≤ f.natAbs)
  && decide (wBase p 0 * v0.tmin = wBase p0 0 * v.tmin)
  && (portsOf c).all (fun q => decide (variantBp c v q ≤ p.tableBp))

/-- PLACEVALUE (R223, R226). -/
def placeValueOk (r : Nat → Byte) (c : ImageCfg) : Bool :=
  let o := secOff r 6
  let n := num r o 2
  decide (16 + 16 * n ≤ secLen r 6 ∧ n = num r (secOff r 7) 2 ∧ n ≤ 16) && zerosAt r (o + 2) 14
  && (List.range (min n 16)).all (fun i =>
      let a := o + 16 + 16 * i
      decide (num r (a + 4) 4 + 4 * num r a 2 ≤ secLen r 6 ∧ num r (a + 8) 4 + 4 * num r (a + 2) 2 ≤ secLen r 6)
      && pvSetOk c i)

/-! #### Beads (R263–R275) -/

/-- Lead of an action in cycles (R264). -/
def leadOf (a : Nat) : Nat := if a = 2 then 48 else if a = 3 ∨ a = 5 ∨ a = 6 then 80 else 0

/-- Busy span of a bead, given the BP of its port (R264). -/
def busyOf (b : Bead) (bp : Nat) : Nat :=
  if b.action = 1 then bp
  else if b.action = 5 then bits b.arg 31 16
  else if b.action = 6 then 2 * bits b.arg 31 16 + bits b.arg 47 32
  else if b.action = 7 then (if b.target = 0 then bits b.arg 47 32 * bits b.arg 63 48 else bits b.arg 63 48)
  else if b.action = 8 then bits b.arg 31 0
  else if b.action = 9 then ceilDiv (bits b.arg 31 16 * bits b.arg 63 32) 65536
  else 1

/-- ARG without its reserved bits (R264). -/
def argNamed (b : Bead) : Nat :=
  if b.action = 1 then 0x33F0F
  else if b.action = 2 then 0xFFFFFFFF
  else if b.action = 3 then 0x1F
  else if b.action = 4 then 0x1FFFFFF
  else if b.action = 5 then 0xFFFF000F
  else if b.action = 6 then 0xFFFFFFFF0000
  else if b.action = 7 then 0xFFFFFFFF0000FFFF
  else if b.action = 8 then 0xFFFFFFFF
  else 0xFFFFFFFFFFFFFFFF

/-- Encoding, target and levels of a bead (R263, R264, check 3 of R284). -/
def beadEncOk (c : ImageCfg) (b : Bead) : Bool :=
  let width := bits b.arg 31 16
  decide (b.rod < 64 ∧ 1 ≤ b.action ∧ b.action ≤ 9 ∧ b.arg &&& argNamed b = b.arg) &&
  (if b.action = 1 then
      (portsOf c).contains b.target && decide (bits b.arg 13 8 < planesPerBand (c.topo.portPrimary.getD b.target 0))
        && (!bitAt b.arg 17 || decide (bits b.arg 16 8 = 0))
    else if b.action = 2 then
      (portsOf c).contains b.target && decide (bits b.arg 15 0 &&& bits b.arg 31 16 = 0 ∧ b.arg ≠ 0)
    else if b.action = 3 then
      decide (b.target ≤ 2) && (if bitAt b.arg 4 then decide (bits b.arg 3 0 = 0) else decide (bits b.arg 3 0 < c.light.levelCount))
    else if b.action = 5 then
      (banksOf c).contains b.target && decide (bits b.arg 3 0 < c.light.levelCount ∧ 375 ≤ width ∧ width ≤ 4000)
    else if b.action = 6 then
      decide (b.target = 0 ∧ 375 ≤ width ∧ width ≤ 4000 ∧ bits b.arg 47 32 ≤ 4000)
    else if b.action = 7 then decide (b.target ≤ 1)
    else if b.action = 9 then decide (b.target = 0 ∧ c.topo.hlsEnable = 1)
    else decide (b.target = 0))

/-- Storage order (R263) and strictly rising TIME per rod (R266): `last` holds the last TIME of each rod seen. -/
def storageOk (l : List Bead) (last : List (Nat × Nat)) : Bool :=
  match l with
  | [] => true
  | b :: t =>
    (match last.find? (fun e => e.1 == b.rod) with | none => true | some e => decide (e.2 < b.time))
    && (match t with | [] => true | d :: _ => decide (b.time < d.time ∨ (b.time = d.time ∧ b.rod ≤ d.rod)))
    && storageOk t ((b.rod, b.time) :: last.filter (fun e => e.1 != b.rod))

/-- The targets a bead addresses, as (kind, instance) (R267). -/
def beadTargets (b : Bead) : List (Nat × Nat) :=
  if b.action = 4 then ((List.range 24).filter (fun i => bitAt b.arg i)).map (fun i => (4, i))
  else if b.action = 6 then [(5, 0)]
  else if b.action = 5 then [(5, 0)]
  else if b.action = 1 ∨ b.action = 2 ∨ b.action = 3 ∨ b.action = 7 then [(b.action, b.target)]
  else [(b.action, 0)]

/-- The owner rule: every target belongs to one rod; `own` lists the targets seen with their rods (R267). -/
def ownerOk (l : List Bead) (own : List ((Nat × Nat) × Nat)) : Bool :=
  match l with
  | [] => true
  | b :: t =>
    let ts := beadTargets b
    ts.all (fun x => match own.find? (fun e => e.1 == x) with | none => true | some e => e.2 == b.rod)
    && ownerOk t ((ts.filter (fun x => !own.any (fun e => e.1 == x))).map (fun x => (x, b.rod)) ++ own)

/-- Busy spans of one target do not overlap, LOAD_BLOCK aside; `busy` lists the end of each target's last span (R267,
check 5 of R284). -/
def busyOk (l : List Bead) (busy : List ((Nat × Nat) × Nat)) : Bool :=
  match l with
  | [] => true
  | b :: t =>
    let ts := if b.action = 1 then [] else beadTargets b
    ts.all (fun x => match busy.find? (fun e => e.1 == x) with | none => true | some e => decide (e.2 ≤ b.time))
    && busyOk t (ts.map (fun x => (x, b.time + busyOf b 0)) ++ busy.filter (fun e => !ts.contains e.1))

/-- LOAD_BLOCK beads of each port are at least BP apart (check 6 of R284). -/
def loadSpacingOk (c : ImageCfg) (v : SchedVariant) (l : List Bead) : Bool :=
  (portsOf c).all (fun p => chained (fun a b => decide (a + variantBp c v p ≤ b))
    ((l.filter (fun b => b.action == 1 && b.target == p)).map (·.time)))

/-- Spans from a list of changes: each change holds until the next one or the end. -/
def spansOf {α : Type} (endT : Nat) (l : List (Nat × α)) : List (Nat × Nat × α) :=
  match l with
  | [] => []
  | (t, a) :: rest => (t, (match rest with | [] => endT | (t2, _) :: _ => t2), a) :: spansOf endT rest

/-- Cycles that two spans share. -/
def shared (a b c d : Nat) : Nat := min b d - max a c

/-- The LOAD_BLOCK beads of one block: start, plane, blank, SOURCE. -/
def loadsOf (l : List Bead) (p k : Nat) : List (Nat × Nat × Bool × Bool) :=
  (l.filter (fun b => b.action == 1 && b.target == p && bits b.arg 3 0 == k)).map
    (fun b => (b.time, bits b.arg 13 8, bitAt b.arg 17, bitAt b.arg 16))

/-- What a block shows from each of its resets on: `none` off, else plane and blank; a SHOW shows the plane of the last
load completed at or before it (R270). -/
def blockChanges (l : List Bead) (bp p k : Nat) : List (Nat × Option (Nat × Bool)) :=
  let ld := loadsOf l p k
  (l.filter (fun b => b.action == 2 && b.target == p && (bitAt b.arg k || bitAt b.arg (16 + k)))).map (fun b =>
    (b.time, if bitAt b.arg k then
        (ld.filter (fun x => decide (x.1 + bp ≤ b.time))).getLast?.map (fun x => (x.2.1, x.2.2.1))
      else none))

/-- Load and reset order of a block, and SOURCE only for cached planes (check 7 of R284, R270). -/
def blockLoadOk (c : ImageCfg) (l : List Bead) (bp p k : Nat) : Bool :=
  let ld := loadsOf l p k
  let mask := match c.builds with
    | [] => 0
    | t :: _ => (t.tiles.find? (fun e => e.port == p && e.band == k)).elim 0 (·.cacheMask)
  ld.all (fun x => !x.2.2.2 || bitAt mask (x.2.1 % 16))
  && (l.filter (fun b => b.action == 2 && b.target == p && bitAt b.arg k)).all (fun b =>
      ld.any (fun x => decide (x.1 + bp ≤ b.time)) && ld.all (fun x => decide (b.time ≤ x.1 ∨ x.1 + bp ≤ b.time)))

/-- SETTLE_MAX_NS of a port in whole cycles (R270). -/
def settleOf (c : ImageCfg) (p : Nat) : Nat := ceilDiv (c.links.getD p {}).settleMaxNs 4

/-- A block is settled off at time `t`: the last reset at or before it, if any, set it off early enough (R270, R275). -/
def settledAt (ch : List (Nat × Option (Nat × Bool))) (settle t : Nat) : Bool :=
  match (ch.filter (fun x => decide (x.1 ≤ t))).getLast? with
  | none => true
  | some x => x.2.isNone && decide (x.1 + settle ≤ t)

/-- Level of a primary from each of its LEVEL beads on: `none` for ZERO (R264). -/
def levelChanges (l : List Bead) (c : Nat) : List (Nat × Option Nat) :=
  (l.filter (fun b => b.action == 3 && b.target == c)).map
    (fun b => (b.time, if bitAt b.arg 4 then none else some (bits b.arg 3 0)))

/-- Level spans of a primary at a LEVEL other than ZERO: start, end, level. -/
def lightSpans (l : List Bead) (seg c : Nat) : List (Nat × Nat × Nat) :=
  (spansOf seg (levelChanges l c)).filterMap (fun e => e.2.2.map (fun v => (e.1, e.2.1, v)))

/-- Spans in which a block shows a plane: start, end, plane, blank. -/
def showSpans (l : List Bead) (seg bp p k : Nat) : List (Nat × Nat × Nat × Bool) :=
  (spansOf seg (blockChanges l bp p k)).filterMap (fun e => e.2.2.map (fun v => (e.1, e.2.1, v.1, v.2)))

/-- Primary under which a port's block shows a plane (R271). -/
def planePrim (c : ImageCfg) (p plane : Nat) : Nat :=
  let prim := c.topo.portPrimary.getD p 0
  if prim = 3 then plane / 16 else prim

/-- Lit weight of plane q of a block (R271). -/
def litWeight (shows : List (Nat × Nat × Nat × Bool)) (light : List (Nat × Nat × Nat)) (q : Nat) : Nat :=
  ((shows.filter (fun e => e.2.2.1 == q && !e.2.2.2)).map (fun e =>
    (light.map (fun f => shared e.1 e.2.1 f.1 f.2.1 * 2 ^ (15 - f.2.2))).sum)).sum

/-- Every instant of [a, b) lies in some span of the list. -/
def covered (a b : Nat) (l : List (Nat × Nat)) : Bool :=
  (a :: (l.map (·.2)).filter (fun x => decide (a < x ∧ x < b))).all (fun x =>
    decide (b ≤ a) || l.any (fun e => decide (e.1 ≤ x ∧ x < e.2)))

/-- Dark spans: start and end (R273). -/
def darkSpans (l : List Bead) : List (Nat × Nat) :=
  (l.filter (fun b => b.action == 8)).map (fun b => (b.time, b.time + bits b.arg 31 0))

/-- Segment state and dark spans of one segment (check 8 of R284; R273, R275). -/
def darkOk (c : ImageCfg) (v : SchedVariant) (l : List Bead) (seg : Nat) (base : Bool) : Bool :=
  match darkSpans l with
  | [(d0, d1)] =>
    (if base then decide (c.canvas.active * c.canvas.linePeriod ≤ d0 ∧ d1 ≤ seg) else decide (d1 = seg))
    && (portsOf c).all (fun p => (List.range 16).all (fun k =>
        let ch := blockChanges l (variantBp c v p) p k
        settledAt ch (settleOf c p) d0 && settledAt ch (settleOf c p) seg
        && ch.all (fun x => x.2.isNone || decide (x.1 < d0 ∨ d1 ≤ x.1))))
    && (List.range 3).all (fun k =>
        (lightSpans l seg k).all (fun e => decide (shared e.1 e.2.1 d0 d1 = 0))
        && (levelChanges l k).all (fun e => e.2.isNone || decide (e.1 < d0 ∨ d1 ≤ e.1))
        && (levelChanges l k).getLast?.elim true (fun e => e.2.isNone))
    && l.all (fun b =>
        !(b.action == 5 || b.action == 6 || (b.action == 7 && b.target == 1))
          || decide (d0 ≤ b.time ∧ b.time + busyOf b 0 ≤ d1))
    && (!base ||
        (decide ((l.filter (fun b => b.action == 6)).length = (if 2 ≤ c.light.levelCount then 1 else 0))
         && (c.light.diagPulse != 1 || (banksOf c).all (fun b =>
              decide ((l.filter (fun x => x.action == 5 && x.target == b)).length = 1)))))
  | _ => false

/-- Picture light and lit weights of one segment (check 9 of R284; R271, R272). -/
def pictureOk (c : ImageCfg) (v : SchedVariant) (l : List Bead) (seg : Nat) (want : Nat → Nat) : Bool :=
  let light := (List.range 3).map (lightSpans l seg)
  let blocks := (portsOf c).flatMap (fun p => (List.range 16).map (fun k => (p, showSpans l seg (variantBp c v p) p k)))
  (List.range 3).all (fun k =>
    let under := blocks.flatMap (fun e => (e.2.filter (fun x => planePrim c e.1 x.2.2.1 == k)).map (fun x => (x.1, x.2.1)))
    (light.getD k []).all (fun e => covered e.1 e.2.1 under))
  && blocks.all (fun e =>
      c.topo.portPrimary.getD e.1 0 != 3 || e.2.all (fun x =>
        (List.range 3).all (fun k => k == x.2.2.1 / 16 ||
          (light.getD k []).all (fun f => decide (shared x.1 x.2.1 f.1 f.2.1 = 0)))))
  && blocks.all (fun e => (List.range (planesPerBand (c.topo.portPrimary.getD e.1 0))).all (fun q =>
      decide (litWeight e.2 (light.getD (planePrim c e.1 q) []) q = want (q % 16))))

/-- WINDOW beads of a slot: time and OPEN. -/
def windowsOf (l : List Bead) (slot : Nat) : List (Nat × Bool) :=
  (l.filter (fun b => b.action == 4 && bitAt b.arg slot)).map (fun b => (b.time, bitAt b.arg 24))

/-- OPEN and CLOSE alternate from OPEN and end closed (check 7 of R362, R275). -/
def alternates (want : Bool) (l : List (Nat × Bool)) : Bool :=
  match l with
  | [] => want
  | e :: t => (e.2 == want) && alternates (!want) t

/-- Open spans of a slot. -/
def openSpans (l : List (Nat × Bool)) : List (Nat × Nat) :=
  match l with
  | (o, true) :: (c, false) :: t => (o, c) :: openSpans t
  | _ => []

/-- Times of the actions that reach a bank (R332, check 8 of R362). -/
def driveTimes (c : ImageCfg) (l : List Bead) (b : Nat) : List Nat :=
  (l.filter (fun x => (x.action == 3 && x.target == c.topo.bankPrimary.getD b 0) || (x.action == 5 && x.target == b)
    || x.action == 6)).map (·.time)

/-- WINDOW beads of one segment (checks 7 and 8 of R362, R275). -/
def windowOk (c : ImageCfg) (l : List Bead) : Bool :=
  (List.range 24).all (fun i =>
    let w := windowsOf l i
    let lp := c.loops.getD i {}
    let b := lp.target
    (w.isEmpty || lp.kind == 1) && alternates true w
    && (openSpans w).all (fun e =>
        decide (375 ≤ e.1)
        && (((levelChanges l (c.topo.bankPrimary.getD b 0)).filter (fun x => decide (x.1 + 375 ≤ e.1))).getLast?.elim
              false (fun x => x.2 == some 0))
        && (driveTimes c l b).all (fun t => decide (t + 375 < e.1 ∨ e.2 + 243 < t))))

/-- Times in a list, and from its last into the first of the segment that follows, are at least `d` apart. -/
def apart (d seg : Nat) (l next : List Nat) : Bool :=
  chained (fun a b => decide (a + d ≤ b)) l
  && (match l.getLast?, next.head? with
      | some a, some b => decide (a + d ≤ seg + b)
      | _, _ => true)

/-- The two segments of a variant with their lengths, and each one's possible successors. -/
def successions (v : SchedVariant) : List (List Bead × Nat × List Bead) :=
  [(v.base, v.tmin, v.base), (v.base, v.tmin, v.ext), (v.ext, v.delta, v.ext), (v.ext, v.delta, v.base)]

/-- Spacing of RESET_BLOCK frames (R303) and of drive actions (R332), within segments and across boundaries. -/
def spacingOk (c : ImageCfg) (v : SchedVariant) : Bool :=
  (successions v).all (fun e =>
    (portsOf c).all (fun p =>
      let rs (l : List Bead) : List Nat := (l.filter (fun b => b.action == 2 && b.target == p)).map (·.time)
      apart 13 e.2.1 (rs e.1) (rs e.2.2))
    && (banksOf c).all (fun b => apart 68 e.2.1 (driveTimes c e.1 b) (driveTimes c e.2.2 b)))
  && (v.base ++ v.ext).all (fun b => b.action != 6 || decide (bits b.arg 47 32 = 0 ∨ 68 ≤ bits b.arg 47 32))

/-- The first load from the plane store lies at 256 cycles or later on every port (R298). -/
def prefetchOk (c : ImageCfg) (l : List Bead) : Bool :=
  (portsOf c).all (fun p =>
    (l.find? (fun b => b.action == 1 && b.target == p && bits b.arg 17 16 == 0)).elim true (fun b => decide (256 ≤ b.time)))

/-- The hold's place: nothing takes effect in [D, D + 128), no busy span but a refresh train crosses D (R397). -/
def holdOk (c : ImageCfg) (v : SchedVariant) : Bool :=
  match darkSpans v.base with
  | (d, _) :: _ => v.base.all (fun b => b.action == 8 ||
      (decide (b.time < d ∨ d + 128 ≤ b.time)
        && ((b.action == 7 && b.target == 0)
          || !decide (b.time < d ∧ d < b.time + busyOf b (variantBp c v b.target)))))
  | [] => false

/-- SCAN_LINE beads (check 8 of R383). -/
def scanBeadsOk (c : ImageCfg) (l : List Bead) : Bool :=
  match c.scan with
  | none => true
  | some sc => (l.filter (fun b => b.action == 9)).all (fun b =>
      let first := bits b.arg 15 0
      let n := bits b.arg 31 16
      decide (1 ≤ n ∧ first + n ≤ sc.lines
        ∧ (n + 1) * 125000000000 * 65536 ≤ n * bits b.arg 63 32 * sc.fMin)
      && (darkSpans l).all (fun d => decide (shared b.time (b.time + busyOf b 0) d.1 d.2 = 0)))

/-- Times of the refresh slots of a channel in a segment (R425). -/
def slotTimes (l : List Bead) (ch : Nat) : List (Nat × Nat × Nat) :=
  (l.filter (fun b => b.action == 7 && b.target == 0 && bitAt b.arg ch)).map
    (fun b => (b.time, bits b.arg 47 32, bits b.arg 63 48))

/-- Gaps between a segment's trains of one channel, and from its last slot into the next segment, are at most 200 (check
2 of R434). -/
def gapsOk (seg : Nat) (l next : List (Nat × Nat × Nat)) : Bool :=
  let lastSlot (e : Nat × Nat × Nat) : Nat := e.1 + (e.2.2 - 1) * e.2.1
  chained (fun a b => decide (b.1 ≤ lastSlot a + 200)) l
  && (match l.getLast?, next.head? with
      | some a, some b => decide (seg + b.1 ≤ lastSlot a + 200)
      | _, _ => false)

/-- DRAM_SLOT beads of a variant (R434). -/
def dramBeadsOk (v : SchedVariant) : Bool :=
  (v.base ++ v.ext).all (fun b => b.action != 7 ||
    (if b.target = 0 then
       decide (bits b.arg 15 0 ≠ 0 ∧ 92 ≤ bits b.arg 47 32 ∧ bits b.arg 47 32 ≤ 100 ∧ 20 ≤ bits b.arg 63 48)
     else decide (bits b.arg 47 32 = 0 ∧ 1600 * popN 16 b.arg ≤ bits b.arg 63 48)))
  && (List.range 16).all (fun ch =>
      (successions v).all (fun e => gapsOk e.2.1 (slotTimes e.1 ch) (slotTimes e.2.2 ch))
      && (darkSpans v.base).all (fun d => (slotTimes v.base ch).any (fun e =>
            decide (e.1 < d.1 ∧ d.1 < e.1 + e.2.1 * e.2.2)
            && (List.range e.2.2).any (fun j => decide (e.1 + j * e.2.1 ≤ d.1 ∧ d.1 ≤ e.1 + j * e.2.1 + 100))))
      && v.base.any (fun b => b.action == 7 && b.target == 1 && bitAt b.arg ch))

/-- One segment of a variant under checks 3, 4, 5, 7, 8, 9 of R284 and the chapters that own its actions. -/
def segmentOk (c : ImageCfg) (v : SchedVariant) (l : List Bead) (seg : Nat) (base : Bool) (want : Nat → Nat) : Bool :=
  l.all (beadEncOk c) && storageOk l []
  && l.all (fun b => decide (leadOf b.action ≤ b.time + 64 ∧ b.time + busyOf b (variantBp c v b.target) ≤ seg))
  && busyOk l []
  && (portsOf c).all (fun p => (List.range 16).all (blockLoadOk c l (variantBp c v p) p))
  && darkOk c v l seg base && pictureOk c v l seg want && windowOk c l && prefetchOk c l && scanBeadsOk c l

/-- One variant: times (check 2 of R284, R32, R38, R396), directory (check 1), beads. -/
def variantOk (s : State) (c : ImageCfg) (i : Nat) : Bool :=
  let v := c.sched.getD i {}
  let p := c.pv.getD i {}
  let lp := c.canvas.linePeriod
  (if i = 0 then decide (v.kind = 0 ∧ v.port = 0xFF ∧ v.tmin = canvasTmin c.canvas ∧ v.delta = c.canvas.deltaLines * lp)
   else decide (v.kind = 1) && (portsOf c).contains v.port && decide ((c.links.getD v.port {}).degradedVariant = i))
  && decide (0 < lp ∧ v.tmin % lp = 0 ∧ v.delta % lp = 0 ∧ (c.canvas.active + 1) * lp ≤ v.tmin ∧ lp ≤ v.delta
      ∧ 64 ≤ v.delta ∧ 1041666 ≤ v.tmin ∧ v.tmin + 15 * v.delta ≤ 41666667 ∧ c.canvas.latchLine < v.tmin / lp)
  && (bits (regN s 0xD00200) 1 0 != 1 || decide (syncLead s + 64 ≤ v.delta))
  && segmentOk c v v.base v.tmin true (wBase p) && segmentOk c v v.ext v.delta false (wExt p)
  && ownerOk (v.base ++ v.ext) [] && spacingOk c v && holdOk c v && dramBeadsOk v

/-- SCHEDULE (R57, R284). -/
def scheduleOk (s : State) (r : Nat → Byte) (c : ImageCfg) : Bool :=
  let o := secOff r 7
  let n := num r o 2
  decide (1 ≤ n ∧ n ≤ 16 ∧ 16 + 32 * n ≤ secLen r 7 ∧ n = num r (secOff r 6) 2) && zerosAt r (o + 2) 14
  && (List.range (min n 16)).all (fun i =>
      let a := o + 16 + 32 * i
      let inside (x k : Nat) : Bool := decide (x + 16 * k ≤ secLen r 7) && (List.range k).all (fun j => r (o + x + 16 * j + 7) == 0)
      zerosAt r (a + 2) 2 && zerosAt r (a + 28) 4
      && inside (num r (a + 12) 4) (num r (a + 16) 4) && inside (num r (a + 20) 4) (num r (a + 24) 4)
      && variantOk s c i)
  && (portsOf c).all (fun p =>
      let d := (c.links.getD p {}).degradedVariant
      d == 0xFF || (decide (d < n ∧ d ≠ 0) && (c.sched.getD d {}).port == p))

/-- Whether the numbers are exactly 0, 1, 2 … in some order. -/
def isRun (l : List Nat) : Bool := (List.range l.length).all (fun i => l.contains i)

/-- BUILD_TABLE (checks 1–5 and 7 of R245, R58). -/
def buildOk (r : Nat → Byte) (c : ImageCfg) : Bool :=
  let o := secOff r 8
  let n := num r o 1
  let pairs := (portsOf c).flatMap (fun p => (List.range 16).map (fun b => (p, b)))
  let maskIn (t : BuildTable) (x : Nat × Nat) : Option Nat :=
    (t.tiles.find? (fun e => e.port == x.1 && e.band == x.2)).map (·.cacheMask)
  decide (1 ≤ c.minActive ∧ c.minActive ≤ 22 ∧ n = 23 - c.minActive ∧ 4 + 16 * n ≤ secLen r 8) && zerosAt r (o + 2) 2
  && (List.range n).all (fun i =>
      let a := o + 4 + 16 * i
      let t := c.builds.getD i {}
      decide (t.active = 22 - i ∧ num r (a + 4) 4 + 8 * num r (a + 2) 2 ≤ secLen r 8)
      && zerosAt r (a + 1) 1 && zerosAt r (a + 12) 4
      && (List.range (num r (a + 2) 2)).all (fun j => zerosAt r (o + num r (a + 4) 4 + 8 * j + 6) 2)
      && decide (t.tiles.length = pairs.length) && pairs.all (fun x => t.tiles.any (fun e => e.port == x.1 && e.band == x.2))
      && t.tiles.all (fun e => decide (e.slot < t.active))
      && (List.range t.active).all (fun sl => isRun ((t.tiles.filter (fun e => e.slot == sl)).map (·.seq)))
      && pairs.all (fun x => maskIn t x == maskIn (c.builds.getD 0 {}) x))
  && (match c.plan.filter (fun e => e.stream == 2), c.plan.filter (fun e => e.stream == 3) with
      | [a], [b] => decide (a.base = b.base ∧ a.size = b.size ∧ 2 * setBytes c ≤ a.size)
      | _, _ => false)
  && (c.format != 3 || (List.range 4).all (fun k => decide (cacheSlots c ≤ 227 * k) || bitAt c.requiredOn (18 + k)))

/-- DRAM_PLAN (R59, R143, R219). -/
def planOk (s : State) (r : Nat → Byte) (c : ImageCfg) : Bool :=
  let o := secOff r 9
  let n := num r o 2
  let cnt (k : Nat) : Nat := (c.plan.filter (fun e => e.stream == k)).length
  decide (16 + 32 * n ≤ secLen r 9) && zerosAt r (o + 2) 6
  && (List.range n).all (fun i => zerosAt r (o + 16 + 32 * i + 1) 7)
  && c.plan.all (fun e => decide (e.stream ≤ 5 ∧ e.base + e.size ≤ reservedBase s))
  && decide (cnt 2 = 1 ∧ cnt 3 = 1 ∧ cnt 1 ≤ 1)
  && (devRegionsOf c.plan).all (fun a => (devRegionsOf c.plan).all (fun b =>
      decide (a = b ∨ a.1 + a.2 ≤ b.1 ∨ b.1 + b.2 ≤ a.1 ∨ a.2 = 0 ∨ b.2 = 0)))
  && (c.plan.filter (fun e => e.stream == 1)).all (fun a => c.plan.all (fun b =>
      !(b.stream == 2 || b.stream == 3) || a.base != b.base || a.size != b.size))
  && (c.canvas.carryEnable != 1 || (c.plan.find? (fun e => e.stream == 1)).elim false
        (fun e => decide (4 * c.canvas.width * c.canvas.height ≤ e.size)))

/-- LOOPS (checks 1–6 of R362, R60). -/
def loopsOk (r : Nat → Byte) (c : ImageCfg) : Bool :=
  decide (secLen r 10 = 2304) && (List.range 24).all (fun i =>
    let l := c.loops.getD i {}
    decide (l.kind ≤ 3) && (l.kind == 0 ||
      (decide (l.form = 2 ∨ l.form = 3) && (l.kind != 3 || l.form == 3)
       && (l.form != 2 || ([l.coefA, l.coefB].all (fun x => x.getD 3 0 == 0 && x.getD 6 0 == 0)))
       && (if l.kind = 1 then decide (l.input ≤ 11) && (banksOf c).contains l.target
           else decide (c.topo.hlsEnable = 1 ∧ 12 ≤ l.input ∧ l.input ≤ 15 ∧ l.target = 0))
       && decide (l.outMin < l.outMax) && (l.residTicks == 0 || decide (1 ≤ l.modelTau))
       && decide (l.oscEnable ≤ 2) && (l.oscEnable == 0 || decide (2 ≤ l.oscCount ∧ 1 ≤ l.oscWindow))
       && (c.format != 3 || (bitAt c.requiredOn 30 && (decide (l.input < 8) || bitAt c.requiredOn 31)))
       && zerosAt r (secOff r 10 + 96 * i + 86) 10)))
  && distinct ((c.loops.filter (fun l => l.kind == 1)).map (·.target))
  && decide ((c.loops.filter (fun l => l.kind == 2)).length ≤ 1 ∧ (c.loops.filter (fun l => l.kind == 3)).length ≤ 1)

/-- LIGHT (R61, R327). -/
def lightOk (r : Nat → Byte) (c : ImageCfg) : Bool :=
  let l := c.light
  let code (lv b : Nat) : Nat := l.levelCode.getD (12 * lv + b) 0
  decide (secLen r 11 = 420 ∧ 1 ≤ l.levelCount ∧ l.levelCount ≤ 16 ∧ 1 ≤ l.dlinkMinVer ∧ l.dlinkMinVer ≤ 2
    ∧ l.diagPulse ≤ 1 ∧ l.colourLock ≤ 1 ∧ 1 ≤ l.rampMs ∧ l.rampMs ≤ 10000)
  && zerosAt r (secOff r 11 + 10) 2
  && (banksOf c).all (fun b => (List.range l.levelCount).all (fun lv =>
      decide (code lv b ≤ l.ceiling.getD b 0) && (lv == 0 || decide (code lv b < code (lv - 1) b))))

/-- SCANNER (R62, checks 1–7 of R383). -/
def scannerOk (s : State) (r : Nat → Byte) (c : ImageCfg) : Bool :=
  match c.scan with
  | none => true
  | some x =>
    let o := secOff r 12
    let len := secLen r 12
    let lim := hlsReg s 0xC0001C
    let u := (List.range (x.pixels + 1)).map (fun i => x.timing.getD (2 * i) 0)
    let tmin := c.sched.foldl (fun a v => min a v.tmin) 0xFFFFFFFF
    let slot (k : Nat) : List LoopCfg := c.loops.filter (fun l => l.kind == k)
    decide (32 ≤ len ∧ 18000000 ≤ x.fMin ∧ x.fMin ≤ x.fMax ∧ x.fMax ≤ 32000000 ∧ 1 ≤ x.pixels ∧ x.pixels ≤ 2048
      ∧ 1 ≤ x.lines ∧ x.lines ≤ 4096 ∧ x.pixels * x.lines ≤ 1048576)
    && zerosAt r (o + 28) 4
    && decide (num r (o + 12) 4 % 4 = 0 ∧ num r (o + 12) 4 + 4 * x.pixels + 4 ≤ len
      ∧ num r (o + 16) 4 % 4 = 0 ∧ num r (o + 16) 4 + 4 * x.pixels * x.lines ≤ len
      ∧ num r (o + 20) 4 % 2 = 0 ∧ num r (o + 20) 4 + 2 * x.lines ≤ len)
    && zerosAt r (o + num r (o + 12) 4 + 4 * x.pixels + 2) 2
    && chained (fun a b => decide (a < b ∧ 65536 * x.fMax ≤ (b - a) * 125000000000)) u
    && x.samples.all (fun e => e.1 == 0xFFFF || decide (e.1 < 8 * c.canvas.width ∧ e.2 < 8 * c.canvas.height))
    && x.slow.all (fun v => decide (bits lim 15 0 ≤ v ∧ v ≤ bits lim 31 16))
    && decide (-64 ≤ x.ftg1Offset ∧ x.ftg1Offset < tmin)
    && (match slot 2, slot 3 with
        | [_], [t] => decide (-32768 * 65536 ≤ t.outMin ∧ t.outMax ≤ 32767 * 65536)
        | _, _ => false)
    && (c.format != 3 || bitAt c.requiredOn 32)

/-- AUDIO (R63, R439). -/
def audioOk (r : Nat → Byte) (c : ImageCfg) : Bool :=
  (secOf r 13).isNone ||
  (decide (secLen r 13 = 80) && c.audio.all (fun a => decide (a.enable ≤ 1) && (a.enable == 0 ||
      (decide (a.format ≤ 1 ∧ a.chMask ≤ 3 ∧ a.ringBytes % 64 = 0 ∧ 4096 ≤ a.ringBytes)
       && [16, 24, 32].contains a.wordBits && [44100, 48000, 88200, 96000, 176400, 192000].contains a.fsHz)))
   && chained (fun a b => a == b) ((c.audio.filter (fun a => a.enable == 1)).map (·.fsHz)))

/-- FAULT_MAP: entries of fault-map sources of present units (R494, R13). -/
def faultMapOk (s : State) (r : Nat → Byte) (c : ImageCfg) : Bool :=
  decide (secLen r 14 = 1024) && mapSources.all (fun n => sourceAbsent s n ||
    (let e := c.faultMap.getD n {}
     decide (e.cls ≤ 2 ∧ e.reaction < 32) && (!bitAt e.reaction 1 || bitAt e.reaction 0)
     && (!bitAt e.reaction 4 || decide (0x70 ≤ n ∧ n ≤ 0x78))))

/-- CAL_LIMITS (R66). -/
def calLimitsOk (r : Nat → Byte) (c : ImageCfg) : Bool :=
  match c.calLimits with
  | none => true
  | some l =>
    let o := secOff r 16
    decide (16 + 16 * l.length ≤ secLen r 16) && zerosAt r (o + 2) 14
    && (List.range l.length).all (fun i => zerosAt r (o + 16 + 16 * i + 1) 1 && zerosAt r (o + 16 + 16 * i + 12) 4)
    && l.all (fun x => calDefined x.channel && decide (x.offsetMin ≤ x.offsetMax ∧ x.gainMin ≤ x.gainMax))
    && distinct (l.map (·.channel))

/-- Step 8, by ascending section. -/
def rangeChecks (s : State) (r : Nat → Byte) (c : ImageCfg) : List (Nat × Bool) :=
  [(0, if imgFormat r = 2 then zerosAt r 24 4 else zerosAt r 32 28), (1, topoOk s r c), (2, linksOk r c),
   (3, canvasOk r c), (4, layersOk s r c), (5, colourOk r c), (6, placeValueOk r c), (7, scheduleOk s r c),
   (8, buildOk r c), (9, planOk s r c), (10, loopsOk r c), (11, lightOk r c), (12, scannerOk s r c), (13, audioOk r c),
   (14, faultMapOk s r c),
   (15, imgFormat r == 2 || decide (secLen r 15 = 16 ∧ c.requiredOn < 2 ^ 36 ∧ c.retainOk < 2 ^ 36)),
   (16, calLimitsOk r c),
   (17, zerosAt r (secOff r 17 + 1) 15 && zerosAt r (secOff r 17 + 113) 15 && zerosAt r (secOff r 17 + 224) 32)]

/-! ### Step 9: budgets; step 10: power and thresholds -/

/-- Shortest TMIN of any variant. -/
def tminOf (c : ImageCfg) : Nat := c.sched.foldl (fun a v => min a v.tmin) 0xFFFFFFFF

/-- Eight times the slot length of a link version at full width, in cycles (R291). -/
def slot8 (version : Nat) : Nat := if version = 2 then 33 else 88

/-- Step 9 (R24, R25, R42, R59, R143, R239, R245, R252, R284). -/
def budgetChecks (s : State) (c : ImageCfg) : List (Nat × Bool) :=
  let bytes := (c.plan.map (·.bytesPerFrame)).sum
  [(2, (portsOf c).all (fun p =>
      let l := c.links.getD p {}
      decide (l.blockRows * slot8 l.nomVersion ≤ 8 * l.bpNominal)
      && (l.degradedVariant == 0xFF || decide (2 * l.blockRows * slot8 l.nomVersion ≤ 8 * l.bpDegraded)))),
   (7, c.sched.all (fun v => loadSpacingOk c v v.base && loadSpacingOk c v v.ext
      && decide (v.base.length + v.ext.length ≤ 131072))),
   (8, c.builds.all (fun t => decide (buildBound c t ≤ t.buildNs ∧ t.buildNs ≤ 4 * tminOf c))
      && decide (cacheSlots c ≤ 908) && decide (c.minActive ≤ (availBuilders s).length)),
   (9, decide ((devRegionsOf c.plan).length ≤ 31)
      && decide (bytes * 250000000 * 8 ≤ 245750000000 * 7 * tminOf c)
      && decide (bytes * 250000000 ≤ c.plannedRate * tminOf c))]

/-- Step 10 (R51, R65, R69, R343). -/
def powerChecks (s : State) (c : ImageCfg) : List (Nat × Bool) :=
  [(11, (banksOf c).all (fun b => decide (bits (regN s (0xA00100 + 0x40 * b + 0x10)) 15 0 < c.light.ceiling.getD b 0))),
   (if c.format = 3 then 15 else 0, (List.range 36).all (fun d =>
      let m := vget s.pwr.dom d .off
      (!bitAt (requiredOn c) d || m == .on) && (m != .retain || bitAt (retainOk c) d)))]

/-- Steps 1–7 of R69, as IMG_STAGE runs them. -/
def stageChecks (s : State) (r : Nat → Byte) (cmdLen : Option Nat) : Option CheckFail :=
  (checkStep 1 .outOfRange [(0, lengthOk r cmdLen)]).orElse fun _ =>
  (checkStep 2 .checkFail [(0, headerOk r)]).orElse fun _ =>
  (checkStep 3 .version ((0, imgFormat r == 2 || imgFormat r == 3) :: (secEnts r).map (fun e => (e.id, e.ver == 1)))).orElse fun _ =>
  (checkStep 4 .checkFail (structureChecks s r)).orElse fun _ =>
  (checkStep 5 .checkFail (crcChecks r)).orElse fun _ =>
  (checkStep 6 .authFail [(17, signatureOk s r)]).orElse fun _ =>
  checkStep 7 .unitAbsent (variantChecks s r (parseImage r))

/-- Steps 8–10 of R69. -/
def activateChecks (s : State) (r : Nat → Byte) (c : ImageCfg) : Option CheckFail :=
  (checkStep 8 .outOfRange (rangeChecks s r c)).orElse fun _ =>
  (checkStep 9 .noResource (budgetChecks s c)).orElse fun _ =>
  checkStep 10 .badState (powerChecks s c)

/-- Steps 1–10 over an image that no command gives a length for. -/
def fullChecks (s : State) (r : Nat → Byte) : Option CheckFail :=
  (stageChecks s r none).orElse fun _ => activateChecks s r (parseImage r)

end Sys2Proof.Machine
end

