-- ==== Sys2Proof/Machine/ImgOps.lean ====
section
/-! DEFINITION. Image slots, the activation journal, activation, trial, revert and rollback, the choice of an image at start-up (chapter 2). -/

namespace Sys2Proof.Machine

/-! ### Slots (R70–R72, R145) -/

/-- DRAM address of a physical slot. -/
def slotDram (s : State) (k : Nat) : Nat := reservedBase s + 0x1000000 * k

/-- The bytes of a physical slot in DRAM. -/
def slotReader (s : State) (k : Nat) : Nat → Byte := fun i => rd s (slotDram s k + i)

/-- The bytes of a slot's flash partition. -/
def flashReader (s : State) (k : Nat) : Nat → Byte := fun i => (vget s.img.flash k []).getD i 0xFF

/-- The role map as a byte (R71). -/
def rolesByte (r : Roles) : Nat := r.active % 4 + 4 * (r.previous % 4) + 16 * (r.staged % 4)

/-- Packed version of the image in a role's slot, 0 when the role is empty (R88). -/
def roleVersion (s : State) (k : Nat) : Nat := vget s.img.slotVer k 0

/-- The physical slot that IMG_STAGE writes: STAGED's, else the one no role holds (R72). -/
def stageSlot (s : State) : Nat :=
  let r := s.img.roles
  if r.staged < 3 then r.staged
  else (firstN 3 (fun k => k != r.active && k != r.previous)).getD 0

/-- Copy `n` bytes within DRAM. -/
def copyRange (s : State) (src dst n : Nat) : State := wrBytes s dst (rdBytes s src n)

/-! ### Journal (R74, R75, R87) -/

/-- The code of a journal state (R74). -/
def imgCode : ImgState → Nat
  | .staged => 0
  | .verified => 1
  | .quiesced => 2
  | .switched => 3
  | .trial => 4
  | .confirmed => 5

/-- IMG_STATE, with vector 7 (R87, R104). Its event code is 0x02 and eight bits that no rule states. -/
def postImgState (s : State) : State :=
  signal (post s (0x0200 + Config.imgStateLow.toNat) 0
    (leBytes 1 (imgCode s.img.state) ++ leBytes 1 s.img.cause ++ leBytes 1 (rolesByte s.img.roles) ++ leBytes 1 0
      ++ leBytes 4 s.img.seq)) 7

/-- A journal state from its code. -/
def imgOfCode (n : Nat) : Option ImgState := [ImgState.staged, .verified, .quiesced, .switched, .trial, .confirmed][n]?

/-- A role map from its byte (R71). -/
def rolesOf (n : Nat) : Roles := { active := n % 4, previous := n / 4 % 4, staged := n / 16 % 4 }

/-- The 64 bytes of a journal record (R74). -/
def jrecBytes (r : JRec) : List Byte :=
  let b := leBytes 4 0x4C4E524A ++ leBytes 4 r.seq ++ leBytes 1 (imgCode r.state) ++ leBytes 1 (rolesByte r.roles)
    ++ leBytes 1 (rolesByte r.confRoles) ++ leBytes 1 r.cause ++ leBytes 4 r.activeVer ++ leBytes 4 r.previousVer
    ++ leBytes 4 r.stagedVer ++ leBytes 8 r.tsc ++ leBytes 4 r.trialMs ++ leBytes 1 (b2n r.activating) ++ List.replicate 23 0
  b ++ leBytes 4 (crc32 b)

/-- The journal record that bytes hold: `none` without a valid MARK and CRC (R74, R83). -/
def jrecOf (b : List Byte) : Option JRec :=
  if b.length = 64 ∧ leAt b 0 4 = 0x4C4E524A ∧ leAt b 60 4 = crc32 (b.take 60) then
    (imgOfCode (leAt b 8 1)).map (fun st => {
      seq := leAt b 4 4, state := st, roles := rolesOf (leAt b 9 1), confRoles := rolesOf (leAt b 10 1), cause := leAt b 11 1,
      activeVer := leAt b 12 4, previousVer := leAt b 16 4, stagedVer := leAt b 20 4, tsc := leAt b 24 8,
      trialMs := leAt b 32 4, activating := bitAt (leAt b 36 1) 0 })
  else none

/-- A record of the state in force, numbered next (R74). -/
def newRecord (s : State) (st : ImgState) (cause : Nat) (activating : Bool) : JRec :=
  { seq := s.img.seq + 1, state := st, roles := s.img.roles, confRoles := s.img.confRoles, cause := cause,
    activeVer := roleVersion s s.img.roles.active, previousVer := roleVersion s s.img.roles.previous,
    stagedVer := roleVersion s s.img.roles.staged, tsc := s.tsc, trialMs := s.img.trialMs, activating := activating }

/-- Write a record to always-on memory and send it on its way to flash (R75). -/
def writeRecord (s : State) (st : ImgState) (cause : Nat) (activating : Bool) : State :=
  let r := newRecord s st cause activating
  { s with img := { s.img with
      seq := r.seq, cause := cause, aonRec := jrecBytes r,
      appends := s.img.appends ++ [{ record := r, before := jrecOf s.img.aonRec }] } }

/-- Enter a state: its record, IMG_STATE (R75, R87). -/
def enterImg (s : State) (st : ImgState) (cause : Nat) (activating : Bool) : State :=
  let s1 := writeRecord s st cause activating
  postImgState { s1 with img := { s1.img with
    state := st, quiescedAt := if st == .quiesced then s.tsc else s1.img.quiescedAt } }

/-- Records of the active flash partition. -/
def jrnActive (s : State) : List (List Byte) := if s.img.jrnActiveB then s.img.jrnB else s.img.jrnA

/-- Flash offset of a journal partition, JRN_B for `true` (R70). -/
def jrnFlash (b : Bool) : Nat := if b then 0x00E10000 else 0x00E00000

/-- Size of a journal partition (R70). -/
def jrnFlashSize : Nat := 0x10000

/-- Flash offset of an image partition; each is as long as a slot, 16 MB (R70). -/
def imgFlash (k : Nat) : Nat := 0x01000000 * (k + 1)

/-- A record in flash, behind the others of its partition. -/
def appendFlash (s : State) (r : JRec) : State :=
  let s1 := if s.img.jrnActiveB then { s with img := { s.img with jrnB := s.img.jrnB ++ [jrecBytes r] } }
    else { s with img := { s.img with jrnA := s.img.jrnA ++ [jrecBytes r] } }
  emit s1 (.flash (jrnFlash s.img.jrnActiveB + 64 * (jrnActive s).length) 1)

/-- At 75% of a partition's 1,024 records the other one is erased, never during an activation (R75). -/
def eraseCheck (s : State) : State :=
  if jrnFlashSize / 64 * 3 / 4 ≤ (jrnActive s).length ∧ s.img.erasing = false ∧ s.img.act = none then
    emit { s with img := { s.img with erasing := true } } (.flash (jrnFlash (!s.img.jrnActiveB)) 2)
  else s

/-- An activation is on its way: an erase of a partition that it meets is given up, and begun again once the activation
has ended (R75, log entry 32). -/
def beginAct (s : State) (a : Activation) : State := { s with img := { s.img with act := some a, erasing := false } }

/-- JOURNAL_ERASE_DONE. -/
def eraseDone (s : State) : State :=
  if s.img.erasing then
    if s.img.jrnActiveB then { s with img := { s.img with erasing := false, jrnA := [], jrnActiveB := false } }
    else { s with img := { s.img with erasing := false, jrnB := [], jrnActiveB := true } }
  else s

/-- The newer of two records. -/
def newerRec (a b : Option JRec) : Option JRec :=
  match a, b with
  | some x, some y => if x.seq < y.seq then some y else some x
  | some x, none => some x
  | none, y => y

/-- The newest valid record in flash. -/
def newestFlash (s : State) : Option JRec := (s.img.jrnA ++ s.img.jrnB).foldl (fun a b => newerRec a (jrecOf b)) none

/-- An image command ends: LAST_RESULT, and its completion if it waits (R88). -/
def imgDone (s : State) (id : Option Nat) (st : Status) (res : List Byte) : State :=
  match id with
  | none => s
  | some i => complete { s with img := { s.img with lastResult := st.code } } i st res

/-- Withdraw a record from always-on memory: the one before it is the newest again, with its SEQ, CAUSE and state (R82,
R88). -/
def withdraw (s : State) (a : Append) : State :=
  match a.before with
  | some b => { s with img := { s.img with aonRec := jrecBytes b, seq := b.seq, cause := b.cause, state := b.state } }
  | none => { s with img := { s.img with aonRec := [], seq := 0, cause := 0, state := .confirmed } }

/-! ### The work of QUIESCED (R76) -/

/-- The end of the QUIESCED ramp: LASER_EN low, arrays and scanner parked, audio at zero (R76, R307, R330, R369, R443). -/
def quiesceRampEnd (s : State) : State :=
  let s1 := hlOff (lsdQuiesced s)
  let s2 := forN 6 (fun s p =>
    let x := port s p
    if x.mode == .disabled || x.mode == .failed || (x.mode == .parked && !x.unparking) then s
    else
      let s1 := parkPort (modPort s p (fun y => { y with thenTrain := false, retrainId := none, unparkId := none })) p (parkStyle s p) 15
      completeOpt (completeOpt s1 x.retrainId .badState []) x.unparkId .badState []) s1
  audStopAll (parkScanner s2 1 false) .badState

/-- QUIESCED begins its work once its record is in flash: the 20 ms ramp, while FTG0 runs. -/
def quiesceBegin (s : State) : State := if s.ftgOn then startRamp s 0 (20 * msCycles) else s

/-- QUIESCED is at work: no record of it is still on its way to flash. -/
def quiesceActive (s : State) : Bool :=
  s.img.state == .quiesced && s.img.act.isSome && s.img.appends.all (fun a => a.record.state != .quiesced)

/-- At each cycle: the end of the QUIESCED ramp. -/
def quiesceTick (s : State) : State :=
  match s.lsd.ramp with
  | some r => if quiesceActive s && decide (r.x1 = 0 ∧ r.start + r.len ≤ s.tsc) then quiesceRampEnd s else s
  | none => s

/-- Everything QUIESCED does, brought to its end. -/
def quiesceFinish (s : State) : State :=
  ftgStop (quiesceRampEnd s)

/-! ### The work of SWITCHED (R76, R77, R146) -/

/-- The 4 × 4 pattern of R221. -/
def carryPattern : List Nat := [0, 8, 2, 10, 12, 4, 14, 6, 3, 11, 1, 9, 15, 7, 13, 5]

/-- B[y & 3][x & 3]. -/
def carryB (y x : Nat) : Nat := carryPattern.getD (y % 4 * 4 + x % 4) 0

/-- Both carry buffers filled with the pattern, CARRY_READ 0 (R221). -/
def fillCarry (s : State) : State :=
  let v := (cfg s).canvas
  let s1 := { s with clr := { s.clr with carryRead := false } }
  if v.carryEnable = 1 then
    (List.range v.height).foldl (fun s y =>
      let row := (List.range v.width).flatMap (fun x =>
        leBytes 2 (carryB y x + 16 * carryB (y + 1) (x + 2) + 256 * carryB (y + 2) (x + 1)))
      wrBytes (wrBytes s (carryAddr s false 0 y) row) (carryAddr s true 0 y) row) s1
  else s1

/-- The device regions are written in full, which clears what stood in them (R146, R420). -/
def initRegions (s : State) : State :=
  let rs := devRegionsOf (cfg s).plan
  let s1 := rs.foldl (fun s r => zeroRange s r.1 r.2) s
  fillCarry s1

/-- Scaler coefficient banks and white-balance gains from the image (R188, R190, R216), and the table regeneration of
R211. -/
def loadTables (s : State) : State :=
  let c := cfg s
  let s1 := { s with
    cmp := { s.cmp with coef := Vector.ofFn (fun (v : Fin 4) =>
      ((c.layers.getD v.val {}).coefs.zipIdx.filterMap (fun e => if e.1 = 0 then none else some (e.2, e.1)))) },
    clr := { s.clr with pqBusy := true } }
  (List.range 12).foldl (fun s b => setReg s (0x300010 + 4 * b) (c.wbGain.getD b 0)) s1

/-- The schedule store and the Reckoner under a newly loaded image: the load of variant 0 begins (R280, R282, R286). -/
def loadSchedule (s : State) : State :=
  let s1 := completeOpt s s.rck.restoreId .badState []
  { s1 with rck := { s1.rck with
      running := false, variant := 0, slotRun := 0, next := none, restoreId := none, newImage := true,
      store := #v[none, none, none], loading0 := s.img.cfg.isSome, issued := [],
      containPorts := 0, containPrims := 0, containSlots := 0 } }

/-- Ports at SWITCHED: enabled ones train, the others are disabled (R307). -/
def trainPorts (s : State) : State :=
  forN 6 (fun s p =>
    let x := port s p
    let s1 := modPort s p (fun y => { y with unparkId := none, retrainId := none, parkId := none, statusId := none })
    let s2 := completeOpt (completeOpt s1 x.parkId .badState []) x.statusId .badState []
    if portEnabled s p then enterSync s2 p 0 false
    else if x.mode == .disabled then s2
    else enterPort (modPort (blocksOff s2 p) p (fun y => { y with
      parkAt := none, thenTrain := false, holdReady := false, unparking := false, delivering := false, statusWait := false }))
      p .disabled 0) s

/-- The start of SWITCHED under the image `c`, or under no image: every unit takes its tables (R76, R77, R508). -/
def switchWork (s : State) (c : Option ImageCfg) (keepOld : Bool) : State :=
  let s1 := switchLayers s
  let s2 := { s1 with
    img := { s1.img with cfg := c, oldPlan := if keepOld then (cfg s).plan else [] },
    flt := { s1.flt with map := (c.map (·.faultMap)).getD [] } }
  let s3 := loadSchedule (loadTables (initRegions (pbuSwitched s2 (c.getD {}))))
  verSwitched (audSwitched (hlsSwitched (lpeSwitched (lsdSwitched (trainPorts s3)))))

/-- The image in a role's slot, as SWITCHED loads it; `none` for an empty role. -/
def slotImage (s : State) (k : Nat) : Option ImageCfg := if k < 3 then some (parseImage (slotReader s k)) else none

/-- Bytes read of the image in a slot: its length, the header at least. -/
def slotLength (s : State) (k : Nat) : Nat := max 64 (imgLength (slotReader s k))

/-- A read of the image of a slot meets an uncorrectable word: its load fails (R79, R419). -/
def slotBad (s : State) (k : Nat) : Bool := readHits s (slotDram s k) (slotLength s k)

/-! ### Ending and reverting (R79, R82) -/

/-- An activation ends in VERIFIED or QUIESCED without a role change: a CONFIRMED record with the cause. Once QUIESCED is
at work (`atWork`), the units it stopped wait for a fresh FTG0 start (R75, R79). -/
def endActivation (s : State) (cause : Nat) (atWork : Bool) : State :=
  match s.img.act with
  | none => s
  | some a =>
    let s1 := if atWork then quiesceFinish s else s
    let s2 := enterImg { s1 with img := { s1.img with act := none } } .confirmed cause false
    eraseCheck (imgDone s2 a.cmdId .checkFail [])

/-- A revert begins: fault 0xC1, and QUIESCED again on the way to CONF_ROLES (R79). The command of what is reverted ends
in CHECK_FAIL. -/
def beginRevert (s : State) (cause : Nat) (cmd : Option Nat) : State :=
  let old := s.img.act.bind (·.cmdId)
  let s0 := beginAct s { kind := .revert, cmdId := cmd, cause := cause }
  let s1 := { s0 with img := { s0.img with trialEnd := none } }
  let s2 := enterImg (bump s1 0x20028) .quiesced cause true
  imgDone (report s2 { source := 0xC1, address := s2.img.seq }) old .checkFail []

/-- What a fatal fault does to an activation (R79). -/
def activationFatal (s : State) : State :=
  match s.img.act with
  | none => s
  | some a =>
    if a.kind = .revert then s
    else if s.img.state = .verified ∨ s.img.state = .quiesced then endActivation s 3 (quiesceActive s)
    else if s.img.state = .switched ∨ s.img.state = .trial then beginRevert s 3 none
    else s

/-! ### Steps of an activation (R76) -/

/-- Roles after the rotation of an activation (R76). -/
def rotate (r : Roles) : Roles := { active := r.staged, previous := r.active, staged := r.previous }

/-- Enter SWITCHED with the roles that the activation, revert or rollback takes (R76, R79, R81). -/
def enterSwitched (s : State) (a : Activation) : State :=
  let r := s.img.roles
  let n := match a.kind with
    | .activate => rotate r
    | .revert => s.img.confRoles
    | .rollback => { r with active := r.previous, previous := r.active }
  enterImg { s with img := { s.img with roles := n } } .switched a.cause true

/-- QUIESCED_DONE. -/
def quiescedDone (s : State) : State :=
  match s.img.act with
  | none => s
  | some a => if quiesceActive s then enterSwitched (quiesceFinish s) a else s

/-- The work of SWITCHED begins once its record is in flash; a load that fails reverts (R75, R76, R79). -/
def switchedBegin (s : State) (a : Activation) : State :=
  let k := s.img.roles.active
  let s1 := switchWork s (slotImage s k) (a.kind == .activate)
  if k < 3 ∧ slotBad s k = true then
    let s2 := readUe s1 (slotDram s k) (slotLength s k) 2
    if a.kind ≠ .revert then beginRevert s2 4 none else s2
  else s1

/-- The end of training at SWITCHED: a port not yet ACTIVE is declared failed with CAUSE 6 (R307). -/
def trainingLimit (s : State) : State :=
  forN 6 (fun s p =>
    let x := port s p
    if portEnabled s p && !(x.mode == .active || x.mode == .failed || (x.mode == .parked && x.cause == 16)) then portFail s p 6
    else s) s

/-- The CONFIRMED state is entered: roles become CONF_ROLES; a trial that is confirmed drops the image before the last
(R76, R81). -/
def enterConfirmed (s : State) (cause : Nat) (dropStaged : Bool) : State :=
  let r := if dropStaged then { s.img.roles with staged := 3 } else s.img.roles
  enterImg { s with img := { s.img with roles := r, confRoles := r } } .confirmed cause false

/-- SWITCHED_DONE: TRIAL for an activation, CONFIRMED for a revert or rollback (R76, R79, R81). -/
def switchedDone (s : State) : State :=
  match s.img.act with
  | none => s
  | some a =>
    if s.img.state == .switched && s.img.appends.isEmpty then
      let s1 := trainingLimit (schedLoaded s true)
      match a.kind with
      | .activate => enterImg (bump s1 0x20024) .trial a.cause true
      | .revert => enterConfirmed s1 a.cause false
      | .rollback => enterConfirmed s1 2 false
    else s

/-- The first SOF of TRIAL: the trial timer starts and IMG_ACTIVATE completes (R76, R80). -/
def trialStart (s : State) : State :=
  if s.img.state == .trial && s.img.trialEnd.isNone then
    let s1 := imgDone s (s.img.act.bind (·.cmdId)) .ok []
    { s1 with img := { s1.img with
        trialEnd := some (s.tsc + s.img.trialMs * msCycles), act := s1.img.act.map (fun a => { a with cmdId := none }) } }
  else s

/-- The trial timer has expired, and no command waits in the ring whose doorbell write came before it did: such a one may
be an IMG_CONFIRM in time (R80, R96). -/
def trialExpired (s : State) : Bool :=
  match s.img.trialEnd with
  | some t => s.img.state == .trial && decide (t ≤ s.tsc)
      && !(s.hmi.enabled && !s.hmi.cmdFailed && s.hmi.dbLog.any (fun d => decide (d.2 < t)))
  | none => false

/-- TRIAL_TIMEOUT (R79, R80). -/
def trialTimeout (s : State) : State := if trialExpired s then beginRevert s 1 none else s

/-- At each cycle of the running module: the end of the trial. -/
def trialTick (s : State) : State := if s.boot.power == .running then trialTimeout s else s

/-- What follows a record that has reached flash (R75, R76, R80–R82). -/
def afterAppend (s : State) (r : JRec) : State :=
  if r.state = .staged then
    if s.img.mirroring || r.roles.staged != s.img.roles.staged then s else { s with img := { s.img with mirrorDone := true } }
  else if r.seq ≠ s.img.seq then s
  else
    match r.state, s.img.act with
    | .verified, some _ => enterImg s .quiesced 0 true
    | .quiesced, some _ => quiesceBegin s
    | .switched, some a => switchedBegin s a
    | .confirmed, a =>
      let s1 := { s with img := { s.img with act := none, confirmId := none, trialEnd := none, oldPlan := [] } }
      imgDone (imgDone s1 (a.bind (·.cmdId)) .ok []) s.img.confirmId .ok []
    | _, _ => s

/-- What follows an append that failed twice (R75, R79, R82). -/
def appendFailed (s : State) (a : Append) : State :=
  let r := a.record
  if r.seq ≠ s.img.seq then s
  else
    match r.state, s.img.act with
    | .staged, _ => withdraw s a
    | .verified, some _ => endActivation s 4 false
    | .quiesced, some x => if x.kind = .revert then quiesceBegin s else endActivation s 4 false
    | .switched, some x => if x.kind = .revert then switchedBegin s x else beginRevert s 4 none
    | .trial, some _ => beginRevert s 4 none
    | .confirmed, x =>
      match s.img.confirmId, a.before with
      | some id, some b =>
        let s1 := withdraw s a
        let s2 := { s1 with img := { s1.img with roles := b.roles, confRoles := b.confRoles, confirmId := none } }
        imgDone s2 (some id) .checkFail []
      | _, _ =>
        let s1 := { s with img := { s.img with act := none, oldPlan := [] } }
        match x with
        | some y => imgDone s1 y.cmdId (if y.kind = .rollback then .checkFail else .ok) []
        | none => s1
    | _, _ => s

/-- JOURNAL_APPEND_DONE: the oldest record on its way has been written, or has failed (R75). -/
def appendDone (s : State) (ok : Bool) : State :=
  match s.img.appends with
  | [] => s
  | a :: t =>
    if ok then
      eraseCheck (afterAppend (appendFlash { s with img := { s.img with appends := t } } a.record) a.record)
    else if a.retried then
      let s1 := { s with img := { s.img with appends := t } }
      appendFailed (report s1 { source := 0xC2, address := a.record.seq }) a
    else { s with img := { s.img with appends := { a with retried := true } :: t } }

/-! ### Commands (R72, R73, R78, R80, R81, R86) -/

/-- The outcome of a run of checks in IMG_FAIL_INFO (R88). -/
def noteFail (s : State) (f : Option CheckFail) : State :=
  match f with
  | none => { s with img := { s.img with failStep := 0, failCode := 0, failSection := 0 } }
  | some x => { s with img := { s.img with failStep := x.step, failCode := x.code.code, failSection := x.section_ } }

/-- An activation, revert or rollback is on its way, TRIAL included. -/
def imgBusy (s : State) : Bool := s.img.act.isSome

/-- An image command ends at once: LAST_RESULT. -/
def imgNow (s : State) (st : Status) : State × Reply :=
  ({ s with img := { s.img with lastResult := st.code } }, .now st [])

/-- What a read of an image that meets an uncorrectable word gives its checks: CHECK_FAIL (R419), noted as step 5. -/
def readFail : CheckFail := { step := 5, code := .checkFail, section_ := 0 }

/-- The outcome of the checks of IMG_STAGE over `len` bytes at a DRAM address (R69, R419). -/
def stageVerdict (s : State) (a len : Nat) : Option CheckFail :=
  if readHits s a len then some readFail else stageChecks s (fun i => rd s (a + i)) (some len)

/-- The outcome of the checks of IMG_ACTIVATE over the STAGED slot (R69, R419). -/
def activateVerdict (s : State) : Option CheckFail :=
  let k := s.img.roles.staged
  if slotBad s k then some readFail else fullChecks s (slotReader s k)

/-- IMG_STAGE; its mirror begins by erasing the slot's partition (R72, R78). -/
def runStage (s : State) (p : List Byte) : State × Reply :=
  let src := leAt p 0 8
  let len := leAt p 8 4
  let a := bar2Base s + src
  let fence := fenceQuery s a len
  if src % 64 ≠ 0 ∨ 2 ^ s.hmi.bar2Log2 < src + len then imgNow s .outOfRange
  else if imgBusy s || s.img.confirmId.isSome then imgNow s .busy
  else if fence.1 ≠ 0 ∨ usable s < a + len then imgNow s .outOfRange
  else
    let r : Nat → Byte := fun i => rd s (a + i)
    match stageVerdict s a len with
    | some f => imgNow (noteFail (readUe s a len 2) (some f)) f.code
    | none =>
      let k := stageSlot s
      let s1 := noteFail (copyRange s a (slotDram s k) len) none
      imgNow { s1 with img := { s1.img with
        roles := { s1.img.roles with staged := k }, confRoles := { s1.img.confRoles with staged := k },
        slotVer := vset s1.img.slotVer k (imgVersion r), slotKey := vset s1.img.slotKey k (num r (secOff r 17) 1),
        flash := vset s1.img.flash k [], mirrorDone := false, mirroring := true } } .ok

/-- MIRROR_DONE: the staged image is in flash, and its record is written (R72). -/
def mirrorFinished (s : State) : State :=
  if s.img.mirroring ∧ s.img.roles.staged < 3 ∧ s.img.act = none ∧ s.img.confirmId = none then
    let k := s.img.roles.staged
    let bytes := bytesOf (slotReader s k) 0 (imgLength (slotReader s k))
    let s1 := emit { s with img := { s.img with mirroring := false, flash := vset s.img.flash k bytes } } (.flash (imgFlash k) 3)
    enterImg s1 .staged 0 false
  else s

/-- IMG_ACTIVATE (R73, R76, R78). -/
def runActivate (s : State) (id : Nat) (p : List Byte) : State × Reply :=
  let ms := leAt p 0 4
  if ms ≠ 0 ∧ (ms < 1000 ∨ 600000 < ms) then imgNow s .outOfRange
  else if imgBusy s || s.img.confirmId.isSome then imgNow s .busy
  else if 3 ≤ s.img.roles.staged then imgNow s .badState
  else if !s.img.mirrorDone then imgNow s .busy
  else
    match activateVerdict s with
    | some f =>
      let k := s.img.roles.staged
      imgNow (noteFail (readUe s (slotDram s k) (slotLength s k) 2) (some f)) f.code
    | none =>
      let s1 := beginAct (noteFail s none) { kind := .activate, cmdId := some id, cause := 0 }
      let s2 := { s1 with img := { s1.img with trialMs := if ms = 0 then regN s 0x20010 else ms } }
      (enterImg s2 .verified 0 true, .later)

/-- IMG_CONFIRM, by the arrival stamp of its doorbell write (R78, R80). -/
def runConfirm (s : State) (id arrival : Nat) (p : List Byte) : State × Reply :=
  let late := s.img.act.elim false (fun a => a.kind == .revert && a.cause == 1)
  if s.img.state = .trial then
    if s.img.trialEnd.elim false (fun t => decide (t ≤ arrival)) then imgNow s .timeout
    else if leAt p 0 4 ≠ roleVersion s s.img.roles.active then imgNow s .badState
    else (enterConfirmed { s with img := { s.img with confirmId := some id } } 0 true, .later)
  else if late then imgNow s .timeout
  else if imgBusy s then imgNow s .busy
  else imgNow s .badState

/-- IMG_ROLLBACK (R78, R79, R81). -/
def runRollback (s : State) (id : Nat) : State × Reply :=
  if s.img.state = .trial then (beginRevert s 2 (some id), .later)
  else if imgBusy s || s.img.confirmId.isSome then imgNow s .busy
  else if 3 ≤ s.img.roles.previous then imgNow s .badState
  else
    (enterImg (beginAct s { kind := .rollback, cmdId := some id, cause := 2 }) .quiesced 2 true, .later)

/-- IMG_REVOKE_KEY (R68). -/
def runRevoke (s : State) (p : List Byte) : State × Reply :=
  let k := leAt p 0 1
  let used (role : Nat) : Bool := decide (role < 3) && vget s.img.slotKey role 4 == k
  let others := (List.range 4).any (fun j => j != k && (vget s.fuse.keyHash j none).isSome && !s.fuse.revoked.getLsbD j)
  if 4 ≤ k then imgNow s .outOfRange
  else if used s.img.roles.active || used s.img.roles.previous || !others then imgNow s .badState
  else imgNow { s with fuse := { s.fuse with revoked := s.fuse.revoked ||| (1#4 <<< k) } } .ok

/-! ### Start-up (R83, R84) -/

/-- Flash mirrors of the slots that hold a role come into DRAM, with their versions and keys. -/
def loadSlots (s : State) : State :=
  forN 3 (fun s k =>
    let l := vget s.img.flash k []
    if l.isEmpty then s
    else
      let s1 := wrBytes (zeroRange s (slotDram s k) 0x1000000) (slotDram s k) l
      { s1 with img := { s1.img with
          slotVer := vset s1.img.slotVer k (imgVersion (flashReader s k)),
          slotKey := vset s1.img.slotKey k (num (flashReader s k) (secOff (flashReader s k) 17) 1) } }) s

/-- The roles that R83 selects, with what it writes to the journal; a copy that flash takes up stands for what flash held
before, should it be withdrawn (R82). -/
def selectRoles (s : State) : State :=
  match newerRec (jrecOf s.img.aonRec) (newestFlash s) with
  | none => { s with img := { s.img with
      roles := {}, confRoles := {}, state := .confirmed, seq := 0, cause := 0, aonRec := [], appends := [] } }
  | some j =>
    let fseq := ((newestFlash s).map (·.seq)).getD 0
    let s1 := { s with img := { s.img with
      seq := j.seq, aonRec := jrecBytes j, cause := j.cause, state := if j.activating then .confirmed else j.state,
      appends := if fseq < j.seq then [{ record := j, before := newestFlash s }] else [] } }
    if j.state = .confirmed ∨ j.activating = false then
      { s1 with img := { s1.img with roles := j.roles, confRoles := j.roles } }
    else
      let s2 := { s1 with
        img := { s1.img with roles := j.confRoles, confRoles := j.confRoles, interrupted := true },
        boot := { s1.boot with gather := s1.boot.gather ||| 2 ^ 5 } }
      writeRecord s2 .confirmed 5 false

/-- The image of a role passes every check at start-up. -/
def bootImageOk (s : State) (k : Nat) : Option CheckFail :=
  if k < 3 ∧ (vget s.img.flash k []).isEmpty = false then fullChecks s (flashReader s k)
  else some { step := 1, code := .outOfRange, section_ := 0 }

/-- The STAGED slot's mirror is whole: flash holds its image, and its record is not still on its way there (R72, R73). -/
def mirrored (s : State) : Bool :=
  decide (s.img.roles.staged < 3) && !(vget s.img.flash s.img.roles.staged []).isEmpty
    && s.img.appends.all (fun a => a.record.state != .staged)

/-- Selection and checks of R83 and R84; with no PREVIOUS image IMG_FAIL_INFO keeps what the ACTIVE one failed (log entry 37); the image that will run, if any, is left in `img.cfg`. -/
def selectImage (s : State) : State :=
  let s1 := selectRoles (loadSlots { s with img := { s.img with
    act := none, confirmId := none, trialEnd := none, oldPlan := [], cfg := none, mirroring := false, erasing := false } })
  let s2 := { s1 with img := { s1.img with mirrorDone := mirrored s1 } }
  let r := s2.img.roles
  if 3 ≤ r.active then { s2 with boot := { s2.boot with noImage := true } }
  else
    match bootImageOk s2 r.active with
    | none => { noteFail s2 none with img := { (noteFail s2 none).img with cfg := some (parseImage (flashReader s2 r.active)) } }
    | some f =>
      let s3 := report (noteFail s2 (some f)) { source := 0xC0, address := s2.img.seq }
      match bootImageOk s3 r.previous with
      | none =>
        let n := { r with active := r.previous, previous := r.active }
        let s4 := writeRecord { s3 with
          img := { s3.img with roles := n, confRoles := n, cfg := some (parseImage (flashReader s3 r.previous)) },
          boot := { s3.boot with gather := s3.boot.gather ||| 2 ^ 6 } } .confirmed 6 false
        s4
      | some g =>
        let n := { r with active := 3, previous := 3 }
        let s4 := if r.previous < 3 then noteFail s3 (some g) else s3
        { s4 with img := { s4.img with roles := n, confRoles := n }, boot := { s4.boot with noImage := true } }

end Sys2Proof.Machine
end

