-- ==== Sys2Proof/Machine/BootOps.lean ====
section
/-! DEFINITION. Reset kinds, start-up stages, host boot, boot status, brownout, thermal trip, interlock (chapter 19, with R339, R480, R481, R542). -/

namespace Sys2Proof.Machine

/-! ### Power-on reset and thermal restart (R517, R518, R523) -/

/-- Every present domain ON, every absent one OFF (R482, R518). -/
def allDomainsOn (s : State) : State :=
  { s with pwr := { s.pwr with dom := Vector.ofFn (fun (d : Fin 36) => if domainPresent s d.val then .on else .off), run := none } }

/-- What stays through a loss of power: fuses, flash, the levels of the balls, what has been sent, the waiting commands. -/
def coldState (s : State) (kind : StartKind) : State :=
  allDomainsOn { State.reset with
    pending := s.pending, outs := s.outs, freeCtr := s.freeCtr, fuse := s.fuse,
    pins := { ({} : Pins) with
      intlkAHigh := s.pins.intlkAHigh, intlkBHigh := s.pins.intlkBHigh, fsyncIn := s.pins.fsyncIn,
      bootSrc := s.pins.bootSrc, bootArm := s.pins.bootArm, smbAddr := s.pins.smbAddr },
    boot := { ({} : Boot) with kind := kind, fwA := s.boot.fwA, fwB := s.boot.fwB },
    img := { ({} : Img) with
      flash := s.img.flash, jrnA := s.img.jrnA, jrnB := s.img.jrnB, jrnActiveB := s.img.jrnActiveB },
    cal := { ({} : Cal) with slotA := s.cal.slotA, slotB := s.cal.slotB } }

/-- POWER_ON_RESET: after a brownout it is reported as one (R517, R526). -/
def powerOnReset (s : State) (bootSrc : Nat) (bootArm : Bool) (smbAddr : Nat) : State :=
  let s1 := coldState s (if s.boot.power == .heldInReset then .brownout else .por)
  { s1 with pins := { s1.pins with bootSrc := bootSrc, bootArm := bootArm, smbAddr := smbAddr } }

/-- BROWNOUT: reaction 0x07, whose safe state has a SOURCE that no rule states; then AON loses its supply (R517, R542). -/
def brownout (s : State) : State :=
  let p := free s
  let s1 := parkArrays (enterSafe p.2 (p.1.toNat % 256) true)
  { s1 with boot := { s1.boot with power := .heldInReset }, pins := { s1.pins with highZ := true } }

/-- THERMAL_TRIP: it ends a PWR_SET without its completion (R480, R485). -/
def thermalTrip (s : State) : State :=
  let s1 := ftgStop (parkArrays (enterSafe (bump s 0x60018) 0xB5 true))
  let s2 := forN 36 (fun s d => if domainOn s d || vget s.pwr.dom d .off == .retain then setDomain s d .off else s) s1
  { s2 with
    boot := { s2.boot with power := .tripped, warmAt := none, watchdogAt := none },
    thm := { s2.thm with tripAt := some (s.tsc, s.frame), cool := 0 },
    pwr := { s2.pwr with run := none },
    hmi := { s2.hmi with inFlight := s2.hmi.inFlight.filter (fun f => s2.pwr.run.all (fun r => r.cmdId != f.id)) },
    pins := { s2.pins with highZ := true } }

/-- THERMAL_RESTART: after 4 consecutive die readings below 95 °C, as a power-on reset, with the trip records that AON
keeps; the fault of the trip is reported with the stamp of the trip, and PWR_STATE for it (R481, R487, R490). -/
def thermalRestart (s : State) : State :=
  if s.boot.power == .tripped && decide (4 ≤ s.thm.cool) then
    let s0 := coldState s .thermal
    let s1 := setTally { s0 with boot := { s0.boot with tripFlag := true } } 0x60018 (tally s 0x60018)
    let t := s.thm.tripAt.getD (0, 0)
    let s2 := collect (report { s1 with tsc := t.1, frame := t.2 } { source := 0xB5 })
    postPwr { s2 with tsc := 0, frame := 0 } (presentMask s) 0 1
  else s

/-! ### Warm reset (R518, R528) -/

/-- A warm reset begins: reaction 0x0F; the host message interface stops fetching. -/
def warmBegin (s : State) (source : Nat) (kind : StartKind) (hostBoot : Bool) : State :=
  let s1 := parkScanner (parkArrays (enterSafe (bump s 0x68) source true)) 3 true
  { s1 with boot := { s1.boot with
      kind := kind, warmAt := some s.tsc, hostBoot := hostBoot, watchdogAt := none } }

/-- A write to GLB_RESET (R530): whether it is accepted, and the warm reset it starts. -/
def glbResetOk (v : Nat) : Bool := bits v 31 24 == 0xA5 && bitAt v 0

/-- Registers of a warm reset: RWS fields keep their values, the others return to their reset values. -/
def warmRegs (l : List (Nat × Word)) : List (Nat × Word) :=
  l.foldl (fun m e =>
    match regRow e.1 with
    | some r =>
      let keep := BitVec.ofNat 32 r.rws
      mapSet regReset m e.1 ((e.2 &&& keep) ||| (regReset e.1 &&& ~~~keep))
    | none => m) []

/-- Tallies a warm reset keeps: those of FLT and THM, IMG_ACT_TALLY, IMG_REVERT_TALLY, GLB_WARM_TALLY (R518). -/
def warmTally (off : Nat) : Bool :=
  decide ((0x40000 ≤ off ∧ off < 0x50000) ∨ (0x60000 ≤ off ∧ off < 0x70000)) || off == 0x20024 || off == 0x20028 || off == 0x68

/-- DRAM domains that were OFF, as a mask. -/
def dramOff (s : State) : Nat := maskOf ((List.range 8).map (fun d => vget s.pwr.dom d .off == .off))

/-- The switched logic is reset 5 ms after a warm reset began, and stage 1 begins (R518, R528). -/
def warmReset (s : State) (t : Nat) : State :=
  allDomainsOn { State.reset with
    pending := s.pending, outs := s.outs, freeCtr := s.freeCtr, fuse := s.fuse, tsc := s.tsc, frame := s.frame,
    regs := warmRegs s.regs, tallies := s.tallies.filter (fun e => warmTally e.1),
    reports := s.reports,
    pins := { s.pins with
      audMclk := false, fsyncOut := false, highZ := false, hlDac := [0, 0, 0], fastDrv := 32768, slowDrv := 32768 },
    boot := { ({} : Boot) with
      kind := s.boot.kind, stage := 1, startTsc := t, fwA := s.boot.fwA, fwB := s.boot.fwB, hostBoot := s.boot.hostBoot,
      sysclkMissing := s.boot.sysclkMissing, warmOff := dramOff s },
    smbPtr := s.smbPtr,
    hmi := { ({} : Hmi) with
      nextId := s.hmi.nextId, busMaster := s.hmi.busMaster, d0 := s.hmi.d0, linkUp := s.hmi.linkUp,
      bar2Log2 := s.hmi.bar2Log2, bar2Addr := s.hmi.bar2Addr, msix := s.hmi.msix, msixPending := s.hmi.msixPending },
    flt := { s.flt with map := [], quietFrom := if s.ftgOn then s.tsc else s.flt.quietFrom },
    img := { ({} : Img) with
      flash := s.img.flash, jrnA := s.img.jrnA, jrnB := s.img.jrnB, jrnActiveB := s.img.jrnActiveB, aonRec := s.img.aonRec,
      seq := s.img.seq },
    dram := s.dram, badWords := s.badWords, poisoned := s.poisoned,
    pbu := { ({} : Pbu) with fenced := s.pbu.fenced },
    cal := { s.cal with run := none, store := none },
    lsd := { ({} : Lsd) with intlkOpen := s.lsd.intlkOpen },
    mem := { ({} : Mem) with ch := s.mem.ch.map (fun x => { x with debt := 0 }), ownFrom := if s.ftgOn then s.tsc else s.mem.ownFrom },
    jtag := s.jtag, vauxDown := s.vauxDown }

/-- At each cycle: the moment at which the switched logic is reset; a scanner still parking is forced (R528), and a
message interface that was enabled no longer requires a latency (R93). -/
def warmTick (s : State) : State :=
  match s.boot.warmAt with
  | some t =>
    if t + 5 * msCycles ≤ s.tsc then sendLtr s (warmReset (if s.hls.mode == .parking then parkForced s else s) t) else s
  | none => s

/-- SUPERVISOR_WATCHDOG (R495, R517). -/
def supervisorWatchdog (s : State) : State :=
  report { s with boot := { s.boot with watchdogAt := some s.tsc } } { source := 0xF0 }

/-- WATCHDOG_RESET: 1 ms after the record of source 0xF0 (R528). -/
def watchdogReset (s : State) : State :=
  match s.boot.watchdogAt with
  | some t => if t + msCycles ≤ s.tsc then warmBegin s 0xF0 .watchdog false else s
  | none => s

/-- CLOCK_LOSS, or SYSCLK's edges back (R495, R507). -/
def clockLoss (s : State) (lost : Bool) : State :=
  let s1 := { s with boot := { s.boot with sysclkMissing := lost } }
  if lost then report s1 { source := 0xF3 } else s1

/-! ### Start-up stages (R519–R526) -/

/-- Set bits of the boot status in the making. -/
def gather (s : State) (mask : Nat) (on : Bool) : State :=
  if on then { s with boot := { s.boot with gather := s.boot.gather ||| mask } } else s

/-- The stage in progress. -/
def setStage (s : State) (n : Nat) : State := { s with boot := { s.boot with stage := n } }

/-- BOOT_STATUS at the end of a start (R526). -/
def bootStatus (s : State) : Nat :=
  let k := match s.boot.kind with
    | .por => 1
    | .brownout => 1 + 16
    | .thermal => 2
    | .warm => 4
    | .watchdog => 8
  k + (s.boot.gather / 32 * 32) % 2 ^ 18

/-- BOOT_STATUS is set. -/
def endStart (s : State) : State := { s with boot := { s.boot with status := bootStatus s } }

/-- Stage 9 begins: GLB_BOOT_TIME; without an image the start ends here with FTG0 stopped (R523, R526). -/
def enterRunning (s : State) : State :=
  let s1 := { s with boot := { s.boot with stage := 9, bootMs := (s.tsc - s.boot.startTsc) / msCycles } }
  if s.img.cfg.isNone then endStart (gather s1 (2 ^ 7) true) else s1

/-- Stage 8 begins: the work of SWITCHED for the selected image; stage 9 follows at once without one (R523). -/
def enterLoad (s : State) : State :=
  match s.img.cfg with
  | some c => switchWork (setStage s 8) (some c) false
  | none => enterRunning s

/-- Whether this start is a warm reset's. -/
def warmStart (s : State) : Bool := s.boot.kind == .warm || s.boot.kind == .watchdog

/-- Stage 2: the firmware slot that the ROM runs (R521); without a valid one the ROM waits in stage 15. -/
def stageFirmware (s : State) : State :=
  let a := s.boot.fwA
  let b := s.boot.fwB
  if s.pins.bootSrc = 1 ∨ (!a.valid && !b.valid) = true then setStage s 15
  else
    let useB := b.valid && (!a.valid || decide (a.seq < b.seq))
    let s1 := gather (gather s (2 ^ 8) useB) (2 ^ 10) (a.valid != b.valid)
    setStage { s1 with boot := { s1.boot with fwVer := if useB then b.version else a.version } } 3

/-- Stage 3: the channels trained; in a warm reset firmware training only where a domain was OFF, one periodic step
elsewhere (R432, R435, R523). A failed channel ends the start without an image. -/
def stageDram (s : State) (r : StageResult) : State :=
  let warm := warmStart s
  let cold (c : Nat) : Bool := !warm || bitAt s.boot.warmOff (c / 2)
  let s1 := forN 16 (fun s c =>
    if cold c then modChan s c (fun x => { x with mode := if bitAt r.failedChannels c then .failed else .ok })
    else
      match r.steps.find? (fun e => e.1 == c) with
      | some e => periodicStep s c e.2
      | none => s) s
  let bad := (List.range 16).filter (fun c => cold c && bitAt r.failedChannels c)
  let s2 := bad.foldl (fun s c => report s { source := 0x24, master := c }) { s1 with mem := { s1.mem with ready := true, afterReset := 0 } }
  let s3 := gather s2 (2 ^ 12) (!bad.isEmpty)
  setStage (if bad.isEmpty then s3 else { s3 with boot := { s3.boot with noImage := true } }) (if warm then 5 else 4)

/-- Stage 4: every builder tested, and those that fail fenced (R240, R258). -/
def stageSelfTest (s : State) (r : StageResult) : State :=
  let f := r.failedBuilders % 2 ^ 24
  setStage (gather { s with pbu := { s.pbu with fenced := Vector.ofFn (fun (n : Fin 24) => bitAt f n.val) } } (2 ^ 11) (decide (f ≠ 0))) 5

/-- Stage 5: the pin test of every present bank (R335, R336). -/
def stagePinTest (s : State) (r : StageResult) : State :=
  let p := pinTest s (2 ^ nBanks s - 1) r.shorts
  let s1 := gather p.1 (2 ^ 13) (decide (p.2 ≠ 0))
  if s1.boot.noImage then enterRunning s1 else setStage s1 6

/-- Stage 6: an image is selected (R83–R85). -/
def stageImage (s : State) : State :=
  let s1 := selectImage s
  if warmStart s then enterLoad s1 else setStage s1 7

/-- Stage 7: the snapshot, then a run of every present channel (R457–R460, R465). -/
def stageCal (s : State) (r : StageResult) : State :=
  let s1 := calLoad s
  let s2 := calRunDone (calStart s1 none (calPresentList s1)) r.vrefUv r.meas
  let failed := s2.cal.vrefBad || s2.cal.ch.toList.any (·.failed)
  enterLoad (gather (gather s2 (2 ^ 14) failed) (2 ^ 15) (s1.cal.source == 0))

/-- BOOT_STAGE_DONE: the stage in progress has done its work (R523). -/
def bootStageDone (s : State) (r : StageResult) : State :=
  if s.boot.warmAt.isSome then s
  else if s.boot.stage = 0 then
    let s1 := setStage { s with pins := { s.pins with highZ := false } } 1
    if r.safePathOk then s1 else report (gather s1 (2 ^ 16) true) { source := 0x02 }
  else if s.boot.stage = 1 then
    setStage { s with hmi := { s.hmi with linkUp := true } } (if s.boot.hostBoot then 15 else 2)
  else if s.boot.stage = 2 then stageFirmware s
  else if s.boot.stage = 3 then stageDram s r
  else if s.boot.stage = 4 then stageSelfTest s r
  else if s.boot.stage = 5 then stagePinTest s r
  else if s.boot.stage = 6 then stageImage s
  else if s.boot.stage = 7 then stageCal s r
  else if s.boot.stage = 8 then enterRunning (trainingLimit (schedLoaded s true))
  else s

/-! ### Host boot (R522) -/

/-- The ROM waits for host boot: stage 15, not under BOOT_SRC 0b10 unless GLB_RESET asked for it. -/
def hostBootOpen (s : State) : Bool := s.boot.stage == 15 && (s.pins.bootSrc != 2 || s.boot.hostBoot)

/-- The bytes of the boot window. -/
def windowReader (s : State) : Nat → Byte := fun i => mapGet (fun _ => 0) s.boot.window i

/-- The signature of a firmware body, by R68 over what precedes it. -/
def bodySigned (s : State) (r : Nat → Byte) (len : Nat) : Bool :=
  let o := len - 256
  let k := num r o 1
  let key := bytesOf r (o + 16) 97
  decide (k < 4) && (vget s.fuse.keyHash k none == some (Config.sha384 key)) && !s.fuse.revoked.getLsbD k
    && Config.ecdsaVerifies key (bytesOf r (o + 128) 48) (bytesOf r (o + 176) 48) (Config.sha384 (bytesOf r 0 o))

/-- The checks of a firmware body in the order of R522: LENGTH, MAGIC and FORMAT, signature. -/
def bodyCheck (s : State) (len : Nat) : Option Status :=
  let r := windowReader s
  if len < 4096 ∨ 4194240 < len ∨ len % 64 ≠ 0 ∨ num r 12 4 ≠ len then some .outOfRange
  else if num r 0 4 ≠ 0x5746474B ∨ num r 4 2 ≠ 1 then some .checkFail
  else if !bodySigned s r len then some .authFail
  else none

/-- The body is written to the slot that does not hold the newest valid firmware; a read-back that differs leaves that
slot invalid. -/
def writeFirmware (s : State) (version : Nat) (readBackOk : Bool) : State :=
  let a := s.boot.fwA
  let b := s.boot.fwB
  let newestA := a.valid && (!b.valid || decide (b.seq ≤ a.seq))
  let seq := if newestA then a.seq + 1 else if b.valid then b.seq + 1 else 1
  let slot : FwSlot := { valid := readBackOk, seq := seq, version := version }
  let s1 := emit s (.flash (if newestA then 0x00500000 else 0x00100000) 3)
  { s1 with boot := { s1.boot with
      fwA := if newestA then a else slot, fwB := if newestA then slot else b,
      result := if readBackOk then 0 else Status.checkFail.code } }

/-- GO: the body is checked, written if FLASH asks, and run from stage 3. -/
def hostBootGo (s : State) (v : Nat) (readBackOk : Bool) : State :=
  match bodyCheck s (bits v 22 0) with
  | some e => { s with boot := { s.boot with result := e.code } }
  | none =>
    let ver := num (windowReader s) 8 4
    let s1 := { s with boot := { s.boot with result := 0, fwVer := ver, hostBoot := false } }
    let s2 := if bitAt v 30 then writeFirmware s1 ver readBackOk else s1
    setStage (gather { s2 with boot := { s2.boot with window := [] } } (2 ^ 9) true) 3

/-! ### FTG0 start (R37, R279, R525) -/

/-- FTG0_START; the first of a start-up sets the boot status (R525, R526). -/
def ftg0Start (s : State) : State :=
  if ftgMayRun s then
    let first := s.boot.firstStart
    let s1 := trialStart (ftgStart s first)
    if first then endStart { s1 with boot := { s1.boot with firstStart := false } } else s1
  else s

/-! ### Interlock (R339) -/

/-- INTERLOCK_OPEN: the levels of the two channels after 100 ns. An opening raises fault 0x00, whose reaction is the safe
state with the shutter. -/
def interlockAct (s : State) (aHigh bHigh : Bool) : State :=
  let s1 := interlockPins s aHigh bHigh
  if interlockOpen s1 && !s.lsd.intlkOpen then report s1 { source := 0x00, master := if aHigh then 1 else 0 } else s1

/-- INTERLOCK_DISCREPANCY: the channels have disagreed for more than 20 ms. -/
def interlockDisagree (s : State) : State :=
  if s.pins.intlkAHigh == s.pins.intlkBHigh && decide (s.pins.intlkAt + 20 * msCycles < s.tsc) then
    report s { source := 0x01, master := if s.pins.intlkAHigh then 1 else 0 }
  else s

end Sys2Proof.Machine
end

