-- ==== Sys2Proof/Machine/Commands.lean ====
section
/-! DEFINITION. Commands of the host message interface: their opcodes, lengths and instances, the checks of R131, their order within an instance (R122), fetching (R120), and the end of every step. -/

namespace Sys2Proof.Machine

/-! ### The opcodes (R128, R129, R131) -/

/-- What is fixed about an opcode: accepted under version 1, least and greatest LENGTH, largest UNIT that any variant has. -/
structure OpInfo where
  v1 : Bool
  lo : Nat
  hi : Nat
  unitMax : Nat
deriving DecidableEq, Repr

/-- Opcodes of the HMI, image, memory and composition units. -/
def opsLow : List (Nat × OpInfo) := [
  (0x0001, ⟨true, 4, 4, 0⟩), (0x0002, ⟨true, 0, 40, 0⟩),
  (0x0201, ⟨true, 12, 12, 0⟩), (0x0202, ⟨true, 4, 4, 0⟩), (0x0203, ⟨true, 4, 4, 0⟩), (0x0204, ⟨true, 0, 0, 0⟩),
  (0x0205, ⟨false, 1, 1, 0⟩), (0x0301, ⟨false, 16, 16, 0⟩),
  (0x0401, ⟨true, 32, 32, 15⟩), (0x0402, ⟨true, 20, 20, 15⟩), (0x0403, ⟨true, 24, 24, 0⟩), (0x0404, ⟨false, 2, 2, 15⟩)]

/-- Opcodes of the builders, the Reckoner, the Plane Link and the light-source drive. -/
def opsMid : List (Nat × OpInfo) := [
  (0x0601, ⟨false, 0, 0, 23⟩), (0x0701, ⟨false, 0, 0, 0⟩),
  (0x0801, ⟨false, 4, 4, 5⟩), (0x0802, ⟨true, 4, 4, 5⟩), (0x0803, ⟨true, 0, 0, 5⟩), (0x0804, ⟨true, 0, 0, 5⟩),
  (0x0901, ⟨true, 2, 2, 0⟩), (0x0902, ⟨true, 1, 1, 0⟩), (0x0903, ⟨true, 4, 4, 0⟩), (0x0904, ⟨false, 2, 2, 0⟩),
  (0x0905, ⟨false, 1, 1, 0⟩), (0x0906, ⟨false, 8, 8, 2⟩), (0x0907, ⟨false, 0, 0, 11⟩)]

/-- Opcodes of the Loop Engine, the scanner, the DRAM controller, audio, calibration, power and faults. -/
def opsHigh : List (Nat × OpInfo) := [
  (0x0A01, ⟨true, 12, 12, 23⟩), (0x0A02, ⟨false, 0, 0, 23⟩), (0x0B01, ⟨false, 0, 0, 0⟩), (0x0B02, ⟨false, 0, 0, 0⟩),
  (0x0D01, ⟨false, 4, 4, 15⟩), (0x0E01, ⟨false, 8, 8, 4⟩), (0x0E02, ⟨false, 0, 0, 4⟩),
  (0x0F01, ⟨false, 16, 16, 0⟩), (0x0F02, ⟨false, 0, 0, 0⟩), (0x1001, ⟨false, 16, 16, 0⟩), (0x1002, ⟨false, 0, 0, 34⟩),
  (0x1101, ⟨false, 16, 16, 0⟩), (0x1102, ⟨false, 4, 4, 0⟩)]

/-- What is fixed about an opcode; `none` when it is unknown. -/
def opInfo (op : Nat) : Option OpInfo := ((opsLow ++ opsMid ++ opsHigh).find? (fun e => e.1 == op)).map (·.2)

/-- The variant lacks the instance that UNIT names (R9, R129). -/
def instanceAbsent (s : State) (op u : Nat) : Bool :=
  let unit := op / 256
  if op = 0x0401 ∨ op = 0x0402 ∨ op = 0x0404 then !layerPresent s u
  else if unit = 8 then decide (nPorts s ≤ u)
  else if op = 0x0907 then decide (nBanks s ≤ u)
  else if unit = 0x0B then !hasHls s
  else if unit = 0x0E then !audPresent s u
  else if op = 0x1002 then !sensorPresent s u
  else false

/-- The power domains that a command's unit stands in (R482, R483). -/
def opDomains (op u : Nat) : List Nat :=
  let unit := op / 256
  if unit = 4 then 28 :: (if op = 0x0403 then [] else [if u < 4 then 22 + u else if u < 10 then 26 else 27])
  else if unit = 7 then [29]
  else if unit = 8 then [8 + u]
  else if unit = 9 then [31]
  else if unit = 0x0A then [30]
  else if unit = 0x0B then [32]
  else if unit = 0x0D then [u / 2]
  else if unit = 0x0E then [33]
  else []

/-- Steps 1 and 3–5 of R131 for a command that carries no TAG in flight. -/
def headerCheck (s : State) (op : Nat) (c : Cmd) : Option Status :=
  let ver : Version := s.hmi.version.getD ⟨2, 0⟩
  let noCpl := decide (ver.major = 2 ∧ 3 ≤ ver.minor)
  if s.hmi.version.isNone ∧ op ≠ 0x0001 then some .version
  else
    match opInfo op with
    | none => some .badOpcode
    | some i =>
      if ver.major = 1 ∧ i.v1 = false then some .badOpcode
      else if c.length.toNat < i.lo ∨ i.hi < c.length.toNat then some .badLength
      else if bits c.flags.toNat 7 2 ≠ 0 ∨ c.reserved ≠ 0 then some .outOfRange
      else if c.flags.getLsbD 1 = true ∧ noCpl = false then some .unsupported
      else if i.unitMax < c.unit.toNat then some .outOfRange
      else if instanceAbsent s op c.unit.toNat then some .unitAbsent
      else none

/-! ### HELLO, ECHO, MEM_FENCE_QUERY (R133–R135, R138, R168) -/

/-- The device's own versions, highest first (R134). -/
def ownVersions : List Version := [⟨2, 3⟩, ⟨2, 2⟩, ⟨2, 1⟩, ⟨2, 0⟩, ⟨1, 4⟩, ⟨1, 3⟩, ⟨1, 2⟩, ⟨1, 1⟩, ⟨1, 0⟩]

/-- A version as one number, ordered by major, then by minor. -/
def verNum (v : Version) : Nat := 256 * v.major + v.minor

/-- The highest common version (R134). -/
def chooseVersion (lo hi : Nat) : Option Version := ownVersions.find? (fun v => decide (lo ≤ verNum v ∧ verNum v ≤ hi))

/-- The result of HELLO (R133). -/
def helloResult (s : State) (v : Version) : List Byte :=
  leBytes 1 v.major ++ leBytes 1 v.minor ++ leBytes 1 2 ++ leBytes 1 3 ++ leBytes 2 256 ++ leBytes 2 0
    ++ leBytes 2 (partCode s.fuse.variant) ++ leBytes 2 s.fuse.stepping.toNat ++ leBytes 4 s.boot.status
    ++ leBytes 8 s.fuse.serial.toNat ++ leBytes 4 (roleVersion s s.img.roles.active)

/-- HELLO. -/
def runHello (s : State) (id : Nat) (p : List Byte) : State × Reply :=
  let lo := 256 * byteAt p 0 + byteAt p 1
  let hi := 256 * byteAt p 2 + byteAt p 3
  if hi < lo then (s, .now .outOfRange [])
  else if s.hmi.inFlight.any (fun f => f.id != id && f.done.isNone) then (s, .now .busy [])
  else
    match chooseVersion lo hi with
    | none => (s, .now .version [])
    | some v => ({ s with hmi := { s.hmi with version := some v } }, .now .ok (helloResult s v))

/-- MEM_FENCE_QUERY. -/
def runFenceQuery (s : State) (p : List Byte) : State × Reply :=
  let a := leAt p 0 8
  let n := leAt p 8 8
  if n = 0 ∨ usable s < n ∨ usable s < a + n then (s, .now .outOfRange [])
  else
    let q := fenceQuery s a n
    (s, .now .ok (leBytes 1 q.1 ++ leBytes 1 q.2.1 ++ leBytes 2 q.2.2.1 ++ leBytes 4 0 ++ leBytes 8 q.2.2.2))

/-! ### Running a command -/

/-- The result of a command that a check of R131 refuses, or whose domain is off: empty but for CMP_COMMIT (R178). -/
def refusedResult (op : Nat) : List Byte := if op = 0x0403 then commitResult 0 0 0 255 else []

/-- Commands of the HMI, image, memory, composition and builder units and the Reckoner: step 6 of R131 and what follows. -/
def runLow (s : State) (f : InFlight) (p : List Byte) : State × Reply :=
  let u := f.cmd.unit.toNat
  let op := f.opcode
  if op = 0x0001 then runHello s f.id p
  else if op = 0x0002 then (s, .now .ok p)
  else if op = 0x0201 then runStage s p
  else if op = 0x0202 then runActivate s f.id p
  else if op = 0x0203 then runConfirm s f.id f.arrival p
  else if op = 0x0204 then runRollback s f.id
  else if op = 0x0205 then runRevoke s p
  else if op = 0x0301 then runFenceQuery s p
  else if op = 0x0401 then runLayerSurface s u p
  else if op = 0x0402 then runLayerGeom s u p
  else if op = 0x0403 then
    (if commitPayloadOk (decide (f.ver.major = 1)) p then runCommit s f.arrival p else (s, .now .outOfRange (refusedResult op)))
  else if op = 0x0404 then runLayerReady s u f.arrival p
  else if op = 0x0601 then runPbuTest s u f.id
  else runRestore s f.id

/-- Commands of the Plane Link and the light-source drive. -/
def runMid (s : State) (f : InFlight) (p : List Byte) : State × Reply :=
  let u := f.cmd.unit.toNat
  let op := f.opcode
  if op = 0x0801 then runRetrain s u f.id p
  else if op = 0x0802 then runPark s u f.id p
  else if op = 0x0803 then runUnpark s u f.id
  else if op = 0x0804 then runReadStatus s u f.id
  else if op = 0x0901 then runRearm s p
  else if op = 0x0902 then runSafe s p
  else if op = 0x0903 then runBrightness s p
  else if op = 0x0904 then runPinTest s f.id p f.shorts
  else if op = 0x0905 then runColourLock s f.id p
  else if op = 0x0906 then runDerate s u p
  else runLinkRestart s u f.id

/-- Commands of the Loop Engine, the scanner, the DRAM controller, audio, calibration, power and faults. -/
def runHigh (s : State) (f : InFlight) (p : List Byte) : State × Reply :=
  let u := f.cmd.unit.toNat
  let op := f.opcode
  if op = 0x0A01 then runLpeSwap s u f.id p
  else if op = 0x0A02 then runSlotReset s u f.id
  else if op = 0x0B01 then runHlsStart s f.id
  else if op = 0x0B02 then runHlsPark s f.id
  else if op = 0x0D01 then runMemTrain s u f.id p
  else if op = 0x0E01 then runAudStart s u f.id p
  else if op = 0x0E02 then runAudStop s u f.id
  else if op = 0x0F01 then runCalRun s f.id p
  else if op = 0x0F02 then runCalStore s f.id f.arrival
  else if op = 0x1001 then
    (if s.boot.power == .tripped then (s, .now .badState []) else runPwrSet s f.id p)
  else if op = 0x1002 then runClearMinMax s u
  else if op = 0x1101 then runInject s p
  else runReadLog s p

/-- The command's own effect: its payload is what LENGTH gives (R125). A unit whose domain is not ON refuses what its
payload checks let pass (R482). -/
def runOp (s : State) (f : InFlight) : State × Reply :=
  let p := f.cmd.payload.take f.cmd.length.toNat
  let r := if f.opcode < 0x0800 then runLow s f p else if f.opcode < 0x0A00 then runMid s f p else runHigh s f p
  if (opDomains f.opcode f.cmd.unit.toNat).all (domainOn s) then r
  else
    match r.2 with
    | .now .outOfRange res => (s, .now .outOfRange res)
    | _ => (s, .now .badState (refusedResult f.opcode))

/-- A command runs; its completion now, or later by an event (R122). -/
def startCmd (s : State) (f : InFlight) : State :=
  let r := runOp (withInFlight s (s.hmi.inFlight.map (fun g => if g.id == f.id then { g with waiting := false } else g))) f
  match r.2 with
  | .now st res => complete r.1 f.id st res
  | .later => r.1

/-- The kind of instance that an opcode's UNIT counts: 0 the whole unit, 1 the primaries and 2 the banks of the light-source
drive, 3 the unit's one kind of instance (R129). -/
def instanceKind (op : Nat) : Nat :=
  if op = 0x0906 then 1
  else if op = 0x0907 then 2
  else if (opInfo op).elim true (fun i => i.unitMax == 0) then 0
  else 3

/-- Two commands address the same unit instance (R122). -/
def sameInstance (a b : InFlight) : Bool :=
  a.opcode / 256 == b.opcode / 256 && instanceKind a.opcode == instanceKind b.opcode && a.cmd.unit == b.cmd.unit

/-- Opcodes whose chapter answers BUSY to a second one while the first has not ended (R135, R285, R467, R484). -/
def answersBusy (op : Nat) : Bool := [0x0001, 0x0701, 0x0F01, 0x0F02, 0x1001].contains op

/-- An earlier command of the same instance has not completed. What its own rule answers with BUSY does not wait: image
commands (R78), and a second command of `answersBusy` behind the first (R122, log entry 22). -/
def mustWait (l : List InFlight) (f : InFlight) : Bool :=
  f.opcode / 256 != 2 && l.any (fun g => decide (g.id < f.id) && g.done.isNone && sameInstance g f
    && !(answersBusy f.opcode && g.opcode == f.opcode))

/-- Start every command that waits no longer, oldest first. -/
def startWaiting (n : Nat) (s : State) : State :=
  match n with
  | 0 => s
  | k + 1 =>
    match s.hmi.inFlight.find? (fun f => f.waiting && !mustWait s.hmi.inFlight f) with
    | none => s
    | some f => startWaiting k (startCmd s f)

/-- The command that arrives, as it stands in flight (R120, R123, R126, R135). -/
def inFlightOf (s : State) (op : Nat) (c : Cmd) (arrival : Nat) (shorts : List (Nat × Nat)) (dup : Bool) : InFlight :=
  { id := s.hmi.nextId, opcode := op, cmd := c, waiting := false, mute := false, ver := s.hmi.version.getD ⟨2, 0⟩,
    head := s.hmi.cmdHead, arrival := arrival, dup := dup, shorts := shorts, done := none }

/-- The state with one more command in flight. -/
def enterFlight (s : State) (f : InFlight) : State :=
  { s with hmi := { s.hmi with inFlight := s.hmi.inFlight ++ [f], nextId := s.hmi.nextId + 1 } }

/-- It carries the TAG of a command in flight (R123); with no version negotiated only HELLO comes this far (R131). -/
def dupTag (s : State) (op : Nat) (c : Cmd) : Bool :=
  (s.hmi.version.isSome || op == 1) && s.hmi.inFlight.any (fun g => g.cmd.tag == c.tag && g.done.isNone)

/-- A command enters (R120, R122, R123, R131): its checks, then it runs or waits for its instance. -/
def accept (s : State) (op : Nat) (c : Cmd) (arrival : Nat) (shorts : List (Nat × Nat)) : State :=
  let f := inFlightOf s op c arrival shorts (dupTag s op c)
  if f.dup then complete (enterFlight s f) f.id .badState (refusedResult op)
  else
    match headerCheck s op c with
    | some st => complete (enterFlight s f) f.id st (refusedResult op)
    | none =>
      if mustWait s.hmi.inFlight f then enterFlight s { f with waiting := true }
      else startCmd (enterFlight s f) f

/-! ### Fetching (R119, R120, R524) -/

/-- The device fetches: rings running, bus mastering, from stage 8 on, below 256 in flight, with completion space. -/
def canFetch (s : State) : Bool :=
  ringsRun s && canMaster s && s.boot.warmAt.isNone && decide (8 ≤ s.boot.stage ∧ s.boot.stage ≤ 9)
    && s.boot.power != .heldInReset && decide (flying s < 256) && s.hmi.cplQueue.isEmpty && cplWritable s

/-- The arrival stamp of the command at the head: that of the doorbell write that first included it (R96). -/
def headStamp (s : State) : Nat :=
  match s.hmi.dbLog with
  | [] => s.tsc
  | e :: _ => e.2

/-- The head moves past one entry; the phase inverts at index 0 (R118). -/
def advanceHead (s : State) : State :=
  let n := (s.hmi.cmdHead + 1) % cmdSize s
  let log := match s.hmi.dbLog with
    | [] => []
    | e :: t => if e.1 = n then t else e :: t
  { s with hmi := { s.hmi with
    cmdHead := n, cmdPhase := if n = 0 then !s.hmi.cmdPhase else s.hmi.cmdPhase,
    dbLog := if n = s.hmi.cmdTail then [] else log } }

/-- The command an entry spells (R125). -/
def entryCmd (b : List Byte) : Cmd :=
  { tag := BitVec.ofNat 16 (leAt b 4 2), unit := BitVec.ofNat 16 (leAt b 6 2), length := BitVec.ofNat 8 (byteAt b 2),
    flags := BitVec.ofNat 8 (byteAt b 3 / 2 * 2), reserved := BitVec.ofNat 64 (leAt b 8 8), payload := (b.drop 16).take 48 }

/-- Once no command is to be fetched, no host write stands behind the doorbell of one (R159). -/
def forgetWrites (s : State) : State :=
  if s.hmi.cmdHead == s.hmi.cmdTail && !s.cmp.writes.isEmpty then { s with cmp := { s.cmp with writes := [] } } else s

/-- COMMAND_FETCH: `entry` is what the read of the entry gave, `none` when its one retry failed too; `cplFails` says that
the write of this command's completion fails. -/
def commandFetch (s : State) (entry : Option (List Byte)) (cplFails : Bool) (shorts : List (Nat × Nat)) : State :=
  if !canFetch s || s.hmi.cmdHead == s.hmi.cmdTail then s
  else
    match entry with
    | none => ringError s 0 2 s.hmi.cmdHead
    | some b =>
      if bitAt (byteAt b 3) 0 != s.hmi.cmdPhase then ringError s 0 1 s.hmi.cmdHead
      else
        let stamp := headStamp s
        let s1 := advanceHead s
        if cplFails then
          let s2 := accept { s1 with hmi := { s1.hmi with cplFailed := true } } (leAt b 0 2) (entryCmd b) stamp shorts
          let s3 := { s2 with hmi := { s2.hmi with cplFailed := false } }
          if s3.hmi.inFlight.any (fun f => f.id == s1.hmi.nextId) then s3 else ringError s3 1 3 s3.hmi.cplTail
        else accept s1 (leAt b 0 2) (entryCmd b) stamp shorts

/-- A message command arrives by itself: as a fetched entry with this opcode and the expected phase, its stamp now. -/
def message (s : State) (op : Nat) (c : Cmd) (shorts : List (Nat × Nat)) : State :=
  if canFetch s then accept s op c s.tsc shorts else s

/-! ### The end of a step -/

/-- A fatal fault has been recorded since `before`; an injection with REACT 0 acts on nothing (R511). -/
def newFatal (before s : State) : Bool :=
  decide (s.flt.head ≠ before.flt.head) && (s.flt.log.takeWhile (fun r => r.seq != before.flt.head)).any (fun r => r.cls == 2 && !r.silent)

/-- The collector takes the step's reports, with what a fatal fault does to an activation and the exit conditions
(R79, R497, R506). -/
def settle (before s : State) : State :=
  let s1 := collect s
  let s2 := if newFatal before s1 then collect (activationFatal s1) else s1
  collect (exitConditions before s2)

/-- The state with a queue. -/
def withQueue (s : State) (q : List Instr) : State := { s with pending := q }

/-- The end of every command's meaning: reports are collected, and commands whose instance is free start. The queue of
waiting commands is the sender's: it stays as it was. -/
def finish (before s : State) : State :=
  let s1 := settle before s
  withQueue (settle s1 (startWaiting s1.hmi.inFlight.length s1)) before.pending

/-- An event of the running module: nothing happens while it is held in reset or its switched domains are off by a trip,
or while another reset is on its way. -/
def event (s : State) (f : State → State) : State :=
  if s.boot.power == .running then finish s (f s) else s

/-- An event of the host interface, which a trip leaves running (R480). -/
def hostEvent (s : State) (f : State → State) : State :=
  if s.boot.power == .heldInReset then s else finish s (f s)

end Sys2Proof.Machine
end

