-- ==== Sys2Proof/Machine/Flags.lean ====
section
/-! DEFINITION. What registers, windows and the SMBus status byte read as: every read-only field of the register tables, computed from the state that holds it (R17, R18, R28, and the register rules of each chapter). -/

namespace Sys2Proof.Machine

/-- The SAT register of a list of tallies, bit 0 first (R18). -/
def satWord (s : State) (l : List Nat) : Nat := maskOf (l.map (tallySat s))

/-- Bits 0 to n−1 from a predicate. -/
def bitsWhere (n : Nat) (p : Nat → Bool) : Nat := maskOf ((List.range n).map p)

/-- Two 16-bit values, the second in bits 31:16. -/
def pack16 (lo hi : Nat) : Nat := fld 15 0 lo + fld 31 16 hi

/-- The shadows of a requester (R28). -/
def shadowsOf (s : State) (q : Requester) : Shadows := match q with | .pcie => s.shPcie | .smbus => s.shSmb

/-! ### GLB (R8, R28, R106, R530) -/

/-- GLB_CAP (R8). -/
def glbCap (s : State) : Nat :=
  fld 31 24 0 + fld 23 19 (dramGb s) + fld 18 15 (nBanks s) + fld 14 14 (b2n (hasAudIn s)) + fld 13 11 (nAudOut s)
    + fld 10 10 (b2n (hasHls s)) + fld 9 6 (nGfx s) + fld 5 3 (nVideo s) + fld 2 0 (nPorts s)

/-- GLB_ERR_STATUS. -/
def glbErrStatus (s : State) : Nat :=
  fld 31 31 (b2n s.glb.errValid) + fld 30 30 (b2n s.glb.errMulti) + fld 29 29 (b2n s.glb.errSmbus)
    + fld 28 28 (b2n s.glb.errBar4) + fld 7 0 s.glb.errCode

/-- GLB_ACCESS_ERR. -/
def glbAccessErr (s : State) : Nat :=
  fld 31 31 (b2n s.glb.accValid) + fld 30 30 (b2n s.glb.accMulti) + fld 29 29 (b2n s.glb.accWrite)
    + fld 28 28 (b2n s.glb.accBar4) + fld 19 16 s.glb.accFirstBe + fld 15 12 s.glb.accLastBe + fld 11 0 s.glb.accLength

/-- The SMBus address of the device (R110). -/
def smbAddress (s : State) : Nat := 0x3C + s.pins.smbAddr

/-- GLB registers up to the start-up group. -/
def glbView (s : State) (q : Requester) (off : Nat) : Option Nat :=
  match off with
  | 0x00 => some (pack16 (partCode s.fuse.variant) 0x1E6B)
  | 0x10 => some (glbCap s)
  | 0x20 => some (glbErrStatus s)
  | 0x24 => some s.glb.errAddr
  | 0x28 => some (glbAccessErr s)
  | 0x2C => some s.glb.accAddr
  | 0x34 => some (satWord s [0x30])
  | 0x38 => some (fld 10 4 (smbAddress s) + fld 1 1 (b2n s.glb.pecReq) + fld 0 0 (b2n s.glb.writeLock))
  | 0x40 => some (bits s.tsc 31 0)
  | 0x44 => some (shadowsOf s q).tscHi
  | 0x50 => some s.boot.status
  | 0x54 => some (fld 15 8 s.boot.result + fld 3 0 s.boot.stage)
  | 0x60 => some s.boot.bootMs
  | 0x64 => some s.boot.fwVer
  | 0x6C => some (satWord s [0x68])
  | _ => none

/-- The IDENT registers (R106). -/
def identView (s : State) (off : Nat) : Option Nat :=
  match off with
  | 0x100 => some (pack16 (partCode s.fuse.variant) s.fuse.stepping.toNat)
  | 0x104 => some (leAt s.fuse.lot 0 4)
  | 0x108 => some (leAt s.fuse.lot 4 2)
  | 0x10C => some (leNat [s.fuse.wafer, s.fuse.dieX, s.fuse.dieY, s.fuse.dieSite])
  | 0x110 => some (bits s.fuse.serial.toNat 31 0)
  | 0x114 => some (bits s.fuse.serial.toNat 63 32)
  | 0x118 => some (fld 26 26 1 + fld 25 21 16 + fld 20 16 (dramGb s) + fld 15 0 8533)
  | _ => none

/-! ### HMI (R140) -/

/-- HMI registers. -/
def hmiView (s : State) (off : Nat) : Option Nat :=
  match off with
  | 0x10000 => some (b2n s.hmi.enabled)
  | 0x10004 =>
    let v := s.hmi.version.getD ⟨0, 0⟩
    some (fld 31 31 (b2n s.hmi.ringErr.isSome) + fld 30 30 (b2n s.hmi.version.isSome) + fld 29 29 (b2n (ringsRun s))
      + fld 23 20 v.major + fld 19 16 v.minor + fld 8 0 (flying s))
  | 0x10050 => some (satWord s [0x10048, 0x1004C])
  | 0x10054 => some (s.hmi.ringErr.getD 0)
  | _ => none

/-! ### IMG (R88) -/

/-- IMG_STATUS; STATE reads CONFIRMED until start-up has reached stage 9 (R524). -/
def imgStatus (s : State) : Nat :=
  fld 25 25 (b2n s.img.interrupted) + fld 24 24 (b2n (s.img.mirrorDone && decide (s.img.roles.staged < 3))) + fld 23 16 s.img.lastResult
    + fld 15 8 (rolesByte s.img.roles) + fld 7 5 s.img.cause + fld 4 4 (b2n s.img.act.isSome)
    + fld 2 0 (if s.boot.stage = 9 then imgCode s.img.state else imgCode .confirmed)

/-- Milliseconds left of the trial, a part of one not counted. -/
def trialRemain (s : State) : Nat :=
  if s.img.state = .trial then
    match s.img.trialEnd with
    | some t => (t - s.tsc) / msCycles
    | none => s.img.trialMs
  else 0

/-- IMG registers. -/
def imgView (s : State) (off : Nat) : Option Nat :=
  match off with
  | 0x20000 => some (imgStatus s)
  | 0x20004 => some (roleVersion s s.img.roles.active)
  | 0x20008 => some (roleVersion s s.img.roles.previous)
  | 0x2000C => some (roleVersion s s.img.roles.staged)
  | 0x20014 => some (trialRemain s)
  | 0x20018 => some (fld 27 24 s.img.failStep + fld 23 16 s.img.failCode + fld 15 0 s.img.failSection)
  | 0x2001C => some s.img.seq
  | 0x20020 => some (fld 7 4 s.fuse.revoked.toNat + fld 3 0 (bitsWhere 4 (fun k => (vget s.fuse.keyHash k none).isSome)))
  | 0x2002C => some (satWord s [0x20024, 0x20028])
  | _ => none

/-! ### FLT (R503, R516) -/

/-- A DW of a record list of bytes. -/
def dwAt (l : List Byte) (off : Nat) : Nat := leAt l off 4

/-- The on-chip log window: record SEQ s at 32 × (s mod 256). -/
def logWindow (s : State) (o : Nat) : Nat :=
  match s.flt.log.find? (fun r => r.seq % 256 == o / 32) with
  | some r => dwAt (recBytes r) (o % 32)
  | none => 0

/-- Whether a source is in FAULT or FATAL. -/
def inFault (s : State) (src : Nat) : Bool := (srcAt s src).mode != .clear

/-- The first-error capture's registers. -/
def firstView (s : State) (off : Nat) : Option Nat :=
  match s.flt.firstShown with
  | none => some 0
  | some r =>
    match off with
    | 0x40010 => some (bits r.tsc 31 0)
    | 0x40014 => some (bits r.tsc 63 32)
    | 0x40018 => some (bits r.address 31 0)
    | 0x4001C => some (bits r.address 63 32)
    | 0x40020 => some (fld 31 31 (b2n s.flt.first.isSome) + fld 30 29 r.cls + fld 28 24 r.flags + fld 23 16 r.reaction
        + fld 15 8 r.access + fld 7 0 r.source)
    | 0x40024 => some (fld 23 16 r.lengthDw + fld 15 0 r.master)
    | 0x40028 => some r.seq
    | _ => none

/-- FLT_SRC_CFG. -/
def srcCfgWord (s : State) (src : Nat) : Nat :=
  let c := sourceCfg s src
  fld 31 16 c.2.2.1 + fld 15 8 c.2.1 + fld 7 7 (b2n c.2.2.2) + fld 6 6 (b2n (neverAsserts src || sourceAbsent s src))
    + fld 1 0 c.1

/-- The code of a source's state (R505). -/
def srcModeCode : SrcMode → Nat
  | .clear => 0
  | .fault => 1
  | .fatal => 2

/-- FLT_SRC_STATE. -/
def srcStateWord (s : State) (src : Nat) : Nat :=
  let x := srcAt s src
  fld 31 30 (srcModeCode x.mode) + fld 29 29 (b2n x.pending) + fld 28 28 (b2n x.armed.isSome)
    + fld 17 16 (satWord s [srcBase src + 8, srcBase src + 0xC]) + fld 15 0 x.quiet

/-- FLT registers. -/
def fltView (s : State) (off : Nat) : Option Nat :=
  if 0x40010 ≤ off ∧ off ≤ 0x40028 then firstView s off
  else if 0x40040 ≤ off ∧ off < 0x40060 then some (bitsWhere 32 (fun i => (srcAt s (32 * ((off - 0x40040) / 4) + i)).pending))
  else if 0x40060 ≤ off ∧ off < 0x40080 then some (bitsWhere 32 (fun i => inFault s (32 * ((off - 0x40060) / 4) + i)))
  else if 0x41000 ≤ off ∧ off < 0x42000 then
    let src := (off - 0x41000) / 16
    if off % 16 = 0 then some (srcCfgWord s src) else if off % 16 = 4 then some (srcStateWord s src) else none
  else if 0x48000 ≤ off ∧ off < 0x4A000 then some (logWindow s (off - 0x48000))
  else
    match off with
    | 0x40000 => some (fld 31 31 (b2n (fatalHeld s)) + fld 30 30 (b2n (smbAlert s)) + fld 29 29 (b2n s.flt.first.isSome)
        + fld 28 28 (b2n (s.flt.srcs.toList.any (·.armed.isSome))) + fld 24 16 (popN 256 (bitsWhere 256 (inFault s))))
    | 0x40030 => some s.flt.head
    | 0x40094 => some (satWord s [0x40080, 0x40084, 0x40088, 0x4008C, 0x40090])
    | _ => none

/-! ### PWR and THM (R488, R489) -/

/-- The code of a domain in PWR_STATE: 3 while it moves (R489). -/
def domWord (s : State) (d : Nat) : Nat :=
  if s.pwr.run.elim false (fun r => r.todo.head? == some d) then 3
  else domCode (vget s.pwr.dom d .off)

/-- Sixteen domain codes from domain `d0` on. -/
def domWords (s : State) (d0 n : Nat) : Nat :=
  (List.range n).foldl (fun (a i : Nat) => a + domWord s (d0 + i) * 4 ^ i) 0

/-- PWR registers. -/
def pwrView (s : State) (off : Nat) : Option Nat :=
  match off with
  | 0x50000 => some (domWords s 0 16)
  | 0x50004 => some (domWords s 16 16)
  | 0x50008 => some (domWords s 32 4)
  | 0x5000C => some (bits (presentMask s) 31 0)
  | 0x50010 => some (bits (presentMask s) 35 32)
  | 0x50014 => some (fld 31 31 (b2n s.pwr.run.isSome) + bits (regN s 0x50014) 23 0)
  | 0x50024 => some (satWord s [0x5001C, 0x50020])
  | _ => none

/-- The state code of a sensor in THM_SENS_READ. -/
def sensorState (s : State) (i : Nat) : Nat :=
  let x := sensorAt s i
  if !sensorPresent s i then 2 else if x.failed then 1 else if x.suspended then 3 else 0

/-- The temperature sensor with the highest reading, the lowest number among equals (R488). -/
def hottest (s : State) : Nat :=
  ((0 :: (List.range 18).map (· + 17)).filter (fun i => sensorPresent s i && !(sensorAt s i).failed)).foldl
    (fun (m i : Nat) => if (sensorAt s m).reading < (sensorAt s i).reading then i else m) 0

/-- A present sensor asserts one of the thresholds of a mask. -/
def assertedAny (s : State) (mask : Nat) : Bool := s.thm.sensor.toList.any (fun x => decide (x.asserted &&& mask ≠ 0))

/-- THM registers. -/
def thmView (s : State) (off : Nat) : Option Nat :=
  if 0x61000 ≤ off ∧ off < 0x61460 then
    let i := (off - 0x61000) / 32
    let x := sensorAt s i
    match off % 32 with
    | 0x00 => some (fld 31 30 (sensorState s i) + fld 27 24 x.asserted + fld 15 0 (twos 16 x.reading))
    | 0x0C => if 1 ≤ i ∧ i ≤ 16 then some 1 else none
    | 0x10 => some (pack16 (twos 16 x.min) (twos 16 x.max))
    | 0x1C => some (satWord s [sensBase i + 0x14, sensBase i + 0x18])
    | _ => none
  else
    match off with
    | 0x60000 => some (fld 31 31 (b2n s.boot.tripFlag) + fld 30 30 (b2n s.thm.stop) + fld 29 29 (b2n (assertedAny s 9))
        + fld 28 28 (b2n (assertedAny s 6)) + fld 27 27 (b2n ((List.range 35).any (fun i => sensorState s i == 1)))
        + fld 21 16 (hottest s) + fld 15 0 (twos 16 (sensorAt s 0).reading))
    | 0x60010 => some (bitsWhere 32 (fun i => sensorState s i == 1))
    | 0x60014 => some (bitsWhere 3 (fun i => sensorState s (32 + i) == 1))
    | 0x6001C => some (satWord s [0x60018])
    | _ => none

/-! ### CAL (R469) -/

/-- GAIN and OFFSET of a channel register. -/
def calWord (gain : Nat) (off : Int) : Nat := pack16 (twos 16 off) gain

/-- Registers of one channel; those of an undefined or absent channel read 0. -/
def calChView (s : State) (n r : Nat) : Option Nat :=
  if !calDefined n || !calPresent s n then some 0
  else
    let c := calCh s n
    match r with
    | 0x00 => some (calWord c.aGain c.aOff)
    | 0x04 => some (calWord c.tGain c.tOff)
    | 0x08 => some (calWord c.mGain c.mOff)
    | 0x0C => some (calWord (vget s.fuse.calFactory n (32768, 0)).1 (vget s.fuse.calFactory n (32768, 0)).2)
    | 0x10 => some (fld 31 24 (min 255 c.resid) + fld 23 16 c.result + fld 6 0 (c.step.getD 0))
    | _ => none

/-- CAL registers. -/
def calView (s : State) (off : Nat) : Option Nat :=
  let failed (i : Nat) : Nat := bitsWhere 32 (fun n => (calCh s (32 * i + n)).failed)
  if 0x71000 ≤ off ∧ off < 0x71920 then calChView s ((off - 0x71000) / 32) (off % 32)
  else
    match off with
    | 0x70000 => some (fld 31 31 (b2n s.cal.run.isSome) + fld 30 30 (b2n s.cal.store.isSome) + fld 29 29 (b2n s.cal.vrefBad)
        + fld 28 28 (b2n (s.cal.ch.toList.any (·.step.isSome))) + fld 1 0 s.cal.source)
    | 0x70004 => some s.cal.seq
    | 0x70008 => some s.cal.vrefUv
    | 0x7000C => some (failed 0)
    | 0x70010 => some (failed 1)
    | 0x70014 => some (failed 2)
    | 0x7003C => some (satWord s [0x70030, 0x70034, 0x70038])
    | _ => none

/-! ### MEM (R170, R437) -/

/-- The memory map registers (R170). -/
def mapView (s : State) (off : Nat) : Option Nat :=
  match off with
  | 0x1F0000 => some (pack16 (usable s / 0x100000) (reservedBase s / 0x100000))
  | 0x1F000C => some (fld 15 8 (permanentFences s) + fld 7 0 (bufFences s).length)
  | 0x1F0020 => some (satWord s [0x1F0010, 0x1F0014, 0x1F0018, 0x1F001C])
  | _ => none

/-- MEM_TRN of a channel. -/
def trnWord (s : State) (c : Nat) : Nat :=
  let x := chan s c
  fld 31 30 (trnCode x.mode) + fld 15 8 x.pauses + fld 7 0 (twos 8 x.drift)

/-- The HI half of the last corrected or uncorrectable word. -/
def eccHiWord (s : State) : Nat :=
  fld 31 31 (b2n s.mem.eccUe) + fld 30 30 (b2n s.mem.eccPoison) + fld 29 26 (channelOf s.mem.eccAddr)
    + fld 1 0 (bits s.mem.eccAddr 33 32)

/-- DRAM controller registers (R437). -/
def dramView (s : State) (q : Requester) (off : Nat) : Option Nat :=
  if 0x100100 ≤ off ∧ off < 0x100140 then some (eyeWord (chan s ((off - 0x100100) / 4)).eye)
  else if 0x100140 ≤ off ∧ off < 0x100180 then some (trnWord s ((off - 0x100140) / 4))
  else
    match off with
    | 0x100000 => some (fld 31 31 (b2n s.mem.ready) + fld 30 30 (b2n (memServing s && s.mem.ready))
        + fld 29 29 (b2n (s.mem.ownSlots || s.ftg.hold.isSome)) + fld 15 0 (bitsWhere 16 (fun c => s.mem.ready && (chan s c).mode == .ok)))
    | 0x100004 => some ((List.range 16).foldl (fun (a c : Nat) => a + rateOf s c * 4 ^ c) 0)
    | 0x100010 => some (bits s.mem.eccAddr 31 0)
    | 0x100014 => some (shadowsOf s q).eccHi
    | 0x100018 => some s.mem.debtMax
    | 0x100034 => some (satWord s [0x100020, 0x100024, 0x100028, 0x10002C, 0x100030])
    | _ => none

/-- MEM registers. -/
def memView (s : State) (q : Requester) (off : Nat) : Option Nat :=
  if 0x1F0000 ≤ off then mapView s off else dramView s q off

/-! ### CMP, CLR, PBU (R202, R235, R260) -/

/-- CMP registers. -/
def cmpView (s : State) (q : Requester) (off : Nat) : Option Nat :=
  match off with
  | 0x200000 => some (pack16 (bitsWhere 16 (fun l => (vget s.cmp.layers l {}).cur.geom.enable))
      (bitsWhere 16 (fun l => (vget s.cmp.layers l {}).pend.isSome)))
  | 0x200004 => some (match s.cmp.pass with
      | some p => fld 31 31 (b2n (p.mode == .running)) + fld 30 30 (b2n (p.mode == .waiting)) + fld 11 0 (passLineNow s p)
      | none => 0)
  | 0x200008 => some s.cmp.commitSeq
  | 0x20000C => some s.cmp.takenSeq
  | 0x200010 => some (bits s.cmp.takenFrame 31 0)
  | 0x200014 => some (shadowsOf s q).commitHi
  | 0x200018 => some (pack16 s.cmp.lateHeld s.cmp.lateSkipped)
  | 0x200020 => some s.cmp.fetchLast
  | 0x200024 => some (fld 23 16 s.cmp.rejStatus + fld 15 8 s.cmp.rejLayer + fld 7 0 s.cmp.rejReason)
  | 0x20003C => some (satWord s [0x200028, 0x20002C, 0x200030, 0x200034, 0x200038])
  | _ => none

/-- The place-value table set in use: that of the running variant (R228). -/
def clrSet (s : State) : Nat := s.rck.variant

/-- EXT_BITS of a table set: how many code bits its extension table holds (R226). -/
def extBits (v : PvSet) : Nat := popN 16 (bitsWhere 16 (fun i => v.ext.any (fun e => e.codeBit == i)))

/-- CLR registers. -/
def clrView (s : State) (off : Nat) : Option Nat :=
  if 0x300040 ≤ off ∧ off < 0x30004C then some (s.clr.gainPrimary.getD ((off - 0x300040) / 4) 0)
  else
    match off with
    | 0x300000 => some (fld 16 16 (b2n s.clr.pqBusy) + fld 12 8 (extBits ((cfg s).pv.getD (clrSet s) {})) + fld 7 4 (clrSet s)
        + fld 1 1 (b2n s.clr.carryRead) + fld 0 0 (cfg s).canvas.carryEnable)
    | 0x300050 => some (fld 27 24 s.clr.pair + fld 23 20 s.clr.worstBank + fld 19 16 s.clr.worstPair + fld 15 0 s.clr.worstErr)
    | 0x300054 => some s.clr.outOfTol
    | 0x300060 => some (satWord s [0x300058, 0x30005C])
    | _ => none

/-- The physical builder of a logical slot, 0xFF when it is unmapped. -/
def slotPhys (s : State) (n : Nat) : Nat :=
  (vget s.pbu.slots n {}).phys.getD 255

/-- PBU registers. -/
def pbuView (s : State) (off : Nat) : Option Nat :=
  if 0x380050 ≤ off ∧ off < 0x380068 then
    let n := 4 * ((off - 0x380050) / 4)
    some ((List.range 4).foldl (fun (a i : Nat) => a + slotPhys s (n + i) * 256 ^ i) 0)
  else
    match off with
    | 0x380000 => some (fld 28 24 (mappedBuilders s).length + fld 20 16 s.pbu.table + fld 12 8 (cfg s).minActive + fld 1 0 (min 2 (spares s).length))
    | 0x380004 => some (bitsWhere 24 (fun n => vget s.pbu.fenced n false))
    | 0x380008 => some (bitsWhere 24 (fun n => (spares s).contains n))
    | 0x380020 => some s.pbu.shown
    | 0x380024 => some s.pbu.buildBound
    | 0x380028 => some s.pbu.buildLast
    | 0x38002C => some (fld 25 16 s.pbu.slotsUsed + fld 5 0 s.pbu.retired.length)
    | 0x380040 => some (satWord s [0x380030, 0x380034, 0x380038, 0x38003C])
    | _ => none

/-! ### RCK (R280, R281, R287) -/

/-- Rods that carry beads in the running variant. -/
def rodsMask (s : State) (lo : Nat) : Nat :=
  let v := runSched s
  bitsWhere 32 (fun i => (v.base ++ v.ext).any (fun b => b.rod == lo + i))

/-- RCK registers. -/
def rckView (s : State) (off : Nat) : Option Nat :=
  let r := s.rck
  match off with
  | 0x400000 =>
    let sel := r.next.bind (fun n => if n.loaded then some n else none)
    some (fld 31 31 (b2n r.running) + fld 30 30 (b2n (r.next.elim false (fun n => !n.loaded))) + fld 29 28 r.slotRun
      + fld 27 26 (sel.elim 3 (·.slot)) + fld 23 20 r.variant + fld 19 16 (sel.elim 15 (·.variant)))
  | 0x400004 => some (fld 31 28 r.k + fld 27 27 (b2n r.repeats) + fld 26 26 (b2n r.condCommit) + fld 25 25 (b2n r.condBuild)
      + fld 23 20 r.lastK)
  | 0x400008 => some (if r.running then segTime s else 0)
  | 0x40000C => some (runSched s).tmin
  | 0x400010 => some (runSched s).delta
  | 0x400014 => some ((runSched s).base.length + (runSched s).ext.length)
  | 0x400018 => some (rodsMask s 0)
  | 0x40001C => some (rodsMask s 32)
  | 0x40008C => some (satWord s ((List.range 16).map (fun k => 0x400040 + 4 * k) ++ [0x400080, 0x400084, 0x400088]))
  | _ => none

/-- Beads of a slot in store order: by rod, base before extension, each in TIME order (R280). -/
def slotBeads (v : SchedVariant) : List Bead :=
  (List.range 64).flatMap (fun r => v.base.filter (fun b => b.rod == r) ++ v.ext.filter (fun b => b.rod == r))

/-- A bead's 16 bytes (R263). -/
def beadBytes (b : Bead) : List Byte :=
  leBytes 4 b.time ++ leBytes 1 b.rod ++ leBytes 1 b.action ++ leBytes 1 b.target ++ leBytes 1 0 ++ leBytes 8 b.arg

/-- A rod's index entry: BASE_FIRST, BASE_COUNT, EXT_FIRST, EXT_COUNT. -/
def rodIndex (v : SchedVariant) (r : Nat) : List Nat :=
  let nb := (v.base.filter (fun b => b.rod == r)).length
  let ne := (v.ext.filter (fun b => b.rod == r)).length
  let first := ((v.base ++ v.ext).filter (fun b => decide (b.rod < r))).length
  [first, nb, first + nb, ne]

/-- A DW of the bead store window. An empty slot, and what lies behind a slot's beads, reads 0. -/
def storeWord (s : State) (o : Nat) : Nat :=
  match vget s.rck.store (o / 0x280000) none with
  | none => 0
  | some d =>
    let v := schedOf s d
    let i := o % 0x280000
    if i < 0x400 then (rodIndex v (i / 16)).getD (i % 16 / 4) 0
    else
      match (slotBeads v)[(i - 0x400) / 16]? with
      | some b => dwAt (beadBytes b) (i % 16)
      | none => 0

/-! ### PLK (R316) -/

/-- Registers of one port. -/
def plkView (s : State) (off : Nat) : Option Nat :=
  let p := (off - 0x800000) / 0x10000
  let x := port s p
  let b := portBase p
  match off % 0x10000 with
  | 0x00 => some (fld 31 24 x.cause + fld 15 12 (portCode x.mode) + fld 11 11 x.half + fld 10 10 (b2n x.reversed)
      + fld 9 8 x.version + fld 4 0 x.lanes)
  | 0x08 => some (pack16 x.locked x.inverted)
  | 0x0C => some x.laneLost
  | 0x10 => some (pack16 x.vendor x.model)
  | 0x14 => some x.serial
  | 0x18 => some (pack16 x.width x.height)
  | 0x1C => some (fld 31 16 x.settleNs + fld 15 8 x.blockRows + fld 7 0 x.unpark10us)
  | 0x20 => some (fld 31 24 x.stState + fld 23 16 x.stFlags)
  | 0x24 => some x.parkLast
  | 0x48 => some (satWord s [b + 0x30, b + 0x34, b + 0x38, b + 0x3C, b + 0x40, b + 0x44])
  | _ => none

/-! ### LSD (R327, R343) -/

/-- The effective set-point of a bank's slot, rounded half up to whole LSB (R355). -/
def targetEff (s : State) (b : Nat) : Nat :=
  match bankSlot s b with
  | some i => twos 16 (((vget s.lpe.slot i {}).r + 32768) / 65536)
  | none => 0

/-- Registers of one bank. -/
def bankView (s : State) (b r : Nat) : Option Nat :=
  let x := bankAt s b
  match r with
  | 0x00 => some (fld 31 28 (bankCode x.mode) + fld 27 27 (b2n x.unverified) + fld 23 16 x.cause + fld 13 2 x.y + fld 1 0 x.drvFlags)
  | 0x04 => some (pack16 x.code x.measured)
  | 0x0C => some (targetEff s b)
  | 0x14 => some (fld 31 24 x.drvDelay + fld 15 12 x.drvMax + fld 9 8 x.version + fld 7 5 x.diPhase + fld 2 2 (b2n x.diInv)
      + fld 1 1 (b2n x.doInv) + fld 0 0 (b2n x.ckInv))
  | 0x2C => some (satWord s [bankBase b + 0x20, bankBase b + 0x24, bankBase b + 0x28])
  | _ => none

/-- LSD registers. -/
def lsdView (s : State) (off : Nat) : Option Nat :=
  if 0xA00100 ≤ off ∧ off < 0xA00400 then bankView s ((off - 0xA00100) / 0x40) (off % 0x40)
  else if 0xA00010 ≤ off ∧ off < 0xA0001C then
    let c := (off - 0xA00010) / 4
    some (fld 31 31 (b2n (s.lsd.held.getD c none).isSome) + fld 30 30 (b2n (s.lsd.fixed.getD c none).isSome)
      + fld 27 24 (s.lsd.hot.getD c 0) + fld 16 0 (s.lsd.f.getD c 65536))
  else if 0xA00020 ≤ off ∧ off < 0xA0002C then some (s.lsd.k.getD ((off - 0xA00020) / 4) 0)
  else
    match off with
    | 0xA00000 => some (fld 31 31 (b2n (anySafe s)) + fld 30 30 (b2n (!s.pins.shutterOut)) + fld 29 29 (b2n s.pins.intlkAHigh)
        + fld 28 28 (b2n (!s.pins.intlkBHigh)) + fld 27 27 (b2n s.lsd.lock) + fld 26 26 (b2n s.lsd.ramp.isSome)
        + fld 23 12 s.lsd.x + fld 11 0 s.lsd.target)
    | 0xA00008 => some (fld 15 8 s.lsd.safeSource + fld 0 0 (b2n s.lsd.safeShutter))
    | _ => none

/-- A word of the light-level window: the running code, or the one written and not yet in effect (R327). -/
def levelWord (s : State) (o : Nat) : Nat :=
  let b := o / 64
  let l := o % 64 / 4
  let x := bankAt s b
  if nBanks s ≤ b then 0
  else ((x.writes.filter (fun w => w.1 == l)).getLast?.map (·.2)).getD (x.table.getD l 0)

/-! ### LPE (R357, R361, R366) -/

/-- A state value as a register reads it: 8 fractional bits, rounded toward −∞ (R366). -/
def q8 (v : Int) : Nat := twos 32 (v / 256)

/-- Registers of one slot. -/
def slotView (s : State) (i r : Nat) : Option Nat :=
  let x := vget s.lpe.shown i {}
  match r with
  | 0x00 => some (fld 31 30 x.kind + fld 29 28 (if x.kind = 0 then 0 else x.form) + fld 27 27 (b2n x.bankB) + fld 26 26 (b2n x.sat)
      + fld 25 25 (b2n x.hold) + fld 24 24 (b2n x.lim) + fld 23 23 (b2n x.updated) + fld 22 22 (b2n x.idle)
      + fld 21 21 (b2n x.oscLeft.isSome) + fld 15 8 x.oscCnt + fld 7 0 x.input)
  | 0x04 => some (q8 x.out)
  | 0x08 => some (q8 x.tgt)
  | 0x0C => some (q8 x.r)
  | 0x10 => some (q8 x.fb)
  | 0x14 => some (q8 x.m)
  | 0x18 => some (twos 32 x.outMin)
  | 0x1C => some (twos 32 x.outMax)
  | 0x38 => some (satWord s ((List.range 5).map (fun k => slotBase i + 0x24 + 4 * k)))
  | _ => none

/-- LPE registers. -/
def lpeView (s : State) (off : Nat) : Option Nat :=
  if 0xB00100 ≤ off ∧ off < 0xB00700 then slotView s ((off - 0xB00100) / 0x40) (off % 0x40)
  else
    match off with
    | 0xB00000 => some (fld 31 31 (b2n s.lpe.running) + bitsWhere 24 (fun i => decide ((slotAt s i).kind ≠ 0)))
    | 0xB00004 => some (bitsWhere 24 (fun i => (slotAt s i).window && !(slotAt s i).late))
    | 0xB00008 => some (bitsWhere 24 (fun i => (slotAt s i).sat))
    | 0xB0000C => some (bitsWhere 24 (fun i => decide ((slotAt s i).kind ≠ 0) && oscOn s (loopCfg s i)))
    | _ => none

/-- A word of a slot's coefficient window: bank A at words 0–6, bank B at 8–14 (R357). -/
def slotCoefWord (s : State) (o : Nat) : Nat :=
  let x := slotAt s (o / 64)
  let w := o % 64 / 4
  if w % 8 = 7 then 0 else twos 32 ((if w < 8 then x.coefA else x.coefB).getD (w % 8) 0)

/-! ### HLS (R386) -/

/-- HLS registers. -/
def hlsView (s : State) (off : Nat) : Option Nat :=
  match off with
  | 0xC00000 => some (fld 31 28 (hlsCode s.hls.mode) + fld 27 27 (b2n s.hls.locked) + fld 26 26 (b2n s.pins.hlEn)
      + fld 25 25 (b2n s.hls.shown) + fld 24 24 (b2n s.hls.passDone) + fld 23 16 s.hls.cause + fld 11 0 s.hls.line)
  | 0xC00004 => some (incFreq (incNow s))
  | 0xC00040 => some s.hls.passNs
  | 0xC00064 => some (satWord s [0xC00050, 0xC00054, 0xC00058, 0xC0005C, 0xC00060])
  | _ => none

/-! ### FTG and VER (R412, R413) -/

/-- FTG1 exists: the scanner is present and the running image enables it (R412). -/
def ftg1Shown (s : State) : Bool := hasHls s && decide ((cfg s).topo.hlsEnable ≠ 0)

/-- Registers of a generator. -/
def genView (s : State) (q : Requester) (f r : Nat) : Option Nat :=
  let first := f == 0
  let h := shadowsOf s q
  let line := if first then s.ftg.line else s.ftg.line1
  let on := if first then s.ftgOn else s.ftg.on1
  match r with
  | 0x00 => some (fld 31 31 (b2n on) + fld 30 30 (b2n (on && decide ((cfg s).canvas.active ≤ line)))
      + fld 29 29 (b2n (first && s.ftg.hold.isSome)) + fld 27 24 s.rck.k + fld 23 0 line)
  | 0x04 => some (bits (if first then s.frame else s.ftg.frame1) 31 0)
  | 0x08 => some (if first then h.frameHi0 else h.frameHi1)
  | 0x0C => some (bits (if first then s.ftg.sof else s.ftg.sof1) 31 0)
  | 0x10 => some (if first then h.sofHi0 else h.sofHi1)
  | 0x14 => some (if first then s.ftg.len else s.ftg.len1)
  | _ => none

/-- FTG registers of the whole block. -/
def ftgCommon (s : State) (off : Nat) : Option Nat :=
  let c := (cfg s).canvas
  let v := runSched s
  if 0xD00300 ≤ off ∧ off < 0xD00310 then
    let g := (off - 0xD00300) / 4
    some (fld 31 31 (b2n (s.img.cfg.isSome && leadGroup s == g)) + fld 30 30 (b2n (bitAt s.ftg.repGroups g)) + fld 11 0 (groupMembers s g))
  else
    match off with
    | 0xD00020 => some (pack16 c.active (if c.linePeriod = 0 then 0 else v.tmin / c.linePeriod - c.active))
    | 0xD00024 => some (pack16 c.latchLine (if c.linePeriod = 0 then 0 else v.delta / c.linePeriod))
    | 0xD00028 => some c.linePeriod
    | 0xD0020C => some (fld 31 30 (syncCode s.ftg.sync) + fld 28 16 s.ftg.holdNow
        + fld 15 0 (twos 16 (clampI (-32767) 32767 s.ftg.error)))
    | 0xD00210 => some (fld 15 0 (twos 16 s.ftg.drift))
    | 0xD00380 => some (satWord s ((List.range 12).map (fun i => 0xD00340 + 4 * i) ++ [0xD00370, 0xD00374, 0xD00378]))
    | _ => none

/-- FTG registers; those of FTG1 read 0 while it does not exist. -/
def ftgView (s : State) (q : Requester) (off : Nat) : Option Nat :=
  if 0xD00100 ≤ off ∧ off < 0xD00200 then
    (if !ftg1Shown s then some 0
     else if off = 0xD00120 then some (twos 32 (scanCfg s).ftg1Offset)
     else genView s q 1 (off - 0xD00100))
  else if off < 0xD00020 then genView s q 0 (off - 0xD00000)
  else ftgCommon s off

/-- VER registers. -/
def verView (s : State) (off : Nat) : Option Nat :=
  if 0xD81000 ≤ off ∧ off < 0xD81E00 then
    let o := (off - 0xD81000) / 0x200
    let g := regionAt s o ((off - 0xD81000) % 0x200 / 0x20)
    if !verPresent s o then some 0
    else
      match off % 0x20 with
      | 0x10 => some g.last
      | 0x14 => some g.freeze
      | 0x18 => some (bits g.passFrame 31 0)
      | _ => none
  else
    match off with
    | 0xD80000 => some (fld 22 16 s.ver.mismatch + fld 14 8 s.ver.withheld + fld 0 0 (b2n s.ver.stale))
    | 0xD80020 => some (satWord s [0xD80010, 0xD80014, 0xD80018, 0xD8001C])
    | _ => none

/-! ### AUD (R452) -/

/-- Registers of one audio port. -/
def audView (s : State) (off : Nat) : Option Nat :=
  let p := (off - 0xE00000) / 0x100
  let x := audPort s p
  let c := audCfg s p
  match off % 0x100 with
  | 0x00 => some (fld 31 31 (b2n x.running) + fld 30 30 (b2n s.aud.pllLock) + fld 29 29 (b2n x.holding) + fld 28 28 (b2n x.underrun)
      + fld 27 27 (b2n (decide (0 < x.lost))) + fld 7 0 x.fifo.length)
  | 0x08 => some (fld 31 24 c.wordBits + fld 23 23 c.format + fld 17 0 c.fsHz)
  | 0x14 => some x.wr
  | 0x18 => some x.rd
  | 0x1C => some x.lost
  | 0x2C => some (satWord s [audBase p + 0x20, audBase p + 0x24, audBase p + 0x28])
  | _ => none

/-! ### The look-up windows (R190, R236) -/

/-- A word of a video layer's coefficient window (R190). -/
def layerCoefWord (s : State) (o : Nat) : Nat :=
  let v := o / 0x1000
  let i := o % 0x1000 / 2
  if nVideo s ≤ v ∨ 3584 ≤ o % 0x1000 then 0 else pack16 (twos 16 (coefAt s v i)) (twos 16 (coefAt s v (i + 1)))

/-- Two entries of a linearisation table (R236). -/
def tableWord (t : Nat → Nat) (o : Nat) : Nat :=
  let i := o / 2
  if 4096 < i then 0 else pack16 (t i) (if i = 4096 then 0 else t (i + 1))

/-- The look-up and coefficient windows. -/
def lutWord (s : State) (off : Nat) : Nat :=
  if off < 0x1804000 then layerCoefWord s (off - 0x1800000)
  else if 0x1810000 ≤ off ∧ off < 0x1850000 then
    let l := (off - 0x1810000) / 0x4000
    if s.img.cfg.isNone || !layerPresent s l then 0
    else tableWord (tableEntry ((cfg s).colour.getD l {}) s.clr.pqPeak) (off % 0x4000)
  else if 0x1850000 ≤ off ∧ off < 0x1854000 then (if s.img.cfg.isNone then 0 else tableWord ootfEntry (off - 0x1850000))
  else if 0x1860000 ≤ off ∧ off < 0x1860300 then levelWord s (off - 0x1860000)
  else if 0x1870000 ≤ off ∧ off < 0x1870600 then slotCoefWord s (off - 0x1870000)
  else 0

/-! ### The whole of BAR0 and BAR4 (R10, R99–R103, R482, R524) -/

/-- A window that is not offered over SMBus (R112). -/
def isWindow (off : Nat) : Bool := decide (0x1000000 ≤ off ∧ off < 0x2400000)

/-- The register, channel or instance at an offset belongs to a unit that the variant lacks (R10). -/
def absentAt (s : State) (off : Nat) : Bool :=
  match blockOf off with
  | .plk => decide (nPorts s ≤ (off - 0x800000) / 0x10000)
  | .hls => !hasHls s
  | .aud => (nAudOut s == 0 && !hasAudIn s) || (decide (off < 0xE00500) && !audPresent s ((off - 0xE00000) / 0x100))
  | .lsd => decide (0xA00100 ≤ off ∧ off < 0xA00400 ∧ nBanks s ≤ (off - 0xA00100) / 0x40)
  | .clr => decide (0x300010 ≤ off ∧ off < 0x300040 ∧ nBanks s ≤ (off - 0x300010) / 4)
  | .ftg => decide (0xD00100 ≤ off ∧ off < 0xD00200) && !hasHls s
  | .ver => decide (0xD81000 ≤ off ∧ off < 0xD81E00) && !verPresent s ((off - 0xD81000) / 0x200)
  | .cal => decide (0x71000 ≤ off ∧ off < 0x71920) && calDefined ((off - 0x71000) / 32) && !calPresent s ((off - 0x71000) / 32)
  | .lut => decide (off < 0x1804000 ∧ nVideo s ≤ (off - 0x1800000) / 0x1000)
      || decide (0x1860000 ≤ off ∧ off < 0x1860300 ∧ nBanks s ≤ (off - 0x1860000) / 64)
      || (decide (0x1810000 ≤ off ∧ off < 0x1850000) && !layerPresent s ((off - 0x1810000) / 0x4000))
  | _ => false

/-- The domain that serves an offset is not ON (R482). -/
def domainOff (s : State) (off : Nat) : Bool :=
  (List.range 36).any (fun d => !domainOn s d && (domainBlocks d).any (fun r => decide (r.1 ≤ off ∧ off < r.1 + r.2)))

/-- Start-up limits BAR0 and BAR4: before stage 8 and in stage 15 (R524). -/
def startLimited (s : State) : Bool := decide (s.boot.stage < 8 ∨ s.boot.stage = 15)

/-- Blocks that can be read before stage 8. -/
def earlyBlock (off : Nat) : Bool :=
  match blockOf off with
  | .glb | .hmi | .flt | .thm | .pwr => true
  | _ => false

/-- The computed part of a register, by block. -/
def blockView (s : State) (q : Requester) (off : Nat) : Option Nat :=
  match blockOf off with
  | .glb => (glbView s q off).or (identView s off)
  | .hmi => hmiView s off
  | .img => imgView s off
  | .flt => fltView s off
  | .pwr => pwrView s off
  | .thm => thmView s off
  | .cal => calView s off
  | .mem => memView s q off
  | .cmp => cmpView s q off
  | .clr => clrView s off
  | .pbu => pbuView s off
  | .rck => rckView s off
  | .plk => plkView s off
  | .lsd => lsdView s off
  | .lpe => lpeView s off
  | .hls => hlsView s off
  | .ftg => ftgView s q off
  | .ver => verView s off
  | .aud => audView s off
  | .beadStore => some (storeWord s (off - 0x1000000))
  | .lut => some (lutWord s off)
  | .bootWindow => some 0
  | .unmapped => some 0

/-- What a register reads as: the computed field values, a tally, or what the register file holds; 0 where no register
is, where the unit is absent, its domain not ON, or start-up hides it. The boot window reads its content in host boot
only (R522). -/
def regValue (s : State) (q : Requester) (off : Nat) : Nat :=
  if blockOf off == .bootWindow then (if q == .pcie && hostBootOpen s then leNat ((List.range 4).map (fun i => windowReader s (off - 0x2000000 + i))) else 0)
  else if startLimited s && !earlyBlock off then 0
  else if absentAt s off || domainOff s off then 0
  else if q == .smbus && isWindow off then 0
  else
    match regRow off with
    | none =>
      if isWindow off || (blockOf off == .flt && decide (0x48000 ≤ off ∧ off < 0x4A000)) then (blockView s q off).getD 0 else 0
    | some r =>
      match blockView s q off with
      | some v => v
      | none => if r.tly then tally s off else regN s off

/-- The FTG1 half of a capture (R393, R412). -/
def captureFtg (s : State) (h : Shadows) (off : Nat) : Shadows :=
  if off = 0xD00004 then { h with frameHi0 := bits s.frame 47 32 }
  else if off = 0xD0000C then { h with sofHi0 := bits s.ftg.sof 63 32 }
  else if off = 0xD00104 then { h with frameHi1 := bits s.ftg.frame1 47 32 }
  else if off = 0xD0010C then { h with sofHi1 := bits s.ftg.sof1 63 32 }
  else h

/-- A read of a LO register captures the HI value of the same instant for its requester (R28). -/
def captureInto (s : State) (h : Shadows) (off : Nat) : Shadows :=
  if off = 0x40 then { h with tscHi := bits s.tsc 63 32 }
  else if off = 0x200010 then { h with commitHi := bits s.cmp.takenFrame 47 32 }
  else if off = 0x100010 then { h with eccHi := eccHiWord s }
  else captureFtg s h off

/-- The capture of a register read. -/
def capture (s : State) (q : Requester) (off : Nat) : State :=
  match q with
  | .pcie => { s with shPcie := captureInto s s.shPcie off }
  | .smbus => { s with shSmb := captureInto s s.shSmb off }

/-- One DW of the MSI-X table: address, upper address, data, vector control (R103). -/
def msixWord (e : MsixEntry) (w : Nat) : Nat :=
  if w = 0 then bits e.addr.toNat 31 0
  else if w = 1 then bits e.addr.toNat 63 32
  else if w = 2 then e.data.toNat
  else b2n e.masked

/-- What a DW of BAR4 reads as: the doorbells' last accepted values, the mirrors of the ring indices, the MSI-X table, the pending bits (R103, R140). -/
def bar4Value (s : State) (off : Nat) : Nat :=
  if off = 0 then s.hmi.cmdTail
  else if off = 4 then s.hmi.cplHead
  else if off = 8 then s.hmi.evtHead
  else if off = 0x1000 then s.hmi.cmdHead
  else if off = 0x1004 then s.hmi.cplTail
  else if off = 0x1008 then s.hmi.evtTail
  else if 0xF0000 ≤ off ∧ off < 0xF0400 then msixWord (vget s.hmi.msix ((off - 0xF0000) / 16) {}) (off % 16 / 4)
  else if off = 0xF8000 then bits s.hmi.msixPending.toNat 31 0
  else if off = 0xF8004 then bits s.hmi.msixPending.toNat 63 32
  else 0

/-- SMB_READ_STATUS: the status byte (R111). -/
def smbStatus (s : State) : Nat :=
  fld 0 0 (b2n (s.img.cfg.isSome && s.boot.stage == 9)) + fld 1 1 (b2n s.lsd.safeOn)
    + fld 2 2 (b2n ((List.range 256).any (fun i => (srcAt s i).mode == .fatal && (srcAt s i).pending)))
    + fld 3 3 (b2n s.glb.errValid) + fld 4 4 (b2n s.hmi.linkUp)

end Sys2Proof.Machine
end

