-- ==== Sys2Proof/Machine/Operands.lean ====
section
/-! DEFINITION. Register accesses: the limits of every register, the order of R132 in which a write is refused, the effect of an accepted write, and rejections (R17, R18, R100–R103, R107, R108, R112–R114, R132). -/

namespace Sys2Proof.Machine

/-! ### Rejections and harmless accesses (R100, R107) -/

/-- A register write is rejected: the first one is recorded, a later one sets MULTI (R107). -/
def reject (s : State) (q : Requester) (bar4 : Bool) (off : Nat) (st : Status) : State :=
  if s.glb.errValid then { s with glb := { s.glb with errMulti := true } }
  else { s with glb := { s.glb with
    errValid := true, errMulti := false, errSmbus := q == .smbus, errBar4 := bar4, errCode := st.code, errAddr := off } }

/-- GLB_ERR_STATUS.VALID is cleared, with the fields that record the rejection (R106). -/
def errClear (s : State) : State :=
  { s with glb := { s.glb with
    errValid := false, errMulti := false, errSmbus := false, errBar4 := false, errCode := 0, errAddr := 0 } }

/-- GLB_ACCESS_ERR and GLB_ACCESS_ADDR are cleared (R106). -/
def accessClear (s : State) : State :=
  { s with glb := { s.glb with
    accValid := false, accMulti := false, accWrite := false, accBar4 := false, accFirstBe := 0, accLastBe := 0,
    accLength := 0, accAddr := 0 } }

/-- An access to BAR0 or BAR4 that R100 or R103 does not accept: recorded, counted, fault 0x10. -/
def accessError (s : State) (rid : Nat) (bar4 write : Bool) (addr firstBe lastBe len : Nat) : State :=
  let s1 := if s.glb.accValid then { s with glb := { s.glb with accMulti := true } }
    else { s with glb := { s.glb with
      accValid := true, accMulti := false, accWrite := write, accBar4 := bar4, accFirstBe := firstBe, accLastBe := lastBe,
      accLength := len, accAddr := addr } }
  report (bump s1 0x30)
    { source := 0x10, address := addr, master := rid, access := (if write then 0x11 else 0x12), lengthDw := len % 256 }

/-! ### Limits of a register's fields (step 4 of R132) -/

/-- Limits of GLB, HMI and IMG registers. -/
def limitsBase (off v : Nat) : Bool :=
  match off with
  | 0x58 => glbResetOk v
  | 0x10018 | 0x10028 | 0x10038 => decide (4 ≤ v ∧ v ≤ 12)
  | 0x10058 => decide (v = 0 ∨ (10 ≤ v ∧ v ≤ 60000))
  | 0x20010 => decide (1000 ≤ v ∧ v ≤ 600000)
  | _ => true

/-- Limits of MEM, CMP and CLR registers. -/
def limitsMemory (s : State) (off v : Nat) : Bool :=
  match off with
  | 0x100008 => decide (1 ≤ bits v 7 0 ∧ bits v 7 0 ≤ 100 ∧ 1 ≤ bits v 15 8 ∧ bits v 15 8 ≤ 100)
  | 0x1F0004 => decide (v * 0x10000000 % 2 ^ s.hmi.bar2Log2 = 0 ∧ v * 0x10000000 < usable s)
  | 0x20001C => decide (1 ≤ bits v 5 0 ∧ bits v 13 8 ≤ 63 ∧ bits v 5 0 < bits v 13 8)
  | 0x300004 => decide (100 ≤ v ∧ v ≤ 10000)
  | _ => true

/-- Limits of the thermal registers (R475, R488). -/
def limitsThm (s : State) (off v : Nat) : Bool :=
  if 0x61000 ≤ off ∧ off < 0x61460 then
    let i := (off - 0x61000) / 32
    let b := sensBase i
    let hi := if off % 32 = 4 then v else regN s (b + 4)
    let lo := if off % 32 = 8 then v else regN s (b + 8)
    let hc := signed 16 (bits hi 31 16)
    if off % 32 = 0xC then (decide (1 ≤ i ∧ i ≤ 16) || decide (4 ≤ v ∧ v ≤ 60))
    else if off % 32 = 4 ∨ off % 32 = 8 then
      decide (signed 16 (bits lo 15 0) < signed 16 (bits lo 31 16) ∧ signed 16 (bits lo 31 16) < signed 16 (bits hi 15 0)
        ∧ signed 16 (bits hi 15 0) < hc ∧ (i = 0 → 360 ≤ hc ∧ hc ≤ 480))
    else true
  else if off = 0x60008 ∨ off = 0x6000C then
    decide (2000 ≤ bits v 31 16 ∧ bits v 31 16 ≤ 6000 ∧ 100 ≤ bits v 15 0 ∧ bits v 15 0 ≤ 10000)
  else true

/-- The limit of LSD_THRESH of a bank: its CEILING under an image that enables it, else 65,535 (R343). -/
def threshLimit (s : State) (b : Nat) : Nat :=
  if s.img.cfg.isSome && bankEnabled s b then ceilingOf s b else 65535

/-- Limits of LSD and PLK registers. -/
def limitsLight (s : State) (off v : Nat) : Bool :=
  if 0xA00100 ≤ off ∧ off < 0xA00400 ∧ off % 0x40 = 0x10 then decide (v < threshLimit s ((off - 0xA00100) / 0x40))
  else if 0x800000 ≤ off ∧ off < 0x860000 ∧ off % 0x10000 = 4 then decide (1 ≤ bits v 15 8 ∧ bits v 15 8 ≤ 100)
  else true

/-- Limits of HLS registers (R386). -/
def limitsHls (s : State) (off v : Nat) : Bool :=
  let r := match (cfg s).scan with | some c => (c.fMin, c.fMax) | none => (18000000, 32000000)
  match off with
  | 0xC0000C => decide (r.1 ≤ v ∧ v ≤ r.2)
  | 0xC00010 => decide (1 ≤ bits v 15 8 ∧ bits v 15 8 ≤ 50)
  | 0xC00014 => decide (100 ≤ bits v 15 0 ∧ bits v 15 0 ≤ 2000)
  | 0xC0001C => decide (bits v 15 0 < bits v 31 16)
  | 0xC00030 | 0xC00034 | 0xC00038 => decide (bits v 11 0 < bits v 27 16)
  | _ => true

/-- Every DELTA of the ACTIVE image leaves room for the decision point of a master (R396). -/
def masterFits (s : State) : Bool := (cfg s).sched.all (fun v => decide (syncLead s + 64 ≤ v.delta))

/-- Limits of FTG and VER registers. -/
def limitsFrame (s : State) (off v : Nat) : Bool :=
  if 0xD81000 ≤ off ∧ off < 0xD81E00 then
    let k := off % 0x20 / 4
    decide (4 ≤ k) || regionRangeOk s ((off - 0xD81000) / 0x200) ((off - 0xD81000) % 0x200 / 0x20) k v
  else
    match off with
    | 0xD00200 => decide (v ≠ 3) && (decide (v ≠ 1) || masterFits s)
    | 0xD00204 => decide (128 ≤ bits v 31 16 ∧ bits v 31 16 ≤ 10000 ∧ bits v 15 0 ≤ 1000 ∧ bits v 15 0 + 128 ≤ bits v 31 16)
    | 0xD00208 => decide (64 ≤ v ∧ v ≤ 4000)
    | 0xD80004 => decide (v ≤ 60000)
    | _ => true

/-- The ring pointer of an audio port that the host may write: AUD_WR of an output, AUD_RD of the input (R441). -/
def hostPointer (off : Nat) : Bool :=
  let p := (off - 0xE00000) / 0x100
  decide ((off % 0x100 = 0x14 ∧ p < 4) ∨ (off % 0x100 = 0x18 ∧ p = 4))

/-- Limits of AUD registers (R452). -/
def limitsAud (s : State) (off v : Nat) : Bool :=
  !hostPointer off || decide (v % 8 = 0 ∧ v < ringBytes s ((off - 0xE00000) / 0x100))

/-- The channel number of a CAL_CH_TARGET offset. -/
def calTarget (off : Nat) : Option Nat :=
  if 0x71000 ≤ off ∧ off < 0x71920 ∧ off % 32 = 4 then some ((off - 0x71000) / 32) else none

/-- What refuses a CAL_CH_TARGET value (R463). -/
def calRefusal (s : State) (n v : Nat) : Option Status :=
  match writeCalTarget s n v with
  | .error e => some e
  | .ok _ => none

/-- Limits of the look-up windows, with the offsets that hold a word (R190, R236, R327, R357). -/
def limitsLut (s : State) (off v : Nat) : Bool :=
  if off < 0x1804000 then decide (off % 0x1000 < 3584)
  else if 0x1810000 ≤ off ∧ off < 0x1854000 then decide (off % 0x4000 < 8196)
  else if 0x1860000 ≤ off ∧ off < 0x1860300 then decide (v ≤ codeMax (bankAt s ((off - 0x1860000) / 64)))
  else if 0x1870000 ≤ off ∧ off < 0x1870600 then
    let w := off % 64 / 4 % 8
    decide (w ≠ 7) && !(decide ((slotAt s ((off - 0x1870000) / 64)).form = 2) && decide (w = 3 ∨ w = 6) && decide (v ≠ 0))
  else false

/-- Every limit of the register at an offset. -/
def limitsOk (s : State) (off v : Nat) : Bool :=
  match blockOf off with
  | .glb | .hmi | .img => limitsBase off v
  | .mem | .cmp | .clr => limitsMemory s off v
  | .thm => limitsThm s off v
  | .cal =>
    match calTarget off with
    | some n => calRefusal s n v != some .outOfRange
    | none => true
  | .lsd | .plk => limitsLight s off v
  | .hls => limitsHls s off v
  | .ftg | .ver => limitsFrame s off v
  | .aud => limitsAud s off v
  | .lut => limitsLut s off v
  | _ => true

/-- A register or window word stands at the offset (R101). -/
def mapped (off : Nat) : Bool :=
  match blockOf off with
  | .bootWindow | .lut => true
  | .flt => (regRow off).isSome || decide (0x48000 ≤ off ∧ off < 0x4A000)
  | _ => (regRow off).isSome

/-- The value sets a reserved bit (R17). -/
def reservedSet (off v : Nat) : Bool :=
  match regRow off with
  | some r => decide (v &&& r.named ≠ v)
  | none => decide (0x1860000 ≤ off ∧ off < 0x1860300 ∧ 65536 ≤ v)

/-! ### State conditions (step 5 of R132) -/

/-- The current or the pending state of a video layer selects a coefficient bank (R190). -/
def bankSelected (s : State) (v : Nat) (bankB : Bool) : Bool :=
  let x := vget s.cmp.layers v {}
  let picks (g : Geom) : Bool := g.enable && g.coefBank == bankB
  picks x.cur.geom || x.pend.elim false (fun q => picks q.st.geom)

/-- State conditions of the look-up windows (R190, R357). -/
def lutBarred (s : State) (off : Nat) : Bool :=
  if off < 0x1804000 then bankSelected s ((off - 0x1800000) / 0x1000) (decide (1792 ≤ off % 0x1000))
  else if 0x1870000 ≤ off ∧ off < 0x1870600 then
    let x := slotAt s ((off - 0x1870000) / 64)
    decide (x.kind = 0) || x.bankB == decide (8 ≤ off % 64 / 4)
  else false

/-- A state condition of the register's own rule forbids the write. No write of GLB_RESET ends a thermal trip (R481). -/
def barred (s : State) (off v : Nat) : Bool :=
  match blockOf off with
  | .glb => (decide (off = 0x5C) && !hostBootOpen s) || (decide (off = 0x58) && s.boot.power == .tripped)
  | .hmi => s.hmi.enabled && decide (0x10010 ≤ off ∧ off ≤ 0x10038)
  | .flt => decide (0x40040 ≤ off ∧ off < 0x40060) && pendingRefused s ((off - 0x40040) / 4) v
  | .clr => decide (off = 0x300004) && s.clr.pqBusy
  | .cal =>
    match calTarget off with
    | some n => calRefusal s n v == some .badState
    | none => false
  | .lpe => decide (0xB00100 ≤ off ∧ off % 0x40 = 0x20) && decide ((slotAt s ((off - 0xB00100) / 0x40)).kind = 0)
  | .ftg => decide (off = 0xD00204 ∨ off = 0xD00208) && decide (bits (regN s 0xD00200) 1 0 ≠ 0)
  | .ver => decide (0xD81000 ≤ off ∧ off < 0xD81E00) && !verEnabled s ((off - 0xD81000) / 0x200)
  | .aud => decide (off % 0x100 = 0xC ∨ off % 0x100 = 0x10) && (audPort s ((off - 0xE00000) / 0x100)).running
  | .lut => lutBarred s off
  | _ => false

/-! ### The order of refusal (R132) -/

/-- A write that clears GLB_ERR_STATUS.VALID and sets no reserved bit: never rejected (R107). -/
def isErrClear (off v : Nat) : Bool := decide (off = 0x20) && bitAt v 31 && !reservedSet off v

/-- Writes accepted before stage 8 (R524). -/
def earlyWrite (s : State) (q : Requester) (off : Nat) : Bool :=
  decide (off = 0x58) || (decide (off = 0x38) && q == .pcie) || blockOf off == .hmi
    || decide (0x40040 ≤ off ∧ off < 0x40060) || decide (off = 0x40020)
    || (decide (s.boot.stage = 15) && (decide (off = 0x5C) || blockOf off == .bootWindow))

/-- Step 1: the access path. -/
def pathRefusal (s : State) (q : Requester) (off : Nat) : Option Status :=
  if q == .smbus && isWindow off then some .unsupported
  else if blockOf off == .beadStore then some .unsupported
  else if blockOf off == .bootWindow && !hostBootOpen s then some .unsupported
  else if q == .smbus && (decide (off = 0x38) || s.glb.writeLock) then some .badState
  else if startLimited s && !earlyWrite s q off then some .badState
  else none

/-- A sensor whose registers a write addresses is absent. -/
def sensorGone (s : State) (off : Nat) : Bool :=
  decide (0x61000 ≤ off ∧ off < 0x61460) && !sensorPresent s ((off - 0x61000) / 32)

/-- The code with which a write is refused, if it is (R132). -/
def writeRefusal (s : State) (q : Requester) (off v : Nat) : Option Status :=
  if isErrClear off v then none
  else
    match pathRefusal s q off with
    | some e => some e
    | none =>
      if absentAt s off || sensorGone s off then some .unitAbsent
      else if domainOff s off then some .badState
      else if !mapped off || reservedSet off v || !limitsOk s off v then some .outOfRange
      else if barred s off v then some .badState
      else none

/-! ### What an accepted write does -/

/-- A written register: its writable fields take the value, its read-only fields keep theirs (R18). -/
def plainValue (s : State) (off : Nat) (r : RegRow) (v : Nat) : Nat :=
  let w := r.rw ||| r.rws
  (v &&& w) ||| (regN s off - (regN s off &&& w))

/-- A write to a plain register. -/
def plainWrite (s : State) (off v : Nat) : State :=
  match regRow off with
  | some r => setReg s off (plainValue s off r v)
  | none => s

/-- A changed level clears that threshold's dwell counts (R475): `lo` is the threshold of bits 15:0. -/
def levelChange (s : State) (i lo old v : Nat) : State :=
  let chg (k : Nat) (on : Bool) (x : Sensor) : Sensor := if on then { x with up := x.up.set k 0, down := x.down.set k 0 } else x
  modSensor s i (fun x => chg (lo + 1) (bits old 31 16 != bits v 31 16) (chg lo (bits old 15 0 != bits v 15 0) x))

/-- Writes to the thermal registers. -/
def thmWrite (s : State) (off v : Nat) : State :=
  if off = 0x60000 then (if bitAt v 31 then { s with boot := { s.boot with tripFlag := false } } else s)
  else if 0x61000 ≤ off ∧ off < 0x61460 then
    let i := (off - 0x61000) / 32
    if off % 32 = 4 then levelChange (plainWrite s off v) i 2 (regN s off) v
    else if off % 32 = 8 then levelChange (plainWrite s off v) i 0 (regN s off) v
    else if off % 32 = 0xC ∧ 1 ≤ i ∧ i ≤ 16 then s
    else plainWrite s off v
  else plainWrite s off v

/-- Writes to the fault collector: PENDING bits (R507), the first-error capture (R501). -/
def fltWrite (s : State) (off v : Nat) : State :=
  if 0x40040 ≤ off ∧ off < 0x40060 then pendingClear s ((off - 0x40040) / 4) v
  else if off = 0x40020 then (if bitAt v 31 then { s with flt := { s.flt with first := none } } else s)
  else plainWrite s off v

/-- Writes to GLB; `flashOk` is what reading the firmware slot back gives, should the write program one (R522). -/
def glbWrite (s : State) (off v : Nat) (flashOk : Bool) : State :=
  match off with
  | 0x20 => if bitAt v 31 then errClear s else s
  | 0x28 => if bitAt v 31 then accessClear s else s
  | 0x38 => { s with glb := { s.glb with pecReq := bitAt v 1, writeLock := s.glb.writeLock || bitAt v 0 } }
  | 0x58 => warmBegin s 0xFC .warm (bitAt v 1)
  | 0x5C => if bitAt v 31 then hostBootGo (plainWrite s off v) v flashOk else plainWrite s off v
  | _ => plainWrite s off v

/-- Writes to the HMI block (R117, R124, R140). -/
def hmiWrite (s : State) (off v : Nat) : State :=
  match off with
  | 0x10000 => writeHmiCtrl s v
  | 0x10058 =>
    let s1 := plainWrite s off v
    if v = 0 then { s1 with hmi := { s1.hmi with wdStart := none } } else wdRestart s1
  | 0x1005C => wdRestart s
  | _ => plainWrite s off v

/-- Writes to MEM: DEBT_MAX clears through its bit 3 (R437). -/
def memWrite (s : State) (off v : Nat) : State :=
  if off = 0x100018 then (if bitAt v 3 then { s with mem := { s.mem with debtMax := 0 } } else s) else plainWrite s off v

/-- Writes to a port: lane-lost bits (R316). -/
def plkWrite (s : State) (off v : Nat) : State :=
  if off % 0x10000 = 0xC then
    modPort s ((off - 0x800000) / 0x10000) (fun x => { x with laneLost := x.laneLost - (x.laneLost &&& v) })
  else plainWrite s off v

/-- Writes to an audio port: the channel mask waits for an edge (R449), ring pointers (R441, R452). -/
def audWrite (s : State) (off v : Nat) : State :=
  let p := (off - 0xE00000) / 0x100
  match off % 0x100 with
  | 0x04 => modAud (plainWrite s off v) p (fun x => { x with maskNext := x.maskNext ++ [(s.tsc, v % 4)] })
  | 0x14 => if p < 4 then modAud s p (fun x => { x with wr := v }) else s
  | 0x18 => if p = 4 then modAud s p (fun x => { x with rd := v }) else s
  | _ => plainWrite s off v

/-- Writes to the verification unit (R406). -/
def verWrite (s : State) (off v : Nat) : State :=
  if 0xD81000 ≤ off ∧ off < 0xD81E00 ∧ off % 0x20 < 0x10 then
    let k := off % 0x20 / 4
    regionWrite s ((off - 0xD81000) / 0x200) ((off - 0xD81000) % 0x200 / 0x20) k (if k = 0 then v &&& 0xFFFF0007 else v)
  else plainWrite s off v

/-- The ST 2084 table starts to regenerate (R211). -/
def pqWrite (s : State) (v : Nat) : State :=
  let s1 := plainWrite s 0x300004 v
  { s1 with clr := { s1.clr with pqBusy := true } }

/-- Two scaler coefficients of a video layer (R190). -/
def layerCoefWrite (s : State) (v i w : Nat) : State :=
  let zero : Nat → Int := fun _ => 0
  let m := mapSet zero (vget s.cmp.coef v []) i (signed 16 (bits w 15 0))
  { s with cmp := { s.cmp with coef := vset s.cmp.coef v (mapSet zero m (i + 1) (signed 16 (bits w 31 16))) } }

/-- One coefficient of a slot's bank (R357). -/
def slotCoefWrite (s : State) (i w v : Nat) : State :=
  let put (l : List Int) (k : Nat) : List Int := ((List.range 7).map (fun j => l.getD j 0)).set k (signed 32 v)
  modSlot s i (fun x => if w < 8 then { x with coefA := put x.coefA w } else { x with coefB := put x.coefB (w - 8) })

/-- Writes to the look-up windows; the linearisation tables discard them (R236). -/
def lutWrite (s : State) (off v : Nat) : State :=
  if off < 0x1804000 then layerCoefWrite s ((off - 0x1800000) / 0x1000) (off % 0x1000 / 2) v
  else if 0x1860000 ≤ off ∧ off < 0x1860300 then
    let b := (off - 0x1860000) / 64
    modBank s b (fun x => { x with writes := x.writes ++ [(off % 64 / 4, v)] })
  else if 0x1870000 ≤ off ∧ off < 0x1870600 then slotCoefWrite s ((off - 0x1870000) / 64) (off % 64 / 4) v
  else s

/-- A DW of the boot window (R522). -/
def windowWrite (s : State) (o v : Nat) : State :=
  let put (m : List Host.Cell) (e : Byte × Nat) : List Host.Cell := mapSet (fun _ => (0 : Byte)) m (o + e.2) e.1
  { s with boot := { s.boot with window := (leBytes 4 v).zipIdx.foldl put s.boot.window } }

/-- The effect of an accepted register write. -/
def writeEffect (s : State) (off v : Nat) (flashOk : Bool) : State :=
  match blockOf off with
  | .glb => glbWrite s off v flashOk
  | .hmi => hmiWrite s off v
  | .img => if off = 0x20000 then (if bitAt v 25 then { s with img := { s.img with interrupted := false } } else s) else plainWrite s off v
  | .flt => fltWrite s off v
  | .thm => thmWrite s off v
  | .cal =>
    match calTarget off with
    | some n => (match writeCalTarget s n v with | .ok t => t | .error _ => s)
    | none => plainWrite s off v
  | .mem => memWrite s off v
  | .clr => if off = 0x300004 then pqWrite s v else plainWrite s off v
  | .plk => plkWrite s off v
  | .ver => verWrite s off v
  | .aud => audWrite s off v
  | .lut => lutWrite s off v
  | .bootWindow => windowWrite s (off - 0x2000000) v
  | _ => plainWrite s off v

/-- A register write: in full, or not at all (R108). -/
def regWrite (s : State) (q : Requester) (off v : Nat) (flashOk : Bool) : State :=
  match writeRefusal s q off v with
  | some e => reject s q false off e
  | none => writeEffect s off v flashOk

/-- A register read: what its requester sees, and the capture it makes (R28). -/
def regRead (s : State) (q : Requester) (off : Nat) : Nat × State :=
  let hidden := (startLimited s && !earlyBlock off) || absentAt s off || domainOff s off
  (regValue s q off, if hidden then s else capture s q off)

/-! ### BAR4 (R103, R104, R119) -/

/-- A write to a DW of the MSI-X table: a vector unmasked while its pending bit is set is signalled (R105). -/
def msixWrite (s : State) (i w v : Nat) : State :=
  let put (e : MsixEntry) : MsixEntry :=
    if w = 0 then { e with addr := e.addr &&& 0xFFFFFFFF00000000 ||| BitVec.ofNat 64 v }
    else if w = 1 then { e with addr := e.addr &&& 0xFFFFFFFF ||| (BitVec.ofNat 64 v <<< 32) }
    else if w = 2 then { e with data := BitVec.ofNat 32 v }
    else { e with masked := bitAt v 0 }
  flushVectors { s with hmi := { s.hmi with msix := vmod s.hmi.msix i put } }

/-- A write to a DW of BAR4. The reserved bits of a doorbell or a mirror refuse it (R17, R119, R140). -/
def bar4Write (s : State) (off v : Nat) : State :=
  if off = 0 ∨ off = 4 ∨ off = 8 then
    if 4096 ≤ v then reject s .pcie true off .outOfRange
    else if off = 0 then doorbellCmd s v
    else if off = 4 then doorbellCpl s v
    else doorbellEvt s v
  else if off = 0x1000 ∨ off = 0x1004 ∨ off = 0x1008 then (if 4096 ≤ v then reject s .pcie true off .outOfRange else s)
  else if 0xF0000 ≤ off ∧ off < 0xF0400 then msixWrite s ((off - 0xF0000) / 16) (off % 16 / 4) v
  else s

/-! ### The PCI Express path (R92, R95, R98) -/

/-- An access over PCI Express reaches the function: in D0, with configuration space answering from the end of stage 1
(R524). An access while the link is noted down says that it has come up again. -/
def pcieReaches (s : State) : Bool := s.hmi.d0 && (s.hmi.linkUp || decide (2 ≤ s.boot.stage)) && decide (1 < s.boot.stage)

/-- What an access over PCI Express does first: the link is up. -/
def pcieUp (s : State) : State :=
  if s.hmi.linkUp then s else hmiResume { s with hmi := { s.hmi with linkUp := true } }

/-- An access over PCI Express. -/
def pcieAccess (s : State) (f : State → State) : State := if pcieReaches s then f (pcieUp s) else s

/-- A register write over PCI Express. -/
def pcieWrite (s : State) (off v : Nat) (flashOk : Bool) : State := pcieAccess s (fun s => regWrite s .pcie off v flashOk)

/-- A BAR4 write over PCI Express. -/
def pcieBar4 (s : State) (off v : Nat) : State := pcieAccess s (fun s => bar4Write s off v)

/-! ### The SMBus management port (R110–R116) -/

/-- The PEC byte of a transaction: absent, right, wrong. -/
def pecBad (s : State) (pec : Pec) : Bool :=
  match pec with
  | .none => s.glb.pecReq
  | .good => false
  | .bad => true

/-- The port answers: the module is out of stage 0 and not held in reset. -/
def smbAnswers (s : State) : Bool := decide (s.boot.stage ≠ 0)

/-- One bit of the PEC: the CRC-8 of SMBus, x⁸ + x² + x + 1 (PRESUMED, log entry 68). -/
def pecBit (c : Nat) : Nat := if 128 ≤ c then (2 * c % 256) ^^^ 7 else 2 * c

/-- The PEC over the bytes of a transaction. -/
def pecOf (l : List Nat) : Nat :=
  l.foldl (fun c b => (List.range 8).foldl (fun c _ => pecBit c) (c ^^^ b)) 0

/-- The answer to a read with a command code: its data, and the PEC byte for a controller that clocks one more (R113). A
block's data go behind their count. -/
def smbAnswer (s : State) (code : Nat) (block : Bool) (data : List Byte) : Output :=
  let a := smbAddress s
  let wire := [2 * a, code, 2 * a + 1] ++ (if block then [data.length] else []) ++ data.map (·.toNat)
  .smbus (some data) (some (BitVec.ofNat 8 (pecOf wire)))

/-- A discarded transaction: fault 0x16, and a NACK of a PEC byte that is wrong (R113). -/
def smbDiscard (s : State) (pec : Pec) : State :=
  report (if pec = .bad then emit s (.smbus none none) else s) { source := 0x16, master := smbAddress s, access := 0x24 }

/-- The pointer advances by 4 and returns to 0 past the end of BAR0 (R112). -/
def smbAdvance (s : State) : State := { s with smbPtr := if s.smbPtr = 0x3FFFFFC then 0 else s.smbPtr + 4 }

/-- A Block Write: its byte count must be 4, its PEC right (R112, R113). -/
def smbBlockWrite (s : State) (count : Nat) (pec : Pec) (f : State → State) : State :=
  if !smbAnswers s then s
  else if count ≠ 4 then emit s (.smbus none none)
  else if pecBad s pec then smbDiscard s pec
  else emit (f s) (.smbus (some []) none)

/-- Command 0x01. -/
def smbSetPointer (s : State) (v : Nat) : State :=
  if v % 4 ≠ 0 ∨ 0x4000000 ≤ v then reject s .smbus false (v % 0x4000000) .outOfRange else { s with smbPtr := v }

/-- Command 0x02. -/
def smbRead (s : State) : State :=
  if !smbAnswers s then s
  else
    let r := regRead s .smbus s.smbPtr
    emit (smbAdvance r.2) (smbAnswer s 2 true (leBytes 4 r.1))

/-- Command 0x03. -/
def smbWrite (s : State) (v : Nat) (flashOk : Bool) : State :=
  smbAdvance (regWrite s .smbus s.smbPtr v flashOk)

/-- A read with a command code that returns what `f` gives. -/
def smbReply (s : State) (code : Nat) (block : Bool) (f : State → List Byte) : State :=
  if smbAnswers s then emit s (smbAnswer s code block (f s)) else s

/-- The Alert Response Address: answered with the own address while SMB_ALERT_N is asserted (R116). -/
def smbAlertResponse (s : State) : State :=
  if !smbAnswers s then s
  else if smbAlert s then
    emit s (.smbus (some (leBytes 1 (smbAddress s))) (some (BitVec.ofNat 8 (pecOf [0x19, smbAddress s]))))
  else emit s (.smbus none none)

end Sys2Proof.Machine
end

