-- ==== Sys2Proof/Machine/Bar2Ops.lean ====
section
/-! DEFINITION. The DRAM window BAR2 with its fences and its ECC cases (R147–R149, R164–R167, R418–R420, R435), its resizing, and what always-on logic does beside the switched domains: VAUX_3V3, AON SRAM, the test access port (R495, R543, R554, R555). -/

namespace Sys2Proof.Machine

/-! ### Writes through BAR2 (R149, R166) -/

/-- Enabled bytes of a write TLP, with their DRAM addresses. -/
def tlpBytes (a : Nat) (data : List (Option Byte)) : List (Nat × Byte) :=
  data.zipIdx.filterMap (fun e => e.1.map (fun b => (a + e.2, b)))

/-- A byte that fences a write: a buffer's in the host area, or one of a device region or the reserved area. -/
def fencedByte (s : State) (a : Nat) : Bool :=
  match areaOf s a with
  | .host => bufFenced s a
  | .device => true
  | .reserved => true
  | .beyond => false

/-- A byte of the host area that a buffer fences: what MEM_FENCE_TALLY counts (R166, R170). -/
def hostFenced (s : State) (a : Nat) : Bool := areaOf s a == .host && bufFenced s a

/-- A byte that a write TLP reaches is written: host area, not fenced or under POLICY LOG (R166). -/
def writable (s : State) (a : Nat) : Bool :=
  areaOf s a == .host && (!bufFenced s a || bitAt (regN s 0x1F0008) 0)

/-- Write single bytes. -/
def wrList (s : State) (l : List (Nat × Byte)) : State := l.foldl (fun s e => wr s e.1 e.2) s

/-- Words that a list of bytes writes in full. -/
def wholeWords (l : List (Nat × Byte)) : List Nat :=
  ((l.map (fun e => e.1 / 8)).eraseDups).filter (fun w => decide (8 ≤ ((l.filter (fun e => e.1 / 8 == w)).map (·.1)).eraseDups.length))

/-- The words among those a write reaches in part whose reads meet errors (R418). -/
def partErrors (s : State) (l : List (Nat × Byte)) (e : DramErrs) : State :=
  let whole := wholeWords l
  let part (w : Nat) : Bool := l.any (fun x => x.1 / 8 == w) && !whole.contains w
  meetErrors s { ue := e.ue.filter part, ce := e.ce.filter part } 3

/-- A write of single bytes with its ECC effect: a whole word heals; a part of a word that reads as uncorrectable, stored so
or by an injection, poisons it and is one affected request (R419–R421). -/
def wrMerge (s : State) (l : List (Nat × Byte)) : State :=
  let whole := wholeWords l
  let inPart (x : Nat) : Bool := !whole.contains (x / 8)
  let inj := (vget s.flt.srcs 0x21 {}).armed.bind (fun i => if l.any (fun e => e.1 / 8 == i.address / 8 && inPart e.1) then some i else none)
  let reads (w : Nat) : Bool := s.badWords.contains w || inj.elim false (fun i => i.address / 8 == w)
  let hit := ((l.filter (fun e => reads (e.1 / 8) && inPart e.1)).map (fun e => e.1 / 8)).eraseDups
  let s1 := wrList s l
  let s2 := { s1 with
    badWords := s.badWords.filter (fun w => !whole.contains w) ++ hit.filter (fun w => !s.badWords.contains w),
    poisoned := s.poisoned.filter (fun w => !whole.contains w) ++ hit.filter (fun w => !s.poisoned.contains w) }
  reportUe s2 ((l.find? (fun e => s.badWords.contains (e.1 / 8) && inPart e.1)).map (·.1)) inj 3

/-- A report of a BAR2 TLP: write or read, requester, length in DW. -/
def tlpReport (s : State) (source a rid : Nat) (write : Bool) (dw : Nat) : State :=
  report s { source := source, address := a, master := rid, access := (if write then 0x11 else 0x12), lengthDw := dw % 256 }

/-- Length in DW of a TLP of `n` bytes at an offset. -/
def tlpDw (off n : Nat) : Nat := ceilDiv (off % 4 + n) 4

/-- A write TLP behind the doorbell of a command still to be fetched is kept in mind: `l` its bytes, `w` those it writes
(R159). -/
def noteWrite (s : State) (rid dw : Nat) (l w : List (Nat × Byte)) : State :=
  if ringsRun s && s.hmi.cmdHead != s.hmi.cmdTail then
    let log := bitAt (regN s 0x1F0008) 0
    { s with cmp := { s.cmp with writes := s.cmp.writes ++ [{
        stamp := s.tsc, rid := rid, dw := dw % 256, raised := l.any (fun e => fencedByte s e.1),
        counted := l.any (fun e => hostFenced s e.1), before := if log then [] else w.map (fun e => (e.1, rd s e.1)),
        wrote := w.map (·.1) }] } }
  else s

/-- A write TLP to the DRAM window, byte by byte. -/
def bar2Write (s : State) (rid off : Nat) (data : List (Option Byte)) (errs : DramErrs) : State :=
  let dw := tlpDw off data.length
  if 2 ^ s.hmi.bar2Log2 < off + data.length then s
  else if !memServing s then tlpReport s 0x27 (bar2Base s + off) rid true dw
  else
    let l := tlpBytes (bar2Base s + off) data
    let w := l.filter (fun e => writable s e.1)
    let s0 := noteWrite (if w.any (fun e => bufFenced s e.1) then holdFetched s else s) rid dw l w
    let s1 := wrMerge (partErrors s0 w errs) w
    let s2 := match l.find? (fun e => fencedByte s e.1) with
      | some e => tlpReport (if l.any (fun e => hostFenced s e.1) then bump s1 0x1F0010 else s1) 0x28 e.1 rid true dw
      | none => s1
    match l.find? (fun e => areaOf s e.1 == .beyond) with
    | some e => tlpReport (bump s2 0x1F0014) 0x29 e.1 rid true dw
    | none => s2

/-! ### Reads through BAR2 (R149, R419, R421) -/

/-- A read reaches the byte: host area or device region. -/
def readable (s : State) (a : Nat) : Bool := areaOf s a == .host || areaOf s a == .device

/-- Words among those this read reaches that it finds damaged (R418). -/
def noteErrors (s : State) (l : List Nat) (ue ce : List Nat) : State :=
  let inside (w : Nat) : Bool := l.any (fun x => x / 8 == w && readable s x)
  meetErrors s { ue := ue.filter inside, ce := ce.filter inside } 3

/-- DRAM addresses that the byte enables of a read select, from `a` on. -/
def enabledBytes (a : Nat) (be : List Bool) : List Nat := be.zipIdx.filterMap (fun e => if e.1 then some (a + e.2) else none)

/-- A read TLP of the DRAM window, byte by byte: its data, its faults. `ue` and `ce` are words (address / 8) that this read
finds uncorrectable, and corrects. -/
def bar2Read (s : State) (rid off : Nat) (be : List Bool) (ue ce : List Nat) : State :=
  let n := be.length
  let dw := tlpDw off n
  let a := bar2Base s + off
  let l := enabledBytes a be
  if 2 ^ s.hmi.bar2Log2 < off + n then s
  else if !memServing s then
    tlpReport (emit s (.readData (List.replicate l.length 0) false)) 0x27 a rid false dw
  else
    let s1 := noteErrors s l ue ce
    let bad := l.find? (fun x => readable s x && badAt s1 x)
    let inj := (armedUe s1 a n).bind (fun i => if readable s i.address && !l.isEmpty then some i else none)
    let s3 := reportUe s1 bad inj 3
    let ep := bad.isSome || inj.isSome
    let data := l.map (fun x => if readable s x && !ep then rd s x else 0)
    let s4 := emit s3 (.readData data ep)
    match l.find? (fun x => areaOf s x == .beyond) with
    | some x => tlpReport (bump s4 0x1F0014) 0x29 x rid false dw
    | none => s4

/-- A Resizable BAR write: the bits of the window base below the new size clear (R147). A size the capability does not
offer changes nothing. -/
def bar2Resize (s : State) (log2 : Nat) : State :=
  if 28 ≤ log2 ∧ 2 ^ log2 ≤ dramGb s * 0x40000000 then
    let b := bar2Base s / 2 ^ log2 * 2 ^ log2
    setReg { s with hmi := { s.hmi with bar2Log2 := log2 } } 0x1F0004 (b / 0x10000000)
  else s

/-! ### Always-on logic (R495, R543, R554, R555) -/

/-- AON_UE: an uncorrectable error in AON SRAM, at its offset. -/
def aonUe (s : State) (address : Nat) : State := report s { source := 0xF2, address := address }

/-- VAUX_3V3_RETRY: the rail retries; what the flash was doing meets a power loss: an append under way fails (R75). -/
def vauxRetry (s : State) (up : Bool) : State :=
  let s1 := { s with vauxDown := !up }
  if s.img.appends.isEmpty then s1 else appendDone s1 false

/-- The IDCODE of the module (R554). -/
def idcode (s : State) : Nat :=
  let letter := bits s.fuse.stepping.toNat 7 0
  let digit := bits s.fuse.stepping.toNat 15 8
  fld 31 28 ((letter - 65) * 4 + (digit - 48)) + fld 27 12 (partCode s.fuse.variant) + fld 11 1 0x5D7 + 1

/-- Test instructions may take the balls: FTG0 stopped, no bank live (R555). -/
def testAllowed (s : State) : Bool :=
  !s.ftgOn && s.lsd.bank.toList.all (fun x => !(x.mode == .starting || x.mode == .paused || x.mode == .armed))

/-- Instructions that take control of the balls. -/
def takesBalls (i : JtagInstr) : Bool :=
  match i with
  | .extest | .clamp | .highz | .extestPulse | .extestTrain => true
  | _ => false

/-- A test-access-port instruction with what is shifted into the cells of LASER_EN, HL_EN and SHUTTER_OUT. -/
def jtagLoad (s : State) (i : JtagInstr) (lasers : Nat) (hl shutter : Bool) : State :=
  let ok := takesBalls i && testAllowed s
  let low := interlockOpen s
  let eff : JtagInstr := if takesBalls i && !ok then .bypass else i
  let s1 := { s with jtag := {
    instr := eff, control := ok, laserCells := if ok && !low then lasers % 4096 else 0, hlCell := ok && !low && hl,
    shutterCell := ok && !low && shutter } }
  if i = .idcode then emit s1 (.idcode (idcode s)) else s1

/-- The balls are under test control now. -/
def testControls (s : State) : Bool := s.jtag.control && testAllowed s

/-- The level of a LASER_EN ball: the test cell under test control, else what the drive sets; low while the interlock is
open. -/
def laserBall (s : State) (b : Nat) : Bool :=
  if testControls s then bitAt s.jtag.laserCells b && !interlockOpen s else bitAt s.pins.laserEn b

end Sys2Proof.Machine
end

