-- ==== Sys2Proof/Machine/BeadRows.lean ====
section
/-! DEFINITION. Meanings of the bead rows and of the Reckoner's own (chapters 7–14). -/

namespace Sys2Proof.Machine

/-- The beads of the running segment, from the slot of the running variant; none where no variant is loaded (R274, R277,
R280). -/
def segBeads (s : State) : List Bead :=
  match vget s.rck.store s.rck.slotRun none with
  | some v => if s.rck.k = 0 then (schedOf s v).base else (schedOf s v).ext
  | none => []

/-- The beads of the segment that follows, once its boundary is decided: those of the variant that will run, or the
running variant's extension (R274, R276). No segment follows where the slave idles (R400). -/
def nextBeads (s : State) : List Bead :=
  match s.ftg.decided with
  | none => []
  | some d =>
    if s.ftg.realign then []
    else if d.newFrame || decide (s.rck.k = 15) then
      (schedOf s (((variantDue s).map (·.variant)).getD s.rck.variant)).base
    else (runSched s).ext

/-- The bead named stands in the store for the present: at its effect time in the running segment (R265); or, for what
befalls it at its issue, a lead before its effect time in the running segment or the one that follows (R265, R274). -/
def beadAt (s : State) (how : BeadCome) (b : Bead) : Bool :=
  if how = .effect then
    (segBeads s).contains b && decide (s.rck.segStart + b.time = s.tsc)
  else
    ((segBeads s).contains b && decide (s.rck.segStart + b.time = s.tsc + leadOf b.action))
    || ((nextBeads s).contains b && decide (s.rck.segStart + segLength s + b.time = s.tsc + leadOf b.action))

/-- TSC at which a bead that acts now takes effect. -/
def effectAt (s : State) (how : BeadCome) (b : Bead) : Nat := if how = .effect then s.tsc else s.tsc + leadOf b.action

/-- The Reckoner issues this bead now: it stands in the store for the present, and has not been issued before (R265, R266). -/
def beadDue (s : State) (how : BeadCome) (b : Bead) : Bool :=
  issuing s && beadAt s how b && !s.rck.issued.contains (b.rod, effectAt s how b)

/-- A bead is issued: its rod issues none for this effect time again (R266). -/
def noteIssue (s : State) (how : BeadCome) (b : Bead) : State :=
  { s with rck := { s.rck with
      issued := (b.rod, effectAt s how b) :: s.rck.issued.filter (fun e => decide (s.tsc ≤ e.2)) } }

/-- Store offset of a bead of the running variant (R280). -/
def beadOffset (s : State) (b : Bead) : Nat :=
  0x280000 * s.rck.slotRun + 0x400 + 16 * (slotBeads (runSched s)).idxOf b

/-- A bead: nothing unless the Reckoner issues it now. A corrected store read raises 0x50, and the bead goes on; an
uncorrectable one raises 0x51, and it is discarded (R288). Late, it is given to `late`, which contains its target (R269). -/
def bead (s : State) (how : BeadCome) (b : Bead) (late f : State → State) : State :=
  event s (fun s =>
    if beadDue s how b then
      match how with
      | .effect => f (noteIssue s how b)
      | .late => late (noteIssue s how b)
      | .corrected => report s { source := 0x50, address := beadOffset s b }
      | .uncorrectable => report (noteIssue s how b) { source := 0x51, address := beadOffset s b }
    else s)

/-- A late bead, counted with fault 0x52, and its target contained (R269). -/
def lateBead (b : Bead) (contain : State → State) (s : State) : State := contain (beadLate s b.rod b.time)

/-- A port is contained for the rest of the frame (R269). -/
def portContained (s : State) (p : Nat) : Bool := bitAt s.rck.containPorts p

/-- A bead for a port: discarded and counted while it is out of service (R268), without effect while it is contained
(R269). -/
def portBead (p : Nat) (f : State → State) (s : State) : State :=
  if !takesBeads s p then discardBead s else if portContained s p then s else f s

/-- The bead of a rod with an action (R263). -/
def beadOf (rod : Fin 64) (time : BitVec 32) (action target arg : Nat) : Bead :=
  { time := time.toNat, rod := rod.val, action := action, target := target, arg := arg }

/-! The beads of the nine actions (R264). -/

/-- LOAD_BLOCK as it stands in the store. -/
def loadRow (rod : Fin 64) (time : BitVec 32) (port : Fin 6) (block : Fin 16) (plane : Fin 48) (cached blank : Bool) : Bead :=
  beadOf rod time 1 port.val (fld 3 0 block.val + fld 13 8 plane.val + fld 16 16 (b2n cached) + fld 17 17 (b2n blank))

/-- RESET_BLOCK as it stands in the store. -/
def resetRow (rod : Fin 64) (time : BitVec 32) (port : Fin 6) (showMask darkMask : BitVec 16) : Bead :=
  beadOf rod time 2 port.val (pack16 showMask.toNat darkMask.toNat)

/-- LEVEL as it stands in the store. -/
def levelRow (rod : Fin 64) (time : BitVec 32) (primary : Fin 3) (lvl : Option (Fin 16)) : Bead :=
  beadOf rod time 3 primary.val (match lvl with | none => 16 | some l => l.val)

/-- WINDOW as it stands in the store. -/
def windowRow (rod : Fin 64) (time : BitVec 32) (slots : BitVec 24) (opens : Bool) : Bead :=
  beadOf rod time 4 0 (slots.toNat + fld 24 24 (b2n opens))

/-- DIAG_PULSE as it stands in the store. -/
def pulseRow (rod : Fin 64) (time : BitVec 32) (bank : Fin 12) (lvl : Fin 16) (width : BitVec 16) : Bead :=
  beadOf rod time 5 bank.val (pack16 lvl.val width.toNat)

/-- CAL_PAIR as it stands in the store. -/
def pairRow (rod : Fin 64) (time : BitVec 32) (width gap : BitVec 16) : Bead :=
  beadOf rod time 6 0 (fld 31 16 width.toNat + fld 47 32 gap.toNat)

/-- DRAM_SLOT as it stands in the store. -/
def dramRow (rod : Fin 64) (time : BitVec 32) (training : Bool) (channels period count : BitVec 16) : Bead :=
  beadOf rod time 7 (b2n training) (channels.toNat + fld 47 32 period.toNat + fld 63 48 count.toNat)

/-- DARK_SPAN as it stands in the store. -/
def darkRow (rod : Fin 64) (time : BitVec 32) (length : BitVec 32) : Bead := beadOf rod time 8 0 length.toNat

/-- SCAN_LINE as it stands in the store. -/
def scanRow (rod : Fin 64) (time : BitVec 32) (first count : BitVec 16) (period : BitVec 32) : Bead :=
  beadOf rod time 9 0 (pack16 first.toNat count.toNat + fld 63 32 period.toNat)

/-- LOAD_BLOCK (R264, R270). -/
def execLoadBlock (rod : Fin 64) (time : BitVec 32) (how : BeadCome) (port : Fin 6) (block : Fin 16) (plane : Fin 48)
    (cached blank : Bool) (missing : List Nat) (cacheCe : Bool) (cacheUe : Option Nat)
    (s : State) (errs : DramErrs := {}) : Host.Outcome State Fault Refusal :=
  let b := loadRow rod time port block plane cached blank
  .next (bead s how b (portBead port.val (lateBead b (fun s => containPort s port.val)))
    (portBead port.val (fun s => loadBlock (if cached || blank then s else meetErrors s errs 8) port.val block.val plane.val cached blank missing
      cacheCe cacheUe)))

/-- RESET_BLOCK (R264, R270). -/
def execResetBlock (rod : Fin 64) (time : BitVec 32) (how : BeadCome) (port : Fin 6) (showMask darkMask : BitVec 16)
    (aborts : Bool) (s : State) : Host.Outcome State Fault Refusal :=
  let b := resetRow rod time port showMask darkMask
  .next (bead s how b (portBead port.val (lateBead b (fun s => containPort s port.val)))
    (portBead port.val (fun s => resetBlock s port.val showMask.toNat darkMask.toNat aborts)))

/-- A primary is held at ZERO until the next frame start (R269). -/
def containPrimary (s : State) (c : Nat) : State :=
  let s1 := levelBead s c none
  { s1 with rck := { s1.rck with containPrims := s1.rck.containPrims ||| 2 ^ c } }

/-- A LEVEL bead for a primary: without effect while it is contained (R269). -/
def primaryBead (c : Nat) (f : State → State) (s : State) : State := if bitAt s.rck.containPrims c then s else f s

/-- LEVEL (R264, R328). -/
def execLevel (rod : Fin 64) (time : BitVec 32) (how : BeadCome) (primary : Fin 3) (lvl : Option (Fin 16)) (s : State) :
    Host.Outcome State Fault Refusal :=
  let b := levelRow rod time primary lvl
  .next (bead s how b (primaryBead primary.val (lateBead b (fun s => containPrimary s primary.val)))
    (primaryBead primary.val (fun s => levelBead s primary.val (lvl.map (·.val)))))

/-- The slots of a late WINDOW bead hold until the next frame start (R269, R349). -/
def containSlots (s : State) (mask : Nat) : State :=
  let s1 := windowLate s mask
  { s1 with rck := { s1.rck with containSlots := s1.rck.containSlots ||| mask } }

/-- WINDOW (R264, R349). -/
def execWindow (rod : Fin 64) (time : BitVec 32) (how : BeadCome) (slots : BitVec 24) (opens : Bool) (s : State) :
    Host.Outcome State Fault Refusal :=
  let b := windowRow rod time slots opens
  .next (bead s how b (lateBead b (fun s => containSlots s slots.toNat)) (fun s => windowBead s slots.toNat opens))

/-- DIAG_PULSE (R264, R331). -/
def execDiagPulse (rod : Fin 64) (time : BitVec 32) (how : BeadCome) (bank : Fin 12) (lvl : Fin 16) (width : BitVec 16)
    (s : State) : Host.Outcome State Fault Refusal :=
  let b := pulseRow rod time bank lvl width
  .next (bead s how b (lateBead b id) (fun s => diagPulse s bank.val lvl.val width.toNat))

/-- CAL_PAIR (R232, R264). -/
def execCalPair (rod : Fin 64) (time : BitVec 32) (how : BeadCome) (width gap : BitVec 16) (s : State) :
    Host.Outcome State Fault Refusal :=
  let b := pairRow rod time width gap
  .next (bead s how b (lateBead b id) (fun s => calPair s width.toNat gap.toNat))

/-- LEVEL_PAIR_CORRECTION (R233). -/
def execLevelPairCorrection (reads : List PairRead) (s : State) : Host.Outcome State Fault Refusal :=
  .next (event s (fun s => levelPair s reads))

/-- DRAM_SLOT (R264, R425, R429). -/
def execDramSlot (rod : Fin 64) (time : BitVec 32) (how : BeadCome) (training : Bool) (channels period count : BitVec 16)
    (s : State) : Host.Outcome State Fault Refusal :=
  let b := dramRow rod time training channels period count
  .next (bead s how b (lateBead b id) (fun s =>
    if training then trainingBead s channels.toNat count.toNat else refreshBead s channels.toNat period.toNat count.toNat))

/-- DARK_SPAN (R264, R397): the hold's length is fixed at the frame start. -/
def execDarkSpan (rod : Fin 64) (time : BitVec 32) (how : BeadCome) (length : BitVec 32) (s : State) :
    Host.Outcome State Fault Refusal :=
  let b := darkRow rod time length
  .next (bead s how b (lateBead b id) darkSpan)

/-- A SCAN_LINE bead: discarded and counted while the scanner counts as parked, in every state but RUNNING (R268, R369). -/
def scannerBead (f : State → State) (s : State) : State := if s.hls.mode == .running then f s else discardBead s

/-- SCAN_LINE (R264, R377). -/
def execScanLine (rod : Fin 64) (time : BitVec 32) (how : BeadCome) (first count : BitVec 16) (period : BitVec 32) (s : State) :
    Host.Outcome State Fault Refusal :=
  let b := scanRow rod time first count period
  .next (bead s how b (scannerBead (lateBead b id))
    (scannerBead (fun s => scanLine s first.toNat count.toNat period.toNat)))

/-- VARIANT_LOAD_DONE (R282). -/
def execVariantLoadDone (ok : Bool) (s : State) : Host.Outcome State Fault Refusal :=
  .next (event s (fun s => variantLoadDone s ok))

/-- RCK_RESTORE (R285). -/
def execRckRestore (c : Cmd) (s : State) : Host.Outcome State Fault Refusal :=
  .next (hostEvent s (fun s => message s 0x0701 c []))

end Sys2Proof.Machine
end

