-- ==== Sys2Proof/Machine/DramRows.lean ====
section
/-! DEFINITION. Meanings of the DRAM controller and audio rows (chapters 14 and 15). -/

namespace Sys2Proof.Machine

/-- REFRESH_DUE (R424). -/
def execRefreshDue (chan : Fin 16) (s : State) : Host.Outcome State Fault Refusal :=
  .next (event s (fun s => refreshDue s chan.val))

/-- REFRESH_OPPORTUNITY (R425). -/
def execRefreshOpportunity (chan : Fin 16) (s : State) : Host.Outcome State Fault Refusal :=
  .next (event s (fun s => refreshOpportunity s chan.val))

/-- OWN_REFRESH_SLOT (R427). -/
def execOwnRefreshSlot (s : State) : Host.Outcome State Fault Refusal := .next (event s ownSlot)

/-- MR4_READ (R426). -/
def execMr4Read (chan : Fin 16) (cls : Option (Fin 8)) (s : State) : Host.Outcome State Fault Refusal :=
  .next (event s (fun s => mr4Read s chan.val (cls.map (·.val))))

/-- TRAINING_STEP_DONE (R431). -/
def execTrainingStepDone (chan : Fin 16) (r : StepResult) (s : State) : Host.Outcome State Fault Refusal :=
  .next (event s (fun s => trainingDone s chan.val r))

/-- MEM_TRAIN (R433). -/
def execMemTrain (c : Cmd) (s : State) : Host.Outcome State Fault Refusal :=
  .next (hostEvent s (fun s => message s 0x0D01 c []))

/-- AUD_START (R443). -/
def execAudStart (c : Cmd) (s : State) : Host.Outcome State Fault Refusal :=
  .next (hostEvent s (fun s => message s 0x0E01 c []))

/-- AUDIO_PORT_RUNNING (R443). -/
def execAudioPortRunning (port : Fin 5) (s : State) : Host.Outcome State Fault Refusal :=
  .next (event s (fun s => audRunning s port.val))

/-- AUD_STOP (R443). -/
def execAudStop (c : Cmd) (s : State) : Host.Outcome State Fault Refusal :=
  .next (hostEvent s (fun s => message s 0x0E02 c []))

/-- SAMPLE_FRAME_OUT (R447). -/
def execSampleFrameOut (port : Fin 4) (s : State) (errs : DramErrs := {}) : Host.Outcome State Fault Refusal :=
  .next (event s (fun s => sampleOut (if (audPort s port.val).running then meetErrors s errs 0x0E else s) port.val))

/-- SAMPLE_FRAME_IN (R448). -/
def execSampleFrameIn (l r : BitVec 32) (s : State) : Host.Outcome State Fault Refusal :=
  .next (event s (fun s => sampleIn s l.toNat r.toNat))

/-- AUDIO_FILL_COPY (R448). -/
def execAudioFillCopy (s : State) : Host.Outcome State Fault Refusal := .next (event s fillCopy)

/-- AUDIO_PLL_LOCK (R439). -/
def execAudioPllLock (s : State) : Host.Outcome State Fault Refusal := .next (event s pllLock)

/-- AUDIO_PLL_UNLOCK (R439). -/
def execAudioPllUnlock (s : State) : Host.Outcome State Fault Refusal := .next (event s pllUnlock)

end Sys2Proof.Machine
end

