-- ==== Sys2Proof/Machine/FrameRows.lean ====
section
/-! DEFINITION. Meanings of the frame, genlock and verification rows (chapters 1, 8, 13, 18). -/

namespace Sys2Proof.Machine

/-- DECISION_POINT (R33). -/
def execDecisionPoint (s : State) : Host.Outcome State Fault Refusal := .next (event s decisionPoint)

/-- SEGMENT_BOUNDARY (R274). -/
def execSegmentBoundary (s : State) : Host.Outcome State Fault Refusal := .next (event s segmentBoundary)

/-- QUIET_FRAME_TICK (R505): each 1/24 s of the time that FTG0 has been stopped. -/
def execQuietFrameTick (s : State) : Host.Outcome State Fault Refusal :=
  .next (event s quietFrame)

/-- FTG1_SOF (R380). -/
def execFtg1Sof (s : State) : Host.Outcome State Fault Refusal := .next (event s ftg1Sof)

/-- HOLD_END (R397). -/
def execHoldEnd (s : State) : Host.Outcome State Fault Refusal := .next (event s holdEnd)

/-- SYMBOL_ARRIVAL (R401). -/
def execSymbolArrival (s : State) : Host.Outcome State Fault Refusal := .next (event s symbolArrival)

/-- SYMBOL_DECODED (R395). -/
def execSymbolDecoded (s : State) : Host.Outcome State Fault Refusal := .next (event s symbolDecoded)

/-- REALIGNMENT_FRAME_START (R400). -/
def execRealignmentFrameStart (s : State) : Host.Outcome State Fault Refusal := .next (event s realignStart)

/-- STALE (R410). -/
def execStale (s : State) : Host.Outcome State Fault Refusal := .next (event s verStale)

end Sys2Proof.Machine
end

