-- ==== Sys2Proof/Machine/HostRows.lean ====
section
/-! DEFINITION. Meanings of the PCI Express rows, the DRAM window and the host message interface (chapters 3 and 4). -/

namespace Sys2Proof.Machine

/-! ### The PCI Express function (R92–R98, R147, R149, R517) -/

/-- FLR (R97). -/
def execFlr (s : State) : Host.Outcome State Fault Refusal := .next (hostEvent s functionReset)

/-- The link goes down: one that is up, or has had its chance to come up (R98, R518, R524). -/
def linkLost (s : State) : State := if s.hmi.linkUp || decide (2 ≤ s.boot.stage) then linkDown s else s

/-- LINK_DOWN (R98). -/
def execLinkDown (s : State) : Host.Outcome State Fault Refusal := .next (hostEvent s linkLost)

/-- PERST_N (R517): acts as a link-down; the light path runs on. -/
def execPerstN (s : State) : Host.Outcome State Fault Refusal := .next (hostEvent s linkLost)

/-- PM_STATE_CHANGE (R92). -/
def execPmStateChange (d0 : Bool) (s : State) : Host.Outcome State Fault Refusal :=
  .next (hostEvent s (fun s => setPowerState s d0))

/-- BUS_MASTER_DISABLE (R95). -/
def execBusMasterDisable (enable : Bool) (s : State) : Host.Outcome State Fault Refusal :=
  .next (hostEvent s (fun s => setBusMaster s enable))

/-- PCIE_UNCORRECTABLE (R94). -/
def execPcieUncorrectable (error : Fin 8) (s : State) : Host.Outcome State Fault Refusal :=
  .next (hostEvent s (fun s => pcieError s error.val))

/-- BAR2_RESIZE (R147). -/
def execBar2Resize (log2 : Fin 64) (s : State) : Host.Outcome State Fault Refusal :=
  .next (hostEvent s (fun s => pcieAccess s (fun s => bar2Resize s log2.val)))

/-- BAR2_WRITE (R149). -/
def execBar2Write (rid : BitVec 16) (off : Nat) (data : List (Option Byte)) (s : State) (errs : DramErrs := {}) :
    Host.Outcome State Fault Refusal :=
  .next (hostEvent s (fun s => pcieAccess s (fun s => bar2Write s rid.toNat off data errs)))

/-- BAR2_READ (R149). -/
def execBar2Read (rid : BitVec 16) (off : Nat) (be : List Bool) (ue ce : List Nat) (s : State) :
    Host.Outcome State Fault Refusal :=
  .next (hostEvent s (fun s => pcieAccess s (fun s => bar2Read s rid.toNat off be ue ce)))

/-- MSIX_VECTOR_UNMASK (R105). -/
def execMsixVectorUnmask (v : Fin 64) (s : State) : Host.Outcome State Fault Refusal :=
  .next (hostEvent s (fun s => pcieAccess s (fun s => unmaskVector s v.val)))

/-! ### The rings (R105, R117–R124, R140) -/

/-- A write of the HMI block by either requester. -/
def hmiBy (s : State) (q : Requester) (off v : Nat) : State :=
  match q with
  | .pcie => pcieWrite s off v true
  | .smbus => if smbAnswers s then regWrite s .smbus off v true else s

/-- HMI_ENABLE (R117): HMI_CTRL.ENABLE set or cleared. -/
def execHmiEnable (q : Requester) (enable : Bool) (s : State) : Host.Outcome State Fault Refusal :=
  .next (hostEvent s (fun s => hmiBy s q 0x10000 (b2n enable)))

/-- HMI_RESET (R140): HMI_CTRL.RESET, with the ENABLE of the same write. -/
def execHmiReset (q : Requester) (enable : Bool) (s : State) : Host.Outcome State Fault Refusal :=
  .next (hostEvent s (fun s => hmiBy s q 0x10000 (2 + b2n enable)))

/-- HMI_DB_CMD (R119). -/
def execHmiDbCmd (value : BitVec 32) (s : State) : Host.Outcome State Fault Refusal :=
  .next (hostEvent s (fun s => pcieBar4 s 0 value.toNat))

/-- HMI_DB_CPL (R119). -/
def execHmiDbCpl (value : BitVec 32) (s : State) : Host.Outcome State Fault Refusal :=
  .next (hostEvent s (fun s => pcieBar4 s 4 value.toNat))

/-- HMI_DB_EVT (R119). -/
def execHmiDbEvt (value : BitVec 32) (s : State) : Host.Outcome State Fault Refusal :=
  .next (hostEvent s (fun s => pcieBar4 s 8 value.toNat))

/-- HMI_HEARTBEAT (R124). -/
def execHmiHeartbeat (q : Requester) (value : BitVec 32) (s : State) : Host.Outcome State Fault Refusal :=
  .next (hostEvent s (fun s => hmiBy s q 0x1005C value.toNat))

/-- HOST_WATCHDOG (R124). -/
def execHostWatchdog (s : State) : Host.Outcome State Fault Refusal := .next (hostEvent s hostWatchdog)

/-- COMMAND_FETCH (R120). -/
def execCommandFetch (entry : Option (List Byte)) (cplFails : Bool) (shorts : List (Nat × Nat)) (s : State) :
    Host.Outcome State Fault Refusal :=
  .next (hostEvent s (fun s => latchResolve (forgetWrites (commandFetch s entry cplFails shorts))))

/-- EVENT_POST (R121). -/
def execEventPost (failed : Bool) (s : State) : Host.Outcome State Fault Refusal :=
  .next (hostEvent s (fun s => eventPost s failed))

/-- COALESCE_TIMEOUT (R105). -/
def execCoalesceTimeout (v : Fin 2) (s : State) : Host.Outcome State Fault Refusal :=
  .next (hostEvent s (fun s => coalesceTimeout s v.val))

/-! ### Its own commands (R133–R135, R138) -/

/-- HELLO (R134). -/
def execHello (c : Cmd) (s : State) : Host.Outcome State Fault Refusal :=
  .next (hostEvent s (fun s => message s 0x0001 c []))

/-- ECHO (R138). -/
def execEcho (c : Cmd) (s : State) : Host.Outcome State Fault Refusal :=
  .next (hostEvent s (fun s => message s 0x0002 c []))

/-- MEM_FENCE_QUERY (R168). -/
def execMemFenceQuery (c : Cmd) (s : State) : Host.Outcome State Fault Refusal :=
  .next (hostEvent s (fun s => message s 0x0301 c []))

end Sys2Proof.Machine
end

