-- ==== Sys2Proof/Machine/HouseRows.lean ====
section
/-! DEFINITION. Meanings of the calibration, thermal, power and fault rows (chapters 16–18). -/

namespace Sys2Proof.Machine

/-- CAL_RUN (R462). -/
def execCalRun (c : Cmd) (s : State) : Host.Outcome State Fault Refusal :=
  .next (hostEvent s (fun s => message s 0x0F01 c []))

/-- CAL_RUN_DONE (R457). -/
def execCalRunDone (vrefUv : Nat) (meas : List CalMeas) (s : State) : Host.Outcome State Fault Refusal :=
  .next (event s (fun s => calRunDone s vrefUv meas))

/-- CAL_RAMP_STEP (R461). -/
def execCalRampStep (s : State) : Host.Outcome State Fault Refusal := .next (event s calRampStep)

/-- CAL_STORE (R466). -/
def execCalStore (c : Cmd) (s : State) : Host.Outcome State Fault Refusal :=
  .next (hostEvent s (fun s => message s 0x0F02 c []))

/-- CAL_STORE_DONE (R466). -/
def execCalStoreDone (ok : Bool) (s : State) : Host.Outcome State Fault Refusal :=
  .next (event s (fun s => calStoreDone s ok))

/-- SENSOR_SAMPLE (R471). -/
def execSensorSample (die : Option Int) (ntc : List Nat) (s : State) : Host.Outcome State Fault Refusal :=
  .next (if s.boot.power == .tripped then hostEvent s (fun s => sampleTripped s die) else event s (fun s => sampleAll s die ntc))

/-- THERMAL_STOP_RAMP_END (R479). -/
def execThermalStopRampEnd (s : State) : Host.Outcome State Fault Refusal := .next (event s stopRampEnd)

/-- PWR_SET (R484). -/
def execPwrSet (c : Cmd) (s : State) : Host.Outcome State Fault Refusal :=
  .next (hostEvent s (fun s => message s 0x1001 c []))

/-- DOMAIN_POWER_GOOD (R485). -/
def execDomainPowerGood (s : State) : Host.Outcome State Fault Refusal := .next (event s powerGood)

/-- DOMAIN_TIMEOUT (R485). -/
def execDomainTimeout (s : State) : Host.Outcome State Fault Refusal := .next (event s powerTimeout)

/-- THM_CLEAR_MINMAX (R486). -/
def execThmClearMinmax (c : Cmd) (s : State) : Host.Outcome State Fault Refusal :=
  .next (hostEvent s (fun s => message s 0x1002 c []))

/-- FLT_INJECT (R510). -/
def execFltInject (c : Cmd) (s : State) : Host.Outcome State Fault Refusal :=
  .next (hostEvent s (fun s => message s 0x1101 c []))

/-- FLT_READ_LOG (R513). -/
def execFltReadLog (c : Cmd) (s : State) : Host.Outcome State Fault Refusal :=
  .next (hostEvent s (fun s => message s 0x1102 c []))

end Sys2Proof.Machine
end

