-- ==== Sys2Proof/Machine/ImgRows.lean ====
section
/-! DEFINITION. Meanings of the image rows (chapter 2). -/

namespace Sys2Proof.Machine

/-- IMG_STAGE (R72). -/
def execImgStage (c : Cmd) (s : State) : Host.Outcome State Fault Refusal :=
  .next (hostEvent s (fun s => message s 0x0201 c []))

/-- MIRROR_DONE (R72). -/
def execMirrorDone (s : State) : Host.Outcome State Fault Refusal := .next (event s mirrorFinished)

/-- IMG_ACTIVATE (R76). -/
def execImgActivate (c : Cmd) (s : State) : Host.Outcome State Fault Refusal :=
  .next (hostEvent s (fun s => message s 0x0202 c []))

/-- JOURNAL_APPEND_DONE (R75). -/
def execJournalAppendDone (ok : Bool) (s : State) : Host.Outcome State Fault Refusal :=
  .next (event s (fun s => appendDone s ok))

/-- JOURNAL_ERASE_DONE (R75). -/
def execJournalEraseDone (s : State) : Host.Outcome State Fault Refusal := .next (event s eraseDone)

/-- QUIESCED_DONE (R76). -/
def execQuiescedDone (s : State) : Host.Outcome State Fault Refusal := .next (event s quiescedDone)

/-- SWITCHED_DONE (R76). -/
def execSwitchedDone (s : State) : Host.Outcome State Fault Refusal := .next (event s switchedDone)

/-- IMG_CONFIRM (R80). -/
def execImgConfirm (c : Cmd) (s : State) : Host.Outcome State Fault Refusal :=
  .next (hostEvent s (fun s => message s 0x0203 c []))

/-- IMG_ROLLBACK (R81). -/
def execImgRollback (c : Cmd) (s : State) : Host.Outcome State Fault Refusal :=
  .next (hostEvent s (fun s => message s 0x0204 c []))

/-- IMG_REVOKE_KEY (R68). -/
def execImgRevokeKey (c : Cmd) (s : State) : Host.Outcome State Fault Refusal :=
  .next (hostEvent s (fun s => message s 0x0205 c []))

/-- TRIAL_TIMEOUT (R80). -/
def execTrialTimeout (s : State) : Host.Outcome State Fault Refusal := .next (event s trialTimeout)

end Sys2Proof.Machine
end

