-- ==== Sys2Proof/Machine/LightRows.lean ====
section
/-! DEFINITION. Meanings of the light-source drive and Loop Engine rows (chapters 10 and 11). -/

namespace Sys2Proof.Machine

/-- DRIVER_REPLY (R319, R325). -/
def execDriverReply (bank : Fin 12) (typ : BitVec 3) (data : BitVec 16) (flags : BitVec 2) (check : BitVec 7) (s : State) :
    Host.Outcome State Fault Refusal :=
  .next (event s (fun s =>
    driverReply s bank.val (replyFrame (bankAt s bank.val).version typ.toNat data.toNat flags.toNat check.toNat)))

/-- DLINK_REPLY_MISSING (R325). -/
def execDlinkReplyMissing (bank : Fin 12) (s : State) : Host.Outcome State Fault Refusal :=
  .next (event s (fun s => replyMissing s bank.val))

/-- BANK_UNVERIFIED (R331). -/
def execBankUnverified (bank : Fin 12) (s : State) : Host.Outcome State Fault Refusal :=
  .next (event s (fun s => bankUnverified s bank.val))

/-- LINK_START_DONE (R324). -/
def execLinkStartDone (bank : Fin 12) (found : LinkFound) (s : State) : Host.Outcome State Fault Refusal :=
  .next (event s (fun s => linkStartDone s bank.val found))

/-- LSD_REARM (R338). -/
def execLsdRearm (c : Cmd) (s : State) : Host.Outcome State Fault Refusal :=
  .next (hostEvent s (fun s => message s 0x0901 c []))

/-- LSD_SAFE (R340). -/
def execLsdSafe (c : Cmd) (s : State) : Host.Outcome State Fault Refusal :=
  .next (hostEvent s (fun s => message s 0x0902 c []))

/-- LSD_BRIGHTNESS (R330). -/
def execLsdBrightness (c : Cmd) (s : State) : Host.Outcome State Fault Refusal :=
  .next (hostEvent s (fun s => message s 0x0903 c []))

/-- LSD_PIN_TEST (R335). -/
def execLsdPinTest (c : Cmd) (shorts : List (Nat × Nat)) (s : State) : Host.Outcome State Fault Refusal :=
  .next (hostEvent s (fun s => message s 0x0904 c shorts))

/-- LSD_COLOUR_LOCK (R333). -/
def execLsdColourLock (c : Cmd) (s : State) : Host.Outcome State Fault Refusal :=
  .next (hostEvent s (fun s => message s 0x0905 c []))

/-- LSD_DERATE_OVERRIDE (R334). -/
def execLsdDerateOverride (c : Cmd) (s : State) : Host.Outcome State Fault Refusal :=
  .next (hostEvent s (fun s => message s 0x0906 c []))

/-- LSD_LINK_RESTART (R324). -/
def execLsdLinkRestart (c : Cmd) (s : State) : Host.Outcome State Fault Refusal :=
  .next (hostEvent s (fun s => message s 0x0907 c []))

/-- DERATE_UPDATE (R333). -/
def execDerateUpdate (s : State) : Host.Outcome State Fault Refusal := .next (event s derateUpdate)

/-- LOOP_TICK (R30, R351), with what the ECC of the slots' stores met (R363). -/
def execLoopTick (samples : List Nat) (s : State) (store : List (Nat × StoreError) := []) : Host.Outcome State Fault Refusal :=
  .next (event s (fun s => loopTick s samples store))

/-- LPE_SWAP (R358). -/
def execLpeSwap (c : Cmd) (s : State) : Host.Outcome State Fault Refusal :=
  .next (hostEvent s (fun s => message s 0x0A01 c []))

/-- LPE_SLOT_RESET (R365). -/
def execLpeSlotReset (c : Cmd) (s : State) : Host.Outcome State Fault Refusal :=
  .next (hostEvent s (fun s => message s 0x0A02 c []))

end Sys2Proof.Machine
end

