-- ==== Sys2Proof/Machine/LinkRows.lean ====
section
/-! DEFINITION. Meanings of the Plane Link rows (chapter 9). -/

namespace Sys2Proof.Machine

/-- What arrives on a port's status lane, or does not: nothing on a port whose lanes stand in electrical idle (R307). -/
def portEvent (s : State) (p : Nat) (f : State → State) : State :=
  event s (fun s => if (port s p).mode == .disabled || (port s p).mode == .failed then s else f s)

/-- STATUS_SYNC (R307). -/
def execStatusSync (port : Fin 6) (s : State) : Host.Outcome State Fault Refusal :=
  .next (portEvent s port.val (fun s => statusSync s port.val))

/-- The limit of SYNC passes (R307). -/
def syncLate (s : State) (p : Nat) : State :=
  if (port s p).mode == .sync && replyDue s p then portFail s p 1 else s

/-- SYNC_TIMEOUT (R307). -/
def execSyncTimeout (port : Fin 6) (s : State) : Host.Outcome State Fault Refusal :=
  .next (portEvent s port.val (fun s => syncLate s port.val))

/-- HELLO_ACK (R308). -/
def execHelloAck (port : Fin 6) (verMin verMax : BitVec 8) (width height : BitVec 16) (rows unpark : BitVec 8)
    (settle vendor model : BitVec 16) (serial : BitVec 32) (s : State) : Host.Outcome State Fault Refusal :=
  .next (portEvent s port.val (fun s =>
    helloAck s port.val verMin.toNat verMax.toNat width.toNat height.toNat rows.toNat unpark.toNat settle.toNat
      vendor.toNat model.toNat serial.toNat))

/-- ACK (R301). -/
def execAck (port : Fin 6) (op result : BitVec 8) (s : State) : Host.Outcome State Fault Refusal :=
  .next (portEvent s port.val (fun s => plkAck s port.val op.toNat result.toNat))

/-- TRAIN_REPORT (R309). -/
def execTrainReport (port : Fin 6) (lanes : List (Nat × Bool × Bool)) (errors : BitVec 32) (s : State) :
    Host.Outcome State Fault Refusal :=
  .next (portEvent s port.val (fun s => trainReport s port.val lanes errors.toNat))

/-- READY (R312). -/
def execReady (port : Fin 6) (s : State) : Host.Outcome State Fault Refusal :=
  .next (portEvent s port.val (fun s => portReady s port.val))

/-- STATUS (R312). -/
def execStatus (port : Fin 6) (st flags : BitVec 8) (rowErr frameErr : BitVec 32) (s : State) :
    Host.Outcome State Fault Refusal :=
  .next (portEvent s port.val (fun s => plkStatus s port.val st.toNat flags.toNat rowErr.toNat frameErr.toNat))

/-- LANE_LOST (R312). -/
def execLaneLost (port : Fin 6) (lane : Fin 16) (s : State) : Host.Outcome State Fault Refusal :=
  .next (portEvent s port.val (fun s => laneLost s port.val lane.val))

/-- A ROW_ERR is counted and raises 0x62 with BLOCK × 256 + ROW (R312, R317). -/
def rowError (s : State) (p block row : Nat) : State :=
  report (bump s (portBase p + 0x38)) { source := 0x62, master := p, address := block * 256 + row }

/-- ROW_ERR (R312). -/
def execRowErr (port : Fin 6) (block row : BitVec 8) (s : State) : Host.Outcome State Fault Refusal :=
  .next (portEvent s port.val (fun s => rowError s port.val block.toNat row.toNat))

/-- FRAME_ERR (R302). -/
def execFrameErr (port : Fin 6) (op : BitVec 8) (s : State) : Host.Outcome State Fault Refusal :=
  .next (portEvent s port.val (fun s => frameErr s port.val op.toNat))

/-- STATUS_FRAME_DISCARDED (R302). -/
def execStatusFrameDiscarded (port : Fin 6) (s : State) : Host.Outcome State Fault Refusal :=
  .next (portEvent s port.val (fun s => frameError s port.val))

/-- REPLY_TIMEOUT (R302). -/
def execReplyTimeout (port : Fin 6) (s : State) : Host.Outcome State Fault Refusal :=
  .next (portEvent s port.val (fun s => replyTimeout s port.val))

/-- STATUS_LANE_SILENT (R312). -/
def execStatusLaneSilent (port : Fin 6) (s : State) : Host.Outcome State Fault Refusal :=
  .next (portEvent s port.val (fun s => statusLost s port.val))

/-- PARK_LATE (R312). -/
def execParkLate (port : Fin 6) (s : State) : Host.Outcome State Fault Refusal :=
  .next (portEvent s port.val (fun s => parkLate s port.val))

/-- The automatic READ_STATUS of an ACTIVE port STATUS_MS after the last; none while one waits for its STATUS (R307,
R316). -/
def pollStatus (s : State) (p : Nat) : State :=
  let x := port s p
  let due := decide (x.statusAt + bits (regN s (portBase p + 4)) 15 8 * msCycles ≤ s.tsc)
  if x.mode == .active && !x.statusWait && due then readStatus s p else s

/-- STATUS_POLL (R307). -/
def execStatusPoll (port : Fin 6) (s : State) : Host.Outcome State Fault Refusal :=
  .next (portEvent s port.val (fun s => pollStatus s port.val))

/-- PLK_RETRAIN (R314). -/
def execPlkRetrain (c : Cmd) (s : State) : Host.Outcome State Fault Refusal :=
  .next (hostEvent s (fun s => message s 0x0801 c []))

/-- PLK_PARK (R314). -/
def execPlkPark (c : Cmd) (s : State) : Host.Outcome State Fault Refusal :=
  .next (hostEvent s (fun s => message s 0x0802 c []))

/-- PLK_UNPARK (R314). -/
def execPlkUnpark (c : Cmd) (s : State) : Host.Outcome State Fault Refusal :=
  .next (hostEvent s (fun s => message s 0x0803 c []))

/-- PLK_READ_STATUS (R314). -/
def execPlkReadStatus (c : Cmd) (s : State) : Host.Outcome State Fault Refusal :=
  .next (hostEvent s (fun s => message s 0x0804 c []))

end Sys2Proof.Machine
end

