-- ==== Sys2Proof/Machine/PictureRows.lean ====
section
/-! DEFINITION. Meanings of the composition, highlight-pass and builder rows (chapters 5–7). -/

namespace Sys2Proof.Machine

/-- CMP_LAYER_SURFACE (R176). -/
def execCmpLayerSurface (c : Cmd) (s : State) : Host.Outcome State Fault Refusal :=
  .next (hostEvent s (fun s => message s 0x0401 c []))

/-- CMP_LAYER_GEOM (R176). -/
def execCmpLayerGeom (c : Cmd) (s : State) : Host.Outcome State Fault Refusal :=
  .next (hostEvent s (fun s => message s 0x0402 c []))

/-- CMP_COMMIT (R179). -/
def execCmpCommit (c : Cmd) (s : State) : Host.Outcome State Fault Refusal :=
  .next (hostEvent s (fun s => message s 0x0403 c []))

/-- CMP_LAYER_READY (R182). -/
def execCmpLayerReady (c : Cmd) (s : State) : Host.Outcome State Fault Refusal :=
  .next (hostEvent s (fun s => message s 0x0404 c []))

/-- LINE_START (R39). -/
def execLineStart (f : Fin 2) (s : State) : Host.Outcome State Fault Refusal := .next (event s (fun s => lineStart s f.val))

/-- LATCH_LINE (R183). -/
def execLatchLine (s : State) : Host.Outcome State Fault Refusal := .next (event s latchLine)

/-- TSC of the decision point of boundary 15 of the running frame, the last at which a pass can still be shown without a
further repeat (R33, R198, R396, R397). -/
def lastDecision (s : State) : Nat :=
  let v := (cfg s).sched.getD s.rck.variant {}
  s.ftg.sof + v.tmin + 15 * v.delta + s.ftg.holdNow - 64 - (if s.ftg.mode = 1 then syncLead s else 0)

/-- COMPOSER_DRY (R198). -/
def execComposerDry (layer : Option (Fin 16)) (line : Nat) (s : State) : Host.Outcome State Fault Refusal :=
  .next (event s (fun s => composerDry s (layer.elim 0xFE (·.val)) line (lastDecision s)))

/-- FETCH_BUFFER_WATERMARK (R195). -/
def execFetchBufferWatermark (layer : Fin 16) (fillKb : Nat) (s : State) (errs : DramErrs := {}) : Host.Outcome State Fault Refusal :=
  .next (event s (fun s => fetchFill s layer.val fillKb errs))

/-- PASS_COMPLETE (R203, R220). -/
def execPassComplete (s : State) (store : StoreError := .none) : Host.Outcome State Fault Refusal :=
  .next (event s (fun s => passDone s store))

/-- HIGHLIGHT_PASS_DONE (R379). -/
def execHighlightPassDone (bad : List Nat) (s : State) (errs : DramErrs := {}) : Host.Outcome State Fault Refusal :=
  .next (event s (fun s => if s.hls.pass.isSome then hlPassDone (meetErrors s errs 0x0B) bad else s))

/-- TILE_START (R244). -/
def execTileStart (slot : Fin 22) (s : State) : Host.Outcome State Fault Refusal :=
  .next (event s (fun s => tileStart s slot.val))

/-- TILE_BUILT (R242). -/
def execTileBuilt (slot : Fin 22) (residues : List (BitVec 32)) (s : State) : Host.Outcome State Fault Refusal :=
  .next (event s (fun s => tileBuilt s slot.val (residues.map (·.toNat))))

/-- PBU_TEST (R258). -/
def execPbuTest (c : Cmd) (s : State) : Host.Outcome State Fault Refusal :=
  .next (hostEvent s (fun s => message s 0x0601 c []))

/-- PBU_TEST_DONE (R258). -/
def execPbuTestDone (builder : Fin 24) (residue : BitVec 32) (s : State) : Host.Outcome State Fault Refusal :=
  .next (event s (fun s => pbuTestDone s builder.val residue.toNat))

end Sys2Proof.Machine
end

