-- ==== Sys2Proof/Machine/RegRows.lean ====
section
/-! DEFINITION. Meanings of the register rows: resets and host boot by register, plain writes, captures, clears, and the accesses that no register takes (chapters 0, 3, 18, 19). -/

namespace Sys2Proof.Machine

/-- A register write by either requester. -/
def writeBy (s : State) (q : Requester) (off v : Nat) (flashOk : Bool) : State :=
  match q with
  | .pcie => pcieWrite s off v flashOk
  | .smbus => if smbAnswers s then regWrite s .smbus off v flashOk else s

/-- WARM_RESET (R528): GLB_RESET with KEY 0xA5 and WARM. -/
def execWarmReset (q : Requester) (s : State) : Host.Outcome State Fault Refusal :=
  .next (hostEvent s (fun s => writeBy s q 0x58 0xA5000001 true))

/-- HOST_BOOT (R530): the same with HOST_BOOT. -/
def execHostBoot (q : Requester) (s : State) : Host.Outcome State Fault Refusal :=
  .next (hostEvent s (fun s => writeBy s q 0x58 0xA5000003 true))

/-- HOST_BOOT_GO (R522): a write to GLB_BOOT_CTRL. -/
def execHostBootGo (q : Requester) (value : BitVec 32) (flashOk : Bool) (s : State) : Host.Outcome State Fault Refusal :=
  .next (hostEvent s (fun s => writeBy s q 0x5C value.toNat flashOk))

/-- REGISTER_WRITE (R108, R132): one aligned DW of BAR0 or BAR4. -/
def execRegisterWrite (q : Requester) (bar : Bar) (dw : Fin 0x1000000) (value : BitVec 32) (flashOk : Bool) (s : State) :
    Host.Outcome State Fault Refusal :=
  .next (hostEvent s (fun s =>
    match bar with
    | .bar0 => writeBy s q (4 * dw.val) value.toNat flashOk
    | .bar4 => if q = .pcie then pcieBar4 s (4 * dw.val) value.toNat else s))

/-- A read of a BAR0 register by either requester, with its answer (R28). -/
def readBy (s : State) (q : Requester) (off : Nat) : State :=
  match q with
  | .pcie => pcieAccess s (fun s => let r := regRead s .pcie off; emit r.2 (.readData (leBytes 4 r.1) false))
  | .smbus =>
    if smbAnswers s then let r := regRead s .smbus off; emit r.2 (smbAnswer s 2 true (leBytes 4 r.1)) else s

/-- SHADOW_CAPTURE_READ (R28): a read of one aligned DW of BAR0 or BAR4. -/
def execShadowCaptureRead (q : Requester) (bar : Bar) (dw : Fin 0x1000000) (s : State) :
    Host.Outcome State Fault Refusal :=
  .next (hostEvent s (fun s =>
    match bar with
    | .bar0 => readBy s q (4 * dw.val)
    | .bar4 => if q = .pcie then pcieAccess s (fun s => emit s (.readData (leBytes 4 (bar4Value s (4 * dw.val))) false)) else s))

/-- One DW with all four byte enables: what R100 accepts. -/
def oneDw (firstBe lastBe : BitVec 4) (len : BitVec 12) : Bool := firstBe == 15 && lastBe == 0 && len == 1

/-- An aligned 64-bit access to the MSI-X table or its pending bits: what R103 accepts beside one DW. -/
def msixQword (bar : Bar) (off firstBe lastBe len : Nat) : Bool :=
  bar == .bar4 && decide (off % 8 = 0 ∧ firstBe = 15 ∧ lastBe = 15 ∧ len = 2)
    && decide ((0xF0000 ≤ off ∧ off < 0xF0400) ∨ off = 0xF8000)

/-- The two DW of such an access, the lower first. -/
def msixAccess (s : State) (write : Bool) (off data : Nat) : State :=
  if write then bar4Write (bar4Write s off (bits data 31 0)) (off + 4) (bits data 63 32)
  else emit s (.readData (leBytes 4 (bar4Value s off) ++ leBytes 4 (bar4Value s (off + 4))) false)

/-- ACCESS_SIZE (R100, R103): an access that is not one aligned full DW; a read answers zeros. -/
def execAccessSize (rid : BitVec 16) (bar : Bar) (write : Bool) (off : BitVec 26) (firstBe lastBe : BitVec 4)
    (len : BitVec 12) (s : State) (data : BitVec 64 := 0) : Host.Outcome State Fault Refusal :=
  .next (hostEvent s (fun s => if oneDw firstBe lastBe len then s else pcieAccess s (fun s =>
    if msixQword bar off.toNat firstBe.toNat lastBe.toNat len.toNat then msixAccess s write off.toNat data.toNat else
    let s1 := accessError s rid.toNat (bar == .bar4) write (off.toNat / 4 * 4) firstBe.toNat lastBe.toNat len.toNat
    if write then s1 else emit s1 (.readData (List.replicate (4 * len.toNat) 0) false))))

/-- GLB_ERR_CLEAR (R107). -/
def execGlbErrClear (q : Requester) (s : State) : Host.Outcome State Fault Refusal :=
  .next (hostEvent s (fun s => writeBy s q 0x20 0x80000000 true))

/-- GLB_ACCESS_ERR_CLEAR (R106). -/
def execGlbAccessErrClear (q : Requester) (s : State) : Host.Outcome State Fault Refusal :=
  .next (hostEvent s (fun s => writeBy s q 0x28 0x80000000 true))

/-- WRITE_LOCK (R114): GLB_SMB_CTRL with WRITE_LOCK and the PEC_REQ given. -/
def execWriteLock (q : Requester) (pecReq : Bool) (s : State) : Host.Outcome State Fault Refusal :=
  .next (hostEvent s (fun s => writeBy s q 0x38 (1 + 2 * b2n pecReq) true))

/-- PQ_PEAK_WRITE (R211). -/
def execPqPeakWrite (q : Requester) (value : BitVec 32) (s : State) : Host.Outcome State Fault Refusal :=
  .next (hostEvent s (fun s => writeBy s q 0x300004 value.toNat true))

/-- The regenerated table is in use: the peak written, and no longer busy (R211). -/
def pqRegenerated (s : State) : State :=
  if s.clr.pqBusy then { s with clr := { s.clr with pqPeak := regN s 0x300004, pqBusy := false } } else s

/-- PQ_REGEN_DONE (R211). -/
def execPqRegenDone (s : State) : Host.Outcome State Fault Refusal := .next (event s pqRegenerated)

/-- CAL_TARGET_WRITE (R463): CAL_CH_TARGET of a channel. -/
def execCalTargetWrite (q : Requester) (chan : Fin 128) (value : BitVec 32) (s : State) : Host.Outcome State Fault Refusal :=
  .next (hostEvent s (fun s => writeBy s q (0x71004 + 32 * chan.val) value.toNat true))

/-- SYNC_MODE_WRITE (R402). -/
def execSyncModeWrite (q : Requester) (value : BitVec 32) (s : State) : Host.Outcome State Fault Refusal :=
  .next (hostEvent s (fun s => writeBy s q 0xD00200 value.toNat true))

/-- PENDING_CLEAR (R507): FLT_PENDING_n. -/
def execPendingClear (q : Requester) (n : Fin 8) (value : BitVec 32) (s : State) : Host.Outcome State Fault Refusal :=
  .next (hostEvent s (fun s => writeBy s q (0x40040 + 4 * n.val) value.toNat true))

/-- FIRST_ERROR_CLEAR (R501). -/
def execFirstErrorClear (q : Requester) (s : State) : Host.Outcome State Fault Refusal :=
  .next (hostEvent s (fun s => writeBy s q 0x40020 0x80000000 true))

/-! ### The SMBus management port (R110–R116) -/

/-- SMB_SET_POINTER (R112). -/
def execSmbSetPointer (count : Fin 256) (value : BitVec 32) (pec : Pec) (s : State) : Host.Outcome State Fault Refusal :=
  .next (hostEvent s (fun s => smbBlockWrite s count.val pec (fun s => smbSetPointer s value.toNat)))

/-- SMB_READ_REGISTER (R111, R112). -/
def execSmbReadRegister (s : State) : Host.Outcome State Fault Refusal := .next (hostEvent s smbRead)

/-- SMB_WRITE_REGISTER (R112–R114). -/
def execSmbWriteRegister (count : Fin 256) (value : BitVec 32) (pec : Pec) (flashOk : Bool) (s : State) :
    Host.Outcome State Fault Refusal :=
  .next (hostEvent s (fun s => smbBlockWrite s count.val pec (fun s => smbWrite s value.toNat flashOk)))

/-- SMB_READ_STATUS (R111). -/
def execSmbReadStatus (s : State) : Host.Outcome State Fault Refusal :=
  .next (hostEvent s (fun s => smbReply s 4 false (fun s => leBytes 1 (smbStatus s))))

/-- SMB_READ_SERIAL (R111). -/
def execSmbReadSerial (s : State) : Host.Outcome State Fault Refusal :=
  .next (hostEvent s (fun s => smbReply s 5 true (fun s => leBytes 8 s.fuse.serial.toNat)))

/-- SMB_ALERT_RESPONSE (R116). -/
def execSmbAlertResponse (s : State) : Host.Outcome State Fault Refusal := .next (hostEvent s smbAlertResponse)

/-- SMB_SCL_TIMEOUT (R115): the transaction is discarded, fault 0x16. -/
def execSmbSclTimeout (s : State) : Host.Outcome State Fault Refusal :=
  .next (hostEvent s (fun s => if smbAnswers s then report s { source := 0x16, master := smbAddress s, access := 0x20 } else s))

end Sys2Proof.Machine
end

