-- ==== Sys2Proof/Machine/ScanRows.lean ====
section
/-! DEFINITION. Meanings of the Highlight Scanner rows (chapter 12). -/

namespace Sys2Proof.Machine

/-- FAST_CROSSING (R373). -/
def execFastCrossing (tick : Nat) (idx : Fin 4) (before after pMax pMin : BitVec 16) (s : State) :
    Host.Outcome State Fault Refusal :=
  .next (event s (fun s => fastCrossing s tick idx.val before.toNat after.toNat pMax.toNat pMin.toNat))

/-- MOTION_LOST (R372). -/
def execMotionLost (s : State) : Host.Outcome State Fault Refusal := .next (event s motionLost)

/-- LOCK_TIMEOUT (R374). -/
def execLockTimeout (s : State) : Host.Outcome State Fault Refusal := .next (event s lockTimeout)

/-- PARK_REACHED (R370). -/
def execParkReached (s : State) : Host.Outcome State Fault Refusal := .next (event s parkReached)

/-- PARK_FORCED (R370). -/
def execParkForced (s : State) : Host.Outcome State Fault Refusal := .next (event s parkForced)

/-- SCAN_LINE_START (R377). -/
def execScanLineStart (s : State) : Host.Outcome State Fault Refusal := .next (event s scanLineStart)

/-- SCAN_LINE_END (R376). -/
def execScanLineEnd (s : State) : Host.Outcome State Fault Refusal := .next (event s scanLineEnd)

/-- HLS_START (R384). -/
def execHlsStart (c : Cmd) (s : State) : Host.Outcome State Fault Refusal :=
  .next (hostEvent s (fun s => message s 0x0B01 c []))

/-- HLS_PARK (R384). -/
def execHlsPark (c : Cmd) (s : State) : Host.Outcome State Fault Refusal :=
  .next (hostEvent s (fun s => message s 0x0B02 c []))

end Sys2Proof.Machine
end

