-- ==== Sys2Proof/Machine/StartRows.lean ====
section
/-! DEFINITION. Meanings of the rows of power, resets, start-up and hardware alarms (chapters 0, 10, 17–20). -/

namespace Sys2Proof.Machine

/-- POWER_ON_RESET (R517): VIN rises; the straps are read. -/
def execPowerOnReset (bootSrc : Fin 4) (bootArm : Bool) (smbAddr : Fin 4) (s : State) : Host.Outcome State Fault Refusal :=
  .next (finish s (powerOnReset s bootSrc.val bootArm smbAddr.val))

/-- BROWNOUT (R542). -/
def execBrownout (s : State) : Host.Outcome State Fault Refusal :=
  .next (if s.boot.power == .heldInReset then s else finish s (brownout s))

/-- THERMAL_TRIP (R480). -/
def execThermalTrip (s : State) : Host.Outcome State Fault Refusal := .next (event s thermalTrip)

/-- THERMAL_RESTART (R481). -/
def execThermalRestart (s : State) : Host.Outcome State Fault Refusal := .next (hostEvent s thermalRestart)

/-- SUPERVISOR_WATCHDOG (R495). -/
def execSupervisorWatchdog (s : State) : Host.Outcome State Fault Refusal := .next (event s supervisorWatchdog)

/-- WATCHDOG_RESET (R528). -/
def execWatchdogReset (s : State) : Host.Outcome State Fault Refusal := .next (event s watchdogReset)

/-- CLOCK_LOSS (R495). -/
def execClockLoss (lost : Bool) (s : State) : Host.Outcome State Fault Refusal :=
  .next (hostEvent s (fun s => clockLoss s lost))

/-- AON_UE (R495). -/
def execAonUe (address : BitVec 32) (s : State) : Host.Outcome State Fault Refusal :=
  .next (hostEvent s (fun s => aonUe s address.toNat))

/-- INTERLOCK_OPEN (R339). -/
def execInterlockOpen (aHigh bHigh : Bool) (s : State) : Host.Outcome State Fault Refusal :=
  .next (hostEvent s (fun s => interlockAct s aHigh bHigh))

/-- INTERLOCK_DISCREPANCY (R339). -/
def execInterlockDiscrepancy (s : State) : Host.Outcome State Fault Refusal := .next (hostEvent s interlockDisagree)

/-- BOOT_STAGE_DONE (R523). -/
def execBootStageDone (r : StageResult) (s : State) : Host.Outcome State Fault Refusal :=
  .next (event s (fun s => bootStageDone s r))

/-- FTG0_START (R279). -/
def execFtg0Start (s : State) : Host.Outcome State Fault Refusal := .next (event s ftg0Start)

/-- VAUX_3V3_RETRY (R543). -/
def execVaux3v3Retry (up : Bool) (s : State) : Host.Outcome State Fault Refusal :=
  .next (event s (fun s => vauxRetry s up))

/-- BOUNDARY_SCAN_INSTRUCTION (R554, R555). -/
def execBoundaryScanInstruction (i : JtagInstr) (lasers : BitVec 12) (hl shutter : Bool) (s : State) :
    Host.Outcome State Fault Refusal :=
  .next (hostEvent s (fun s => jtagLoad s i lasers.toNat hl shutter))

end Sys2Proof.Machine
end

