-- ==== Sys2Proof/Machine/Dispatch.lean ====
section
/-! DEFINITION. One arm per constructor of Instr: the meaning of each command. -/

namespace Sys2Proof.Machine

/-- What a command does to everything but the queue. -/
def exec (i : Instr) (s : State) : Host.Outcome State Fault Refusal :=
  match i with
  | .powerOnReset bootSrc bootArm smbAddr => Sys2Proof.Machine.execPowerOnReset bootSrc bootArm smbAddr s
  | .brownout => Sys2Proof.Machine.execBrownout s
  | .thermalTrip => Sys2Proof.Machine.execThermalTrip s
  | .thermalRestart => Sys2Proof.Machine.execThermalRestart s
  | .warmReset q => Sys2Proof.Machine.execWarmReset q s
  | .hostBoot q => Sys2Proof.Machine.execHostBoot q s
  | .supervisorWatchdog => Sys2Proof.Machine.execSupervisorWatchdog s
  | .watchdogReset => Sys2Proof.Machine.execWatchdogReset s
  | .clockLoss lost => Sys2Proof.Machine.execClockLoss lost s
  | .aonUe address => Sys2Proof.Machine.execAonUe address s
  | .interlockOpen aHigh bHigh => Sys2Proof.Machine.execInterlockOpen aHigh bHigh s
  | .interlockDiscrepancy => Sys2Proof.Machine.execInterlockDiscrepancy s
  | .bootStageDone r => Sys2Proof.Machine.execBootStageDone r s
  | .hostBootGo q value flashOk => Sys2Proof.Machine.execHostBootGo q value flashOk s
  | .ftg0Start => Sys2Proof.Machine.execFtg0Start s
  | .flr => Sys2Proof.Machine.execFlr s
  | .linkDown => Sys2Proof.Machine.execLinkDown s
  | .perstN => Sys2Proof.Machine.execPerstN s
  | .pmStateChange d0 => Sys2Proof.Machine.execPmStateChange d0 s
  | .busMasterDisable enable => Sys2Proof.Machine.execBusMasterDisable enable s
  | .pcieUncorrectable error => Sys2Proof.Machine.execPcieUncorrectable error s
  | .bar2Resize log2 => Sys2Proof.Machine.execBar2Resize log2 s
  | .bar2Write rid off data errs => Sys2Proof.Machine.execBar2Write rid off data s errs
  | .bar2Read rid off be ue ce => Sys2Proof.Machine.execBar2Read rid off be ue ce s
  | .accessSize rid bar write off firstBe lastBe len data => Sys2Proof.Machine.execAccessSize rid bar write off firstBe lastBe len s data
  | .registerWrite q bar dw value flashOk => Sys2Proof.Machine.execRegisterWrite q bar dw value flashOk s
  | .shadowCaptureRead q bar dw => Sys2Proof.Machine.execShadowCaptureRead q bar dw s
  | .glbErrClear q => Sys2Proof.Machine.execGlbErrClear q s
  | .glbAccessErrClear q => Sys2Proof.Machine.execGlbAccessErrClear q s
  | .writeLock q pecReq => Sys2Proof.Machine.execWriteLock q pecReq s
  | .pqPeakWrite q value => Sys2Proof.Machine.execPqPeakWrite q value s
  | .pqRegenDone => Sys2Proof.Machine.execPqRegenDone s
  | .calTargetWrite q chan value => Sys2Proof.Machine.execCalTargetWrite q chan value s
  | .syncModeWrite q value => Sys2Proof.Machine.execSyncModeWrite q value s
  | .pendingClear q n value => Sys2Proof.Machine.execPendingClear q n value s
  | .firstErrorClear q => Sys2Proof.Machine.execFirstErrorClear q s
  | .smbSetPointer count value pec => Sys2Proof.Machine.execSmbSetPointer count value pec s
  | .smbReadRegister => Sys2Proof.Machine.execSmbReadRegister s
  | .smbWriteRegister count value pec flashOk => Sys2Proof.Machine.execSmbWriteRegister count value pec flashOk s
  | .smbReadStatus => Sys2Proof.Machine.execSmbReadStatus s
  | .smbReadSerial => Sys2Proof.Machine.execSmbReadSerial s
  | .smbAlertResponse => Sys2Proof.Machine.execSmbAlertResponse s
  | .smbSclTimeout => Sys2Proof.Machine.execSmbSclTimeout s
  | .hmiEnable q enable => Sys2Proof.Machine.execHmiEnable q enable s
  | .hmiReset q enable => Sys2Proof.Machine.execHmiReset q enable s
  | .hmiDbCmd value => Sys2Proof.Machine.execHmiDbCmd value s
  | .hmiDbCpl value => Sys2Proof.Machine.execHmiDbCpl value s
  | .hmiDbEvt value => Sys2Proof.Machine.execHmiDbEvt value s
  | .hmiHeartbeat q value => Sys2Proof.Machine.execHmiHeartbeat q value s
  | .hostWatchdog => Sys2Proof.Machine.execHostWatchdog s
  | .commandFetch entry cplFails shorts => Sys2Proof.Machine.execCommandFetch entry cplFails shorts s
  | .eventPost failed => Sys2Proof.Machine.execEventPost failed s
  | .coalesceTimeout v => Sys2Proof.Machine.execCoalesceTimeout v s
  | .hello c => Sys2Proof.Machine.execHello c s
  | .echo c => Sys2Proof.Machine.execEcho c s
  | .imgStage c => Sys2Proof.Machine.execImgStage c s
  | .mirrorDone => Sys2Proof.Machine.execMirrorDone s
  | .imgActivate c => Sys2Proof.Machine.execImgActivate c s
  | .journalAppendDone ok => Sys2Proof.Machine.execJournalAppendDone ok s
  | .journalEraseDone => Sys2Proof.Machine.execJournalEraseDone s
  | .quiescedDone => Sys2Proof.Machine.execQuiescedDone s
  | .switchedDone => Sys2Proof.Machine.execSwitchedDone s
  | .imgConfirm c => Sys2Proof.Machine.execImgConfirm c s
  | .imgRollback c => Sys2Proof.Machine.execImgRollback c s
  | .imgRevokeKey c => Sys2Proof.Machine.execImgRevokeKey c s
  | .trialTimeout => Sys2Proof.Machine.execTrialTimeout s
  | .memFenceQuery c => Sys2Proof.Machine.execMemFenceQuery c s
  | .cmpLayerSurface c => Sys2Proof.Machine.execCmpLayerSurface c s
  | .cmpLayerGeom c => Sys2Proof.Machine.execCmpLayerGeom c s
  | .cmpCommit c => Sys2Proof.Machine.execCmpCommit c s
  | .cmpLayerReady c => Sys2Proof.Machine.execCmpLayerReady c s
  | .lineStart f => Sys2Proof.Machine.execLineStart f s
  | .latchLine => Sys2Proof.Machine.execLatchLine s
  | .composerDry layer line => Sys2Proof.Machine.execComposerDry layer line s
  | .passComplete store => Sys2Proof.Machine.execPassComplete s store
  | .highlightPassDone bad errs => Sys2Proof.Machine.execHighlightPassDone bad s errs
  | .tileStart slot => Sys2Proof.Machine.execTileStart slot s
  | .tileBuilt slot residues => Sys2Proof.Machine.execTileBuilt slot residues s
  | .pbuTest c => Sys2Proof.Machine.execPbuTest c s
  | .pbuTestDone builder residue => Sys2Proof.Machine.execPbuTestDone builder residue s
  | .decisionPoint => Sys2Proof.Machine.execDecisionPoint s
  | .segmentBoundary => Sys2Proof.Machine.execSegmentBoundary s
  | .quietFrameTick => Sys2Proof.Machine.execQuietFrameTick s
  | .ftg1Sof => Sys2Proof.Machine.execFtg1Sof s
  | .holdEnd => Sys2Proof.Machine.execHoldEnd s
  | .symbolDecoded => Sys2Proof.Machine.execSymbolDecoded s
  | .stale => Sys2Proof.Machine.execStale s
  | .loadBlock rod time how port block plane cached blank missing cacheCe cacheUe errs => Sys2Proof.Machine.execLoadBlock rod time how port block plane cached blank missing cacheCe cacheUe s errs
  | .resetBlock rod time how port showMask darkMask aborts => Sys2Proof.Machine.execResetBlock rod time how port showMask darkMask aborts s
  | .level rod time how primary lvl => Sys2Proof.Machine.execLevel rod time how primary lvl s
  | .window rod time how slots opens => Sys2Proof.Machine.execWindow rod time how slots opens s
  | .diagPulse rod time how bank lvl width => Sys2Proof.Machine.execDiagPulse rod time how bank lvl width s
  | .calPair rod time how width gap => Sys2Proof.Machine.execCalPair rod time how width gap s
  | .levelPairCorrection reads => Sys2Proof.Machine.execLevelPairCorrection reads s
  | .dramSlot rod time how training channels period count => Sys2Proof.Machine.execDramSlot rod time how training channels period count s
  | .darkSpan rod time how length => Sys2Proof.Machine.execDarkSpan rod time how length s
  | .scanLine rod time how first count period => Sys2Proof.Machine.execScanLine rod time how first count period s
  | .variantLoadDone ok => Sys2Proof.Machine.execVariantLoadDone ok s
  | .rckRestore c => Sys2Proof.Machine.execRckRestore c s
  | .statusSync port => Sys2Proof.Machine.execStatusSync port s
  | .syncTimeout port => Sys2Proof.Machine.execSyncTimeout port s
  | .helloAck port verMin verMax width height rows unpark settle vendor model serial => Sys2Proof.Machine.execHelloAck port verMin verMax width height rows unpark settle vendor model serial s
  | .ack port op result => Sys2Proof.Machine.execAck port op result s
  | .trainReport port lanes errors => Sys2Proof.Machine.execTrainReport port lanes errors s
  | .ready port => Sys2Proof.Machine.execReady port s
  | .status port st flags rowErr frameErr => Sys2Proof.Machine.execStatus port st flags rowErr frameErr s
  | .laneLost port lane => Sys2Proof.Machine.execLaneLost port lane s
  | .rowErr port block row => Sys2Proof.Machine.execRowErr port block row s
  | .frameErr port op => Sys2Proof.Machine.execFrameErr port op s
  | .replyTimeout port => Sys2Proof.Machine.execReplyTimeout port s
  | .statusLaneSilent port => Sys2Proof.Machine.execStatusLaneSilent port s
  | .parkLate port => Sys2Proof.Machine.execParkLate port s
  | .statusPoll port => Sys2Proof.Machine.execStatusPoll port s
  | .plkRetrain c => Sys2Proof.Machine.execPlkRetrain c s
  | .plkPark c => Sys2Proof.Machine.execPlkPark c s
  | .plkUnpark c => Sys2Proof.Machine.execPlkUnpark c s
  | .plkReadStatus c => Sys2Proof.Machine.execPlkReadStatus c s
  | .driverReply bank typ data flags check => Sys2Proof.Machine.execDriverReply bank typ data flags check s
  | .bankUnverified bank => Sys2Proof.Machine.execBankUnverified bank s
  | .linkStartDone bank found => Sys2Proof.Machine.execLinkStartDone bank found s
  | .lsdRearm c => Sys2Proof.Machine.execLsdRearm c s
  | .lsdSafe c => Sys2Proof.Machine.execLsdSafe c s
  | .lsdBrightness c => Sys2Proof.Machine.execLsdBrightness c s
  | .lsdPinTest c shorts => Sys2Proof.Machine.execLsdPinTest c shorts s
  | .lsdColourLock c => Sys2Proof.Machine.execLsdColourLock c s
  | .lsdDerateOverride c => Sys2Proof.Machine.execLsdDerateOverride c s
  | .lsdLinkRestart c => Sys2Proof.Machine.execLsdLinkRestart c s
  | .derateUpdate => Sys2Proof.Machine.execDerateUpdate s
  | .loopTick samples store => Sys2Proof.Machine.execLoopTick samples s store
  | .lpeSwap c => Sys2Proof.Machine.execLpeSwap c s
  | .lpeSlotReset c => Sys2Proof.Machine.execLpeSlotReset c s
  | .fastCrossing tick idx before after pMax pMin => Sys2Proof.Machine.execFastCrossing tick idx before after pMax pMin s
  | .motionLost => Sys2Proof.Machine.execMotionLost s
  | .lockTimeout => Sys2Proof.Machine.execLockTimeout s
  | .parkReached => Sys2Proof.Machine.execParkReached s
  | .parkForced => Sys2Proof.Machine.execParkForced s
  | .scanLineStart => Sys2Proof.Machine.execScanLineStart s
  | .scanLineEnd => Sys2Proof.Machine.execScanLineEnd s
  | .hlsStart c => Sys2Proof.Machine.execHlsStart c s
  | .hlsPark c => Sys2Proof.Machine.execHlsPark c s
  | .refreshDue chan => Sys2Proof.Machine.execRefreshDue chan s
  | .refreshOpportunity chan => Sys2Proof.Machine.execRefreshOpportunity chan s
  | .ownRefreshSlot => Sys2Proof.Machine.execOwnRefreshSlot s
  | .mr4Read chan cls => Sys2Proof.Machine.execMr4Read chan cls s
  | .trainingStepDone chan r => Sys2Proof.Machine.execTrainingStepDone chan r s
  | .memTrain c => Sys2Proof.Machine.execMemTrain c s
  | .audStart c => Sys2Proof.Machine.execAudStart c s
  | .audioPortRunning port => Sys2Proof.Machine.execAudioPortRunning port s
  | .audStop c => Sys2Proof.Machine.execAudStop c s
  | .sampleFrameOut port errs => Sys2Proof.Machine.execSampleFrameOut port s errs
  | .sampleFrameIn l r => Sys2Proof.Machine.execSampleFrameIn l r s
  | .audioFillCopy => Sys2Proof.Machine.execAudioFillCopy s
  | .audioPllUnlock => Sys2Proof.Machine.execAudioPllUnlock s
  | .calRun c => Sys2Proof.Machine.execCalRun c s
  | .calRunDone vrefUv meas => Sys2Proof.Machine.execCalRunDone vrefUv meas s
  | .calRampStep => Sys2Proof.Machine.execCalRampStep s
  | .calStore c => Sys2Proof.Machine.execCalStore c s
  | .calStoreDone ok => Sys2Proof.Machine.execCalStoreDone ok s
  | .sensorSample die ntc => Sys2Proof.Machine.execSensorSample die ntc s
  | .thermalStopRampEnd => Sys2Proof.Machine.execThermalStopRampEnd s
  | .pwrSet c => Sys2Proof.Machine.execPwrSet c s
  | .domainPowerGood => Sys2Proof.Machine.execDomainPowerGood s
  | .domainTimeout => Sys2Proof.Machine.execDomainTimeout s
  | .thmClearMinmax c => Sys2Proof.Machine.execThmClearMinmax c s
  | .fltInject c => Sys2Proof.Machine.execFltInject c s
  | .fltReadLog c => Sys2Proof.Machine.execFltReadLog c s
  | .statusFrameDiscarded port => Sys2Proof.Machine.execStatusFrameDiscarded port s
  | .dlinkReplyMissing bank => Sys2Proof.Machine.execDlinkReplyMissing bank s
  | .audioPllLock => Sys2Proof.Machine.execAudioPllLock s
  | .msixVectorUnmask v => Sys2Proof.Machine.execMsixVectorUnmask v s
  | .vaux3v3Retry up => Sys2Proof.Machine.execVaux3v3Retry up s
  | .fetchBufferWatermark layer fillKb errs => Sys2Proof.Machine.execFetchBufferWatermark layer fillKb s errs
  | .realignmentFrameStart => Sys2Proof.Machine.execRealignmentFrameStart s
  | .symbolArrival => Sys2Proof.Machine.execSymbolArrival s
  | .boundaryScanInstruction ins lasers hl shutter => Sys2Proof.Machine.execBoundaryScanInstruction ins lasers hl shutter s

end Sys2Proof.Machine
end

