-- ==== Sys2Proof/Machine/Tick.lean ====
section
/-! DEFINITION. What one timebase cycle does by itself, and the placing of a table word at the front of the queue. -/

namespace Sys2Proof.Machine

/-- The timebase stands: the module is held in reset, or SYSCLK gives no edges (R26, R27, R542). -/
def clockStands (s : State) : Bool := s.boot.power == .heldInReset || s.boot.sysclkMissing

/-- One cycle of 4 ns: the residue failures of the cycle that ends are handled (R251), the TSC counts (R27), and what is due
at its new value happens: the codes of the scanner's drives, the judgement of windows that ended, ends of pulses, the edges of FSYNC_OUT, a latch that has waited 8 µs, the end of the QUIESCED ramp, a thermal stop that a fault overtakes, the end of a trial, the reset of the switched logic. -/
def tick (s : State) : State :=
  if clockStands s then s
  else
    let s1 := buildTick s
    finish s (warmTick (trialTick (stopTick (quiesceTick (latchTick (fsyncTick (pulseTick (windowTick (scanTick
      { s1 with tsc := (s.tsc + 1) % 2 ^ 64 })))))))))

end Sys2Proof.Machine
end

