-- ==== Sys2Proof/Safety.lean ====
section
/-! DEFINITION. The terms in which statements about the machine are made: a steady state, what recording a fault and reacting to it may change, and how a message command is answered. -/

namespace Sys2Proof.Machine

/-! ### Steady states -/

/-- No command in flight waits for its instance (R122). -/
def noWait (s : State) : Prop := s.hmi.inFlight.all (fun f => !f.waiting) = true

/-- Between two commands, outside an activation, with no message command waiting for its instance. -/
structure Steady (s : State) : Prop where
  reports : s.reports = []
  act : s.img.act = none
  waits : noWait s

/-- A steady state of a running module: not held in reset, and not tripped by heat. -/
structure Live (s : State) : Prop extends Steady s where
  power : s.boot.power = .running

/-- A steady state of a module that is not held in reset: the host interface acts, through a thermal trip too. -/
structure Awake (s : State) : Prop extends Steady s where
  power : s.boot.power ≠ .heldInReset

/-- Between two commands of a running module, an activation on its way or not: no message command waits for its instance, and
no record of the log is of a fatal fault, which R79 would act on. -/
structure Switching (s : State) : Prop where
  reports : s.reports = []
  waits : noWait s
  power : s.boot.power = .running
  log : ∀ r ∈ s.flt.log, r.cls ≠ 2

/-- Nothing falls due in the cycle that an idle step counts: no residue failure, window, pulse, FSYNC edge, waiting latch,
ramp, thermal stop, trial or reset is on its way, and the scanner neither runs nor starts. -/
structure NothingDue (s : State) : Prop extends Steady s where
  failing : s.pbu.failing = []
  windows : ∀ b, b < 12 → (bankAt s b).ended = none
  pulses : s.lsd.pulses = []
  edges : s.ftg.edges = []
  latch : s.cmp.latchWait = none
  ramp : s.lsd.ramp = none
  stop : s.thm.stopAt = none
  trial : s.img.trialEnd = none
  warm : s.boot.warmAt = none
  line : s.hls.lineNow = none
  scanner : s.hls.mode ≠ .running ∧ s.hls.mode ≠ .starting

/-- An access of the requester reaches the registers: over PCI Express in D0 with the link up, or over the SMBus port. -/
def reaches (s : State) (q : Requester) : Bool :=
  match q with
  | .pcie => pcieReaches s && s.hmi.linkUp
  | .smbus => smbAnswers s

/-- The light path is dark and shut: every laser enable, HL_EN and SHUTTER_OUT low. -/
def dark (p : Pins) : Prop := p.laserEn = 0 ∧ p.hlEn = false ∧ p.shutterOut = false

/-- The rows of the units whose domains a thermal trip switches off: every row but resets, bus and register accesses,
message commands, the rings, and the sensors and detectors of AON (R480–R482). -/
def unitEvent (i : Instr) : Bool :=
  match i with
  | .powerOnReset .. | .brownout | .thermalRestart | .sensorSample .. | .warmReset .. | .hostBoot .. | .clockLoss .. | .aonUe ..
  | .interlockOpen .. | .interlockDiscrepancy | .hostBootGo .. | .flr | .linkDown | .perstN | .pmStateChange ..
  | .busMasterDisable .. | .pcieUncorrectable .. | .bar2Resize .. | .bar2Write .. | .bar2Read .. | .accessSize ..
  | .registerWrite .. | .shadowCaptureRead .. | .glbErrClear .. | .glbAccessErrClear .. | .writeLock ..
  | .pqPeakWrite .. | .calTargetWrite .. | .syncModeWrite .. | .pendingClear .. | .firstErrorClear ..
  | .smbSetPointer .. | .smbReadRegister | .smbWriteRegister .. | .smbReadStatus | .smbReadSerial
  | .smbAlertResponse | .smbSclTimeout | .hmiEnable .. | .hmiReset .. | .hmiDbCmd .. | .hmiDbCpl .. | .hmiDbEvt ..
  | .hmiHeartbeat .. | .hostWatchdog | .commandFetch .. | .eventPost .. | .coalesceTimeout .. | .hello .. | .echo ..
  | .imgStage .. | .imgActivate .. | .imgConfirm .. | .imgRollback .. | .imgRevokeKey .. | .memFenceQuery ..
  | .cmpLayerSurface .. | .cmpLayerGeom .. | .cmpCommit .. | .cmpLayerReady .. | .pbuTest .. | .rckRestore ..
  | .plkRetrain .. | .plkPark .. | .plkUnpark .. | .plkReadStatus .. | .lsdRearm .. | .lsdSafe ..
  | .lsdBrightness .. | .lsdPinTest .. | .lsdColourLock .. | .lsdDerateOverride .. | .lsdLinkRestart ..
  | .lpeSwap .. | .lpeSlotReset .. | .hlsStart .. | .hlsPark .. | .memTrain .. | .audStart .. | .audStop ..
  | .calRun .. | .calStore .. | .pwrSet .. | .thmClearMinmax .. | .fltInject .. | .fltReadLog ..
  | .msixVectorUnmask .. | .boundaryScanInstruction .. => false
  | _ => true

/-- The bead that a bead row stands for, and what befalls it (R263, R264). -/
def beadOfRow (i : Instr) : Option (BeadCome × Bead) :=
  match i with
  | .loadBlock rod tm how p b pl ca bl _ _ _ _ => some (how, loadRow rod tm p b pl ca bl)
  | .resetBlock rod tm how p sh dk _ => some (how, resetRow rod tm p sh dk)
  | .level rod tm how c l => some (how, levelRow rod tm c l)
  | .window rod tm how m o => some (how, windowRow rod tm m o)
  | .diagPulse rod tm how b l w => some (how, pulseRow rod tm b l w)
  | .calPair rod tm how w g => some (how, pairRow rod tm w g)
  | .dramSlot rod tm how tr ch pe co => some (how, dramRow rod tm tr ch pe co)
  | .darkSpan rod tm how le => some (how, darkRow rod tm le)
  | .scanLine rod tm how f n pe => some (how, scanRow rod tm f n pe)
  | _ => none

/-- No report of the state has a reaction (R496). -/
def harmless (s : State) : Prop := ∀ r ∈ s.reports, r.reactionAs = none → reactionOf s r = 0

/-- One more record of a source than before (R516). -/
def counted (s t : State) (src : Nat) : Prop :=
  tally t (srcBase src + 8) = min (tally s (srcBase src + 8) + 1) tallyMax

/-- Blocks all of whose writable registers are plain: a write stores its writable fields and does nothing else. -/
def plainBlock (b : Block) : Bool :=
  match b with
  | .pwr | .cmp | .pbu | .rck | .lsd | .lpe | .hls | .ftg => true
  | _ => false

/-- The answer to a register read over PCI Express, or over the SMBus port. -/
def answerTo (s : State) (q : Requester) (v : Nat) : Output :=
  match q with
  | .pcie => .readData (leBytes 4 v) false
  | .smbus => smbAnswer s 2 true (leBytes 4 v)

/-- The TSC shadow of a requester (R28). -/
def tscShadow (s : State) (q : Requester) : Nat :=
  match q with
  | .pcie => s.shPcie.tscHi
  | .smbus => s.shSmb.tscHi

/-! ### What a record may change -/

/-- What posting events and signalling vectors leaves of the host interface: all but the event ring's tail and phase, events
that wait, the overflow episode, coalescing of events, and pending vectors. -/
def evtCore (h : Hmi) : Hmi :=
  { h with
    evtTail := 0, evtPhase := true, evtQueue := [], episode := false, lost := 0, evtUnsig := 0, evtFirst := 0, msixPending := 0 }

/-- What no event, completion or vector changes of the host interface: all but ring tails, phases, entries that wait,
commands in flight and pending vectors. -/
def hmiCore (h : Hmi) : Hmi :=
  { h with
    cplTail := 0, evtTail := 0, cplPhase := true, evtPhase := true, inFlight := [], cplQueue := [], evtQueue := [],
    episode := false, lost := 0, cplUnsig := 0, cplFirst := 0, evtUnsig := 0, evtFirst := 0, msixPending := 0 }

/-- A tally that neither posting an event, nor completing a command, nor recording a fault counts: not HMI_EVT_LOST, not
HMI_CMD_TALLY, none of the fault collector's (R121, R122, R516). -/
def unitTally (off : Nat) : Bool :=
  off != offEvtLost && off != offCmdTally && !decide (0x40080 ≤ off ∧ off < 0x42000)

/-- Where the extension of the fault log begins in the reserved area (R145, R503). -/
def logBase (s : State) : Nat := reservedBase s + 0x3500000

/-- What recording and reacting keep: the host interface but for its traffic, the tallies of the units, the fault map, the
fuses and every byte of DRAM below the fault log's extension; no command has come to wait, nothing sent is taken back, no PENDING
bit has fallen, no source has left FATAL, and the only new reports are of lost events. -/
structure Keeps (s t : State) : Prop where
  core : hmiCore t.hmi = hmiCore s.hmi
  waits : noWait s → noWait t
  idle : s.hmi.inFlight = [] → t.hmi.inFlight = []
  outs : s.outs <:+ t.outs
  pending : ∀ i, (srcAt s i).pending = true → (srcAt t i).pending = true
  fatal : ∀ i, (srcAt s i).mode = .fatal → (srcAt t i).mode = .fatal
  map : t.flt.map = s.flt.map
  reports : ∀ r ∈ t.reports, r ∈ s.reports ∨ r = { source := 0x12 }
  tallies : ∀ off, unitTally off = true → tally t off = tally s off
  fuse : t.fuse = s.fuse
  memory : ∀ a, a < logBase s → rd t a = rd s a

/-- `t` comes from `s` by recording: only the wires, the host interface's events and vectors, tallies, reports, the fault
collector and the DRAM (the log in its reserved area) have changed. -/
structure Records (s t : State) : Prop where
  frame : ∃ o h ta r fl dr bw po, t = { s with
    outs := o, hmi := h, tallies := ta, reports := r, flt := fl, dram := dr, badWords := bw, poisoned := po }
  events : evtCore t.hmi = evtCore s.hmi
  keeps : Keeps s t

/-- No laser output, shutter or highlight enable rises, and the outputs stay driven or high-impedance as they are. -/
structure PinsDown (s t : State) : Prop where
  laser : s.pins.laserEn = 0 → t.pins.laserEn = 0
  shutter : s.pins.shutterOut = false → t.pins.shutterOut = false
  hl : s.pins.hlEn = false → t.pins.hlEn = false
  highZ : t.pins.highZ = s.pins.highZ

/-- `t` comes from `s` by recording and reacting: beside what a record changes, the light path and the scanner may have,
and no light output has risen. -/
structure Reacts (s t : State) : Prop where
  frame : ∃ o h ta r fl dr bw po ls pi lp pk rc hl, t = { s with
    outs := o, hmi := h, tallies := ta, reports := r, flt := fl, dram := dr, badWords := bw, poisoned := po, lsd := ls,
    pins := pi, lpe := lp, plk := pk, rck := rc, hls := hl }
  keeps : Keeps s t
  pins : PinsDown s t

/-- `t` comes from `s` by posting events, signalling vectors and counting: it differs at most in what has been sent, in events
and vectors, in the tallies of the host interface and the collector, and in waiting reports, of which only lost events are
new. -/
structure Posts (s t : State) : Prop where
  frame : ∃ o h ta r, t = { s with outs := o, hmi := h, tallies := ta, reports := r }
  events : evtCore t.hmi = evtCore s.hmi
  outs : s.outs <:+ t.outs
  reports : ∀ r ∈ t.reports, r ∈ s.reports ∨ r = { source := 0x12 }
  tallies : ∀ off, unitTally off = true → tally t off = tally s off

/-- `t` differs from `s` at most in what has been sent, in the host interface's traffic, in tallies and in waiting reports;
no command has come to wait, nothing sent is taken back, and the only new reports are of lost events. -/
structure HostOnly (s t : State) : Prop where
  frame : ∃ o h ta r, t = { s with outs := o, hmi := h, tallies := ta, reports := r }
  core : hmiCore t.hmi = hmiCore s.hmi
  waits : noWait s → noWait t
  idle : s.hmi.inFlight = [] → t.hmi.inFlight = []
  outs : s.outs <:+ t.outs
  reports : ∀ r ∈ t.reports, r ∈ s.reports ∨ r = { source := 0x12 }
  tallies : ∀ off, unitTally off = true → tally t off = tally s off

/-- A state without what recording may change. `calm t = calm { s with cmp := t.cmp }` says that, these apart, only the
composer's state has changed. -/
def calm (s : State) : State :=
  { s with outs := [], hmi := {}, tallies := [], reports := [], flt := {}, dram := [], badWords := [], poisoned := [] }

/-- Of the Plane Link, `t` differs from `s` only in port `p` and what hangs on it: the Reckoner's image of its blocks and the
schedule variant that waits. Other units, and the DRAM below the reserved area, are as before. -/
structure OnlyPort (s t : State) (p : Nat) : Prop where
  frame : calm t = calm { s with plk := t.plk, rck := { s.rck with blocks := t.rck.blocks, next := t.rck.next } }
  ports : ∀ q, q < 6 → q ≠ p → port t q = port s q
  memory : ∀ a, a < reservedBase s → rd t a = rd s a

/-- A port has failed with a cause: PARK is sent, its lanes stand idle, and fault 0x61 is pending (R307, R313). -/
structure PortFailed (s t : State) (p cause : Nat) : Prop where
  mode : (port t p).mode = .failed
  cause : (port t p).cause = cause
  sent : Output.plkFrame p 0x06 [parkStyle s p] ∈ t.outs
  pending : (srcAt t 0x61).pending = true
  only : OnlyPort s t p

/-- The channel mask of an audio port in force at a left edge now: the last write stamped before it (R449). -/
def maskAt (s : State) (p : Nat) : Nat :=
  (((audPort s p).maskNext.filter (fun w => decide (w.1 < s.tsc))).getLast?.map (·.2)).getD (audPort s p).mask

/-! ### Message commands -/

/-- The module serves a message command with this opcode: it fetches, outside an activation; no other command is in flight;
the checks of R131 pass; and the domains that the command's unit stands in are ON (R122, R131, R482). -/
structure Serving (s : State) (op : Nat) (c : Cmd) : Prop where
  reports : s.reports = []
  act : s.img.act = none
  fetch : canFetch s = true
  alone : s.hmi.inFlight = []
  header : headerCheck s op c = none
  domains : (opDomains op c.unit.toNat).all (domainOn s) = true

/-- The command of a message row as it stands in flight: its stamp is now, and no TAG in flight is its own. -/
def arriving (s : State) (op : Nat) (c : Cmd) (shorts : List (Nat × Nat)) : InFlight := inFlightOf s op c s.tsc shorts false

/-- The message rows: opcode, command, and the shorts that a pin test meets (R128, R129). -/
def messageOf (i : Instr) : Option (Nat × Cmd × List (Nat × Nat)) :=
  match i with
  | .hello c => some (0x0001, c, [])
  | .echo c => some (0x0002, c, [])
  | .imgStage c => some (0x0201, c, [])
  | .imgActivate c => some (0x0202, c, [])
  | .imgConfirm c => some (0x0203, c, [])
  | .imgRollback c => some (0x0204, c, [])
  | .imgRevokeKey c => some (0x0205, c, [])
  | .memFenceQuery c => some (0x0301, c, [])
  | .cmpLayerSurface c => some (0x0401, c, [])
  | .cmpLayerGeom c => some (0x0402, c, [])
  | .cmpCommit c => some (0x0403, c, [])
  | .cmpLayerReady c => some (0x0404, c, [])
  | .pbuTest c => some (0x0601, c, [])
  | .rckRestore c => some (0x0701, c, [])
  | .plkRetrain c => some (0x0801, c, [])
  | .plkPark c => some (0x0802, c, [])
  | .plkUnpark c => some (0x0803, c, [])
  | .plkReadStatus c => some (0x0804, c, [])
  | .lsdRearm c => some (0x0901, c, [])
  | .lsdSafe c => some (0x0902, c, [])
  | .lsdBrightness c => some (0x0903, c, [])
  | .lsdPinTest c shorts => some (0x0904, c, shorts)
  | .lsdColourLock c => some (0x0905, c, [])
  | .lsdDerateOverride c => some (0x0906, c, [])
  | .lsdLinkRestart c => some (0x0907, c, [])
  | .lpeSwap c => some (0x0A01, c, [])
  | .lpeSlotReset c => some (0x0A02, c, [])
  | .hlsStart c => some (0x0B01, c, [])
  | .hlsPark c => some (0x0B02, c, [])
  | .memTrain c => some (0x0D01, c, [])
  | .audStart c => some (0x0E01, c, [])
  | .audStop c => some (0x0E02, c, [])
  | .calRun c => some (0x0F01, c, [])
  | .calStore c => some (0x0F02, c, [])
  | .pwrSet c => some (0x1001, c, [])
  | .thmClearMinmax c => some (0x1002, c, [])
  | .fltInject c => some (0x1101, c, [])
  | .fltReadLog c => some (0x1102, c, [])
  | _ => none

/-- The payload that LENGTH gives (R125). -/
def bodyOf (c : Cmd) : List Byte := c.payload.take c.length.toNat

/-- The command has completed with this status and result, and `t` is what its own effect `e` left, but for what a record
may change. Its completion has been written at the completion ring's tail, unless NO_CPL holds it back (R122, R125, R126). -/
structure Replies (e t : State) (f : InFlight) (st : Status) (res : List Byte) : Prop where
  frame : ∃ o h ta r fl dr bw po, t = { e with
    outs := o, hmi := h, tallies := ta, reports := r, flt := fl, dram := dr, badWords := bw, poisoned := po }
  keeps : Keeps (enterFlight e f) t
  flight : t.hmi.inFlight = []
  settled : t.reports = []
  answer : cplShown f st.code = true → ∃ l, t.outs = l ++ e.outs ∧
    cplWrite e (cplEntry e f st.code res) ∈ l

/-- The command has completed with this status and result on `s`: none is in flight, no report is left, and its completion
has been written at the completion ring's tail, unless NO_CPL holds it back (R122, R125, R126). -/
structure Answers (s t : State) (f : InFlight) (st : Status) (res : List Byte) : Prop where
  flight : t.hmi.inFlight = []
  settled : t.reports = []
  answer : cplShown f st.code = true → ∃ l, t.outs = l ++ s.outs ∧
    cplWrite s (cplEntry s f st.code res) ∈ l

/-- The command has begun and stays in flight (R122), and `t` is what its own effect `e` left, but for what a record may
change. -/
structure Begins (e t : State) (f : InFlight) : Prop where
  records : Records (enterFlight e f) t
  settled : t.reports = []

end Sys2Proof.Machine
end

