-- ==== Sys2Proof/Certificates/Slice0/Obligations.lean ====
section
/-! DEFINITION. The statements about the machine, for the provers. Each says in its docstring which rules of the spec it formalises, or that it rests on a choice of the model. -/

open Sys2Proof Sys2Proof.Machine

/-! ### Steps, the timebase and resets (chapters 0, 18–20) -/

/-- A step takes the command at the front of the queue and answers what the command does to the state with the rest. -/
def Obligations.StepRunsFrontCommand : Prop :=
  ∀ (c : Instr) (s : State), step { s with pending := c :: s.pending } = exec c s

/-- R27, R26 with the model's choice of log entry 2: with no command waiting a step is one cycle of the timebase, which
counts, where nothing is due in that cycle; while SYSCLK is missing, or the module is held in reset, the timebase stands. -/
def Obligations.IdleStepCountsTheTimebase : Prop :=
  (∀ s : State, s.pending = [] → s.boot.power = .heldInReset ∨ s.boot.sysclkMissing = true → step s = .next s) ∧
  (∀ s : State, s.pending = [] → s.boot.power ≠ .heldInReset → s.boot.sysclkMissing = false → NothingDue s →
    step s = .next { s with tsc := (s.tsc + 1) % 2 ^ 64 })

/-- R497 (the collector acts in the cycle in which a report arrives): a state between two commands holds no report that
the collector has not taken, and every step keeps it so. -/
def Obligations.EveryStepLeavesNoReport : Prop :=
  ∀ s t : State, s.reports = [] → step s = .next t → t.reports = []

/-- The form that the model gives the DRAM's contents, its own choice of log entry 3: addresses strictly rising, and no byte
listed that reads as an unlisted one. Every step keeps it. -/
def Obligations.EveryStepKeepsTheMemoryForm : Prop :=
  ∀ s t : State, mapWf dramDefault s.dram = true → step s = .next t → mapWf dramDefault t.dram = true

/-- R19, R27, R505, R517, R518, R527: right after reset the time counts and every tally are 0, every register holds the
value of its Reset column, no source is in a fault state or pending, nothing has been negotiated, the memory lists nothing,
no output is driven, and no report waits. -/
def Obligations.ResetStateAsTheSpecGivesIt : Prop :=
  State.reset.tsc = 0 ∧ State.reset.frame = 0 ∧ (∀ off, tally State.reset off = 0) ∧
  (∀ off, reg State.reset off = regReset off) ∧ (∀ i, (srcAt State.reset i).mode = .clear ∧ (srcAt State.reset i).pending = false) ∧
  State.reset.flt.log = [] ∧ State.reset.hmi.enabled = false ∧ State.reset.hmi.version = none ∧
  State.reset.ftgOn = false ∧ State.reset.boot.stage = 0 ∧ dark State.reset.pins ∧ State.reset.pins.highZ = true ∧
  mapWf dramDefault State.reset.dram = true ∧ State.reset.reports = [] ∧ State.reset.pending = []

/-- R541, R542: a brownout holds the module in reset, and no command but the next power-on reset changes anything. -/
def Obligations.HeldInResetUntilPowerOn : Prop :=
  ∀ (s : State) (i : Instr), s.boot.power = .heldInReset → (∀ b a m, i ≠ .powerOnReset b a m) → exec i s = .next s

/-- R517, R518, R519, R526: a power-on reset keeps the fuses, the firmware, image, journal and calibration partitions of the
flash, and the levels at the balls; it samples the straps, puts everything else at its reset value, every present domain ON
and every absent one OFF, the start-up in stage 0, and is reported as a brownout's where the module was held in reset. What
has been sent and the waiting commands stand. -/
def Obligations.PowerOnResetStartsAfresh : Prop :=
  ∀ (s : State) (b : Fin 4) (a : Bool) (m : Fin 4),
    exec (.powerOnReset b a m) s = .next { State.reset with
      pending := s.pending, outs := s.outs, freeCtr := s.freeCtr, fuse := s.fuse,
      pins := { State.reset.pins with
        intlkAHigh := s.pins.intlkAHigh, intlkBHigh := s.pins.intlkBHigh, fsyncIn := s.pins.fsyncIn,
        bootSrc := b.val, bootArm := a, smbAddr := m.val },
      boot := { State.reset.boot with
        kind := if s.boot.power = .heldInReset then .brownout else .por, fwA := s.boot.fwA, fwB := s.boot.fwB },
      img := { State.reset.img with
        flash := s.img.flash, jrnA := s.img.jrnA, jrnB := s.img.jrnB, jrnActiveB := s.img.jrnActiveB },
      cal := { State.reset.cal with slotA := s.cal.slotA, slotB := s.cal.slotB },
      pwr := { State.reset.pwr with
        dom := Vector.ofFn (fun (d : Fin 36) => if domainPresent s d.val then .on else .off), run := none } }

/-- R480, R481, R517, R542: a brownout holds the module in reset, with the light path dark and every output at high
impedance. A thermal trip puts the light path dark and every output at high impedance, stops FTG0, switches every domain off,
counts and keeps its stamp; a PWR_SET under way is dropped, its command no longer in flight. A restart after a trip waits for 4
consecutive die readings below 95 °C; before that nothing changes. It starts from stage 0 with the fuses, the flash's partitions,
the levels at the balls, the trip's tally and TRIPPED kept and every present domain ON; fault 0xB5 is recorded with the stamp of the
trip, and but for what that record and its reaction change, everything else is at its reset value. -/
def Obligations.BrownoutTripAndRestart : Prop :=
  (∀ s : State, Awake s →
    ∃ t, exec .brownout s = .next t ∧ t.boot.power = .heldInReset ∧ dark t.pins ∧ t.pins.highZ = true) ∧
  (∀ s : State, Live s →
    ∃ t, exec .thermalTrip s = .next t ∧ t.boot.power = .tripped ∧ dark t.pins ∧ t.pins.highZ = true ∧ t.ftgOn = false ∧
      tally t 0x60018 = min (tally s 0x60018 + 1) tallyMax ∧ t.thm.tripAt = some (s.tsc, s.frame) ∧ t.thm.cool = 0 ∧
      t.pwr.run = none ∧ (∀ r f, s.pwr.run = some r → f ∈ t.hmi.inFlight → f.id ≠ r.cmdId) ∧
      (∀ d, d < 36 → vget t.pwr.dom d .off = .off) ∧ (∀ a, a < reservedBase s → rd t a = rd s a)) ∧
  (∀ s : State, Awake s → s.boot.power = .tripped → s.thm.cool < 4 → exec .thermalRestart s = .next s) ∧
  (∀ (s : State) (tsc frame : Nat), s.boot.power = .tripped → 4 ≤ s.thm.cool → s.thm.tripAt = some (tsc, frame) →
    ∃ t, exec .thermalRestart s = .next t ∧ (srcAt t 0xB5).pending = true ∧ dark t.pins ∧
      t.flt.log.head?.map (fun r => (r.source, r.tsc, r.frameLo)) = some (0xB5, tsc, frame % 2 ^ 32) ∧
      tally t 0x60018 = tally s 0x60018 ∧ (∀ off, unitTally off = true → off ≠ 0x60018 → tally t off = 0) ∧
      t.hmi.enabled = false ∧ t.hmi.version = none ∧ t.hmi.inFlight = [] ∧ t.badWords = [] ∧
      (∀ a, a < logBase s → rd t a = rd State.reset a) ∧
      calm t = calm { State.reset with
        pending := s.pending, freeCtr := s.freeCtr, fuse := s.fuse,
        boot := { State.reset.boot with kind := .thermal, fwA := s.boot.fwA, fwB := s.boot.fwB, tripFlag := true },
        img := { State.reset.img with
          flash := s.img.flash, jrnA := s.img.jrnA, jrnB := s.img.jrnB, jrnActiveB := s.img.jrnActiveB },
        cal := { State.reset.cal with slotA := s.cal.slotA, slotB := s.cal.slotB },
        pwr := { State.reset.pwr with
          dom := Vector.ofFn (fun (d : Fin 36) => if domainPresent s d.val then .on else .off), run := none },
        lsd := t.lsd, pins := t.pins, lpe := t.lpe, plk := t.plk, rck := t.rck, hls := t.hls })

/-- R480: with the domains off, no event of the units that a trip switches off changes anything. The choice of those
events, every row that is neither a reset, a bus access, a message nor an always-on detector, is the model's. -/
def Obligations.TrippedModuleIgnoresUnits : Prop :=
  ∀ (s : State) (i : Instr), s.boot.power = .tripped → unitEvent i = true → exec i s = .next s

/-- R495, R507, R517, R518, R528, R530: a GLB_RESET write with its key, by either requester, begins a warm reset with the light
path dark, and leaves the registers and the DRAM below the reserved area; so does a supervisor
that missed its watchdog, 1 ms after its record. Each counts. -/
def Obligations.WarmResetsBegin : Prop :=
  (∀ (s : State) (q : Requester), Awake s → reaches s q = true → writeRefusal s q 0x58 0xA5000001 = none →
    ∃ t, exec (.warmReset q) s = .next t ∧ t.boot.warmAt = some s.tsc ∧ t.boot.kind = .warm ∧ t.boot.hostBoot = false ∧
      dark t.pins ∧ tally t 0x68 = min (tally s 0x68 + 1) tallyMax ∧ t.regs = s.regs ∧
      (∀ a, a < reservedBase s → rd t a = rd s a)) ∧
  (∀ (s : State) (q : Requester), Awake s → reaches s q = true → writeRefusal s q 0x58 0xA5000003 = none →
    ∃ t, exec (.hostBoot q) s = .next t ∧ t.boot.warmAt = some s.tsc ∧ t.boot.kind = .warm ∧ t.boot.hostBoot = true ∧
      dark t.pins ∧ tally t 0x68 = min (tally s 0x68 + 1) tallyMax ∧ t.regs = s.regs ∧
      (∀ a, a < reservedBase s → rd t a = rd s a)) ∧
  (∀ s : State, Live s →
    ∃ t, exec .supervisorWatchdog s = .next t ∧ t.boot = { s.boot with watchdogAt := some s.tsc } ∧ dark t.pins ∧
      (srcAt t 0xF0).pending = true ∧ (srcAt t 0xF0).mode = .fatal) ∧
  (∀ (s : State) (at_ : Nat), Live s → s.boot.watchdogAt = some at_ → s.tsc < at_ + msCycles →
    exec .watchdogReset s = .next s) ∧
  (∀ (s : State) (at_ : Nat), Live s → s.boot.watchdogAt = some at_ → at_ + msCycles ≤ s.tsc →
    ∃ t, exec .watchdogReset s = .next t ∧ t.boot.warmAt = some s.tsc ∧ t.boot.kind = .watchdog ∧
      t.boot.watchdogAt = none ∧ dark t.pins ∧ tally t 0x68 = min (tally s 0x68 + 1) tallyMax ∧ t.regs = s.regs ∧
      (∀ a, a < reservedBase s → rd t a = rd s a))

/-- R339, R495: the interlock's levels are read in every state of a powered module; an opening, a discrepancy of more than 20
ms, the loss of SYSCLK and an uncorrectable error in AON each leave their source pending and the light path dark, the last three
their source in FATAL; a discrepancy that has not lasted so long changes nothing. R543, R554, R555: a retry of VAUX_3V3 changes
nothing while no journal append is under way; a test instruction takes the balls only while FTG0 is stopped and no bank is live,
with its laser and shutter cells low while the interlock reads open, and acts as BYPASS otherwise; IDCODE shifts out the
identification. -/
def Obligations.AlarmsDarkenAndSuppliesReturn : Prop :=
  (∀ (s : State) (a b : Bool), Awake s → a = false ∨ b = true → s.lsd.intlkOpen = false →
    ∃ t, exec (.interlockOpen a b) s = .next t ∧ t.pins.intlkAHigh = a ∧ t.pins.intlkBHigh = b ∧
      t.lsd.intlkOpen = true ∧ dark t.pins ∧ (srcAt t 0x00).pending = true) ∧
  (∀ (s : State) (a b : Bool), Awake s → a = false ∨ b = true → s.lsd.intlkOpen = true →
    exec (.interlockOpen a b) s = .next { s with
      pins := { s.pins with
        intlkAHigh := a, intlkBHigh := b,
        intlkAt := if s.pins.intlkAHigh = a ∧ s.pins.intlkBHigh = b then s.pins.intlkAt else s.tsc } }) ∧
  (∀ s : State, Awake s →
    exec (.interlockOpen true false) s = .next { s with
      pins := { s.pins with
        intlkAHigh := true, intlkBHigh := false,
        intlkAt := if s.pins.intlkAHigh = true ∧ s.pins.intlkBHigh = false then s.pins.intlkAt else s.tsc },
      lsd := { s.lsd with intlkOpen := false } }) ∧
  (∀ s : State, Awake s → s.pins.intlkAHigh = s.pins.intlkBHigh → s.pins.intlkAt + 20 * msCycles < s.tsc →
    ∃ t, exec .interlockDiscrepancy s = .next t ∧ dark t.pins ∧ (srcAt t 0x01).pending = true ∧
      (srcAt t 0x01).mode = .fatal) ∧
  (∀ s : State, Awake s → s.pins.intlkAHigh ≠ s.pins.intlkBHigh ∨ s.tsc ≤ s.pins.intlkAt + 20 * msCycles →
    exec .interlockDiscrepancy s = .next s) ∧
  (∀ s : State, Awake s →
    ∃ t, exec (.clockLoss true) s = .next t ∧ t.boot = { s.boot with sysclkMissing := true } ∧ dark t.pins ∧
      (srcAt t 0xF3).pending = true ∧ (srcAt t 0xF3).mode = .fatal) ∧
  (∀ s : State, Awake s → exec (.clockLoss false) s = .next { s with boot := { s.boot with sysclkMissing := false } }) ∧
  (∀ (s : State) (o : BitVec 32), Awake s →
    ∃ t, exec (.aonUe o) s = .next t ∧ dark t.pins ∧ (srcAt t 0xF2).pending = true ∧ (srcAt t 0xF2).mode = .fatal) ∧
  (∀ (s : State) (up : Bool), Live s → s.img.appends = [] →
    exec (.vaux3v3Retry up) s = .next { s with vauxDown := !up }) ∧
  (∀ (s : State) (i : JtagInstr) (l : BitVec 12) (h u : Bool), Awake s → takesBalls i = true → testAllowed s = true →
    exec (.boundaryScanInstruction i l h u) s = .next { s with jtag := {
      instr := i, control := true, laserCells := if interlockOpen s then 0 else l.toNat,
      hlCell := !interlockOpen s && h, shutterCell := !interlockOpen s && u } }) ∧
  (∀ (s : State) (i : JtagInstr) (l : BitVec 12) (h u : Bool), Awake s → takesBalls i = true → testAllowed s = false →
    exec (.boundaryScanInstruction i l h u) s = .next { s with jtag := { instr := .bypass } }) ∧
  (∀ (s : State) (l : BitVec 12) (h u : Bool), Awake s →
    exec (.boundaryScanInstruction .idcode l h u) s = .next { s with
      jtag := { instr := .idcode }, outs := .idcode (idcode s) :: s.outs })

/-- R523, R527: the stages of a start-up follow one another. Stage 0 drives the outputs, and a failed safe-path test raises
fault 0x02; stage 1 brings the link up and goes on to firmware selection, or to host boot where that was asked for; stage 2
goes on where a firmware slot is valid, or waits for host boot; stage 3 of a power-on start leaves each channel OK or failed, fault 0x24 pending
and no image to come where one failed, and a warm reset goes on to stage 5; stage 4 fences the builders that fail; stage 5
puts shorted banks in SHORT with fault 0x73 and goes on to the image, or without one to the end; stage 6 goes on to the
calibration snapshot, or in a warm reset to the load; stage 7 to the load; stage 8 leaves no enabled port in training. A stage
that is not in progress changes nothing. -/
def Obligations.StartStagesFollow : Prop :=
  (∀ (s : State) (r : StageResult), Live s → s.boot.warmAt = none → s.boot.stage = 0 → r.safePathOk = true →
    exec (.bootStageDone r) s = .next { s with pins := { s.pins with highZ := false }, boot := { s.boot with stage := 1 } }) ∧
  (∀ (s : State) (r : StageResult), Live s → s.boot.warmAt = none → s.boot.stage = 0 → r.safePathOk = false →
    ∃ t, exec (.bootStageDone r) s = .next t ∧ t.boot.stage = 1 ∧ dark t.pins ∧ (srcAt t 0x02).pending = true ∧
      (srcAt t 0x02).mode = .fatal ∧ t.pins.highZ = false) ∧
  (∀ (s : State) (r : StageResult), Live s → s.boot.warmAt = none → s.boot.stage = 1 →
    exec (.bootStageDone r) s = .next { s with
      hmi := { s.hmi with linkUp := true }, boot := { s.boot with stage := if s.boot.hostBoot then 15 else 2 } }) ∧
  (∀ (s : State) (r : StageResult), Live s → s.boot.warmAt = none → s.boot.stage = 2 →
    ∃ t, exec (.bootStageDone r) s = .next t ∧
      t.boot.stage = (if s.pins.bootSrc = 1 ∨ (s.boot.fwA.valid = false ∧ s.boot.fwB.valid = false) then 15 else 3) ∧
      t = { s with boot := t.boot }) ∧
  (∀ (s : State) (r : StageResult), Live s → s.boot.warmAt = none → s.boot.stage = 3 → warmStart s = false →
    ∃ t, exec (.bootStageDone r) s = .next t ∧ t.boot.stage = 4 ∧ t.mem.ready = true ∧
      (∀ c, c < 16 → (chan t c).mode = if bitAt r.failedChannels c then .failed else .ok) ∧
      ((∃ c, c < 16 ∧ bitAt r.failedChannels c = true) → t.boot.noImage = true ∧ (srcAt t 0x24).pending = true)) ∧
  (∀ (s : State) (r : StageResult), Live s → s.boot.warmAt = none → s.boot.stage = 3 → warmStart s = true →
    ∃ t, exec (.bootStageDone r) s = .next t ∧ t.boot.stage = 5 ∧ t.mem.ready = true ∧
      (∀ c, c < 16 → bitAt s.boot.warmOff (c / 2) = true →
        (chan t c).mode = if bitAt r.failedChannels c then .failed else .ok)) ∧
  (∀ (s : State) (r : StageResult), Live s → s.boot.warmAt = none → s.boot.stage = 4 →
    ∃ t, exec (.bootStageDone r) s = .next t ∧ t.boot.stage = 5 ∧
      (∀ n, n < 24 → vget t.pbu.fenced n false = bitAt r.failedBuilders n) ∧ t = { s with boot := t.boot, pbu := t.pbu }) ∧
  (∀ (s : State) (r : StageResult), Live s → s.boot.warmAt = none → s.boot.stage = 5 →
    ∃ t, exec (.bootStageDone r) s = .next t ∧ t.boot.stage = (if s.boot.noImage then 9 else 6) ∧
      (∀ b c, b < nBanks s → (b, c) ∈ r.shorts → c ≤ 6 →
        (bankAt t b).mode = .short ∧ (srcAt t 0x73).pending = true)) ∧
  (∀ (s : State) (r : StageResult), Live s → s.boot.warmAt = none → s.boot.stage = 6 →
    ∃ t, exec (.bootStageDone r) s = .next t ∧
      t.boot.stage = (if warmStart s then (if t.img.cfg.isSome then 8 else 9) else 7)) ∧
  (∀ (s : State) (r : StageResult), Live s → s.boot.warmAt = none → s.boot.stage = 7 →
    ∃ t, exec (.bootStageDone r) s = .next t ∧ t.boot.stage = (if s.img.cfg.isSome then 8 else 9) ∧ t.cal.run = none) ∧
  (∀ (s : State) (r : StageResult), Live s → s.boot.warmAt = none → s.boot.stage = 8 →
    ∃ t, exec (.bootStageDone r) s = .next t ∧ t.boot.stage = 9 ∧
      t.boot.bootMs = (s.tsc - s.boot.startTsc) / msCycles ∧
      (∀ p, p < 6 → portEnabled s p = true →
        (port t p).mode = .active ∨ (port t p).mode = .failed ∨ ((port t p).mode = .parked ∧ (port t p).cause = 16))) ∧
  (∀ (s : State) (r : StageResult), Live s → s.boot.warmAt.isSome = true ∨ 9 ≤ s.boot.stage →
    exec (.bootStageDone r) s = .next s)

/-- R522, R530: a GO that host boot accepts reports the result of the firmware body's checks; a body that passes them runs from
stage 3, and one that fails them leaves the ROM waiting. A write refused outside host boot is recorded and does nothing. R37,
R279, R525: FTG0 starts only with an image that is CONFIRMED or in TRIAL, from stage 9 on, outside an activation's switch; it
then runs. Where it may not, nothing changes. -/
def Obligations.HostBootAndTheFirstFrame : Prop :=
  (∀ (s : State) (q : Requester) (v : BitVec 32) (ok : Bool), Awake s → reaches s q = true →
    writeRefusal s q 0x5C v.toNat = none → bitAt v.toNat 31 = true →
    ∃ t, exec (.hostBootGo q v ok) s = .next t ∧
      t.regs = mapSet regReset s.regs 0x5C (BitVec.ofNat 32 (v.toNat &&& 0x407FFFFF)) ∧
      t = { s with regs := t.regs, boot := t.boot, outs := t.outs } ∧
      (bodyCheck s (bits v.toNat 22 0) = none → t.boot.stage = 3 ∧ t.boot.window = [] ∧
        t.boot.result = (if bitAt v.toNat 30 && !ok then Status.checkFail.code else 0)) ∧
      (∀ e, bodyCheck s (bits v.toNat 22 0) = some e → t.boot = { s.boot with result := e.code } ∧ t.outs = s.outs)) ∧
  (∀ (s : State) (q : Requester) (v : BitVec 32) (ok : Bool), Awake s → reaches s q = true → hostBootOpen s = false →
    ∃ t, exec (.hostBootGo q v ok) s = .next t ∧ t = { s with glb := t.glb } ∧ t.glb.errValid = true) ∧
  (∀ s : State, Live s → ftgMayRun s = true →
    ∃ t, exec .ftg0Start s = .next t ∧ t.ftgOn = true ∧ t.lpe.active = true ∧ t.ftg.sof = s.tsc ∧ t.rck.segStart = s.tsc ∧ t.rck.k = 0 ∧ t.ver.since = s.tsc ∧
      t.boot.firstStart = false) ∧
  (∀ s : State, Live s → ftgMayRun s = false → exec .ftg0Start s = .next s)


/-! ### Registers and the management port (chapters 0 and 3) -/

/-- R18, R107, R108: a write to a plain register stores its writable fields and changes nothing else; a write that is refused
changes no field and no other state: the first one is recorded in GLB_ERR_STATUS and GLB_ERR_ADDR, later ones set MULTI only.
R101: within BAR0 an offset of no register, and of none of the windows, reads as 0; a write to it that neither its path nor an
absent or sleeping unit refuses is discarded and latches OUT_OF_RANGE. -/
def Obligations.RegisterWriteInFullOrNotAtAll : Prop :=
  (∀ (s : State) (q : Requester) (dw : Fin 0x1000000) (v : BitVec 32) (ok : Bool) (r : RegRow), Awake s → reaches s q = true →
    writeRefusal s q (4 * dw.val) v.toNat = none → plainBlock (blockOf (4 * dw.val)) = true →
    regRow (4 * dw.val) = some r →
    exec (.registerWrite q .bar0 dw v ok) s = .next { s with
      regs := mapSet regReset s.regs (4 * dw.val) (BitVec.ofNat 32 (plainValue s (4 * dw.val) r v.toNat)) }) ∧
  (∀ (s : State) (q : Requester) (dw : Fin 0x1000000) (v : BitVec 32) (ok : Bool) (e : Status), Awake s → reaches s q = true →
    writeRefusal s q (4 * dw.val) v.toNat = some e → s.glb.errValid = false →
    exec (.registerWrite q .bar0 dw v ok) s = .next { s with glb := { s.glb with
      errValid := true, errMulti := false, errSmbus := q == .smbus, errBar4 := false, errCode := e.code,
      errAddr := 4 * dw.val } }) ∧
  (∀ (s : State) (q : Requester) (dw : Fin 0x1000000) (v : BitVec 32) (ok : Bool) (e : Status), Awake s → reaches s q = true →
    writeRefusal s q (4 * dw.val) v.toNat = some e → s.glb.errValid = true →
    exec (.registerWrite q .bar0 dw v ok) s = .next { s with glb := { s.glb with errMulti := true } }) ∧
  (∀ (s : State) (q : Requester) (dw : Fin 0x1000000), Awake s → reaches s q = true →
    regRow (4 * dw.val) = none → isWindow (4 * dw.val) = false → (4 * dw.val < 0x48000 ∨ 0x4A000 ≤ 4 * dw.val) →
    ∃ t, exec (.shadowCaptureRead q .bar0 dw) s = .next t ∧ t = { s with outs := answerTo s q 0 :: s.outs }) ∧
  (∀ (s : State) (q : Requester) (dw : Fin 0x1000000) (v : BitVec 32) (ok : Bool), Awake s → reaches s q = true →
    regRow (4 * dw.val) = none → isWindow (4 * dw.val) = false → (4 * dw.val < 0x48000 ∨ 0x4A000 ≤ 4 * dw.val) →
    pathRefusal s q (4 * dw.val) = none → absentAt s (4 * dw.val) = false → sensorGone s (4 * dw.val) = false →
    domainOff s (4 * dw.val) = false → s.glb.errValid = false →
    ∃ t, exec (.registerWrite q .bar0 dw v ok) s = .next t ∧ t = { s with glb := t.glb } ∧ t.glb.errValid = true ∧
      t.glb.errCode = 3 ∧ t.glb.errAddr = 4 * dw.val)

/-- R28: a read of GLB_TSC_LO returns bits 31:0 of the TSC and captures bits 63:32 into the requester's shadow; a read of
GLB_TSC_HI returns that shadow. PCIe and SMBus each have their own, both 0 after reset, and nothing else changes. -/
def Obligations.TscReadsThroughShadows : Prop :=
  (∀ (s : State) (q : Requester), Awake s → reaches s q = true →
    ∃ t, exec (.shadowCaptureRead q .bar0 0x10) s = .next t ∧ t.outs = answerTo s q (bits s.tsc 31 0) :: s.outs ∧
      tscShadow t q = bits s.tsc 63 32 ∧ (∀ r, r ≠ q → tscShadow t r = tscShadow s r) ∧
      t = { s with shPcie := t.shPcie, shSmb := t.shSmb, outs := t.outs }) ∧
  (∀ (s : State) (q : Requester), Awake s → reaches s q = true →
    exec (.shadowCaptureRead q .bar0 0x11) s = .next { s with outs := answerTo s q (tscShadow s q) :: s.outs }) ∧
  (State.reset.tsc = 0 ∧ ∀ q, tscShadow State.reset q = 0)

/-- R106, R107, R114, R501, R507: the writes that clear the rejection record, the access record and the first-error capture
clear that and nothing else; WRITE_LOCK is set by PCIe, and over SMBus the write is refused and recorded; a write of
FLT_PENDING_n clears the PENDING bits written as 1, ends the FATAL of those that were pending, and leaves every other source as
it was, but for that of a lost event (0x12), which a full event ring may report. R100: an access to BAR0 that is not one aligned
DW is recorded and counted with fault 0x10; a read returns zeros, and a write is discarded: no register changes. -/
def Obligations.ClearingWritesAndAccessSizes : Prop :=
  (∀ (s : State) (q : Requester), Awake s → reaches s q = true →
    exec (.glbErrClear q) s = .next { s with glb := { s.glb with
      errValid := false, errMulti := false, errSmbus := false, errBar4 := false, errCode := 0, errAddr := 0 } }) ∧
  (∀ (s : State) (q : Requester), Awake s → reaches s q = true → writeRefusal s q 0x28 0x80000000 = none →
    exec (.glbAccessErrClear q) s = .next { s with glb := { s.glb with
      accValid := false, accMulti := false, accWrite := false, accBar4 := false, accFirstBe := 0, accLastBe := 0,
      accLength := 0, accAddr := 0 } }) ∧
  (∀ (s : State) (q : Requester), Awake s → reaches s q = true → writeRefusal s q 0x40020 0x80000000 = none →
    exec (.firstErrorClear q) s = .next { s with flt := { s.flt with first := none } }) ∧
  (∀ (s : State) (pec : Bool), Awake s → reaches s .pcie = true →
    exec (.writeLock .pcie pec) s = .next { s with glb := { s.glb with pecReq := pec, writeLock := true } }) ∧
  (∀ (s : State) (pec : Bool), Awake s → reaches s .smbus = true →
    ∃ t, exec (.writeLock .smbus pec) s = .next t ∧ t = { s with glb := t.glb } ∧ t.glb.writeLock = s.glb.writeLock ∧
      t.glb.pecReq = s.glb.pecReq ∧ t.glb.errValid = true ∧ (s.glb.errValid = false → t.glb.errCode = 4 ∧ t.glb.errSmbus = true)) ∧
  (∀ (s : State) (q : Requester) (n : Fin 8) (v : BitVec 32), Awake s → reaches s q = true →
    writeRefusal s q (0x40040 + 4 * n.val) v.toNat = none →
    ∃ t, exec (.pendingClear q n v) s = .next t ∧
      (∀ i, i < 32 → bitAt v.toNat i = true → (srcAt t (32 * n.val + i)).pending = false ∧
        ((srcAt s (32 * n.val + i)).pending = true → (srcAt t (32 * n.val + i)).mode ≠ .fatal)) ∧
      (∀ i, i < 32 → bitAt v.toNat i = false → i ≠ 0x12 ∨ n.val ≠ 0 → srcAt t (32 * n.val + i) = srcAt s (32 * n.val + i)) ∧
      calm t = calm s) ∧
  (∀ (s : State) (rid : BitVec 16) (w : Bool) (off : BitVec 26) (fb lb : BitVec 4) (n : BitVec 12) (v : BitVec 64), Awake s →
    reaches s .pcie = true → oneDw fb lb n = false →
    ∃ t, exec (.accessSize rid .bar0 w off fb lb n v) s = .next t ∧ counted s t 0x10 ∧
      tally t 0x30 = min (tally s 0x30 + 1) tallyMax ∧
      t.glb = (if s.glb.accValid then { s.glb with accMulti := true } else { s.glb with
        accValid := true, accMulti := false, accWrite := w, accBar4 := false, accFirstBe := fb.toNat,
        accLastBe := lb.toNat, accLength := n.toNat, accAddr := off.toNat / 4 * 4 }) ∧
      (w = false → Output.readData (List.replicate (4 * n.toNat) 0) false ∈ t.outs) ∧
      calm t = calm { s with glb := t.glb } ∧ (∀ a, a < reservedBase s → rd t a = rd s a))

/-- R211, R402, R463: a new ST 2084 peak starts the table's regeneration, whose end puts it in force; an accepted
CAL_CH_TARGET write starts that channel's ramp from its applied values and sets RESULT to 5; an accepted FTG_SYNC_CTRL write
is held for the next decision point, the mode in force unchanged. -/
def Obligations.WritesThatStartSomething : Prop :=
  (∀ (s : State) (q : Requester) (v : BitVec 32), Awake s → reaches s q = true → writeRefusal s q 0x300004 v.toNat = none →
    exec (.pqPeakWrite q v) s = .next { s with
      regs := mapSet regReset s.regs 0x300004 (BitVec.ofNat 32 ((v.toNat &&& 0xFFFF) ||| (regN s 0x300004 - (regN s 0x300004 &&& 0xFFFF)))), clr := { s.clr with pqBusy := true } }) ∧
  (∀ s : State, Live s → s.clr.pqBusy = true →
    exec .pqRegenDone s = .next { s with clr := { s.clr with pqPeak := regN s 0x300004, pqBusy := false } }) ∧
  (∀ (s : State) (q : Requester) (n : Fin 128) (v : BitVec 32), Awake s → reaches s q = true → n.val < 73 →
    writeRefusal s q (0x71004 + 32 * n.val) v.toNat = none →
    ∃ t, exec (.calTargetWrite q n v) s = .next t ∧ t = { s with cal := { s.cal with ch := t.cal.ch, past := t.cal.past } } ∧
      (∀ m, m ≠ n.val → calCh t m = calCh s m) ∧
      calCh t n.val = { calCh s n.val with
        tGain := bits v.toNat 31 16, tOff := signed 16 (bits v.toNat 15 0), fGain := (calCh s n.val).aGain,
        fOff := (calCh s n.val).aOff, step := some 0, stepAt := s.tsc, result := 5 }) ∧
  (∀ (s : State) (q : Requester) (v : BitVec 32), Awake s → reaches s q = true → writeRefusal s q 0xD00200 v.toNat = none →
    exec (.syncModeWrite q v) s = .next { s with regs := mapSet regReset s.regs 0xD00200 (BitVec.ofNat 32 ((v.toNat &&& 3) ||| (regN s 0xD00200 - (regN s 0xD00200 &&& 3)))) })

/-- R111–R113: the management port sets its pointer with a well-formed Block Write, reads and writes the register there and
moves the pointer on, past the end of BAR0 back to 0; a wrong byte count is answered with a NACK, and a wrong or missing PEC
discards the write with fault 0x16. R111, R115, R116: the status byte and the serial number, the Alert Response Address while
SMB_ALERT_N is asserted, and a clock timeout, which records fault 0x16 and changes nothing. -/
def Obligations.ManagementPortServesItsRegisters : Prop :=
  (∀ (s : State) (v : BitVec 32) (pec : Pec), Awake s → reaches s .smbus = true → pecBad s pec = false →
    v.toNat % 4 = 0 → v.toNat < 0x4000000 →
    exec (.smbSetPointer 4 v pec) s = .next { s with smbPtr := v.toNat, outs := .smbus (some []) none :: s.outs }) ∧
  (∀ (s : State) (v : BitVec 32) (pec : Pec), Awake s → reaches s .smbus = true → pecBad s pec = false →
    v.toNat % 4 ≠ 0 → s.glb.errValid = false →
    ∃ t, exec (.smbSetPointer 4 v pec) s = .next t ∧ t.smbPtr = s.smbPtr ∧ t.glb.errCode = 3 ∧ t.glb.errSmbus = true ∧
      t = { s with glb := t.glb, outs := .smbus (some []) none :: s.outs }) ∧
  (∀ (s : State) (n : Fin 256) (v : BitVec 32) (pec : Pec) (ok : Bool), Awake s → reaches s .smbus = true → n ≠ 4 →
    exec (.smbSetPointer n v pec) s = .next { s with outs := .smbus none none :: s.outs } ∧
    exec (.smbWriteRegister n v pec ok) s = .next { s with outs := .smbus none none :: s.outs }) ∧
  (∀ (s : State) (v : BitVec 32) (pec : Pec) (ok : Bool), Awake s → reaches s .smbus = true → pecBad s pec = true →
    (∃ t, exec (.smbSetPointer 4 v pec) s = .next t ∧ counted s t 0x16 ∧ calm t = calm s) ∧
    (∃ t, exec (.smbWriteRegister 4 v pec ok) s = .next t ∧ counted s t 0x16 ∧ calm t = calm s)) ∧
  (∀ s : State, Awake s → reaches s .smbus = true →
    ∃ t, exec .smbReadRegister s = .next t ∧ t.outs = answerTo s .smbus (regValue s .smbus s.smbPtr) :: s.outs ∧
      t = { s with smbPtr := (if s.smbPtr = 0x3FFFFFC then 0 else s.smbPtr + 4), shSmb := t.shSmb, outs := t.outs }) ∧
  (∀ (s : State) (v : BitVec 32) (pec : Pec) (ok : Bool) (r : RegRow), Awake s → reaches s .smbus = true →
    pecBad s pec = false → writeRefusal s .smbus s.smbPtr v.toNat = none → plainBlock (blockOf s.smbPtr) = true →
    regRow s.smbPtr = some r →
    exec (.smbWriteRegister 4 v pec ok) s = .next { s with
      regs := mapSet regReset s.regs s.smbPtr (BitVec.ofNat 32 (plainValue s s.smbPtr r v.toNat)),
      smbPtr := (if s.smbPtr = 0x3FFFFFC then 0 else s.smbPtr + 4), outs := .smbus (some []) none :: s.outs }) ∧
  (∀ s : State, Awake s → reaches s .smbus = true →
    exec .smbReadStatus s = .next { s with outs := smbAnswer s 4 false (leBytes 1 (
      b2n (s.img.cfg.isSome && s.boot.stage == 9) + 2 * b2n s.lsd.safeOn
        + 4 * b2n ((List.range 256).any (fun i => (srcAt s i).mode == .fatal && (srcAt s i).pending))
        + 8 * b2n s.glb.errValid + 16 * b2n s.hmi.linkUp)) :: s.outs }) ∧
  (∀ s : State, Awake s → reaches s .smbus = true →
    exec .smbReadSerial s = .next { s with outs := smbAnswer s 5 true (leBytes 8 s.fuse.serial.toNat) :: s.outs }) ∧
  (∀ s : State, Awake s → reaches s .smbus = true →
    exec .smbAlertResponse s = .next { s with
      outs := .smbus (if s.flt.srcs.toList.any (·.pending) then some (leBytes 1 (0x3C + s.pins.smbAddr)) else none)
        (if s.flt.srcs.toList.any (·.pending) then some (BitVec.ofNat 8 (pecOf [0x19, 0x3C + s.pins.smbAddr])) else none) :: s.outs }) ∧
  (∀ s : State, Awake s → reaches s .smbus = true →
    ∃ t, exec .smbSclTimeout s = .next t ∧ counted s t 0x16 ∧ calm t = calm s ∧ t.smbPtr = s.smbPtr)


/-! ### The host link, BAR2 and the rings (chapters 3 and 4) -/

/-- R9, R129–R131, R137, R178: a message command that its header checks refuse, an absent instance among the reasons, completes
with that status, a CMP_COMMIT with SEQ, FETCH and REASON 0 and LAYER 0xFF as its result and any other without one, and no state
changes beyond the host interface's own traffic and tallies. R482: a message command whose unit stands in a domain that is not
ON completes with BAD_STATE, or with OUT_OF_RANGE where its payload checks come first, and changes nothing. -/
def Obligations.RefusedMessagesChangeNothing : Prop :=
  (∀ (s : State) (i : Instr) (op : Nat) (c : Cmd) (sh : List (Nat × Nat)) (st : Status), Awake s →
    messageOf i = some (op, c, sh) → canFetch s = true → s.hmi.inFlight = [] → headerCheck s op c = some st →
    ∃ t, exec i s = .next t ∧ Answers s t (arriving s op c sh) st (if op = 0x0403 then commitResult 0 0 0 255 else []) ∧
      calm t = calm s ∧
      (∀ a, a < reservedBase s → rd t a = rd s a)) ∧
  (∀ (s : State) (i : Instr) (op : Nat) (c : Cmd) (sh : List (Nat × Nat)), Awake s →
    messageOf i = some (op, c, sh) → canFetch s = true → s.hmi.inFlight = [] → headerCheck s op c = none →
    (opDomains op c.unit.toNat).all (domainOn s) = false →
    ∃ t st res, exec i s = .next t ∧ (st = .badState ∨ st = .outOfRange) ∧ Answers s t (arriving s op c sh) st res ∧
      calm t = calm s ∧ (∀ a, a < reservedBase s → rd t a = rd s a))

/-- R133–R135, R138, R168: HELLO puts the highest common version in force and answers as the version that governed it; ECHO
returns its payload; MEM_FENCE_QUERY answers and changes nothing. -/
def Obligations.HelloEchoAndFenceQuery : Prop :=
  (∀ (s : State) (c : Cmd) (v : Version), Serving s 0x0001 c →
    256 * byteAt (bodyOf c) 0 + byteAt (bodyOf c) 1 ≤ 256 * byteAt (bodyOf c) 2 + byteAt (bodyOf c) 3 →
    chooseVersion (256 * byteAt (bodyOf c) 0 + byteAt (bodyOf c) 1) (256 * byteAt (bodyOf c) 2 + byteAt (bodyOf c) 3) = some v →
    ∃ t, exec (.hello c) s = .next t ∧
      Replies { s with hmi := { s.hmi with version := some v } } t (arriving s 0x0001 c []) .ok (helloResult s v)) ∧
  (∀ (s : State) (c : Cmd), Serving s 0x0002 c →
    ∃ t, exec (.echo c) s = .next t ∧ Replies s t (arriving s 0x0002 c []) .ok (bodyOf c)) ∧
  (∀ (s : State) (c : Cmd) (q : Nat × Nat × Nat × Nat), Serving s 0x0301 c →
    leAt (bodyOf c) 8 8 ≠ 0 → leAt (bodyOf c) 0 8 + leAt (bodyOf c) 8 8 ≤ usable s →
    q = fenceQuery s (leAt (bodyOf c) 0 8) (leAt (bodyOf c) 8 8) →
    ∃ t, exec (.memFenceQuery c) s = .next t ∧ Replies s t (arriving s 0x0301 c []) .ok
      (leBytes 1 q.1 ++ leBytes 1 q.2.1 ++ leBytes 2 q.2.2.1 ++ leBytes 4 0 ++ leBytes 8 q.2.2.2))

/-- R97, R98, R517, R518: a Function Level Reset returns the host block's registers and tallies and the configuration space to
their reset values, with no version negotiated and the commands in flight no longer to be answered; link-down and PERST_N do the
same, note the link down and record fault 0x14; but for the reaction that the image may give that fault, the picture and the
timing run on. R92, R94, R95, R105: leaving D0, and clearing Bus Master Enable, change that bit alone; with nothing held back so
does the return; a vector unmasked while pending is signalled then; an uncorrectable PCI Express error is reported by AER and
records fault 0x13. -/
def Obligations.FunctionResetsLinkStatesAndVectors : Prop :=
  (∀ s : State, Awake s →
    ∃ t, exec .flr s = .next t ∧ t = { s with regs := t.regs, tallies := t.tallies, hmi := t.hmi, outs := t.outs } ∧
      t.outs = (if s.hmi.enabled then [Output.ltr false] else []) ++ s.outs ∧
      t.hmi = { ({} : Hmi) with
        inFlight := s.hmi.inFlight.map (fun f => { f with mute := true }), nextId := s.hmi.nextId, linkUp := s.hmi.linkUp } ∧
      (∀ off, 0x10000 ≤ off → off < 0x20000 → reg t off = regReset off ∧ tally t off = 0) ∧
      (∀ off, off < 0x10000 ∨ 0x20000 ≤ off → reg t off = reg s off ∧ tally t off = tally s off)) ∧
  (∀ (s : State) (i : Instr), Awake s → s.hmi.linkUp = true ∨ 2 ≤ s.boot.stage → i = .linkDown ∨ i = .perstN →
    ∃ t, exec i s = .next t ∧ t.hmi.linkUp = false ∧ t.hmi.version = none ∧ t.hmi.enabled = false ∧ counted s t 0x14 ∧
      t.hmi.bar2Log2 = 28 ∧ t.hmi.bar2Addr = 0 ∧ t.hmi.msix = Vector.replicate 64 {} ∧
      t.hmi.ringErr = none ∧ (∀ f ∈ t.hmi.inFlight, f.mute = true) ∧
      PinsDown s t ∧ (∀ off, 0x10000 ≤ off → off < 0x20000 → reg t off = regReset off) ∧
      (∀ off, off < 0x10000 ∨ 0x20000 ≤ off → reg t off = reg s off) ∧
      (∀ off, 0x10000 ≤ off → off < 0x20000 → tally t off = 0) ∧
      calm t = calm { s with
        regs := t.regs, pins := t.pins, lsd := t.lsd, lpe := t.lpe, plk := t.plk, rck := t.rck, hls := t.hls } ∧
      (reactionOf s { source := 0x14 } = 0 → calm t = calm { s with regs := t.regs }) ∧
      (∀ a, a < reservedBase s → rd t a = rd s a)) ∧
  (∀ (s : State) (i : Instr), Awake s → s.hmi.linkUp = false → s.boot.stage < 2 → i = .linkDown ∨ i = .perstN →
    exec i s = .next s) ∧
  (∀ s : State, Awake s → exec (.pmStateChange false) s = .next { s with hmi := { s.hmi with d0 := false } }) ∧
  (∀ s : State, Awake s → exec (.busMasterDisable false) s = .next { s with hmi := { s.hmi with busMaster := false } }) ∧
  (∀ s : State, Awake s → s.hmi.cplQueue = [] → s.hmi.msixPending = 0 →
    exec (.pmStateChange true) s = .next { s with hmi := { s.hmi with d0 := true } } ∧
    exec (.busMasterDisable true) s = .next { s with hmi := { s.hmi with busMaster := true } }) ∧
  (∀ (s : State) (v : Fin 64), Awake s → reaches s .pcie = true → canMaster s = true →
    s.hmi.msixPending.getLsbD v.val = true →
    ∃ t, exec (.msixVectorUnmask v) s = .next t ∧ Output.msix v.val ∈ t.outs.take (t.outs.length - s.outs.length) ∧
      t.hmi.msixPending.getLsbD v.val = false ∧ (vget t.hmi.msix v.val {}).masked = false ∧
      (∀ w, w ≠ v.val → vget t.hmi.msix w {} = vget s.hmi.msix w {}) ∧ t = { s with hmi := t.hmi, outs := t.outs }) ∧
  (∀ (s : State) (e : Fin 8), Awake s →
    ∃ t, exec (.pcieUncorrectable e) s = .next t ∧ Output.aer e.val ∈ t.outs ∧ counted s t 0x13 ∧ PinsDown s t ∧
      calm t = calm { s with
        pins := t.pins, lsd := t.lsd, lpe := t.lpe, plk := t.plk, rck := t.rck, hls := t.hls })

/-- R147, R149, R165–R167: a write through BAR2 stores each enabled byte that lies in the host area unfenced, and stores no
other; one that meets a fence raises fault 0x28, and one whose fence is a buffer's in the host area is counted; of the composer
only what it remembers of host writes changes. A resize clears the base bits below the new size, and a size that the capability
does not offer changes nothing. R148, R149, R419: a read through BAR2 returns the enabled bytes of the host area and the device
regions, and changes nothing; one that finds an uncorrectable word returns zeros with the EP bit, and the error is noted in
MEM's ECC registers. The zeroing of the whole answer is the model's reading. -/
def Obligations.Bar2ReadsWritesAndResize : Prop :=
  (∀ (s : State) (rid : BitVec 16) (off : Nat) (data : List (Option Byte)) (e : DramErrs), Awake s → reaches s .pcie = true →
    off + data.length ≤ 2 ^ s.hmi.bar2Log2 → memServing s = true → mapWf dramDefault s.dram = true →
    ∃ t, exec (.bar2Write rid off data e) s = .next t ∧
      (∀ (i : Nat) (b : Byte), data[i]? = some (some b) → areaOf s (bar2Base s + off + i) = .host →
        bufFenced s (bar2Base s + off + i) = false → rd t (bar2Base s + off + i) = b) ∧
      (∀ a, a < reservedBase s → (∀ (i : Nat) (b : Byte), data[i]? = some (some b) → a = bar2Base s + off + i →
        writable s a = false) → rd t a = rd s a) ∧
      ((∃ (i : Nat) (b : Byte), data[i]? = some (some b) ∧ fencedByte s (bar2Base s + off + i) = true) →
        (srcAt t 0x28).pending = true) ∧
      ((∃ (i : Nat) (b : Byte), data[i]? = some (some b) ∧ hostFenced s (bar2Base s + off + i) = true) →
        tally t 0x1F0010 = min (tally s 0x1F0010 + 1) tallyMax) ∧
      (∀ off, off ≠ 0x1F0010 → off ≠ 0x1F0014 → off < 0x100000 ∨ 0x200000 ≤ off → unitTally off = true →
        tally t off = tally s off) ∧
      PinsDown s t ∧ calm t = calm { s with
        cmp := { s.cmp with writes := t.cmp.writes, pass := t.cmp.pass },
        mem := t.mem, pins := t.pins, lsd := t.lsd, lpe := t.lpe, plk := t.plk, rck := t.rck, hls := t.hls }) ∧
  (∀ (s : State) (n : Fin 64), Awake s → reaches s .pcie = true → 28 ≤ n.val → 2 ^ n.val ≤ dramGb s * 0x40000000 →
    ∃ t, exec (.bar2Resize n) s = .next t ∧ t.hmi = { s.hmi with bar2Log2 := n.val } ∧
      bar2Base t = bar2Base s / 2 ^ n.val * 2 ^ n.val ∧ (∀ off, off ≠ 0x1F0004 → reg t off = reg s off) ∧
      t = { s with hmi := t.hmi, regs := t.regs }) ∧
  (∀ (s : State) (n : Fin 64), Awake s → reaches s .pcie = true → n.val < 28 ∨ dramGb s * 0x40000000 < 2 ^ n.val →
    exec (.bar2Resize n) s = .next s) ∧
  (∀ (s : State) (rid : BitVec 16) (off : Nat) (be : List Bool), Awake s → reaches s .pcie = true →
    off + be.length ≤ 2 ^ s.hmi.bar2Log2 → memServing s = true →
    (∀ a ∈ enabledBytes (bar2Base s + off) be, badAt s a = false ∧ areaOf s a ≠ .beyond) →
    armedUe s (bar2Base s + off) be.length = none →
    exec (.bar2Read rid off be [] []) s = .next { s with
      outs := .readData ((enabledBytes (bar2Base s + off) be).map (fun a => if readable s a then rd s a else 0)) false
        :: s.outs }) ∧
  (∀ (s : State) (rid : BitVec 16) (off : Nat) (be : List Bool) (a : Nat), Awake s → reaches s .pcie = true →
    off + be.length ≤ 2 ^ s.hmi.bar2Log2 → memServing s = true → a ∈ enabledBytes (bar2Base s + off) be →
    readable s a = true →
    ∃ t, exec (.bar2Read rid off be [a / 8] []) s = .next t ∧
      Output.readData (List.replicate (enabledBytes (bar2Base s + off) be).length 0) true ∈ t.outs ∧ t.mem.eccUe = true ∧
      (∀ a, a < reservedBase s → rd t a = rd s a))

/-- R93, R117, R135, R140, R506: setting ENABLE starts the rings at index 0 and phase 1, and requires a latency of the host;
clearing it discards the commands not fetched and the entries held, ends the negotiation, and the requirement ends; RESET does
that whatever ENABLE the same write holds, clears the ring error, and ends fault 0x11. R96, R119, R120, R124: the doorbells move
the command tail with its arrival stamp, the completion head and the event head; a value beyond its ring is a ring error;
completions that waited for room are written; the command doorbell and a heartbeat restart the host watchdog, which then fires
once. A value with a reserved bit is refused and recorded, and while the rings stand still no doorbell has an effect. -/
def Obligations.RingsRunAndDoorbellsRing : Prop :=
  (∀ (s : State) (q : Requester), Awake s → reaches s q = true → writeRefusal s q 0x10000 1 = none → s.hmi.enabled = false →
    ∃ t, exec (.hmiEnable q true) s = .next t ∧ t = { s with hmi := t.hmi, outs := .ltr true :: s.outs } ∧ t.hmi.enabled = true ∧ t.hmi.cmdHead = 0 ∧
      t.hmi.cmdTail = 0 ∧ t.hmi.cplHead = 0 ∧ t.hmi.cplTail = 0 ∧ t.hmi.evtHead = 0 ∧ t.hmi.evtTail = 0 ∧
      t.hmi.cmdPhase = true ∧ t.hmi.cplPhase = true ∧ t.hmi.evtPhase = true ∧ t.hmi.version = none ∧
      t.hmi.inFlight = s.hmi.inFlight) ∧
  (∀ (s : State) (q : Requester), Awake s → reaches s q = true → writeRefusal s q 0x10000 0 = none → s.hmi.enabled = true →
    ∃ t, exec (.hmiEnable q false) s = .next t ∧ t = { s with hmi := t.hmi, outs := .ltr false :: s.outs } ∧ t.hmi.enabled = false ∧
      t.hmi.version = none ∧ t.hmi.cplQueue = [] ∧ t.hmi.evtQueue = [] ∧ t.hmi.cmdHead = t.hmi.cmdTail) ∧
  (∀ (s : State) (q : Requester) (e : Bool), Awake s → reaches s q = true → writeRefusal s q 0x10000 (2 + b2n e) = none →
    ∃ t, exec (.hmiReset q e) s = .next t ∧ t.hmi.enabled = false ∧ t.hmi.ringErr = none ∧ t.hmi.cmdFailed = false ∧
      t.hmi.cplFailed = false ∧ t.hmi.evtFailed = false ∧ t.hmi.version = none ∧
      (∀ f ∈ t.hmi.inFlight, f.mute = true) ∧ (srcAt t 0x11).mode ≠ .fault ∧ calm t = calm s) ∧
  (∀ (s : State) (v : BitVec 32), Awake s → reaches s .pcie = true → s.hmi.enabled = true → v.toNat < 4096 →
    v.toNat < cmdSize s → v.toNat ≠ s.hmi.cmdTail →
    exec (.hmiDbCmd v) s = .next { s with hmi := { s.hmi with
      wdStart := some s.tsc, cmdTail := v.toNat, dbLog := s.hmi.dbLog ++ [(v.toNat, s.tsc)] } }) ∧
  (∀ (s : State) (v : BitVec 32), Awake s → reaches s .pcie = true → s.hmi.enabled = true → v.toNat < 4096 →
    cmdSize s ≤ v.toNat → s.hmi.cmdFailed = false →
    ∃ t, exec (.hmiDbCmd v) s = .next t ∧ t.hmi.cmdFailed = true ∧ t.hmi.ringErr.isSome = true ∧
      t.hmi.cmdTail = s.hmi.cmdTail ∧ (srcAt t 0x11).pending = true ∧ calm t = calm s) ∧
  (∀ (s : State) (v : BitVec 32), Awake s → reaches s .pcie = true → s.hmi.enabled = true → v.toNat < 4096 →
    cplSize s ≤ v.toNat → s.hmi.cplFailed = false →
    ∃ t, exec (.hmiDbCpl v) s = .next t ∧ t.hmi.cplFailed = true ∧ t.hmi.ringErr.isSome = true ∧
      t.hmi.cplHead = s.hmi.cplHead ∧ (srcAt t 0x11).pending = true ∧ calm t = calm s) ∧
  (∀ (s : State) (v : BitVec 32), Awake s → reaches s .pcie = true → s.hmi.enabled = true → v.toNat < 4096 →
    evtSize s ≤ v.toNat → s.hmi.evtFailed = false →
    ∃ t, exec (.hmiDbEvt v) s = .next t ∧ t.hmi.evtFailed = true ∧ t.hmi.ringErr.isSome = true ∧
      t.hmi.evtHead = s.hmi.evtHead ∧ (srcAt t 0x11).pending = true ∧ calm t = calm s) ∧
  (∀ (s : State) (v : BitVec 32), Awake s → reaches s .pcie = true → s.hmi.enabled = true → v.toNat < 4096 →
    v.toNat < cplSize s → s.hmi.cplQueue = [] →
    exec (.hmiDbCpl v) s = .next { s with hmi := { s.hmi with cplHead := v.toNat } }) ∧
  (∀ (s : State) (v : BitVec 32) (e : Completion), Awake s → reaches s .pcie = true → v.toNat < 4096 →
    v.toNat < cplSize s → s.hmi.cplQueue = [e] → cplWritable { s with hmi := { s.hmi with cplHead := v.toNat } } = true →
    ∃ t, exec (.hmiDbCpl v) s = .next t ∧ t.hmi.cplQueue = [] ∧ t.hmi.cplHead = v.toNat ∧
      t.hmi.cplTail = (s.hmi.cplTail + 1) % cplSize s ∧
      cplWrite s e ∈ t.outs ∧ t = { s with hmi := t.hmi, outs := t.outs }) ∧
  (∀ (s : State) (v : BitVec 32), Awake s → reaches s .pcie = true → s.hmi.enabled = true → v.toNat < 4096 →
    v.toNat < evtSize s → exec (.hmiDbEvt v) s = .next { s with hmi := { s.hmi with evtHead := v.toNat } }) ∧
  (∀ (s : State) (i : Instr) (v : BitVec 32), Awake s → reaches s .pcie = true → 4096 ≤ v.toNat →
    i = .hmiDbCmd v ∨ i = .hmiDbCpl v ∨ i = .hmiDbEvt v →
    ∃ t, exec i s = .next t ∧ t = { s with glb := t.glb } ∧ t.glb.errValid = true ∧
      (s.glb.errValid = false → t.glb.errCode = 3 ∧ t.glb.errBar4 = true)) ∧
  (∀ (s : State) (i : Instr) (v : BitVec 32), Awake s → reaches s .pcie = true → v.toNat < 4096 → s.hmi.enabled = false →
    i = .hmiDbCmd v ∨ i = .hmiDbCpl v ∨ i = .hmiDbEvt v → exec i s = .next s) ∧
  (∀ (s : State) (q : Requester) (v : BitVec 32), Awake s → reaches s q = true → writeRefusal s q 0x1005C v.toNat = none →
    exec (.hmiHeartbeat q v) s = .next { s with hmi := { s.hmi with wdStart := some s.tsc } }) ∧
  (∀ s : State, Awake s → watchdogDue s = true →
    ∃ t, exec .hostWatchdog s = .next t ∧ t.hmi.wdStart = none ∧ counted s t 0x15 ∧ PinsDown s t ∧
      calm t = calm { s with
        pins := t.pins, lsd := t.lsd, lpe := t.lpe, plk := t.plk, rck := t.rck, hls := t.hls }) ∧
  (∀ s : State, Awake s → watchdogDue s = false → exec .hostWatchdog s = .next s)

/-- R96, R118–R120: a fetched entry of the expected phase moves the head on, inverting the phase at index 0, and its command
is answered as one that stood at that head and arrived with its doorbell; an entry of the wrong phase, or one that cannot be
read, fails the command ring with fault 0x11; with no entry to fetch nothing changes. -/
def Obligations.CommandFetchRunsTheEntry : Prop :=
  (∀ (s : State) (b : List Byte) (sh : List (Nat × Nat)), Serving s 0x0002 (entryCmd b) → leAt b 0 2 = 2 →
    s.hmi.cmdHead ≠ s.hmi.cmdTail → bitAt (byteAt b 3) 0 = s.hmi.cmdPhase → s.cmp.latchWait = none → s.cmp.writes = [] →
    ∃ t, exec (.commandFetch (some b) false sh) s = .next t ∧ t.hmi.cmdHead = (s.hmi.cmdHead + 1) % cmdSize s ∧
      t.hmi.cmdPhase = (if t.hmi.cmdHead = 0 then !s.hmi.cmdPhase else s.hmi.cmdPhase) ∧
      Replies (advanceHead s) t (inFlightOf (advanceHead s) 2 (entryCmd b) (headStamp s) sh false) .ok (bodyOf (entryCmd b))) ∧
  (∀ (s : State) (e : Option (List Byte)) (cf : Bool) (sh : List (Nat × Nat)), Awake s → canFetch s = true →
    s.hmi.cmdHead ≠ s.hmi.cmdTail → s.hmi.cmdFailed = false → s.cmp.latchWait = none → s.cmp.writes = [] →
    (e = none ∨ ∃ b, e = some b ∧ bitAt (byteAt b 3) 0 ≠ s.hmi.cmdPhase) →
    ∃ t, exec (.commandFetch e cf sh) s = .next t ∧ t.hmi.cmdFailed = true ∧ t.hmi.ringErr.isSome = true ∧
      t.hmi.cmdHead = s.hmi.cmdHead ∧ (srcAt t 0x11).pending = true ∧ calm t = calm s ∧
      (∀ a, a < reservedBase s → rd t a = rd s a)) ∧
  (∀ (s : State) (e : Option (List Byte)) (cf : Bool) (sh : List (Nat × Nat)), Awake s →
    canFetch s = false ∨ s.hmi.cmdHead = s.hmi.cmdTail → s.cmp.latchWait = none → s.cmp.writes = [] →
    exec (.commandFetch e cf sh) s = .next s)

/-- R105, R118, R119, R121, R139: a queued event is written at the tail with the phase of the pass once the ring has room,
ending the overflow episode when none is left, with EVENTS_LOST ahead of those that remain queued from version 2.2; a write
that fails fails the event ring; a coalesced vector is signalled at its timeout, and not before. With none queued and no write
that fails, nothing changes. -/
def Obligations.QueuedEventsAndVectors : Prop :=
  (∀ (s : State) (e : Event) (l : List Event), Awake s → s.hmi.evtQueue = e :: l → evtWritable s = true → s.hmi.lost = 0 →
    ∃ t, exec (.eventPost false) s = .next t ∧ t.hmi.evtQueue = l ∧ t.hmi.evtTail = (s.hmi.evtTail + 1) % evtSize s ∧
      (l = [] → t.hmi.episode = false) ∧
      evtWrite s e ∈ t.outs ∧
      t = { s with hmi := t.hmi, outs := t.outs }) ∧
  (∀ (s : State), Awake s → s.hmi.evtQueue ≠ [] → evtWritable s = true → 0 < s.hmi.lost → verAtLeast s 2 2 = true →
    ∃ t, exec (.eventPost false) s = .next t ∧ t.hmi.lost = 0 ∧
      evtWrite s { code := 1, unit := 0, tsc := s.tsc, payload := leBytes 4 s.hmi.lost } ∈ t.outs ∧
      t = { s with hmi := t.hmi, outs := t.outs }) ∧
  (∀ (s : State), Awake s → s.hmi.evtQueue ≠ [] → evtWritable s = true →
    ∃ t, exec (.eventPost true) s = .next t ∧ t.hmi.evtFailed = true ∧ (srcAt t 0x11).pending = true ∧
      calm t = calm s) ∧
  (∀ s : State, Awake s → verAtLeast s 2 1 = true → canMaster s = true → coalesceDue s 0 = true →
    (vget s.hmi.msix 0 {}).masked = false →
    exec (.coalesceTimeout 0) s = .next { s with hmi := { s.hmi with cplUnsig := 0 }, outs := .msix 0 :: s.outs }) ∧
  (∀ s : State, Awake s → verAtLeast s 2 1 = true → canMaster s = true → coalesceDue s 1 = true →
    (vget s.hmi.msix 1 {}).masked = false →
    exec (.coalesceTimeout 1) s = .next { s with hmi := { s.hmi with evtUnsig := 0 }, outs := .msix 1 :: s.outs }) ∧
  (∀ (s : State) (v : Fin 2), Awake s → verAtLeast s 2 1 = false ∨ coalesceDue s v.val = false →
    exec (.coalesceTimeout v) s = .next s) ∧
  (∀ s : State, Awake s → s.hmi.evtQueue = [] → exec (.eventPost false) s = .next s)


/-! ### Images, the journal and activation (chapter 2) -/

/-- R72, R78, R88: IMG_STAGE of bytes in the host area answers with the outcome of its checks; where they pass, the bytes
stand in the slot that STAGED takes and its flash partition is empty until the mirror ends; where they fail, IMG_FAIL_INFO
says where and no role changes. R419: bytes read with an uncorrectable word end it with CHECK_FAIL; that this is noted as step 5
is the model's choice (log entry 64). -/
def Obligations.StagingCopiesACheckedImage : Prop :=
  (∀ (s : State) (c : Cmd) (a n : Nat), Serving s 0x0201 c → leAt (bodyOf c) 0 8 % 64 = 0 → n = leAt (bodyOf c) 8 4 →
    leAt (bodyOf c) 0 8 + n ≤ 2 ^ s.hmi.bar2Log2 → a = bar2Base s + leAt (bodyOf c) 0 8 → s.img.confirmId = none →
    (fenceQuery s a n).1 = 0 → a + n ≤ usable s → stageSlot s < 3 → mapWf dramDefault s.dram = true →
    readHits s a n = false →
    ∃ t, exec (.imgStage c) s = .next t ∧ calm t = calm { s with img := t.img } ∧
      (∀ x, x < reservedBase s → rd t x = rd s x) ∧
      (stageChecks s (fun i => rd s (a + i)) (some n) = none →
        Answers s t (arriving s 0x0201 c []) .ok [] ∧
        t.img.roles = { s.img.roles with staged := stageSlot s } ∧ t.img.mirroring = true ∧ t.img.mirrorDone = false ∧
        (∀ i, i < n → rd t (slotDram s (stageSlot s) + i) = rd s (a + i)) ∧ vget t.img.flash (stageSlot s) [] = [] ∧
        t.img.lastResult = 0 ∧ t.img.state = s.img.state) ∧
      (∀ f, stageChecks s (fun i => rd s (a + i)) (some n) = some f →
        Answers s t (arriving s 0x0201 c []) f.code [] ∧
        t.img = { s.img with
          lastResult := f.code.code, failStep := f.step, failCode := f.code.code, failSection := f.section_ })) ∧
  (∀ (s : State) (c : Cmd) (a n : Nat), Serving s 0x0201 c → leAt (bodyOf c) 0 8 % 64 = 0 → n = leAt (bodyOf c) 8 4 →
    leAt (bodyOf c) 0 8 + n ≤ 2 ^ s.hmi.bar2Log2 → a = bar2Base s + leAt (bodyOf c) 0 8 → s.img.confirmId = none →
    (fenceQuery s a n).1 = 0 → a + n ≤ usable s → readHits s a n = true →
    ∃ t, exec (.imgStage c) s = .next t ∧ Answers s t (arriving s 0x0201 c []) .checkFail [] ∧
      t.img = { s.img with lastResult := 11, failStep := 5, failCode := 11, failSection := 0 } ∧
      t.mem.eccUe = true ∧ (∀ x, x < reservedBase s → rd t x = rd s x))

/-- R72, R73, R76, R78: IMG_ACTIVATE completes with BUSY while the staged image's mirror is incomplete; with the mirror in
flash it runs every check, and enters VERIFIED with its record on its way, or answers with the check that failed. R419: a slot
read with an uncorrectable word ends it with CHECK_FAIL; that this is noted as step 5 is the model's choice (log entry 64). -/
def Obligations.ActivationBeginsWithEveryCheck : Prop :=
  (∀ (s : State) (c : Cmd), Serving s 0x0202 c → leAt (bodyOf c) 0 4 = 0 ∨ (1000 ≤ leAt (bodyOf c) 0 4 ∧ leAt (bodyOf c) 0 4 ≤ 600000) →
    s.img.confirmId = none → s.img.roles.staged < 3 → s.img.mirrorDone = false →
    ∃ t, exec (.imgActivate c) s = .next t ∧
      Replies { s with img := { s.img with lastResult := 5 } } t (arriving s 0x0202 c []) .busy []) ∧
  (∀ (s : State) (c : Cmd), Serving s 0x0202 c → leAt (bodyOf c) 0 4 = 0 ∨ (1000 ≤ leAt (bodyOf c) 0 4 ∧ leAt (bodyOf c) 0 4 ≤ 600000) →
    s.img.confirmId = none → s.img.roles.staged < 3 → s.img.mirrorDone = true → (∀ r ∈ s.flt.log, r.cls ≠ 2) →
    slotBad s s.img.roles.staged = false →
    ∃ t, exec (.imgActivate c) s = .next t ∧ calm t = calm { s with img := t.img } ∧
      (fullChecks s (slotReader s s.img.roles.staged) = none →
        t.img.act = some { kind := .activate, cmdId := some s.hmi.nextId, cause := 0 } ∧ t.img.state = .verified ∧
        t.img.seq = s.img.seq + 1 ∧ t.img.roles = s.img.roles ∧ t.img.appends.length = s.img.appends.length + 1 ∧
        t.img.trialMs = (if leAt (bodyOf c) 0 4 = 0 then regN s 0x20010 else leAt (bodyOf c) 0 4) ∧
        t.hmi.inFlight = [arriving s 0x0202 c []]) ∧
      (∀ f, fullChecks s (slotReader s s.img.roles.staged) = some f →
        Answers s t (arriving s 0x0202 c []) f.code [] ∧
        t.img = { s.img with
          lastResult := f.code.code, failStep := f.step, failCode := f.code.code, failSection := f.section_ })) ∧
  (∀ (s : State) (c : Cmd), Serving s 0x0202 c → leAt (bodyOf c) 0 4 = 0 ∨ (1000 ≤ leAt (bodyOf c) 0 4 ∧ leAt (bodyOf c) 0 4 ≤ 600000) →
    s.img.confirmId = none → s.img.roles.staged < 3 → s.img.mirrorDone = true → slotBad s s.img.roles.staged = true →
    ∃ t, exec (.imgActivate c) s = .next t ∧ Answers s t (arriving s 0x0202 c []) .checkFail [] ∧
      t.img = { s.img with lastResult := 11, failStep := 5, failCode := 11, failSection := 0 } ∧ t.mem.eccUe = true)

/-- R72, R75, R76: the mirror's end puts the staged image's bytes in its flash partition and writes a STAGED record; a record
that reaches flash stands in the active partition; a first failed append is retried, a second raises fault 0xC2; VERIFIED's
record in flash begins QUIESCED; an erased partition becomes the active one. -/
def Obligations.JournalRecordsReachFlash : Prop :=
  (∀ s : State, Live s → s.img.mirroring = true → s.img.roles.staged < 3 → s.img.confirmId = none →
    ∃ t, exec .mirrorDone s = .next t ∧ t.img.mirroring = false ∧ t.img.state = .staged ∧ t.img.seq = s.img.seq + 1 ∧
      vget t.img.flash s.img.roles.staged [] =
        bytesOf (slotReader s s.img.roles.staged) 0 (imgLength (slotReader s s.img.roles.staged)) ∧
      t.img.appends.length = s.img.appends.length + 1 ∧ t.img.roles = s.img.roles ∧ calm t = calm { s with img := t.img }) ∧
  (∀ (s : State) (a : Append) (l : List Append), Switching s → s.img.appends = a :: l → a.retried = false →
    exec (.journalAppendDone false) s = .next { s with img := { s.img with appends := { a with retried := true } :: l } }) ∧
  (∀ (s : State) (a : Append) (l : List Append), Live s → s.img.appends = a :: l → a.retried = true →
    a.record.state = .staged → a.record.seq = s.img.seq →
    ∃ t, exec (.journalAppendDone false) s = .next t ∧ t.img.appends = l ∧ t.img.aonRec = (a.before.map jrecBytes).getD [] ∧
      (srcAt t 0xC2).pending = true ∧ calm t = calm { s with img := t.img }) ∧
  (∀ (s : State) (a : Append) (l : List Append), Switching s → s.img.appends = a :: l → a.record.seq ≠ s.img.seq →
    a.record.state ≠ .staged → (jrnActive s).length < 767 →
    ∃ t, exec (.journalAppendDone true) s = .next t ∧ t.img.appends = l ∧ jrnActive t = jrnActive s ++ [jrecBytes a.record] ∧
      t = { s with img := t.img, outs := t.outs }) ∧
  (∀ (s : State) (a : Append) (l : List Append), Switching s → s.img.appends = a :: l → a.record.seq = s.img.seq →
    a.record.state = .verified → s.img.act.isSome = true → (jrnActive s).length < 767 →
    ∃ t, exec (.journalAppendDone true) s = .next t ∧ t.img.state = .quiesced ∧ t.img.seq = s.img.seq + 1 ∧
      jrnActive t = jrnActive s ++ [jrecBytes a.record] ∧ t.img.act = s.img.act ∧ t.img.roles = s.img.roles ∧
      calm t = calm { s with img := t.img }) ∧
  (∀ s : State, Switching s → s.img.erasing = true →
    ∃ t, exec .journalEraseDone s = .next t ∧ t.img.erasing = false ∧ jrnActive t = [] ∧
      t.img.jrnActiveB = !s.img.jrnActiveB ∧ t = { s with img := t.img })

/-- R76, R79–R81, R279, R282, R326, R388: QUIESCED's end stops FTG0, leaves no bank ARMED, and enters SWITCHED with the roles
that the activation, revert or rollback takes; the end of SWITCHED with every enabled port ACTIVE ends the load of variant 0 and
enters TRIAL for an activation, CONFIRMED for a revert or a rollback; a trial that has timed out begins its revert with fault
0xC1, and one that has not goes on. -/
def Obligations.ActivationsRunTheirCourse : Prop :=
  (∀ (s : State) (a : Activation), Switching s → s.img.act = some a → quiesceActive s = true →
    ∃ t, exec .quiescedDone s = .next t ∧ t.img.state = .switched ∧ t.img.seq = s.img.seq + 1 ∧ t.ftgOn = false ∧
      t.img.roles = (match a.kind with
        | .activate => rotate s.img.roles
        | .revert => s.img.confRoles
        | .rollback => { s.img.roles with active := s.img.roles.previous, previous := s.img.roles.active }) ∧
      (∀ b, b < 12 → (bankAt t b).mode ≠ .armed) ∧ t.img.act = some a ∧
      (∀ x, x < reservedBase s → rd t x = rd s x)) ∧
  (∀ (s : State) (a : Activation), Switching s → s.img.act = some a → s.img.state = .switched → s.img.appends = [] →
    (∀ p, p < 6 → portEnabled s p = true → (vget s.plk p {}).mode = .active) → a.kind = .activate →
    ∃ t, exec .switchedDone s = .next t ∧ t.img.state = .trial ∧ t.img.act = some a ∧ t.img.roles = s.img.roles ∧
      t.img.seq = s.img.seq + 1 ∧ tally t 0x20024 = min (tally s 0x20024 + 1) tallyMax ∧
      t.rck = (if s.rck.loading0 then { s.rck with loading0 := false, store := vset s.rck.store 0 (some 0) } else s.rck) ∧
      calm t = calm { s with img := t.img, rck := t.rck }) ∧
  (∀ (s : State) (a : Activation), Switching s → s.img.act = some a → s.img.state = .switched → s.img.appends = [] →
    (∀ p, p < 6 → portEnabled s p = true → (vget s.plk p {}).mode = .active) → a.kind ≠ .activate →
    ∃ t, exec .switchedDone s = .next t ∧ t.img.state = .confirmed ∧ t.img.confRoles = s.img.roles ∧
      t.img.roles = s.img.roles ∧ t.img.cause = (if a.kind = .revert then a.cause else 2) ∧ t.img.seq = s.img.seq + 1 ∧
      t.rck = (if s.rck.loading0 then { s.rck with loading0 := false, store := vset s.rck.store 0 (some 0) } else s.rck) ∧
      calm t = calm { s with img := t.img, rck := t.rck }) ∧
  (∀ s : State, Switching s → trialExpired s = false → exec .trialTimeout s = .next s) ∧
  (∀ s : State, Switching s → trialExpired s = true →
    ∃ t, exec .trialTimeout s = .next t ∧ t.img.state = .quiesced ∧
      t.img.act = some { kind := .revert, cmdId := none, cause := 1 } ∧ t.img.trialEnd = none ∧
      tally t 0x20028 = min (tally s 0x20028 + 1) tallyMax ∧ (srcAt t 0xC1).pending = true ∧
      calm t = calm { s with img := t.img })

/-- R68, R78, R80, R81: IMG_CONFIRM that arrives within the trial and names the running version enters CONFIRMED and waits
for its record; one that arrives later ends with TIMEOUT and changes nothing else; IMG_ROLLBACK of a CONFIRMED image enters
QUIESCED, or ends with BAD_STATE where no image is PREVIOUS, and in TRIAL begins the revert with CAUSE 2; IMG_REVOKE_KEY revokes a key that no running image needs. -/
def Obligations.ConfirmRollbackAndRevoke : Prop :=
  (∀ (s : State) (c : Cmd) (e : Nat), Switching s → canFetch s = true → s.hmi.inFlight = [] → headerCheck s 0x0203 c = none →
    s.img.state = .trial → s.img.trialEnd = some e → s.tsc < e →
    leAt (bodyOf c) 0 4 = roleVersion s s.img.roles.active →
    ∃ t, exec (.imgConfirm c) s = .next t ∧ t.img.state = .confirmed ∧ t.img.confirmId = some s.hmi.nextId ∧
      t.img.roles = { s.img.roles with staged := 3 } ∧ t.img.confRoles = t.img.roles ∧ t.img.seq = s.img.seq + 1 ∧
      t.hmi.inFlight = [arriving s 0x0203 c []] ∧ calm t = calm { s with img := t.img }) ∧
  (∀ (s : State) (c : Cmd) (e : Nat), Switching s → canFetch s = true → s.hmi.inFlight = [] → headerCheck s 0x0203 c = none →
    s.img.state = .trial → s.img.trialEnd = some e → e ≤ s.tsc →
    ∃ t, exec (.imgConfirm c) s = .next t ∧ Answers s t (arriving s 0x0203 c []) .timeout [] ∧
      calm t = calm { s with img := { s.img with lastResult := 12 } }) ∧
  (∀ (s : State) (c : Cmd), Serving s 0x0204 c → s.img.state ≠ .trial → s.img.confirmId = none → s.img.roles.previous < 3 →
    (∀ r ∈ s.flt.log, r.cls ≠ 2) →
    ∃ t, exec (.imgRollback c) s = .next t ∧ t.img.state = .quiesced ∧
      t.img.act = some { kind := .rollback, cmdId := some s.hmi.nextId, cause := 2 } ∧ t.img.roles = s.img.roles ∧
      t.img.seq = s.img.seq + 1 ∧ t.hmi.inFlight = [arriving s 0x0204 c []] ∧ calm t = calm { s with img := t.img }) ∧
  (∀ (s : State) (c : Cmd), Serving s 0x0204 c → s.img.state ≠ .trial → s.img.confirmId = none → 3 ≤ s.img.roles.previous →
    ∃ t, exec (.imgRollback c) s = .next t ∧
      Replies { s with img := { s.img with lastResult := 4 } } t (arriving s 0x0204 c []) .badState []) ∧
  (∀ (s : State) (c : Cmd), Switching s → canFetch s = true → s.hmi.inFlight = [] → headerCheck s 0x0204 c = none →
    s.img.state = .trial →
    ∃ t, exec (.imgRollback c) s = .next t ∧ t.img.state = .quiesced ∧
      t.img.act = some { kind := .revert, cmdId := some s.hmi.nextId, cause := 2 } ∧ t.img.trialEnd = none ∧
      t.img.roles = s.img.roles ∧ t.img.seq = s.img.seq + 1 ∧
      tally t 0x20028 = min (tally s 0x20028 + 1) tallyMax ∧ (srcAt t 0xC1).pending = true ∧
      calm t = calm { s with img := t.img }) ∧
  (∀ (s : State) (c : Cmd) (k : Nat), Serving s 0x0205 c → k = leAt (bodyOf c) 0 1 → k < 4 →
    (s.img.roles.active < 3 → vget s.img.slotKey s.img.roles.active 4 ≠ k) →
    (s.img.roles.previous < 3 → vget s.img.slotKey s.img.roles.previous 4 ≠ k) →
    (∃ j, j < 4 ∧ j ≠ k ∧ (vget s.fuse.keyHash j none).isSome = true ∧ s.fuse.revoked.getLsbD j = false) →
    ∃ t, exec (.imgRevokeKey c) s = .next t ∧
      Replies { s with
        img := { s.img with lastResult := 0 }, fuse := { s.fuse with revoked := s.fuse.revoked ||| (1#4 <<< k) } } t
        (arriving s 0x0205 c []) .ok [])


/-! ### Decision points, frames, genlock and stale content (chapters 1, 8 and 13) -/

/-- R33, R34, R44, R395, R396, R398, R400: at a decision point, 64 cycles before the boundary and SYNC_LEAD earlier for a
master, the device judges whether a frame will start at the boundary: the lead group's pending content with every enabled
stream of it ready, or the last segment; a slave goes by a NEW symbol instead. A master sends the symbol of what it found; a
slave counts a decision point without one, and loses lock at the second. In no other cycle is there a decision point. -/
def Obligations.DecisionPointsJudge : Prop :=
  (∀ s : State, Live s → decisionDue s = true → s.ftg.mode = 0 →
    ∃ t d, exec .decisionPoint s = .next t ∧ t.ftg = { s.ftg with decided := some d } ∧
      d.newFrame = ((groupPending s (leadGroup s) && decide (notReadyMask s &&& groupMembers s (leadGroup s) = 0))
        || decide (s.rck.k = 15)) ∧ d.notReady = notReadyMask s ∧
      t = { s with ftg := t.ftg, rck := { s.rck with condCommit := t.rck.condCommit, condBuild := t.rck.condBuild } }) ∧
  (∀ s : State, Live s → decisionDue s = true → s.ftg.mode = 1 →
    ∃ t d, exec .decisionPoint s = .next t ∧
      d.newFrame = ((groupPending s (leadGroup s) && decide (notReadyMask s &&& groupMembers s (leadGroup s) = 0))
        || decide (s.rck.k = 15)) ∧ d.notReady = notReadyMask s ∧
      t.ftg = { s.ftg with
        decided := some d, edges := s.ftg.edges ++ [(s.tsc + (if d.newFrame then 48 else 16), false)] } ∧
      t = { s with
        ftg := t.ftg, rck := { s.rck with condCommit := t.rck.condCommit, condBuild := t.rck.condBuild },
        pins := { s.pins with fsyncOut := true }, outs := .fsync (if d.newFrame then 48 else 16) :: s.outs }) ∧
  (∀ s : State, Live s → decisionDue s = true → s.ftg.mode = 2 → s.ftg.anySym = true →
    ∃ t d, exec .decisionPoint s = .next t ∧ t.ftg = { s.ftg with
        decided := some d, decidedArr := s.ftg.newArr, newArr := none, anySym := false, missRun := 0 } ∧
      d.newFrame = (s.ftg.newArr.isSome || decide (s.rck.k = 15)) ∧ d.notReady = notReadyMask s ∧
      t = { s with ftg := t.ftg, rck := { s.rck with condCommit := t.rck.condCommit, condBuild := t.rck.condBuild } }) ∧
  (∀ s : State, Live s → decisionDue s = true → s.ftg.mode = 2 → s.ftg.anySym = false →
    ∃ t, exec .decisionPoint s = .next t ∧ t.ftg.missRun = s.ftg.missRun + 1 ∧ t.ftg.decided.isSome = true ∧
      tally t 0xD00374 = min (tally s 0xD00374 + 1) tallyMax ∧
      (s.ftg.sync ≠ .locked ∨ s.ftg.missRun = 0 → t.ftg.sync = s.ftg.sync) ∧
      (s.ftg.sync = .locked → 1 ≤ s.ftg.missRun → t.ftg.sync = .searching ∧ counted s t 0x58 ∧
        tally t 0xD00378 = min (tally s 0xD00378 + 1) tallyMax)) ∧
  (∀ s : State, Live s → decisionDue s = false → exec .decisionPoint s = .next s)

/-- R32, R36, R39, R274, R276, R277, R390, R400: at the end of a segment whose decision point found a frame start, and after
segment 15, FRAME_COUNT goes up by 1, SOF is this cycle, the line counter is 0, the schedule starts at segment 0, and the frame
that ended is counted by its boundary; otherwise the next segment begins; a slave that re-aligns idles instead. Registers, the
image, power, the sensors and the memory stay. In no other cycle is there a boundary. -/
def Obligations.BoundariesStartFramesOrSegments : Prop :=
  (∀ (s : State) (d : Decision), Live s → boundaryDue s = true → s.ftg.realign = false →
    s.ftg.decided = some d → d.newFrame = true ∨ s.rck.k = 15 → s.rck.k < 16 →
    ∃ t, exec .segmentBoundary s = .next t ∧ t.frame = (s.frame + 1) % 2 ^ 48 ∧ t.ftg.sof = s.tsc ∧ t.ftg.line = 0 ∧
      t.ftg.lineAt = s.tsc ∧ t.ftg.decided = none ∧
      t.ftg.kEnd = s.rck.k ∧ t.ftg.len = (s.tsc - s.ftg.sof) % 2 ^ 32 ∧ t.rck.k = 0 ∧ t.rck.segStart = s.tsc ∧
      t.rck.running = true ∧ t.ftg.hold = none ∧ t.cmp.latchStamp = none ∧
      tally t (0x400040 + 4 * s.rck.k) = min (tally s (0x400040 + 4 * s.rck.k) + 1) tallyMax ∧
      t.regs = s.regs ∧ t.img = s.img ∧ t.thm = s.thm ∧ t.pwr = s.pwr ∧ t.boot = s.boot ∧ t.glb = s.glb ∧
      (∀ a, a < reservedBase s → rd t a = rd s a)) ∧
  (∀ (s : State) (d : Decision), Live s → boundaryDue s = true → s.ftg.realign = false →
    s.ftg.decided = some d → d.newFrame = false → s.rck.k ≠ 15 →
    ∃ t, exec .segmentBoundary s = .next t ∧ t.frame = s.frame ∧ t.ftg = { s.ftg with decided := none } ∧
      t.rck.k = s.rck.k + 1 ∧ t.rck.segStart = s.tsc ∧ PinsDown s t ∧
      (∀ i, i < 24 → (vget t.lpe.slot i {}).window = false) ∧ t.regs = s.regs ∧ t.img = s.img ∧ t.cmp = s.cmp ∧
      (∀ a, a < reservedBase s → rd t a = rd s a)) ∧
  (∀ s : State, Live s → boundaryDue s = true → s.ftg.realign = true →
    ∃ t, exec .segmentBoundary s = .next t ∧ t.ftg.idling = true ∧ t.ftg.realign = false ∧ t.frame = s.frame ∧
      t.rck.k = s.rck.k) ∧
  (∀ s : State, Live s → boundaryDue s = false → exec .segmentBoundary s = .next s)

/-- R505, R506: once each 1/24 s while FTG0 is stopped a frame start is counted: it adds to the quiet count of every source in
FAULT, and a source whose period is reached leaves it; those with a condition of their own stay. Before that time nothing
changes. R380, R388, R389, R391, R393: FTG1's SOF, in its own cycle and in no other, gives FTG1 FTG0's frame number, this stamp
and line 0, and shows the new highlight set where one waits. Which cycle that is at a start with a negative offset is the
model's choice (log entry 67). R410: when VER_STALE.MS milliseconds have passed since the last accepted commit or FTG0's start
while FTG0 runs, STALE is counted once; it is not again until a commit has ended the episode, and never with MS 0. -/
def Obligations.QuietSourcesScannerFramesAndStaleContent : Prop :=
  (∀ s : State, Live s → s.ftgOn = false → s.flt.quietFrom + quietCycles ≤ s.tsc →
    ∃ t, exec .quietFrameTick s = .next t ∧ calm t = calm s ∧ (∀ a, a < reservedBase s → rd t a = rd s a) ∧
      t.flt.quietFrom = s.flt.quietFrom + quietCycles ∧
      (∀ i, 0 < i → i < 256 → (srcAt s i).mode = .fault → exitOnly.contains i = false →
        (sourceCfg s i).2.2.1 ≤ (srcAt s i).quiet + 1 → (srcAt t i).mode = .clear) ∧
      (∀ i, 0 < i → i < 256 → (srcAt s i).mode = .fault → exitOnly.contains i = false →
        (srcAt s i).quiet + 1 < (sourceCfg s i).2.2.1 →
        (srcAt t i).mode = .fault ∧ (srcAt t i).quiet = (srcAt s i).quiet + 1) ∧
      (∀ i, i < 256 → (srcAt s i).mode ≠ .fault ∨ exitOnly.contains i = true → (srcAt t i).mode = (srcAt s i).mode) ∧
      (∀ i, (srcAt t i).pending = (srcAt s i).pending)) ∧
  (∀ s : State, Live s → s.ftgOn = true ∨ s.tsc < s.flt.quietFrom + quietCycles → exec .quietFrameTick s = .next s) ∧
  (∀ s : State, Live s → sof1Due s = true →
    ∃ t, exec .ftg1Sof s = .next t ∧ t.ftg.on1 = true ∧ t.ftg.frame1 = s.frame ∧ t.ftg.sof1 = s.tsc ∧ t.ftg.line1 = 0 ∧
      t.ftg.lineAt1 = s.tsc ∧
      t.hls.shown = (if s.hls.showNext || (sof1Early s && (s.ftg.decided.map (scannerNew s)).getD false) then !s.hls.shown
        else s.hls.shown) ∧ t.hls.showNext = false ∧
      calm t = calm { s with ftg := t.ftg, hls := t.hls } ∧ (∀ a, a < reservedBase s → rd t a = rd s a)) ∧
  (∀ s : State, Live s → sof1Due s = false → exec .ftg1Sof s = .next s) ∧
  (∀ s : State, Live s → s.ftgOn = true → s.ver.stale = false → bits (regN s 0xD80004) 15 0 ≠ 0 →
    s.ver.since + bits (regN s 0xD80004) 15 0 * msCycles ≤ s.tsc →
    ∃ t, exec .stale s = .next t ∧ t.ver = { s.ver with stale := true } ∧
      tally t 0xD80018 = min (tally s 0xD80018 + 1) tallyMax ∧ calm t = calm { s with ver := t.ver } ∧
      (∀ a, a < reservedBase s → rd t a = rd s a)) ∧
  (∀ s : State, Live s → s.ftgOn = false ∨ s.ver.stale = true ∨ bits (regN s 0xD80004) 15 0 = 0 ∨
    s.tsc < s.ver.since + bits (regN s 0xD80004) 15 0 * msCycles →
    exec .stale s = .next s)

/-- R395, R397, R399–R401, R427: a high run on FSYNC_IN is timed from its first cycle, its edges are relayed by a slave 4
cycles later, and it is read by its length: outside 8–63 cycles it is counted with fault 0x59, from 32 it is NEW, and outside
mode SLAVE it has no other effect; a hold stops segment time, which its end, after the hold's length and not before, takes up
again with the lines; a NEW in SEARCHING makes the running segment the last, and the next sets the end of the idle, which locks
the slave with a frame start in its cycle. -/
def Obligations.SymbolsAndHolds : Prop :=
  (∀ s : State, Live s → s.ftg.mode ≠ 2 → exec .symbolArrival s = .next { s with
    ftg := { s.ftg with arrival := some s.tsc }, pins := { s.pins with fsyncIn := true } }) ∧
  (∀ s : State, Live s → s.ftg.mode = 2 → exec .symbolArrival s = .next { s with
    ftg := { s.ftg with arrival := some s.tsc, edges := s.ftg.edges ++ [(s.tsc + 4, true)] },
    pins := { s.pins with fsyncIn := true } }) ∧
  (∀ s : State, Live s → s.ftg.arrival = none → exec .symbolDecoded s = .next s) ∧
  (∀ (s : State) (a : Nat), Live s → s.ftg.arrival = some a → s.tsc - a < 8 ∨ 63 < s.tsc - a →
    ∃ t, exec .symbolDecoded s = .next t ∧ t.ftg = { s.ftg with
        arrival := none, edges := if s.ftg.mode = 2 then s.ftg.edges ++ [(s.tsc + 4, false)] else s.ftg.edges } ∧
      counted s t 0x59 ∧
      tally t 0xD00370 = min (tally s 0xD00370 + 1) tallyMax ∧
      calm t = calm { s with ftg := t.ftg, pins := { s.pins with fsyncIn := false } }) ∧
  (∀ (s : State) (a : Nat), Live s → s.ftg.arrival = some a → 8 ≤ s.tsc - a → s.tsc - a ≤ 63 → s.ftg.mode ≠ 2 →
    exec .symbolDecoded s = .next { s with
      ftg := { s.ftg with arrival := none }, pins := { s.pins with fsyncIn := false } }) ∧
  (∀ (s : State) (a : Nat), Live s → s.ftg.arrival = some a → 8 ≤ s.tsc - a → s.tsc - a ≤ 63 → s.ftg.mode = 2 →
    s.ftgOn = true → s.ftg.sync ≠ .searching →
    exec .symbolDecoded s = .next { s with
      ftg := { s.ftg with
        arrival := none, anySym := true, newArr := if 32 ≤ s.tsc - a then some a else s.ftg.newArr,
        edges := s.ftg.edges ++ [(s.tsc + 4, false)] },
      pins := { s.pins with fsyncIn := false } }) ∧
  (∀ (s : State) (a : Nat), Live s → s.ftg.arrival = some a → 32 ≤ s.tsc - a → s.tsc - a ≤ 63 → s.ftg.mode = 2 →
    s.ftgOn = true → s.ftg.sync = .searching → s.ftg.idling = false → s.ftg.realign = false →
    ∃ t, exec .symbolDecoded s = .next t ∧ t.ftg.realign = true ∧ t.ftg.newArr = some a ∧ t.ftg.arrival = none ∧
      t = { s with ftg := t.ftg, pins := { s.pins with fsyncIn := false } }) ∧
  (∀ (s : State) (a : Nat), Live s → s.ftg.arrival = some a → 32 ≤ s.tsc - a → s.tsc - a ≤ 63 → s.ftg.mode = 2 →
    s.ftgOn = true → s.ftg.sync = .searching → s.ftg.idling = true ∨ s.ftg.realign = true →
    ∃ t, exec .symbolDecoded s = .next t ∧ t.ftg.target = some (symbolTarget s a).toNat ∧ t.ftg.arrival = none ∧
      t = { s with ftg := t.ftg, pins := { s.pins with fsyncIn := false } }) ∧
  (∀ (s : State) (t0 d : Nat), Live s → s.ftg.hold = some (t0, d) → t0 + d = s.tsc →
    exec .holdEnd s = .next { s with
      ftg := { s.ftg with hold := none, lineAt := s.ftg.lineAt + d, lineAt1 := s.ftg.lineAt1 + d },
      rck := { s.rck with segStart := s.rck.segStart + d },
      mem := { s.mem with trains := s.mem.trains.filter (fun r => !r.own || s.mem.ownSlots) } }) ∧
  (∀ s : State, Live s → (∀ t0 d, s.ftg.hold = some (t0, d) → t0 + d ≠ s.tsc) → exec .holdEnd s = .next s) ∧
  (∀ s : State, Live s → s.ftgOn = true → s.ftg.idling = true → s.ftg.target = some s.tsc →
    bits (regN s 0xD00200) 1 0 = s.ftg.mode →
    ∃ t, exec .realignmentFrameStart s = .next t ∧ t.ftg.sync = .locked ∧ t.ftg.idling = false ∧ t.ftg.target = none ∧
      t.frame = (s.frame + 1) % 2 ^ 48 ∧ t.ftg.sof = s.tsc ∧ t.rck.k = 0) ∧
  (∀ s : State, Live s → s.ftgOn = false ∨ s.ftg.idling = false ∨ s.ftg.target ≠ some s.tsc →
    exec .realignmentFrameStart s = .next s)


/-! ### Beads of the Reckoner (chapters 6–8, 10–12, 14) -/

/-- R263–R265, R266, R288: a bead row does nothing unless its bead stands in the store for the present and its rod has not
issued it. A corrected store error of a bead that is due is counted with fault 0x50 and changes nothing else; an uncorrectable
one raises 0x51, discards the bead and brings the safe state. R269, R288: a late bead is discarded with fault 0x52, counted, and
its target is contained for the rest of the frame: a port's blocks all go off by a RESET_BLOCK frame, a primary goes to ZERO, a
WINDOW's slots hold. The other actions only lose their effect. -/
def Obligations.BeadsDueAndLate : Prop :=
  (∀ (s : State) (i : Instr) (how : BeadCome) (b : Bead), Live s → beadOfRow i = some (how, b) → beadDue s how b = false →
    exec i s = .next s) ∧
  (∀ (s : State) (i : Instr) (b : Bead), Live s → beadOfRow i = some (.corrected, b) → beadDue s .corrected b = true →
    ∃ t, exec i s = .next t ∧ counted s t 0x50 ∧ Records s t) ∧
  (∀ (s : State) (i : Instr) (b : Bead), Live s → beadOfRow i = some (.uncorrectable, b) →
    beadDue s .uncorrectable b = true →
    ∃ t, exec i s = .next t ∧ counted s t 0x51 ∧ (srcAt t 0x51).mode = .fatal ∧ t.pins.laserEn = 0 ∧
      t.pins.hlEn = false ∧ t.rck.issued.contains (b.rod, s.tsc + leadOf b.action) = true ∧
      Reacts (noteIssue s .uncorrectable b) t) ∧
  (∀ (s : State) (i : Instr) (d : Bead), Live s → beadOfRow i = some (.late, d) → d.action = 1 ∨ d.action = 2 →
    beadDue s .late d = true → takesBeads s d.target = true → portContained s d.target = false →
    ∃ t, exec i s = .next t ∧ portContained t d.target = true ∧ (∀ b, b < 16 → (mirror t d.target b).shows = none) ∧
      Output.plkFrame d.target 5 [0, 0xFFFF] ∈ t.outs ∧ tally t 0x400088 = min (tally s 0x400088 + 1) tallyMax ∧
      counted s t 0x52 ∧ calm t = calm { noteIssue s .late d with rck := t.rck }) ∧
  (∀ (s : State) (rod : Fin 64) (tm : BitVec 32) (c : Fin 3) (l : Option (Fin 16)) (d : Bead), Live s →
    d = levelRow rod tm c l → beadDue s .late d = true → bitAt s.rck.containPrims c.val = false →
    ∃ t, exec (.level rod tm .late c l) s = .next t ∧ bitAt t.rck.containPrims c.val = true ∧
      t.lsd.level = s.lsd.level.set c.val none ∧ tally t 0x400088 = min (tally s 0x400088 + 1) tallyMax ∧ counted s t 0x52) ∧
  (∀ (s : State) (rod : Fin 64) (tm : BitVec 32) (how : BeadCome) (c : Fin 3) (l : Option (Fin 16)) (d : Bead), Live s →
    d = levelRow rod tm c l → how = .effect ∨ how = .late → beadDue s how d = true → bitAt s.rck.containPrims c.val = true →
    exec (.level rod tm how c l) s = .next (noteIssue s how d)) ∧
  (∀ (s : State) (rod : Fin 64) (tm : BitVec 32) (m : BitVec 24) (o : Bool) (d : Bead), Live s → d = windowRow rod tm m o →
    beadDue s .late d = true →
    ∃ t, exec (.window rod tm .late m o) s = .next t ∧ t.rck.containSlots = s.rck.containSlots ||| m.toNat ∧
      (∀ i, i < 24 → bitAt m.toNat i = true → slotAt t i = { slotAt s i with late := true, window := false }) ∧
      (∀ i, i < 24 → bitAt m.toNat i = false → slotAt t i = slotAt s i) ∧
      tally t 0x400088 = min (tally s 0x400088 + 1) tallyMax ∧ counted s t 0x52) ∧
  (∀ (s : State) (i : Instr) (d : Bead), Live s → beadOfRow i = some (.late, d) →
    5 ≤ d.action → d.action ≤ 8 ∨ s.hls.mode = .running → beadDue s .late d = true →
    ∃ t, exec i s = .next t ∧ tally t 0x400088 = min (tally s 0x400088 + 1) tallyMax ∧ counted s t 0x52 ∧
      calm t = calm (noteIssue s .late d))

/-- R264, R268, R270, R284, R292, R294, R296, R298, R304: LOAD_BLOCK sends the rows of its plane, from the plane store or the
cache, or zero rows for a blank one and for rows that cannot be read, with the next LOAD_SEQ; the block's memory holds the plane
once the load is complete. A row not prefetched in time raises 0x67. RESET_BLOCK shows the last complete load of the blocks it
names, or turns them off. Beads for a port that is not ACTIVE since a frame start are discarded and counted, and those for a
contained port have no effect. -/
def Obligations.PortBeadsActOnBlocks : Prop :=
  (∀ (s : State) (rod : Fin 64) (tm : BitVec 32) (p : Fin 6) (b : Fin 16) (pl : Fin 48) (ca ce : Bool) (mi : List Nat)
    (ue : Option Nat) (er : DramErrs) (d : Bead) (q : Nat) (r : PlaneRef), Live s → d = loadRow rod tm p b pl ca true →
    beadDue s .effect d = true → takesBeads s p.val = true → portContained s p.val = false →
    q = ((port s p.val).loadSeq + 1) % 8 →
    r = { plane := 0, set := b2n (bitAt s.pbu.shown p.val), cached := false, blank := true } →
    ∃ t, exec (.loadBlock rod tm .effect p b pl ca true mi ce ue er) s = .next t ∧
      Output.plkBlock p.val (blockSlots s p.val b.val q r (fun _ => []) []) ∈ t.outs ∧ (port t p.val).loadSeq = q ∧
      mirror t p.val b.val = { mirror s p.val b.val with
        memory := loadedAt (mirror s p.val b.val) s.tsc, loading := some (r, s.tsc + loadCycles s p.val) } ∧
      calm t = calm { noteIssue s .effect d with plk := t.plk, rck := t.rck }) ∧
  (∀ (s : State) (rod : Fin 64) (tm : BitVec 32) (p : Fin 6) (b : Fin 16) (pl : Fin 48) (ca ce : Bool) (mi : List Nat)
    (ue : Option Nat) (er : DramErrs) (d : Bead) (u : State) (q a w : Nat), Live s → d = loadRow rod tm p b pl ca false →
    beadDue s .effect d = true → takesBeads s p.val = true → portContained s p.val = false →
    q = ((port s p.val).loadSeq + 1) % 8 → a = planeAddr (cfg s) (b2n (bitAt s.pbu.shown p.val)) p.val b.val pl.val →
    w = planeStride (linkCfg s p.val).width →
    u = (if ca then noteIssue s .effect d else meetErrors (noteIssue s .effect d) er 8) →
    ∃ t, exec (.loadBlock rod tm .effect p b pl ca false mi ce ue er) s = .next t ∧
      tally t (portBase p.val + 0x30) = min (tally s (portBase p.val + 0x30) + 1) tallyMax ∧
      (match (if ca then liveSlot s (b2n (bitAt s.pbu.shown p.val)) p.val b.val pl.val else none) with
        | some n => Output.plkBlock p.val (blockSlots s p.val b.val q
            { plane := pl.val, set := b2n (bitAt s.pbu.shown p.val), cached := true, blank := false }
            (fun i => cacheRead s n (i * w) w) (mi ++ ue.toList)) ∈ t.outs
        | none => Output.plkBlock p.val (blockSlots s p.val b.val q
            { plane := pl.val, set := b2n (bitAt s.pbu.shown p.val), cached := false, blank := false }
            (fun i => rdBytes u (a + i * w) w) (mi ++ badRows u p.val a)) ∈ t.outs) ∧
      (mi ≠ [] → counted s t 0x67)) ∧
  (∀ (s : State) (rod : Fin 64) (tm : BitVec 32) (p : Fin 6) (b : Fin 16) (pl : Fin 48) (ca : Bool)
    (d : Bead) (sl : Option Nat) (r : PlaneRef), Live s → d = loadRow rod tm p b pl ca false →
    beadDue s .effect d = true → takesBeads s p.val = true → portContained s p.val = false →
    sl = (if ca then liveSlot s (b2n (bitAt s.pbu.shown p.val)) p.val b.val pl.val else none) →
    sl.isSome = true ∨ dramClean s = true →
    r = { plane := pl.val, set := b2n (bitAt s.pbu.shown p.val), cached := sl.isSome, blank := false } →
    ∃ t, exec (.loadBlock rod tm .effect p b pl ca false [] false none {}) s = .next t ∧
      (port t p.val).loadSeq = ((port s p.val).loadSeq + 1) % 8 ∧
      mirror t p.val b.val = { mirror s p.val b.val with
        memory := loadedAt (mirror s p.val b.val) s.tsc, loading := some (r, s.tsc + loadCycles s p.val) } ∧
      (∀ q x, q < 6 → x < 16 → q ≠ p.val ∨ x ≠ b.val → mirror t q x = mirror s q x) ∧
      calm t = calm { noteIssue s .effect d with plk := t.plk, rck := t.rck }) ∧
  (∀ (s : State) (rod : Fin 64) (tm : BitVec 32) (p : Fin 6) (sh dk : BitVec 16) (ab : Bool) (d : Bead), Live s →
    d = resetRow rod tm p sh dk → beadDue s .effect d = true → takesBeads s p.val = true → portContained s p.val = false →
    ∃ t, exec (.resetBlock rod tm .effect p sh dk ab) s = .next t ∧ Output.plkFrame p.val 5 [sh.toNat, dk.toNat] ∈ t.outs ∧
      tally t (portBase p.val + 0x34) = min (tally s (portBase p.val + 0x34) + 1) tallyMax ∧
      tally t (portBase p.val + 0x40) = (if ab then min (tally s (portBase p.val + 0x40) + 1) tallyMax
        else tally s (portBase p.val + 0x40)) ∧
      (∀ b, b < 16 → mirror t p.val b = { mirror s p.val b with
        shows := if bitAt sh.toNat b then loadedAt (mirror s p.val b) s.tsc
          else if bitAt dk.toNat b then none else (mirror s p.val b).shows }) ∧
      (∀ q, q < 6 → q ≠ p.val → ∀ b, mirror t q b = mirror s q b) ∧
      calm t = calm { noteIssue s .effect d with rck := t.rck }) ∧
  (∀ (s : State) (i : Instr) (how : BeadCome) (d : Bead), Live s → beadOfRow i = some (how, d) →
    how = .effect ∨ how = .late → d.action = 1 ∨ d.action = 2 → beadDue s how d = true → takesBeads s d.target = false →
    ∃ t, exec i s = .next t ∧ tally t 0x400084 = min (tally s 0x400084 + 1) tallyMax ∧
      calm t = calm (noteIssue s how d)) ∧
  (∀ (s : State) (i : Instr) (how : BeadCome) (d : Bead), Live s → beadOfRow i = some (how, d) →
    how = .effect ∨ how = .late → d.action = 1 ∨ d.action = 2 → beadDue s how d = true → takesBeads s d.target = true →
    portContained s d.target = true → exec i s = .next (noteIssue s how d))

/-- R232, R264, R268, R326, R328, R349, R377, R397, R425, R429: LEVEL puts its level in force on its primary, and an enabled
bank of it that stays ARMED carries the applied code; WINDOW opens or closes the slots it names; DIAG_PULSE and CAL_PAIR light
banks that are ARMED and schedule the steps of their pulses; a DRAM slot bead starts its train of refreshes or its pause;
DARK_SPAN starts the hold of the base segment; SCAN_LINE sets the busy span, and is discarded unless the scanner runs.
R232–R234: once the pulses of its pair have ended, the correction of a level pair moves the code of the pair's upper level on
every enabled bank whose reading is out by more than 1/1,024, by at most 16 and within its range, and goes on to the next pair;
before that it does nothing. -/
def Obligations.OtherBeadsAndLevelPairs : Prop :=
  (∀ (s : State) (rod : Fin 64) (tm : BitVec 32) (c : Fin 3) (l : Option (Fin 16)) (d : Bead), Live s →
    d = levelRow rod tm c l → beadDue s .effect d = true → bitAt s.rck.containPrims c.val = false →
    ∃ t, exec (.level rod tm .effect c l) s = .next t ∧ t.lsd.level = s.lsd.level.set c.val (l.map (·.val)) ∧ PinsDown s t ∧
      (∀ b, b < 12 → bankEnabled s b = true → (bankAt s b).prim = c.val → c.val < s.lsd.level.length →
        (bankAt s b).pulse = none → (bankAt t b).mode = .armed →
        (bankAt t b).code = (match l with | none => 0 | some x => (appliedCode s b x.val (bankTrim s b)).1)) ∧
      (∀ b, b < 12 → bankEnabled s b = false ∨ (bankAt s b).prim ≠ c.val → bankAt t b = bankAt s b) ∧
      calm t = calm { noteIssue s .effect d with lsd := t.lsd, lpe := t.lpe, pins := t.pins }) ∧
  (∀ (s : State) (rod : Fin 64) (tm : BitVec 32) (m : BitVec 24) (o : Bool) (d : Bead), Live s → d = windowRow rod tm m o →
    beadDue s .effect d = true →
    ∃ t, exec (.window rod tm .effect m o) s = .next t ∧
      (∀ i, i < 24 → slotAt t i =
        if bitAt m.toNat i = true ∧ (slotAt s i).kind = 1 then { slotAt s i with window := o } else slotAt s i) ∧
      t = { noteIssue s .effect d with lpe := { s.lpe with slot := t.lpe.slot } }) ∧
  (∀ (s : State) (rod : Fin 64) (tm : BitVec 32) (b : Fin 12) (l : Fin 16) (w : BitVec 16) (d : Bead), Live s →
    d = pulseRow rod tm b l w → beadDue s .effect d = true → (bankAt s b.val).mode ≠ .armed →
    exec (.diagPulse rod tm .effect b l w) s = .next (noteIssue s .effect d)) ∧
  (∀ (s : State) (rod : Fin 64) (tm : BitVec 32) (b : Fin 12) (l : Fin 16) (w : BitVec 16) (d : Bead), Live s →
    d = pulseRow rod tm b l w → beadDue s .effect d = true → (bankAt s b.val).mode = .armed →
    ∃ t, exec (.diagPulse rod tm .effect b l w) s = .next t ∧
      (∀ x, x < 12 → x ≠ b.val → bankAt t x = bankAt s x) ∧
      ((bankAt t b.val).mode = .armed → (bankAt t b.val).pulse = some (some l.val) ∧
        (bankAt t b.val).code = (appliedCode s b.val l.val (bankTrim s b.val)).1 ∧
        t.lsd.pulses = s.lsd.pulses ++ [{ at_ := s.tsc + w.toNat, bank := b.val, what := none }]) ∧
      calm t = calm { noteIssue s .effect d with lsd := t.lsd, lpe := t.lpe, pins := t.pins }) ∧
  (∀ (s : State) (rod : Fin 64) (tm : BitVec 32) (w g : BitVec 16) (d : Bead), Live s → d = pairRow rod tm w g →
    beadDue s .effect d = true → 2 ≤ (cfg s).light.levelCount →
    ∃ t, exec (.calPair rod tm .effect w g) s = .next t ∧ t.lsd.pairNext = s.lsd.pairNext ∧
      t.lsd.pairUntil = some (s.tsc + 2 * w.toNat + g.toNat) ∧
      (∀ b, b < 12 → bankEnabled s b = true → (bankAt t b).mode = .armed →
        (bankAt t b).pulse = some (some (s.lsd.pairNext - 1)) ∧
        { at_ := s.tsc + w.toNat + g.toNat, bank := b, what := some (some s.lsd.pairNext) } ∈ t.lsd.pulses ∧
        { at_ := s.tsc + 2 * w.toNat + g.toNat, bank := b, what := none } ∈ t.lsd.pulses) ∧
      (∀ b, b < 12 → (bankAt s b).mode ≠ .armed → bankAt t b = bankAt s b) ∧
      calm t = calm { noteIssue s .effect d with lsd := t.lsd, lpe := t.lpe, pins := t.pins }) ∧
  (∀ (s : State) (rod : Fin 64) (tm : BitVec 32) (w g : BitVec 16) (d : Bead), Live s → d = pairRow rod tm w g →
    beadDue s .effect d = true → (cfg s).light.levelCount < 2 →
    exec (.calPair rod tm .effect w g) s = .next (noteIssue s .effect d)) ∧
  (∀ (s : State) (rod : Fin 64) (tm : BitVec 32) (ch pe co : BitVec 16) (d : Bead), Live s →
    d = dramRow rod tm false ch pe co → beadDue s .effect d = true →
    exec (.dramSlot rod tm .effect false ch pe co) s = .next { noteIssue s .effect d with mem := { s.mem with
      ownSlots := false
      trains := { own := false, chans := ch.toNat, time := segTime s, period := pe.toNat, count := co.toNat } ::
        s.mem.trains.filter (fun r => !r.own) } }) ∧
  (∀ (s : State) (rod : Fin 64) (tm : BitVec 32) (ch pe co : BitVec 16) (d : Bead), Live s →
    d = dramRow rod tm true ch pe co → beadDue s .effect d = true →
    ∃ t, exec (.dramSlot rod tm .effect true ch pe co) s = .next t ∧ t.mem.pause = ch.toNat ∧
      t.mem.pauseEnd = s.tsc + co.toNat ∧
      (∀ c, c < 16 → chan t c = if bitAt ch.toNat c = true ∧ (chan s c).mode = .fallback then
        { chan s c with pauses := (chan s c).pauses + 1 } else chan s c) ∧ t = { noteIssue s .effect d with mem := t.mem }) ∧
  (∀ (s : State) (rod : Fin 64) (tm le : BitVec 32) (d : Bead), Live s → d = darkRow rod tm le → beadDue s .effect d = true →
    exec (.darkSpan rod tm .effect le) s = .next (if s.rck.k = 0 ∧ 0 < s.ftg.holdNow then
      { noteIssue s .effect d with ftg := { s.ftg with hold := some (s.tsc, s.ftg.holdNow) } } else noteIssue s .effect d)) ∧
  (∀ (s : State) (rod : Fin 64) (tm pe : BitVec 32) (f n : BitVec 16) (d : Bead), Live s → d = scanRow rod tm f n pe →
    beadDue s .effect d = true → s.hls.mode = .running →
    exec (.scanLine rod tm .effect f n pe) s = .next { noteIssue s .effect d with hls := { s.hls with span := some {
      t0 := s.tsc, busyEnd := s.tsc + ceilDiv (n.toNat * pe.toNat) 65536, first := f.toNat, count := n.toNat,
      started := 0 } } }) ∧
  (∀ (s : State) (rod : Fin 64) (tm pe : BitVec 32) (how : BeadCome) (f n : BitVec 16) (d : Bead), Live s →
    d = scanRow rod tm f n pe → how = .effect ∨ how = .late → beadDue s how d = true → s.hls.mode ≠ .running →
    ∃ t, exec (.scanLine rod tm how f n pe) s = .next t ∧ tally t 0x400084 = min (tally s 0x400084 + 1) tallyMax ∧
      calm t = calm (noteIssue s how d)) ∧
  (∀ (s : State) (reads : List PairRead), Live s →
    (cfg s).light.levelCount < 2 ∨ s.lsd.pairUntil = none ∨ (∃ e, s.lsd.pairUntil = some e ∧ s.tsc < e) →
    exec (.levelPairCorrection reads) s = .next s) ∧
  (∀ (s : State) (reads : List PairRead) (e : Nat), Live s → 2 ≤ (cfg s).light.levelCount → s.lsd.pairUntil = some e →
    e ≤ s.tsc →
    ∃ t, exec (.levelPairCorrection reads) s = .next t ∧
      t.lsd.pairNext = (if s.lsd.pairNext + 1 < (cfg s).light.levelCount then s.lsd.pairNext + 1 else 1) ∧
      t.lsd.pairUntil = none ∧ t.clr.pair = s.lsd.pairNext ∧ PinsDown s t ∧
      (∀ (b : Nat) (q : PairRead) (x m h : Nat), b < 12 → bankEnabled s b = true → reads.find? (fun r => r.bank == b) = some q →
        x = pdChannel (pairInput s b) (pairRange s b s.lsd.pairNext) → m = pulseMean s x q.high →
        h = pulseMean s x q.low →
        ((2 * (h : Int) - m).natAbs * 1024 ≤ m → (bankAt t b).table = (bankAt s b).table) ∧
        (m < (2 * (h : Int) - m).natAbs * 1024 →
          (bankAt t b).table = (bankAt s b).table.set s.lsd.pairNext (correctLevel (bankAt s b) s.lsd.pairNext m h).1) ∧
        ((bankAt s b).table.getD s.lsd.pairNext 0 ≤ codeMax (bankAt s b) →
          (((correctLevel (bankAt s b) s.lsd.pairNext m h).1 : Int) - (bankAt s b).table.getD s.lsd.pairNext 0).natAbs ≤ 16 ∧
          (correctLevel (bankAt s b) s.lsd.pairNext m h).1 ≤ codeMax (bankAt s b))) ∧
      (∀ b, b < 12 → bankEnabled s b = false → (bankAt t b).table = (bankAt s b).table) ∧
      calm t = calm { s with
        lsd := t.lsd, clr := t.clr, cal := t.cal, pins := t.pins, lpe := t.lpe, plk := t.plk, rck := t.rck, hls := t.hls })

/-- R282, R283, R285, R310: a degraded variant that has loaded waits for the frame start, and lets its port wake; a load that
fails fails its port with CAUSE 18 and fault 0x53, and its selection is cancelled; the load of variant 0 fills slot 0, or raises
0x53. RCK_RESTORE selects variant 0 and stays in flight, or ends with BAD_STATE where variant 0 runs or a port stands at half
width, and with BUSY where a selection waits. -/
def Obligations.VariantsLoadAndRestore : Prop :=
  (∀ (s : State) (n : VarSel), Live s → s.rck.loading0 = false → s.rck.next = some n → n.loaded = false →
    (port s n.port).mode ≠ .parked ∨ (port s n.port).holdReady = false ∨ (port s n.port).thenTrain = true →
    exec (.variantLoadDone true) s = .next { s with rck := { s.rck with
      next := some { n with loaded := true }, store := vset s.rck.store n.slot (some n.variant) } }) ∧
  (∀ (s : State) (n : VarSel), Live s → s.rck.loading0 = false → s.rck.next = some n → n.loaded = false → n.port < 6 →
    (port s n.port).mode = .parked → (port s n.port).holdReady = true → (port s n.port).thenTrain = false →
    ∃ t, exec (.variantLoadDone true) s = .next t ∧ t.rck = { s.rck with
        next := some { n with loaded := true }, store := vset s.rck.store n.slot (some n.variant) } ∧
      Output.plkFrame n.port 0x07 [] ∈ t.outs ∧ (port t n.port).unparking = true ∧ (port t n.port).holdReady = false ∧
      (∀ q, q < 6 → q ≠ n.port → port t q = port s q) ∧ t = { s with rck := t.rck, plk := t.plk, outs := t.outs }) ∧
  (∀ (s : State) (n : VarSel), Live s → s.rck.loading0 = false → s.rck.next = some n → n.loaded = false → n.port < 6 →
    n.cause = .degraded →
    ∃ t, exec (.variantLoadDone false) s = .next t ∧ t.rck.next = none ∧ PortFailed s t n.port 18 ∧ counted s t 0x53) ∧
  (∀ s : State, Live s → s.rck.loading0 = true →
    exec (.variantLoadDone true) s = .next { s with rck := { s.rck with
      loading0 := false, store := vset s.rck.store 0 (some 0) } }) ∧
  (∀ s : State, Live s → s.rck.loading0 = true →
    ∃ t, exec (.variantLoadDone false) s = .next t ∧ counted s t 0x53 ∧
      calm t = calm { s with rck := { s.rck with loading0 := false } }) ∧
  (∀ (s : State) (ok : Bool), Live s → s.rck.loading0 = false → s.rck.next = none ∨ (∃ n, s.rck.next = some n ∧ n.loaded = true) →
    exec (.variantLoadDone ok) s = .next s) ∧
  (∀ (s : State) (c : Cmd), Serving s 0x0701 c → s.rck.variant ≠ 0 → s.rck.next = none →
    (∀ p, p < 6 → portEnabled s p = true → (port s p).mode = .failed ∨ (port s p).halfWidth = false) →
    ∃ t, exec (.rckRestore c) s = .next t ∧ Begins { s with rck := { s.rck with
      next := some { variant := 0, slot := 0, port := 255, cause := .restore, loaded := true },
      restoreId := some s.hmi.nextId } } t (arriving s 0x0701 c [])) ∧
  (∀ (s : State) (c : Cmd), Serving s 0x0701 c → s.rck.variant = 0 ∨
      (∃ p, p < 6 ∧ portEnabled s p = true ∧ (port s p).mode ≠ .failed ∧ (port s p).halfWidth = true) →
    ∃ t, exec (.rckRestore c) s = .next t ∧ Replies s t (arriving s 0x0701 c []) .badState []) ∧
  (∀ (s : State) (c : Cmd), Serving s 0x0701 c → s.rck.variant ≠ 0 → s.rck.next.isSome = true →
    (∀ p, p < 6 → portEnabled s p = true → (port s p).mode = .failed ∨ (port s p).halfWidth = false) →
    ∃ t, exec (.rckRestore c) s = .next t ∧ Replies s t (arriving s 0x0701 c []) .busy [])


/-! ### Plane Link (chapter 9) -/

/-- R301, R307–R310: a port comes up step by step. Synchronised, it sends HELLO; a HELLO_ACK that meets the image takes it to
TRAIN at its width, one whose versions do not to FAILED with cause 3, sizes with 4, times with 5; lanes all locked in order take
it to CHECK, no errors to MODE, an accepted SET_MODE to PARKED, with UNPARK sent unless the port stands at half width and waits
for its variant, and READY to ACTIVE. Other ports stay. A port that is DISABLED or FAILED takes nothing. -/
def Obligations.PortsComeUpStepByStep : Prop :=
  (∀ (s : State) (p : Fin 6), Live s → (port s p.val).mode = .sync →
    ∃ t, exec (.statusSync p) s = .next t ∧ (port t p.val).mode = .hello ∧ (port t p.val).attempts = 1 ∧
      Output.plkFrame p.val 0x01 [1, 2] ∈ t.outs ∧ OnlyPort s t p.val) ∧
  (∀ (s : State) (p : Fin 6), Live s → (port s p.val).mode ≠ .sync → exec (.statusSync p) s = .next s) ∧
  (∀ (s : State) (p : Fin 6) (v1 v2 : BitVec 8) (w h : BitVec 16) (rows up : BitVec 8) (st ve mo : BitVec 16)
    (sn : BitVec 32) (l : LinkCfg), Live s → (port s p.val).mode = .hello → l = linkCfg s p.val →
    v1.toNat ≤ l.nomVersion → l.nomVersion ≤ v2.toNat → w.toNat = l.width → h.toNat = l.height →
    rows.toNat = l.blockRows → st.toNat ≤ l.settleMaxNs → 1 ≤ up.toNat → up.toNat ≤ 100 →
    ∃ t, exec (.helloAck p v1 v2 w h rows up st ve mo sn) s = .next t ∧ (port t p.val).mode = .train ∧
      (port t p.val).version = l.nomVersion ∧ (port t p.val).settleNs = st.toNat ∧ (port t p.val).unpark10us = up.toNat ∧
      Output.plkFrame p.val 0x03 [(port t p.val).lanes, 0, (port s p.val).half] ∈ t.outs ∧ OnlyPort s t p.val) ∧
  (∀ (s : State) (p : Fin 6) (v1 v2 : BitVec 8) (w h : BitVec 16) (rows up : BitVec 8) (st ve mo : BitVec 16)
    (sn : BitVec 32), Live s → (port s p.val).mode = .hello →
    (linkCfg s p.val).nomVersion < v1.toNat ∨ v2.toNat < (linkCfg s p.val).nomVersion →
    ∃ t, exec (.helloAck p v1 v2 w h rows up st ve mo sn) s = .next t ∧ PortFailed s t p.val 3) ∧
  (∀ (s : State) (p : Fin 6) (v1 v2 : BitVec 8) (w h : BitVec 16) (rows up : BitVec 8) (st ve mo : BitVec 16)
    (sn : BitVec 32) (l : LinkCfg), Live s → (port s p.val).mode = .hello → l = linkCfg s p.val →
    v1.toNat ≤ l.nomVersion → l.nomVersion ≤ v2.toNat →
    w.toNat ≠ l.width ∨ h.toNat ≠ l.height ∨ rows.toNat ≠ l.blockRows →
    ∃ t, exec (.helloAck p v1 v2 w h rows up st ve mo sn) s = .next t ∧ PortFailed s t p.val 4) ∧
  (∀ (s : State) (p : Fin 6) (v1 v2 : BitVec 8) (w h : BitVec 16) (rows up : BitVec 8) (st ve mo : BitVec 16)
    (sn : BitVec 32) (l : LinkCfg), Live s → (port s p.val).mode = .hello → l = linkCfg s p.val →
    v1.toNat ≤ l.nomVersion → l.nomVersion ≤ v2.toNat → w.toNat = l.width → h.toNat = l.height →
    rows.toNat = l.blockRows → l.settleMaxNs < st.toNat ∨ up.toNat < 1 ∨ 100 < up.toNat →
    ∃ t, exec (.helloAck p v1 v2 w h rows up st ve mo sn) s = .next t ∧ PortFailed s t p.val 5) ∧
  (∀ (s : State) (p : Fin 6) (lanes : List (Nat × Bool × Bool)) (e : BitVec 32), Live s → (port s p.val).mode = .train →
    (∀ r, r < 16 → bitAt (laneMask (port s p.val)) r = true → lanes.getD r (0, false, false) = (r, true, false)) →
    ∃ t, exec (.trainReport p lanes e) s = .next t ∧ (port t p.val).mode = .check ∧ (port t p.val).trainTries = 0 ∧
      Output.plkFrame p.val 0x03 [lanesInUse (port s p.val), 1, (port s p.val).half] ∈ t.outs ∧ OnlyPort s t p.val) ∧
  (∀ (s : State) (p : Fin 6) (lanes : List (Nat × Bool × Bool)), Live s → (port s p.val).mode = .check →
    ∃ t, exec (.trainReport p lanes 0) s = .next t ∧ (port t p.val).mode = .mode ∧ (port t p.val).attempts = 1 ∧
      Output.plkFrame p.val 0x02 [(port s p.val).version, lanesInUse (port s p.val), (port s p.val).half] ∈ t.outs ∧
      OnlyPort s t p.val) ∧
  (∀ (s : State) (p : Fin 6), Live s → (port s p.val).mode = .mode →
    (port s p.val).halfWidth = false ∨ variantReady s p.val = true →
    ∃ t, exec (.ack p 0x02 0) s = .next t ∧ (port t p.val).mode = .parked ∧ (port t p.val).unparking = true ∧
      (port t p.val).sentAt = s.tsc ∧ Output.plkFrame p.val 0x07 [] ∈ t.outs ∧ OnlyPort s t p.val) ∧
  (∀ (s : State) (p : Fin 6), Live s → (port s p.val).mode = .mode → (port s p.val).halfWidth = true →
    variantReady s p.val = false →
    ∃ t, exec (.ack p 0x02 0) s = .next t ∧ (port t p.val).mode = .parked ∧ (port t p.val).holdReady = true ∧
      (port t p.val).unparking = (port s p.val).unparking ∧ OnlyPort s t p.val) ∧
  (∀ (s : State) (p : Fin 6), Live s → (port s p.val).mode = .parked → (port s p.val).unparking = true →
    ∃ t, exec (.ready p) s = .next t ∧ (port t p.val).mode = .active ∧ (port t p.val).unparking = false ∧
      (port t p.val).trainedOnce = true ∧ (port t p.val).retrainId = none ∧ (port t p.val).unparkId = none ∧
      (port t p.val).cause = (if (port s p.val).cause = 13 ∨ (port s p.val).cause = 19 then (port s p.val).cause else 0) ∧
      OnlyPort s t p.val) ∧
  (∀ (s : State) (i : Instr) (p : Fin 6), Live s → (port s p.val).mode = .disabled ∨ (port s p.val).mode = .failed →
    i ∈ [.statusSync p, .ready p, .syncTimeout p, .replyTimeout p, .statusLaneSilent p, .parkLate p, .statusPoll p,
      .statusFrameDiscarded p] ∨ (∃ o r, i = .ack p o r) ∨ (∃ l e, i = .trainReport p l e) ∨ (∃ l, i = .laneLost p l) ∨
      (∃ b r, i = .rowErr p b r) ∨ (∃ o, i = .frameErr p o) ∨ (∃ a f r e, i = .status p a f r e) →
    exec i s = .next s)

/-- R283, R302, R307, R312, R313, R318: a port fails when its limits pass: no synchronisation in 5 ms, four HELLOs or SET_MODEs
unanswered, a silent status lane, three STATUS missed, a park not acknowledged in 10 µs; a lost lane fails a port that may not go
on at half width, and parks one that may, whose selection takes that of a higher-numbered port made in the same cycle. Before
a limit nothing happens, and before the fourth failure a frame is repeated. Row and frame errors are counted and raise their
source. -/
def Obligations.PortLimitsFailOrPark : Prop :=
  (∀ (s : State) (p : Fin 6), Live s → (port s p.val).mode = .sync → (port s p.val).sentAt + 1250000 ≤ s.tsc →
    ∃ t, exec (.syncTimeout p) s = .next t ∧ PortFailed s t p.val 1) ∧
  (∀ (s : State) (p : Fin 6), Live s → (port s p.val).mode ≠ .sync ∨ s.tsc < (port s p.val).sentAt + 1250000 →
    exec (.syncTimeout p) s = .next s) ∧
  (∀ (s : State) (p : Fin 6), Live s → (port s p.val).mode = .hello → (port s p.val).sentAt + 2500 ≤ s.tsc →
    (port s p.val).attempts < 4 →
    exec (.replyTimeout p) s = .next { s with
      plk := vmod s.plk p.val (fun x => { x with attempts := x.attempts + 1, sentAt := s.tsc }),
      outs := .plkFrame p.val 0x01 [1, 2] :: s.outs }) ∧
  (∀ (s : State) (p : Fin 6), Live s → (port s p.val).mode = .mode → (port s p.val).sentAt + 2500 ≤ s.tsc →
    (port s p.val).attempts < 4 →
    exec (.replyTimeout p) s = .next { s with
      plk := vmod s.plk p.val (fun x => { x with attempts := x.attempts + 1, sentAt := s.tsc }),
      outs := .plkFrame p.val 0x02 (modeArgs (port s p.val)) :: s.outs }) ∧
  (∀ (s : State) (p : Fin 6), Live s → (port s p.val).mode = .hello → (port s p.val).sentAt + 2500 ≤ s.tsc →
    4 ≤ (port s p.val).attempts →
    ∃ t, exec (.replyTimeout p) s = .next t ∧ PortFailed s t p.val 2) ∧
  (∀ (s : State) (p : Fin 6), Live s → (port s p.val).mode = .mode → (port s p.val).sentAt + 2500 ≤ s.tsc →
    4 ≤ (port s p.val).attempts →
    ∃ t, exec (.replyTimeout p) s = .next t ∧ PortFailed s t p.val 9) ∧
  (∀ (s : State) (p : Fin 6), Live s → (port s p.val).mode = .active → (port s p.val).statusWait = true →
    (port s p.val).statusAt + 1250 ≤ s.tsc → 2 ≤ (port s p.val).statusMiss →
    ∃ t, exec (.replyTimeout p) s = .next t ∧ PortFailed s t p.val 14 ∧ counted s t 0x64) ∧
  (∀ (s : State) (p : Fin 6), Live s → s.tsc < (port s p.val).sentAt + replyLimit (port s p.val) →
    (port s p.val).statusWait = false ∨ s.tsc < (port s p.val).statusAt + 1250 →
    exec (.replyTimeout p) s = .next s) ∧
  (∀ (s : State) (p : Fin 6) (l : Fin 16), Live s → (port s p.val).mode = .active →
    bitAt (laneMask (port s p.val)) l.val = true → (port s p.val).halfWidth = true ∨ halfPermitted s p.val = false →
    ∃ t, exec (.laneLost p l) s = .next t ∧ PortFailed s t p.val 12 ∧ counted s t 0x60 ∧
      (port t p.val).laneLost = (port s p.val).laneLost ||| 2 ^ l.val) ∧
  (∀ (s : State) (p : Fin 6) (l : Fin 16), Live s → (port s p.val).mode = .active →
    bitAt (laneMask (port s p.val)) l.val = true → (port s p.val).halfWidth = false → halfPermitted s p.val = true →
    ∃ t, exec (.laneLost p l) s = .next t ∧ (port t p.val).mode = .parked ∧ (port t p.val).cause = 13 ∧
      (port t p.val).thenTrain = true ∧ (port t p.val).halfWidth = true ∧ (port t p.val).parkAt = some s.tsc ∧
      (port t p.val).half = (if l.val < fullLanes (port s p.val).version / 2 then 1 else 0) ∧
      (port t p.val).laneLost = (port s p.val).laneLost ||| 2 ^ l.val ∧
      counted s t 0x60 ∧ Output.plkFrame p.val 0x06 [parkStyle s p.val] ∈ t.outs ∧
      (s.rck.variant = 0 → t.rck.next = some {
        variant := (linkCfg s p.val).degradedVariant
        slot := freeStoreSlot s
        port := p.val
        cause := .degraded
        loaded := false
        at_ := s.tsc }) ∧
      (supplanted s p.val = none → OnlyPort s t p.val) ∧
      (∀ n, supplanted s p.val = some n → n.port < 6 → s.rck.variant = 0 → (port t n.port).mode = .failed ∧
        (port t n.port).cause = (if (port s n.port).cause = 13 then 12 else 11))) ∧
  (∀ (s : State) (p : Fin 6) (l : Fin 16), Live s → (port s p.val).mode = .train →
    bitAt (laneMask (port s p.val)) l.val = true → (port s p.val).trainTries = 0 →
    ∃ t, exec (.laneLost p l) s = .next t ∧ (port t p.val).mode = .train ∧ (port t p.val).trainTries = 1 ∧
      Output.plkFrame p.val 0x03 [lanesInUse (port s p.val), 0, (port s p.val).half] ∈ t.outs ∧ counted s t 0x60 ∧
      OnlyPort s t p.val) ∧
  (∀ (s : State) (p : Fin 6) (l : Fin 16), Live s → bitAt (laneMask (port s p.val)) l.val = false →
    exec (.laneLost p l) s = .next s) ∧
  (∀ (s : State) (p : Fin 6), Live s → (port s p.val).mode = .active ∨ (port s p.val).mode = .parked →
    ∃ t, exec (.statusLaneSilent p) s = .next t ∧ PortFailed s t p.val 14 ∧ counted s t 0x64) ∧
  (∀ (s : State) (p : Fin 6), Live s → (port s p.val).mode ≠ .active → (port s p.val).mode ≠ .parked →
    exec (.statusLaneSilent p) s = .next s) ∧
  (∀ (s : State) (p : Fin 6) (a : Nat), Live s → (port s p.val).mode ≠ .disabled → (port s p.val).mode ≠ .failed →
    (port s p.val).parkAt = some a → a + 2500 ≤ s.tsc →
    ∃ t, exec (.parkLate p) s = .next t ∧ (port t p.val).mode = .failed ∧ (port t p.val).cause = 20 ∧ PinsDown s t ∧
      t.pins.laserEn = 0 ∧ t.pins.hlEn = false ∧ (srcAt t 0x66).mode = .fatal ∧ counted s t 0x66 ∧ counted s t 0x61) ∧
  (∀ (s : State) (p : Fin 6), Live s →
    (port s p.val).parkAt = none ∨ (∃ a, (port s p.val).parkAt = some a ∧ s.tsc < a + 2500) →
    exec (.parkLate p) s = .next s) ∧
  (∀ (s : State) (p : Fin 6) (bl ro : BitVec 8), Live s → (port s p.val).mode ≠ .disabled → (port s p.val).mode ≠ .failed →
    ∃ t, exec (.rowErr p bl ro) s = .next t ∧ counted s t 0x62 ∧
      tally t (portBase p.val + 0x38) = min (tally s (portBase p.val + 0x38) + 1) tallyMax ∧ PinsDown s t) ∧
  (∀ (s : State) (p : Fin 6), Live s → (port s p.val).mode ≠ .disabled → (port s p.val).mode ≠ .failed →
    ∃ t, exec (.statusFrameDiscarded p) s = .next t ∧ counted s t 0x63 ∧
      tally t (portBase p.val + 0x3C) = min (tally s (portBase p.val + 0x3C) + 1) tallyMax ∧ PinsDown s t) ∧
  (∀ (s : State) (p : Fin 6), Live s → (port s p.val).mode = .hello → (port s p.val).attempts < 4 →
    ∃ t, exec (.frameErr p 0x01) s = .next t ∧ counted s t 0x63 ∧ (port t p.val).attempts = (port s p.val).attempts + 1 ∧
      tally t (portBase p.val + 0x3C) = min (tally s (portBase p.val + 0x3C) + 1) tallyMax ∧
      Output.plkFrame p.val 0x01 [1, 2] ∈ t.outs) ∧
  (∀ (s : State) (p : Fin 6) (op : BitVec 8), Live s → (port s p.val).mode = .active → op.toNat ≠ 5 → op.toNat ≠ 6 →
    ∃ t, exec (.frameErr p op) s = .next t ∧ counted s t 0x63 ∧
      tally t (portBase p.val + 0x3C) = min (tally s (portBase p.val + 0x3C) + 1) tallyMax ∧ PinsDown s t)

/-- R301, R304, R307, R310, R312, R314: PLK_RETRAIN takes a port back to SYNC, PLK_PARK parks an ACTIVE one and PLK_UNPARK wakes
one that a command or a reaction parked, once its variant is ready; PLK_READ_STATUS and the poll every STATUS_MS ask for a
STATUS, which is recorded as it comes, with fault 0x65 where its flags are not 0. Each command waits for its port; in a state
that R314 names it ends with BAD_STATE, and with OUT_OF_RANGE where a payload field is. -/
def Obligations.PortCommandsRetrainParkAndAsk : Prop :=
  (∀ (s : State) (c : Cmd) (p : Nat), Serving s 0x0801 c → p = c.unit.toNat → byteAt (bodyOf c) 0 ≤ 1 →
    leAt (bodyOf c) 1 3 = 0 → plkRefused s = false → portEnabled s p = true → (port s p).mode ≠ .disabled →
    ∃ t, exec (.plkRetrain c) s = .next t ∧ (port t p).mode = .sync ∧ (port t p).cause = 19 ∧
      (port t p).fullOnly = (byteAt (bodyOf c) 0 == 0) ∧ (port t p).retrainId = some s.hmi.nextId ∧
      t.hmi.inFlight = [arriving s 0x0801 c []] ∧ OnlyPort s t p) ∧
  (∀ (s : State) (c : Cmd) (p : Nat), Serving s 0x0802 c → p = c.unit.toNat → byteAt (bodyOf c) 0 ≤ 1 →
    leAt (bodyOf c) 1 3 = 0 → plkRefused s = false → (port s p).mode = .active →
    ∃ t, exec (.plkPark c) s = .next t ∧ (port t p).mode = .parked ∧ (port t p).cause = 17 ∧
      (port t p).parkAt = some s.tsc ∧ (port t p).parkId = some s.hmi.nextId ∧ (port t p).delivering = false ∧
      Output.plkFrame p 0x06 [byteAt (bodyOf c) 0] ∈ t.outs ∧ (∀ b, b < 16 → (mirror t p b).shows = none) ∧
      t.hmi.inFlight = [arriving s 0x0802 c []] ∧ OnlyPort s t p) ∧
  (∀ (s : State) (c : Cmd) (p : Nat), Serving s 0x0803 c → p = c.unit.toNat → plkRefused s = false →
    (port s p).mode = .parked → (port s p).cause = 16 ∨ (port s p).cause = 17 →
    (port s p).halfWidth = false ∨ variantReady s p = true →
    ∃ t, exec (.plkUnpark c) s = .next t ∧ (port t p).mode = .parked ∧ (port t p).unparking = true ∧
      (port t p).unparkId = some s.hmi.nextId ∧ Output.plkFrame p 0x07 [] ∈ t.outs ∧
      t.hmi.inFlight = [arriving s 0x0803 c []] ∧ OnlyPort s t p) ∧
  (∀ (s : State) (c : Cmd) (p : Nat), Serving s 0x0803 c → p = c.unit.toNat → plkRefused s = false →
    (port s p).mode = .parked → (port s p).cause = 16 ∨ (port s p).cause = 17 →
    (port s p).halfWidth = true → variantReady s p = false →
    ∃ t, exec (.plkUnpark c) s = .next t ∧ (port t p).mode = .parked ∧ (port t p).holdReady = true ∧
      (port t p).unparkId = some s.hmi.nextId ∧ t.hmi.inFlight = [arriving s 0x0803 c []] ∧ OnlyPort s t p) ∧
  (∀ (s : State) (c : Cmd) (p : Nat), Serving s 0x0804 c → p = c.unit.toNat → plkRefused s = false →
    (port s p).mode = .parked ∨ (port s p).mode = .active →
    ∃ t, exec (.plkReadStatus c) s = .next t ∧ (port t p).statusWait = true ∧ (port t p).statusAt = s.tsc ∧
      (port t p).statusId = some s.hmi.nextId ∧
      Output.plkFrame p 0x08 [] ∈ t.outs ∧ t.hmi.inFlight = [arriving s 0x0804 c []] ∧ OnlyPort s t p) ∧
  (∀ (s : State) (c : Cmd), Serving s 0x0801 c → byteAt (bodyOf c) 0 ≤ 1 → leAt (bodyOf c) 1 3 = 0 →
    plkRefused s = true ∨ portEnabled s c.unit.toNat = false ∨ (port s c.unit.toNat).mode = .disabled →
    ∃ t, exec (.plkRetrain c) s = .next t ∧ Replies s t (arriving s 0x0801 c []) .badState []) ∧
  (∀ (s : State) (c : Cmd), Serving s 0x0802 c → byteAt (bodyOf c) 0 ≤ 1 → leAt (bodyOf c) 1 3 = 0 →
    plkRefused s = true ∨ (port s c.unit.toNat).mode ≠ .active →
    ∃ t, exec (.plkPark c) s = .next t ∧ Replies s t (arriving s 0x0802 c []) .badState []) ∧
  (∀ (s : State) (c : Cmd), Serving s 0x0803 c →
    plkRefused s = true ∨ (port s c.unit.toNat).mode ≠ .parked ∨
      ((port s c.unit.toNat).cause ≠ 16 ∧ (port s c.unit.toNat).cause ≠ 17) →
    ∃ t, exec (.plkUnpark c) s = .next t ∧ Replies s t (arriving s 0x0803 c []) .badState []) ∧
  (∀ (s : State) (c : Cmd), Serving s 0x0804 c →
    plkRefused s = true ∨ ((port s c.unit.toNat).mode ≠ .parked ∧ (port s c.unit.toNat).mode ≠ .active) →
    ∃ t, exec (.plkReadStatus c) s = .next t ∧ Replies s t (arriving s 0x0804 c []) .badState []) ∧
  (∀ (s : State) (c : Cmd), Serving s 0x0801 c → 1 < byteAt (bodyOf c) 0 ∨ leAt (bodyOf c) 1 3 ≠ 0 →
    ∃ t, exec (.plkRetrain c) s = .next t ∧ Replies s t (arriving s 0x0801 c []) .outOfRange []) ∧
  (∀ (s : State) (c : Cmd), Serving s 0x0802 c → 1 < byteAt (bodyOf c) 0 ∨ leAt (bodyOf c) 1 3 ≠ 0 →
    ∃ t, exec (.plkPark c) s = .next t ∧ Replies s t (arriving s 0x0802 c []) .outOfRange []) ∧
  (∀ (s : State) (p : Fin 6) (st : BitVec 8) (re fe : BitVec 32), Live s → (port s p.val).mode = .active →
    ∃ t, exec (.status p st 0 re fe) s = .next t ∧ (port t p.val).stState = st.toNat ∧ (port t p.val).stFlags = 0 ∧
      (port t p.val).statusWait = false ∧ (port t p.val).statusMiss = 0 ∧ (port t p.val).statusId = none ∧
      (port t p.val).mode = .active ∧ OnlyPort s t p.val) ∧
  (∀ (s : State) (p : Fin 6) (st fl : BitVec 8) (re fe : BitVec 32), Live s → (port s p.val).mode ≠ .disabled →
    (port s p.val).mode ≠ .failed → fl ≠ 0 →
    ∃ t, exec (.status p st fl re fe) s = .next t ∧ counted s t 0x65 ∧ (port t p.val).stState = st.toNat ∧
      (port t p.val).stFlags = fl.toNat ∧ (port t p.val).statusWait = false ∧ (port t p.val).statusMiss = 0) ∧
  (∀ (s : State) (p : Fin 6), Live s → (port s p.val).mode = .active → (port s p.val).statusWait = false →
    (port s p.val).statusAt + bits (regN s (portBase p.val + 4)) 15 8 * 250000 ≤ s.tsc →
    exec (.statusPoll p) s = .next { s with
      plk := vmod s.plk p.val (fun x => { x with statusWait := true, statusAt := s.tsc }),
      outs := .plkFrame p.val 0x08 [] :: s.outs }) ∧
  (∀ (s : State) (p : Fin 6), Live s → (port s p.val).mode ≠ .active ∨ (port s p.val).statusWait = true ∨
    s.tsc < (port s p.val).statusAt + bits (regN s (portBase p.val + 4)) 15 8 * 250000 →
    exec (.statusPoll p) s = .next s)


/-! ### Light sources and the Loop Engine (chapters 10 and 11) -/

/-- R326, R330, R337, R338, R340: LSD_REARM takes the banks it names from SAFE or OPEN to ARMED with their LASER_EN high, or to
PAUSED while FTG0 is stopped, and their light starts from 0; LSD_SAFE takes every laser output low, every lit bank to SAFE, and
sends DRIVE 0 on the running links. No other bank changes its state. R338, R478: LSD_REARM completes with BAD_STATE, and changes
no bank, while LOW_CRIT of a named bank's NTC, or the die's HIGH_CRIT, is asserted, while the interlock is open or a fatal fault
is held, during QUIESCED and SWITCHED, and unless every named bank is in SAFE or OPEN. -/
def Obligations.BanksRearmAndGoSafe : Prop :=
  (∀ (s : State) (c : Cmd) (m : Nat), Serving s 0x0901 c → m = leAt (bodyOf c) 0 2 → m < 4096 → banksAbsent s m = false →
    rearmBlocked s m = false → inSwitch s = false →
    (∀ b, b < 12 → bitAt m b = true → (bankAt s b).mode = .safe ∨ (bankAt s b).mode = .opened) →
    ∃ t, exec (.lsdRearm c) s = .next t ∧ Answers s t (arriving s 0x0901 c []) .ok [] ∧
      (∀ b, b < 12 → bitAt m b = true → (bankAt t b).mode = (if s.ftgOn then .armed else .paused) ∧
        (bankAt t b).y = 0 ∧ (bankAt t b).yStart = some s.tsc) ∧
      (∀ b, b < 12 → bitAt m b = false → bankAt t b = bankAt s b) ∧
      (∀ b, b < 12 → bitAt t.pins.laserEn b = (bitAt s.pins.laserEn b || (s.ftgOn && bitAt m b))) ∧
      (anySafe t = false → t.pins.shutterOut = true) ∧
      calm t = calm { s with lsd := t.lsd, pins := t.pins, hls := t.hls, thm := t.thm }) ∧
  (∀ (s : State) (c : Cmd), Serving s 0x0902 c → byteAt (bodyOf c) 0 ≤ 1 →
    ∃ t, exec (.lsdSafe c) s = .next t ∧ Answers s t (arriving s 0x0902 c []) .ok [] ∧ t.pins.laserEn = 0 ∧
      t.pins.hlEn = false ∧ t.pins.shutterOut = (s.pins.shutterOut && !decide (byteAt (bodyOf c) 0 = 1)) ∧
      (∀ b, b < 12 → (bankAt t b).mode = (match (bankAt s b).mode with
        | .starting => .safe
        | .paused => .safe
        | .armed => .safe
        | m => m)) ∧
      (∀ b, b < 12 → (bankAt s b).linkRun = true →
        s.lsd.safeOn = false ∨ (bankAt s b).mode = .starting ∨ (bankAt s b).mode = .paused ∨ (bankAt s b).mode = .armed →
        Output.dlink b (dlinkFrame (bankAt s b).version 1 0 (driveFine s b)) ∈ t.outs) ∧
      calm t = calm { s with lsd := t.lsd, pins := t.pins, lpe := t.lpe, hls := t.hls }) ∧
  (∀ (s : State) (c : Cmd) (m : Nat), Serving s 0x0901 c → m = leAt (bodyOf c) 0 2 → m < 4096 → banksAbsent s m = false →
    (∃ b, b < 12 ∧ bitAt m b = true ∧ bitAt (vget s.thm.sensor (17 + b) {}).asserted 0 = true) ∨
      bitAt (vget s.thm.sensor 0 {}).asserted 3 = true →
    ∃ t, exec (.lsdRearm c) s = .next t ∧ Replies s t (arriving s 0x0901 c []) .badState []) ∧
  (∀ (s : State) (c : Cmd) (m : Nat), Serving s 0x0901 c → m = leAt (bodyOf c) 0 2 → m < 4096 → banksAbsent s m = false →
    interlockOpen s = true ∨ fatalHeld s = true ∨ inSwitch s = true ∨
      (∃ b, b < 12 ∧ bitAt m b = true ∧ (bankAt s b).mode ≠ .safe ∧ (bankAt s b).mode ≠ .opened) →
    ∃ t, exec (.lsdRearm c) s = .next t ∧ Replies s t (arriving s 0x0901 c []) .badState [])

/-- R324, R330, R333–R336, R340: LSD_BRIGHTNESS ramps from the level in force to its target, which it only sets during the ramp
of a thermal stop; LSD_COLOUR_LOCK waits for the next segment, or acts at once while FTG0 is stopped; a fixed
LSD_DERATE_OVERRIDE sets its primary's factor, and mode 0 frees it; LSD_LINK_RESTART and LSD_PIN_TEST start links again, the
test failing the banks it finds shorted. R333, R334: each millisecond, and no sooner, a primary's factor is the one fixed for
it, else, while the sensors of its banks read, the one its hottest bank calls for. Only the derating's own state changes, and no
bank. -/
def Obligations.LightCommandsAndDerating : Prop :=
  (∀ (s : State) (c : Cmd) (l r : Nat), Serving s 0x0903 c → l = leAt (bodyOf c) 0 2 → r = leAt (bodyOf c) 2 2 → l ≤ 4095 →
    r ≤ 10000 → inSwitch s = false → s.thm.stopAt = none →
    ∃ t, exec (.lsdBrightness c) s = .next t ∧ Replies { s with lsd := { s.lsd with
      target := l
      ramp := some {
        x0 := s.lsd.x, x1 := l, start := s.tsc
        len := if r = 0 then (cfg s).light.rampMs * msCycles else r * msCycles } } } t (arriving s 0x0903 c []) .ok []) ∧
  (∀ (s : State) (c : Cmd) (l : Nat), Serving s 0x0903 c → l = leAt (bodyOf c) 0 2 → leAt (bodyOf c) 2 2 ≤ 10000 → l ≤ 4095 →
    inSwitch s = false → s.thm.stopAt.isSome = true →
    ∃ t, exec (.lsdBrightness c) s = .next t ∧
      Replies { s with lsd := { s.lsd with target := l } } t (arriving s 0x0903 c []) .ok []) ∧
  (∀ (s : State) (c : Cmd), Switching s → canFetch s = true → s.hmi.inFlight = [] → headerCheck s 0x0903 c = none →
    (opDomains 0x0903 c.unit.toNat).all (domainOn s) = true → leAt (bodyOf c) 0 2 ≤ 4095 → leAt (bodyOf c) 2 2 ≤ 10000 →
    inSwitch s = true →
    ∃ t, exec (.lsdBrightness c) s = .next t ∧ Answers s t (arriving s 0x0903 c []) .busy [] ∧ calm t = calm s) ∧
  (∀ (s : State) (c : Cmd), Serving s 0x0905 c → leAt (bodyOf c) 0 1 ≤ 1 → s.ftgOn = true →
    ∃ t, exec (.lsdColourLock c) s = .next t ∧ Begins { s with lsd := { s.lsd with
      lockNext := some (decide (leAt (bodyOf c) 0 1 = 1)), lockIds := s.lsd.lockIds ++ [s.hmi.nextId] } } t
      (arriving s 0x0905 c [])) ∧
  (∀ (s : State) (c : Cmd), Serving s 0x0905 c → leAt (bodyOf c) 0 1 ≤ 1 → s.ftgOn = false →
    ∃ t, exec (.lsdColourLock c) s = .next t ∧ Replies { s with
      lsd := { s.lsd with lock := decide (leAt (bodyOf c) 0 1 = 1) } } t (arriving s 0x0905 c []) .ok []) ∧
  (∀ (s : State) (c : Cmd) (k f : Nat), Serving s 0x0906 c → k = c.unit.toNat → f = leAt (bodyOf c) 4 4 →
    leAt (bodyOf c) 0 1 = 1 → leAt (bodyOf c) 1 3 = 0 → f ≤ 65536 →
    ∃ t, exec (.lsdDerateOverride c) s = .next t ∧ Answers s t (arriving s 0x0906 c []) .ok [] ∧
      calm t = calm { s with lsd := { s.lsd with
        fixed := s.lsd.fixed.set k (some f), fNew := s.lsd.fNew.set k f, held := s.lsd.held.set k none,
        holdBy := t.lsd.holdBy } }) ∧
  (∀ (s : State) (c : Cmd) (k : Nat), Serving s 0x0906 c → k = c.unit.toNat → leAt (bodyOf c) 0 4 = 0 →
    leAt (bodyOf c) 4 4 = 0 →
    ∃ t, exec (.lsdDerateOverride c) s = .next t ∧ Answers s t (arriving s 0x0906 c []) .ok [] ∧
      calm t = calm { s with lsd := { s.lsd with
        fixed := s.lsd.fixed.set k none, held := s.lsd.held.set k none, holdBy := t.lsd.holdBy } }) ∧
  (∀ (s : State) (c : Cmd) (b : Nat), Serving s 0x0907 c → b = c.unit.toNat →
    (bankAt s b).mode = .linkFailed ∨ (bankAt s b).mode = .safe ∨ (bankAt s b).mode = .opened →
    ∃ t, exec (.lsdLinkRestart c) s = .next t ∧ (bankAt t b).mode = .starting ∧ (bankAt t b).linking = true ∧
      (bankAt t b).linkRun = true ∧ Output.dlink b probeFrame ∈ t.outs ∧
      t.lsd.restarts = s.lsd.restarts ++ [(b, s.hmi.nextId)] ∧ t.hmi.inFlight = [arriving s 0x0907 c []] ∧
      calm t = calm { s with lsd := t.lsd, hls := t.hls }) ∧
  (∀ (s : State) (c : Cmd) (b : Nat), Serving s 0x0907 c → b = c.unit.toNat → (bankAt s b).mode = .armed ∨
    (bankAt s b).mode = .paused ∨ (bankAt s b).mode = .starting ∨ (bankAt s b).mode = .short ∨ (bankAt s b).mode = .disabled →
    ∃ t, exec (.lsdLinkRestart c) s = .next t ∧ Replies s t (arriving s 0x0907 c []) .badState []) ∧
  (∀ (s : State) (c : Cmd) (m b : Nat), Serving s 0x0904 c → m = leAt (bodyOf c) 0 2 → m < 4096 → banksAbsent s m = false →
    (∀ x, x < 12 → bitAt m x = true → (bankAt s x).mode ≠ .armed ∧ (bankAt s x).mode ≠ .starting ∧ (bankAt s x).mode ≠ .paused) →
    bitAt m b = true → (bankAt s b).mode = .safe ∨ (bankAt s b).mode = .opened →
    ∃ t, exec (.lsdPinTest c []) s = .next t ∧ (bankAt t b).linking = true ∧ (bankAt t b).mode = (bankAt s b).mode ∧
      Output.dlink b probeFrame ∈ t.outs ∧ t.lsd.pinTest = some (s.hmi.nextId, 0) ∧
      t.hmi.inFlight = [arriving s 0x0904 c []]) ∧
  (∀ (s : State) (c : Cmd) (m b k : Nat), Serving s 0x0904 c → m = leAt (bodyOf c) 0 2 → m < 4096 → banksAbsent s m = false →
    (∀ x, x < 12 → bitAt m x = true → (bankAt s x).mode ≠ .armed ∧ (bankAt s x).mode ≠ .starting ∧ (bankAt s x).mode ≠ .paused) →
    b < 12 → bitAt m b = true → k ≤ 6 →
    ∃ t, exec (.lsdPinTest c [(b, k)]) s = .next t ∧ (bankAt t b).mode = .short ∧ (bankAt t b).linkRun = false ∧
      counted s t 0x73) ∧
  (∀ s : State, Live s → s.tsc < s.lsd.derateAt + 250000 → exec .derateUpdate s = .next s) ∧
  (∀ s : State, Live s → s.lsd.derateAt + 250000 ≤ s.tsc → s.lsd.fNew.length = 3 →
    ∃ t, exec .derateUpdate s = .next t ∧ calm t = calm { s with lsd := { s.lsd with
        failedSeen := t.lsd.failedSeen, holdBy := t.lsd.holdBy, held := t.lsd.held, fNew := t.lsd.fNew, hot := t.lsd.hot,
        tc := t.lsd.tc, derateAt := s.tsc } } ∧ (∀ a, a < reservedBase s → rd t a = rd s a) ∧
      (∀ c v, c < 3 → s.lsd.fixed.getD c none = some v → t.lsd.fNew.getD c 0 = v) ∧
      (∀ c, c < 3 → s.lsd.fixed.getD c none = none →
        (∀ b ∈ primBanks s c, (vget s.thm.sensor (17 + b) {}).failed = false) →
        t.lsd.fNew.getD c 0 = (match hotBank s (primBanks s c) with
          | some (_, d) => derateFactor s d
          | none => 65536) ∧ t.lsd.held.getD c none = none))

/-- R319–R322, R324–R326, R331, R344: a link start that finds its driver takes a STARTING bank to ARMED while FTG0 runs, else to
PAUSED, at the highest version both know; one that finds none fails the bank's link with fault 0x75, as one too old or too slow
does. A good reply is taken as the bank's measurement, and NOP follows it; one that flags a driver fault raises 0x76 and is
answered by CLEAR; a bad or missing one is counted with fault 0x74, and the fourth in a row fails the link. A bank that stays
unmeasured for 1,000 ms is UNVERIFIED, with fault 0x72. -/
def Obligations.DriverLinksStartAndAnswer : Prop :=
  (∀ (s : State) (b : Fin 12) (r : LinkFound) (i : Nat), Live s → (bankAt s b.val).linking = true →
    (bankAt s b.val).mode = .starting → i < 4 → r.phases.getD i 0 % 256 ≠ 0 → (cfg s).light.dlinkMinVer ≤ r.verMax →
    r.delay ≤ 40 → r.verMin ≤ min 2 r.verMax → 1 ≤ r.verMax → r.probe = true →
    ∃ t, exec (.linkStartDone b r) s = .next t ∧ (bankAt t b.val).mode = (if s.ftgOn then .armed else .paused) ∧
      (bankAt t b.val).linking = false ∧ (bankAt t b.val).version = min 2 r.verMax ∧ (bankAt t b.val).drvMax = r.verMax ∧
      (bankAt t b.val).drvDelay = r.delay ∧ Output.dlink b.val (dlinkFrame 1 4 (min 2 r.verMax) 0) ∈ t.outs ∧
      bitAt t.pins.laserEn b.val = (bitAt s.pins.laserEn b.val || s.ftgOn)) ∧
  (∀ (s : State) (b : Fin 12) (r : LinkFound), Live s → (bankAt s b.val).linking = true →
    (∀ i, i < 4 → r.phases.getD i 0 % 256 = 0) →
    ∃ t, exec (.linkStartDone b r) s = .next t ∧ (bankAt t b.val).mode = .linkFailed ∧ (bankAt t b.val).cause = 7 ∧
      (bankAt t b.val).linkRun = false ∧ counted s t 0x75) ∧
  (∀ (s : State) (b : Fin 12) (r : LinkFound) (i : Nat), Live s → (bankAt s b.val).linking = true → i < 4 →
    r.phases.getD i 0 % 256 ≠ 0 → r.verMax < (cfg s).light.dlinkMinVer →
    ∃ t, exec (.linkStartDone b r) s = .next t ∧ (bankAt t b.val).mode = .linkFailed ∧ (bankAt t b.val).cause = 9 ∧
      counted s t 0x75) ∧
  (∀ (s : State) (b : Fin 12) (r : LinkFound) (i : Nat), Live s → (bankAt s b.val).linking = true → i < 4 →
    r.phases.getD i 0 % 256 ≠ 0 → (cfg s).light.dlinkMinVer ≤ r.verMax → 40 < r.delay →
    ∃ t, exec (.linkStartDone b r) s = .next t ∧ (bankAt t b.val).mode = .linkFailed ∧ (bankAt t b.val).cause = 10 ∧
      counted s t 0x75) ∧
  (∀ (s : State) (b : Fin 12) (r : LinkFound), Live s → (bankAt s b.val).linking = false →
    exec (.linkStartDone b r) s = .next s) ∧
  (∀ (s : State) (b : Fin 12) (ty : BitVec 3) (da : BitVec 16) (fl : BitVec 2) (ck : BitVec 7) (v f : Nat), Live s →
    linkInUse s b.val = true → v = (bankAt s b.val).version → f = replyFrame v ty.toNat da.toNat fl.toNat ck.toNat →
    replyOk v f = true → replyType f ≤ 1 → replyFlags v f < 2 →
    ∃ t, exec (.driverReply b ty da fl ck) s = .next t ∧ (bankAt t b.val).measured = replyData v f ∧ (bankAt t b.val).errRun = 0 ∧
      (bankAt t b.val).drvFlags = replyFlags v f ∧ (bankAt t b.val).drvFault = false ∧
      (bankAt t b.val).code = (bankAt s b.val).code ∧ (∀ x, x < 12 → x ≠ b.val → bankAt t x = bankAt s x) ∧
      t = { s with lsd := { s.lsd with bank := t.lsd.bank }, outs := .dlink b.val (dlinkFrame v 0 0 0) :: s.outs }) ∧
  (∀ (s : State) (b : Fin 12) (ty : BitVec 3) (da : BitVec 16) (fl : BitVec 2) (ck : BitVec 7) (v f : Nat), Live s →
    linkInUse s b.val = true → v = (bankAt s b.val).version → f = replyFrame v ty.toNat da.toNat fl.toNat ck.toNat →
    replyOk v f = true → replyType f ≠ 7 → 2 ≤ replyFlags v f → (bankAt s b.val).drvFault = false →
    ∃ t, exec (.driverReply b ty da fl ck) s = .next t ∧ (bankAt t b.val).drvFault = true ∧ counted s t 0x76 ∧
      Output.dlink b.val (dlinkFrame v 5 0 0) ∈ t.outs ∧ PinsDown s t) ∧
  (∀ (s : State) (b : Fin 12) (ty : BitVec 3) (da : BitVec 16) (fl : BitVec 2) (ck : BitVec 7) (v f : Nat), Live s →
    linkInUse s b.val = true → v = (bankAt s b.val).version → f = replyFrame v ty.toNat da.toNat fl.toNat ck.toNat →
    replyOk v f = false ∨ replyType f = 7 → (bankAt s b.val).errRun < 3 →
    ∃ t, exec (.driverReply b ty da fl ck) s = .next t ∧ (bankAt t b.val).errRun = (bankAt s b.val).errRun + 1 ∧
      counted s t 0x74 ∧ tally t (bankBase b.val + 0x24) = min (tally s (bankBase b.val + 0x24) + 1) tallyMax ∧ PinsDown s t) ∧
  (∀ (s : State) (b : Fin 12), Live s → linkInUse s b.val = true → (bankAt s b.val).errRun < 3 →
    ∃ t, exec (.dlinkReplyMissing b) s = .next t ∧ (bankAt t b.val).errRun = (bankAt s b.val).errRun + 1 ∧ counted s t 0x74 ∧
      tally t (bankBase b.val + 0x24) = min (tally s (bankBase b.val + 0x24) + 1) tallyMax ∧ PinsDown s t) ∧
  (∀ (s : State) (b : Fin 12), Live s → linkInUse s b.val = true → 3 ≤ (bankAt s b.val).errRun →
    ∃ t, exec (.dlinkReplyMissing b) s = .next t ∧ (bankAt t b.val).mode = .linkFailed ∧ (bankAt t b.val).cause = 8 ∧
      counted s t 0x74 ∧ counted s t 0x75 ∧ PinsDown s t) ∧
  (∀ (s : State) (b : Fin 12) (ty : BitVec 3) (da : BitVec 16) (fl : BitVec 2) (ck : BitVec 7), Live s →
    linkInUse s b.val = false →
    exec (.dlinkReplyMissing b) s = .next s ∧ exec (.driverReply b ty da fl ck) s = .next s) ∧
  (∀ (s : State) (b : Fin 12), Live s → (bankAt s b.val).mode = .armed → (bankAt s b.val).unverified = false →
    (bankAt s b.val).windowAt + 250000000 ≤ s.tsc → (bankAt s b.val).code = 0 ∨ s.tsc < (bankAt s b.val).codeAt + 375 →
    ∃ t, exec (.bankUnverified b) s = .next t ∧ (bankAt t b.val).unverified = true ∧ counted s t 0x72 ∧ PinsDown s t) ∧
  (∀ (s : State) (b : Fin 12), Live s → (bankAt s b.val).mode ≠ .armed ∨ (bankAt s b.val).unverified = true ∨
    s.tsc < (bankAt s b.val).windowAt + 250000000 → exec (.bankUnverified b) s = .next s)

/-- R30, R348, R349, R351–R355, R358, R363, R365, R366: once at each TSC that is a multiple of 250, a slot that does not run clears
and follows its input; one that updates is counted, and its output is the clamped result of its compensator on the limited target and the
corrected sample, which its registers show; the oldest swap of a slot takes effect. An uncorrectable store error is fault 0x83 and
makes its slot idle, a corrected one is 0x84. LPE_SWAP and LPE_SLOT_RESET wait for the tick, or end with BAD_STATE or
OUT_OF_RANGE. -/
def Obligations.LoopTicksComputeSlots : Prop :=
  (∀ (s : State) (l : List Nat) (st : List (Nat × StoreError)), Live s → s.tsc % 250 ≠ 0 ∨ s.lpe.lastTick = some s.tsc →
    exec (.loopTick l st) s = .next s) ∧
  (∀ (s : State) (l : List Nat), Live s → s.tsc % 250 = 0 → s.lpe.lastTick ≠ some s.tsc → s.lpe.active = false →
    s.hls.mode = .disabled ∨ s.hls.mode = .parked ∨ s.hls.mode = .failed →
    (∀ b, b < 12 → (bankAt s b).mode ≠ .armed) → (∀ i, i < 24 → (slotAt s i).swaps = [] ∧ (slotAt s i).resets = []) →
    ∃ t, exec (.loopTick l []) s = .next t ∧ t = { s with
      lpe := { s.lpe with slot := t.lpe.slot, shown := t.lpe.slot, lastTick := some s.tsc }
      hls := { s.hls with force := hlsOffsets.map (regN s) }
      pins := { s.pins with slowDrv := if hasHls s && domainOn s 32 then dacCode s 68 (bits (regN s 0xC00020) 31 16)
        else s.pins.slowDrv } } ∧
      (∀ i, i < 24 → slotAt t i = if (slotAt s i).kind = 0 then slotAt s i else { clearSlot (slotAt s i) with
        idle := true
        fb := (correct s (adcChannel s (slotAt s i).input) (l.getD (slotAt s i).input 0) * 65536 : Nat) })) ∧
  (∀ (s : State) (l : List Nat) (i : Nat), Live s → s.tsc % 250 = 0 → s.lpe.lastTick ≠ some s.tsc → i < 24 →
    (slotAt s i).kind = 1 → slotIdle s (slotAt s i) = false →
    (slotAt s i).swaps = [] → (slotAt s i).resets = [] → (slotAt s i).window = true → (slotAt s i).late = false →
    (∀ j, j < 24 → j ≠ i → (slotAt s j).kind = 1 → (slotAt s j).target ≠ (slotAt s i).target) →
    ∃ t, exec (.loopTick l []) s = .next t ∧
      tally t (slotBase i + 0x2C) = min (tally s (slotBase i + 0x2C) + 1) tallyMax) ∧
  (∀ (s : State) (l : List Nat) (i : Nat) (y : Int) (x : Slot), Live s → s.tsc % 250 = 0 → s.lpe.lastTick ≠ some s.tsc →
    i < 24 → hlsSlot s 3 = some i → s.hls.mode = .starting ∨ s.hls.mode = .running → s.lpe.active = true →
    (slotAt s i).storeErr = false → (slotAt s i).swaps = [] → (slotAt s i).resets = [] →
    y = (correct s (adcChannel s (slotAt s i).input) (l.getD (slotAt s i).input 0) * 65536 : Nat) →
    x = slewStep { slotAt s i with idle := false, fb := y } (regN s (slotBase i + 0x20)) →
    ∃ t, exec (.loopTick l []) s = .next t ∧ (vget t.lpe.shown i {}).fb = y ∧ (vget t.lpe.shown i {}).r = x.r ∧
      (vget t.lpe.shown i {}).out = (clampStep x (compensate x y).1 (compensate x y).2).out ∧
      (vget t.lpe.shown i {}).eh = (clampStep x (compensate x y).1 (compensate x y).2).eh ∧
      (vget t.lpe.shown i {}).updated = true) ∧
  (∀ (s : State) (l : List Nat) (st : List (Nat × StoreError)) (i : Nat) (w : Swap) (r : List Swap), Live s →
    s.tsc % 250 = 0 → s.lpe.lastTick ≠ some s.tsc → i < 24 → (slotAt s i).swaps = w :: r →
    ∃ t, exec (.loopTick l st) s = .next t ∧ (slotAt t i).bankB = w.bankB ∧ (slotAt t i).swaps = r ∧ (slotAt t i).resets = [] ∧
      (∀ lo hi, w.limits = some (lo, hi) → (slotAt t i).outMin = lo ∧ (slotAt t i).outMax = hi) ∧
      (∀ f, s.hmi.inFlight = [f] → f.id = w.id → t.hmi.inFlight = [])) ∧
  (∀ (s : State) (l : List Nat) (i : Nat), Live s → s.tsc % 250 = 0 → s.lpe.lastTick ≠ some s.tsc → i < 24 →
    (slotAt s i).kind ≠ 0 → (slotAt s i).resets = [] →
    ∃ t, exec (.loopTick l [(i, .uncorrectable)]) s = .next t ∧ counted s t 0x83 ∧ (slotAt t i).storeErr = true ∧
      (vget t.lpe.shown i {}).idle = true ∧ (vget t.lpe.shown i {}).updated = false) ∧
  (∀ (s : State) (l : List Nat) (i : Nat), Live s → s.tsc % 250 = 0 → s.lpe.lastTick ≠ some s.tsc → i < 24 →
    (slotAt s i).kind ≠ 0 → ∃ t, exec (.loopTick l [(i, .corrected)]) s = .next t ∧ counted s t 0x84) ∧
  (∀ (s : State) (c : Cmd) (i mn mx : Nat), Serving s 0x0A01 c → i = c.unit.toNat → leAt (bodyOf c) 0 1 ≤ 1 →
    leAt (bodyOf c) 1 1 = 1 → leAt (bodyOf c) 2 2 = 0 → mn = leAt (bodyOf c) 4 4 → mx = leAt (bodyOf c) 8 4 →
    signed 32 mn < signed 32 mx → lpeRefused s i = false →
    ∃ t, exec (.lpeSwap c) s = .next t ∧ Begins { s with lpe := { s.lpe with
      slot := vmod s.lpe.slot i (fun x => { x with swaps := x.swaps ++ [{
        id := s.hmi.nextId, bankB := decide (leAt (bodyOf c) 0 1 = 1),
        limits := some (signed 32 mn, signed 32 mx) }] }) } } t (arriving s 0x0A01 c [])) ∧
  (∀ (s : State) (c : Cmd) (i : Nat), Serving s 0x0A01 c → i = c.unit.toNat → leAt (bodyOf c) 0 1 ≤ 1 →
    leAt (bodyOf c) 1 11 = 0 → lpeRefused s i = false →
    ∃ t, exec (.lpeSwap c) s = .next t ∧ Begins { s with lpe := { s.lpe with
      slot := vmod s.lpe.slot i (fun x => { x with swaps := x.swaps ++ [{
        id := s.hmi.nextId, bankB := decide (leAt (bodyOf c) 0 1 = 1), limits := none }] }) } } t
      (arriving s 0x0A01 c [])) ∧
  (∀ (s : State) (c : Cmd), Serving s 0x0A01 c → leAt (bodyOf c) 0 1 ≤ 1 → leAt (bodyOf c) 1 11 = 0 →
    lpeRefused s c.unit.toNat = true →
    ∃ t, exec (.lpeSwap c) s = .next t ∧ Replies s t (arriving s 0x0A01 c []) .badState []) ∧
  (∀ (s : State) (c : Cmd), Serving s 0x0A01 c → 1 < leAt (bodyOf c) 0 1 ∨ 1 < leAt (bodyOf c) 1 1 ∨ leAt (bodyOf c) 2 2 ≠ 0 →
    ∃ t, exec (.lpeSwap c) s = .next t ∧ Replies s t (arriving s 0x0A01 c []) .outOfRange []) ∧
  (∀ (s : State) (c : Cmd) (i : Nat), Serving s 0x0A02 c → i = c.unit.toNat → lpeRefused s i = false →
    ∃ t, exec (.lpeSlotReset c) s = .next t ∧ Begins { s with lpe := { s.lpe with
      slot := vmod s.lpe.slot i (fun x => { x with resets := x.resets ++ [s.hmi.nextId] }) } } t
      (arriving s 0x0A02 c [])) ∧
  (∀ (s : State) (c : Cmd), Serving s 0x0A02 c → lpeRefused s c.unit.toNat = true →
    ∃ t, exec (.lpeSlotReset c) s = .next t ∧ Replies s t (arriving s 0x0A02 c []) .badState [])


/-! ### Highlight Scanner (chapter 12) -/

/-- R369, R370, R372–R374, R384: HLS_START starts a PARKED or FAILED scanner while FTG0 runs, unless a park trigger came in the
same cycle, and parks it again with fault 0x92 where INC_START lies outside the image's range; HLS_PARK, no motion for two periods
and a late lock park one that runs, its highlight lasers off; a park ends in PARKED, or in FAILED when a fault began it, once the slow
axis is there or 5 ms have passed. Elsewhere these change nothing, and the commands end with BAD_STATE or OK. -/
def Obligations.ScannerStartsAndParks : Prop :=
  (∀ (s : State) (c : Cmd), Serving s 0x0B01 c → s.hls.mode = .parked ∨ s.hls.mode = .failed → s.ftgOn = true →
    s.hls.parkTrigAt ≠ some s.tsc → incOutside s (incStart s) = false →
    ∃ t, exec (.hlsStart c) s = .next t ∧ t.hls.mode = .starting ∧ t.hls.cause = 0 ∧ t.hls.locked = false ∧
      t.hls.startId = some s.hmi.nextId ∧ t.hls.nco.inc = incStart s ∧ t.hls.startedAt = s.tsc ∧
      t.hmi.inFlight = [arriving s 0x0B01 c []] ∧ calm t = calm { s with hls := t.hls, lpe := t.lpe }) ∧
  (∀ (s : State) (c : Cmd), Serving s 0x0B01 c → s.hls.mode = .parked ∨ s.hls.mode = .failed → s.ftgOn = true →
    s.hls.parkTrigAt ≠ some s.tsc → incOutside s (incStart s) = true →
    ∃ t, exec (.hlsStart c) s = .next t ∧ t.hls.mode = .parking ∧ t.hls.cause = 7 ∧ t.hls.parkFault = true ∧
      t.hls.startId = some s.hmi.nextId ∧ t.pins.hlEn = false ∧ counted s t 0x92) ∧
  (∀ (s : State) (c : Cmd), Serving s 0x0B01 c → s.ftgOn = false ∨ (s.hls.mode ≠ .parked ∧ s.hls.mode ≠ .failed) ∨
      s.hls.parkTrigAt = some s.tsc →
    ∃ t, exec (.hlsStart c) s = .next t ∧ Replies s t (arriving s 0x0B01 c []) .badState []) ∧
  (∀ (s : State) (c : Cmd), Serving s 0x0B02 c → s.hls.mode = .running ∨ s.hls.mode = .starting →
    ∃ t, exec (.hlsPark c) s = .next t ∧ t.hls.mode = .parking ∧ t.hls.cause = 2 ∧ t.hls.parkFault = false ∧
      t.pins.hlEn = false ∧ t.hls.nco.inc = 0 ∧ t.hls.span = none ∧ t.hls.lineNow = none ∧ t.hls.parkedAt = s.tsc ∧
      t.hls.parkId = s.hls.parkId ++ [s.hmi.nextId] ∧
      t.hmi.inFlight = [arriving s 0x0B02 c []] ∧ calm t = calm { s with hls := t.hls, lpe := t.lpe, pins := t.pins }) ∧
  (∀ (s : State) (c : Cmd), Serving s 0x0B02 c → s.hls.mode = .parking →
    ∃ t, exec (.hlsPark c) s = .next t ∧ Begins { s with hls := { s.hls with
      parkId := s.hls.parkId ++ [s.hmi.nextId] } } t (arriving s 0x0B02 c [])) ∧
  (∀ (s : State) (c : Cmd), Serving s 0x0B02 c → s.hls.mode = .parked ∨ s.hls.mode = .failed →
    ∃ t, exec (.hlsPark c) s = .next t ∧ Replies { s with hls := { s.hls with
      parkTrigAt := some s.tsc } } t (arriving s 0x0B02 c []) .ok []) ∧
  (∀ (s : State) (c : Cmd), Serving s 0x0B02 c → s.hls.mode = .disabled →
    ∃ t, exec (.hlsPark c) s = .next t ∧ Replies s t (arriving s 0x0B02 c []) .badState []) ∧
  (∀ s : State, Live s → s.hls.mode = .running ∨ s.hls.mode = .starting →
    500000000000 ≤ (s.tsc - s.hls.crossAt) * (scanCfg s).fMin →
    ∃ t, exec .motionLost s = .next t ∧ t.hls.mode = .parking ∧ t.hls.cause = 5 ∧ t.hls.parkFault = true ∧
      t.pins.hlEn = false ∧ t.pins.laserEn = s.pins.laserEn ∧ counted s t 0x90 ∧
      calm t = calm { s with hls := t.hls, lpe := t.lpe, pins := t.pins }) ∧
  (∀ s : State, Live s → (s.tsc - s.hls.crossAt) * (scanCfg s).fMin < 500000000000 → exec .motionLost s = .next s) ∧
  (∀ s : State, Live s → s.hls.mode = .starting → s.hls.locked = false →
    s.hls.startedAt + bits (hlsReg s 0xC00014) 15 0 * 250000 ≤ s.tsc →
    ∃ t, exec .lockTimeout s = .next t ∧ t.hls.mode = .parking ∧ t.hls.cause = 6 ∧ t.hls.parkFault = true ∧
      t.pins.hlEn = false ∧ counted s t 0x91 ∧ calm t = calm { s with hls := t.hls, lpe := t.lpe, pins := t.pins }) ∧
  (∀ s : State, Live s → s.hls.mode ≠ .starting ∨ s.hls.locked = true ∨
    s.tsc < s.hls.startedAt + bits (hlsReg s 0xC00014) 15 0 * 250000 → exec .lockTimeout s = .next s) ∧
  (∀ s : State, Live s → s.hls.mode = .parking → slowNear s (parkPos s) = true → s.hls.resume = false →
    ∃ t, exec .parkReached s = .next t ∧ t.hls.mode = (if s.hls.parkFault then .failed else .parked) ∧
      t.hls.cause = s.hls.cause ∧ t.hls.startId = none ∧ t.hls.parkId = [] ∧
      calm t = calm { s with hls := t.hls, lpe := t.lpe, pins := t.pins }) ∧
  (∀ s : State, Live s → s.hls.mode = .parking → slowNear s (parkPos s) = false → exec .parkReached s = .next s) ∧
  (∀ s : State, Live s → s.hls.mode = .parking → slowNear s (parkPos s) = false → s.hls.resume = false →
    s.hls.parkedAt + 1250000 ≤ s.tsc →
    ∃ t, exec .parkForced s = .next t ∧ t.hls.mode = (if s.hls.parkFault then .failed else .parked) ∧
      t.hls.cause = s.hls.cause ∧ t.hls.parkId = [] ∧ counted s t 0x97 ∧
      calm t = calm { s with hls := t.hls, lpe := t.lpe, pins := t.pins }) ∧
  (∀ s : State, Live s → s.tsc < s.hls.parkedAt + 1250000 → exec .parkForced s = .next s) ∧
  (∀ s : State, Live s → s.hls.mode = .disabled ∨ s.hls.mode = .parked ∨ s.hls.mode = .failed →
    exec .motionLost s = .next s ∧ exec .lockTimeout s = .next s ∧ exec .parkReached s = .next s ∧
      exec .parkForced s = .next s)

/-- R371–R378, R381: a rising crossing of the fast sense channel, whose samples bracket the mean of the period before, measures the
phase, and 64 in a row within tolerance lock it; an amplitude below half the nominal is no motion, one outside the tolerance is fault
0x95 once an episode. A line that begins with its half-period in the busy span is counted and drawn from the field shown, dark while
the lasers are not allowed or the slow axis is off its line, which is fault 0x93; an uncorrectable field word is 0x96. The span's end
counts the lines it skipped. -/
def Obligations.CrossingsLockAndLinesAreDrawn : Prop :=
  (∀ (s : State) (tick : Nat) (q : Fin 4) (a b mx mn : BitVec 16) (i ch pp nom tol : Nat), Live s →
    s.hls.mode = .running ∨ s.hls.mode = .starting → hlsSlot s 2 = some i → s.hls.period = none →
    ch = adcChannel s (slotAt s i).input → pp = correct s ch mx.toNat - correct s ch mn.toNat →
    nom = bits (hlsReg s 0xC00010) 31 16 → tol = bits (hlsReg s 0xC00010) 15 8 →
    nom = 0 ∨ (nom ≤ 2 * pp ∧ nom * (100 - tol) ≤ pp * 100 ∧ pp * 100 ≤ nom * (100 + tol)) →
    ∃ t, exec (.fastCrossing tick q a b mx mn) s = .next t ∧ t = { s with hls := { s.hls with
      crossAt := s.tsc
      motion := true
      amplOut := false
      period := some (correct s ch mx.toNat, correct s ch mn.toNat) } }) ∧
  (∀ (s : State) (tick : Nat) (q : Fin 4) (a b mx mn : BitVec 16) (i ch hi lo v0 v1 pp nom tol : Nat), Live s →
    s.hls.mode = .running ∨ s.hls.mode = .starting → hlsSlot s 2 = some i → s.hls.period = some (hi, lo) →
    ch = adcChannel s (slotAt s i).input → v0 = correct s ch a.toNat → v1 = correct s ch b.toNat →
    2 * v0 < hi + lo → hi + lo ≤ 2 * v1 → pp = correct s ch mx.toNat - correct s ch mn.toNat →
    nom = bits (hlsReg s 0xC00010) 31 16 → tol = bits (hlsReg s 0xC00010) 15 8 →
    nom = 0 ∨ (nom ≤ 2 * pp ∧ nom * (100 - tol) ≤ pp * 100 ∧ pp * 100 ≤ nom * (100 + tol)) →
    ∃ t, exec (.fastCrossing tick q a b mx mn) s = .next t ∧
      t.hls.period = some (correct s ch mx.toNat, correct s ch mn.toNat) ∧ t.hls.motion = true ∧ t.hls.amplOut = false ∧
      t.hls.y = phaseAt s (tick + (q.val * 125 * (2 * (v1 - v0)) + 125 * (hi + lo - 2 * v0) + 2 * (v1 - v0)) /
        (2 * (2 * (v1 - v0)))) ∧
      t.hls.lockRun = (if (t.hls.y - (bits (hlsReg s 0xC00008) 31 16 : Int)).natAbs ≤ bits (hlsReg s 0xC00014) 31 16
        then min 64 (s.hls.lockRun + 1) else 0) ∧
      t.hls.locked = decide (t.hls.lockRun = 64) ∧ t.hls.mode = s.hls.mode ∧ calm t = calm { s with hls := t.hls }) ∧
  (∀ (s : State) (tick : Nat) (q : Fin 4) (a b mx mn : BitVec 16) (i ch : Nat), Live s →
    s.hls.mode = .running ∨ s.hls.mode = .starting → hlsSlot s 2 = some i → ch = adcChannel s (slotAt s i).input →
    (∀ hi lo, s.hls.period = some (hi, lo) →
      2 * correct s ch a.toNat < hi + lo ∧ hi + lo ≤ 2 * correct s ch b.toNat) →
    2 * (correct s ch mx.toNat - correct s ch mn.toNat) < bits (hlsReg s 0xC00010) 31 16 →
    ∃ t, exec (.fastCrossing tick q a b mx mn) s = .next t ∧ t.hls.mode = .parking ∧ t.hls.cause = 5 ∧
      t.pins.hlEn = false ∧ counted s t 0x90) ∧
  (∀ (s : State) (tick : Nat) (q : Fin 4) (a b mx mn : BitVec 16) (i ch pp nom tol : Nat), Live s →
    s.hls.mode = .running ∨ s.hls.mode = .starting → hlsSlot s 2 = some i → s.hls.period = none → s.hls.amplOut = false →
    ch = adcChannel s (slotAt s i).input → pp = correct s ch mx.toNat - correct s ch mn.toNat →
    nom = bits (hlsReg s 0xC00010) 31 16 → tol = bits (hlsReg s 0xC00010) 15 8 →
    nom ≠ 0 → nom ≤ 2 * pp → pp * 100 < nom * (100 - tol) ∨ nom * (100 + tol) < pp * 100 →
    ∃ t, exec (.fastCrossing tick q a b mx mn) s = .next t ∧ t.hls.amplOut = true ∧ counted s t 0x95) ∧
  (∀ (s : State) (tick : Nat) (q : Fin 4) (a b mx mn : BitVec 16), Live s →
    (s.hls.mode ≠ .running ∧ s.hls.mode ≠ .starting) ∨ hlsSlot s 2 = none →
    exec (.fastCrossing tick q a b mx mn) s = .next s) ∧
  (∀ (s : State) (tick : Nat) (q : Fin 4) (a b mx mn : BitVec 16) (i ch hi lo : Nat), Live s → hlsSlot s 2 = some i →
    ch = adcChannel s (slotAt s i).input → s.hls.period = some (hi, lo) →
    hi + lo ≤ 2 * correct s ch a.toNat ∨ 2 * correct s ch b.toNat < hi + lo →
    exec (.fastCrossing tick q a b mx mn) s = .next s) ∧
  (∀ (s : State) (p : ScanSpan) (line : Nat), Live s → s.hls.span = some p → s.hls.mode = .running → p.started < p.count →
    p.t0 ≤ s.tsc → halfBegins s = true → halfFits s p.busyEnd = true → line = p.first + p.started →
    slowOff s = false → (lineValues s line).2 = false →
    ∃ t, exec .scanLineStart s = .next t ∧ t.hls = { s.hls with
        line := line
        dark := !lasersAllowed s
        span := some { p with started := p.started + 1 }
        lineNow := some {
          reverse := reverseHalf s, dark := !s.hls.locked || !lasersAllowed s, values := (lineValues s line).1 } } ∧
      t.pins.hlEn = lasersAllowed s ∧ tally t 0xC00050 = min (tally s 0xC00050 + 1) tallyMax ∧
      (∀ i, hlsSlot s 3 = some i → (slotAt t i).tgt = ((scanCfg s).slow.getD line 0 * 65536 : Nat)) ∧
      calm t = calm { s with hls := t.hls, lpe := t.lpe, pins := { s.pins with hlEn := lasersAllowed s } }) ∧
  (∀ (s : State) (p : ScanSpan), Live s → s.hls.span = some p → s.hls.mode = .running → p.started < p.count →
    p.t0 ≤ s.tsc → halfBegins s = true → halfFits s p.busyEnd = true →
    ∃ t, exec .scanLineStart s = .next t ∧ t.hls.line = p.first + p.started ∧
      (lasersAllowed s = false → t.pins.hlEn = false) ∧
      tally t 0xC00050 = min (tally s 0xC00050 + 1) tallyMax ∧
      (slowOff s = true → counted s t 0x93 ∧ tally t 0xC00054 = min (tally s 0xC00054 + 1) tallyMax) ∧
      ((lineValues s (p.first + p.started)).2 = true → counted s t 0x96)) ∧
  (∀ (s : State) (p : ScanSpan), Live s → s.hls.span = some p → s.hls.mode ≠ .running ∨ p.count ≤ p.started ∨
    s.tsc < p.t0 ∨ halfBegins s = false ∨ halfFits s p.busyEnd = false → exec .scanLineStart s = .next s) ∧
  (∀ s : State, Live s → s.hls.span = none → exec .scanLineStart s = .next s ∧ exec .scanLineEnd s = .next s) ∧
  (∀ (s : State) (p : ScanSpan), Live s → s.hls.span = some p → s.tsc < p.busyEnd → exec .scanLineEnd s = .next s) ∧
  (∀ (s : State) (p : ScanSpan), Live s → s.hls.span = some p → p.busyEnd ≤ s.tsc →
    ∃ t, exec .scanLineEnd s = .next t ∧ t.hls = { s.hls with span := none } ∧
      tally t 0xC00058 = min (tally s 0xC00058 + (p.count - p.started)) tallyMax ∧
      (∀ i, hlsSlot s 3 = some i → (slotAt t i).tgt =
        ((scanCfg s).slow.getD ((p.first + p.count) % max 1 (scanCfg s).lines) 0 * 65536 : Nat)) ∧
      calm t = calm { s with hls := t.hls, lpe := t.lpe })


/-! ### DRAM controller and audio (chapters 14 and 15) -/

/-- R424–R428: a channel's refresh debt goes up once at each multiple of its due interval and at no other time; at 8 a REFpb is
forced, counted, and raises fault 0x22. An opportunity with debt above 0 issues one REFpb, a debt increment of the same cycle
counting first, and with none nothing happens. The controller's own slots come every 100 cycles. MR4 is read at an opportunity, once a
millisecond; a higher rate class counts at once, a lower one after four readings, and a class beyond 4× is fault 0x25. -/
def Obligations.RefreshDebtIsKept : Prop :=
  (∀ (s : State) (c : Fin 16), Live s → memServing s = false ∨ s.tsc % dueInterval (rateOf s c.val) ≠ 0 ∨
      (chan s c.val).dueAt = some s.tsc →
    exec (.refreshDue c) s = .next s) ∧
  (∀ (s : State) (c : Fin 16), Live s → memServing s = true → s.tsc % dueInterval (rateOf s c.val) = 0 →
    (chan s c.val).dueAt ≠ some s.tsc → (chan s c.val).debt + 1 < 8 →
    ∃ t, exec (.refreshDue c) s = .next t ∧
      chan t c.val = { chan s c.val with debt := (chan s c.val).debt + 1, dueAt := some s.tsc } ∧
      (∀ x, x < 16 → x ≠ c.val → chan t x = chan s x) ∧
      t.mem.debtMax = max s.mem.debtMax (min 15 ((chan s c.val).debt + 1)) ∧ t = { s with mem := t.mem }) ∧
  (∀ (s : State) (c : Fin 16), Live s → memServing s = true → s.tsc % dueInterval (rateOf s c.val) = 0 →
    (chan s c.val).dueAt ≠ some s.tsc → 8 ≤ (chan s c.val).debt + 1 →
    ∃ t, exec (.refreshDue c) s = .next t ∧ (chan t c.val).debt = (chan s c.val).debt ∧
      Output.refresh c.val 1 ∈ t.outs ∧ tally t 0x100028 = min (tally s 0x100028 + 1) tallyMax ∧
      counted s t 0x22 ∧ calm t = calm { s with mem := t.mem }) ∧
  (∀ (s : State) (c : Fin 16), Live s → memServing s = true →
    s.tsc % dueInterval (rateOf s c.val) ≠ 0 ∨ (chan s c.val).dueAt = some s.tsc →
    s.mem.trains.any (trainOpens s c.val) = true → 0 < (chan s c.val).debt → (chan s c.val).oppAt ≠ some s.tsc →
    exec (.refreshOpportunity c) s = .next { s with
      mem := { s.mem with ch := vmod s.mem.ch c.val (fun x => { x with
        debt := x.debt - 1, pair := (x.pair + 1) % 8, oppAt := some s.tsc }) },
      outs := .refresh c.val 0 :: s.outs }) ∧
  (∀ (s : State) (c : Fin 16), Live s → memServing s = true → s.tsc % dueInterval (rateOf s c.val) = 0 →
    (chan s c.val).dueAt ≠ some s.tsc → (chan s c.val).debt + 1 < 8 →
    s.mem.trains.any (trainOpens s c.val) = true → (chan s c.val).oppAt ≠ some s.tsc →
    ∃ t, exec (.refreshOpportunity c) s = .next t ∧ Output.refresh c.val 0 ∈ t.outs ∧
      chan t c.val = { chan s c.val with pair := ((chan s c.val).pair + 1) % 8, dueAt := some s.tsc, oppAt := some s.tsc }) ∧
  (∀ (s : State) (c : Fin 16), Live s →
    memServing s = false ∨ s.tsc % dueInterval (rateOf s c.val) ≠ 0 ∨ (chan s c.val).dueAt = some s.tsc →
    memServing s = false ∨ s.mem.trains.any (trainOpens s c.val) = false ∨ (chan s c.val).debt = 0 ∨
      (chan s c.val).oppAt = some s.tsc →
    exec (.refreshOpportunity c) s = .next s) ∧
  (∀ s : State, Live s → (∃ a n, s.ftg.hold = some (a, n) ∧ (s.tsc - a) % 100 = 0) ∨
      (s.ftg.hold = none ∧ s.mem.ownSlots = true ∧ (s.tsc - s.mem.ownFrom) % 100 = 0) →
    ∃ t, exec .ownRefreshSlot s = .next t ∧ t = { s with mem := { s.mem with trains := t.mem.trains } } ∧
      (∀ c, c < 16 → t.mem.trains.any (trainOpens t c) = true)) ∧
  (∀ s : State, Live s → (∃ a n, s.ftg.hold = some (a, n) ∧ (s.tsc - a) % 100 ≠ 0) ∨
      (s.ftg.hold = none ∧ (s.mem.ownSlots = false ∨ (s.tsc - s.mem.ownFrom) % 100 ≠ 0)) →
    exec .ownRefreshSlot s = .next s) ∧
  (∀ (s : State) (c : Fin 16) (k : Option (Fin 8)), Live s → mr4Due s c.val = false → exec (.mr4Read c k) s = .next s) ∧
  (∀ (s : State) (c : Fin 16), Live s → mr4Due s c.val = true → exec (.mr4Read c none) s = .next { s with
    mem := { s.mem with ch := vmod s.mem.ch c.val (fun x => { x with mr4 := none, mr4Ms := some (s.tsc / 250000) }) } }) ∧
  (∀ (s : State) (c : Fin 16) (k : Fin 8) (r : Nat), Live s → mr4Due s c.val = true →
    r = (if k.val ≤ 2 then 1 else if k.val = 3 then 2 else 3) →
    ∃ t, exec (.mr4Read c (some k)) s = .next t ∧ (chan t c.val).mr4 = some k.val ∧
      (chan t c.val).mr4Ms = some (s.tsc / 250000) ∧
      ((chan s c.val).rate ≤ r → (chan t c.val).rate = r ∧ (chan t c.val).lower = 0) ∧
      (r < (chan s c.val).rate → (chan s c.val).lowerRate = r → (chan s c.val).lower < 3 →
        (chan t c.val).rate = (chan s c.val).rate ∧ (chan t c.val).lower = (chan s c.val).lower + 1) ∧
      (r < (chan s c.val).rate → (chan s c.val).lowerRate ≠ r →
        (chan t c.val).rate = (chan s c.val).rate ∧ (chan t c.val).lowerRate = r ∧ (chan t c.val).lower = 1) ∧
      (r < (chan s c.val).rate → (chan s c.val).lowerRate = r → 3 ≤ (chan s c.val).lower → (chan t c.val).rate = r) ∧
      (∀ x, x < 16 → x ≠ c.val → chan t x = chan s x) ∧ (k.val < 5 → t = { s with mem := t.mem }) ∧
      (5 ≤ k.val → counted s t 0x25 ∧ PinsDown s t))

/-- R429–R433: MEM_TRAIN starts while FTG0 stands, and its step, or firmware training in MODE 1, ends it: in OK where it passes,
else in FAILED with the fatal fault 0x24 and the light off. A periodic step, in its channel's turn of a pause or after a start, that
passes moves the channel's codes; one that fails makes it fall back, counted, with fault 0x23; a channel in fall-back returns to OK,
or fails, by its firmware training, or goes on with it in the next pause. -/
def Obligations.TrainingStepsJudgeChannels : Prop :=
  (∀ (s : State) (c : Cmd), Serving s 0x0D01 c → leAt (bodyOf c) 0 1 ≤ 1 → leAt (bodyOf c) 1 3 = 0 → s.ftgOn = false →
    ∃ t, exec (.memTrain c) s = .next t ∧ Begins { s with mem := { s.mem with
      train := s.mem.train ++ [(c.unit.toNat, s.hmi.nextId, leAt (bodyOf c) 0 1)] } } t (arriving s 0x0D01 c [])) ∧
  (∀ (s : State) (c : Cmd), Serving s 0x0D01 c → leAt (bodyOf c) 0 1 ≤ 1 → leAt (bodyOf c) 1 3 = 0 → s.ftgOn = true →
    ∃ t, exec (.memTrain c) s = .next t ∧ Replies s t (arriving s 0x0D01 c []) .badState []) ∧
  (∀ (s : State) (c : Cmd), Serving s 0x0D01 c → 1 < leAt (bodyOf c) 0 1 ∨ leAt (bodyOf c) 1 3 ≠ 0 →
    ∃ t, exec (.memTrain c) s = .next t ∧ Replies s t (arriving s 0x0D01 c []) .outOfRange []) ∧
  (∀ (s : State) (c : Fin 16) (r : StepResult) (x id : Nat), Live s →
    s.mem.train.find? (fun e => e.1 == c.val) = some (x, id, 0) → stepFails s c.val r = false →
    ∃ t, exec (.trainingStepDone c r) s = .next t ∧ (chan t c.val).mode = .ok ∧
      (chan t c.val).codes = (List.range 4).map (fun i => (chan s c.val).codes.getD i 0 + clampI (-2) 2 (r.shift.getD i 0)) ∧
      (∀ e ∈ t.mem.train, e.1 ≠ c.val) ∧ tally t 0x100030 = min (tally s 0x100030 + 1) tallyMax ∧
      (∀ f, s.hmi.inFlight = [f] → f.id = id → t.hmi.inFlight = []) ∧ calm t = calm { s with mem := t.mem }) ∧
  (∀ (s : State) (c : Fin 16) (r : StepResult) (x id : Nat), Live s →
    s.mem.train.find? (fun e => e.1 == c.val) = some (x, id, 0) → stepFails s c.val r = true →
    ∃ t, exec (.trainingStepDone c r) s = .next t ∧ (chan t c.val).mode = .failed ∧ counted s t 0x23 ∧ counted s t 0x24 ∧
      (srcAt t 0x24).mode = .fatal ∧ t.pins.laserEn = 0 ∧ tally t 0x10002C = min (tally s 0x10002C + 1) tallyMax ∧
      (∀ f, s.hmi.inFlight = [f] → f.id = id → t.hmi.inFlight = []) ∧ PinsDown s t) ∧
  (∀ (s : State) (c : Fin 16) (r : StepResult) (x id m : Nat), Live s →
    s.mem.train.find? (fun e => e.1 == c.val) = some (x, id, m) → m ≠ 0 →
    ∃ t, exec (.trainingStepDone c r) s = .next t ∧ (chan t c.val).mode = (if r.firmware = some true then .ok else .failed) ∧
      (r.firmware ≠ some true → (srcAt t 0x24).mode = .fatal ∧ t.pins.laserEn = 0) ∧
      (∀ f, s.hmi.inFlight = [f] → f.id = id → t.hmi.inFlight = [])) ∧
  (∀ (s : State) (c : Fin 16) (r : StepResult), Live s → s.mem.train.find? (fun e => e.1 == c.val) = none →
    bitAt s.mem.afterReset c.val = true ∨ (pauseTurn s c.val = true ∧ (chan s c.val).mode ≠ .fallback) → stepFails s c.val r = false →
    ∃ t, exec (.trainingStepDone c r) s = .next t ∧ (chan t c.val).mode = (chan s c.val).mode ∧
      (chan t c.val).codes = (List.range 4).map (fun i => (chan s c.val).codes.getD i 0 + clampI (-2) 2 (r.shift.getD i 0)) ∧
      (bitAt s.mem.afterReset c.val = true → bitAt t.mem.afterReset c.val = false ∧ t.mem.pause = s.mem.pause) ∧
      (bitAt s.mem.afterReset c.val = false → bitAt t.mem.pause c.val = false ∧ t.mem.stepFrom = s.tsc) ∧
      tally t 0x100030 = min (tally s 0x100030 + 1) tallyMax ∧ calm t = calm { s with mem := t.mem }) ∧
  (∀ (s : State) (c : Fin 16) (r : StepResult), Live s → s.mem.train.find? (fun e => e.1 == c.val) = none →
    bitAt s.mem.afterReset c.val = true ∨ (pauseTurn s c.val = true ∧ (chan s c.val).mode ≠ .fallback) → stepFails s c.val r = true →
    ∃ t, exec (.trainingStepDone c r) s = .next t ∧ (chan t c.val).mode = .fallback ∧ (chan t c.val).pauses = 0 ∧
      (chan t c.val).codes = (chan s c.val).codes ∧ counted s t 0x23 ∧
      tally t 0x10002C = min (tally s 0x10002C + 1) tallyMax ∧ PinsDown s t ∧
      (r.ue = none → armedUe s (patternBase s c.val) 0x40000 = none → calm t = calm { s with mem := t.mem })) ∧
  (∀ (s : State) (c : Fin 16) (r : StepResult) (ok : Bool), Live s → s.mem.train.find? (fun e => e.1 == c.val) = none →
    bitAt s.mem.afterReset c.val = false → pauseTurn s c.val = true → (chan s c.val).mode = .fallback → r.firmware = some ok →
    ∃ t, exec (.trainingStepDone c r) s = .next t ∧ (chan t c.val).mode = (if ok then .ok else .failed) ∧
      (ok = false → (srcAt t 0x24).mode = .fatal ∧ t.pins.laserEn = 0)) ∧
  (∀ (s : State) (c : Fin 16) (r : StepResult), Live s → s.mem.train.find? (fun e => e.1 == c.val) = none →
    bitAt s.mem.afterReset c.val = false → pauseTurn s c.val = true → (chan s c.val).mode = .fallback → r.firmware = none →
    exec (.trainingStepDone c r) s = .next { s with mem := { s.mem with
      pause := s.mem.pause ^^^ 2 ^ c.val, stepFrom := s.tsc } }) ∧
  (∀ (s : State) (c : Fin 16) (r : StepResult), Live s → s.mem.train.find? (fun e => e.1 == c.val) = none →
    bitAt s.mem.afterReset c.val = false → pauseTurn s c.val = false → exec (.trainingStepDone c r) s = .next s)

/-- R439, R440, R443, R444, R450: AUD_START waits for an edge at or after its time, from which the port runs; AUD_STOP waits for
the next edge, which stops it, an output sending silence. Losing the audio PLL stops every port with fault 0xD2; its lock lets
them start. A port in the wrong state refuses with BAD_STATE, a ring outside the host areas with OUT_OF_RANGE. R440–R442,
R446–R449: at a left edge a running output sends the oldest frame of its FIFO, on its unmasked channels and in its format; with
none it repeats the last one and counts an underrun, with fault 0xD0 once an episode; while it repeats for lip-sync it counts a
hold. A frame received goes into the input's ring while it has room, and is else counted as lost, with fault 0xD1 once an
episode; a copy of the last one fills in for a lost one as room comes, at most one per 32 cycles. -/
def Obligations.AudioPortsRun : Prop :=
  (∀ (s : State) (c : Cmd) (p : Nat), Serving s 0x0E01 c → p = c.unit.toNat → (audPort s p).running = false →
    (audPort s p).start = none → audEnabled s p = true → s.aud.pllLock = true → s.img.cfg.isSome = true → inSwitch s = false →
    ringBase s p % 64 = 0 → inHostArea s (ringBase s p) (ringBase s p + ringBytes s p) = true →
    ∃ t, exec (.audStart c) s = .next t ∧ Begins { s with aud := { s.aud with
      port := vmod s.aud.port p (fun x => { x with start := some (leAt (bodyOf c) 0 8, s.hmi.nextId) }) } } t
      (arriving s 0x0E01 c [])) ∧
  (∀ (s : State) (c : Cmd), Serving s 0x0E01 c → (audPort s c.unit.toNat).running = true ∨ s.aud.pllLock = false →
    ∃ t, exec (.audStart c) s = .next t ∧ Replies s t (arriving s 0x0E01 c []) .badState []) ∧
  (∀ (s : State) (c : Cmd) (p : Nat), Serving s 0x0E01 c → p = c.unit.toNat → (audPort s p).running = false →
    (audPort s p).start = none → audEnabled s p = true → s.aud.pllLock = true → s.img.cfg.isSome = true → inSwitch s = false →
    ringBase s p % 64 ≠ 0 ∨ inHostArea s (ringBase s p) (ringBase s p + ringBytes s p) = false →
    ∃ t, exec (.audStart c) s = .next t ∧ Replies s t (arriving s 0x0E01 c []) .outOfRange []) ∧
  (∀ (s : State) (p : Fin 5), Live s → (audPort s p.val).start = none → exec (.audioPortRunning p) s = .next s) ∧
  (∀ (s : State) (p : Fin 5) (a id : Nat), Live s → (audPort s p.val).start = some (a, id) → a ≤ s.tsc →
    ∃ t, exec (.audioPortRunning p) s = .next t ∧ (audPort t p.val).running = true ∧ (audPort t p.val).start = none ∧
      (audPort t p.val).edge = s.tsc ∧ (∀ f, s.hmi.inFlight = [f] → f.id = id → t.hmi.inFlight = []) ∧ (∀ q, q < 5 → q ≠ p.val → audPort t q = audPort s q) ∧ PinsDown s t) ∧
  (∀ (s : State) (p : Fin 5) (a id : Nat), Live s → (audPort s p.val).start = some (a, id) → s.tsc < a →
    exec (.audioPortRunning p) s = .next s) ∧
  (∀ (s : State) (c : Cmd), Serving s 0x0E02 c → (audPort s c.unit.toNat).running = true →
    ∃ t, exec (.audStop c) s = .next t ∧ Begins { s with aud := { s.aud with
      port := vmod s.aud.port c.unit.toNat (fun x => { x with stopIds := x.stopIds ++ [s.hmi.nextId] }) } } t
      (arriving s 0x0E02 c [])) ∧
  (∀ (s : State) (c : Cmd), Serving s 0x0E02 c → (audPort s c.unit.toNat).running = false →
    ∃ t, exec (.audStop c) s = .next t ∧ Replies s t (arriving s 0x0E02 c []) .badState []) ∧
  (∀ (s : State) (p : Fin 4) (er : DramErrs), Live s → (audPort s p.val).running = true → (audPort s p.val).stopIds ≠ [] →
    ∃ t, exec (.sampleFrameOut p er) s = .next t ∧ (audPort t p.val).running = false ∧ (audPort t p.val).stopIds = [] ∧
      Output.audio p.val (frameBits (audCfg s p.val).format (audPort s p.val).tail 0 0) ∈ t.outs ∧
      (er = {} → calm t = calm { s with aud := t.aud })) ∧
  (∀ (s : State) (l r : BitVec 32), Live s → (audPort s 4).running = true → (audPort s 4).stopIds ≠ [] →
    ∃ t, exec (.sampleFrameIn l r) s = .next t ∧ (audPort t 4).running = false ∧ (audPort t 4).stopIds = [] ∧
      (audPort t 4).wr = (audPort s 4).wr ∧ calm t = calm { s with aud := t.aud }) ∧
  (∀ s : State, Live s → s.aud.pllLock = true →
    ∃ t, exec .audioPllUnlock s = .next t ∧ t.aud.pllLock = false ∧ t.pins.audMclk = false ∧
      (∀ p, p < 5 → (audPort t p).running = false ∧ (audPort t p).start = none ∧ (audPort t p).stopIds = []) ∧
      counted s t 0xD2 ∧ calm t = calm { s with aud := t.aud, pins := { s.pins with audMclk := false } }) ∧
  (∀ s : State, Live s → s.aud.pllLock = false → exec .audioPllUnlock s = .next s) ∧
  (∀ s : State, Live s → (List.range 5).any (audEnabled s) = true → exec .audioPllLock s = .next { s with
    aud := { s.aud with pllLock := true }, pins := { s.pins with audMclk := true } }) ∧
  (∀ s : State, Live s → (List.range 5).any (audEnabled s) = false → exec .audioPllLock s = .next s) ∧
  (∀ (s : State) (p : Fin 4) (er : DramErrs) (f : Nat × Nat) (r : List (Nat × Nat)), Live s → (audPort s p.val).running = true →
    (audPort s p.val).stopIds = [] → (audPort s p.val).repeats = false → (audPort s p.val).fifo = f :: r →
    ∃ t, exec (.sampleFrameOut p er) s = .next t ∧ (audPort t p.val).last = f ∧
      (audPort t p.val).sent = ((audPort s p.val).sent + 1) % 2 ^ 64 ∧ (audPort t p.val).edge = s.tsc ∧
      (audPort t p.val).underrun = false ∧
      Output.audio p.val (frameBits (audCfg s p.val).format (audPort s p.val).tail
        (audWord s p.val (maskAt s p.val) 0 f.1) (audWord s p.val (maskAt s p.val) 1 f.2)) ∈ t.outs ∧
      (∀ a, a < reservedBase s → rd t a = rd s a) ∧ PinsDown s t) ∧
  (∀ (s : State) (p : Fin 4) (er : DramErrs), Live s → (audPort s p.val).running = true → (audPort s p.val).stopIds = [] →
    (audPort s p.val).repeats = false → (audPort s p.val).fifo = [] → (audPort s p.val).rd = (audPort s p.val).wr →
    ∃ t, exec (.sampleFrameOut p er) s = .next t ∧ (audPort t p.val).last = (audPort s p.val).last ∧
      (audPort t p.val).sent = ((audPort s p.val).sent + 1) % 2 ^ 64 ∧ (audPort t p.val).underrun = true ∧
      Output.audio p.val (frameBits (audCfg s p.val).format (audPort s p.val).tail
        (audWord s p.val (maskAt s p.val) 0 (audPort s p.val).last.1)
        (audWord s p.val (maskAt s p.val) 1 (audPort s p.val).last.2)) ∈ t.outs ∧
      tally t (audBase p.val + 0x20) = min (tally s (audBase p.val + 0x20) + 1) tallyMax ∧
      ((audPort s p.val).underrun = false → counted s t 0xD0) ∧ PinsDown s t) ∧
  (∀ (s : State) (p : Fin 4) (er : DramErrs), Live s → (audPort s p.val).running = true → (audPort s p.val).stopIds = [] →
    (audPort s p.val).repeats = true →
    ∃ t, exec (.sampleFrameOut p er) s = .next t ∧ (audPort t p.val).last = (audPort s p.val).last ∧
      (audPort t p.val).fifo = (audPort s p.val).fifo ∧ (audPort t p.val).rd = (audPort s p.val).rd ∧
      tally t (audBase p.val + 0x28) = min (tally s (audBase p.val + 0x28) + 1) tallyMax ∧
      (er = {} → calm t = calm { s with aud := t.aud })) ∧
  (∀ (s : State) (p : Fin 4) (er : DramErrs), Live s → (audPort s p.val).running = false →
    exec (.sampleFrameOut p er) s = .next s) ∧
  (∀ (s : State) (l r : BitVec 32) (f : Nat × Nat) (a : Nat), Live s → (audPort s 4).running = true → (audPort s 4).stopIds = [] →
    (audPort s 4).lost = 0 → 0 < ringRoom s 4 → a = ringBase s 4 + (audPort s 4).wr → a + 8 ≤ reservedBase s →
    mapWf dramDefault s.dram = true → f = (audWord s 4 (maskAt s 4) 0 l.toNat, audWord s 4 (maskAt s 4) 1 r.toNat) →
    ∃ t, exec (.sampleFrameIn l r) s = .next t ∧ (audPort t 4).last = f ∧
      (audPort t 4).wr = ((audPort s 4).wr + 8) % ringBytes s 4 ∧ (audPort t 4).edge = s.tsc ∧ (audPort t 4).lost = 0 ∧
      (∀ k, k < 8 → rd t (a + k) = (leBytes 4 f.1 ++ leBytes 4 f.2).getD k 0) ∧
      (∀ x, x < reservedBase s → x < a ∨ a + 8 ≤ x → rd t x = rd s x) ∧ calm t = calm { s with aud := t.aud }) ∧
  (∀ (s : State) (l r : BitVec 32), Live s → (audPort s 4).running = true → (audPort s 4).stopIds = [] →
    (audPort s 4).lost = 0 → ringRoom s 4 = 0 →
    ∃ t, exec (.sampleFrameIn l r) s = .next t ∧ (audPort t 4).lost = 1 ∧ (audPort t 4).wr = (audPort s 4).wr ∧
      tally t (audBase 4 + 0x24) = min (tally s (audBase 4 + 0x24) + 1) tallyMax ∧ counted s t 0xD1 ∧ PinsDown s t ∧
      (∀ x, x < reservedBase s → rd t x = rd s x)) ∧
  (∀ (s : State) (l r : BitVec 32), Live s → (audPort s 4).running = true → (audPort s 4).stopIds = [] →
    0 < (audPort s 4).lost → (audPort s 4).lost + 1 < tallyMax →
    ∃ t, exec (.sampleFrameIn l r) s = .next t ∧ (audPort t 4).lost = (audPort s 4).lost + 1 ∧
      (audPort t 4).wr = (audPort s 4).wr ∧ tally t (audBase 4 + 0x24) = min (tally s (audBase 4 + 0x24) + 1) tallyMax ∧
      calm t = calm { s with aud := t.aud }) ∧
  (∀ (s : State) (l r : BitVec 32), Live s → (audPort s 4).running = false → exec (.sampleFrameIn l r) s = .next s) ∧
  (∀ (s : State) (a : Nat), Live s → 0 < (audPort s 4).lost → 0 < ringRoom s 4 →
    (∀ e, (audPort s 4).fillAt = some e → e + 32 ≤ s.tsc) → a = ringBase s 4 + (audPort s 4).wr → a + 8 ≤ reservedBase s →
    mapWf dramDefault s.dram = true →
    ∃ t, exec .audioFillCopy s = .next t ∧ (audPort t 4).lost = (audPort s 4).lost - 1 ∧
      (audPort t 4).wr = ((audPort s 4).wr + 8) % ringBytes s 4 ∧ (audPort t 4).last = (audPort s 4).last ∧
      (audPort t 4).fillAt = some s.tsc ∧
      (∀ k, k < 8 → rd t (a + k) = (leBytes 4 (audPort s 4).last.1 ++ leBytes 4 (audPort s 4).last.2).getD k 0) ∧
      calm t = calm { s with aud := t.aud }) ∧
  (∀ s : State, Live s → (audPort s 4).lost = 0 ∨ ringRoom s 4 = 0 ∨
      (∃ e, (audPort s 4).fillAt = some e ∧ s.tsc < e + 32) → exec .audioFillCopy s = .next s)


/-! ### Calibration, temperature, power domains and fault commands (chapters 16–18) -/

/-- R458: when VREF_EXT reads outside 2.500 V ± 2.0 % a calibration run fails as a whole: no channel changes its correction, every
channel of the run reports RESULT 3, VREF_BAD is set and fault 0xC3 is raised. -/
def Obligations.BadReferenceFailsTheRun : Prop :=
  ∀ (s : State) (v : Nat) (l : List CalMeas) (r : CalRun), Live s → s.cal.run = some r → v < 2450000 ∨ 2550000 < v →
    ∃ t, exec (.calRunDone v l) s = .next t ∧ t.cal.vrefBad = true ∧ counted s t 0xC3 ∧
      (∀ n, n < 73 → n ∈ r.chans → (calCh t n).result = 3) ∧
      (∀ n, n < 73 → calCh t n = { calCh s n with result := (calCh t n).result, failed := (calCh t n).failed }) ∧
      (∀ n, n < 73 → n ∉ r.chans → calCh t n = calCh s n)

/-- R457, R459, R461, R462, R464, R466, R467: CAL_RUN takes its channels, whose sensors stand meanwhile, unless one is in use or a run
is on its way; an ADC channel that measures within its limits takes its new gain and offset as targets, towards which 64 steps, one
each millisecond, move it; one that does not fails, and keeps its targets. CAL_STORE writes the targets as they stand at its arrival
into the slot not written last, and ends with the new sequence, or with fault 0xC7. -/
def Obligations.CalibrationRunsRampsAndStores : Prop :=
  (∀ (s : State) (c : Cmd) (l : List Nat), Serving s 0x0F01 c → l = calNamed (leAt (bodyOf c) 0 8) (leAt (bodyOf c) 8 2) →
    leAt (bodyOf c) 10 6 = 0 → l ≠ [] → (∀ n ∈ l, calDefined n = true ∧ calPresent s n = true ∧ calFree s n = true) →
    s.cal.run = none →
    ∃ t, exec (.calRun c) s = .next t ∧ t.cal = { s.cal with run := some { cmdId := some s.hmi.nextId, chans := l } } ∧
      (∀ n ∈ l, ∀ i, calSensor n = some i → (sensorAt t i).suspended = true) ∧
      t.hmi.inFlight = [arriving s 0x0F01 c []] ∧ calm t = calm { s with cal := t.cal, thm := t.thm }) ∧
  (∀ (s : State) (c : Cmd) (l : List Nat), Serving s 0x0F01 c → l = calNamed (leAt (bodyOf c) 0 8) (leAt (bodyOf c) 8 2) →
    leAt (bodyOf c) 10 6 = 0 → l ≠ [] → (∀ n ∈ l, calDefined n = true ∧ calPresent s n = true) → s.cal.run.isSome = true →
    ∃ t, exec (.calRun c) s = .next t ∧ Replies s t (arriving s 0x0F01 c []) .busy []) ∧
  (∀ (s : State) (c : Cmd) (l : List Nat), Serving s 0x0F01 c → l = calNamed (leAt (bodyOf c) 0 8) (leAt (bodyOf c) 8 2) →
    leAt (bodyOf c) 10 6 = 0 → (∀ n ∈ l, calDefined n = true ∧ calPresent s n = true) → s.cal.run = none →
    (∃ n ∈ l, calFree s n = false) →
    ∃ t, exec (.calRun c) s = .next t ∧ Replies s t (arriving s 0x0F01 c []) .badState []) ∧
  (∀ (s : State) (v n g : Nat) (l : List CalMeas) (r : CalRun) (m : CalMeas) (o : Int) (e : Nat), Live s →
    s.cal.run = some r → 2450000 ≤ v → v ≤ 2550000 → n < 73 → n ∈ r.chans → calIsDac n = false →
    l.find? (fun x => x.chan == n) = some m → calSolve n m = some (g, o, e) → calInside s n g o = true →
    e ≤ (calLimits s n).residMax →
    ∃ t, exec (.calRunDone v l) s = .next t ∧ t.cal.run = none ∧ t.cal.vrefBad = false ∧ (calCh t n).result = 1 ∧
      (calCh t n).tGain = g ∧ (calCh t n).tOff = o ∧ (calCh t n).step = some 0 ∧ (calCh t n).fGain = (calCh s n).aGain ∧
      tally t 0x70030 = min (tally s 0x70030 + 1) tallyMax) ∧
  (∀ (s : State) (v n : Nat) (l : List CalMeas) (r : CalRun), Live s →
    s.cal.run = some r → 2450000 ≤ v → v ≤ 2550000 → n < 73 → n ∈ r.chans →
    (∀ m g o e, l.find? (fun x => x.chan == n) = some m → calSolve n m = some (g, o, e) →
      calInside s n g o = false ∨ (calLimits s n).residMax < e) →
    ∃ t, exec (.calRunDone v l) s = .next t ∧ t.cal.run = none ∧ (calCh t n).result = 2 ∧ (calCh t n).failed = true ∧
      (calCh t n).tGain = (calCh s n).tGain ∧ (calCh t n).tOff = (calCh s n).tOff ∧ (calCh t n).aGain = (calCh s n).aGain ∧
      (calCh t n).aOff = (calCh s n).aOff) ∧
  (∀ (s : State) (v : Nat) (l : List CalMeas), Live s → s.cal.run = none → exec (.calRunDone v l) s = .next s) ∧
  (∀ s : State, Live s → s.tsc % 250000 ≠ 0 → exec .calRampStep s = .next s) ∧
  (∀ s : State, Live s → s.tsc % 250000 = 0 →
    ∃ t, exec .calRampStep s = .next t ∧ t = { s with cal := { s.cal with ch := t.cal.ch } } ∧
      (∀ n, n < 73 → (calCh s n).step = none ∨ s.tsc ≤ (calCh s n).stepAt → calCh t n = calCh s n) ∧
      (∀ n k, n < 73 → (calCh s n).step = some k → (calCh s n).stepAt < s.tsc → k < 63 → (calCh t n).step = some (k + 1) ∧
        (calCh t n).aOff = (calCh s n).fOff + Int.tdiv (((calCh s n).tOff - (calCh s n).fOff) * (k + 1)) 64) ∧
      (∀ n, n < 73 → (calCh s n).step = some 63 → (calCh s n).stepAt < s.tsc → (calCh t n).step = none ∧ (calCh t n).aGain = (calCh s n).tGain ∧
        (calCh t n).aOff = (calCh s n).tOff)) ∧
  (∀ (s : State) (c : Cmd), Serving s 0x0F02 c → s.cal.store = none →
    ∃ t r, exec (.calStore c) s = .next t ∧ t.cal.store = some r ∧ r.cmdId = s.hmi.nextId ∧ r.slotB = !s.cal.lastB ∧
      r.seq = (s.cal.seq + 1) % 2 ^ 32 ∧ r.image = calSnapshot s s.tsc r.seq ∧
      Output.flash (if r.slotB then 0x00D10000 else 0x00D00000) 2 ∈ t.outs ∧
      (if r.slotB then t.cal.slotB = [] ∧ t.cal.slotA = s.cal.slotA else t.cal.slotA = [] ∧ t.cal.slotB = s.cal.slotB) ∧
      t.hmi.inFlight = [arriving s 0x0F02 c []] ∧ calm t = calm { s with cal := t.cal }) ∧
  (∀ (s : State) (c : Cmd), Serving s 0x0F02 c → s.cal.store.isSome = true →
    ∃ t, exec (.calStore c) s = .next t ∧ Replies s t (arriving s 0x0F02 c []) .busy []) ∧
  (∀ (s : State) (r : CalStoreRun), Live s → s.cal.store = some r →
    ∃ t, exec (.calStoreDone true) s = .next t ∧ t.cal = { s.cal with
        store := none, seq := r.seq, lastB := r.slotB
        slotA := if r.slotB then s.cal.slotA else r.image
        slotB := if r.slotB then r.image else s.cal.slotB } ∧
      tally t 0x70034 = min (tally s 0x70034 + 1) tallyMax ∧
      (∀ f, s.hmi.inFlight = [f] → f.id = r.cmdId → t.hmi.inFlight = []) ∧ calm t = calm { s with cal := t.cal }) ∧
  (∀ (s : State) (r : CalStoreRun), Live s → s.cal.store = some r →
    ∃ t, exec (.calStoreDone false) s = .next t ∧ t.cal = { s.cal with store := none } ∧ counted s t 0xC7 ∧
      calm t = calm { s with cal := t.cal }) ∧
  (∀ (s : State) (ok : Bool), Live s → s.cal.store = none → exec (.calStoreDone ok) s = .next s)

/-- R471, R474–R477, R479, R481, R486, R496: at each multiple of a millisecond, once, a sample gives each present sensor its reading,
and its extremes; four misses fail it, for the die with the fatal fault 0xB4 and the light off; the fourth reading at the die's
HIGH_CRIT starts the light-path thermal stop, whose end 20 ms later puts the light path dark, parks the arrays and records fault 0xB0;
a fault that brings the safe state ends it at once. After a trip the die alone is sampled, and its readings below 95 °C counted.
THM_CLEAR_MINMAX sets a sensor's extremes to its reading. -/
def Obligations.SensorsSampleAndStopTheLight : Prop :=
  (∀ (s : State) (die : Option Int) (l : List Nat), Live s → s.tsc % 250000 ≠ 0 ∨ s.thm.sampledAt = some s.tsc →
    exec (.sensorSample die l) s = .next s) ∧
  (∀ (s : State) (die : Option Int) (l : List Nat), Awake s → s.boot.power = .tripped → s.tsc % 250000 = 0 →
    s.thm.sampledAt ≠ some s.tsc →
    exec (.sensorSample die l) s = .next { s with thm := { s.thm with
      sampledAt := some s.tsc
      cool := match die with | some v => if v < 380 then s.thm.cool + 1 else 0 | none => 0 } }) ∧
  (∀ (s : State) (die : Option Int) (l : List Nat) (i : Nat) (v : Int), Live s → s.tsc % 250000 = 0 →
    s.thm.sampledAt ≠ some s.tsc → i < 35 → sensorPresent s i = true →
    (sensorAt s i).suspended = false → (sensorAt s i).failed = false → sampleReading s die l i = some v →
    ∃ t, exec (.sensorSample die l) s = .next t ∧ (sensorAt t i).reading = v ∧ (sensorAt t i).miss = 0 ∧
      (sensorAt t i).seen = true ∧ (sensorAt t i).max = (if (sensorAt s i).seen then max (sensorAt s i).max v else v) ∧
      (sensorAt t i).min = (if (sensorAt s i).seen then min (sensorAt s i).min v else v)) ∧
  (∀ (s : State) (die : Option Int) (l : List Nat) (i : Nat), Live s → s.tsc % 250000 = 0 → s.thm.sampledAt ≠ some s.tsc → i < 35 → sensorPresent s i = true →
    (sensorAt s i).suspended = false → (sensorAt s i).failed = false → (sensorAt s i).miss = 3 → sampleReading s die l i = none →
    ∃ t, exec (.sensorSample die l) s = .next t ∧ (sensorAt t i).failed = true ∧
      (sensorAt t i).reading = (sensorAt s i).reading ∧
      tally t (sensBase i + 0x18) = min (tally s (sensBase i + 0x18) + 1) tallyMax ∧
      (i = 0 → (srcAt t 0xB4).mode = .fatal ∧ dark t.pins)) ∧
  (∀ (s : State) (die : Option Int) (l : List Nat), Live s →
    ∃ t, exec (.sensorSample die l) s = .next t ∧
      (∀ i, i < 35 → sensorPresent s i = false ∨ (sensorAt s i).suspended = true → sensorAt t i = sensorAt s i)) ∧
  (∀ (s : State) (die : Option Int) (l : List Nat) (v : Int), Live s → s.tsc % 250000 = 0 → s.thm.sampledAt ≠ some s.tsc →
    (sensorAt s 0).suspended = false →
    (sensorAt s 0).failed = false → sampleReading s die l 0 = some v → bitAt (sensorAt s 0).asserted 3 = false →
    (sensorAt s 0).up.getD 3 0 = 3 → threshLevel s 0 3 ≤ v → s.thm.stopAt = none →
    ∃ t, exec (.sensorSample die l) s = .next t ∧ bitAt (sensorAt t 0).asserted 3 = true ∧ t.thm.stop = true ∧
      t.thm.stopAt = some s.tsc ∧
      t.lsd.ramp = some { x0 := s.lsd.x, x1 := 0, start := s.tsc, len := 20 * msCycles }) ∧
  (∀ (s : State) (a : Nat), Live s → s.thm.stopAt = some a → a + 5000000 ≤ s.tsc →
    ∃ t, exec .thermalStopRampEnd s = .next t ∧ t.thm.stopAt = none ∧ t.lsd.x = 0 ∧ dark t.pins ∧
      counted s t 0xB0 ∧
      (∀ p, p < 6 → (port s p).mode = .active → domainOn s (8 + p) = true →
        (port t p).mode = .parked ∧ (port t p).cause = 16)) ∧
  (∀ s : State, Live s → s.thm.stopAt = none ∨ (∃ a, s.thm.stopAt = some a ∧ s.tsc < a + 5000000) →
    exec .thermalStopRampEnd s = .next s) ∧
  (∀ (s : State) (a : Nat) (r : FaultRec), Live s → s.pending = [] → s.boot.sysclkMissing = false → s.lsd.pulses = [] →
    s.boot.warmAt = none → s.thm.stopAt = some a → r ∈ s.flt.log → a ≤ r.tsc → bitAt r.reaction 0 = true →
    ∃ t, step s = .next t ∧ t.thm.stopAt = none ∧ t.lsd.x = 0 ∧ dark t.pins ∧ counted s t 0xB0) ∧
  (∀ (s : State) (c : Cmd), Serving s 0x1002 c →
    ∃ t, exec (.thmClearMinmax c) s = .next t ∧ Replies { s with thm := { s.thm with
      sensor := vmod s.thm.sensor c.unit.toNat (fun x => { x with max := x.reading, min := x.reading }) } } t
      (arriving s 0x1002 c []) .ok [])

/-- R482–R485: PWR_SET moves the present domains it names, in the order of R485, where no rule of R483 refuses it; with all of them in
that state it completes at once; it ends with BUSY while another is on its way, and with BAD_STATE where a domain in use would leave
ON or a parent is not ON. Power good in time brings the next domain to its state, and the last one ends the request; a domain that
does not come up in time goes OFF, with fault 0xB6, and ends it. -/
def Obligations.PowerDomainsMove : Prop :=
  (∀ (s : State) (c : Cmd) (m st : Nat) (next : Nat → DomMode) (todo : List Nat), Serving s 0x1001 c →
    m = leAt (bodyOf c) 0 8 → st = leAt (bodyOf c) 8 1 → m ≠ 0 → m < 2 ^ 36 → st ≤ 2 → leAt (bodyOf c) 9 7 = 0 →
    s.pwr.run = none → (∀ d, next d = if bitAt m d then domOf st else vget s.pwr.dom d .off) →
    (∀ d, d < 36 → bitAt m d = true → domainPresent s d = true ∧ (st = 1 → vget s.pwr.dom d .off ≠ .off)) →
    (∀ d q, d < 36 → next d = .on → domainParent d = some q → next q = .on) →
    (∀ d, d < 36 → vget s.pwr.dom d .off = .on → next d ≠ .on → domainInUse s next d = false) →
    (s.img.cfg.isSome = true → ∀ d, d < 36 → vget s.pwr.dom d .off ≠ next d →
      (next d ≠ .on → bitAt (requiredOn (cfg s)) d = false) ∧ (next d = .retain → bitAt (retainOk (cfg s)) d = true)) →
    todo = domainOrder (domOf st == .on) 36
      ((List.range 36).filter (fun d => bitAt m d && vget s.pwr.dom d .off != domOf st)) →
    ∃ t, exec (.pwrSet c) s = .next t ∧
      (todo ≠ [] → Begins { s with pwr := { s.pwr with run := some {
          cmdId := s.hmi.nextId, target := domOf st, todo := todo
          moved := maskOf ((List.range 36).map (fun d => bitAt m d && vget s.pwr.dom d .off == domOf st))
          kept := maskOf ((List.range 36).map (fun d => bitAt m d && vget s.pwr.dom d .off == domOf st))
          start := s.tsc
          since := s.tsc } } } t (arriving s 0x1001 c [])) ∧
      (todo = [] → t.pwr = s.pwr ∧ t.hmi.inFlight = [] ∧ tally t 0x5001C = min (tally s 0x5001C + 1) tallyMax)) ∧
  (∀ (s : State) (c : Cmd) (m : Nat), Serving s 0x1001 c → m = leAt (bodyOf c) 0 8 → m ≠ 0 → m < 2 ^ 36 →
    leAt (bodyOf c) 8 1 ≤ 2 → leAt (bodyOf c) 9 7 = 0 → (∀ d, d < 36 → bitAt m d = true → domainPresent s d = true) →
    s.pwr.run.isSome = true → ∃ t, exec (.pwrSet c) s = .next t ∧ Replies s t (arriving s 0x1001 c []) .busy []) ∧
  (∀ (s : State) (c : Cmd) (m : Nat) (next : Nat → DomMode), Serving s 0x1001 c → m = leAt (bodyOf c) 0 8 → m ≠ 0 → m < 2 ^ 36 →
    leAt (bodyOf c) 8 1 ≤ 2 → leAt (bodyOf c) 9 7 = 0 → (∀ d, d < 36 → bitAt m d = true → domainPresent s d = true) →
    s.pwr.run = none → (∀ d, next d = if bitAt m d then domOf (leAt (bodyOf c) 8 1) else vget s.pwr.dom d .off) →
    (∃ d, d < 36 ∧ vget s.pwr.dom d .off = .on ∧ next d ≠ .on ∧ domainInUse s next d = true) ∨
      (∃ d q, d < 36 ∧ next d = .on ∧ domainParent d = some q ∧ next q ≠ .on) →
    ∃ t, exec (.pwrSet c) s = .next t ∧ Replies s t (arriving s 0x1001 c []) .badState []) ∧
  (∀ (s : State) (r : PwrRun) (d e : Nat) (l : List Nat), Live s → s.pwr.run = some r → r.todo = d :: e :: l → d < 36 →
    s.tsc ≤ domainLimit s r d →
    ∃ t, exec .domainPowerGood s = .next t ∧ vget t.pwr.dom d .off = r.target ∧
      (∀ x, x < 36 → x ≠ d → vget t.pwr.dom x .off = vget s.pwr.dom x .off) ∧
      t.pwr.run = some { r with todo := e :: l, moved := r.moved ||| 2 ^ d, since := s.tsc }) ∧
  (∀ (s : State) (r : PwrRun) (d : Nat), Live s → s.pwr.run = some r → r.todo = [d] → d < 36 →
    s.tsc ≤ domainLimit s r d →
    ∃ t, exec .domainPowerGood s = .next t ∧ vget t.pwr.dom d .off = r.target ∧
      (∀ x, x < 36 → x ≠ d → vget t.pwr.dom x .off = vget s.pwr.dom x .off) ∧ t.pwr.run = none ∧
      tally t 0x5001C = min (tally s 0x5001C + 1) tallyMax) ∧
  (∀ (s : State) (r : PwrRun) (d : Nat) (l : List Nat), Live s → s.pwr.run = some r → r.todo = d :: l →
    (domainLimit s r d < s.tsc → exec .domainPowerGood s = .next s) ∧
    (s.tsc < domainLimit s r d → exec .domainTimeout s = .next s)) ∧
  (∀ (s : State) (r : PwrRun) (d : Nat) (l : List Nat), Live s → s.pwr.run = some r → r.todo = d :: l → d < 36 →
    domainLimit s r d ≤ s.tsc →
    ∃ t, exec .domainTimeout s = .next t ∧ vget t.pwr.dom d .off = .off ∧
      (∀ x, x < 36 → x ≠ d → vget t.pwr.dom x .off = vget s.pwr.dom x .off) ∧ t.pwr.run = none ∧
      tally t 0x50020 = min (tally s 0x50020 + 1) tallyMax ∧ counted s t 0xB6) ∧
  (∀ s : State, Live s → s.pwr.run = none → exec .domainPowerGood s = .next s ∧ exec .domainTimeout s = .next s)

/-- R421, R510–R513: FLT_INJECT arms an injection on the read, write and line sources, and records one of any other at once: without
REACT it is counted, completes with its record's number, and changes nothing else; with REACT it leaves its source pending.
FLT_READ_LOG answers the record it names. -/
def Obligations.InjectionsAndTheLog : Prop :=
  (∀ (s : State) (c : Cmd) (src : Nat), Serving s 0x1101 c → src = byteAt (bodyOf c) 0 → injectPayloadOk (bodyOf c) = true →
    sourceAbsent s src = false → bitAt (regN s 0x40004) 0 = true → inSwitch s = false → (srcAt s src).armed = none →
    src = 0x21 ∨ src = 0x40 ∨ src = 0xA0 →
    ∃ t, exec (.fltInject c) s = .next t ∧ Answers s t (arriving s 0x1101 c []) .ok (leBytes 4 0) ∧
      (srcAt t src).armed = some {
        address := leAt (bodyOf c) 8 8, master := leAt (bodyOf c) 2 2, react := bitAt (byteAt (bodyOf c) 1) 0 } ∧
      (srcAt t src).pending = (srcAt s src).pending ∧ calm t = calm s) ∧
  (∀ (s : State) (c : Cmd) (src : Nat), Serving s 0x1101 c → src = byteAt (bodyOf c) 0 → injectPayloadOk (bodyOf c) = true →
    sourceAbsent s src = false → bitAt (regN s 0x40004) 0 = true → inSwitch s = false → (srcAt s src).armed = none →
    src ≠ 0x21 → src ≠ 0x40 → src ≠ 0xA0 → bitAt (byteAt (bodyOf c) 1) 0 = false →
    ∃ t q, exec (.fltInject c) s = .next t ∧ Answers s t (arriving s 0x1101 c []) .ok (leBytes 4 q) ∧
      (src ≠ 0x12 → counted s t src ∧ (srcAt t src).mode = (srcAt s src).mode ∧ (srcAt t src).lastSeq = q) ∧
      calm t = calm s ∧ (∀ a, a < reservedBase s → rd t a = rd s a)) ∧
  (∀ (s : State) (c : Cmd) (src : Nat), Serving s 0x1101 c → src = byteAt (bodyOf c) 0 → injectPayloadOk (bodyOf c) = true →
    sourceAbsent s src = false → bitAt (regN s 0x40004) 0 = true → inSwitch s = false → (srcAt s src).armed = none →
    src ≠ 0x21 → src ≠ 0x40 → src ≠ 0xA0 → bitAt (byteAt (bodyOf c) 1) 0 = true → (sourceCfg s src).1 ≠ 0 →
    ∃ t, exec (.fltInject c) s = .next t ∧ (srcAt t src).pending = true ∧ PinsDown s t) ∧
  (∀ (s : State) (c : Cmd), Serving s 0x1101 c → injectPayloadOk (bodyOf c) = true →
    sourceAbsent s (byteAt (bodyOf c) 0) = false → bitAt (regN s 0x40004) 0 = false →
    ∃ t, exec (.fltInject c) s = .next t ∧ Replies s t (arriving s 0x1101 c []) .badState []) ∧
  (∀ (s : State) (c : Cmd) (r : FaultRec), Serving s 0x1102 c →
    (s.flt.log ++ s.flt.ext).find? (fun r => r.seq == leAt (bodyOf c) 0 4 && decide (leAt (bodyOf c) 0 4 ≠ 0)) = some r →
    ∃ t, exec (.fltReadLog c) s = .next t ∧ Replies s t (arriving s 0x1102 c []) .ok (recBytes r)) ∧
  (∀ (s : State) (c : Cmd), Serving s 0x1102 c → (∀ r ∈ s.flt.log ++ s.flt.ext, r.seq ≠ leAt (bodyOf c) 0 4) →
    ∃ t, exec (.fltReadLog c) s = .next t ∧ Replies s t (arriving s 0x1102 c []) .outOfRange [])


/-! ### Composition, highlight passes and builders (chapters 5–7, 12) -/

/-- R175, R176, R182: a layer command that passes its checks replaces the named part of the layer's shadow, or makes a waiting
pending state ready from its own arrival on, and changes nothing else; it completes with OK. With FTG0 stopped, or on a layer that
the image does not enable, it ends with BAD_STATE; a payload whose fields do not encode a surface or a geometry is OUT_OF_RANGE. -/
def Obligations.LayerCommandsTakeEffect : Prop :=
  (∀ (s : State) (c : Cmd), Serving s 0x0401 c → s.ftgOn = true → layerEnabled s c.unit.toNat = true →
    surfaceEncOk (bodyOf c) = true →
    ∃ t, exec (.cmpLayerSurface c) s = .next t ∧
      Replies { s with cmp := { s.cmp with layers := vmod s.cmp.layers c.unit.toNat (fun x =>
        { x with shadow := { x.shadow with surf := surfaceOf (bodyOf c) } }) } } t (arriving s 0x0401 c []) .ok []) ∧
  (∀ (s : State) (c : Cmd), Serving s 0x0402 c → s.ftgOn = true → layerEnabled s c.unit.toNat = true →
    geomEncOk c.unit.toNat (bodyOf c) = true →
    ∃ t, exec (.cmpLayerGeom c) s = .next t ∧
      Replies { s with cmp := { s.cmp with layers := vmod s.cmp.layers c.unit.toNat (fun x =>
        { x with shadow := { x.shadow with geom := geomOf (bodyOf c) } }) } } t (arriving s 0x0402 c []) .ok []) ∧
  (∀ (s : State) (c : Cmd) (q : PendSt), Serving s 0x0404 c → layerEnabled s c.unit.toNat = true →
    (vget s.cmp.layers c.unit.toNat {}).pend = some q → q.wait = true → q.ready = false →
    q.st.surf.bufferId = leAt (bodyOf c) 0 2 →
    ∃ t, exec (.cmpLayerReady c) s = .next t ∧
      Replies { s with cmp := { s.cmp with layers := vmod s.cmp.layers c.unit.toNat (fun x =>
        { x with pend := some { q with ready := true, readyAt := s.tsc } }) } } t (arriving s 0x0404 c []) .ok []) ∧
  (∀ (s : State) (c : Cmd), Serving s 0x0401 c → surfaceEncOk (bodyOf c) = true →
    s.ftgOn = false ∨ layerEnabled s c.unit.toNat = false →
    ∃ t, exec (.cmpLayerSurface c) s = .next t ∧ Replies s t (arriving s 0x0401 c []) .badState []) ∧
  (∀ (s : State) (c : Cmd), Serving s 0x0401 c → surfaceEncOk (bodyOf c) = false →
    ∃ t, exec (.cmpLayerSurface c) s = .next t ∧ Replies s t (arriving s 0x0401 c []) .outOfRange []) ∧
  (∀ (s : State) (c : Cmd), Serving s 0x0402 c → geomEncOk c.unit.toNat (bodyOf c) = true →
    s.ftgOn = false ∨ layerEnabled s c.unit.toNat = false →
    ∃ t, exec (.cmpLayerGeom c) s = .next t ∧ Replies s t (arriving s 0x0402 c []) .badState []) ∧
  (∀ (s : State) (c : Cmd), Serving s 0x0402 c → geomEncOk c.unit.toNat (bodyOf c) = false →
    ∃ t, exec (.cmpLayerGeom c) s = .next t ∧ Replies s t (arriving s 0x0402 c []) .outOfRange []) ∧
  (∀ (s : State) (c : Cmd), Serving s 0x0404 c → layerEnabled s c.unit.toNat = false ∨
    (∀ q, (vget s.cmp.layers c.unit.toNat {}).pend = some q →
      q.wait = false ∨ q.ready = true ∨ q.st.surf.bufferId ≠ leAt (bodyOf c) 0 2) →
    ∃ t, exec (.cmpLayerReady c) s = .next t ∧ Replies s t (arriving s 0x0404 c []) .badState [])

/-- R178–R180, R410: a commit that passes the steps of R179, with no host write behind its doorbell, completes with OK and its
sequence number; the shadow of every layer of UPDATE_MASK becomes that layer's pending state, those of the other layers stay,
and the stale episode ends. Beside the composer and the verification unit's clock nothing changes. A commit that a check refuses
changes nothing but the record of the last rejection, and its result names the step and the layer that failed: step 1 with FTG0
stopped, step 2 for a layer of the mask that is absent or not enabled, steps 3 to 7 for the first layer that fails one; one whose
reserved bytes or WAIT_MASK are not as its version allows is OUT_OF_RANGE with no step. -/
def Obligations.AcceptedCommitMergesShadows : Prop :=
  (∀ (s : State) (c : Cmd) (p : List Byte), p = bodyOf c → Serving s 0x0403 c →
    commitShut s s.tsc = false → s.cmp.writes = [] →
    commitPayloadOk (decide ((arriving s 0x0403 c []).ver.major = 1)) p = true →
    maskCheck s (leAt p 0 2) = none → leAt p 2 2 &&& leAt p 0 2 = leAt p 2 2 →
    (∀ l, l < 16 → bitAt (leAt p 0 2) l = true → layerCheck s l = none) →
    fetchBudget s (mergeLayers s (leAt p 0 2) (leAt p 2 2) 0 s.tsc ((List.range 7).map (fun i => leAt p (8 + 2 * i) 2)))
      ≤ (cfg s).canvas.fetchAllotment →
    ∃ t, exec (.cmpCommit c) s = .next t ∧
      Answers s t (arriving s 0x0403 c []) .ok (commitResult (s.cmp.commitSeq + 1) t.cmp.fetchLast 0 255) ∧
      t.cmp.commitSeq = s.cmp.commitSeq + 1 ∧
      (∀ l, l < 16 → bitAt (leAt p 0 2) l = true → (vget t.cmp.layers l {}).pend = some {
        st := (vget s.cmp.layers l {}).shadow, wait := bitAt (leAt p 2 2) l, ready := false, seq := s.cmp.commitSeq + 1
        arrival := s.tsc, changed := (List.range 7).map (fun i => leAt p (8 + 2 * i) 2) }) ∧
      (∀ l, bitAt (leAt p 0 2) l = false → vget t.cmp.layers l {} = vget s.cmp.layers l {}) ∧
      t.ver.stale = false ∧
      calm t = calm { s with cmp := t.cmp, ver := t.ver } ∧ (∀ a, a < reservedBase s → rd t a = rd s a)) ∧
  (∀ (s : State) (c : Cmd), Serving s 0x0403 c →
    commitPayloadOk (decide ((arriving s 0x0403 c []).ver.major = 1)) (bodyOf c) = true →
    s.ftgOn = false → s.cmp.stoppedAt ≤ s.tsc →
    ∃ t, exec (.cmpCommit c) s = .next t ∧
      Replies { s with cmp := { s.cmp with rejStatus := Status.badState.code, rejLayer := 255, rejReason := 1 } } t
        (arriving s 0x0403 c []) .badState (commitResult 0 0 1 255)) ∧
  (∀ (s : State) (c : Cmd) (l : Nat) (st : Status), Serving s 0x0403 c → commitShut s s.tsc = false →
    commitPayloadOk (decide ((arriving s 0x0403 c []).ver.major = 1)) (bodyOf c) = true →
    maskCheck s (leAt (bodyOf c) 0 2) = some (l, st) →
    ∃ t, exec (.cmpCommit c) s = .next t ∧
      Replies { s with cmp := { s.cmp with rejStatus := st.code, rejLayer := l, rejReason := 2 } } t
        (arriving s 0x0403 c []) st (commitResult 0 0 2 l)) ∧
  (∀ (s : State) (c : Cmd) (l step : Nat) (st : Status), Serving s 0x0403 c → commitShut s s.tsc = false →
    commitPayloadOk (decide ((arriving s 0x0403 c []).ver.major = 1)) (bodyOf c) = true →
    maskCheck s (leAt (bodyOf c) 0 2) = none → leAt (bodyOf c) 2 2 &&& leAt (bodyOf c) 0 2 = leAt (bodyOf c) 2 2 →
    l < 16 → bitAt (leAt (bodyOf c) 0 2) l = true → layerCheck s l = some (step, st) →
    (∀ j, j < l → bitAt (leAt (bodyOf c) 0 2) j = true → layerCheck s j = none) →
    ∃ t, exec (.cmpCommit c) s = .next t ∧
      Replies { s with cmp := { s.cmp with rejStatus := st.code, rejLayer := l, rejReason := step } } t
        (arriving s 0x0403 c []) st (commitResult 0 0 step l)) ∧
  (∀ (s : State) (c : Cmd), Serving s 0x0403 c →
    commitPayloadOk (decide ((arriving s 0x0403 c []).ver.major = 1)) (bodyOf c) = false →
    ∃ t, exec (.cmpCommit c) s = .next t ∧
      Replies s t (arriving s 0x0403 c []) .outOfRange (commitResult 0 0 0 255))

/-- R39, R195: in the cycle in which a line period ends, the line counter of its generator advances by 1; in any other the row
does nothing. A layer's requests become urgent when its fill falls below URGENT_KB, which counts, and calm when it reaches
CALM_KB; a fill that crosses neither watermark changes nothing. R181–R184: in the first cycle of the latch line, with no command
that arrived before it still to be fetched, every pending state whose commit arrived before it, and that does not wait for a
ready, becomes the layer's current state; a layer late, or whose commit arrived later, keeps both; a commit since the last latch
starts a pass, and with none and no state to take the pass in hand stays. Only the composer, the colour pipeline's gains, the
builders' slots, the verification unit and the scanner's pass change. While such a command is still to be fetched, the latch
waits, with its stamp. In any other cycle, and with the frame's latch past, the row does nothing. -/
def Obligations.LinesWatermarksAndTheLatch : Prop :=
  (∀ s : State, Live s → lineDue s 0 = true →
    ∃ t, exec (.lineStart 0) s = .next t ∧ t.reports = [] ∧
      Records { s with ftg := { s.ftg with line := (s.ftg.line + 1) % 2 ^ 24, lineAt := s.tsc } } t) ∧
  (∀ s : State, Live s → lineDue s 1 = true →
    ∃ t, exec (.lineStart 1) s = .next t ∧ t.reports = [] ∧
      Records { s with ftg := { s.ftg with line1 := (s.ftg.line1 + 1) % 2 ^ 24, lineAt1 := s.tsc } } t) ∧
  (∀ (s : State) (f : Fin 2), Live s → lineDue s f.val = false → exec (.lineStart f) s = .next s) ∧
  (∀ (s : State) (l : Fin 16) (fill : Nat) (errs : DramErrs), Live s → (vget s.cmp.layers l.val {}).urgent = false →
    fill < bits (regN s 0x20001C) 5 0 →
    ∃ t, exec (.fetchBufferWatermark l fill errs) s = .next t ∧ (vget t.cmp.layers l.val {}).urgent = true ∧
      tally t 0x200038 = min (tally s 0x200038 + 1) tallyMax ∧
      (errs = {} → calm t = calm { s with cmp := { s.cmp with
        layers := vmod s.cmp.layers l.val (fun y => { y with urgent := true }) } })) ∧
  (∀ (s : State) (l : Fin 16) (fill : Nat) (errs : DramErrs), Live s → (vget s.cmp.layers l.val {}).urgent = true →
    bits (regN s 0x20001C) 13 8 ≤ fill →
    ∃ t, exec (.fetchBufferWatermark l fill errs) s = .next t ∧ (vget t.cmp.layers l.val {}).urgent = false ∧
      (errs = {} → t = { s with cmp := { s.cmp with
        layers := vmod s.cmp.layers l.val (fun y => { y with urgent := false }) } })) ∧
  (∀ (s : State) (l : Fin 16) (fill : Nat), Live s →
    (if (vget s.cmp.layers l.val {}).urgent then fill < bits (regN s 0x20001C) 13 8 else bits (regN s 0x20001C) 5 0 ≤ fill) →
    exec (.fetchBufferWatermark l fill {}) s = .next s) ∧
  (∀ s : State, Live s → latchDue s = true → s.cmp.latchStamp = none → underCheck s s.tsc = false →
    ∃ t, exec .latchLine s = .next t ∧ t.cmp.latchStamp = some s.tsc ∧
      (∀ l q, l < 16 → (vget s.cmp.layers l {}).pend = some q → q.arrival < s.tsc →
        (q.wait = true → q.ready = true ∧ q.readyAt < s.tsc) →
        (vget t.cmp.layers l {}).cur = q.st ∧ (vget t.cmp.layers l {}).pend = none) ∧
      (∀ l q, l < 16 → (vget s.cmp.layers l {}).pend = some q →
        s.tsc ≤ q.arrival ∨ (q.wait = true ∧ (q.ready = false ∨ s.tsc ≤ q.readyAt)) →
        vget t.cmp.layers l {} = vget s.cmp.layers l {}) ∧
      (∀ l, (vget s.cmp.layers l {}).pend = none → vget t.cmp.layers l {} = vget s.cmp.layers l {}) ∧
      ((∃ e ∈ s.cmp.commits, e.arrival < s.tsc) →
        ∃ p, t.cmp.pass = some p ∧ p.mode = .running ∧ p.line = 0 ∧ p.start = s.tsc ∧ p.no = s.cmp.takeNo + 1) ∧
      ((∀ e ∈ s.cmp.commits, s.tsc ≤ e.arrival) →
        (∀ l q, l < 16 → (vget s.cmp.layers l {}).pend = some q →
          s.tsc ≤ q.arrival ∨ (q.wait = true ∧ (q.ready = false ∨ s.tsc ≤ q.readyAt))) →
        t.cmp.pass = s.cmp.pass) ∧
      calm t = calm { s with cmp := t.cmp, clr := t.clr, pbu := t.pbu, ver := t.ver, hls := t.hls } ∧
      (∀ a, a < reservedBase s → rd t a = rd s a)) ∧
  (∀ s : State, Live s → latchDue s = true → s.cmp.latchStamp = none → underCheck s s.tsc = true →
    exec .latchLine s = .next { s with cmp := { s.cmp with
      latchStamp := some s.tsc, latchWait := some (s.tsc, s.frame, s.cmp.commitSeq) } }) ∧
  (∀ s : State, Live s → latchDue s = false ∨ s.cmp.latchStamp.isSome = true → exec .latchLine s = .next s)

/-- R158, R198–R200, R246: a pass that runs dry on a layer, or at a row store row that is not free, is counted and reported by
fault 0x30. While it can still end by the decision point of boundary 15 it restarts from line 0 with the same latched states;
otherwise it is abandoned with fault 0x31 and waits for a later frame. The builders' slots begin anew. Where no KTC tile that it
fetched was in error, the composer's pass and the builders apart nothing changes. With no pass running, or a row free in the row
store, the row does nothing. R203, R220, R379: the last line of a pass completes it and inverts CARRY_READ; a corrected error of
the composition stores met in it is fault 0x32, an uncorrectable one fault 0x33. A highlight pass that ends is done, whatever
errors its reads met. Below the reserved area a pass writes the carry buffer it does not read, and nothing else. With no such
pass the rows do nothing. -/
def Obligations.PassesRestartAndComplete : Prop :=
  (∀ (s : State) (layer : Option (Fin 16)) (line : Nat) (p : Pass), Live s → s.cmp.pass = some p → p.mode = .running →
    layer ≠ none ∨ ringRowFree s line = false →
    ∃ t, exec (.composerDry layer line) s = .next t ∧ counted s t 0x30 ∧
      tally t 0x200028 = min (tally s 0x200028 + 1) tallyMax ∧
      (s.tsc + passCycles s ≤ lastDecision s →
        t.cmp = { s.cmp with pass := some { p with mode := .running, line := 0, start := s.tsc, held := [] } } ∧
        t.pbu = (beginBuild s p.no).pbu ∧ tally t 0x20002C = min (tally s 0x20002C + 1) tallyMax) ∧
      (lastDecision s < s.tsc + passCycles s →
        t.cmp = { s.cmp with pass := some { p with mode := .waiting, line := line } } ∧ t.pbu = (beginBuild s 0).pbu ∧
        tally t 0x200030 = min (tally s 0x200030 + 1) tallyMax ∧ counted s t 0x31) ∧
      (ktcErrors s { p with line := line } (line + 1) = 0 → calm t = calm { s with cmp := t.cmp, pbu := t.pbu }) ∧
      (∀ a, a < reservedBase s → rd t a = rd s a)) ∧
  (∀ (s : State) (layer : Option (Fin 16)) (line : Nat), Live s → s.cmp.pass.all (fun p => p.mode != .running) = true →
    exec (.composerDry layer line) s = .next s) ∧
  (∀ (s : State) (line : Nat), Live s → ringRowFree s line = true → exec (.composerDry none line) s = .next s) ∧
  (∀ (s : State) (p : Pass) (e : StoreError), Live s → s.cmp.pass = some p → p.mode = .running →
    ∃ t z, exec (.passComplete e) s = .next t ∧
      t.cmp = { s.cmp with
        pass := some { p with mode := .complete, line := (cfg s).canvas.height, zeroed := p.zeroed ++ z } } ∧
      ((srcAt s 0x21).armed = none → z = []) ∧
      t.clr = { s.clr with carryRead := !p.carryIn } ∧ PinsDown s t ∧
      (e = .corrected → counted s t 0x32) ∧ (e = .uncorrectable → counted s t 0x33) ∧
      calm t = calm { s with
        cmp := t.cmp, clr := t.clr, ver := t.ver, lsd := t.lsd, pins := t.pins, lpe := t.lpe, plk := t.plk, rck := t.rck,
        hls := t.hls, mem := t.mem } ∧
      (∀ a, a < reservedBase s → (cfg s).canvas.carryEnable ≠ 1 ∨ a < carryAddr s (!p.carryIn) 0 0 ∨
        carryAddr s (!p.carryIn) 0 (cfg s).canvas.height ≤ a → rd t a = rd s a)) ∧
  (∀ (s : State) (e : StoreError), Live s → s.cmp.pass.all (fun p => p.mode != .running) = true →
    exec (.passComplete e) s = .next s) ∧
  (∀ (s : State) (p : HlPass) (bad : List Nat) (errs : DramErrs), Live s → s.hls.pass = some p →
    ∃ t, exec (.highlightPassDone bad errs) s = .next t ∧ PinsDown s t ∧
      t.hls.pass = none ∧ t.hls.passDone = true ∧ t.hls.passNs = (s.tsc - p.start) * 4 % 2 ^ 32 ∧
      calm t = calm { s with
        ver := t.ver, lsd := t.lsd, pins := t.pins, lpe := t.lpe, plk := t.plk, rck := t.rck, hls := t.hls, mem := t.mem } ∧
      (∀ a, a < reservedBase s → rd t a = rd s a)) ∧
  (∀ (s : State) (bad : List Nat) (errs : DramErrs), Live s → s.hls.pass = none →
    exec (.highlightPassDone bad errs) s = .next s)

/-- R242, R244, R249–R251, R258: a slot starts its tile once the tile's first row is in the row store; a tile at its time whose
output residues are its input residues, with no injection armed, is built and the slot goes on to its next one. One whose residues
differ fails, which the end of the cycle acts on: with a spare left the builder is fenced with fault 0x40, and the lowest-numbered
spare takes the slot and repeats the tile; with none the builder is fenced and the slot's tiles are abandoned. A row for a tile that
does not run, or not at its time, does nothing. PBU_TEST runs on a builder that no slot maps in a quarter that is ON, and ends with
BAD_STATE on a mapped one; its end frees or fences the builder, unless a slot has taken it meanwhile, and answers with the
residue. -/
def Obligations.BuildersWork : Prop :=
  (∀ (s : State) (sl : Fin 22) (p : Pass) (e : TileCfg), Live s → s.cmp.pass = some p → slotTile s sl.val = some e →
    buildsPass s p = true → (vget s.pbu.slots sl.val {}).phys.isSome = true →
    (vget s.pbu.slots sl.val {}).running = false → (vget s.pbu.slots sl.val {}).abandoned = false → s.pbu.belowMin = false →
    firstRowIn s p e = true → (∀ f ∈ s.pbu.failing, f.slot ≠ sl.val) →
    exec (.tileStart sl) s = .next { s with pbu := { s.pbu with
      slots := vmod s.pbu.slots sl.val (fun x => { x with running := true, start := s.tsc }) } }) ∧
  (∀ (s : State) (sl : Fin 22) (p : Pass) (e : TileCfg), Live s → s.cmp.pass = some p → slotTile s sl.val = some e →
    firstRowIn s p e = false ∨ (vget s.pbu.slots sl.val {}).running = true → exec (.tileStart sl) s = .next s) ∧
  (∀ (s : State) (sl : Fin 22) (p : Pass) (e : TileCfg) (b : Nat) (l : List (BitVec 32)), Live s → s.cmp.pass = some p →
    slotTile s sl.val = some e → (vget s.pbu.slots sl.val {}).phys = some b → (vget s.pbu.slots sl.val {}).running = true →
    tileDue s p e (vget s.pbu.slots sl.val {}).start = true →
    l.map (·.toNat) = inputResidues s p e.port e.band → armedOn s 0x40 b = none →
    ∃ t, exec (.tileBuilt sl l) s = .next t ∧ t.reports = [] ∧ t.pbu.built = (e.port, e.band) :: s.pbu.built ∧
      vget t.pbu.slots sl.val {} =
        { vget s.pbu.slots sl.val {} with running := false, seq := (vget s.pbu.slots sl.val {}).seq + 1 } ∧
      t.pbu.failing = s.pbu.failing ∧ t.pbu.fenced = s.pbu.fenced ∧ calm t = calm { s with pbu := t.pbu } ∧
      (∀ a, a < reservedBase s → (∀ row q, row < (linkCfg s e.port).blockRows → q < planesPerBand (portPrimary s e.port) →
        a < planeAddr (cfg s) (if bitAt s.pbu.shown e.port then 0 else 1) e.port e.band q
          + row * planeStride (linkCfg s e.port).width ∨
        planeAddr (cfg s) (if bitAt s.pbu.shown e.port then 0 else 1) e.port e.band q
          + row * planeStride (linkCfg s e.port).width + planeStride (linkCfg s e.port).width ≤ a) → rd t a = rd s a)) ∧
  (∀ (s : State) (sl : Fin 22) (p : Pass) (e : TileCfg) (b : Nat) (l : List (BitVec 32)), Live s → s.cmp.pass = some p →
    slotTile s sl.val = some e → (vget s.pbu.slots sl.val {}).phys = some b → (vget s.pbu.slots sl.val {}).running = true →
    tileDue s p e (vget s.pbu.slots sl.val {}).start = true →
    l.map (·.toNat) ≠ inputResidues s p e.port e.band → armedOn s 0x40 b = none →
    ∃ t, exec (.tileBuilt sl l) s = .next t ∧ t.reports = [] ∧ t.pbu.built = s.pbu.built ∧
      t.pbu.failing = s.pbu.failing ++
        [{ slot := sl.val, phys := b, port := e.port, band := e.band, real := true, inj := none, pass := p.no }] ∧
      vget t.pbu.slots sl.val {} = { vget s.pbu.slots sl.val {} with running := false } ∧ calm t = calm { s with pbu := t.pbu }) ∧
  (∀ (s : State) (sl : Fin 22) (l : List (BitVec 32)), Live s → (vget s.pbu.slots sl.val {}).running = false ∨
    (∀ p e, s.cmp.pass = some p → slotTile s sl.val = some e → tileDue s p e (vget s.pbu.slots sl.val {}).start = false) →
    exec (.tileBuilt sl l) s = .next s) ∧
  (∀ (s : State) (f : FailedTile) (p : Pass) (sp : Nat) (l : List Nat), s.pending = [] → s.boot.power = .running →
    s.boot.sysclkMissing = false → NothingDue { s with pbu := { s.pbu with failing := [] } } → s.pbu.failing = [f] →
    f.slot < 22 → f.real = true → f.inj = none → s.cmp.pass = some p → buildsPass s p = true → f.pass = p.no →
    spares s = sp :: l →
    ∃ t, step s = .next t ∧ counted s t 0x40 ∧ tally t 0x380034 = min (tally s 0x380034 + 1) tallyMax ∧
      t.pbu = { s.pbu with
        failing := [], fenced := vset s.pbu.fenced f.phys true
        slots := vmod s.pbu.slots f.slot (fun x => { x with phys := some sp, running := true, start := s.tsc }) }) ∧
  (∀ (s : State) (f : FailedTile), s.pending = [] → s.boot.power = .running →
    s.boot.sysclkMissing = false → NothingDue { s with pbu := { s.pbu with failing := [] } } → s.pbu.failing = [f] →
    f.slot < 22 → f.real = true → f.inj = none → spares s = [] →
    ∃ t, step s = .next t ∧ t.pbu.failing = [] ∧ t.pbu.fenced = vset s.pbu.fenced f.phys true ∧
      t.pbu.slots = vmod s.pbu.slots f.slot (fun x => { x with abandoned := true, running := false, phys := none }) ∧
      (counted s t 0x41 ∨ (counted s t 0x42 ∧ t.pbu.belowMin = true))) ∧
  (∀ (s : State) (c : Cmd), Serving s 0x0601 c → builderMapped s c.unit.toNat = false →
    domainOn s (builderDomain c.unit.toNat) = true →
    ∃ t, exec (.pbuTest c) s = .next t ∧
      Begins { s with pbu := { s.pbu with tests := s.pbu.tests ++ [(c.unit.toNat, s.hmi.nextId)] } } t
        (arriving s 0x0601 c [])) ∧
  (∀ (s : State) (c : Cmd), Serving s 0x0601 c → builderMapped s c.unit.toNat = true →
    ∃ t, exec (.pbuTest c) s = .next t ∧ Replies s t (arriving s 0x0601 c []) .badState []) ∧
  (∀ (s : State) (n : Fin 24) (id : Nat) (residue : BitVec 32), Live s →
    s.pbu.tests.find? (fun e => e.1 == n.val) = some (n.val, id) →
    ∃ t, exec (.pbuTestDone n residue) s = .next t ∧ t.reports = [] ∧
      t.pbu.tests = s.pbu.tests.filter (fun e => e.1 != n.val) ∧
      t.pbu.fenced =
        (if builderMapped s n.val then s.pbu.fenced else vset s.pbu.fenced n.val (!(residue.toNat == testResidue))) ∧
      t.hmi.inFlight.all (fun f => f.id != id || f.done.isSome) = true ∧
      calm t = calm { s with pbu := t.pbu }) ∧
  (∀ (s : State) (n : Fin 24) (residue : BitVec 32), Live s → (∀ e ∈ s.pbu.tests, e.1 ≠ n.val) →
    exec (.pbuTestDone n residue) s = .next s)
end

