-- ==== Sys2Proof/Laws/Maps.lean ====
section
/-! SUPPORT. Sparse maps: what a write leaves at every key, and that it keeps the canonical form. -/

namespace Sys2Proof.Machine

variable {α : Type} [DecidableEq α] {dflt : Nat → α}

/-- A map whose keys all lie above `k` reads its default at `k`. -/
theorem mapGet_below {m : List (Nat × α)} {lo k : Nat} (h : mapWfFrom dflt lo m = true) (hk : k < lo) :
    mapGet dflt m k = dflt k := by
  induction m generalizing lo with
  | nil => rfl
  | cons e t ih =>
    obtain ⟨j, a⟩ := e
    simp only [mapWfFrom, Bool.and_eq_true, decide_eq_true_eq] at h
    simp only [mapGet]
    rw [if_neg (by omega)]
    exact ih h.2 (by omega)

/-- The canonical form from a bound holds from every lower one. -/
theorem mapWfFrom_mono {m : List (Nat × α)} {lo lo' : Nat} (h : mapWfFrom dflt lo m = true) (hl : lo' ≤ lo) :
    mapWfFrom dflt lo' m = true := by
  cases m with
  | nil => rfl
  | cons e t =>
    obtain ⟨j, a⟩ := e
    simp only [mapWfFrom, Bool.and_eq_true, decide_eq_true_eq] at h ⊢
    exact ⟨⟨by omega, h.1.2⟩, h.2⟩

/-- A write leaves at its key what was written, in a canonical map. -/
theorem mapGet_mapSet_same {m : List (Nat × α)} {lo : Nat} (h : mapWfFrom dflt lo m = true) (k : Nat) (a : α) :
    mapGet dflt (mapSet dflt m k a) k = a := by
  induction m generalizing lo with
  | nil => simp only [mapSet]; split <;> simp_all [mapGet]
  | cons e t ih =>
    obtain ⟨j, b⟩ := e
    simp only [mapWfFrom, Bool.and_eq_true, decide_eq_true_eq] at h
    have ht : k ≤ j → mapGet dflt t k = dflt k := fun hk => mapGet_below h.2 (by omega)
    simp only [mapSet]
    rcases Nat.lt_trichotomy k j with hk | hk | hk
    · rw [if_pos hk]
      split
      · rw [mapGet, if_neg (by omega), ht (by omega)]; simp_all
      · simp [mapGet]
    · subst hk
      rw [if_neg (by omega), if_pos rfl]
      split
      · rw [ht (by omega)]; simp_all
      · simp [mapGet]
    · rw [if_neg (by omega), if_neg (by omega), mapGet, if_neg (by omega)]
      exact ih h.2

/-- A write of something else than the default leaves at its key what was written, in any map. -/
theorem mapGet_mapSet_listed (m : List (Nat × α)) (k : Nat) {a : α} (h : a ≠ dflt k) :
    mapGet dflt (mapSet dflt m k a) k = a := by
  induction m with
  | nil => simp [mapSet, h, mapGet]
  | cons e t ih =>
    obtain ⟨j, b⟩ := e
    simp only [mapSet, h, if_false]
    split
    · simp [mapGet]
    · split
      · simp [mapGet]
      · simp only [mapGet]; rw [if_neg (by omega)]; exact ih

/-- A write leaves every other key as it was. -/
theorem mapGet_mapSet_ne (m : List (Nat × α)) {k i : Nat} (a : α) (hne : i ≠ k) :
    mapGet dflt (mapSet dflt m k a) i = mapGet dflt m i := by
  induction m with
  | nil => simp only [mapSet]; split <;> simp [mapGet, Ne.symm hne]
  | cons e t ih =>
    obtain ⟨j, b⟩ := e
    simp only [mapSet]
    split
    · split
      · rfl
      · simp [mapGet, Ne.symm hne]
    · split
      · rename_i h1 h2
        subst h2
        split
        · simp [mapGet, Ne.symm hne]
        · simp [mapGet, Ne.symm hne]
      · simp only [mapGet, ih]

/-- A write keeps the canonical form. -/
theorem mapSet_wfFrom {m : List (Nat × α)} {lo k : Nat} (h : mapWfFrom dflt lo m = true) (hk : lo ≤ k) (a : α) :
    mapWfFrom dflt lo (mapSet dflt m k a) = true := by
  induction m generalizing lo with
  | nil =>
    simp only [mapSet]
    split
    · rfl
    · simp_all [mapWfFrom]
  | cons e t ih =>
    obtain ⟨j, b⟩ := e
    have h0 := h
    simp only [mapWfFrom, Bool.and_eq_true, decide_eq_true_eq] at h
    simp only [mapSet]
    split
    · split
      · exact h0
      · simp only [mapWfFrom, Bool.and_eq_true, decide_eq_true_eq]
        exact ⟨⟨hk, by assumption⟩, ⟨by omega, h.1.2⟩, h.2⟩
    · split
      · rename_i h1 h2
        subst h2
        split
        · exact mapWfFrom_mono h.2 (by omega)
        · simp only [mapWfFrom, Bool.and_eq_true, decide_eq_true_eq]
          exact ⟨⟨hk, by assumption⟩, h.2⟩
      · simp only [mapWfFrom, Bool.and_eq_true, decide_eq_true_eq]
        exact ⟨h.1, ih h.2 (by omega)⟩

/-- A write keeps the canonical form of a whole map. -/
theorem mapSet_wf {m : List (Nat × α)} (h : mapWf dflt m = true) (k : Nat) (a : α) :
    mapWf dflt (mapSet dflt m k a) = true := mapSet_wfFrom h (Nat.zero_le k) a

/-- Leaving entries out keeps the canonical form. -/
theorem filter_wfFrom {m : List (Nat × α)} {lo : Nat} (p : Nat × α → Bool) (h : mapWfFrom dflt lo m = true) :
    mapWfFrom dflt lo (m.filter p) = true := by
  induction m generalizing lo with
  | nil => rfl
  | cons e t ih =>
    obtain ⟨j, b⟩ := e
    simp only [mapWfFrom, Bool.and_eq_true, decide_eq_true_eq] at h
    simp only [List.filter_cons]
    split
    · simp only [mapWfFrom, Bool.and_eq_true, decide_eq_true_eq]
      exact ⟨h.1, ih h.2⟩
    · exact mapWfFrom_mono (ih h.2) (by omega)

/-- Leaving entries out keeps the canonical form of a whole map. -/
theorem filter_wf {m : List (Nat × α)} (p : Nat × α → Bool) (h : mapWf dflt m = true) :
    mapWf dflt (m.filter p) = true := filter_wfFrom p h

/-! ### Families -/

/-- Reading a family at the index just changed. -/
theorem vget_vmod_same {β : Type} {n : Nat} (v : Vector β n) {i : Nat} (h : i < n) (f : β → β) (d : β) :
    vget (vmod v i f) i d = f (vget v i d) := by
  simp [vget, vmod, h, List.getD_eq_getElem?_getD]

/-- Reading a family at another index. -/
theorem vget_vmod_ne {β : Type} {n : Nat} (v : Vector β n) {i j : Nat} (h : i ≠ j) (f : β → β) (d : β) :
    vget (vmod v i f) j d = vget v j d := by
  unfold vmod vget
  split
  · simp [List.getD_eq_getElem?_getD, h]
  · rfl

/-- A change is known by what it makes of the value it meets. -/
theorem vmod_congr {β : Type} {n : Nat} (v : Vector β n) (i : Nat) (f g : β → β) (d : β) (h : f (vget v i d) = g (vget v i d)) :
    vmod v i f = vmod v i g := by
  unfold vmod
  split
  · rename_i hi
    have : vget v i d = v[i] := by simp [vget, List.getD_eq_getElem?_getD, hi]
    rw [this] at h; rw [h]
  · rfl

/-- Changing a family at each index that a condition names. -/
theorem vget_foldl_vmod {β : Type} {n : Nat} (c : Nat → Bool) (F : Nat → β → β) (v : Vector β n) (k : Nat) (hk : k ≤ n)
    (l : Nat) (d : β) :
    vget ((List.range k).foldl (fun v l => if c l then vmod v l (F l) else v) v) l d =
      if l < k ∧ c l = true then F l (vget v l d) else vget v l d := by
  induction k with
  | zero => simp
  | succ k ih =>
    rw [List.range_succ, List.foldl_append]
    simp only [List.foldl_cons, List.foldl_nil]
    by_cases hb : c k = true
    · rw [if_pos hb]
      by_cases hlk : l = k
      · subst hlk
        rw [vget_vmod_same _ (by omega), ih (by omega)]
        simp [hb]
      · rw [vget_vmod_ne _ (Ne.symm hlk), ih (by omega)]
        have : (l < k + 1 ∧ c l = true) = (l < k ∧ c l = true) := by
          rw [show (l < k + 1) = (l < k) from propext ⟨fun h => by omega, fun h => by omega⟩]
        simp only [this]
    · rw [if_neg hb, ih (by omega)]
      have : (l < k + 1 ∧ c l = true) = (l < k ∧ c l = true) := by
        apply propext
        constructor
        · rintro ⟨h1, h2⟩
          refine ⟨?_, h2⟩
          rcases Nat.lt_or_ge l k with h | h
          · exact h
          · have : l = k := by omega
            subst this; exact absurd h2 hb
        · rintro ⟨h1, h2⟩; exact ⟨by omega, h2⟩
      simp only [this]

/-- A bit of a mask made of a list of truth values. -/
theorem bitAt_maskOf (l : List Bool) (i : Nat) : bitAt (maskOf l) i = l.getD i false := by
  induction l generalizing i with
  | nil => simp [maskOf, bitAt]
  | cons b t ih =>
    unfold bitAt at ih ⊢
    cases i with
    | zero => cases b <;> simp [maskOf, b2n, Nat.testBit_zero]
    | succ j =>
      rw [maskOf, Nat.testBit_succ]
      have : (b2n b + 2 * maskOf t) / 2 = maskOf t := by
        cases b
        · simp [b2n]
        · simp only [b2n, if_true]; omega
      rw [this, ih]; rfl

/-- A change beyond the end changes nothing. -/
theorem vmod_beyond {β : Type} {n : Nat} (v : Vector β n) {i : Nat} (h : ¬ i < n) (f : β → β) : vmod v i f = v := by
  simp [vmod, h]

end Sys2Proof.Machine
end

