-- ==== Sys2Proof/Laws/State.lean ====
section
/-! SUPPORT. What each named update of State leaves in each field, by definition: no later proof unfolds a record update. -/

namespace Sys2Proof.Machine

variable (s : State)

section
variable (off v : Nat)
@[simp] theorem setReg_pending : (setReg s off v).pending = s.pending := rfl
@[simp] theorem setReg_tsc : (setReg s off v).tsc = s.tsc := rfl
@[simp] theorem setReg_freeCtr : (setReg s off v).freeCtr = s.freeCtr := rfl
@[simp] theorem setReg_tallies : (setReg s off v).tallies = s.tallies := rfl
@[simp] theorem setReg_reports : (setReg s off v).reports = s.reports := rfl
@[simp] theorem setReg_outs : (setReg s off v).outs = s.outs := rfl
@[simp] theorem setReg_fuse : (setReg s off v).fuse = s.fuse := rfl
@[simp] theorem setReg_pins : (setReg s off v).pins = s.pins := rfl
@[simp] theorem setReg_boot : (setReg s off v).boot = s.boot := rfl
@[simp] theorem setReg_glb : (setReg s off v).glb = s.glb := rfl
@[simp] theorem setReg_shPcie : (setReg s off v).shPcie = s.shPcie := rfl
@[simp] theorem setReg_shSmb : (setReg s off v).shSmb = s.shSmb := rfl
@[simp] theorem setReg_smbPtr : (setReg s off v).smbPtr = s.smbPtr := rfl
@[simp] theorem setReg_hmi : (setReg s off v).hmi = s.hmi := rfl
@[simp] theorem setReg_flt : (setReg s off v).flt = s.flt := rfl
@[simp] theorem setReg_img : (setReg s off v).img = s.img := rfl
@[simp] theorem setReg_frame : (setReg s off v).frame = s.frame := rfl
@[simp] theorem setReg_ftgOn : (setReg s off v).ftgOn = s.ftgOn := rfl
@[simp] theorem setReg_dram : (setReg s off v).dram = s.dram := rfl
@[simp] theorem setReg_badWords : (setReg s off v).badWords = s.badWords := rfl
@[simp] theorem setReg_poisoned : (setReg s off v).poisoned = s.poisoned := rfl
@[simp] theorem setReg_cmp : (setReg s off v).cmp = s.cmp := rfl
@[simp] theorem setReg_clr : (setReg s off v).clr = s.clr := rfl
@[simp] theorem setReg_pbu : (setReg s off v).pbu = s.pbu := rfl
@[simp] theorem setReg_rck : (setReg s off v).rck = s.rck := rfl
@[simp] theorem setReg_plk : (setReg s off v).plk = s.plk := rfl
@[simp] theorem setReg_pwr : (setReg s off v).pwr = s.pwr := rfl
@[simp] theorem setReg_lsd : (setReg s off v).lsd = s.lsd := rfl
@[simp] theorem setReg_lpe : (setReg s off v).lpe = s.lpe := rfl
@[simp] theorem setReg_hls : (setReg s off v).hls = s.hls := rfl
@[simp] theorem setReg_cal : (setReg s off v).cal = s.cal := rfl
@[simp] theorem setReg_thm : (setReg s off v).thm = s.thm := rfl
@[simp] theorem setReg_ftg : (setReg s off v).ftg = s.ftg := rfl
@[simp] theorem setReg_ver : (setReg s off v).ver = s.ver := rfl
@[simp] theorem setReg_mem : (setReg s off v).mem = s.mem := rfl
@[simp] theorem setReg_aud : (setReg s off v).aud = s.aud := rfl
@[simp] theorem setReg_jtag : (setReg s off v).jtag = s.jtag := rfl
@[simp] theorem setReg_vauxDown : (setReg s off v).vauxDown = s.vauxDown := rfl
end

section
variable (off v : Nat)
@[simp] theorem setTally_pending : (setTally s off v).pending = s.pending := rfl
@[simp] theorem setTally_tsc : (setTally s off v).tsc = s.tsc := rfl
@[simp] theorem setTally_freeCtr : (setTally s off v).freeCtr = s.freeCtr := rfl
@[simp] theorem setTally_regs : (setTally s off v).regs = s.regs := rfl
@[simp] theorem setTally_reports : (setTally s off v).reports = s.reports := rfl
@[simp] theorem setTally_outs : (setTally s off v).outs = s.outs := rfl
@[simp] theorem setTally_fuse : (setTally s off v).fuse = s.fuse := rfl
@[simp] theorem setTally_pins : (setTally s off v).pins = s.pins := rfl
@[simp] theorem setTally_boot : (setTally s off v).boot = s.boot := rfl
@[simp] theorem setTally_glb : (setTally s off v).glb = s.glb := rfl
@[simp] theorem setTally_shPcie : (setTally s off v).shPcie = s.shPcie := rfl
@[simp] theorem setTally_shSmb : (setTally s off v).shSmb = s.shSmb := rfl
@[simp] theorem setTally_smbPtr : (setTally s off v).smbPtr = s.smbPtr := rfl
@[simp] theorem setTally_hmi : (setTally s off v).hmi = s.hmi := rfl
@[simp] theorem setTally_flt : (setTally s off v).flt = s.flt := rfl
@[simp] theorem setTally_img : (setTally s off v).img = s.img := rfl
@[simp] theorem setTally_frame : (setTally s off v).frame = s.frame := rfl
@[simp] theorem setTally_ftgOn : (setTally s off v).ftgOn = s.ftgOn := rfl
@[simp] theorem setTally_dram : (setTally s off v).dram = s.dram := rfl
@[simp] theorem setTally_badWords : (setTally s off v).badWords = s.badWords := rfl
@[simp] theorem setTally_poisoned : (setTally s off v).poisoned = s.poisoned := rfl
@[simp] theorem setTally_cmp : (setTally s off v).cmp = s.cmp := rfl
@[simp] theorem setTally_clr : (setTally s off v).clr = s.clr := rfl
@[simp] theorem setTally_pbu : (setTally s off v).pbu = s.pbu := rfl
@[simp] theorem setTally_rck : (setTally s off v).rck = s.rck := rfl
@[simp] theorem setTally_plk : (setTally s off v).plk = s.plk := rfl
@[simp] theorem setTally_pwr : (setTally s off v).pwr = s.pwr := rfl
@[simp] theorem setTally_lsd : (setTally s off v).lsd = s.lsd := rfl
@[simp] theorem setTally_lpe : (setTally s off v).lpe = s.lpe := rfl
@[simp] theorem setTally_hls : (setTally s off v).hls = s.hls := rfl
@[simp] theorem setTally_cal : (setTally s off v).cal = s.cal := rfl
@[simp] theorem setTally_thm : (setTally s off v).thm = s.thm := rfl
@[simp] theorem setTally_ftg : (setTally s off v).ftg = s.ftg := rfl
@[simp] theorem setTally_ver : (setTally s off v).ver = s.ver := rfl
@[simp] theorem setTally_mem : (setTally s off v).mem = s.mem := rfl
@[simp] theorem setTally_aud : (setTally s off v).aud = s.aud := rfl
@[simp] theorem setTally_jtag : (setTally s off v).jtag = s.jtag := rfl
@[simp] theorem setTally_vauxDown : (setTally s off v).vauxDown = s.vauxDown := rfl
end

section
variable (o : Output)
@[simp] theorem emit_pending : (emit s o).pending = s.pending := rfl
@[simp] theorem emit_tsc : (emit s o).tsc = s.tsc := rfl
@[simp] theorem emit_freeCtr : (emit s o).freeCtr = s.freeCtr := rfl
@[simp] theorem emit_regs : (emit s o).regs = s.regs := rfl
@[simp] theorem emit_tallies : (emit s o).tallies = s.tallies := rfl
@[simp] theorem emit_reports : (emit s o).reports = s.reports := rfl
@[simp] theorem emit_fuse : (emit s o).fuse = s.fuse := rfl
@[simp] theorem emit_pins : (emit s o).pins = s.pins := rfl
@[simp] theorem emit_boot : (emit s o).boot = s.boot := rfl
@[simp] theorem emit_glb : (emit s o).glb = s.glb := rfl
@[simp] theorem emit_shPcie : (emit s o).shPcie = s.shPcie := rfl
@[simp] theorem emit_shSmb : (emit s o).shSmb = s.shSmb := rfl
@[simp] theorem emit_smbPtr : (emit s o).smbPtr = s.smbPtr := rfl
@[simp] theorem emit_hmi : (emit s o).hmi = s.hmi := rfl
@[simp] theorem emit_flt : (emit s o).flt = s.flt := rfl
@[simp] theorem emit_img : (emit s o).img = s.img := rfl
@[simp] theorem emit_frame : (emit s o).frame = s.frame := rfl
@[simp] theorem emit_ftgOn : (emit s o).ftgOn = s.ftgOn := rfl
@[simp] theorem emit_dram : (emit s o).dram = s.dram := rfl
@[simp] theorem emit_badWords : (emit s o).badWords = s.badWords := rfl
@[simp] theorem emit_poisoned : (emit s o).poisoned = s.poisoned := rfl
@[simp] theorem emit_cmp : (emit s o).cmp = s.cmp := rfl
@[simp] theorem emit_clr : (emit s o).clr = s.clr := rfl
@[simp] theorem emit_pbu : (emit s o).pbu = s.pbu := rfl
@[simp] theorem emit_rck : (emit s o).rck = s.rck := rfl
@[simp] theorem emit_plk : (emit s o).plk = s.plk := rfl
@[simp] theorem emit_pwr : (emit s o).pwr = s.pwr := rfl
@[simp] theorem emit_lsd : (emit s o).lsd = s.lsd := rfl
@[simp] theorem emit_lpe : (emit s o).lpe = s.lpe := rfl
@[simp] theorem emit_hls : (emit s o).hls = s.hls := rfl
@[simp] theorem emit_cal : (emit s o).cal = s.cal := rfl
@[simp] theorem emit_thm : (emit s o).thm = s.thm := rfl
@[simp] theorem emit_ftg : (emit s o).ftg = s.ftg := rfl
@[simp] theorem emit_ver : (emit s o).ver = s.ver := rfl
@[simp] theorem emit_mem : (emit s o).mem = s.mem := rfl
@[simp] theorem emit_aud : (emit s o).aud = s.aud := rfl
@[simp] theorem emit_jtag : (emit s o).jtag = s.jtag := rfl
@[simp] theorem emit_vauxDown : (emit s o).vauxDown = s.vauxDown := rfl
end

section
variable (r : Report)
@[simp] theorem report_pending : (report s r).pending = s.pending := rfl
@[simp] theorem report_tsc : (report s r).tsc = s.tsc := rfl
@[simp] theorem report_freeCtr : (report s r).freeCtr = s.freeCtr := rfl
@[simp] theorem report_regs : (report s r).regs = s.regs := rfl
@[simp] theorem report_tallies : (report s r).tallies = s.tallies := rfl
@[simp] theorem report_outs : (report s r).outs = s.outs := rfl
@[simp] theorem report_fuse : (report s r).fuse = s.fuse := rfl
@[simp] theorem report_pins : (report s r).pins = s.pins := rfl
@[simp] theorem report_boot : (report s r).boot = s.boot := rfl
@[simp] theorem report_glb : (report s r).glb = s.glb := rfl
@[simp] theorem report_shPcie : (report s r).shPcie = s.shPcie := rfl
@[simp] theorem report_shSmb : (report s r).shSmb = s.shSmb := rfl
@[simp] theorem report_smbPtr : (report s r).smbPtr = s.smbPtr := rfl
@[simp] theorem report_hmi : (report s r).hmi = s.hmi := rfl
@[simp] theorem report_flt : (report s r).flt = s.flt := rfl
@[simp] theorem report_img : (report s r).img = s.img := rfl
@[simp] theorem report_frame : (report s r).frame = s.frame := rfl
@[simp] theorem report_ftgOn : (report s r).ftgOn = s.ftgOn := rfl
@[simp] theorem report_dram : (report s r).dram = s.dram := rfl
@[simp] theorem report_badWords : (report s r).badWords = s.badWords := rfl
@[simp] theorem report_poisoned : (report s r).poisoned = s.poisoned := rfl
@[simp] theorem report_cmp : (report s r).cmp = s.cmp := rfl
@[simp] theorem report_clr : (report s r).clr = s.clr := rfl
@[simp] theorem report_pbu : (report s r).pbu = s.pbu := rfl
@[simp] theorem report_rck : (report s r).rck = s.rck := rfl
@[simp] theorem report_plk : (report s r).plk = s.plk := rfl
@[simp] theorem report_pwr : (report s r).pwr = s.pwr := rfl
@[simp] theorem report_lsd : (report s r).lsd = s.lsd := rfl
@[simp] theorem report_lpe : (report s r).lpe = s.lpe := rfl
@[simp] theorem report_hls : (report s r).hls = s.hls := rfl
@[simp] theorem report_cal : (report s r).cal = s.cal := rfl
@[simp] theorem report_thm : (report s r).thm = s.thm := rfl
@[simp] theorem report_ftg : (report s r).ftg = s.ftg := rfl
@[simp] theorem report_ver : (report s r).ver = s.ver := rfl
@[simp] theorem report_mem : (report s r).mem = s.mem := rfl
@[simp] theorem report_aud : (report s r).aud = s.aud := rfl
@[simp] theorem report_jtag : (report s r).jtag = s.jtag := rfl
@[simp] theorem report_vauxDown : (report s r).vauxDown = s.vauxDown := rfl
end

section
variable (a : Nat) (b : Byte)
@[simp] theorem wr_pending : (wr s a b).pending = s.pending := rfl
@[simp] theorem wr_tsc : (wr s a b).tsc = s.tsc := rfl
@[simp] theorem wr_freeCtr : (wr s a b).freeCtr = s.freeCtr := rfl
@[simp] theorem wr_regs : (wr s a b).regs = s.regs := rfl
@[simp] theorem wr_tallies : (wr s a b).tallies = s.tallies := rfl
@[simp] theorem wr_reports : (wr s a b).reports = s.reports := rfl
@[simp] theorem wr_outs : (wr s a b).outs = s.outs := rfl
@[simp] theorem wr_fuse : (wr s a b).fuse = s.fuse := rfl
@[simp] theorem wr_pins : (wr s a b).pins = s.pins := rfl
@[simp] theorem wr_boot : (wr s a b).boot = s.boot := rfl
@[simp] theorem wr_glb : (wr s a b).glb = s.glb := rfl
@[simp] theorem wr_shPcie : (wr s a b).shPcie = s.shPcie := rfl
@[simp] theorem wr_shSmb : (wr s a b).shSmb = s.shSmb := rfl
@[simp] theorem wr_smbPtr : (wr s a b).smbPtr = s.smbPtr := rfl
@[simp] theorem wr_hmi : (wr s a b).hmi = s.hmi := rfl
@[simp] theorem wr_flt : (wr s a b).flt = s.flt := rfl
@[simp] theorem wr_img : (wr s a b).img = s.img := rfl
@[simp] theorem wr_frame : (wr s a b).frame = s.frame := rfl
@[simp] theorem wr_ftgOn : (wr s a b).ftgOn = s.ftgOn := rfl
@[simp] theorem wr_badWords : (wr s a b).badWords = s.badWords := rfl
@[simp] theorem wr_poisoned : (wr s a b).poisoned = s.poisoned := rfl
@[simp] theorem wr_cmp : (wr s a b).cmp = s.cmp := rfl
@[simp] theorem wr_clr : (wr s a b).clr = s.clr := rfl
@[simp] theorem wr_pbu : (wr s a b).pbu = s.pbu := rfl
@[simp] theorem wr_rck : (wr s a b).rck = s.rck := rfl
@[simp] theorem wr_plk : (wr s a b).plk = s.plk := rfl
@[simp] theorem wr_pwr : (wr s a b).pwr = s.pwr := rfl
@[simp] theorem wr_lsd : (wr s a b).lsd = s.lsd := rfl
@[simp] theorem wr_lpe : (wr s a b).lpe = s.lpe := rfl
@[simp] theorem wr_hls : (wr s a b).hls = s.hls := rfl
@[simp] theorem wr_cal : (wr s a b).cal = s.cal := rfl
@[simp] theorem wr_thm : (wr s a b).thm = s.thm := rfl
@[simp] theorem wr_ftg : (wr s a b).ftg = s.ftg := rfl
@[simp] theorem wr_ver : (wr s a b).ver = s.ver := rfl
@[simp] theorem wr_mem : (wr s a b).mem = s.mem := rfl
@[simp] theorem wr_aud : (wr s a b).aud = s.aud := rfl
@[simp] theorem wr_jtag : (wr s a b).jtag = s.jtag := rfl
@[simp] theorem wr_vauxDown : (wr s a b).vauxDown = s.vauxDown := rfl
end

section
variable (i : Nat) (f : Src → Src)
@[simp] theorem modSrc_pending : (modSrc s i f).pending = s.pending := rfl
@[simp] theorem modSrc_tsc : (modSrc s i f).tsc = s.tsc := rfl
@[simp] theorem modSrc_freeCtr : (modSrc s i f).freeCtr = s.freeCtr := rfl
@[simp] theorem modSrc_regs : (modSrc s i f).regs = s.regs := rfl
@[simp] theorem modSrc_tallies : (modSrc s i f).tallies = s.tallies := rfl
@[simp] theorem modSrc_reports : (modSrc s i f).reports = s.reports := rfl
@[simp] theorem modSrc_outs : (modSrc s i f).outs = s.outs := rfl
@[simp] theorem modSrc_fuse : (modSrc s i f).fuse = s.fuse := rfl
@[simp] theorem modSrc_pins : (modSrc s i f).pins = s.pins := rfl
@[simp] theorem modSrc_boot : (modSrc s i f).boot = s.boot := rfl
@[simp] theorem modSrc_glb : (modSrc s i f).glb = s.glb := rfl
@[simp] theorem modSrc_shPcie : (modSrc s i f).shPcie = s.shPcie := rfl
@[simp] theorem modSrc_shSmb : (modSrc s i f).shSmb = s.shSmb := rfl
@[simp] theorem modSrc_smbPtr : (modSrc s i f).smbPtr = s.smbPtr := rfl
@[simp] theorem modSrc_hmi : (modSrc s i f).hmi = s.hmi := rfl
@[simp] theorem modSrc_img : (modSrc s i f).img = s.img := rfl
@[simp] theorem modSrc_frame : (modSrc s i f).frame = s.frame := rfl
@[simp] theorem modSrc_ftgOn : (modSrc s i f).ftgOn = s.ftgOn := rfl
@[simp] theorem modSrc_dram : (modSrc s i f).dram = s.dram := rfl
@[simp] theorem modSrc_badWords : (modSrc s i f).badWords = s.badWords := rfl
@[simp] theorem modSrc_poisoned : (modSrc s i f).poisoned = s.poisoned := rfl
@[simp] theorem modSrc_cmp : (modSrc s i f).cmp = s.cmp := rfl
@[simp] theorem modSrc_clr : (modSrc s i f).clr = s.clr := rfl
@[simp] theorem modSrc_pbu : (modSrc s i f).pbu = s.pbu := rfl
@[simp] theorem modSrc_rck : (modSrc s i f).rck = s.rck := rfl
@[simp] theorem modSrc_plk : (modSrc s i f).plk = s.plk := rfl
@[simp] theorem modSrc_pwr : (modSrc s i f).pwr = s.pwr := rfl
@[simp] theorem modSrc_lsd : (modSrc s i f).lsd = s.lsd := rfl
@[simp] theorem modSrc_lpe : (modSrc s i f).lpe = s.lpe := rfl
@[simp] theorem modSrc_hls : (modSrc s i f).hls = s.hls := rfl
@[simp] theorem modSrc_cal : (modSrc s i f).cal = s.cal := rfl
@[simp] theorem modSrc_thm : (modSrc s i f).thm = s.thm := rfl
@[simp] theorem modSrc_ftg : (modSrc s i f).ftg = s.ftg := rfl
@[simp] theorem modSrc_ver : (modSrc s i f).ver = s.ver := rfl
@[simp] theorem modSrc_mem : (modSrc s i f).mem = s.mem := rfl
@[simp] theorem modSrc_aud : (modSrc s i f).aud = s.aud := rfl
@[simp] theorem modSrc_jtag : (modSrc s i f).jtag = s.jtag := rfl
@[simp] theorem modSrc_vauxDown : (modSrc s i f).vauxDown = s.vauxDown := rfl
end

section
variable (i : Nat) (f : Port → Port)
@[simp] theorem modPort_pending : (modPort s i f).pending = s.pending := rfl
@[simp] theorem modPort_tsc : (modPort s i f).tsc = s.tsc := rfl
@[simp] theorem modPort_freeCtr : (modPort s i f).freeCtr = s.freeCtr := rfl
@[simp] theorem modPort_regs : (modPort s i f).regs = s.regs := rfl
@[simp] theorem modPort_tallies : (modPort s i f).tallies = s.tallies := rfl
@[simp] theorem modPort_reports : (modPort s i f).reports = s.reports := rfl
@[simp] theorem modPort_outs : (modPort s i f).outs = s.outs := rfl
@[simp] theorem modPort_fuse : (modPort s i f).fuse = s.fuse := rfl
@[simp] theorem modPort_pins : (modPort s i f).pins = s.pins := rfl
@[simp] theorem modPort_boot : (modPort s i f).boot = s.boot := rfl
@[simp] theorem modPort_glb : (modPort s i f).glb = s.glb := rfl
@[simp] theorem modPort_shPcie : (modPort s i f).shPcie = s.shPcie := rfl
@[simp] theorem modPort_shSmb : (modPort s i f).shSmb = s.shSmb := rfl
@[simp] theorem modPort_smbPtr : (modPort s i f).smbPtr = s.smbPtr := rfl
@[simp] theorem modPort_hmi : (modPort s i f).hmi = s.hmi := rfl
@[simp] theorem modPort_flt : (modPort s i f).flt = s.flt := rfl
@[simp] theorem modPort_img : (modPort s i f).img = s.img := rfl
@[simp] theorem modPort_frame : (modPort s i f).frame = s.frame := rfl
@[simp] theorem modPort_ftgOn : (modPort s i f).ftgOn = s.ftgOn := rfl
@[simp] theorem modPort_dram : (modPort s i f).dram = s.dram := rfl
@[simp] theorem modPort_badWords : (modPort s i f).badWords = s.badWords := rfl
@[simp] theorem modPort_poisoned : (modPort s i f).poisoned = s.poisoned := rfl
@[simp] theorem modPort_cmp : (modPort s i f).cmp = s.cmp := rfl
@[simp] theorem modPort_clr : (modPort s i f).clr = s.clr := rfl
@[simp] theorem modPort_pbu : (modPort s i f).pbu = s.pbu := rfl
@[simp] theorem modPort_rck : (modPort s i f).rck = s.rck := rfl
@[simp] theorem modPort_pwr : (modPort s i f).pwr = s.pwr := rfl
@[simp] theorem modPort_lsd : (modPort s i f).lsd = s.lsd := rfl
@[simp] theorem modPort_lpe : (modPort s i f).lpe = s.lpe := rfl
@[simp] theorem modPort_hls : (modPort s i f).hls = s.hls := rfl
@[simp] theorem modPort_cal : (modPort s i f).cal = s.cal := rfl
@[simp] theorem modPort_thm : (modPort s i f).thm = s.thm := rfl
@[simp] theorem modPort_ftg : (modPort s i f).ftg = s.ftg := rfl
@[simp] theorem modPort_ver : (modPort s i f).ver = s.ver := rfl
@[simp] theorem modPort_mem : (modPort s i f).mem = s.mem := rfl
@[simp] theorem modPort_aud : (modPort s i f).aud = s.aud := rfl
@[simp] theorem modPort_jtag : (modPort s i f).jtag = s.jtag := rfl
@[simp] theorem modPort_vauxDown : (modPort s i f).vauxDown = s.vauxDown := rfl
end

section
variable (i : Nat) (f : Bank → Bank)
@[simp] theorem modBank_pending : (modBank s i f).pending = s.pending := rfl
@[simp] theorem modBank_tsc : (modBank s i f).tsc = s.tsc := rfl
@[simp] theorem modBank_freeCtr : (modBank s i f).freeCtr = s.freeCtr := rfl
@[simp] theorem modBank_regs : (modBank s i f).regs = s.regs := rfl
@[simp] theorem modBank_tallies : (modBank s i f).tallies = s.tallies := rfl
@[simp] theorem modBank_reports : (modBank s i f).reports = s.reports := rfl
@[simp] theorem modBank_outs : (modBank s i f).outs = s.outs := rfl
@[simp] theorem modBank_fuse : (modBank s i f).fuse = s.fuse := rfl
@[simp] theorem modBank_pins : (modBank s i f).pins = s.pins := rfl
@[simp] theorem modBank_boot : (modBank s i f).boot = s.boot := rfl
@[simp] theorem modBank_glb : (modBank s i f).glb = s.glb := rfl
@[simp] theorem modBank_shPcie : (modBank s i f).shPcie = s.shPcie := rfl
@[simp] theorem modBank_shSmb : (modBank s i f).shSmb = s.shSmb := rfl
@[simp] theorem modBank_smbPtr : (modBank s i f).smbPtr = s.smbPtr := rfl
@[simp] theorem modBank_hmi : (modBank s i f).hmi = s.hmi := rfl
@[simp] theorem modBank_flt : (modBank s i f).flt = s.flt := rfl
@[simp] theorem modBank_img : (modBank s i f).img = s.img := rfl
@[simp] theorem modBank_frame : (modBank s i f).frame = s.frame := rfl
@[simp] theorem modBank_ftgOn : (modBank s i f).ftgOn = s.ftgOn := rfl
@[simp] theorem modBank_dram : (modBank s i f).dram = s.dram := rfl
@[simp] theorem modBank_badWords : (modBank s i f).badWords = s.badWords := rfl
@[simp] theorem modBank_poisoned : (modBank s i f).poisoned = s.poisoned := rfl
@[simp] theorem modBank_cmp : (modBank s i f).cmp = s.cmp := rfl
@[simp] theorem modBank_clr : (modBank s i f).clr = s.clr := rfl
@[simp] theorem modBank_pbu : (modBank s i f).pbu = s.pbu := rfl
@[simp] theorem modBank_rck : (modBank s i f).rck = s.rck := rfl
@[simp] theorem modBank_plk : (modBank s i f).plk = s.plk := rfl
@[simp] theorem modBank_pwr : (modBank s i f).pwr = s.pwr := rfl
@[simp] theorem modBank_lpe : (modBank s i f).lpe = s.lpe := rfl
@[simp] theorem modBank_hls : (modBank s i f).hls = s.hls := rfl
@[simp] theorem modBank_cal : (modBank s i f).cal = s.cal := rfl
@[simp] theorem modBank_thm : (modBank s i f).thm = s.thm := rfl
@[simp] theorem modBank_ftg : (modBank s i f).ftg = s.ftg := rfl
@[simp] theorem modBank_ver : (modBank s i f).ver = s.ver := rfl
@[simp] theorem modBank_mem : (modBank s i f).mem = s.mem := rfl
@[simp] theorem modBank_aud : (modBank s i f).aud = s.aud := rfl
@[simp] theorem modBank_jtag : (modBank s i f).jtag = s.jtag := rfl
@[simp] theorem modBank_vauxDown : (modBank s i f).vauxDown = s.vauxDown := rfl
end

section
variable (i : Nat) (f : Slot → Slot)
@[simp] theorem modSlot_pending : (modSlot s i f).pending = s.pending := rfl
@[simp] theorem modSlot_tsc : (modSlot s i f).tsc = s.tsc := rfl
@[simp] theorem modSlot_freeCtr : (modSlot s i f).freeCtr = s.freeCtr := rfl
@[simp] theorem modSlot_regs : (modSlot s i f).regs = s.regs := rfl
@[simp] theorem modSlot_tallies : (modSlot s i f).tallies = s.tallies := rfl
@[simp] theorem modSlot_reports : (modSlot s i f).reports = s.reports := rfl
@[simp] theorem modSlot_outs : (modSlot s i f).outs = s.outs := rfl
@[simp] theorem modSlot_fuse : (modSlot s i f).fuse = s.fuse := rfl
@[simp] theorem modSlot_pins : (modSlot s i f).pins = s.pins := rfl
@[simp] theorem modSlot_boot : (modSlot s i f).boot = s.boot := rfl
@[simp] theorem modSlot_glb : (modSlot s i f).glb = s.glb := rfl
@[simp] theorem modSlot_shPcie : (modSlot s i f).shPcie = s.shPcie := rfl
@[simp] theorem modSlot_shSmb : (modSlot s i f).shSmb = s.shSmb := rfl
@[simp] theorem modSlot_smbPtr : (modSlot s i f).smbPtr = s.smbPtr := rfl
@[simp] theorem modSlot_hmi : (modSlot s i f).hmi = s.hmi := rfl
@[simp] theorem modSlot_flt : (modSlot s i f).flt = s.flt := rfl
@[simp] theorem modSlot_img : (modSlot s i f).img = s.img := rfl
@[simp] theorem modSlot_frame : (modSlot s i f).frame = s.frame := rfl
@[simp] theorem modSlot_ftgOn : (modSlot s i f).ftgOn = s.ftgOn := rfl
@[simp] theorem modSlot_dram : (modSlot s i f).dram = s.dram := rfl
@[simp] theorem modSlot_badWords : (modSlot s i f).badWords = s.badWords := rfl
@[simp] theorem modSlot_poisoned : (modSlot s i f).poisoned = s.poisoned := rfl
@[simp] theorem modSlot_cmp : (modSlot s i f).cmp = s.cmp := rfl
@[simp] theorem modSlot_clr : (modSlot s i f).clr = s.clr := rfl
@[simp] theorem modSlot_pbu : (modSlot s i f).pbu = s.pbu := rfl
@[simp] theorem modSlot_rck : (modSlot s i f).rck = s.rck := rfl
@[simp] theorem modSlot_plk : (modSlot s i f).plk = s.plk := rfl
@[simp] theorem modSlot_pwr : (modSlot s i f).pwr = s.pwr := rfl
@[simp] theorem modSlot_lsd : (modSlot s i f).lsd = s.lsd := rfl
@[simp] theorem modSlot_hls : (modSlot s i f).hls = s.hls := rfl
@[simp] theorem modSlot_cal : (modSlot s i f).cal = s.cal := rfl
@[simp] theorem modSlot_thm : (modSlot s i f).thm = s.thm := rfl
@[simp] theorem modSlot_ftg : (modSlot s i f).ftg = s.ftg := rfl
@[simp] theorem modSlot_ver : (modSlot s i f).ver = s.ver := rfl
@[simp] theorem modSlot_mem : (modSlot s i f).mem = s.mem := rfl
@[simp] theorem modSlot_aud : (modSlot s i f).aud = s.aud := rfl
@[simp] theorem modSlot_jtag : (modSlot s i f).jtag = s.jtag := rfl
@[simp] theorem modSlot_vauxDown : (modSlot s i f).vauxDown = s.vauxDown := rfl
end

section
variable (i : Nat) (f : Chan → Chan)
@[simp] theorem modChan_pending : (modChan s i f).pending = s.pending := rfl
@[simp] theorem modChan_tsc : (modChan s i f).tsc = s.tsc := rfl
@[simp] theorem modChan_freeCtr : (modChan s i f).freeCtr = s.freeCtr := rfl
@[simp] theorem modChan_regs : (modChan s i f).regs = s.regs := rfl
@[simp] theorem modChan_tallies : (modChan s i f).tallies = s.tallies := rfl
@[simp] theorem modChan_reports : (modChan s i f).reports = s.reports := rfl
@[simp] theorem modChan_outs : (modChan s i f).outs = s.outs := rfl
@[simp] theorem modChan_fuse : (modChan s i f).fuse = s.fuse := rfl
@[simp] theorem modChan_pins : (modChan s i f).pins = s.pins := rfl
@[simp] theorem modChan_boot : (modChan s i f).boot = s.boot := rfl
@[simp] theorem modChan_glb : (modChan s i f).glb = s.glb := rfl
@[simp] theorem modChan_shPcie : (modChan s i f).shPcie = s.shPcie := rfl
@[simp] theorem modChan_shSmb : (modChan s i f).shSmb = s.shSmb := rfl
@[simp] theorem modChan_smbPtr : (modChan s i f).smbPtr = s.smbPtr := rfl
@[simp] theorem modChan_hmi : (modChan s i f).hmi = s.hmi := rfl
@[simp] theorem modChan_flt : (modChan s i f).flt = s.flt := rfl
@[simp] theorem modChan_img : (modChan s i f).img = s.img := rfl
@[simp] theorem modChan_frame : (modChan s i f).frame = s.frame := rfl
@[simp] theorem modChan_ftgOn : (modChan s i f).ftgOn = s.ftgOn := rfl
@[simp] theorem modChan_dram : (modChan s i f).dram = s.dram := rfl
@[simp] theorem modChan_badWords : (modChan s i f).badWords = s.badWords := rfl
@[simp] theorem modChan_poisoned : (modChan s i f).poisoned = s.poisoned := rfl
@[simp] theorem modChan_cmp : (modChan s i f).cmp = s.cmp := rfl
@[simp] theorem modChan_clr : (modChan s i f).clr = s.clr := rfl
@[simp] theorem modChan_pbu : (modChan s i f).pbu = s.pbu := rfl
@[simp] theorem modChan_rck : (modChan s i f).rck = s.rck := rfl
@[simp] theorem modChan_plk : (modChan s i f).plk = s.plk := rfl
@[simp] theorem modChan_pwr : (modChan s i f).pwr = s.pwr := rfl
@[simp] theorem modChan_lsd : (modChan s i f).lsd = s.lsd := rfl
@[simp] theorem modChan_lpe : (modChan s i f).lpe = s.lpe := rfl
@[simp] theorem modChan_hls : (modChan s i f).hls = s.hls := rfl
@[simp] theorem modChan_cal : (modChan s i f).cal = s.cal := rfl
@[simp] theorem modChan_thm : (modChan s i f).thm = s.thm := rfl
@[simp] theorem modChan_ftg : (modChan s i f).ftg = s.ftg := rfl
@[simp] theorem modChan_ver : (modChan s i f).ver = s.ver := rfl
@[simp] theorem modChan_aud : (modChan s i f).aud = s.aud := rfl
@[simp] theorem modChan_jtag : (modChan s i f).jtag = s.jtag := rfl
@[simp] theorem modChan_vauxDown : (modChan s i f).vauxDown = s.vauxDown := rfl
end

section
variable (i : Nat) (f : AudPort → AudPort)
@[simp] theorem modAud_pending : (modAud s i f).pending = s.pending := rfl
@[simp] theorem modAud_tsc : (modAud s i f).tsc = s.tsc := rfl
@[simp] theorem modAud_freeCtr : (modAud s i f).freeCtr = s.freeCtr := rfl
@[simp] theorem modAud_regs : (modAud s i f).regs = s.regs := rfl
@[simp] theorem modAud_tallies : (modAud s i f).tallies = s.tallies := rfl
@[simp] theorem modAud_reports : (modAud s i f).reports = s.reports := rfl
@[simp] theorem modAud_outs : (modAud s i f).outs = s.outs := rfl
@[simp] theorem modAud_fuse : (modAud s i f).fuse = s.fuse := rfl
@[simp] theorem modAud_pins : (modAud s i f).pins = s.pins := rfl
@[simp] theorem modAud_boot : (modAud s i f).boot = s.boot := rfl
@[simp] theorem modAud_glb : (modAud s i f).glb = s.glb := rfl
@[simp] theorem modAud_shPcie : (modAud s i f).shPcie = s.shPcie := rfl
@[simp] theorem modAud_shSmb : (modAud s i f).shSmb = s.shSmb := rfl
@[simp] theorem modAud_smbPtr : (modAud s i f).smbPtr = s.smbPtr := rfl
@[simp] theorem modAud_hmi : (modAud s i f).hmi = s.hmi := rfl
@[simp] theorem modAud_flt : (modAud s i f).flt = s.flt := rfl
@[simp] theorem modAud_img : (modAud s i f).img = s.img := rfl
@[simp] theorem modAud_frame : (modAud s i f).frame = s.frame := rfl
@[simp] theorem modAud_ftgOn : (modAud s i f).ftgOn = s.ftgOn := rfl
@[simp] theorem modAud_dram : (modAud s i f).dram = s.dram := rfl
@[simp] theorem modAud_badWords : (modAud s i f).badWords = s.badWords := rfl
@[simp] theorem modAud_poisoned : (modAud s i f).poisoned = s.poisoned := rfl
@[simp] theorem modAud_cmp : (modAud s i f).cmp = s.cmp := rfl
@[simp] theorem modAud_clr : (modAud s i f).clr = s.clr := rfl
@[simp] theorem modAud_pbu : (modAud s i f).pbu = s.pbu := rfl
@[simp] theorem modAud_rck : (modAud s i f).rck = s.rck := rfl
@[simp] theorem modAud_plk : (modAud s i f).plk = s.plk := rfl
@[simp] theorem modAud_pwr : (modAud s i f).pwr = s.pwr := rfl
@[simp] theorem modAud_lsd : (modAud s i f).lsd = s.lsd := rfl
@[simp] theorem modAud_lpe : (modAud s i f).lpe = s.lpe := rfl
@[simp] theorem modAud_hls : (modAud s i f).hls = s.hls := rfl
@[simp] theorem modAud_cal : (modAud s i f).cal = s.cal := rfl
@[simp] theorem modAud_thm : (modAud s i f).thm = s.thm := rfl
@[simp] theorem modAud_ftg : (modAud s i f).ftg = s.ftg := rfl
@[simp] theorem modAud_ver : (modAud s i f).ver = s.ver := rfl
@[simp] theorem modAud_mem : (modAud s i f).mem = s.mem := rfl
@[simp] theorem modAud_jtag : (modAud s i f).jtag = s.jtag := rfl
@[simp] theorem modAud_vauxDown : (modAud s i f).vauxDown = s.vauxDown := rfl
end

section
variable (i : Nat) (f : Sensor → Sensor)
@[simp] theorem modSensor_pending : (modSensor s i f).pending = s.pending := rfl
@[simp] theorem modSensor_tsc : (modSensor s i f).tsc = s.tsc := rfl
@[simp] theorem modSensor_freeCtr : (modSensor s i f).freeCtr = s.freeCtr := rfl
@[simp] theorem modSensor_regs : (modSensor s i f).regs = s.regs := rfl
@[simp] theorem modSensor_tallies : (modSensor s i f).tallies = s.tallies := rfl
@[simp] theorem modSensor_reports : (modSensor s i f).reports = s.reports := rfl
@[simp] theorem modSensor_outs : (modSensor s i f).outs = s.outs := rfl
@[simp] theorem modSensor_fuse : (modSensor s i f).fuse = s.fuse := rfl
@[simp] theorem modSensor_pins : (modSensor s i f).pins = s.pins := rfl
@[simp] theorem modSensor_boot : (modSensor s i f).boot = s.boot := rfl
@[simp] theorem modSensor_glb : (modSensor s i f).glb = s.glb := rfl
@[simp] theorem modSensor_shPcie : (modSensor s i f).shPcie = s.shPcie := rfl
@[simp] theorem modSensor_shSmb : (modSensor s i f).shSmb = s.shSmb := rfl
@[simp] theorem modSensor_smbPtr : (modSensor s i f).smbPtr = s.smbPtr := rfl
@[simp] theorem modSensor_hmi : (modSensor s i f).hmi = s.hmi := rfl
@[simp] theorem modSensor_flt : (modSensor s i f).flt = s.flt := rfl
@[simp] theorem modSensor_img : (modSensor s i f).img = s.img := rfl
@[simp] theorem modSensor_frame : (modSensor s i f).frame = s.frame := rfl
@[simp] theorem modSensor_ftgOn : (modSensor s i f).ftgOn = s.ftgOn := rfl
@[simp] theorem modSensor_dram : (modSensor s i f).dram = s.dram := rfl
@[simp] theorem modSensor_badWords : (modSensor s i f).badWords = s.badWords := rfl
@[simp] theorem modSensor_poisoned : (modSensor s i f).poisoned = s.poisoned := rfl
@[simp] theorem modSensor_cmp : (modSensor s i f).cmp = s.cmp := rfl
@[simp] theorem modSensor_clr : (modSensor s i f).clr = s.clr := rfl
@[simp] theorem modSensor_pbu : (modSensor s i f).pbu = s.pbu := rfl
@[simp] theorem modSensor_rck : (modSensor s i f).rck = s.rck := rfl
@[simp] theorem modSensor_plk : (modSensor s i f).plk = s.plk := rfl
@[simp] theorem modSensor_pwr : (modSensor s i f).pwr = s.pwr := rfl
@[simp] theorem modSensor_lsd : (modSensor s i f).lsd = s.lsd := rfl
@[simp] theorem modSensor_lpe : (modSensor s i f).lpe = s.lpe := rfl
@[simp] theorem modSensor_hls : (modSensor s i f).hls = s.hls := rfl
@[simp] theorem modSensor_cal : (modSensor s i f).cal = s.cal := rfl
@[simp] theorem modSensor_ftg : (modSensor s i f).ftg = s.ftg := rfl
@[simp] theorem modSensor_ver : (modSensor s i f).ver = s.ver := rfl
@[simp] theorem modSensor_mem : (modSensor s i f).mem = s.mem := rfl
@[simp] theorem modSensor_aud : (modSensor s i f).aud = s.aud := rfl
@[simp] theorem modSensor_jtag : (modSensor s i f).jtag = s.jtag := rfl
@[simp] theorem modSensor_vauxDown : (modSensor s i f).vauxDown = s.vauxDown := rfl
end

section
variable (i : Nat) (f : CalCh → CalCh)
@[simp] theorem modCal_pending : (modCal s i f).pending = s.pending := rfl
@[simp] theorem modCal_tsc : (modCal s i f).tsc = s.tsc := rfl
@[simp] theorem modCal_freeCtr : (modCal s i f).freeCtr = s.freeCtr := rfl
@[simp] theorem modCal_regs : (modCal s i f).regs = s.regs := rfl
@[simp] theorem modCal_tallies : (modCal s i f).tallies = s.tallies := rfl
@[simp] theorem modCal_reports : (modCal s i f).reports = s.reports := rfl
@[simp] theorem modCal_outs : (modCal s i f).outs = s.outs := rfl
@[simp] theorem modCal_fuse : (modCal s i f).fuse = s.fuse := rfl
@[simp] theorem modCal_pins : (modCal s i f).pins = s.pins := rfl
@[simp] theorem modCal_boot : (modCal s i f).boot = s.boot := rfl
@[simp] theorem modCal_glb : (modCal s i f).glb = s.glb := rfl
@[simp] theorem modCal_shPcie : (modCal s i f).shPcie = s.shPcie := rfl
@[simp] theorem modCal_shSmb : (modCal s i f).shSmb = s.shSmb := rfl
@[simp] theorem modCal_smbPtr : (modCal s i f).smbPtr = s.smbPtr := rfl
@[simp] theorem modCal_hmi : (modCal s i f).hmi = s.hmi := rfl
@[simp] theorem modCal_flt : (modCal s i f).flt = s.flt := rfl
@[simp] theorem modCal_img : (modCal s i f).img = s.img := rfl
@[simp] theorem modCal_frame : (modCal s i f).frame = s.frame := rfl
@[simp] theorem modCal_ftgOn : (modCal s i f).ftgOn = s.ftgOn := rfl
@[simp] theorem modCal_dram : (modCal s i f).dram = s.dram := rfl
@[simp] theorem modCal_badWords : (modCal s i f).badWords = s.badWords := rfl
@[simp] theorem modCal_poisoned : (modCal s i f).poisoned = s.poisoned := rfl
@[simp] theorem modCal_cmp : (modCal s i f).cmp = s.cmp := rfl
@[simp] theorem modCal_clr : (modCal s i f).clr = s.clr := rfl
@[simp] theorem modCal_pbu : (modCal s i f).pbu = s.pbu := rfl
@[simp] theorem modCal_rck : (modCal s i f).rck = s.rck := rfl
@[simp] theorem modCal_plk : (modCal s i f).plk = s.plk := rfl
@[simp] theorem modCal_pwr : (modCal s i f).pwr = s.pwr := rfl
@[simp] theorem modCal_lsd : (modCal s i f).lsd = s.lsd := rfl
@[simp] theorem modCal_lpe : (modCal s i f).lpe = s.lpe := rfl
@[simp] theorem modCal_hls : (modCal s i f).hls = s.hls := rfl
@[simp] theorem modCal_thm : (modCal s i f).thm = s.thm := rfl
@[simp] theorem modCal_ftg : (modCal s i f).ftg = s.ftg := rfl
@[simp] theorem modCal_ver : (modCal s i f).ver = s.ver := rfl
@[simp] theorem modCal_mem : (modCal s i f).mem = s.mem := rfl
@[simp] theorem modCal_aud : (modCal s i f).aud = s.aud := rfl
@[simp] theorem modCal_jtag : (modCal s i f).jtag = s.jtag := rfl
@[simp] theorem modCal_vauxDown : (modCal s i f).vauxDown = s.vauxDown := rfl
end

section
variable (o r : Nat) (f : Region → Region)
@[simp] theorem modRegion_pending : (modRegion s o r f).pending = s.pending := rfl
@[simp] theorem modRegion_tsc : (modRegion s o r f).tsc = s.tsc := rfl
@[simp] theorem modRegion_freeCtr : (modRegion s o r f).freeCtr = s.freeCtr := rfl
@[simp] theorem modRegion_regs : (modRegion s o r f).regs = s.regs := rfl
@[simp] theorem modRegion_tallies : (modRegion s o r f).tallies = s.tallies := rfl
@[simp] theorem modRegion_reports : (modRegion s o r f).reports = s.reports := rfl
@[simp] theorem modRegion_outs : (modRegion s o r f).outs = s.outs := rfl
@[simp] theorem modRegion_fuse : (modRegion s o r f).fuse = s.fuse := rfl
@[simp] theorem modRegion_pins : (modRegion s o r f).pins = s.pins := rfl
@[simp] theorem modRegion_boot : (modRegion s o r f).boot = s.boot := rfl
@[simp] theorem modRegion_glb : (modRegion s o r f).glb = s.glb := rfl
@[simp] theorem modRegion_shPcie : (modRegion s o r f).shPcie = s.shPcie := rfl
@[simp] theorem modRegion_shSmb : (modRegion s o r f).shSmb = s.shSmb := rfl
@[simp] theorem modRegion_smbPtr : (modRegion s o r f).smbPtr = s.smbPtr := rfl
@[simp] theorem modRegion_hmi : (modRegion s o r f).hmi = s.hmi := rfl
@[simp] theorem modRegion_flt : (modRegion s o r f).flt = s.flt := rfl
@[simp] theorem modRegion_img : (modRegion s o r f).img = s.img := rfl
@[simp] theorem modRegion_frame : (modRegion s o r f).frame = s.frame := rfl
@[simp] theorem modRegion_ftgOn : (modRegion s o r f).ftgOn = s.ftgOn := rfl
@[simp] theorem modRegion_dram : (modRegion s o r f).dram = s.dram := rfl
@[simp] theorem modRegion_badWords : (modRegion s o r f).badWords = s.badWords := rfl
@[simp] theorem modRegion_poisoned : (modRegion s o r f).poisoned = s.poisoned := rfl
@[simp] theorem modRegion_cmp : (modRegion s o r f).cmp = s.cmp := rfl
@[simp] theorem modRegion_clr : (modRegion s o r f).clr = s.clr := rfl
@[simp] theorem modRegion_pbu : (modRegion s o r f).pbu = s.pbu := rfl
@[simp] theorem modRegion_rck : (modRegion s o r f).rck = s.rck := rfl
@[simp] theorem modRegion_plk : (modRegion s o r f).plk = s.plk := rfl
@[simp] theorem modRegion_pwr : (modRegion s o r f).pwr = s.pwr := rfl
@[simp] theorem modRegion_lsd : (modRegion s o r f).lsd = s.lsd := rfl
@[simp] theorem modRegion_lpe : (modRegion s o r f).lpe = s.lpe := rfl
@[simp] theorem modRegion_hls : (modRegion s o r f).hls = s.hls := rfl
@[simp] theorem modRegion_cal : (modRegion s o r f).cal = s.cal := rfl
@[simp] theorem modRegion_thm : (modRegion s o r f).thm = s.thm := rfl
@[simp] theorem modRegion_ftg : (modRegion s o r f).ftg = s.ftg := rfl
@[simp] theorem modRegion_mem : (modRegion s o r f).mem = s.mem := rfl
@[simp] theorem modRegion_aud : (modRegion s o r f).aud = s.aud := rfl
@[simp] theorem modRegion_jtag : (modRegion s o r f).jtag = s.jtag := rfl
@[simp] theorem modRegion_vauxDown : (modRegion s o r f).vauxDown = s.vauxDown := rfl
end

section
variable (n : Nat)
@[simp] theorem setStage_pending : (setStage s n).pending = s.pending := rfl
@[simp] theorem setStage_tsc : (setStage s n).tsc = s.tsc := rfl
@[simp] theorem setStage_freeCtr : (setStage s n).freeCtr = s.freeCtr := rfl
@[simp] theorem setStage_regs : (setStage s n).regs = s.regs := rfl
@[simp] theorem setStage_tallies : (setStage s n).tallies = s.tallies := rfl
@[simp] theorem setStage_reports : (setStage s n).reports = s.reports := rfl
@[simp] theorem setStage_outs : (setStage s n).outs = s.outs := rfl
@[simp] theorem setStage_fuse : (setStage s n).fuse = s.fuse := rfl
@[simp] theorem setStage_pins : (setStage s n).pins = s.pins := rfl
@[simp] theorem setStage_glb : (setStage s n).glb = s.glb := rfl
@[simp] theorem setStage_shPcie : (setStage s n).shPcie = s.shPcie := rfl
@[simp] theorem setStage_shSmb : (setStage s n).shSmb = s.shSmb := rfl
@[simp] theorem setStage_smbPtr : (setStage s n).smbPtr = s.smbPtr := rfl
@[simp] theorem setStage_hmi : (setStage s n).hmi = s.hmi := rfl
@[simp] theorem setStage_flt : (setStage s n).flt = s.flt := rfl
@[simp] theorem setStage_img : (setStage s n).img = s.img := rfl
@[simp] theorem setStage_frame : (setStage s n).frame = s.frame := rfl
@[simp] theorem setStage_ftgOn : (setStage s n).ftgOn = s.ftgOn := rfl
@[simp] theorem setStage_dram : (setStage s n).dram = s.dram := rfl
@[simp] theorem setStage_badWords : (setStage s n).badWords = s.badWords := rfl
@[simp] theorem setStage_poisoned : (setStage s n).poisoned = s.poisoned := rfl
@[simp] theorem setStage_cmp : (setStage s n).cmp = s.cmp := rfl
@[simp] theorem setStage_clr : (setStage s n).clr = s.clr := rfl
@[simp] theorem setStage_pbu : (setStage s n).pbu = s.pbu := rfl
@[simp] theorem setStage_rck : (setStage s n).rck = s.rck := rfl
@[simp] theorem setStage_plk : (setStage s n).plk = s.plk := rfl
@[simp] theorem setStage_pwr : (setStage s n).pwr = s.pwr := rfl
@[simp] theorem setStage_lsd : (setStage s n).lsd = s.lsd := rfl
@[simp] theorem setStage_lpe : (setStage s n).lpe = s.lpe := rfl
@[simp] theorem setStage_hls : (setStage s n).hls = s.hls := rfl
@[simp] theorem setStage_cal : (setStage s n).cal = s.cal := rfl
@[simp] theorem setStage_thm : (setStage s n).thm = s.thm := rfl
@[simp] theorem setStage_ftg : (setStage s n).ftg = s.ftg := rfl
@[simp] theorem setStage_ver : (setStage s n).ver = s.ver := rfl
@[simp] theorem setStage_mem : (setStage s n).mem = s.mem := rfl
@[simp] theorem setStage_aud : (setStage s n).aud = s.aud := rfl
@[simp] theorem setStage_jtag : (setStage s n).jtag = s.jtag := rfl
@[simp] theorem setStage_vauxDown : (setStage s n).vauxDown = s.vauxDown := rfl
end

@[simp] theorem emit_outs (o : Output) : (emit s o).outs = o :: s.outs := rfl
@[simp] theorem report_reports (r : Report) : (report s r).reports = s.reports ++ [r] := rfl
@[simp] theorem setReg_regs (off v : Nat) : (setReg s off v).regs = mapSet regReset s.regs off (BitVec.ofNat 32 v) := rfl
@[simp] theorem setTally_tallies (off v : Nat) :
    (setTally s off v).tallies = mapSet (fun _ => (0 : Word)) s.tallies off (BitVec.ofNat 32 v) := rfl
@[simp] theorem wr_dram (a : Nat) (b : Byte) : (wr s a b).dram = mapSet dramDefault s.dram a b := rfl
@[simp] theorem modPort_plk (p : Nat) (f : Port → Port) : (modPort s p f).plk = vmod s.plk p f := rfl
@[simp] theorem modBank_bank (b : Nat) (f : Bank → Bank) : (modBank s b f).lsd.bank = vmod s.lsd.bank b f := rfl
@[simp] theorem modSlot_slot (i : Nat) (f : Slot → Slot) : (modSlot s i f).lpe.slot = vmod s.lpe.slot i f := rfl
@[simp] theorem modSrc_srcs (i : Nat) (f : Src → Src) : (modSrc s i f).flt.srcs = vmod s.flt.srcs i f := rfl
@[simp] theorem modChan_ch (c : Nat) (f : Chan → Chan) : (modChan s c f).mem.ch = vmod s.mem.ch c f := rfl
@[simp] theorem modAud_port (p : Nat) (f : AudPort → AudPort) : (modAud s p f).aud.port = vmod s.aud.port p f := rfl
@[simp] theorem modSensor_sensor (i : Nat) (f : Sensor → Sensor) : (modSensor s i f).thm.sensor = vmod s.thm.sensor i f := rfl
@[simp] theorem modCal_ch (n : Nat) (f : CalCh → CalCh) : (modCal s n f).cal.ch = vmod s.cal.ch n f := rfl
@[simp] theorem setStage_stage (n : Nat) : (setStage s n).boot.stage = n := rfl

end Sys2Proof.Machine
end

