-- ==== Sys2Proof/Laws/Memory.lean ====
section
/-! SUPPORT. The DRAM and the register file: every operation keeps the canonical form; a write is read back at its place and leaves every other place as it was. -/

namespace Sys2Proof.Machine

/-- The DRAM stands in canonical form. -/
abbrev Memory.wf (s : State) : Prop := mapWf dramDefault s.dram = true

/-- The register file and the tallies stand in canonical form. -/
abbrev Registers.wf (s : State) : Prop := mapWf regReset s.regs = true ∧ mapWf (fun _ => (0 : Word)) s.tallies = true

/-! ### The register file -/

theorem reg_setReg_same {s : State} (h : Registers.wf s) (off v : Nat) :
    reg (setReg s off v) off = BitVec.ofNat 32 v := mapGet_mapSet_same h.1 off _

theorem reg_setReg_ne (s : State) {off i : Nat} (v : Nat) (h : i ≠ off) : reg (setReg s off v) i = reg s i :=
  mapGet_mapSet_ne _ _ h

theorem setReg_wf {s : State} (h : Registers.wf s) (off v : Nat) : Registers.wf (setReg s off v) :=
  ⟨mapSet_wf h.1 off _, h.2⟩

theorem tally_setTally_same {s : State} (h : Registers.wf s) (off v : Nat) :
    tally (setTally s off v) off = v % 2 ^ 32 := by
  simp only [tally, setTally]
  rw [mapGet_mapSet_same h.2]
  simp

theorem tally_setTally_ne (s : State) {off i : Nat} (v : Nat) (h : i ≠ off) : tally (setTally s off v) i = tally s i := by
  simp only [tally, setTally]
  rw [mapGet_mapSet_ne _ _ h]

theorem setTally_wf {s : State} (h : Registers.wf s) (off v : Nat) : Registers.wf (setTally s off v) :=
  ⟨h.1, mapSet_wf h.2 off _⟩

/-! ### DRAM -/

theorem rd_wr_same {s : State} (h : Memory.wf s) (a : Nat) (b : Byte) : rd (wr s a b) a = b := mapGet_mapSet_same h a b

theorem rd_wr_ne (s : State) {a i : Nat} (b : Byte) (h : i ≠ a) : rd (wr s a b) i = rd s i := mapGet_mapSet_ne _ _ h

theorem wr_wf {s : State} (h : Memory.wf s) (a : Nat) (b : Byte) : Memory.wf (wr s a b) := mapSet_wf h a b

theorem wrRaw_wf {s : State} (h : Memory.wf s) (a : Nat) (l : List Byte) : Memory.wf (wrRaw s a l) := by
  induction l generalizing s a with
  | nil => exact h
  | cons b t ih => exact ih (wr_wf h a b) (a + 1)

theorem healWords_dram (s : State) (a n : Nat) : (healWords s a n).dram = s.dram := rfl

theorem wrBytes_wf {s : State} (h : Memory.wf s) (a : Nat) (l : List Byte) : Memory.wf (wrBytes s a l) := wrRaw_wf h a l

theorem zeroRange_wf {s : State} (h : Memory.wf s) (a n : Nat) : Memory.wf (zeroRange s a n) := filter_wf _ h

theorem wrList_wf {s : State} (h : Memory.wf s) (l : List (Nat × Byte)) : Memory.wf (wrList s l) := by
  unfold wrList
  induction l generalizing s with
  | nil => exact h
  | cons e t ih => exact ih (wr_wf h e.1 e.2)

/-- Bytes below the place written, and from its end on, stay. -/
theorem rd_wrRaw_outside (s : State) (a : Nat) (l : List Byte) {i : Nat} (h : i < a ∨ a + l.length ≤ i) :
    rd (wrRaw s a l) i = rd s i := by
  induction l generalizing s a with
  | nil => rfl
  | cons b t ih =>
    simp only [List.length_cons] at h
    simp only [wrRaw]
    rw [ih (wr s a b) (a + 1) (by omega), rd_wr_ne s b (by omega)]

theorem rd_wrBytes_outside (s : State) (a : Nat) (l : List Byte) {i : Nat} (h : i < a ∨ a + l.length ≤ i) :
    rd (wrBytes s a l) i = rd s i := rd_wrRaw_outside s a l h

/-- The bytes written are read back. -/
theorem rd_wrRaw_inside {s : State} (hw : Memory.wf s) (a : Nat) (l : List Byte) {i : Nat} (h : i < l.length) :
    rd (wrRaw s a l) (a + i) = l.getD i 0 := by
  induction l generalizing s a i with
  | nil => simp at h
  | cons b t ih =>
    simp only [wrRaw]
    cases i with
    | zero => rw [rd_wrRaw_outside _ _ _ (by omega), Nat.add_zero, rd_wr_same hw]; rfl
    | succ j =>
      have := ih (wr_wf hw a b) (a + 1) (i := j) (by simpa using h)
      rw [show a + (j + 1) = a + 1 + j by omega, this]
      rfl

theorem rd_wrBytes_inside {s : State} (hw : Memory.wf s) (a : Nat) (l : List Byte) {i : Nat} (h : i < l.length) :
    rd (wrBytes s a l) (a + i) = l.getD i 0 := rd_wrRaw_inside hw a l h

/-- Outside the range set to 0 every byte stays. -/
theorem mapGet_filter_keep {m : List (Nat × Byte)} (p : Nat × Byte → Bool) {k : Nat} (h : ∀ b, p (k, b) = true) :
    mapGet dramDefault (m.filter p) k = mapGet dramDefault m k := by
  induction m with
  | nil => rfl
  | cons e t ih =>
    obtain ⟨j, b⟩ := e
    simp only [List.filter_cons, mapGet]
    by_cases hj : j = k
    · subst hj; simp [h, mapGet]
    · split
      · simp [mapGet, hj, ih]
      · simpa [hj] using ih

theorem rd_zeroRange_outside (s : State) (a n : Nat) {i : Nat} (h : i < a ∨ a + n ≤ i) : rd (zeroRange s a n) i = rd s i :=
  mapGet_filter_keep _ (fun b => by simp; omega)

end Sys2Proof.Machine
end

