-- ==== Sys2Proof/Laws/Host.lean ====
section
/-! SUPPORT. What posting events and completions, signalling vectors and counting tallies can change: the wires, the host interface, tallies and the step's reports, and nothing else. -/

namespace Sys2Proof.Machine

/-! ### Events, vectors and tallies -/

theorem Posts.refl (s : State) : Posts s s where
  frame := ⟨s.outs, s.hmi, s.tallies, s.reports, rfl⟩
  events := rfl
  outs := List.suffix_refl _
  reports := fun _ h => .inl h
  tallies := fun _ _ => rfl

theorem Posts.trans {a b c : State} (h1 : Posts a b) (h2 : Posts b c) : Posts a c where
  frame := by
    obtain ⟨o, h, ta, r, rfl⟩ := h1.frame
    obtain ⟨o', h', ta', r', rfl⟩ := h2.frame
    exact ⟨o', h', ta', r', rfl⟩
  events := h2.events.trans h1.events
  outs := h1.outs.trans h2.outs
  reports := fun r hr => (h2.reports r hr).elim (h1.reports r) .inr
  tallies := fun off h => (h2.tallies off h).trans (h1.tallies off h)

/-- A change of the host interface's events and vectors. -/
theorem Posts.hmi (s : State) (h : Hmi) (hc : evtCore h = evtCore s.hmi := by rfl) : Posts s { s with hmi := h } where
  frame := ⟨s.outs, h, s.tallies, s.reports, rfl⟩
  events := hc
  outs := List.suffix_refl _
  reports := fun _ h => .inl h
  tallies := fun _ _ => rfl

theorem Posts.ite {s a b : State} (c : Prop) [Decidable c] (ha : Posts s a) (hb : Posts s b) :
    Posts s (if c then a else b) := by split <;> assumption

theorem emit_posts (s : State) (o : Output) : Posts s (emit s o) where
  frame := ⟨_, _, _, _, rfl⟩
  events := rfl
  outs := List.suffix_cons _ _
  reports := fun _ h => .inl h
  tallies := fun _ _ => rfl

theorem reportLost_posts (s : State) : Posts s (report s { source := 0x12 }) where
  frame := ⟨_, _, _, _, rfl⟩
  events := rfl
  outs := List.suffix_refl _
  reports := fun r h => by simpa using h
  tallies := fun _ _ => rfl

theorem setTally_posts (s : State) (off v : Nat) (hu : unitTally off = false) : Posts s (setTally s off v) where
  frame := ⟨_, _, _, _, rfl⟩
  events := rfl
  outs := List.suffix_refl _
  reports := fun _ h => .inl h
  tallies := fun i h => tally_setTally_ne s v (by rintro rfl; rw [hu] at h; cases h)

theorem signal_posts (s : State) (v : Nat) : Posts s (signal s v) := by
  unfold signal
  split
  · exact .hmi _ _
  · exact emit_posts _ _

theorem bumpRaw_posts (s : State) (off : Nat) (hu : unitTally off = false) : Posts s (bumpRaw s off).1 := by
  unfold bumpRaw
  split
  · exact .refl _
  · exact setTally_posts _ _ _ hu

theorem coalesceEvt_posts (s : State) : Posts s (coalesceEvt s) := by
  unfold coalesceEvt
  dsimp only
  split
  · split
    · exact (Posts.hmi _ _).trans (signal_posts _ _)
    · exact .hmi _ _
  · exact signal_posts _ _

theorem writeEvt_posts (s : State) (e : Event) : Posts s (writeEvt s e) :=
  ((emit_posts s _).trans (.hmi _ _)).trans (coalesceEvt_posts _)

theorem dropEvt_posts (s : State) : Posts s (dropEvt s) := by
  unfold dropEvt
  dsimp only
  split
  · exact (bumpRaw_posts s offEvtLost rfl).trans (.hmi _ _)
  · exact ((bumpRaw_posts s offEvtLost rfl).trans (.hmi _ _)).trans (reportLost_posts _)

theorem pushEvt_posts (s : State) (e : Event) : Posts s (pushEvt s e) := by
  unfold pushEvt
  split
  · exact .refl _
  · split
    · exact writeEvt_posts _ _
    · split
      · exact .hmi _ _
      · exact dropEvt_posts _

theorem post_posts (s : State) (code unit : Nat) (p : List Byte) : Posts s (post s code unit p) := pushEvt_posts _ _

theorem post2_posts (s : State) (code unit : Nat) (p : List Byte) : Posts s (post2 s code unit p) :=
  .ite _ (post_posts _ _ _ _) (.refl _)

/-- Counting a tally does no more than count it and, where it saturates, post an event. -/
theorem bump_counted (s : State) (off : Nat) : Posts (bumpRaw s off).1 (bump s off) := by
  unfold bump
  dsimp only
  split
  · exact post_posts _ _ _ _
  · exact .refl _

theorem bump_posts (s : State) (off : Nat) (hu : unitTally off = false) : Posts s (bump s off) :=
  (bumpRaw_posts s off hu).trans (bump_counted s off)

/-- A count adds 1 up to the largest value. -/
theorem tally_bumpRaw (s : State) (off : Nat) : tally (bumpRaw s off).1 off = min (tally s off + 1) tallyMax := by
  have hb : tally s off ≤ tallyMax := by
    have := (mapGet (fun _ => (0 : Word)) s.tallies off).isLt
    simp only [tally, tallyMax]; omega
  unfold bumpRaw
  split
  · rename_i h; simp [h]
  · rename_i h
    have hlt : tally s off + 1 < 2 ^ 32 := by simp only [tallyMax] at h hb; omega
    have hne : BitVec.ofNat 32 (tally s off + 1) ≠ 0 := by
      intro h0
      have := congrArg BitVec.toNat h0
      simp only [BitVec.toNat_ofNat, Nat.mod_eq_of_lt hlt] at this
      simp at this
    show (mapGet _ (mapSet _ s.tallies off _) off).toNat = _
    rw [mapGet_mapSet_listed _ _ hne, BitVec.toNat_ofNat, Nat.mod_eq_of_lt hlt]
    simp only [tallyMax] at h hb ⊢; omega

theorem tally_bumpRaw_ne (s : State) {off i : Nat} (h : i ≠ off) : tally (bumpRaw s off).1 i = tally s i := by
  unfold bumpRaw
  split
  · rfl
  · exact tally_setTally_ne s _ h

theorem foldl_posts {β : Type} (f : State → β → State) (h : ∀ s b, Posts s (f s b)) (l : List β) (s : State) :
    Posts s (l.foldl f s) := by
  induction l generalizing s with
  | nil => exact .refl _
  | cons b t ih => exact (h s b).trans (ih _)

theorem bumpBy_posts (s : State) (off n : Nat) (hu : unitTally off = false) : Posts s (bumpBy s off n) :=
  foldl_posts _ (fun s _ => bump_posts s off hu) _ s

theorem flushVectors_posts (s : State) : Posts s (flushVectors s) :=
  foldl_posts _ (fun s v => by
    dsimp only
    split
    · exact (Posts.hmi s _).trans (emit_posts _ _)
    · exact .refl _) _ s

/-! ### Completions -/

theorem hmiCore_of_evtCore {h h' : Hmi} (e : evtCore h = evtCore h') : hmiCore h = hmiCore h' := by
  have : ∀ x : Hmi, hmiCore (evtCore x) = hmiCore x := fun _ => rfl
  rw [← this h, ← this h', e]

theorem Posts.flight {s t : State} (h : Posts s t) : t.hmi.inFlight = s.hmi.inFlight :=
  congrArg (f := Hmi.inFlight) (a₁ := evtCore t.hmi) (a₂ := evtCore s.hmi) h.events

theorem Posts.host {s t : State} (h : Posts s t) : HostOnly s t where
  frame := h.frame
  core := hmiCore_of_evtCore h.events
  waits := fun w => by rw [noWait, h.flight]; exact w
  idle := fun w => h.flight.trans w
  outs := h.outs
  reports := h.reports
  tallies := h.tallies

theorem HostOnly.refl (s : State) : HostOnly s s := (Posts.refl s).host

theorem HostOnly.trans {a b c : State} (h1 : HostOnly a b) (h2 : HostOnly b c) : HostOnly a c where
  frame := by
    obtain ⟨o, h, ta, r, rfl⟩ := h1.frame
    obtain ⟨o', h', ta', r', rfl⟩ := h2.frame
    exact ⟨o', h', ta', r', rfl⟩
  core := h2.core.trans h1.core
  waits := fun w => h2.waits (h1.waits w)
  idle := fun w => h2.idle (h1.idle w)
  outs := h1.outs.trans h2.outs
  reports := fun r hr => (h2.reports r hr).elim (h1.reports r) .inr
  tallies := fun off h => (h2.tallies off h).trans (h1.tallies off h)

/-- A change of the host interface's traffic. -/
theorem HostOnly.hmi (s : State) (h : Hmi) (hc : hmiCore h = hmiCore s.hmi := by rfl)
    (w : noWait s → h.inFlight.all (fun f => !f.waiting) = true := by exact id)
    (i : s.hmi.inFlight = [] → h.inFlight = [] := by exact id) : HostOnly s { s with hmi := h } where
  frame := ⟨s.outs, h, s.tallies, s.reports, rfl⟩
  core := hc
  waits := w
  idle := i
  outs := List.suffix_refl _
  reports := fun _ h => .inl h
  tallies := fun _ _ => rfl

theorem HostOnly.ite {s a b : State} (c : Prop) [Decidable c] (ha : HostOnly s a) (hb : HostOnly s b) :
    HostOnly s (if c then a else b) := by split <;> assumption

theorem coalesceCpl_host (s : State) : HostOnly s (coalesceCpl s) := by
  unfold coalesceCpl
  dsimp only
  split
  · split
    · exact (HostOnly.hmi _ _).trans (signal_posts _ _).host
    · exact .hmi _ _
  · exact (signal_posts _ _).host

theorem writeCpl_host (s : State) (c : Completion) : HostOnly s (writeCpl s c) :=
  ((emit_posts s _).host.trans (.hmi _ _)).trans (coalesceCpl_host _)

theorem postCpl_host (s : State) (c : Completion) : HostOnly s (postCpl s c) := by
  unfold postCpl
  split
  · exact .refl _
  · split
    · exact writeCpl_host _ _
    · exact .hmi _ _

theorem drainCpl_host (n : Nat) (s : State) : HostOnly s (drainCpl n s) := by
  induction n generalizing s with
  | zero => exact .refl _
  | succ k ih =>
    unfold drainCpl
    split
    · exact .refl _
    · split
      · exact ((HostOnly.hmi s _).trans (writeCpl_host _ _)).trans (ih _)
      · exact .refl _

theorem noWait_tail {s : State} {f : InFlight} {l : List InFlight} (h : s.hmi.inFlight = f :: l) (w : noWait s) :
    l.all (fun g => !g.waiting) = true := by
  simp only [noWait, h, List.all_cons, Bool.and_eq_true] at w
  exact w.2

theorem withInFlight_host (s : State) (l : List InFlight) (w : noWait s → l.all (fun f => !f.waiting) = true)
    (i : s.hmi.inFlight = [] → l = []) : HostOnly s (withInFlight s l) := .hmi s _ rfl w i

theorem flushOrdered_host (n : Nat) (s : State) : HostOnly s (flushOrdered n s) := by
  induction n generalizing s with
  | zero => exact .refl _
  | succ k ih =>
    unfold flushOrdered
    split
    · exact .refl _
    · rename_i f t hl
      split
      · exact .refl _
      · dsimp only
        split
        · exact ((withInFlight_host s _ (noWait_tail hl) (by rw [hl]; intro h; cases h)).trans (postCpl_host _ _)).trans (ih _)
        · exact (withInFlight_host s _ (noWait_tail hl) (by rw [hl]; intro h; cases h)).trans (ih _)

theorem noWait_filter {s : State} (p : InFlight → Bool) (w : noWait s) :
    (s.hmi.inFlight.filter p).all (fun g => !g.waiting) = true := by
  simp only [noWait, List.all_eq_true] at w ⊢
  exact fun f hf => w f (List.mem_filter.mp hf).1

theorem noWait_done {s : State} (id : Nat) (d : Option (Nat × List Byte)) (w : noWait s) :
    (s.hmi.inFlight.map (fun g => if g.id == id then { g with done := d } else g)).all (fun g => !g.waiting) = true := by
  simp only [noWait, List.all_eq_true, List.mem_map] at w ⊢
  rintro _ ⟨f, hf, rfl⟩
  have := w f hf
  split <;> exact this

theorem complete_host (s : State) (id : Nat) (st : Status) (res : List Byte) : HostOnly s (complete s id st res) := by
  unfold complete
  split
  · exact .refl _
  · dsimp only
    split
    · exact ((bump_posts s offCmdTally rfl).host.trans (withInFlight_host _ _ (noWait_done id _) (by intro h; simp [h]))).trans (flushOrdered_host _ _)
    · split
      · exact ((bump_posts s offCmdTally rfl).host.trans (withInFlight_host _ _ (noWait_filter _) (by intro h; simp [h]))).trans (postCpl_host _ _)
      · exact (bump_posts s offCmdTally rfl).host.trans (withInFlight_host _ _ (noWait_filter _) (by intro h; simp [h]))

theorem completeOpt_host (s : State) (id : Option Nat) (st : Status) (res : List Byte) :
    HostOnly s (completeOpt s id st res) := by
  unfold completeOpt
  split
  · exact .refl _
  · exact complete_host _ _ _ _

end Sys2Proof.Machine
end

