-- ==== Sys2Proof/Laws/Finish.lean ====
section
/-! SUPPORT. The end of every command: no report is left waiting; where nothing is reported and no command waits, it changes nothing; and every command's meaning ends there. -/

namespace Sys2Proof.Machine

/-- After the collector no report waits. -/
theorem collectN_reports (n : Nat) (s : State) : (collectN n s).reports = [] := by
  induction n generalizing s with
  | zero => rfl
  | succ k ih =>
    unfold collectN
    split
    · simpa using ‹s.reports.isEmpty = true›
    · exact ih _

@[simp] theorem collect_reports (s : State) : (collect s).reports = [] := collectN_reports 4 s

/-- The collector leaves a state without reports as it is. -/
theorem collect_quiet {s : State} (h : s.reports = []) : collect s = s := by
  simp [collect, collectN, h]

@[simp] theorem settle_reports (a s : State) : (settle a s).reports = [] := collect_reports _

@[simp] theorem withQueue_pending (s : State) (q : List Instr) : (withQueue s q).pending = q := rfl
@[simp] theorem withQueue_reports (s : State) (q : List Instr) : (withQueue s q).reports = s.reports := rfl

@[simp] theorem finish_reports (a s : State) : (finish a s).reports = [] := settle_reports _ _

@[simp] theorem finish_pending (a s : State) : (finish a s).pending = a.pending := rfl

/-- Nothing for the end of a command to do: no report, no new record, no exit condition, no command that could start. -/
structure Quiet (a s : State) : Prop where
  reports : s.reports = []
  head : s.flt.head = a.flt.head
  plk : s.plk = a.plk
  hls : s.hls.mode = a.hls.mode
  stop : s.thm.stop = a.thm.stop
  rearm : rearmed a s = false
  waiting : s.hmi.inFlight.all (fun f => !f.waiting) = true

/-- No bank has been re-armed where each stands as before. -/
theorem rearmed_same {a s : State} (h : s.lsd.bank = a.lsd.bank) : rearmed a s = false := by
  rw [rearmed, h, List.any_eq_false]
  intro b _
  cases (vget a.lsd.bank b {}).mode <;> decide

/-- A recovery's conditions do not arise where the units' modes stand as before. -/
theorem exitConditions_quiet {a s : State} (hp : s.plk = a.plk) (hh : s.hls.mode = a.hls.mode)
    (ht : s.thm.stop = a.thm.stop) (hr : rearmed a s = false) : exitConditions a s = s := by
  have h1 : ((List.range 6).any fun p =>
      (vget a.plk p {}).mode != .active && (vget s.plk p {}).mode == .active) = false := by
    rw [hp, List.any_eq_false]
    intro p _
    cases h : (vget a.plk p {}).mode <;> simp
  have h2 : (a.hls.mode != .running && s.hls.mode == .running) = false := by
    rw [hh]; cases a.hls.mode <;> simp
  have h3 : (a.thm.stop && !s.thm.stop) = false := by rw [ht]; simp
  simp only [exitConditions, h1, h2, h3, hr, Bool.or_self, Bool.and_false, Bool.false_and, Bool.false_eq_true, if_false]

theorem settle_quiet {a s : State} (q : Quiet a s) : settle a s = s := by
  have hn : newFatal a s = false := by simp [newFatal, q.head]
  simp only [settle, collect_quiet q.reports, hn, Bool.false_eq_true, if_false,
    exitConditions_quiet q.plk q.hls q.stop q.rearm]

theorem startWaiting_quiet {s : State} (n : Nat) (h : s.hmi.inFlight.all (fun f => !f.waiting) = true) :
    startWaiting n s = s := by
  cases n with
  | zero => rfl
  | succ k =>
    have : s.hmi.inFlight.find? (fun f => f.waiting && !mustWait s.hmi.inFlight f) = none := by
      rw [List.find?_eq_none]
      intro f hf
      have := List.all_eq_true.mp h f hf
      simp_all
    simp [startWaiting, this]

/-- The end of a command that reports nothing changes nothing but keeps the queue. -/
theorem finish_quiet {a s : State} (q : Quiet a s) : finish a s = withQueue s a.pending := by
  have q' : Quiet s s := ⟨q.reports, rfl, rfl, rfl, rfl, rearmed_same rfl, q.waiting⟩
  simp only [finish, settle_quiet q, startWaiting_quiet _ q.waiting, settle_quiet q']

/-- An event of a running module. -/
theorem event_running {s : State} (h : s.boot.power = .running) (f : State → State) : event s f = finish s (f s) := by
  simp [event, h]

/-- An event while the module is held in reset or tripped: nothing happens. -/
theorem event_stopped {s : State} (h : s.boot.power ≠ .running) (f : State → State) : event s f = s := by
  simp [event, h]

/-- An event of the host interface while the module is not held in reset. -/
theorem hostEvent_up {s : State} (h : s.boot.power ≠ .heldInReset) (f : State → State) : hostEvent s f = finish s (f s) := by
  simp [hostEvent, h]

/-- An event of the host interface while the module is held in reset: nothing happens. -/
theorem hostEvent_held {s : State} (h : s.boot.power = .heldInReset) (f : State → State) : hostEvent s f = s := by
  simp [hostEvent, h]

/-- An event leaves the queue, and no report. -/
theorem event_pending (s : State) (f : State → State) : (event s f).pending = s.pending := by
  unfold event; split <;> rfl

theorem hostEvent_pending (s : State) (f : State → State) : (hostEvent s f).pending = s.pending := by
  unfold hostEvent; split <;> rfl

theorem event_reports {s : State} (h : s.reports = []) (f : State → State) : (event s f).reports = [] := by
  unfold event; split <;> simp [h]

theorem hostEvent_reports {s : State} (h : s.reports = []) (f : State → State) : (hostEvent s f).reports = [] := by
  unfold hostEvent; split <;> simp [h]

end Sys2Proof.Machine
end

