-- ==== Sys2Proof/Laws/Collect.lean ====
section
/-! SUPPORT. The fault collector: what recording reports and reacting to them can change, that no PENDING bit falls, and that a report of a class that is not corrected leaves its source pending. -/

namespace Sys2Proof.Machine

theorem Keeps.refl (s : State) : Keeps s s :=
  ⟨rfl, id, id, List.suffix_refl _, fun _ h => h, fun _ h => h, rfl, fun _ h => .inl h, fun off _ => Eq.refl (tally s off), rfl,
    fun a _ => Eq.refl (rd s a)⟩

theorem reservedBase_fuse {s t : State} (h : t.fuse = s.fuse) : reservedBase t = reservedBase s := by
  unfold reservedBase usable dramGb
  rw [h]

theorem logBase_fuse {s t : State} (h : t.fuse = s.fuse) : logBase t = logBase s := by
  unfold logBase
  rw [reservedBase_fuse h]

theorem Keeps.trans {a b c : State} (h1 : Keeps a b) (h2 : Keeps b c) : Keeps a c :=
  ⟨h2.core.trans h1.core, fun w => h2.waits (h1.waits w), fun w => h2.idle (h1.idle w), h1.outs.trans h2.outs, fun i h => h2.pending i (h1.pending i h),
    fun i h => h2.fatal i (h1.fatal i h),
    h2.map.trans h1.map, fun r hr => (h2.reports r hr).elim (h1.reports r) .inr,
    fun off h => (h2.tallies off h).trans (h1.tallies off h), h2.fuse.trans h1.fuse,
    fun a h => (h2.memory a (by rw [logBase_fuse h1.fuse]; exact h)).trans (h1.memory a h)⟩

theorem PinsDown.refl (s : State) : PinsDown s s := ⟨id, id, id, rfl⟩

theorem PinsDown.trans {a b c : State} (h1 : PinsDown a b) (h2 : PinsDown b c) : PinsDown a c :=
  ⟨fun h => h2.laser (h1.laser h), fun h => h2.shutter (h1.shutter h), fun h => h2.hl (h1.hl h), h2.highZ.trans h1.highZ⟩

theorem Records.refl (s : State) : Records s s :=
  ⟨⟨s.outs, s.hmi, s.tallies, s.reports, s.flt, s.dram, s.badWords, s.poisoned, rfl⟩, rfl, .refl s⟩

theorem Records.trans {a b c : State} (h1 : Records a b) (h2 : Records b c) : Records a c where
  frame := by
    obtain ⟨o, h, ta, r, fl, dr, bw, po, rfl⟩ := h1.frame
    obtain ⟨o', h', ta', r', fl', dr', bw', po', rfl⟩ := h2.frame
    exact ⟨o', h', ta', r', fl', dr', bw', po', rfl⟩
  events := h2.events.trans h1.events
  keeps := h1.keeps.trans h2.keeps

theorem Reacts.refl (s : State) : Reacts s s :=
  ⟨⟨s.outs, s.hmi, s.tallies, s.reports, s.flt, s.dram, s.badWords, s.poisoned, s.lsd, s.pins, s.lpe, s.plk, s.rck, s.hls, rfl⟩,
    .refl s, .refl s⟩

theorem Reacts.trans {a b c : State} (h1 : Reacts a b) (h2 : Reacts b c) : Reacts a c where
  frame := by
    obtain ⟨o, h, ta, r, fl, dr, bw, po, ls, pi, lp, pk, rc, hl, rfl⟩ := h1.frame
    obtain ⟨o', h', ta', r', fl', dr', bw', po', ls', pi', lp', pk', rc', hl', rfl⟩ := h2.frame
    exact ⟨o', h', ta', r', fl', dr', bw', po', ls', pi', lp', pk', rc', hl', rfl⟩
  keeps := h1.keeps.trans h2.keeps
  pins := h1.pins.trans h2.pins

theorem Records.reacts {s t : State} (h : Records s t) : Reacts s t where
  frame := by
    obtain ⟨o, hm, ta, r, fl, dr, bw, po, rfl⟩ := h.frame
    exact ⟨o, hm, ta, r, fl, dr, bw, po, s.lsd, s.pins, s.lpe, s.plk, s.rck, s.hls, rfl⟩
  keeps := h.keeps
  pins := by
    obtain ⟨o, hm, ta, r, fl, dr, bw, po, rfl⟩ := h.frame
    exact ⟨id, id, id, rfl⟩

theorem HostOnly.keeps {s t : State} (h : HostOnly s t) : Keeps s t where
  core := h.core
  waits := h.waits
  idle := h.idle
  outs := h.outs
  pending := by
    obtain ⟨o, hm, ta, r, rfl⟩ := h.frame
    exact fun _ h => h
  fatal := by
    obtain ⟨o, hm, ta, r, rfl⟩ := h.frame
    exact fun _ h => h
  map := by
    obtain ⟨o, hm, ta, r, rfl⟩ := h.frame
    rfl
  reports := h.reports
  tallies := h.tallies
  fuse := by
    obtain ⟨o, hm, ta, r, rfl⟩ := h.frame
    rfl
  memory := by
    obtain ⟨o, hm, ta, r, rfl⟩ := h.frame
    exact fun _ _ => rfl

theorem HostOnly.reacts {s t : State} (h : HostOnly s t) : Reacts s t where
  frame := by
    obtain ⟨o, hm, ta, r, rfl⟩ := h.frame
    exact ⟨o, hm, ta, r, s.flt, s.dram, s.badWords, s.poisoned, s.lsd, s.pins, s.lpe, s.plk, s.rck, s.hls, rfl⟩
  keeps := h.keeps
  pins := by
    obtain ⟨o, hm, ta, r, rfl⟩ := h.frame
    exact ⟨id, id, id, rfl⟩

theorem Posts.records {s t : State} (h : Posts s t) : Records s t where
  frame := by
    obtain ⟨o, hm, ta, r, rfl⟩ := h.frame
    exact ⟨o, hm, ta, r, s.flt, s.dram, s.badWords, s.poisoned, rfl⟩
  events := h.events
  keeps := h.host.keeps

theorem Posts.reacts {s t : State} (h : Posts s t) : Reacts s t := h.host.reacts

/-- A change of the light path or the scanner that raises no light output. -/
theorem Reacts.units (s : State) (ls : Lsd) (pi : Pins) (lp : Lpe) (pk : Vector Port 6) (rc : Rck) (hl : Hls)
    (hp : PinsDown s { s with pins := pi } := by exact ⟨id, id, id, rfl⟩) :
    Reacts s { s with lsd := ls, pins := pi, lpe := lp, plk := pk, rck := rc, hls := hl } :=
  ⟨⟨s.outs, s.hmi, s.tallies, s.reports, s.flt, s.dram, s.badWords, s.poisoned, ls, pi, lp, pk, rc, hl, rfl⟩,
    ⟨rfl, id, id, List.suffix_refl _, fun _ h => h, fun _ h => h, rfl, fun _ h => .inl h, fun _ _ => rfl, rfl, fun _ _ => rfl⟩,
    ⟨hp.laser, hp.shutter, hp.hl, hp.highZ⟩⟩

/-- A change of the DRAM from the reserved area on. -/
theorem Records.memory (s : State) (dr : List Host.Cell) (bw po : List Nat)
    (hd : ∀ a, a < logBase s → mapGet dramDefault dr a = rd s a) :
    Records s { s with dram := dr, badWords := bw, poisoned := po } :=
  ⟨⟨s.outs, s.hmi, s.tallies, s.reports, s.flt, dr, bw, po, rfl⟩, rfl,
    ⟨rfl, id, id, List.suffix_refl _, fun _ h => h, fun _ h => h, rfl, fun _ h => .inl h, fun _ _ => rfl, rfl, hd⟩⟩

/-- A change of the collector that lowers no PENDING bit and ends no FATAL. -/
theorem Records.flt (s : State) (fl : Flt)
    (h : ∀ i, (srcAt s i).pending = true → (vget fl.srcs i {}).pending = true)
    (hf : ∀ i, (srcAt s i).mode = .fatal → (vget fl.srcs i {}).mode = .fatal) (hm : fl.map = s.flt.map) :
    Records s { s with flt := fl } :=
  ⟨⟨s.outs, s.hmi, s.tallies, s.reports, fl, s.dram, s.badWords, s.poisoned, rfl⟩, rfl,
    ⟨rfl, id, id, List.suffix_refl _, h, hf, hm, fun _ h => .inl h, fun _ _ => rfl, rfl, fun _ _ => rfl⟩⟩

theorem Records.foldl {β : Type} (f : State → β → State) (h : ∀ s b, Records s (f s b)) (l : List β) (s : State) :
    Records s (l.foldl f s) := by
  induction l generalizing s with
  | nil => exact .refl _
  | cons b t ih => exact (h s b).trans (ih _)

theorem Reacts.foldl {β : Type} (f : State → β → State) (h : ∀ s b, Reacts s (f s b)) (l : List β) (s : State) :
    Reacts s (l.foldl f s) := by
  induction l generalizing s with
  | nil => exact .refl _
  | cons b t ih => exact (h s b).trans (ih _)

theorem Reacts.forN (n : Nat) (f : State → Nat → State) (h : ∀ s b, Reacts s (f s b)) (s : State) :
    Reacts s (Machine.forN n f s) := .foldl f h _ s

theorem ite_records {s a b : State} (c : Prop) [Decidable c] (ha : Records s a) (hb : Records s b) :
    Records s (if c then a else b) := by split <;> assumption

theorem ite_reacts {s a b : State} (c : Prop) [Decidable c] (ha : Reacts s a) (hb : Reacts s b) :
    Reacts s (if c then a else b) := by split <;> assumption

/-! ### The collector's own parts -/

/-- What holds of a source and of what `f` makes of it holds after the change, whichever source is looked at. -/
theorem srcAt_modSrc (s : State) (i j : Nat) (f : Src → Src) :
    srcAt (modSrc s i f) j = if i = j ∧ i < 256 then f (srcAt s j) else srcAt s j := by
  show vget (vmod s.flt.srcs i f) j {} = _
  by_cases hi : i < 256
  · by_cases hij : i = j
    · subst hij; simp [vget_vmod_same _ hi, hi, srcAt]
    · rw [vget_vmod_ne _ hij]; simp [hij, srcAt]
  · rw [vmod_beyond _ hi]; simp [hi, srcAt]

/-- Changing a source without lowering its PENDING bit or ending FATAL. -/
theorem modSrc_records (s : State) (i : Nat) (f : Src → Src) (h : ∀ x, x.pending = true → (f x).pending = true)
    (hf : (srcAt s i).mode = .fatal → (f (srcAt s i)).mode = .fatal) : Records s (modSrc s i f) := by
  refine Records.flt s _ (fun j hj => ?_) (fun j hj => ?_) rfl
  · have := srcAt_modSrc s i j f
    simp only [srcAt] at this hj
    show (vget (vmod s.flt.srcs i f) j {}).pending = true
    rw [show vget (vmod s.flt.srcs i f) j {} = _ from this]
    split
    · exact h _ hj
    · exact hj
  · have := srcAt_modSrc s i j f
    simp only [srcAt] at this hj hf
    show (vget (vmod s.flt.srcs i f) j {}).mode = .fatal
    rw [show vget (vmod s.flt.srcs i f) j {} = _ from this]
    split
    · rename_i hc
      obtain ⟨rfl, -⟩ := hc
      exact hf hj
    · exact hj

theorem bump_records (s : State) (off : Nat) (hu : unitTally off = false) : Records s (bump s off) :=
  (bump_posts s off hu).records

theorem unitTally_source (src k : Nat) (h : k < 16) : unitTally (srcBase src + k) = false := by
  have : src % 256 < 256 := Nat.mod_lt _ (by omega)
  have hd : decide (0x40080 ≤ srcBase src + k ∧ srcBase src + k < 0x42000) = true := by
    rw [decide_eq_true_eq]; unfold srcBase; omega
  unfold unitTally
  rw [hd]
  simp

theorem post_records (s : State) (c u : Nat) (p : List Byte) : Records s (post s c u p) := (post_posts s c u p).records
theorem signal_records (s : State) (v : Nat) : Records s (signal s v) := (signal_posts s v).records
theorem emit_reacts (s : State) (o : Output) : Reacts s (emit s o) := (emit_posts s o).reacts
theorem post_reacts (s : State) (c u : Nat) (p : List Byte) : Reacts s (post s c u p) := (post_posts s c u p).reacts
theorem signal_reacts (s : State) (v : Nat) : Reacts s (signal s v) := (signal_posts s v).reacts
theorem completeOpt_reacts (s : State) (id : Option Nat) (st : Status) (res : List Byte) :
    Reacts s (completeOpt s id st res) := (completeOpt_host s id st res).reacts

theorem wrRaw_memory (s : State) (a : Nat) (l : List Byte) : ∃ dr, wrRaw s a l = { s with dram := dr } := by
  induction l generalizing s a with
  | nil => exact ⟨s.dram, rfl⟩
  | cons b t ih =>
    obtain ⟨dr, h⟩ := ih (wr s a b) (a + 1)
    exact ⟨dr, h⟩

theorem wrBytes_records (s : State) (a : Nat) (l : List Byte) (ha : logBase s ≤ a) : Records s (wrBytes s a l) := by
  have hr : ∀ i, i < logBase s → rd (wrRaw s a l) i = rd s i := fun i hi => rd_wrRaw_outside s a l (.inl (by omega))
  unfold wrBytes
  obtain ⟨dr, h⟩ := wrRaw_memory s a l
  rw [h] at hr ⊢
  exact Records.memory s dr _ _ hr

theorem logNote_records (s : State) (r : FaultRec) : Records s (logNote s r) := .flt s _ (fun _ h => h) (fun _ h => h) rfl

theorem extNote_records (s : State) (r : FaultRec) : Records s (extNote s r) := .flt s _ (fun _ h => h) (fun _ h => h) rfl

theorem logRecord_records (s : State) (r : FaultRec) : Records s (logRecord s r) := by
  unfold logRecord
  extract_lets s1 s2
  have h1 : Records s s1 := logNote_records _ _
  have h2 : Records s1 s2 := ite_records _ (bump_records _ _ rfl) (.refl _)
  have h3 := (h1.trans h2).trans (extNote_records _ r)
  split
  · exact h3.trans (wrBytes_records _ _ _ (by rw [logBase_fuse h3.keeps.fuse]; unfold logBase; omega))
  · exact h1

theorem enterFault_records (s : State) (src cls : Nat) : Records s (enterFault s src cls) :=
  modSrc_records _ _ _ (fun x h => by simp [h]) (fun h => by simp [h])

theorem captureFirst_records (s : State) (rc : FaultRec) : Records s (captureFirst s rc) := by
  unfold captureFirst
  split
  · exact .flt s _ (fun _ h => h) (fun _ h => h) rfl
  · exact .refl s

theorem countReport_records (s : State) (r : Report) : Records s (countReport s r) := by
  unfold countReport
  extract_lets s1 s2
  have h1 : Records s s1 := bump_records _ _ (unitTally_source _ 8 (by omega))
  have h2 : Records s1 s2 := ite_records _ (bump_records _ _ rfl) (.refl _)
  exact (h1.trans h2).trans (ite_records _ (bump_records _ _ rfl) (.refl _))

theorem noteSource_records (s : State) (r : Report) (rc : FaultRec) (c : Bool) : Records s (noteSource s r rc c) := by
  unfold noteSource
  extract_lets s1
  have h1 : Records s s1 := modSrc_records s _ _ (by intro x h; exact h) (by intro h; exact h)
  split
  · exact h1
  · exact h1.trans (enterFault_records _ _ _)

theorem publish_records (s : State) (rc : FaultRec) (c : Bool) : Records s (publish s rc c) := by
  unfold publish
  extract_lets s1
  have h1 : Records s s1 := (bump_records _ _ rfl).trans (logRecord_records _ _)
  split
  · exact bump_records _ _ rfl
  · split
    · exact h1
    · exact (h1.trans (post_records _ _ _ _)).trans (signal_records _ _)

/-- What a record can change. -/
theorem recordReport_records (several : Bool) (s : State) (r : Report) : Records s (recordReport several s r) :=
  (((captureFirst_records s _).trans (countReport_records _ _)).trans (noteSource_records _ _ _ _)).trans
    (publish_records _ _ _)

/-! ### Reactions -/

theorem postBank_reacts (s : State) (b : Nat) (m : BankMode) : Reacts s (postBank s b m) := post_reacts _ _ _ _

theorem modSlot_reacts (s : State) (i : Nat) (f : Slot → Slot) : Reacts s (modSlot s i f) := .units s _ _ _ _ _ _

theorem modBank_reacts (s : State) (b : Nat) (f : Bank → Bank) : Reacts s (modBank s b f) := .units s _ _ _ _ _ _

theorem modPort_reacts (s : State) (p : Nat) (f : Port → Port) : Reacts s (modPort s p f) := .units s _ _ _ _ _ _

theorem bankMark_reacts (s : State) (b : Nat) (m : BankMode) (c : Nat) : Reacts s (bankMark s b m c) := modBank_reacts _ _ _

theorem clearBankSlot_reacts (s : State) (b : Nat) : Reacts s (clearBankSlot s b) := by
  unfold clearBankSlot
  split
  · exact modSlot_reacts _ _ _
  · exact .refl _

theorem bankLeave_reacts (s : State) (b : Nat) : Reacts s (bankLeave s b) := by
  have h : PinsDown s { s with pins := { s.pins with laserEn := s.pins.laserEn &&& (0xFFF ^^^ 2 ^ b) } } :=
    ⟨fun h => by simp [h], id, id, rfl⟩
  refine Reacts.trans ?_ (clearBankSlot_reacts _ _)
  split
  · exact (Reacts.units s _ _ _ _ _ _ h).trans (emit_reacts _ _)
  · exact Reacts.units s _ _ _ _ _ _ h

theorem hlOff_reacts (s : State) : Reacts s (hlOff s) := .units s _ _ _ _ _ _ ⟨id, id, fun _ => rfl, rfl⟩

theorem setBank_reacts (s : State) (b : Nat) (m : BankMode) (c : Nat) : Reacts s (setBank s b m c) := by
  unfold setBank
  extract_lets s0 s1
  have h : Reacts s s1 := (bankMark_reacts s b m c).trans (ite_reacts _ (hlOff_reacts _) (.refl _))
  exact (h.trans (ite_reacts _ (bankLeave_reacts _ _) (.refl _))).trans (postBank_reacts _ _ _)

/-- Taking one bank off. -/
theorem bankOff_reacts (s : State) (b : Nat) : Reacts s (bankOff s b) := by
  have h := setBank_reacts s b .safe 3
  unfold bankOff
  extract_lets x s1
  split
  · split
    · exact h.trans (emit_reacts _ _)
    · exact h
  · exact .refl _

theorem driveOthersOff_reacts (s : State) : Reacts s (driveOthersOff s) :=
  Reacts.forN 12 _ (fun _ _ => ite_reacts _ (emit_reacts _ _) (.refl _)) s

theorem safeBegin_reacts (s : State) (source : Nat) (shutter : Bool) : Reacts s (safeBegin s source shutter) := by
  unfold safeBegin
  split
  · exact .refl _
  · exact ((((Reacts.units s _ _ _ _ _ _).trans (post_reacts _ _ _ _)).trans (signal_reacts _ _)).trans
      (driveOthersOff_reacts _))

theorem lightOff_reacts (s : State) (shutter : Bool) : Reacts s (lightOff s shutter) :=
  .units s _ _ _ _ _ _ ⟨fun _ => rfl, fun h => by simp [h], fun _ => rfl, rfl⟩

/-- Entering the safe state. -/
theorem enterSafe_reacts (s : State) (source : Nat) (shutter : Bool) : Reacts s (enterSafe s source shutter) := by
  have h := ((safeBegin_reacts s source shutter).trans (Reacts.forN 12 bankOff bankOff_reacts _)).trans
    (lightOff_reacts _ shutter)
  unfold enterSafe
  extract_lets s1
  split
  · exact h
  · exact h.trans (.units _ _ _ _ _ _ _)

theorem blocksOff_reacts (s : State) (p : Nat) : Reacts s (blocksOff s p) := .units s _ _ _ _ _ _

theorem enterPort_reacts (s : State) (p : Nat) (m : PortMode) (c : Nat) : Reacts s (enterPort s p m c) := by
  unfold enterPort
  extract_lets prev s1
  have h1 : Reacts s s1 := modPort_reacts s p _
  split
  · exact h1
  · exact (h1.trans (post_reacts _ _ _ _)).trans (signal_reacts _ _)

theorem parkPort_reacts (s : State) (p style cause : Nat) : Reacts s (parkPort s p style cause) :=
  (((emit_reacts s _).trans (blocksOff_reacts _ p)).trans (modPort_reacts _ p _)).trans (enterPort_reacts _ _ _ _)

theorem parkArray_reacts (s : State) (p : Nat) : Reacts s (parkArray s p) := by
  unfold parkArray
  extract_lets x
  split
  · exact ((modPort_reacts s p _).trans (parkPort_reacts _ _ _ _)).trans (completeOpt_reacts _ _ _ _)
  · exact .refl _

/-- Parking every array. -/
theorem parkArrays_reacts (s : State) : Reacts s (parkArrays s) := Reacts.forN 6 parkArray parkArray_reacts s

theorem modHlsSlot_reacts (s : State) (k : Nat) (f : Slot → Slot) : Reacts s (modHlsSlot s k f) := by
  unfold modHlsSlot
  split
  · exact modSlot_reacts _ _ _
  · exact .refl _

theorem setHls_reacts (s : State) (m : HlsMode) (c : Nat) : Reacts s (setHls s m c) :=
  (Reacts.units s _ _ _ _ _ _).trans (post_reacts _ _ _ _)

theorem setInc_reacts (s : State) (inc t : Nat) : Reacts s (setInc s inc t) := .units s _ _ _ _ _ _

theorem scannerRest_reacts (s : State) (cause : Nat) (fault : Bool) : Reacts s (scannerRest s cause fault) :=
  .units s _ _ _ _ _ _ ⟨id, id, fun _ => rfl, rfl⟩

theorem parkTrigger_reacts (s : State) : Reacts s (parkTrigger s) := .units s _ _ _ _ _ _

/-- Parking the scanner. -/
theorem parkScanner_reacts (s : State) (cause : Nat) (fault : Bool) : Reacts s (parkScanner s cause fault) := by
  unfold parkScanner
  extract_lets t s1
  have h1 : Reacts t s1 :=
    ((scannerRest_reacts t _ _).trans (modHlsSlot_reacts _ _ _)).trans (modHlsSlot_reacts _ _ _)
  refine (parkTrigger_reacts s).trans (ite_reacts _ ?_ (.refl _))
  exact ((h1.trans (modHlsSlot_reacts _ _ _)).trans (setInc_reacts _ _ _)).trans (setHls_reacts _ _ _)

/-- The reactions of a cycle. -/
theorem applyReactions_reacts (s : State) (l : List Report) : Reacts s (applyReactions s l) := by
  unfold applyReactions
  extract_lets act rs has s1 s2 s3
  have h1 : Reacts s s1 := by
    simp only [s1]
    split
    · exact enterSafe_reacts _ _ _
    · exact .refl _
  have h2 : Reacts s1 s2 := ite_reacts _ (parkArrays_reacts _) (.refl _)
  have h3 : Reacts s2 s3 := ite_reacts _ (parkScanner_reacts _ _ _) (.refl _)
  refine ((h1.trans h2).trans h3).trans (Reacts.foldl _ (fun s e => ?_) _ _)
  exact ite_reacts _ (bankOff_reacts _ _) (.refl _)

theorem clearReports_records (s : State) : Records s { s with reports := [] } where
  frame := ⟨s.outs, s.hmi, s.tallies, [], s.flt, s.dram, s.badWords, s.poisoned, rfl⟩
  events := rfl
  keeps := ⟨rfl, id, id, List.suffix_refl _, fun _ h => h, fun _ h => h, rfl, fun r h => by simp at h, fun _ _ => rfl, rfl,
    fun _ _ => rfl⟩

/-- The records of a round. -/
theorem records_reacts (s : State) (several : Bool) (l : List Report) :
    Records s (l.foldl (recordReport several) { s with reports := [] }) :=
  (clearReports_records s).trans (Records.foldl _ (recordReport_records several) _ _)

/-- One round of the collector. -/
theorem collectOnce_reacts (s : State) : Reacts s (collectOnce s) :=
  (records_reacts s _ _).reacts.trans (applyReactions_reacts _ _)

theorem collectN_reacts (n : Nat) (s : State) : Reacts s (collectN n s) := by
  induction n generalizing s with
  | zero => exact (clearReports_records s).reacts
  | succ k ih =>
    unfold collectN
    split
    · exact .refl _
    · exact (collectOnce_reacts s).trans (ih _)

/-- The collector. -/
theorem collect_reacts (s : State) : Reacts s (collect s) := collectN_reacts 4 s

/-! ### Leaving a fault state -/

theorem recover_records (s : State) (src cause : Nat) (h : (srcAt s src).mode ≠ .fatal) : Records s (recover s src cause) :=
  ((modSrc_records s src _ (by intro x h; exact h) (fun hf => absurd hf h)).trans (bump_records _ _ (unitTally_source _ 0xC (by omega)))).trans
    (post2_posts _ _ _ _).records

theorem exitHold_records (s : State) (src : Nat) : Records s (exitHold s src) := by
  unfold exitHold
  split
  · rename_i h
    exact recover_records _ _ _ (by simp at h; simp [h])
  · exact .refl _

theorem exitConditions_records (a s : State) : Records s (exitConditions a s) := by
  unfold exitConditions
  extract_lets p61 s1 s2 s3
  have h1 : Records s s1 := ite_records _ (exitHold_records _ _) (.refl _)
  have h2 : Records s1 s2 := ite_records _ (Records.foldl _ exitHold_records _ _) (.refl _)
  exact (h1.trans h2).trans (ite_records _ (exitHold_records _ _) (.refl _))

/-! ### Reports without a reaction -/

theorem reactionOf_map {s t : State} (h : t.flt.map = s.flt.map) (r : Report) : reactionOf t r = reactionOf s r := by
  unfold reactionOf sourceCfg
  rw [h]

theorem reactionOf_lost (s : State) : reactionOf s { source := 0x12 } = 0 := rfl

theorem Keeps.harmless {s t : State} (k : Keeps s t) (h : harmless s) : harmless t := by
  intro r hr hn
  rw [reactionOf_map k.map]
  rcases k.reports r hr with h' | rfl
  · exact h r h' hn
  · rfl

/-- Marking coincident and leaving out change no report's reaction, once both are as given. -/
theorem applyReactions_none {s : State} {l : List Report} (h : ∀ r ∈ l, r.reactionAs = none → reactionOf s r = 0) :
    applyReactions s l = s := by
  have hz : ∀ k, ∀ e ∈ (l.filter (fun r => r.reactionAs.isNone)).map (fun r => (r, reactionOf s r)), bitAt e.2 k = false := by
    intro k e he
    simp only [List.mem_map, List.mem_filter] at he
    obtain ⟨r, ⟨hr, hn⟩, rfl⟩ := he
    have : reactionOf s r = 0 := h r hr (by simpa using hn)
    simp [this, bitAt]
  have hany : ∀ k, ((l.filter (fun r => r.reactionAs.isNone)).map (fun r => (r, reactionOf s r))).any
      (fun e => bitAt e.2 k) = false := by
    intro k
    rw [List.any_eq_false]
    intro e he
    simp [hz k e he]
  have hfind : ((l.filter (fun r => r.reactionAs.isNone)).map (fun r => (r, reactionOf s r))).find?
      (fun e => bitAt e.2 0) = none := by
    rw [List.find?_eq_none]
    intro e he
    simp [hz 0 e he]
  have hfil : ((l.filter (fun r => r.reactionAs.isNone)).map (fun r => (r, reactionOf s r))).filter
      (fun e => bitAt e.2 4) = [] := by
    rw [List.filter_eq_nil_iff]
    intro e he
    simp [hz 4 e he]
  simp only [applyReactions, hfind, hany, hfil, Bool.false_eq_true, if_false, List.foldl_nil]

end Sys2Proof.Machine
end

