-- ==== Sys2Proof/Laws/Outcome.lean ====
section
/-! SUPPORT. What the end of a command comes to: it only records where no report has a reaction, it only records and reacts outside an activation, and every report that is not corrected leaves its source pending, a fatal one in FATAL. -/

namespace Sys2Proof.Machine

/-! ### The order of reports -/

/-- Whatever holds of the reports in hand, and is not a matter of the coincidence mark, holds of the ordered ones. -/
theorem insertReport_forall {P : Report → Prop} (s : State) (r : Report) (l : List Report) (hr : P r) (hl : ∀ q ∈ l, P q) :
    ∀ q ∈ insertReport s r l, P q := by
  induction l with
  | nil => intro q hq; simp only [insertReport, List.mem_singleton] at hq; exact hq ▸ hr
  | cons a t ih =>
    intro q hq
    simp only [insertReport] at hq
    split at hq
    · rcases List.mem_cons.mp hq with rfl | hq
      · exact hr
      · exact hl q hq
    · rcases List.mem_cons.mp hq with rfl | hq
      · exact hl _ (List.mem_cons_self ..)
      · exact ih (fun x hx => hl x (List.mem_cons_of_mem _ hx)) q hq

theorem mem_insertReport (s : State) (r q : Report) (l : List Report) (h : q = r ∨ q ∈ l) : q ∈ insertReport s r l := by
  induction l with
  | nil => rcases h with rfl | h
           · simp [insertReport]
           · simp at h
  | cons a t ih =>
    simp only [insertReport]
    split
    · rcases h with rfl | h
      · exact List.mem_cons_self ..
      · exact List.mem_cons_of_mem _ h
    · rcases h with rfl | h
      · exact List.mem_cons_of_mem _ (ih (.inl rfl))
      · rcases List.mem_cons.mp h with rfl | h
        · exact List.mem_cons_self ..
        · exact List.mem_cons_of_mem _ (ih (.inr h))

theorem markCoincident_forall {P : Report → Prop} (hc : ∀ r, P r → P { r with coincident := true }) (l : List Report)
    (i : Report) (hi : P i) (hl : ∀ q ∈ l, P q) : ∀ q ∈ markCoincident l i, P q := by
  have hg : ∀ k, P (l.getD k i) := by
    intro k
    rw [List.getD_eq_getElem?_getD]
    cases h : l[k]? with
    | none => exact hi
    | some x => exact hl x (List.mem_of_getElem? h)
  intro q hq
  unfold markCoincident at hq
  extract_lets exact any at hq
  split at hq
  · rcases List.mem_or_eq_of_mem_set hq with h | rfl
    · exact hl q h
    · exact hc _ (hg _)
  · rcases List.mem_or_eq_of_mem_set hq with h | rfl
    · exact hl q h
    · exact hc _ (hg _)
  · exact hl q hq

theorem foldl_forall {β γ : Type} {P : γ → Prop} (f : List γ → β → List γ) (l : List β) (acc : List γ)
    (h : ∀ a, (∀ q ∈ a, P q) → ∀ b ∈ l, ∀ q ∈ f a b, P q) (ha : ∀ q ∈ acc, P q) : ∀ q ∈ l.foldl f acc, P q := by
  induction l generalizing acc with
  | nil => exact ha
  | cons b t ih =>
    exact ih _ (fun a haa b hb => h a haa b (List.mem_cons_of_mem _ hb)) (h acc ha b (List.mem_cons_self ..))

theorem orderReports_forall {P : Report → Prop} (hc : ∀ r, P r → P { r with coincident := true }) (s : State)
    (l : List Report) (hl : ∀ q ∈ l, P q) : ∀ q ∈ orderReports s l, P q := by
  unfold orderReports
  extract_lets merged
  have hm : ∀ q ∈ merged, P q := by
    refine foldl_forall _ l l (fun a ha b hb q hq => ?_) hl
    split at hq
    · exact markCoincident_forall hc _ b (hl b hb) (fun x hx => ha x (List.mem_filter.mp hx).1) q hq
    · exact ha q hq
  exact foldl_forall _ merged [] (fun a ha b hb => insertReport_forall s b a (hm b hb) ha) (by simp)

/-- A property of some report in hand that stands for a real one, whichever coincidence is marked. -/
theorem orderReports_exists (s : State) (l : List Report) (src : Nat)
    (h : ∃ q ∈ l, q.source = src ∧ q.injected = false) : ∃ q ∈ orderReports s l, q.source = src ∧ q.injected = false := by
  have step1 : ∀ (rest acc : List Report), (∃ q ∈ acc, q.source = src ∧ q.injected = false) →
      ∃ q ∈ rest.foldl (fun acc r =>
        if r.injected && l.any (fun q => q.source == r.source && !q.injected) then
          markCoincident (acc.filter (fun q => q != r)) r
        else acc) acc, q.source = src ∧ q.injected = false := by
    intro rest
    induction rest with
    | nil => exact fun acc h => h
    | cons b t ih =>
      intro acc hacc
      refine ih _ ?_
      dsimp only
      split
      · rename_i hb
        obtain ⟨q, hq, hs, hi⟩ := hacc
        have hbi : b.injected = true := by simp at hb; exact hb.1
        have hne : q ≠ b := by rintro rfl; rw [hi] at hbi; cases hbi
        have hqf : q ∈ acc.filter (fun q => q != b) := List.mem_filter.mpr ⟨hq, by simp [hne]⟩
        unfold markCoincident
        extract_lets ex an
        have hset : ∀ k, (acc.filter (fun q => q != b)).findIdx? ex = some k ∨
            (acc.filter (fun q => q != b)).findIdx? an = some k →
            ∃ q' ∈ (acc.filter (fun q => q != b)).set k { (acc.filter (fun q => q != b)).getD k b with coincident := true },
              q'.source = src ∧ q'.injected = false := by
          intro k hk
          obtain ⟨n, hn, rfl⟩ := List.getElem_of_mem hqf
          have hlt : k < (acc.filter (fun q => q != b)).length := by
            rcases hk with hk | hk
            · exact (List.findIdx?_eq_some_iff_getElem.mp hk).1
            · exact (List.findIdx?_eq_some_iff_getElem.mp hk).1
          by_cases hkn : k = n
          · subst hkn
            refine ⟨_, List.mem_iff_getElem.mpr ⟨k, by simpa using hlt, List.getElem_set_self _⟩, ?_⟩
            rw [List.getD_eq_getElem?_getD, List.getElem?_eq_getElem hlt]
            exact ⟨hs, hi⟩
          · refine ⟨_, List.mem_iff_getElem.mpr ⟨n, by simpa using hn, List.getElem_set_ne hkn _⟩, hs, hi⟩
        split
        · rename_i hk; exact hset _ (.inl hk)
        · rename_i hk; exact hset _ (.inr hk)
        · exact ⟨q, hqf, hs, hi⟩
      · exact hacc
  unfold orderReports
  extract_lets merged
  obtain ⟨q, hq, hs⟩ := step1 l l h
  refine ⟨q, ?_, hs⟩
  have step2 : ∀ (rest acc : List Report), q ∈ rest ∨ q ∈ acc → q ∈ rest.foldl (fun acc r => insertReport s r acc) acc := by
    intro rest
    induction rest with
    | nil => intro acc h; simpa using h
    | cons b t ih =>
      intro acc h
      refine ih _ ?_
      rcases h with h | h
      · rcases List.mem_cons.mp h with rfl | h
        · exact .inr (mem_insertReport s q q acc (.inl rfl))
        · exact .inl h
      · exact .inr (mem_insertReport s b q acc (.inr h))
  exact step2 merged [] (.inl hq)

/-! ### The collector without reactions -/

theorem collectOnce_records {s : State} (h : harmless s) : Records s (collectOnce s) := by
  have hr := records_reacts s (decide (2 ≤ (orderReports s s.reports).length)) (orderReports s s.reports)
  unfold collectOnce
  extract_lets l s1
  have hl : ∀ r ∈ l, r.reactionAs = none → reactionOf s1 r = 0 := by
    intro r hmem hn
    rw [reactionOf_map hr.keeps.map]
    exact orderReports_forall (P := fun r => r.reactionAs = none → reactionOf s r = 0) (fun r hr => hr) s s.reports h r hmem hn
  rw [applyReactions_none hl]
  exact hr

theorem collectN_records (n : Nat) {s : State} (h : harmless s) : Records s (collectN n s) := by
  induction n generalizing s with
  | zero => exact clearReports_records s
  | succ k ih =>
    unfold collectN
    split
    · exact .refl _
    · have h1 := collectOnce_records h
      exact h1.trans (ih (h1.keeps.harmless h))

theorem collect_records {s : State} (h : harmless s) : Records s (collect s) := collectN_records 4 h

theorem harmless_nil {s : State} (h : s.reports = []) : harmless s := by intro r hr; simp [h] at hr

/-! ### The end of a command -/

theorem Reacts.act {s t : State} (h : Reacts s t) : t.img = s.img := by
  obtain ⟨o, hm, ta, r, fl, dr, bw, po, ls, pi, lp, pk, rc, hl, rfl⟩ := h.frame
  rfl

theorem activationFatal_none {s : State} (h : s.img.act = none) : activationFatal s = s := by
  unfold activationFatal; rw [h]

/-- Outside an activation the end of a command only records, reacts and recovers. -/
theorem settle_reacts {a s : State} (h : s.img.act = none) : Reacts s (settle a s) := by
  have hc : (collect s).img.act = none := by rw [(collect_reacts s).act]; exact h
  unfold settle
  extract_lets s1 s2
  have h2 : Reacts s s2 := by
    simp only [s2, s1]
    split
    · rw [activationFatal_none hc]
      exact (collect_reacts s).trans (collect_reacts _)
    · exact collect_reacts s
  exact (h2.trans (exitConditions_records a s2).reacts).trans (collect_reacts _)

/-- Where no report has a reaction it only records. -/
theorem settle_records {a s : State} (h : s.img.act = none) (hh : harmless s) : Records s (settle a s) := by
  have h1 := collect_records hh
  have hc : (collect s).img.act = none := by rw [h1.reacts.act]; exact h
  unfold settle
  extract_lets s1 s2
  have h2 : Records s s2 := by
    simp only [s2, s1]
    split
    · rw [activationFatal_none hc]
      exact h1.trans (collect_records (harmless_nil (collect_reports s)))
    · exact h1
  have h3 := h2.trans (exitConditions_records a s2)
  exact h3.trans (collect_records (h3.keeps.harmless hh))

/-- Outside an activation, with no command waiting for its instance, the end of a command records, reacts and recovers,
and leaves the queue. -/
theorem finish_reacts {a s : State} (h : s.img.act = none) (w : noWait s) :
    ∃ t, Reacts s t ∧ t.reports = [] ∧ finish a s = withQueue t a.pending := by
  have h1 := settle_reacts (a := a) h
  have h1i : (settle a s).img.act = none := by rw [h1.act]; exact h
  refine ⟨settle (settle a s) (settle a s), h1.trans (settle_reacts h1i), settle_reports _ _, ?_⟩
  unfold finish
  extract_lets s1
  rw [startWaiting_quiet _ (h1.keeps.waits w)]

/-- Where no report has a reaction it only records: every field but the wires, the host interface's traffic, tallies, the
collector and the log in DRAM is as the command left it. -/
theorem finish_records {a s : State} (h : s.img.act = none) (w : noWait s) (hh : harmless s) :
    ∃ t, Records s t ∧ t.reports = [] ∧ finish a s = withQueue t a.pending := by
  have h1 := settle_records (a := a) h hh
  have h1i : (settle a s).img.act = none := by rw [h1.reacts.act]; exact h
  refine ⟨settle (settle a s) (settle a s), h1.trans (settle_records h1i (h1.keeps.harmless hh)), settle_reports _ _, ?_⟩
  unfold finish
  extract_lets s1
  rw [startWaiting_quiet _ (h1.keeps.waits w)]

/-! ### Mild operations -/

/-- What a unit's own operation leaves: completions, commands in flight, what has been sent, the fault map; it reports nothing
but lost events. -/
structure Loose (s t : State) : Prop where
  events : evtCore t.hmi = evtCore s.hmi
  outs : s.outs <:+ t.outs
  map : t.flt.map = s.flt.map
  reports : ∀ r ∈ t.reports, r ∈ s.reports ∨ r = { source := 0x12 }

/-- The same of an operation that leaves the collector and the DRAM as well. -/
structure Mild (s t : State) : Prop extends Loose s t where
  flt : t.flt = s.flt
  dram : t.dram = s.dram
  badWords : t.badWords = s.badWords
  poisoned : t.poisoned = s.poisoned

theorem Loose.refl (s : State) : Loose s s := ⟨rfl, List.suffix_refl _, rfl, fun _ h => .inl h⟩

theorem Loose.trans {a b c : State} (h1 : Loose a b) (h2 : Loose b c) : Loose a c :=
  ⟨h2.events.trans h1.events, h1.outs.trans h2.outs, h2.map.trans h1.map,
    fun r hr => (h2.reports r hr).elim (h1.reports r) .inr⟩

/-- A change of units, memory or single sources that sends and reports nothing. -/
theorem Loose.units {s t : State} (hv : t.hmi = s.hmi := by rfl) (ho : t.outs = s.outs := by rfl)
    (hm : t.flt.map = s.flt.map := by rfl) (hr : t.reports = s.reports := by rfl) : Loose s t :=
  ⟨by rw [hv], by rw [ho], hm, fun q hq => .inl (by rw [← hr]; exact hq)⟩

theorem Loose.ite {s a b : State} (c : Prop) [Decidable c] (ha : Loose s a) (hb : Loose s b) :
    Loose s (if c then a else b) := by split <;> assumption

theorem Loose.foldl {β : Type} (f : State → β → State) (h : ∀ s b, Loose s (f s b)) (l : List β) (s : State) :
    Loose s (l.foldl f s) := by
  induction l generalizing s with
  | nil => exact .refl _
  | cons b t ih => exact (h s b).trans (ih _)

theorem Loose.forN (n : Nat) (f : State → Nat → State) (h : ∀ s b, Loose s (f s b)) (s : State) :
    Loose s (Machine.forN n f s) := .foldl f h _ s

theorem Mild.refl (s : State) : Mild s s := ⟨.refl s, rfl, rfl, rfl, rfl⟩

theorem Mild.trans {a b c : State} (h1 : Mild a b) (h2 : Mild b c) : Mild a c :=
  ⟨h1.toLoose.trans h2.toLoose, h2.flt.trans h1.flt, h2.dram.trans h1.dram, h2.badWords.trans h1.badWords,
    h2.poisoned.trans h1.poisoned⟩

/-- A change of units that sends and reports nothing. -/
theorem Mild.units {s t : State} (hv : t.hmi = s.hmi := by rfl) (ho : t.outs = s.outs := by rfl)
    (hm : t.flt = s.flt := by rfl) (hr : t.reports = s.reports := by rfl) (hd : t.dram = s.dram := by rfl)
    (hb : t.badWords = s.badWords := by rfl) (hp : t.poisoned = s.poisoned := by rfl) : Mild s t :=
  ⟨.units hv ho (by rw [hm]) hr, hm, hd, hb, hp⟩

theorem Mild.ite {s a b : State} (c : Prop) [Decidable c] (ha : Mild s a) (hb : Mild s b) :
    Mild s (if c then a else b) := by split <;> assumption

theorem Mild.foldl {β : Type} (f : State → β → State) (h : ∀ s b, Mild s (f s b)) (l : List β) (s : State) :
    Mild s (l.foldl f s) := by
  induction l generalizing s with
  | nil => exact .refl _
  | cons b t ih => exact (h s b).trans (ih _)

theorem Mild.forN (n : Nat) (f : State → Nat → State) (h : ∀ s b, Mild s (f s b)) (s : State) :
    Mild s (Machine.forN n f s) := .foldl f h _ s

theorem Mild.forMask (n m : Nat) (f : State → Nat → State) (h : ∀ s b, Mild s (f s b)) (s : State) :
    Mild s (Machine.forMask n m f s) := .forN n _ (fun s b => .ite _ (h s b) (.refl _)) s

theorem Posts.mild {s t : State} (h : Posts s t) : Mild s t := by
  have := h.events; have := h.outs; have := h.reports
  obtain ⟨o, hm, ta, r, rfl⟩ := h.frame
  exact ⟨⟨by assumption, by assumption, rfl, by assumption⟩, rfl, rfl, rfl, rfl⟩

theorem post_mild (s : State) (c u : Nat) (p : List Byte) : Mild s (post s c u p) := (post_posts s c u p).mild
theorem post2_mild (s : State) (c u : Nat) (p : List Byte) : Mild s (post2 s c u p) := (post2_posts s c u p).mild
theorem emit_mild (s : State) (o : Output) : Mild s (emit s o) := (emit_posts s o).mild
theorem signal_mild (s : State) (v : Nat) : Mild s (signal s v) := (signal_posts s v).mild

theorem bumpRaw_mild (s : State) (off : Nat) : Mild s (bumpRaw s off).1 := by
  unfold bumpRaw
  split
  · exact .refl _
  · exact .units

theorem bump_mild (s : State) (off : Nat) : Mild s (bump s off) := (bumpRaw_mild s off).trans (bump_counted s off).mild

theorem bumpBy_mild (s : State) (off n : Nat) : Mild s (bumpBy s off n) := .forN n _ (fun s _ => bump_mild s off) s

theorem Loose.noWait {s t : State} (h : Loose s t) (w : noWait s) : Machine.noWait t := by
  have : t.hmi.inFlight = s.hmi.inFlight :=
    congrArg (f := Hmi.inFlight) (a₁ := evtCore t.hmi) (a₂ := evtCore s.hmi) h.events
  rw [Machine.noWait, this]; exact w

theorem Loose.harmless {s t : State} (k : Loose s t) (h : s.reports = []) : Machine.harmless t := by
  intro r hr hn
  rcases k.reports r hr with h' | rfl
  · rw [h] at h'; simp at h'
  · rfl

/-- A whole change of units leaves no trace in `calm` that posting does. -/
theorem Posts.calm {s t : State} (h : Posts s t) : Machine.calm t = Machine.calm s := by
  obtain ⟨o, hm, ta, r, rfl⟩ := h.frame; rfl

theorem Records.calm {s t : State} (h : Records s t) : Machine.calm t = Machine.calm s := by
  obtain ⟨o, hm, ta, r, fl, dr, bw, po, rfl⟩ := h.frame; rfl

theorem HostOnly.calm {s t : State} (h : HostOnly s t) : Machine.calm t = Machine.calm s := by
  obtain ⟨o, hm, ta, r, rfl⟩ := h.frame; rfl

/-- What `calm` keeps is alike in two states that it makes alike. -/
theorem calm_eq {α : Type} (g : State → α) {a b : State} (h : Machine.calm a = Machine.calm b)
    (hg : ∀ x, g (Machine.calm x) = g x := by intro x; rfl) : g a = g b := by rw [← hg a, h, hg]

/-! ### One field changed alike in two states alike -/

theorem calm_with_pending {a b : State} (h : calm a = calm b) (x : List Instr) : calm { a with pending := x } = calm { b with pending := x } :=
  congrArg (fun s : State => { s with pending := x }) h

theorem calm_with_tsc {a b : State} (h : calm a = calm b) (x : Nat) : calm { a with tsc := x } = calm { b with tsc := x } :=
  congrArg (fun s : State => { s with tsc := x }) h

theorem calm_with_freeCtr {a b : State} (h : calm a = calm b) (x : Nat) : calm { a with freeCtr := x } = calm { b with freeCtr := x } :=
  congrArg (fun s : State => { s with freeCtr := x }) h

theorem calm_with_frame {a b : State} (h : calm a = calm b) (x : Nat) : calm { a with frame := x } = calm { b with frame := x } :=
  congrArg (fun s : State => { s with frame := x }) h

theorem calm_with_ftgOn {a b : State} (h : calm a = calm b) (x : Bool) : calm { a with ftgOn := x } = calm { b with ftgOn := x } :=
  congrArg (fun s : State => { s with ftgOn := x }) h

theorem calm_with_regs {a b : State} (h : calm a = calm b) (x : List (Nat × Word)) : calm { a with regs := x } = calm { b with regs := x } :=
  congrArg (fun s : State => { s with regs := x }) h

theorem calm_with_pins {a b : State} (h : calm a = calm b) (x : Pins) : calm { a with pins := x } = calm { b with pins := x } :=
  congrArg (fun s : State => { s with pins := x }) h

theorem calm_with_boot {a b : State} (h : calm a = calm b) (x : Boot) : calm { a with boot := x } = calm { b with boot := x } :=
  congrArg (fun s : State => { s with boot := x }) h

theorem calm_with_glb {a b : State} (h : calm a = calm b) (x : Glb) : calm { a with glb := x } = calm { b with glb := x } :=
  congrArg (fun s : State => { s with glb := x }) h

theorem calm_with_smbPtr {a b : State} (h : calm a = calm b) (x : Nat) : calm { a with smbPtr := x } = calm { b with smbPtr := x } :=
  congrArg (fun s : State => { s with smbPtr := x }) h

theorem calm_with_img {a b : State} (h : calm a = calm b) (x : Img) : calm { a with img := x } = calm { b with img := x } :=
  congrArg (fun s : State => { s with img := x }) h

theorem calm_with_cmp {a b : State} (h : calm a = calm b) (x : Cmp) : calm { a with cmp := x } = calm { b with cmp := x } :=
  congrArg (fun s : State => { s with cmp := x }) h

theorem calm_with_clr {a b : State} (h : calm a = calm b) (x : Clr) : calm { a with clr := x } = calm { b with clr := x } :=
  congrArg (fun s : State => { s with clr := x }) h

theorem calm_with_pbu {a b : State} (h : calm a = calm b) (x : Pbu) : calm { a with pbu := x } = calm { b with pbu := x } :=
  congrArg (fun s : State => { s with pbu := x }) h

theorem calm_with_rck {a b : State} (h : calm a = calm b) (x : Rck) : calm { a with rck := x } = calm { b with rck := x } :=
  congrArg (fun s : State => { s with rck := x }) h

theorem calm_with_plk {a b : State} (h : calm a = calm b) (x : Vector Port 6) : calm { a with plk := x } = calm { b with plk := x } :=
  congrArg (fun s : State => { s with plk := x }) h

theorem calm_with_pwr {a b : State} (h : calm a = calm b) (x : Pwr) : calm { a with pwr := x } = calm { b with pwr := x } :=
  congrArg (fun s : State => { s with pwr := x }) h

theorem calm_with_lsd {a b : State} (h : calm a = calm b) (x : Lsd) : calm { a with lsd := x } = calm { b with lsd := x } :=
  congrArg (fun s : State => { s with lsd := x }) h

theorem calm_with_lpe {a b : State} (h : calm a = calm b) (x : Lpe) : calm { a with lpe := x } = calm { b with lpe := x } :=
  congrArg (fun s : State => { s with lpe := x }) h

theorem calm_with_hls {a b : State} (h : calm a = calm b) (x : Hls) : calm { a with hls := x } = calm { b with hls := x } :=
  congrArg (fun s : State => { s with hls := x }) h

theorem calm_with_cal {a b : State} (h : calm a = calm b) (x : Cal) : calm { a with cal := x } = calm { b with cal := x } :=
  congrArg (fun s : State => { s with cal := x }) h

theorem calm_with_thm {a b : State} (h : calm a = calm b) (x : Thm) : calm { a with thm := x } = calm { b with thm := x } :=
  congrArg (fun s : State => { s with thm := x }) h

theorem calm_with_ftg {a b : State} (h : calm a = calm b) (x : Ftg) : calm { a with ftg := x } = calm { b with ftg := x } :=
  congrArg (fun s : State => { s with ftg := x }) h

theorem calm_with_ver {a b : State} (h : calm a = calm b) (x : Ver) : calm { a with ver := x } = calm { b with ver := x } :=
  congrArg (fun s : State => { s with ver := x }) h

theorem calm_with_mem {a b : State} (h : calm a = calm b) (x : Mem) : calm { a with mem := x } = calm { b with mem := x } :=
  congrArg (fun s : State => { s with mem := x }) h

theorem calm_with_aud {a b : State} (h : calm a = calm b) (x : Aud) : calm { a with aud := x } = calm { b with aud := x } :=
  congrArg (fun s : State => { s with aud := x }) h

theorem calm_with_jtag {a b : State} (h : calm a = calm b) (x : Jtag) : calm { a with jtag := x } = calm { b with jtag := x } :=
  congrArg (fun s : State => { s with jtag := x }) h

theorem calm_with_vauxDown {a b : State} (h : calm a = calm b) (x : Bool) : calm { a with vauxDown := x } = calm { b with vauxDown := x } :=
  congrArg (fun s : State => { s with vauxDown := x }) h

@[simp] theorem calm_post (s : State) (c u : Nat) (p : List Byte) : calm (post s c u p) = calm s := (post_posts s c u p).calm
@[simp] theorem calm_post2 (s : State) (c u : Nat) (p : List Byte) : calm (post2 s c u p) = calm s :=
  (post2_posts s c u p).calm
@[simp] theorem calm_emit (s : State) (o : Output) : calm (emit s o) = calm s := rfl
@[simp] theorem calm_signal (s : State) (v : Nat) : calm (signal s v) = calm s := (signal_posts s v).calm
@[simp] theorem calm_report (s : State) (r : Report) : calm (report s r) = calm s := rfl

@[simp] theorem calm_bump (s : State) (off : Nat) : calm (bump s off) = calm s := by
  rw [(bump_counted s off).calm]; unfold bumpRaw; split <;> rfl

theorem calm_ite {a b x : State} (c : Prop) [Decidable c] (ha : calm a = x) (hb : calm b = x) :
    calm (if c then a else b) = x := by split <;> assumption

theorem calm_foldl {β : Type} (f : State → β → State) (h : ∀ s b, calm (f s b) = calm s) (l : List β) (s : State) :
    calm (l.foldl f s) = calm s := by
  induction l generalizing s with
  | nil => rfl
  | cons b t ih => rw [List.foldl_cons, ih, h]

theorem calm_forN (n : Nat) (f : State → Nat → State) (h : ∀ s b, calm (f s b) = calm s) (s : State) :
    calm (forN n f s) = calm s := calm_foldl f h _ s

theorem calm_forMask (n m : Nat) (f : State → Nat → State) (h : ∀ s b, calm (f s b) = calm s) (s : State) :
    calm (forMask n m f s) = calm s := calm_forN n _ (fun s b => calm_ite _ (h s b) rfl) s

@[simp] theorem calm_bumpBy (s : State) (off n : Nat) : calm (bumpBy s off n) = calm s :=
  calm_foldl _ (fun s _ => calm_bump s off) _ s

@[simp] theorem calm_wrBytes (s : State) (a : Nat) (l : List Byte) : calm (wrBytes s a l) = calm s := by
  unfold wrBytes
  obtain ⟨dr, h⟩ := wrRaw_memory s a l
  rw [h]; rfl

@[simp] theorem calm_complete (s : State) (id : Nat) (st : Status) (res : List Byte) : calm (complete s id st res) = calm s :=
  (complete_host s id st res).calm

@[simp] theorem calm_completeOpt (s : State) (id : Option Nat) (st : Status) (res : List Byte) :
    calm (completeOpt s id st res) = calm s := (completeOpt_host s id st res).calm

/-- A loose operation keeps reports without a reaction. -/
theorem Loose.keep {s t : State} (k : Loose s t) (h : Machine.harmless s) : Machine.harmless t := by
  intro r hr hn
  rw [reactionOf_map k.map]
  rcases k.reports r hr with h' | rfl
  · exact h r h' hn
  · rfl

theorem harmless_report {s : State} {r : Report} (h : harmless s) (hr : reactionOf s r = 0) : harmless (report s r) := by
  intro q hq hn
  simp only [report, List.mem_append, List.mem_singleton] at hq
  rcases hq with hq | rfl
  · exact h q hq hn
  · exact hr

/-- A report of a fixed source without a reaction. -/
theorem harmless_fixed {s : State} {r : Report} (h : harmless s)
    (hr : (match r.reactionAs with
      | some v => v
      | none => if r.injected && !r.react then 0 else (sourceCfg s r.source).2.1) = 0) : harmless (report s r) :=
  harmless_report h hr

theorem wrBytes_loose (s : State) (a : Nat) (l : List Byte) : Loose s (wrBytes s a l) := by
  unfold wrBytes
  obtain ⟨dr, h⟩ := wrRaw_memory s a l
  rw [h]
  exact .units

/-- Below the reserved area what a mild operation's end leaves of the DRAM is what was there. -/
theorem Mild.memory {s r t : State} (h : Mild s r) (hf : r.fuse = s.fuse) (k : Keeps r t) :
    ∀ a, a < reservedBase s → rd t a = rd s a := by
  intro a ha
  rw [k.memory a (by rw [logBase_fuse hf]; unfold logBase; omega)]
  simp only [rd, h.dram]

/-! ### A report leaves its mark -/

/-- A real report of a class other than corrected leaves its source pending, and one that is fatal in FATAL. -/
theorem recordReport_marks (several : Bool) (s : State) (r : Report) (hs : r.source < 256) (hi : r.injected = false)
    (hc : (sourceCfg s r.source).1 ≠ 0) :
    (srcAt (recordReport several s r) r.source).pending = true ∧
    ((sourceCfg s r.source).1 = 2 → (srcAt (recordReport several s r) r.source).mode = .fatal) := by
  have key : ∀ x c, (srcAt (noteSource x r (recordOf several s r) c) r.source).pending = true ∧
      ((sourceCfg s r.source).1 = 2 → (srcAt (noteSource x r (recordOf several s r) c) r.source).mode = .fatal) := by
    intro x c
    simp only [noteSource, hi, Bool.false_and, Bool.false_eq_true, if_false, enterFault, srcAt_modSrc, recordOf, hs,
      and_self, if_true]
    refine ⟨by simp [hc], fun h2 => by simp [h2]⟩
  have hp := (publish_records (noteSource (countReport (captureFirst s (recordOf several s r)) r) r (recordOf several s r)
    (coalesces s r.source)) (recordOf several s r) (coalesces s r.source)).keeps
  have := key (countReport (captureFirst s (recordOf several s r)) r) (coalesces s r.source)
  exact ⟨hp.pending _ this.1, fun h => hp.fatal _ (this.2 h)⟩

theorem foldl_marks (several : Bool) (l : List Report) (s : State) (src : Nat) (hs : src < 256)
    (h : ∃ q ∈ l, q.source = src ∧ q.injected = false) (hc : (sourceCfg s src).1 ≠ 0) :
    (srcAt (l.foldl (recordReport several) s) src).pending = true ∧
    ((sourceCfg s src).1 = 2 → (srcAt (l.foldl (recordReport several) s) src).mode = .fatal) := by
  induction l generalizing s with
  | nil => obtain ⟨q, hq, -⟩ := h; simp at hq
  | cons b t ih =>
    simp only [List.foldl_cons]
    have hk := (recordReport_records several s b).keeps
    have hcfg : sourceCfg (recordReport several s b) src = sourceCfg s src := by unfold sourceCfg; rw [hk.map]
    by_cases hb : b.source = src ∧ b.injected = false
    · obtain ⟨rfl, hbi⟩ := hb
      have := recordReport_marks several s b hs hbi hc
      have hr := (Records.foldl _ (recordReport_records several) t (recordReport several s b)).keeps
      exact ⟨hr.pending _ this.1, fun h2 => hr.fatal _ (this.2 h2)⟩
    · have ht : ∃ q ∈ t, q.source = src ∧ q.injected = false := by
        obtain ⟨q, hq, hq'⟩ := h
        rcases List.mem_cons.mp hq with rfl | hq
        · exact absurd hq' hb
        · exact ⟨q, hq, hq'⟩
      have := ih (recordReport several s b) ht (by rw [hcfg]; exact hc)
      rw [hcfg] at this
      exact this

/-- The collector leaves the source of a real report pending, and of a fatal one in FATAL. -/
theorem collect_marks {s : State} {src : Nat} (hs : src < 256) (h : ∃ q ∈ s.reports, q.source = src ∧ q.injected = false)
    (hc : (sourceCfg s src).1 ≠ 0) :
    (srcAt (collect s) src).pending = true ∧ ((sourceCfg s src).1 = 2 → (srcAt (collect s) src).mode = .fatal) := by
  have hne : s.reports.isEmpty = false := by
    obtain ⟨q, hq, -⟩ := h
    cases hr : s.reports with
    | nil => rw [hr] at hq; simp at hq
    | cons => rfl
  have h1 := foldl_marks (decide (2 ≤ (orderReports s s.reports).length)) (orderReports s s.reports) { s with reports := [] }
    src hs (orderReports_exists s s.reports src h) hc
  have h2 : (srcAt (collectOnce s) src).pending = true ∧ ((sourceCfg s src).1 = 2 → (srcAt (collectOnce s) src).mode = .fatal) := by
    have hk := (applyReactions_reacts ((orderReports s s.reports).foldl
      (recordReport (decide (2 ≤ (orderReports s s.reports).length))) { s with reports := [] }) (orderReports s s.reports)).keeps
    exact ⟨hk.pending _ h1.1, fun h => hk.fatal _ (h1.2 h)⟩
  have h3 := (collectN_reacts 3 (collectOnce s)).keeps
  have hc4 : collect s = collectN 3 (collectOnce s) := by simp [collect, collectN, hne]
  rw [hc4]
  exact ⟨h3.pending _ h2.1, fun h => h3.fatal _ (h2.2 h)⟩

/-- Outside an activation a command that reports a fault leaves its source pending, and a fatal one in FATAL. -/
theorem finish_marks {a s : State} {src : Nat} (ha : s.img.act = none) (w : noWait s) (hs : src < 256)
    (h : ∃ q ∈ s.reports, q.source = src ∧ q.injected = false) (hc : (sourceCfg s src).1 ≠ 0) :
    (srcAt (finish a s) src).pending = true ∧ ((sourceCfg s src).1 = 2 → (srcAt (finish a s) src).mode = .fatal) := by
  have h1 := collect_marks hs h hc
  have hci : (collect s).img.act = none := by rw [(collect_reacts s).act]; exact ha
  have h2 : Reacts (collect s) (settle a s) := by
    unfold settle
    extract_lets s1 s2
    have e : Reacts s1 s2 := by
      simp only [s2]
      split
      · rw [activationFatal_none hci]; exact collect_reacts _
      · exact .refl _
    exact (e.trans (exitConditions_records a s2).reacts).trans (collect_reacts _)
  have hsi : (settle a s).img.act = none := by rw [h2.act]; exact hci
  have h3 := h2.trans (settle_reacts (a := settle a s) hsi)
  have he : finish a s = withQueue (settle (settle a s) (settle a s)) a.pending := by
    unfold finish
    extract_lets s1
    rw [startWaiting_quiet _ ((settle_reacts ha).keeps.waits w)]
  rw [he]
  exact ⟨h3.keeps.pending _ h1.1, fun h => h3.keeps.fatal _ (h1.2 h)⟩

end Sys2Proof.Machine
end

