-- ==== Sys2Proof/Laws/Messages.lean ====
section
/-! SUPPORT. A message command in a module that serves it: what it does is its own operation, and its completion is written. -/

namespace Sys2Proof.Machine

theorem canFetch_host {s : State} (h : canFetch s = true) : s.boot.power ≠ .heldInReset := by
  simp only [canFetch, Bool.and_eq_true] at h
  have := h.1.1.1.2
  simpa using this

theorem canFetch_queue {s : State} (h : canFetch s = true) : s.hmi.cplQueue = [] := by
  simp only [canFetch, Bool.and_eq_true] at h
  simpa using h.1.2

theorem canFetch_ring {s : State} (h : canFetch s = true) : cplWritable s = true := by
  simp only [canFetch, Bool.and_eq_true] at h
  exact h.2

/-- A served command is the only one in flight and runs at once. -/
theorem message_runs {s : State} {op : Nat} {c : Cmd} (h : Serving s op c) (sh : List (Nat × Nat)) :
    message s op c sh = startCmd (enterFlight s (arriving s op c sh)) (arriving s op c sh) := by
  have hd : dupTag s op c = false := by simp [dupTag, h.alone]
  simp only [message, h.fetch, if_true, accept, hd, h.header, h.alone, mustWait, List.any_nil, Bool.and_false,
    Bool.false_eq_true, if_false]
  simp [arriving, inFlightOf]

/-- What starting the only command in flight does. -/
theorem startCmd_alone {s : State} {f : InFlight} (h : s.hmi.inFlight = []) (hw : f.waiting = false) :
    startCmd (enterFlight s f) f =
      match (runOp (enterFlight s f) f).2 with
      | .now st res => complete (runOp (enterFlight s f) f).1 f.id st res
      | .later => (runOp (enterFlight s f) f).1 := by
  have hm : (enterFlight s f).hmi.inFlight.map (fun g => if g.id == f.id then { g with waiting := false } else g) =
      (enterFlight s f).hmi.inFlight := by
    simp only [enterFlight, h, List.nil_append, List.map_cons, List.map_nil, beq_self_eq_true, if_true, ← hw]
  unfold startCmd
  rw [hm]
  rfl

/-- A command's operation where its unit's domains are ON. -/
theorem runOp_on {s : State} {f : InFlight} (h : (opDomains f.opcode f.cmd.unit.toNat).all (domainOn s) = true) :
    runOp s f = if f.opcode < 0x0800 then runLow s f (bodyOf f.cmd) else if f.opcode < 0x0A00 then runMid s f (bodyOf f.cmd)
      else runHigh s f (bodyOf f.cmd) := by
  simp only [runOp, h, if_true, bodyOf]

/-- A completion is written where the ring takes one. -/
theorem postCpl_writes {s : State} (hq : s.hmi.cplQueue = []) (hw : cplWritable s = true) (x : Completion) :
    postCpl s x = writeCpl s x := by
  have he : s.hmi.enabled = true ∧ s.hmi.cplFailed = false := by
    simp only [cplWritable, Bool.and_eq_true, Bool.not_eq_true'] at hw
    exact ⟨hw.1.1.1, hw.1.1.2⟩
  simp [postCpl, he.1, he.2, hq, hw]

theorem coalesceCpl_outs (s : State) : s.outs <:+ (coalesceCpl s).outs := (coalesceCpl_host s).outs

/-- The entry is on the wire. -/
theorem writeCpl_outs (s : State) (x : Completion) :
    ∃ l, (writeCpl s x).outs = l ++ cplWrite s x :: s.outs := by
  obtain ⟨l, hl⟩ := coalesceCpl_outs { emit s (cplWrite s x) with
    hmi := { s.hmi with
      cplTail := (s.hmi.cplTail + 1) % cplSize s,
      cplPhase := if (s.hmi.cplTail + 1) % cplSize s = 0 then !s.hmi.cplPhase else s.hmi.cplPhase } }
  exact ⟨l, hl.symm⟩

/-- Whether the completion ring takes an entry depends on no event. -/
theorem cplWritable_eq (x : State) : cplWritable x = ((evtCore x.hmi).enabled && !(evtCore x.hmi).cplFailed
    && ((evtCore x.hmi).busMaster && (evtCore x.hmi).d0 && (evtCore x.hmi).linkUp)
    && decide (((evtCore x.hmi).cplTail + 1) % 2 ^ bits (mapGet regReset x.regs 0x10028).toNat 3 0 ≠ (evtCore x.hmi).cplHead)) :=
  rfl

/-- Events leave the completion ring as it is. -/
theorem Posts.ring {s t : State} (h : Posts s t) : t.hmi.cplQueue = s.hmi.cplQueue ∧ cplWritable t = cplWritable s ∧
    t.hmi.cplTail = s.hmi.cplTail ∧ t.hmi.cplPhase = s.hmi.cplPhase ∧ t.tsc = s.tsc := by
  have hr : t.regs = s.regs ∧ t.tsc = s.tsc := by
    obtain ⟨o, hm, ta, r, rfl⟩ := h.frame; exact ⟨rfl, rfl⟩
  have hc := h.events
  refine ⟨congrArg (f := Hmi.cplQueue) (a₁ := evtCore t.hmi) (a₂ := evtCore s.hmi) hc, ?_,
    congrArg (f := Hmi.cplTail) (a₁ := evtCore t.hmi) (a₂ := evtCore s.hmi) hc,
    congrArg (f := Hmi.cplPhase) (a₁ := evtCore t.hmi) (a₂ := evtCore s.hmi) hc, hr.2⟩
  rw [cplWritable_eq, cplWritable_eq, hc, hr.1]

/-- Events leave the place and the phase of the next completion entry as they are. -/
theorem Posts.write {s t : State} (h : Posts s t) (x : Completion) : cplWrite t x = cplWrite s x := by
  have hr : t.regs = s.regs := by obtain ⟨o, hm, ta, r, rfl⟩ := h.frame; rfl
  obtain ⟨-, -, ht, hp, -⟩ := h.ring
  simp only [cplWrite, hostRing, regN, reg, hr, ht, hp]

/-- The only command in flight completes: none is in flight, and its completion is on the wire unless it is held back. -/
theorem complete_alone {s : State} {f : InFlight} (hf : s.hmi.inFlight = [f]) (hq : s.hmi.cplQueue = [])
    (hw : cplWritable s = true) (st : Status) (res : List Byte) :
    (complete s f.id st res).hmi.inFlight = [] ∧
    (cplShown f st.code = true → ∃ l, (complete s f.id st res).outs = l ++ s.outs ∧
      cplWrite s (cplEntry s f st.code res) ∈ l) := by
  have hp := bump_posts s offCmdTally rfl
  obtain ⟨rq, rw', rt, rp, rts⟩ := hp.ring
  have hfl : (bump s offCmdTally).hmi.inFlight = [f] := hp.flight.trans hf
  have hfind : s.hmi.inFlight.find? (fun g => g.id == f.id) = some f := by simp [hf]
  -- what posting leaves, from a state without commands in flight
  have key : ∀ f' : InFlight, cplEntry (bump s offCmdTally) f' st.code res = cplEntry s f' st.code res := by
    intro f'; simp only [cplEntry, rts]
  have post : ∀ (u : State) (x : Completion), u = withInFlight (bump s offCmdTally) [] →
      (postCpl u x).hmi.inFlight = [] ∧ ∃ l, (postCpl u x).outs = l ++ s.outs ∧
        cplWrite s x ∈ l := by
    intro u x hu
    rw [hu]
    obtain ⟨k, hk⟩ := hp.outs
    refine ⟨(postCpl_host _ _).idle rfl, ?_⟩
    rw [postCpl_writes (s := withInFlight (bump s offCmdTally) []) (rq.trans hq) (rw'.trans hw)]
    obtain ⟨l, hl⟩ := writeCpl_outs (withInFlight (bump s offCmdTally) []) x
    refine ⟨l ++ cplWrite s x :: k, ?_, by simp⟩
    have hx : cplWrite (withInFlight (bump s offCmdTally) []) x = cplWrite s x := hp.write x
    rw [hl, hx]
    show l ++ cplWrite s x :: (bump s offCmdTally).outs = _
    rw [← hk]; simp
  unfold complete
  rw [hfind]
  simp only [hfl]
  by_cases hv : f.ver.major = 1
  · simp only [hv, if_true, List.map_cons, List.map_nil, beq_self_eq_true, List.length_singleton, flushOrdered, withInFlight]
    have hsh : cplShown { f with done := some (st.code, res) } st.code = cplShown f st.code := rfl
    have hen : cplEntry (withInFlight (bump s offCmdTally) []) { f with done := some (st.code, res) } st.code res
        = cplEntry s f st.code res := by
      simp only [withInFlight, cplEntry, rts]
    rw [hsh]
    by_cases hs : cplShown f st.code = true
    · have := post (withInFlight (bump s offCmdTally) []) (cplEntry s f st.code res) rfl
      simp only [hs, if_true, true_implies]
      simp only [withInFlight] at hen this ⊢
      rw [hen]
      exact this
    · simp only [hs, if_false, Bool.false_eq_true, false_implies, and_true]
  · simp only [hv, if_false, List.filter_cons, bne_self_eq_false, List.filter_nil, Bool.false_eq_true]
    have hen : cplEntry (withInFlight (bump s offCmdTally) []) f st.code res = cplEntry s f st.code res := by
      simp only [withInFlight, cplEntry, rts]
    by_cases hs : cplShown f st.code = true
    · simp only [hs, if_true, true_implies]
      rw [hen]
      exact post _ _ rfl
    · simp only [hs, if_false, Bool.false_eq_true, false_implies, and_true]
      rfl

/-! ### The end of a message command -/

/-- A fault-free end: what a record may change, no report left, and the sender's queue. -/
theorem hostEvent_records {s r : State} (f : State → State) (hp : s.boot.power ≠ .heldInReset) (hf : f s = r)
    (ha : r.img.act = none) (w : noWait r) (hh : harmless r) (hq : r.pending = s.pending) :
    ∃ t, hostEvent s f = t ∧ Records r t ∧ t.reports = [] := by
  subst hf
  obtain ⟨u, h1, h2, h3⟩ := finish_records (a := s) ha w hh
  refine ⟨u, ?_, h1, h2⟩
  rw [hostEvent_up hp, h3]
  obtain ⟨o, h, ta, r, fl, dr, bw, po, rfl⟩ := h1.frame
  simp only [withQueue, hq]

/-- The same of an event of the running module. -/
theorem event_records {s r : State} (f : State → State) (hp : s.boot.power = .running) (hf : f s = r)
    (ha : r.img.act = none) (w : noWait r) (hh : harmless r) (hq : r.pending = s.pending) :
    ∃ t, event s f = t ∧ Records r t ∧ t.reports = [] := by
  subst hf
  obtain ⟨u, h1, h2, h3⟩ := finish_records (a := s) ha w hh
  refine ⟨u, ?_, h1, h2⟩
  rw [event_running hp, h3]
  obtain ⟨o, h, ta, r, fl, dr, bw, po, rfl⟩ := h1.frame
  simp only [withQueue, hq]

/-- An event of a live module whose operation is loose. -/
theorem event_loose {s r : State} (f : State → State) (h : Live s) (hf : f s = r) (hm : Loose s r)
    (ha : r.img.act = s.img.act := by rfl) (hq : r.pending = s.pending := by rfl) :
    ∃ t, event s f = t ∧ calm t = calm r ∧ Keeps r t ∧ t.reports = [] := by
  obtain ⟨t, t1, t2, t3⟩ := event_records f h.power hf (ha.trans h.act) (hm.noWait h.waits) (hm.harmless h.reports) hq
  exact ⟨t, t1, t2.calm, t2.keeps, t3⟩

/-- An event of a live module whose operation changes units alone. -/
theorem event_quiet {s r : State} (f : State → State) (h : Live s) (hf : f s = r) (hm : Loose s r)
    (ha : r.img.act = s.img.act := by rfl) (hq : r.pending = s.pending := by rfl) :
    ∃ t, event s f = t ∧ Records r t ∧ t.reports = [] :=
  event_records f h.power hf (ha.trans h.act) (hm.noWait h.waits) (hm.harmless h.reports) hq

theorem Keeps.harmless_nil {s t : State} (k : Keeps s t) (h : s.reports = []) : Machine.harmless t :=
  k.harmless (Machine.harmless_nil h)

theorem noWait_nil {s : State} (h : s.hmi.inFlight = []) : noWait s := by simp [noWait, h]

theorem Posts.harmless {s t : State} (k : Posts s t) (h : s.reports = []) : Machine.harmless t := k.host.keeps.harmless_nil h

theorem Records.flight {s t : State} (h : Records s t) : t.hmi.inFlight = s.hmi.inFlight :=
  congrArg (f := Hmi.inFlight) (a₁ := evtCore t.hmi) (a₂ := evtCore s.hmi) h.events

/-- Two states alike but for what recording may change. -/
theorem calm_frame {e t : State} (h : calm t = calm e) : t = { e with
    outs := t.outs, hmi := t.hmi, tallies := t.tallies, reports := t.reports, flt := t.flt, dram := t.dram,
    badWords := t.badWords, poisoned := t.poisoned } := by
  have hx : ∀ x : State, x = { calm x with
    outs := x.outs, hmi := x.hmi, tallies := x.tallies, reports := x.reports, flt := x.flt, dram := x.dram,
    badWords := x.badWords, poisoned := x.poisoned } := fun _ => rfl
  exact (hx t).trans (by rw [h]; rfl)

/-- The operation of a served command, and what follows when it answers at once: whatever the operation does to the units,
as long as it leaves the completion ring, sends nothing back and reports nothing that has a reaction. -/
theorem message_answers {s : State} {op : Nat} {c : Cmd} {sh : List (Nat × Nat)} (h : Serving s op c) {r : State}
    {st : Status} {res : List Byte}
    (hr : runOp (enterFlight s (arriving s op c sh)) (arriving s op c sh) = (r, .now st res))
    (he : Loose (enterFlight s (arriving s op c sh)) r) (hh : harmless r)
    (hg : r.regs = s.regs := by rfl) (ht : r.tsc = s.tsc := by rfl) (ha : r.img.act = s.img.act := by rfl)
    (hq : r.pending = s.pending := by rfl) :
    ∃ t, hostEvent s (fun s => message s op c sh) = t ∧ Answers s t (arriving s op c sh) st res ∧ calm t = calm r ∧
      Keeps r t := by
  have hc0 := he.events
  have hf1 : r.hmi.inFlight = [arriving s op c sh] := by
    have := congrArg Hmi.inFlight hc0
    simpa [evtCore, enterFlight, h.alone] using this
  have hq1 : r.hmi.cplQueue = [] := by
    have := congrArg Hmi.cplQueue hc0
    simpa [evtCore, enterFlight, canFetch_queue h.fetch] using this
  have ht1 : r.hmi.cplTail = s.hmi.cplTail := 
    congrArg (f := Hmi.cplTail) (a₁ := evtCore r.hmi) (a₂ := evtCore (enterFlight s (arriving s op c sh)).hmi) hc0
  have hp1 : r.hmi.cplPhase = s.hmi.cplPhase := 
    congrArg (f := Hmi.cplPhase) (a₁ := evtCore r.hmi) (a₂ := evtCore (enterFlight s (arriving s op c sh)).hmi) hc0
  have hw1 : cplWritable r = true := by
    rw [cplWritable_eq, hc0, hg]
    have := canFetch_ring h.fetch
    rw [cplWritable_eq] at this
    exact this
  have hc := complete_alone hf1 hq1 hw1 st res
  have hm : message s op c sh = complete r (arriving s op c sh).id st res := by
    rw [message_runs h, startCmd_alone h.alone rfl, hr]
  have hk := complete_host r (arriving s op c sh).id st res
  obtain ⟨o1, h1, ta1, r1, hfr⟩ := hk.frame
  obtain ⟨t, t1, t2, t3⟩ := hostEvent_records (fun s => message s op c sh) (canFetch_host h.fetch) hm
    (by rw [hfr]; exact ha.trans h.act) (noWait_nil hc.1) (hk.keeps.harmless hh) (by rw [hfr]; exact hq)
  refine ⟨t, t1, ⟨t2.flight.trans hc.1, t3, fun hs => ?_⟩, ?_, hk.keeps.trans t2.keeps⟩
  · obtain ⟨l, l1, l2⟩ := hc.2 hs
    obtain ⟨k, hk⟩ := t2.keeps.outs
    obtain ⟨j, hj⟩ := he.outs
    refine ⟨k ++ (l ++ j), ?_, ?_⟩
    · rw [← hk, l1, ← hj]; simp [enterFlight]
    · have hx : ∀ x, cplWrite r x = cplWrite s x := fun x => by simp only [cplWrite, hostRing, regN, reg, hg, ht1, hp1]
      rw [hx] at l2
      have hce : cplEntry r (arriving s op c sh) st.code res = cplEntry s (arriving s op c sh) st.code res := by
        simp only [cplEntry, ht]
      rw [hce] at l2
      simp only [List.mem_append]
      exact .inr (.inl l2)
  · obtain ⟨o', hm', ta', rr', fl', dr', bw', po', hr2⟩ := t2.frame
    rw [hr2, hfr]
    rfl

/-- The operation of a served command that answers at once and leaves `e` beside the command in flight. -/
theorem message_replies {s : State} {op : Nat} {c : Cmd} {sh : List (Nat × Nat)} (h : Serving s op c) {e r : State}
    {st : Status} {res : List Byte}
    (hr : runOp (enterFlight s (arriving s op c sh)) (arriving s op c sh) = (r, .now st res))
    (he : Records (enterFlight e (arriving s op c sh)) r) (hh : harmless r)
    (hv : e.hmi = s.hmi := by rfl) (ho : e.outs = s.outs := by rfl) (hmap : e.flt.map = s.flt.map := by rfl)
    (hrep : e.reports = s.reports := by rfl)
    (hg : e.regs = s.regs := by rfl) (ht : e.tsc = s.tsc := by rfl) (ha : e.img.act = s.img.act := by rfl)
    (hq : e.pending = s.pending := by rfl) :
    ∃ t, hostEvent s (fun s => message s op c sh) = t ∧ Replies e t (arriving s op c sh) st res := by
  obtain ⟨o, hm, ta, rr, fl, dr, bw, po, hr1⟩ := he.frame
  have hmild : Loose (enterFlight s (arriving s op c sh)) r := by
    refine ⟨he.events.trans (by simp only [enterFlight, hv]), ?_, he.keeps.map.trans hmap, fun q hq => ?_⟩
    · have := he.keeps.outs; simp only [enterFlight, ho] at this; exact this
    · have := he.keeps.reports q hq; simp only [enterFlight, hrep] at this; exact this
  obtain ⟨t, t1, t2, t3, t4⟩ := message_answers h hr hmild hh (by rw [hr1]; exact hg) (by rw [hr1]; exact ht)
    (by rw [hr1]; exact ha) (by rw [hr1]; exact hq)
  refine ⟨t, t1, ?_, he.keeps.trans t4, t2.flight, t2.settled, fun hs => ?_⟩
  · refine ⟨t.outs, t.hmi, t.tallies, t.reports, t.flt, t.dram, t.badWords, t.poisoned, ?_⟩
    have : calm t = calm e := by rw [t3, hr1]; rfl
    exact calm_frame this
  · obtain ⟨l, l1, l2⟩ := t2.answer hs
    refine ⟨l, by rw [ho]; exact l1, ?_⟩
    have hx : ∀ x, cplWrite e x = cplWrite s x := fun x => by simp only [cplWrite, hostRing, regN, reg, hg, hv]
    rw [hx]
    have hce : cplEntry e (arriving s op c sh) st.code res = cplEntry s (arriving s op c sh) st.code res := by
      simp only [cplEntry, ht]
    rw [hce]; exact l2

/-- The operation of a served command that answers later. -/
theorem message_begins {s : State} {op : Nat} {c : Cmd} {sh : List (Nat × Nat)} (h : Serving s op c) {e r : State}
    (hr : runOp (enterFlight s (arriving s op c sh)) (arriving s op c sh) = (r, .later))
    (he : Records (enterFlight e (arriving s op c sh)) r) (hh : harmless r) (hfl : e.hmi.inFlight = [] := by exact h.alone)
    (ha : e.img.act = none := by exact h.act) (hq : e.pending = s.pending := by rfl) :
    ∃ t, hostEvent s (fun s => message s op c sh) = t ∧ Begins e t (arriving s op c sh) := by
  have hm : message s op c sh = r := by rw [message_runs h, startCmd_alone h.alone rfl, hr]
  have hw : noWait r := by
    simp [noWait, he.flight, enterFlight, hfl, arriving, inFlightOf]
  have hact : r.img.act = none := by
    obtain ⟨o, hm, ta, rr, fl, dr, bw, po, hr1⟩ := he.frame
    rw [hr1]; exact ha
  have hpend : r.pending = s.pending := by
    obtain ⟨o, hm, ta, rr, fl, dr, bw, po, hr1⟩ := he.frame
    rw [hr1]; exact hq
  obtain ⟨t, t1, t2, t3⟩ := hostEvent_records (fun s => message s op c sh) (canFetch_host h.fetch) hm hact hw hh hpend
  exact ⟨t, t1, he.trans t2, t3⟩

/-! ### In the words of a statement: what `exec` answers -/

/-- A served command's operation, by its opcode. -/
theorem Serving.on {s : State} {op : Nat} {c : Cmd} (h : Serving s op c) (sh : List (Nat × Nat)) :
    runOp (enterFlight s (arriving s op c sh)) (arriving s op c sh) =
      if op < 0x0800 then runLow (enterFlight s (arriving s op c sh)) (arriving s op c sh) (bodyOf c)
      else if op < 0x0A00 then runMid (enterFlight s (arriving s op c sh)) (arriving s op c sh) (bodyOf c)
      else runHigh (enterFlight s (arriving s op c sh)) (arriving s op c sh) (bodyOf c) :=
  runOp_on (s := enterFlight s (arriving s op c sh)) (f := arriving s op c sh) h.domains

variable {i : Instr} {s e r : State} {op : Nat} {c : Cmd} {sh : List (Nat × Nat)} {st : Status} {res : List Byte}

/-- A served command that answers at once and leaves `e`. -/
theorem exec_replies (hi : exec i s = .next (hostEvent s (fun s => message s op c sh))) (h : Serving s op c)
    (hr : runOp (enterFlight s (arriving s op c sh)) (arriving s op c sh) = (enterFlight e (arriving s op c sh), .now st res))
    (hv : e.hmi = s.hmi := by rfl) (ho : e.outs = s.outs := by rfl) (hmap : e.flt.map = s.flt.map := by rfl)
    (hrep : e.reports = s.reports := by rfl)
    (hg : e.regs = s.regs := by rfl) (ht : e.tsc = s.tsc := by rfl) (ha : e.img.act = s.img.act := by rfl)
    (hq : e.pending = s.pending := by rfl) :
    ∃ t, exec i s = .next t ∧ Replies e t (arriving s op c sh) st res := by
  obtain ⟨t, t1, t2⟩ := message_replies h hr (.refl _) (harmless_nil (hrep.trans h.reports)) hv ho hmap hrep hg ht ha hq
  exact ⟨t, by rw [hi, t1], t2⟩

/-- A served command that answers at once and leaves `r`. -/
theorem exec_answers (hi : exec i s = .next (hostEvent s (fun s => message s op c sh))) (h : Serving s op c)
    (hr : runOp (enterFlight s (arriving s op c sh)) (arriving s op c sh) = (r, .now st res))
    (he : Loose (enterFlight s (arriving s op c sh)) r)
    (hg : r.regs = s.regs := by rfl) (ht : r.tsc = s.tsc := by rfl) (ha : r.img.act = s.img.act := by rfl)
    (hq : r.pending = s.pending := by rfl) :
    ∃ t, exec i s = .next t ∧ Answers s t (arriving s op c sh) st res ∧ calm t = calm r ∧ Keeps r t := by
  obtain ⟨t, t1, t2⟩ := message_answers h hr he (he.harmless h.reports) hg ht ha hq
  exact ⟨t, by rw [hi, t1], t2⟩

/-- A served command that goes on and leaves `e`. -/
theorem exec_begins (hi : exec i s = .next (hostEvent s (fun s => message s op c sh))) (h : Serving s op c)
    (hr : runOp (enterFlight s (arriving s op c sh)) (arriving s op c sh) = (r, .later))
    (he : Records (enterFlight e (arriving s op c sh)) r) (hrep : e.reports = s.reports := by rfl)
    (hv : e.hmi = s.hmi := by rfl) (ha : e.img.act = s.img.act := by rfl) (hq : e.pending = s.pending := by rfl) :
    ∃ t, exec i s = .next t ∧ Begins e t (arriving s op c sh) := by
  obtain ⟨t, t1, t2⟩ := message_begins h hr he (he.keeps.harmless_nil (hrep.trans h.reports)) (by rw [hv]; exact h.alone)
    (ha.trans h.act) hq
  exact ⟨t, by rw [hi, t1], t2⟩

/-- An event whose operation changes units alone. -/
theorem exec_event {f : State → State} (hi : exec i s = .next (event s f)) (h : Live s) (hf : f s = r) (hm : Loose s r)
    (ha : r.img.act = s.img.act := by rfl) (hq : r.pending = s.pending := by rfl) :
    ∃ t, exec i s = .next t ∧ Records r t ∧ t.reports = [] := by
  obtain ⟨t, t1, t2⟩ := event_quiet f h hf hm ha hq
  exact ⟨t, by rw [hi, t1], t2⟩

/-- An event whose operation does nothing but change units, as `r` says. -/
theorem exec_unit {f : State → State} (hi : exec i s = .next (event s f)) (h : Live s) (hf : f s = r)
    (hv : r.hmi = s.hmi := by rfl) (ho : r.outs = s.outs := by rfl) (hmap : r.flt.map = s.flt.map := by rfl)
    (hrep : r.reports = s.reports := by rfl)
    (ha : r.img.act = s.img.act := by rfl) (hq : r.pending = s.pending := by rfl) :
    ∃ t, exec i s = .next t ∧ Records r t ∧ t.reports = [] :=
  exec_event hi h hf (.units hv ho hmap hrep) ha hq

/-- An event whose operation reports nothing that has a reaction. -/
theorem exec_records {f : State → State} (hi : exec i s = .next (event s f)) (h : Live s) (hf : f s = r)
    (hw : noWait r) (hh : harmless r) (ha : r.img.act = s.img.act := by rfl) (hq : r.pending = s.pending := by rfl) :
    ∃ t, exec i s = .next t ∧ Records r t ∧ t.reports = [] ∧ (∀ src, src < 256 →
      (∃ q ∈ r.reports, q.source = src ∧ q.injected = false) → (sourceCfg r src).1 ≠ 0 →
      (srcAt t src).pending = true ∧ ((sourceCfg r src).1 = 2 → (srcAt t src).mode = .fatal)) := by
  obtain ⟨t, t1, t2, t3⟩ := event_records f h.power hf (ha.trans h.act) hw hh hq
  subst hf
  refine ⟨t, by rw [hi, t1], t2, t3, fun src hs hr hc => ?_⟩
  have := finish_marks (a := s) (ha.trans h.act) hw hs hr hc
  rwa [← event_running h.power f, t1] at this

/-- An event whose operation reports: everything but the light path and the scanner is as it left it. -/
theorem exec_reacts {f : State → State} (hi : exec i s = .next (event s f)) (h : Live s) (hf : f s = r)
    (hw : noWait r) (ha : r.img.act = s.img.act := by rfl) (hq : r.pending = s.pending := by rfl) :
    ∃ t, exec i s = .next t ∧ Reacts r t ∧ t.reports = [] ∧ (∀ src, src < 256 →
      (∃ q ∈ r.reports, q.source = src ∧ q.injected = false) → (sourceCfg r src).1 ≠ 0 →
      (srcAt t src).pending = true ∧ ((sourceCfg r src).1 = 2 → (srcAt t src).mode = .fatal)) := by
  subst hf
  obtain ⟨u, h1, h2, h3⟩ := finish_reacts (a := s) (ha.trans h.act) hw
  have he : finish s (f s) = u := by
    rw [h3]
    obtain ⟨o, h, ta, r, fl, dr, bw, po, ls, pi, lp, pk, rc, hl, rfl⟩ := h1.frame
    simp only [withQueue, hq]
  refine ⟨u, by rw [hi, event_running h.power, he], h1, h2, fun src hs hr hc => ?_⟩
  have := finish_marks (a := s) (ha.trans h.act) hw hs hr hc
  rwa [he] at this

end Sys2Proof.Machine
end

