-- ==== Sys2Proof/Laws/Picture.lean ====
section
/-! SUPPORT. The composer, the colour pipeline and the builders: what each operation leaves. -/

namespace Sys2Proof.Machine

/-! ### Layer commands -/

theorem runLayerSurface_ok {s : State} {l : Nat} {p : List Byte} (hp : surfaceEncOk p = true) (hf : s.ftgOn = true)
    (hl : layerEnabled s l = true) : runLayerSurface s l p = ({ s with cmp := { s.cmp with
      layers := vmod s.cmp.layers l (fun x => { x with shadow := { x.shadow with surf := surfaceOf p } }) } },
      .now .ok []) := by
  have hr : layerRefused s l = false := by simp [layerRefused, hf, hl]
  simp only [runLayerSurface, hp, hr, Bool.not_true, Bool.false_eq_true, if_false, setShadow]
  rw [vmod_congr (d := {})]
  rfl

theorem runLayerGeom_ok {s : State} {l : Nat} {p : List Byte} (hp : geomEncOk l p = true) (hf : s.ftgOn = true)
    (hl : layerEnabled s l = true) : runLayerGeom s l p = ({ s with cmp := { s.cmp with
      layers := vmod s.cmp.layers l (fun x => { x with shadow := { x.shadow with geom := geomOf p } }) } },
      .now .ok []) := by
  have hr : layerRefused s l = false := by simp [layerRefused, hf, hl]
  simp only [runLayerGeom, hp, hr, Bool.not_true, Bool.false_eq_true, if_false, setShadow]
  rw [vmod_congr (d := {})]
  rfl

theorem runLayerReady_ok {s : State} {l : Nat} {p : List Byte} {q : PendSt}
    (hl : layerEnabled s l = true) (hq : (vget s.cmp.layers l {}).pend = some q) (hw : q.wait = true) (hr : q.ready = false)
    (hb : q.st.surf.bufferId = leAt p 0 2) (arrival : Nat) : runLayerReady s l arrival p = ({ s with cmp := { s.cmp with
      layers := vmod s.cmp.layers l (fun x => { x with pend := some { q with ready := true, readyAt := arrival } }) } },
      .now .ok []) := by
  simp [runLayerReady, hl, hq, hw, hr, hb]

/-! ### Commits -/

theorem postRetire_mild (s : State) (l : Nat) (f : Surface) (g n : Nat) : Mild s (postRetire s l f g n) :=
  (bump_mild s _).trans (post_mild _ _ _ _)

@[simp] theorem calm_postRetire (s : State) (l : Nat) (f : Surface) (g n : Nat) : calm (postRetire s l f g n) = calm s := by
  simp [postRetire]

theorem releaseReplaced_mild (old : Vector Layer 16) (s : State) (l : Nat) : Mild s (releaseReplaced old s l) := by
  unfold releaseReplaced
  split
  · exact .refl _
  · exact .ite _ (postRetire_mild _ _ _ _ _) (.refl _)

@[simp] theorem calm_releaseReplaced (old : Vector Layer 16) (s : State) (l : Nat) :
    calm (releaseReplaced old s l) = calm s := by
  unfold releaseReplaced
  split
  · rfl
  · exact calm_ite _ (calm_postRetire _ _ _ _ _) rfl

/-- An accepted commit is what its merge says, but for the events it posts. -/
theorem acceptCommit_mild (s : State) (mask wait arrival fetch : Nat) (changed : List Nat) :
    Mild s (acceptCommit s mask wait arrival fetch changed) := by
  unfold acceptCommit
  extract_lets seq src s1
  exact Mild.trans (b := s1) .units (.forMask 16 mask _ (releaseReplaced_mild s.cmp.layers) _)

theorem acceptCommit_calm (s : State) (mask wait arrival fetch : Nat) (changed : List Nat) :
    calm (acceptCommit s mask wait arrival fetch changed) = calm { s with cmp := { s.cmp with
      layers := mergeLayers s mask wait (s.cmp.commitSeq + 1) arrival changed, commitSeq := s.cmp.commitSeq + 1,
      fetchLast := fetch, commits := s.cmp.commits ++ [{ seq := s.cmp.commitSeq + 1, arrival := arrival, changed := changed }] } } := by
  unfold acceptCommit
  exact calm_forMask 16 mask _ (calm_releaseReplaced s.cmp.layers) _

theorem acceptCommit_cmp (s : State) (mask wait arrival fetch : Nat) (changed : List Nat) :
    (acceptCommit s mask wait arrival fetch changed).cmp = { s.cmp with
      layers := mergeLayers s mask wait (s.cmp.commitSeq + 1) arrival changed, commitSeq := s.cmp.commitSeq + 1,
      fetchLast := fetch, commits := s.cmp.commits ++ [{ seq := s.cmp.commitSeq + 1, arrival := arrival, changed := changed }] } :=
  calm_eq (·.cmp) (acceptCommit_calm s mask wait arrival fetch changed)

/-- The steps of R179 all pass, and no host write lies behind the doorbell. -/
theorem runCommitChecks_ok {s : State} {arrival : Nat} {p : List Byte} (hf : commitShut s arrival = false)
    (hs : s.cmp.writes = []) (hm : maskCheck s (leAt p 0 2) = none) (hw : leAt p 2 2 &&& leAt p 0 2 = leAt p 2 2)
    (hl : ∀ l, l < 16 → bitAt (leAt p 0 2) l = true → layerCheck s l = none)
    (hb : fetchBudget s (mergeLayers s (leAt p 0 2) (leAt p 2 2) 0 arrival ((List.range 7).map (fun i => leAt p (8 + 2 * i) 2)))
      ≤ (cfg s).canvas.fetchAllotment) :
    ∃ fetch, runCommitChecks s arrival p =
      (acceptCommit s (leAt p 0 2) (leAt p 2 2) arrival fetch ((List.range 7).map (fun i => leAt p (8 + 2 * i) 2)),
        .now .ok (commitResult (acceptCommit s (leAt p 0 2) (leAt p 2 2) arrival fetch
          ((List.range 7).map (fun i => leAt p (8 + 2 * i) 2))).cmp.commitSeq fetch 0 255)) := by
  have hn : (List.range 16).findSome? (fun l =>
      if bitAt (leAt p 0 2) l then (layerCheck s l).map (fun e => (l, e)) else none) = none := by
    rw [List.findSome?_eq_none_iff]
    intro l hlm
    split
    · rename_i hbit
      rw [hl l (List.mem_range.mp hlm) hbit]; rfl
    · rfl
  refine ⟨fetchBudget s (mergeLayers s (leAt p 0 2) (leAt p 2 2) 0 arrival ((List.range 7).map (fun i => leAt p (8 + 2 * i) 2))),
    ?_⟩
  unfold runCommitChecks
  extract_lets mask wait changed fetch s0 s1
  have h1 : ¬ (wait &&& mask ≠ wait) := not_not.mpr hw
  have h2 : ¬ ((cfg s).canvas.fetchAllotment < fetchBudget s (mergeLayers s mask wait 0 arrival changed)) := Nat.not_lt.mpr hb
  have h3 : (acceptCommit s mask wait arrival (fetchBudget s (mergeLayers s mask wait 0 arrival changed)) changed).cmp.writes
      = [] := by rw [acceptCommit_cmp]; exact hs
  simp only [hf, Bool.false_eq_true, if_false, mask, hm]
  simp only [mask, wait, changed] at h1 h2 h3
  rw [if_neg h1, hn]
  dsimp only
  rw [if_neg h2]
  have h4 : s1 = s0 := if_pos (List.isEmpty_iff.mpr h3)
  rw [h4]

/-- Merging makes each named layer's shadow its pending state. -/
theorem mergeLayers_get (s : State) (mask wait seq arrival : Nat) (changed : List Nat) (l : Nat) :
    vget (mergeLayers s mask wait seq arrival changed) l {} =
      if l < 16 ∧ bitAt mask l = true then
        { vget s.cmp.layers l {} with pend := some (mergedPend (vget s.cmp.layers l {}) wait seq arrival changed l) }
      else vget s.cmp.layers l {} := by
  unfold mergeLayers
  rw [vget_foldl_vmod (fun l => bitAt mask l) (fun l (x : Layer) => { x with pend := some (mergedPend x wait seq arrival changed l) }) _ 16
    (by omega)]

/-- A commit that passes the steps of R179. -/
theorem runCommit_ok {s : State} {arrival : Nat} {p : List Byte} (hf : commitShut s arrival = false)
    (hs : s.cmp.writes = []) (hm : maskCheck s (leAt p 0 2) = none) (hw : leAt p 2 2 &&& leAt p 0 2 = leAt p 2 2)
    (hl : ∀ l, l < 16 → bitAt (leAt p 0 2) l = true → layerCheck s l = none)
    (hb : fetchBudget s (mergeLayers s (leAt p 0 2) (leAt p 2 2) 0 arrival ((List.range 7).map (fun i => leAt p (8 + 2 * i) 2)))
      ≤ (cfg s).canvas.fetchAllotment) :
    ∃ fetch, runCommit s arrival p =
      (verCommit (acceptCommit s (leAt p 0 2) (leAt p 2 2) arrival fetch ((List.range 7).map (fun i => leAt p (8 + 2 * i) 2)))
        arrival, .now .ok (commitResult (s.cmp.commitSeq + 1) fetch 0 255)) := by
  obtain ⟨fetch, hr⟩ := runCommitChecks_ok hf hs hm hw hl hb
  refine ⟨fetch, ?_⟩
  have hc := acceptCommit_cmp s (leAt p 0 2) (leAt p 2 2) arrival fetch ((List.range 7).map (fun i => leAt p (8 + 2 * i) 2))
  have hne : ¬ (acceptCommit s (leAt p 0 2) (leAt p 2 2) arrival fetch
      ((List.range 7).map (fun i => leAt p (8 + 2 * i) 2))).cmp.commitSeq = s.cmp.commitSeq := by rw [hc]; simp
  have hseq : (acceptCommit s (leAt p 0 2) (leAt p 2 2) arrival fetch
      ((List.range 7).map (fun i => leAt p (8 + 2 * i) 2))).cmp.commitSeq = s.cmp.commitSeq + 1 := by rw [hc]
  unfold runCommit
  rw [hr]
  dsimp only
  rw [if_neg hne, hseq]

/-! ### Lines and watermarks -/

theorem lineEvents_posts (s : State) (f line : Nat) : Posts s (lineEvents s f line) := by
  unfold lineEvents
  extract_lets en frame sig s1
  have hs : ∀ x, Posts x (sig x) := fun x => .ite _ (signal_posts _ _) (.refl _)
  have h1 : Posts s s1 := .ite _ ((post_posts _ _ _ _).trans (hs _)) (.refl _)
  exact .ite _ ((h1.trans (post_posts _ _ _ _)).trans (hs _)) h1

/-- A reading without errors notes nothing. -/
@[simp] theorem meetErrors_none (s : State) (unit : Nat) : meetErrors s {} unit = s := by
  simp [meetErrors]

/-- A layer becomes urgent. -/
theorem fetchFill_urgent {s : State} {l fill : Nat} (hu : (vget s.cmp.layers l {}).urgent = false)
    (hf : fill < bits (regN s 0x20001C) 5 0) : fetchFill s l fill {} =
      bump { s with cmp := { s.cmp with layers := vmod s.cmp.layers l (fun y => { y with urgent := true }) } } 0x200038 := by
  simp [fetchFill, meetErrors_none, hu, hf]

/-- A layer becomes calm. -/
theorem fetchFill_calm {s : State} {l fill : Nat} (hu : (vget s.cmp.layers l {}).urgent = true)
    (hf : bits (regN s 0x20001C) 13 8 ≤ fill) : fetchFill s l fill {} =
      { s with cmp := { s.cmp with layers := vmod s.cmp.layers l (fun y => { y with urgent := false }) } } := by
  simp [fetchFill, meetErrors_none, hu, hf]

/-- What counting a unit's tally leaves in it. -/
theorem tally_bump (s : State) (off : Nat) (h : unitTally off = true) : tally (bump s off) off = min (tally s off + 1) tallyMax := by
  rw [(bump_counted s off).tallies off h, tally_bumpRaw]

theorem tally_bump_ne (s : State) {off i : Nat} (h : unitTally i = true) (hne : i ≠ off) : tally (bump s off) i = tally s i := by
  rw [(bump_counted s off).tallies i h, tally_bumpRaw_ne s hne]

/-! ### Takes -/

theorem applyChange_mild (s : State) (c : MapChange) : Mild s (applyChange s c) := by
  unfold applyChange
  extract_lets table slots src s1
  have h1 : Mild s s1 := .units
  clear_value s1
  split <;> exact h1.trans (post_mild _ _ _ _)

theorem applyTable_mild (s : State) : Mild s (applyTable s) := by
  unfold applyTable
  have h : ∀ (l : List MapChange) (x : State), Mild x (l.foldl applyChange x) := by
    intro l
    induction l with
    | nil => exact fun x => .refl x
    | cons c l ih => exact fun x => (applyChange_mild x c).trans (ih _)
  exact Mild.trans (b := { s with pbu := { s.pbu with mapNext := [] } }) .units (h _ _)

theorem beginBuild_mild (s : State) (no : Nat) : Mild s (beginBuild s no) := .units

theorem startPass_mild (s : State) (frame start seq skipped cover : Nat) (changed : List Nat) :
    Mild s (startPass s frame start seq skipped cover changed) := by
  unfold startPass pbuTake
  extract_lets gains no p src src2 s1
  have h1 : Mild s s1 := .units
  exact (h1.trans (applyTable_mild s1)).trans (beginBuild_mild _ no)

@[simp] theorem calm_countKtc (s : State) (p : Pass) (n : Nat) : calm (countKtc s p n) = calm s := by
  unfold countKtc
  extract_lets k
  split
  · rfl
  · simp

@[simp] theorem calm_cutPass (s : State) (p : Pass) : calm (cutPass s p).1 = calm s := by
  unfold cutPass
  split
  · exact calm_countKtc _ _ _
  · rfl

theorem setPass_calm {s x : State} (h : calm x = calm s) (p : Option Pass) :
    calm (setPass x p) = calm { s with cmp := { s.cmp with pass := p } } := by
  unfold setPass
  rw [(calm_eq (·.cmp) h :)]
  exact calm_with_cmp h _

theorem abortPass_calm (s : State) : ∃ p, calm (abortPass s) = calm { s with cmp := { s.cmp with pass := p } } := by
  unfold abortPass
  split
  · split
    · exact ⟨_, (calm_post _ _ _ _).trans (setPass_calm (calm_cutPass _ _) _)⟩
    · exact ⟨s.cmp.pass, rfl⟩
  · exact ⟨s.cmp.pass, rfl⟩

theorem applyChange_calm (s : State) (c : MapChange) : ∃ b, calm (applyChange s c) = calm { s with pbu := b } := by
  unfold applyChange
  extract_lets table slots src s1
  refine ⟨s1.pbu, ?_⟩
  split <;> exact calm_post _ _ _ _

theorem applyTable_calm (s : State) : ∃ b, calm (applyTable s) = calm { s with pbu := b } := by
  unfold applyTable
  have h : ∀ (l : List MapChange) (x : State), ∃ b, calm (l.foldl applyChange x) = calm { x with pbu := b } := by
    intro l
    induction l with
    | nil => exact fun x => ⟨x.pbu, rfl⟩
    | cons c l ih =>
      intro x
      obtain ⟨b, hb⟩ := applyChange_calm x c
      obtain ⟨b', hb'⟩ := ih (applyChange x c)
      have hc : ∀ (y : State) (q : Pbu), calm { y with pbu := q } = { calm y with pbu := q } := fun _ _ => rfl
      refine ⟨b', hb'.trans ?_⟩
      rw [hc, hb]
      rfl
  obtain ⟨b, hb⟩ := h (s.pbu.mapNext.filter (changeStands s)) { s with pbu := { s.pbu with mapNext := [] } }
  exact ⟨b, hb⟩

/-- A started pass, and nothing else of the composer. -/
theorem startPass_calm (s : State) (frame start seq skipped cover : Nat) (changed : List Nat) : ∃ p g b,
    calm (startPass s frame start seq skipped cover changed) = calm { s with
      cmp := { s.cmp with pass := some p, takeNo := s.cmp.takeNo + 1 }, clr := { s.clr with gainPrimary := g }, pbu := b } ∧
    p.mode = .running ∧ p.line = 0 ∧ p.start = start ∧ p.no = s.cmp.takeNo + 1 := by
  unfold startPass pbuTake
  extract_lets gains no p src src2 s1
  obtain ⟨b, hb⟩ := applyTable_calm s1
  have hbb : ∀ x : State, ∃ b, beginBuild x no = { x with pbu := b } := fun _ => ⟨_, rfl⟩
  obtain ⟨b', hb'⟩ := hbb (applyTable s1)
  refine ⟨p, (List.range 3).map (primaryGain (cfg s).topo gains), b', ?_, rfl, rfl, rfl, rfl⟩
  rw [hb']
  have : ∀ x : State, calm { x with pbu := b' } = { calm x with pbu := b' } := fun _ => rfl
  rw [this, hb]
  rfl

theorem postLayerLate_mild (n : Nat) (s : State) (l : Nat) (q : PendSt) : Mild s (postLayerLate n s l q) :=
  (bump_mild _ _).trans (post_mild _ _ _ _)

@[simp] theorem calm_postLayerLate (n : Nat) (s : State) (l : Nat) (q : PendSt) : calm (postLayerLate n s l q) = calm s := by
  simp [postLayerLate]

/-- The layers a latch leaves. -/
def latchedLayers (s : State) (stamp frame : Nat) : Vector Layer 16 :=
  (List.range 16).foldl (fun v l =>
    if bitAt (maskOf (s.cmp.layers.toList.map (isTaken stamp))) l then vmod v l (takeLayer frame) else v) s.cmp.layers

/-- A latch: its stamp, its layers, and a pass where a commit was waiting or a layer was taken. -/
theorem latch_calm (s : State) (stamp frame start : Nat) : ∃ c g b,
    calm (latch s stamp frame start) = calm { s with cmp := c, clr := g, pbu := b } ∧ c.latchStamp = some stamp ∧
    c.layers = latchedLayers s stamp frame ∧
    ((∃ e ∈ s.cmp.commits, e.arrival < stamp) → ∃ p, c.pass = some p ∧ p.mode = .running ∧ p.line = 0 ∧ p.start = start ∧
      p.no = s.cmp.takeNo + 1 ∧ c.takeNo = s.cmp.takeNo + 1) := by
  unfold latch
  extract_lets old lateMask takenMask skip s1 commits takenPend take layers src s2 seq aborted changed src3 s3 s4 cover
  have h1 : calm s1 = calm s := calm_forMask 16 _ _ (fun x l => by split <;> simp) s
  have hc1 : s1.cmp = s.cmp := (calm_eq (·.cmp) h1 :)
  have ht1 : s1.tsc = s.tsc := (calm_eq (·.tsc) h1 :)
  have h2 : calm s2 = calm { s with cmp := s2.cmp } := by
    have : calm s2 = { calm s1 with cmp := s2.cmp } := rfl
    rw [this, h1]; rfl
  have hc2 : s2.cmp.layers = layers ∧ s2.cmp.latchStamp = some stamp ∧ s2.cmp.takeNo = s.cmp.takeNo := by
    refine ⟨rfl, rfl, ?_⟩
    show s1.cmp.takeNo = _
    rw [hc1]
  have hlay : layers = latchedLayers s stamp frame := rfl
  split
  · rename_i hnt
    refine ⟨s2.cmp, s.clr, s.pbu, h2, hc2.2.1, hc2.1.trans hlay, fun ⟨e, he, hlt⟩ => ?_⟩
    exfalso
    have : commits ≠ [] := by
      intro h0
      have hm : e ∈ commits := List.mem_filter.mpr ⟨he, by simpa using hlt⟩
      rw [h0] at hm; simp at hm
    simp [take, this] at hnt
  · have h4 : calm s4 = calm { s with cmp := s3.cmp } := by
      have e4 : calm s4 = calm s3 := calm_post _ _ _ _
      have : calm s3 = { calm s2 with cmp := s3.cmp } := rfl
      rw [e4, this, h2]; rfl
    obtain ⟨q, hq⟩ := abortPass_calm s4
    obtain ⟨p, g, b, hp, hm, hl, hs, hno⟩ := startPass_calm (abortPass s4) frame start seq skip cover changed
    have ha : calm (abortPass s4) = calm { s with cmp := { s3.cmp with pass := q } } := by
      have e4 : s4.cmp = s3.cmp := (calm_eq (·.cmp) h4 :)
      rw [hq, e4]
      have : calm { s4 with cmp := { s3.cmp with pass := q } } = { calm s4 with cmp := { s3.cmp with pass := q } } := rfl
      rw [this, h4]; rfl
    have hac : (abortPass s4).cmp = { s3.cmp with pass := q } := (calm_eq (·.cmp) ha :)
    have hat : (abortPass s4).tsc = s.tsc := (calm_eq (·.tsc) ha :)
    have hn3 : s3.cmp.takeNo = s.cmp.takeNo := hc2.2.2
    refine ⟨{ (abortPass s4).cmp with pass := some p, takeNo := (abortPass s4).cmp.takeNo + 1 },
      { (abortPass s4).clr with gainPrimary := g }, b, ?_, ?_, ?_, fun _ => ⟨p, rfl, hm, hl, hs, ?_, ?_⟩⟩
    · rw [hp]
      generalize hG : { (abortPass s4).cmp with pass := some p, takeNo := (abortPass s4).cmp.takeNo + 1 } = G
      generalize hH : { (abortPass s4).clr with gainPrimary := g } = H
      have : calm { abortPass s4 with cmp := G, clr := H, pbu := b } = { calm (abortPass s4) with cmp := G, clr := H, pbu := b } := rfl
      rw [this, ha]
      rfl
    · rw [hac]
    · rw [hac]; exact hc2.1.trans hlay
    · exact hno.trans (by rw [hac, ← hn3])
    · rw [hac, ← hn3]

/-- A latch changes the layers it takes, each as its own rule says. -/
theorem latchedLayers_get (s : State) (stamp frame l : Nat) : vget (latchedLayers s stamp frame) l {} =
    if l < 16 ∧ isTaken stamp (vget s.cmp.layers l {}) = true then takeLayer frame (vget s.cmp.layers l {})
    else vget s.cmp.layers l {} := by
  unfold latchedLayers
  rw [vget_foldl_vmod (fun l => bitAt (maskOf (s.cmp.layers.toList.map (isTaken stamp))) l) (fun _ => takeLayer frame) _ 16
    (by omega)]
  by_cases hl : l < 16
  · have : bitAt (maskOf (s.cmp.layers.toList.map (isTaken stamp))) l = isTaken stamp (vget s.cmp.layers l {}) := by
      rw [bitAt_maskOf]
      simp [vget, List.getD_eq_getElem?_getD, hl]
    simp only [this]
  · simp [hl]

theorem hlsTake_calm (s : State) (no : Nat) (la : Option LayerSt) (pq : Nat) :
    ∃ h, calm (hlsTake s no la pq) = calm { s with hls := h } := by
  unfold hlsTake
  split
  · extract_lets s1 src
    have h1 : calm s1 = calm s := calm_ite _ (calm_bump _ _) rfl
    exact ⟨_, calm_with_hls h1 _⟩
  · exact ⟨s.hls, rfl⟩

theorem verTake_calm (s : State) (stamp : Nat) : ∃ v, verTake s stamp = { s with ver := v } := ⟨_, rfl⟩

/-- A latch with what follows a take. -/
theorem latchAll_calm (s : State) (stamp frame start : Nat) : ∃ c g b v h,
    calm (latchAll s stamp frame start) = calm { s with cmp := c, clr := g, pbu := b, ver := v, hls := h } ∧
    c.latchStamp = some stamp ∧ c.layers = latchedLayers s stamp frame ∧
    ((∃ e ∈ s.cmp.commits, e.arrival < stamp) → ∃ p, c.pass = some p ∧ p.mode = .running ∧ p.line = 0 ∧ p.start = start ∧
      p.no = s.cmp.takeNo + 1) := by
  obtain ⟨c, g, b, h1, h2, h3, h4⟩ := latch_calm s stamp frame start
  have h4' : (∃ e ∈ s.cmp.commits, e.arrival < stamp) → ∃ p, c.pass = some p ∧ p.mode = .running ∧ p.line = 0 ∧
      p.start = start ∧ p.no = s.cmp.takeNo + 1 := fun hc => by
    obtain ⟨p, a1, a2, a3, a4, a5, -⟩ := h4 hc; exact ⟨p, a1, a2, a3, a4, a5⟩
  unfold latchAll
  extract_lets s1
  have hs : calm s1 = calm { s with cmp := c, clr := g, pbu := b } := h1
  split
  · exact ⟨c, g, b, s.ver, s.hls, hs, h2, h3, h4'⟩
  · split
    · rename_i p _
      obtain ⟨v, hv⟩ := verTake_calm s1 stamp
      obtain ⟨h, hh⟩ := hlsTake_calm (verTake s1 stamp) p.no (p.layers.getD 15 none) p.pqPeak
      refine ⟨c, g, b, v, h, ?_, h2, h3, h4'⟩
      rw [hh, hv]
      have : calm { s1 with ver := v, hls := h } = { calm s1 with ver := v, hls := h } := rfl
      rw [this, hs]; rfl
    · exact ⟨c, g, b, s.ver, s.hls, hs, h2, h3, h4'⟩

theorem hlsTake_mild (s : State) (no : Nat) (la : Option LayerSt) (pq : Nat) : Mild s (hlsTake s no la pq) := by
  unfold hlsTake
  split
  · extract_lets s1 src
    have h1 : Mild s s1 := .ite _ (bump_mild _ _) (.refl _)
    exact h1.trans (b := s1) .units
  · exact .refl _

/-! ### Passes that run dry -/

theorem restartPass_mild (s : State) (p : Pass) : Mild s (restartPass s p) := .units

theorem postPassRestart_mild (s : State) (p : Pass) (o l : Nat) : Mild s (postPassRestart s p o l) := post_mild _ _ _ _

@[simp] theorem calm_postPassRestart (s : State) (p : Pass) (o l : Nat) : calm (postPassRestart s p o l) = calm s :=
  calm_post _ _ _ _

/-- The first thing a pass does that runs dry: what it has fetched is judged, and it is counted and reported. -/
def dryStart (s : State) (p : Pass) (line : Nat) : State :=
  report (bump (countKtc s { p with line := line } (line + 1)) 0x200028) { source := 0x30 }

@[simp] theorem calm_dryStart (s : State) (p : Pass) (line : Nat) : calm (dryStart s p line) = calm s := by
  simp [dryStart]

/-- A dry pass that can still end restarts. -/
theorem composerDry_restart {s : State} {p : Pass} {layer : Nat} (line deadline : Nat) (hp : s.cmp.pass = some p)
    (hm : p.mode = .running) (hl : layer ≠ 0xFE) (hd : s.tsc + passCycles s ≤ deadline) :
    composerDry s layer line deadline =
      restartPass (postPassRestart (bump (dryStart s p line) 0x20002C) { p with line := line } 0 layer)
        { p with line := line } := by
  simp [composerDry, hp, hm, hl, hd, dryStart]

/-- A dry pass that cannot is abandoned. -/
theorem composerDry_abandon {s : State} {p : Pass} {layer : Nat} (line deadline : Nat) (hp : s.cmp.pass = some p)
    (hm : p.mode = .running) (hl : layer ≠ 0xFE) (hd : deadline < s.tsc + passCycles s) :
    composerDry s layer line deadline =
      beginBuild (postPassRestart (setPass (report (bump (dryStart s p line) 0x200030) { source := 0x31 })
        (some { p with line := line, mode := .waiting })) { p with line := line } 1 layer) 0 := by
  simp [composerDry, hp, hm, hl, Nat.not_le.mpr hd, dryStart]

theorem restartPass_calm {s x : State} (h : calm x = calm s) (p : Pass) : ∃ b, calm (restartPass x p) =
    calm { s with cmp := { s.cmp with pass := some { p with mode := .running, line := 0, start := s.tsc, held := [] } }, pbu := b } := by
  obtain ⟨b, hb⟩ : ∃ b, restartPass x p = { x with
      cmp := { x.cmp with pass := some { p with mode := .running, line := 0, start := x.tsc, held := [] } }, pbu := b } := ⟨_, rfl⟩
  refine ⟨b, ?_⟩
  rw [hb, (calm_eq (·.cmp) h :), (calm_eq (·.tsc) h :)]
  generalize ({ s.cmp with pass := some { p with mode := .running, line := 0, start := s.tsc, held := [] } } : Cmp) = C
  exact congrArg (fun z : State => { z with tsc := s.tsc, cmp := C, pbu := b }) h

theorem beginBuild_calm {s x : State} (h : calm x = calm s) (n : Nat) : ∃ b, calm (beginBuild x n) = calm { s with pbu := b } := by
  obtain ⟨b, hb⟩ : ∃ b, beginBuild x n = { x with pbu := b } := ⟨_, rfl⟩
  exact ⟨b, by rw [hb]; exact calm_with_pbu h b⟩

end Sys2Proof.Machine
end

