-- ==== Sys2Proof/WellFormed.lean ====
section
/-! DEFINITION. Which commands are well formed: operands within what the spec's messages, beads and converters can carry. The machine gives every command a meaning; these checks say which of them the world can send. -/

namespace Sys2Proof

/-- A command message: 48 payload bytes at most, and the phase bit left to the ring entry (R125). -/
def Cmd.wf (c : Cmd) : Bool := decide (c.payload.length ≤ 48) && !c.flags.getLsbD 0

/-- A bank and one of its signals, as a pin test names them (R335). -/
def shortsWf (l : List (Nat × Nat)) : Bool := l.all (fun e => decide (e.1 < 12 ∧ e.2 < 16))

/-- A 16-bit converter code. -/
def codeWf (n : Nat) : Bool := decide (n < 65536)

/-- Readings of a level pair: four codes of each pulse of a bank (R232). -/
def PairRead.wf (r : PairRead) : Bool :=
  decide (r.bank < 12 ∧ r.high.length = 4 ∧ r.low.length = 4) && (r.high ++ r.low).all codeWf

/-- What link start found: a set of phases for each of the four combinations (R324). -/
def LinkFound.wf (r : LinkFound) : Bool :=
  decide (r.phases.length = 4 ∧ r.verMin < 256 ∧ r.verMax < 256 ∧ r.delay < 65536) && r.phases.all (fun m => decide (m < 256))

/-- A training step measures the four lanes of a channel (R430). -/
def StepResult.wf (r : StepResult) : Bool :=
  decide (r.taps.length = 4 ∧ r.shift.length = 4) && r.ue.all (fun o => decide (o < 0x40000))

/-- Measurements of calibration channels (R455). -/
def measWf (l : List CalMeas) : Bool := l.all (fun m => decide (m.chan < 73))

/-- What a start-up stage found (R523). -/
def StageResult.wf (r : StageResult) : Bool :=
  decide (r.failedChannels < 2 ^ 16 ∧ r.failedBuilders < 2 ^ 24) && r.steps.all (fun e => decide (e.1 < 16) && e.2.wf)
    && shortsWf r.shorts && measWf r.meas

/-- A DW of BAR0 (64 MB), or of BAR4 (1 MB), which only PCI Express reaches (R99, R110). -/
def dwWf (q : Requester) (bar : Bar) (dw : Nat) : Bool :=
  match bar with
  | .bar0 => decide (dw < 0x1000000)
  | .bar4 => decide (q = .pcie ∧ dw < 0x40000)

/-- Well-formed commands. -/
def Instr.wf (i : Instr) : Bool :=
  match i with
  | .powerOnReset _ _ _ => true
  | .brownout => true
  | .thermalTrip => true
  | .thermalRestart => true
  | .warmReset _ => true
  | .hostBoot _ => true
  | .supervisorWatchdog => true
  | .watchdogReset => true
  | .clockLoss _ => true
  | .aonUe _ => true
  | .interlockOpen _ _ => true
  | .interlockDiscrepancy => true
  | .bootStageDone r => r.wf
  | .hostBootGo _ _ _ => true
  | .ftg0Start => true
  | .flr => true
  | .linkDown => true
  | .perstN => true
  | .pmStateChange _ => true
  | .busMasterDisable _ => true
  | .pcieUncorrectable _ => true
  | .bar2Resize _ => true
  | .bar2Write _ _ data _ => decide (1 ≤ data.length ∧ data.length ≤ 4096)
  | .bar2Read _ _ be _ _ => decide (1 ≤ be.length ∧ be.length ≤ 4096)
  | .accessSize _ _ _ _ firstBe lastBe len _ => decide (1 ≤ len.toNat ∧ len.toNat ≤ 1024) && !(firstBe == 15 && lastBe == 0 && len == 1)
  | .registerWrite q bar dw _ _ => dwWf q bar dw.val
  | .shadowCaptureRead q bar dw => dwWf q bar dw.val
  | .glbErrClear _ => true
  | .glbAccessErrClear _ => true
  | .writeLock _ _ => true
  | .pqPeakWrite _ _ => true
  | .pqRegenDone => true
  | .calTargetWrite _ _ _ => true
  | .syncModeWrite _ _ => true
  | .pendingClear _ _ _ => true
  | .firstErrorClear _ => true
  | .smbSetPointer _ _ _ => true
  | .smbReadRegister => true
  | .smbWriteRegister _ _ _ _ => true
  | .smbReadStatus => true
  | .smbReadSerial => true
  | .smbAlertResponse => true
  | .smbSclTimeout => true
  | .hmiEnable _ _ => true
  | .hmiReset _ _ => true
  | .hmiDbCmd _ => true
  | .hmiDbCpl _ => true
  | .hmiDbEvt _ => true
  | .hmiHeartbeat _ _ => true
  | .hostWatchdog => true
  | .commandFetch entry _ shorts => entry.all (fun l => decide (l.length = 64)) && shortsWf shorts
  | .eventPost _ => true
  | .coalesceTimeout _ => true
  | .hello c => c.wf
  | .echo c => c.wf
  | .imgStage c => c.wf
  | .mirrorDone => true
  | .imgActivate c => c.wf
  | .journalAppendDone _ => true
  | .journalEraseDone => true
  | .quiescedDone => true
  | .switchedDone => true
  | .imgConfirm c => c.wf
  | .imgRollback c => c.wf
  | .imgRevokeKey c => c.wf
  | .trialTimeout => true
  | .memFenceQuery c => c.wf
  | .cmpLayerSurface c => c.wf
  | .cmpLayerGeom c => c.wf
  | .cmpCommit c => c.wf
  | .cmpLayerReady c => c.wf
  | .lineStart _ => true
  | .latchLine => true
  | .composerDry _ line => decide (line < 65536)
  | .passComplete _ => true
  | .highlightPassDone _ _ => true
  | .tileStart _ => true
  | .tileBuilt _ _ => true
  | .pbuTest c => c.wf
  | .pbuTestDone _ _ => true
  | .decisionPoint => true
  | .segmentBoundary => true
  | .quietFrameTick => true
  | .ftg1Sof => true
  | .holdEnd => true
  | .symbolDecoded => true
  | .stale => true
  | .loadBlock _ _ _ _ _ plane cached blank missing _ _ _ => (!blank || (decide (plane.val = 0) && !cached)) && missing.all (fun r => decide (r < 256))
  | .resetBlock _ _ _ _ showMask darkMask _ => showMask &&& darkMask == 0 && !(showMask == 0 && darkMask == 0)
  | .level _ _ _ _ _ => true
  | .window _ _ _ _ _ => true
  | .diagPulse _ _ _ _ _ width => decide (375 ≤ width.toNat ∧ width.toNat ≤ 4000)
  | .calPair _ _ _ width gap => decide (375 ≤ width.toNat ∧ width.toNat ≤ 4000 ∧ gap.toNat ≤ 4000)
  | .levelPairCorrection reads => reads.all PairRead.wf
  | .dramSlot _ _ _ training _ period _ => !training || period == 0
  | .darkSpan _ _ _ _ => true
  | .scanLine _ _ _ _ _ _ => true
  | .variantLoadDone _ => true
  | .rckRestore c => c.wf
  | .statusSync _ => true
  | .syncTimeout _ => true
  | .helloAck _ _ _ _ _ _ _ _ _ _ _ => true
  | .ack _ _ _ => true
  | .trainReport _ lanes _ => decide (lanes.length = 16) && lanes.all (fun l => decide (l.1 < 16))
  | .ready _ => true
  | .status _ _ _ _ _ => true
  | .laneLost _ _ => true
  | .rowErr _ _ _ => true
  | .frameErr _ _ => true
  | .replyTimeout _ => true
  | .statusLaneSilent _ => true
  | .parkLate _ => true
  | .statusPoll _ => true
  | .plkRetrain c => c.wf
  | .plkPark c => c.wf
  | .plkUnpark c => c.wf
  | .plkReadStatus c => c.wf
  | .driverReply _ _ _ _ _ => true
  | .bankUnverified _ => true
  | .linkStartDone _ found => found.wf
  | .lsdRearm c => c.wf
  | .lsdSafe c => c.wf
  | .lsdBrightness c => c.wf
  | .lsdPinTest c shorts => c.wf && shortsWf shorts
  | .lsdColourLock c => c.wf
  | .lsdDerateOverride c => c.wf
  | .lsdLinkRestart c => c.wf
  | .derateUpdate => true
  | .loopTick samples _ => decide (samples.length = 16) && samples.all codeWf
  | .lpeSwap c => c.wf
  | .lpeSlotReset c => c.wf
  | .fastCrossing _ _ _ _ _ _ => true
  | .motionLost => true
  | .lockTimeout => true
  | .parkReached => true
  | .parkForced => true
  | .scanLineStart => true
  | .scanLineEnd => true
  | .hlsStart c => c.wf
  | .hlsPark c => c.wf
  | .refreshDue _ => true
  | .refreshOpportunity _ => true
  | .ownRefreshSlot => true
  | .mr4Read _ _ => true
  | .trainingStepDone _ r => r.wf
  | .memTrain c => c.wf
  | .audStart c => c.wf
  | .audioPortRunning _ => true
  | .audStop c => c.wf
  | .sampleFrameOut _ _ => true
  | .sampleFrameIn _ _ => true
  | .audioFillCopy => true
  | .audioPllUnlock => true
  | .calRun c => c.wf
  | .calRunDone _ meas => measWf meas
  | .calRampStep => true
  | .calStore c => c.wf
  | .calStoreDone _ => true
  | .sensorSample _ ntc => decide (ntc.length = 18) && ntc.all codeWf
  | .thermalStopRampEnd => true
  | .pwrSet c => c.wf
  | .domainPowerGood => true
  | .domainTimeout => true
  | .thmClearMinmax c => c.wf
  | .fltInject c => c.wf
  | .fltReadLog c => c.wf
  | .statusFrameDiscarded _ => true
  | .dlinkReplyMissing _ => true
  | .audioPllLock => true
  | .msixVectorUnmask _ => true
  | .vaux3v3Retry _ => true
  | .fetchBufferWatermark _ fillKb _ => decide (fillKb ≤ 64)
  | .realignmentFrameStart => true
  | .symbolArrival => true
  | .boundaryScanInstruction _ _ _ _ => true

end Sys2Proof
end

