-- ==== Sys2Proof/Tests/Slice0.lean ====
section
/-! SUPPORT. Tests: a term that each well-formedness check refuses, one-step runs on small states, and for every statement with hypotheses a state and operands that meet them all, clause by clause. -/

namespace Sys2Proof.Machine.Tests

open Sys2Proof.Machine

set_option maxRecDepth 100000
set_option linter.unusedVariables false

/-! ### Small states -/

/-- A module in stage 9, its host interface at version 2.3, FTG0 running. -/
def up : State :=
  { boot := { stage := 9 }, hmi := { enabled := true, version := some ⟨2, 3⟩, linkUp := true }, tsc := 1000, ftgOn := true }
/-- The same with FTG0 stopped. -/
def still : State := { up with ftgOn := false }
/-- The start-up in a stage. -/
def early (n : Nat) : State := { boot := { stage := n }, tsc := 1000 }
/-- A module tripped by heat. -/
def tripped : State := { up with boot := { stage := 9, power := .tripped } }
/-- With an image in force. -/
def img (c : ImageCfg) : State := { up with img := { cfg := some c } }
/-- The host interface replaced. -/
def hmiIs (h : Hmi) : State := { up with hmi := h }
/-- The image unit replaced. -/
def imgIs (i : Img) : State := { up with img := i }
/-- An image that enables ports 0 and 1. -/
def twoPorts : ImageCfg := { topo := { portEnable := 3 }, links := [{}, {}] }
/-- Port 0 replaced, under an image that enables it. -/
def portIs (p : Port) : State := { img twoPorts with plk := vset up.plk 0 p }
/-- The Reckoner issues beads, and port 0 takes them. -/
def beads : State := { portIs { mode := .active, delivering := true } with rck := { running := true } }
/-- A bead stands in the base segment of the running variant of an image, and its time is the time of the segment now. -/
def dueIn (c : ImageCfg) (b : Bead) : State :=
  { img { c with sched := [{ base := [b] }] } with
    plk := vset up.plk 0 { mode := .active, delivering := true },
    rck := { running := true, store := vset up.rck.store 0 (some 0), segStart := 1000 - b.time } }
/-- The same under an image of two ports. -/
def due (b : Bead) : State := dueIn twoPorts b
/-- A bead at its issue, its lead before its time. -/
def lead (b : Bead) : State :=
  { due b with rck := { (due b).rck with segStart := 1000 + leadOf b.action - b.time } }
/-- With primaries and ports contained. -/
def held (s : State) : State := { s with rck := { s.rck with containPorts := 63, containPrims := 7 } }
/-- Bank 0 replaced. -/
def bankIs (b : Bank) : State := { up with lsd := { bank := vset up.lsd.bank 0 b } }
/-- Slot 0 of the Loop Engine replaced, the slots running. -/
def slotIs (x : Slot) : State := { up with lpe := { running := true, active := true, slot := vset up.lpe.slot 0 x } }
/-- The scanner replaced. -/
def hlsIs (h : Hls) : State := { up with hls := h }
/-- The frame generator replaced. -/
def ftgIs (f : Ftg) : State := { up with ftg := f }
/-- The DRAM controller replaced. -/
def memIs (m : Mem) : State := { up with mem := m }
/-- Audio port p replaced, the PLL locked. -/
def audIs (p : Nat) (a : AudPort) : State := { up with aud := { port := vset up.aud.port p a, pllLock := true } }
/-- An image whose audio ports are all enabled. -/
def audImg : ImageCfg := { audio := List.replicate 5 { enable := 1, ringBytes := 4096, wordBits := 24 } }
/-- Its audio port p replaced. -/
def audOn (p : Nat) (a : AudPort) : State :=
  { img audImg with
    aud := { port := vset up.aud.port p a, pllLock := true }, regs := [(0xE0000C + 0x100 * p, 0x100000)] }
/-- Sensor i replaced. -/
def sensorIs (i : Nat) (x : Sensor) : State := { up with thm := { sensor := vset up.thm.sensor i x } }
/-- Calibration replaced. -/
def calIs (c : Cal) : State := { up with cal := c }
/-- A move of power domains in progress. -/
def moving (l : List Nat) : State := { up with pwr := { run := some { cmdId := 0, target := .off, todo := l, moved := 0 } } }
/-- A command message to an instance with its payload. -/
def cmd (u : BitVec 16) (l : List Byte) : Cmd := { unit := u, length := l.length, payload := l }
/-- A command message whose payload is all zeros. -/
def zeros (u : BitVec 16) (n : Nat) : Cmd := cmd u (List.replicate n 0)

/-- The state after a command. -/
def after (i : Instr) (s : State) : State :=
  match exec i s with
  | .next t => t
  | _ => s

/-- The state after a step. -/
def stepped (s : State) : State :=
  match step s with
  | .next t => t
  | _ => s

/-! ### Steady states by evaluation -/

/-- `Steady`, evaluated. -/
def steadyB (s : State) : Bool := s.reports.isEmpty && s.img.act.isNone && s.hmi.inFlight.all (fun f => !f.waiting)

theorem steady_of {s : State} (h : steadyB s = true) : Steady s := by
  simp only [steadyB, Bool.and_eq_true, List.isEmpty_iff, Option.isNone_iff_eq_none] at h
  exact ⟨h.1.1, h.1.2, h.2⟩

theorem live_of {s : State} (h : (steadyB s && decide (s.boot.power = .running)) = true) : Live s := by
  simp only [Bool.and_eq_true, decide_eq_true_eq] at h
  exact ⟨steady_of h.1, h.2⟩

theorem awake_of {s : State} (h : (steadyB s && decide (s.boot.power ≠ .heldInReset)) = true) : Awake s := by
  simp only [Bool.and_eq_true, decide_eq_true_eq] at h
  exact ⟨steady_of h.1, h.2⟩

theorem switching_of {s : State} (h : (s.reports.isEmpty && s.hmi.inFlight.all (fun f => !f.waiting) &&
    decide (s.boot.power = .running) && s.flt.log.all (fun r => decide (r.cls ≠ 2))) = true) : Switching s := by
  simp only [Bool.and_eq_true, List.isEmpty_iff, decide_eq_true_eq, List.all_eq_true] at h
  exact ⟨h.1.1.1, List.all_eq_true.mpr h.1.1.2, h.1.2, h.2⟩

theorem serving_of {s : State} {op : Nat} {c : Cmd} (h : (s.reports.isEmpty && s.img.act.isNone && canFetch s &&
    s.hmi.inFlight.isEmpty && decide (headerCheck s op c = none) && (opDomains op c.unit.toNat).all (domainOn s)) = true) :
    Serving s op c := by
  simp only [Bool.and_eq_true, List.isEmpty_iff, Option.isNone_iff_eq_none, decide_eq_true_eq] at h
  exact ⟨h.1.1.1.1.1, h.1.1.1.1.2, h.1.1.1.2, h.1.1.2, h.1.2, h.2⟩

/-- `NothingDue`, evaluated. -/
theorem nothing_of {s : State} (h : (steadyB s && s.pbu.failing.isEmpty && s.lsd.bank.toList.all (fun x => x.ended.isNone) &&
    s.lsd.pulses.isEmpty && s.ftg.edges.isEmpty && s.cmp.latchWait.isNone && s.lsd.ramp.isNone && s.thm.stopAt.isNone &&
    s.img.trialEnd.isNone && s.boot.warmAt.isNone && s.hls.lineNow.isNone && decide (s.hls.mode ≠ .running) &&
    decide (s.hls.mode ≠ .starting)) = true) : NothingDue s := by
  simp only [Bool.and_eq_true, List.isEmpty_iff, Option.isNone_iff_eq_none, decide_eq_true_eq, List.all_eq_true] at h
  refine ⟨steady_of h.1.1.1.1.1.1.1.1.1.1.1.1, h.1.1.1.1.1.1.1.1.1.1.1.2, fun b hb => ?_, h.1.1.1.1.1.1.1.1.1.2,
    h.1.1.1.1.1.1.1.1.2, h.1.1.1.1.1.1.1.2, h.1.1.1.1.1.1.2, h.1.1.1.1.1.2, h.1.1.1.1.2, h.1.1.1.2, h.1.1.2,
    h.1.2, h.2⟩
  have hm : bankAt s b ∈ s.lsd.bank.toList := by
    have : bankAt s b = s.lsd.bank.toList.getD b {} := by simp [bankAt, vget]
    rw [this, List.getD_eq_getElem _ _ (by simpa using hb)]
    exact List.getElem_mem _
  exact h.1.1.1.1.1.1.1.1.1.1.2 _ hm

/-- The parent of every domain that is to be ON is to be ON, evaluated. -/
theorem parents_on (next : Nat → DomMode) (h : (List.range 36).all (fun d =>
    (domainParent d).all (fun q => decide (next d = .on → next q = .on))) = true) :
    ∀ d q, d < 36 → next d = .on → domainParent d = some q → next q = .on := by
  intro d q hd h1 h2
  have := List.all_eq_true.mp h d (List.mem_range.mpr hd)
  simp only [h2, Option.all_some, decide_eq_true_eq] at this
  exact this h1

/-! ### Well-formedness: a term that each check refuses -/

theorem test_wf_accepts : Instr.wf (.echo (zeros 0 40)) = true := by decide
theorem test_wf_payload : Instr.wf (.echo { payload := List.replicate 49 0 }) = false := by decide
theorem test_wf_phase_bit : Instr.wf (.hello { flags := 1 }) = false := by decide
theorem test_wf_shorts : (shortsWf [(12, 0)] || shortsWf [(0, 16)]) = false := by decide
theorem test_wf_pin_test : Instr.wf (.lsdPinTest {} [(12, 0)]) = false := by decide
theorem test_wf_pair_bank : Instr.wf (.levelPairCorrection [⟨12, [0, 0, 0, 0], [0, 0, 0, 0]⟩]) = false := by decide
theorem test_wf_pair_length : Instr.wf (.levelPairCorrection [⟨0, [0, 0, 0], [0, 0, 0, 0]⟩]) = false := by decide
theorem test_wf_pair_code : Instr.wf (.levelPairCorrection [⟨0, [0, 0, 0, 65536], [0, 0, 0, 0]⟩]) = false := by decide
theorem test_wf_link_phases : Instr.wf (.linkStartDone 0 ⟨false, [0, 0, 0], 1, 1, 0, true⟩) = false := by decide
theorem test_wf_link_phase : Instr.wf (.linkStartDone 0 ⟨false, [256, 0, 0, 0], 1, 1, 0, true⟩) = false := by decide
theorem test_wf_link_version : Instr.wf (.linkStartDone 0 ⟨false, [0, 0, 0, 0], 1, 256, 0, true⟩) = false := by decide
theorem test_wf_link_delay : Instr.wf (.linkStartDone 0 ⟨false, [0, 0, 0, 0], 1, 1, 65536, true⟩) = false := by decide
theorem test_wf_step_lanes : Instr.wf (.trainingStepDone 0 ⟨[0], [0, 0, 0, 0], none, none⟩) = false := by decide
theorem test_wf_meas : Instr.wf (.calRunDone 0 [⟨73, 0, 0, 0⟩]) = false := by decide
theorem test_wf_stage_channels : Instr.wf (.bootStageDone { failedChannels := 65536 }) = false := by decide
theorem test_wf_stage_builders : Instr.wf (.bootStageDone { failedBuilders := 2 ^ 24 }) = false := by decide
theorem test_wf_stage_step : Instr.wf (.bootStageDone { steps := [(16, ⟨[], [], none, none⟩)] }) = false := by decide
theorem test_wf_stage_shorts : Instr.wf (.bootStageDone { shorts := [(0, 16)] }) = false := by decide
theorem test_wf_stage_meas : Instr.wf (.bootStageDone { meas := [⟨73, 0, 0, 0⟩] }) = false := by decide
theorem test_wf_bar4_smbus : Instr.wf (.registerWrite .smbus .bar4 0 0 true) = false := by decide
theorem test_wf_bar4_size : Instr.wf (.shadowCaptureRead .pcie .bar4 0x40000) = false := by decide
theorem test_wf_bar2_empty : (Instr.wf (.bar2Write 0 0 [] {}) || Instr.wf (.bar2Read 0 0 [] [] [])) = false := by decide
theorem test_wf_bar2_long : Instr.wf (.bar2Read 0 0 (List.replicate 4097 true) [] []) = false := by decide
theorem test_wf_access_size : Instr.wf (.accessSize 0 .bar0 true 0 15 0 1 0) = false := by decide
theorem test_wf_access_long : Instr.wf (.accessSize 0 .bar0 true 0 15 15 1025 0) = false := by decide
theorem test_wf_entry : Instr.wf (.commandFetch (some (List.replicate 63 0)) false []) = false := by decide
theorem test_wf_line : Instr.wf (.composerDry none 65536) = false := by decide
theorem test_wf_blank_cached : Instr.wf (.loadBlock 0 0 .effect 0 0 0 true true [] false none {}) = false := by decide
theorem test_wf_rows : Instr.wf (.loadBlock 0 0 .effect 0 0 0 false false [256] false none {}) = false := by decide
theorem test_wf_masks_meet : Instr.wf (.resetBlock 0 0 .effect 0 1 1 false) = false := by decide
theorem test_wf_masks_empty : Instr.wf (.resetBlock 0 0 .effect 0 0 0 false) = false := by decide
theorem test_wf_pulse_width : (Instr.wf (.diagPulse 0 0 .effect 0 0 374) || Instr.wf (.diagPulse 0 0 .effect 0 0 4001)) = false := by decide
theorem test_wf_pair_gap : Instr.wf (.calPair 0 0 .effect 375 4001) = false := by decide
theorem test_wf_training_slot : Instr.wf (.dramSlot 0 0 .effect true 1 1 1) = false := by decide
theorem test_wf_report_lanes : Instr.wf (.trainReport 0 [] 0) = false := by decide
theorem test_wf_report_lane : Instr.wf (.trainReport 0 (List.replicate 16 (16, true, false)) 0) = false := by decide
theorem test_wf_samples : (Instr.wf (.loopTick [] []) || Instr.wf (.loopTick (List.replicate 16 65536) [])) = false := by decide
theorem test_wf_ntc : (Instr.wf (.sensorSample none []) || Instr.wf (.sensorSample none (List.replicate 18 65536))) = false := by decide
theorem test_wf_fill : Instr.wf (.fetchBufferWatermark 0 65 {}) = false := by decide

/-! ### The table gives no bits -/

theorem test_no_bits : decodeTableWord 8 0 = none := by decide

/-! ### One step on a small state

Each expected value is of the rule named, or of the spec's own worked example. -/

/-- R27, R20: the TSC counts a cycle and wraps at 64 bits. -/
theorem test_idle_wraps : (stepped { up with tsc := 2 ^ 64 - 1 }).tsc = 0 := by decide
/-- R542: a brownout holds the module in reset. -/
theorem test_brownout : (after .brownout up).boot.power = .heldInReset := by decide
/-- R518: straps are sampled at power-on reset. -/
theorem test_straps : (after (.powerOnReset 2 true 3) up).pins.smbAddr = 3 := by decide
/-- R339: an open interlock puts the lasers out. -/
theorem test_interlock : (after (.interlockOpen false true) { up with pins := { laserEn := 4095 } }).pins.laserEn = 0 := by decide
/-- R523: a bad safe path in stage 0 raises fault 0x02, and the start continues. -/
theorem test_safe_path : (srcAt (after (.bootStageDone { safePathOk := false }) (early 0)) 2).pending = true ∧
    (after (.bootStageDone { safePathOk := false }) (early 0)).boot.stage = 1 := by decide
/-- R108: a register write stores its value. -/
theorem test_register_write : reg (after (.registerWrite .pcie .bar0 0x300006 5 true) up) 0xC00018 = 5 := by decide
/-- R17: a reserved bit set refuses the whole write. -/
theorem test_reserved_bit : reg (after (.registerWrite .pcie .bar0 0x300006 0x10005 true) up) 0xC00018 = 0x40 := by decide
/-- R28: the read of GLB_TSC_LO captures bits 63:32 for its own requester. -/
theorem test_tsc_shadow :
    (after (.shadowCaptureRead .smbus .bar0 0x10) { up with tsc := 5 * 2 ^ 32 + 7 }).shSmb.tscHi = 5 ∧
    (after (.shadowCaptureRead .smbus .bar0 0x10) { up with tsc := 5 * 2 ^ 32 + 7 }).shPcie.tscHi = 0 := by decide
/-- R112: the SMBus pointer advances by 4, and returns to 0 past the end of BAR0. -/
theorem test_smb_wraps : (after .smbReadRegister { up with smbPtr := 0x3FFFFFC }).smbPtr = 0 := by decide
/-- R133, R134: HELLO answers with the highest common version. -/
theorem test_hello : (after (.hello (cmd 0 [1, 0, 9, 9])) (hmiIs { up.hmi with version := none })).hmi.version = some ⟨2, 3⟩ := by decide
/-- R138: ECHO returns its payload. -/
theorem test_echo : (after (.echo (cmd 0 [7, 8])) up).outs.any (fun o =>
    match o with
    | .completion _ l => l.length == 64 && (l.drop 24).take 2 == [7, 8]
    | _ => false) = true := by decide
/-- R118: the phase inverts when the tail passes the end of the ring. -/
theorem test_phase : (after (.echo (zeros 0 0)) (hmiIs { up.hmi with cplTail := 15, cplHead := 3 })).hmi.cplPhase = false := by decide
/-- R148: BAR2 reaches DRAM. -/
theorem test_bar2_write : rd (after (.bar2Write 0 5 [some 9] {}) up) (bar2Base up + 5) = 9 := by decide
/-- R76, R72: IMG_ACTIVATE with nothing staged is refused. -/
theorem test_activate_unstaged : (after (.imgActivate (zeros 0 4)) up).img.act = none := by decide
/-- R154, its worked values: 5-bit 0b10110 and 2-bit 0b01 in 16 bits. -/
theorem test_expand : expand 0b10110 5 = 46509 ∧ expand 0b01 2 = 21845 := by decide
/-- R177: a state of a layer waits in the shadow until a commit. -/
theorem test_surface : (vget (after (.cmpLayerSurface (cmd 3 (List.replicate 16 0 ++ [64, 0, 0, 0, 1, 0, 1, 0] ++ List.replicate 8 0)))
    (img { topo := { videoMask := 15 } })).cmp.layers 3 {}).shadow.surf.pitch = 64 := by decide
/-- R39: the line counter advances. -/
theorem test_line : (after (.lineStart 0) (ftgIs { lineAt := 1000 })).ftg.line = 1 := by decide
/-- R395: a symbol in MASTER mode, 16 cycles for CONT and 48 for NEW. -/
theorem test_master_symbol : (after .decisionPoint
    { ftgIs { mode := 1 } with rck := { segStart := 1064, running := true }, regs := [(0xD00204, 0)] }).outs = [.fsync 16] := by decide
/-- R36: a frame start increments FRAME_COUNT. -/
theorem test_frame_count : (segmentBoundary { ftgIs { decided := some ⟨true, false, 0, 0⟩ } with rck := { running := true, segStart := 1000 } }).frame = 1 := by decide
/-- R269: a late bead is counted and reported as fault 0x52. -/
theorem test_late_bead : (srcAt (after (.level 0 9 .late 1 none) (lead (levelRow 0 9 1 none))) 0x52).pending = true := by decide
/-- R328: a LEVEL bead sets its primary's level. -/
theorem test_level : (after (.level 0 9 .effect 1 (some 3)) (due (levelRow 0 9 1 (some 3)))).lsd.level = [none, some 3, none] := by decide
/-- R307: SYNC found leads to HELLO, SYNC not found to FAILED. -/
theorem test_sync : (port (after (.statusSync 0) (portIs { mode := .sync })) 0).mode = .hello := by decide
theorem test_sync_timeout : (port (after (.syncTimeout 0) { portIs { mode := .sync } with tsc := 1250000 }) 0).mode = .failed := by decide
/-- R338: LSD_REARM arms a bank in SAFE. -/
theorem test_rearm : (bankAt (after (.lsdRearm (cmd 0 [1, 0])) { bankIs { mode := .safe } with pins := { intlkAHigh := true } }) 0).mode ≠ .safe := by decide
/-- R340: LSD_SAFE puts an armed bank into SAFE. -/
theorem test_safe : (bankAt (after (.lsdSafe (zeros 0 1)) (bankIs { mode := .armed })) 0).mode = .safe := by decide
/-- The worked loop step of chapter 11: the accumulator's output before clamping. -/
theorem test_worked_loop_step :
    (compensate { ({} : Slot) with
      coefA := [13421773, -10737418, 0, 0, -268435456, 0, 0]
      eh := [2621440, 0, 0]
      uh := [7864320, 0, 0]
      r := 1966080000 } (29950 * 65536)).1 = 7923302 := by decide
/-- R358: the oldest swap takes effect at the next tick boundary. -/
theorem test_swap : (slotAt (after (.loopTick (List.replicate 16 0) []) (slotIs { kind := 1, swaps := [⟨7, true, none⟩] })) 0).bankB = true := by decide
/-- R369: HLS_PARK leads from RUNNING to PARKING. -/
theorem test_park : (after (.hlsPark (zeros 0 0)) (hlsIs { mode := .running })).hls.mode = .parking := by decide
/-- R424 and the worked refresh example of chapter 14: under 4× a due increment falls at TSC 14,081,490. -/
theorem test_refresh_due : (chan (after (.refreshDue 5) { memIs { ch := vset up.mem.ch 5 { rate := 3 } } with tsc := 14081490 }) 5).debt = 1 := by decide
/-- R428: at 8 a refresh is forced, and the debt stays 7. -/
theorem test_refresh_forced : (chan (after (.refreshDue 0) { memIs { ch := vset up.mem.ch 0 { debt := 7 } } with tsc := 1200 }) 0).debt = 7 := by decide
/-- R447: an output frame leaves the FIFO. -/
theorem test_audio_out : (audPort (after (.sampleFrameOut 0 {}) (audOn 0 { running := true, fifo := [(1, 2)] })) 0).last = (1, 2) := by decide
/-- R439: the PLL's lock is lost. -/
theorem test_pll : (after .audioPllUnlock (audOn 0 {})).aud.pllLock = false := by decide
/-- R458: a reference outside its limits fails the run with fault 0xC3. -/
theorem test_bad_reference : (srcAt (after (.calRunDone 2449999 []) (calIs { run := some ⟨none, [72]⟩ })) 0xC3).pending = true := by decide
/-- R475: four consecutive readings at the stop threshold start the light-path thermal stop. -/
theorem test_thermal_stop : (after (.sensorSample (some 600) (List.replicate 18 0)) { sensorIs 0 { up := [0, 0, 0, 3] } with tsc := 250000 }).thm.stop = true := by decide
/-- R485: a domain that answers is in its new state. -/
theorem test_domain : vget (after .domainPowerGood (moving [35])).pwr.dom 35 .on = .off := by decide
/-- R512: an injection is recorded like a fault. -/
theorem test_inject : (srcAt (after (.fltInject (cmd 0 ([0x61, 1] ++ List.replicate 14 0))) { up with regs := [(0x40004, 1)] }) 0x61).pending = true := by decide
/-- R500, the worked case of chapter 18: of reports in one cycle the lower ID of equal severity is recorded first (the log lists the newest first). -/
theorem test_order : (after (.statusSync 0) { up with reports := [{ source := 0x5A }, { source := 0 }] }).flt.log.map (fun r => r.source) = [0x5A, 0] := by decide
/-- R554: IDCODE is shifted out. -/
theorem test_idcode : (after (.boundaryScanInstruction .idcode 0 false false) up).outs.length = 1 := by decide

/-- R113: the PEC is CRC-8 with polynomial 0x07; its check value over the bytes of "123456789" is 0xF4. -/
theorem test_pec : pecOf [0x31, 0x32, 0x33, 0x34, 0x35, 0x36, 0x37, 0x38, 0x39] = 0xF4 := by decide
/-- A pass that runs. -/
def midPass : Pass where
  no := 1
  mode := .running
  layers := []
  takenSeq := 0
  frame := 0
  line := 0
  changed := []
  cover := 0
  carryIn := false
  gains := []
  pqPeak := 0
  start := 0
/-- R242, R251: a tile whose output residue is not its input residue waits for the end of the cycle. -/
theorem test_tile_fails : (tileBuilt { (img { builds := [{ tiles := [{ slot := 21 }] }] }) with
    cmp := { pass := some midPass }
    pbu := { slots := vset up.pbu.slots 21 { phys := some 23, running := true }, passNo := 1 }
    tsc := 19408 } 21 [1]).pbu.failing.length = 1 := by
  decide
/-! ### Witnesses: the hypotheses of every statement can be met -/

/-- The hypotheses of `IdleStepCountsTheTimebase` can be met. -/
theorem witness_IdleStepCountsTheTimebase :
    (∃ (s : State), s.pending = [] ∧ (s.boot.power = .heldInReset ∨ s.boot.sysclkMissing = true)) ∧
    (∃ (s : State), s.pending = [] ∧ s.boot.power ≠ .heldInReset ∧ s.boot.sysclkMissing = false ∧ NothingDue s) :=
  ⟨⟨{ up with boot := { stage := 9, sysclkMissing := true } }, by decide, by decide⟩,
   ⟨up, by decide, by decide, by decide, nothing_of (by decide)⟩⟩

/-- The hypotheses of `EveryStepLeavesNoReport` can be met. -/
theorem witness_EveryStepLeavesNoReport :
    ∃ (s : State) (t : State), s.reports = [] ∧ step s = .next t :=
  ⟨{ up with pending := [.decisionPoint] }, stepped { up with pending := [.decisionPoint] }, by decide, rfl⟩

/-- The hypotheses of `EveryStepKeepsTheMemoryForm` can be met. -/
theorem witness_EveryStepKeepsTheMemoryForm :
    ∃ (s : State) (t : State), mapWf dramDefault s.dram = true ∧ step s = .next t :=
  ⟨{ up with dram := [(5, 1)], pending := [.bar2Write 0 5 [some 0] {}] }, stepped
    { up with dram := [(5, 1)], pending := [.bar2Write 0 5 [some 0] {}] }, by decide, rfl⟩

/-- The hypotheses of `HeldInResetUntilPowerOn` can be met. -/
theorem witness_HeldInResetUntilPowerOn :
    ∃ (s : State) (i : Instr), s.boot.power = .heldInReset ∧ (∀ b a m, i ≠ .powerOnReset b a m) :=
  ⟨{ up with boot := { power := .heldInReset } }, .brownout, by decide, (by intro b a m h; cases h)⟩

/-- The hypotheses of `BrownoutTripAndRestart` can be met. -/
theorem witness_BrownoutTripAndRestart :
    (∃ (s : State), Awake s) ∧
    (∃ (s : State), Live s) ∧
    (∃ (s : State), Awake s ∧ s.boot.power = .tripped ∧ s.thm.cool < 4) ∧
    (∃ (s : State) (tsc : Nat) (frame : Nat), s.boot.power = .tripped ∧ 4 ≤ s.thm.cool ∧ s.thm.tripAt = some (tsc, frame)) :=
  ⟨⟨tripped, awake_of (by decide)⟩,
   ⟨up, live_of (by decide)⟩,
   ⟨{ tripped with thm := { cool := 3 } }, awake_of (by decide), by decide, by decide⟩,
   ⟨{ tripped with thm := { cool := 4, tripAt := some (7, 3) } }, 7, 3, by decide, by decide, by decide⟩⟩

/-- The hypotheses of `TrippedModuleIgnoresUnits` can be met. -/
theorem witness_TrippedModuleIgnoresUnits :
    ∃ (s : State) (i : Instr), s.boot.power = .tripped ∧ unitEvent i = true :=
  ⟨tripped, .lineStart 0, by decide, by decide⟩

/-- The hypotheses of `WarmResetsBegin` can be met. -/
theorem witness_WarmResetsBegin :
    (∃ (s : State) (q : Requester), Awake s ∧ reaches s q = true ∧ writeRefusal s q 0x58 0xA5000001 = none) ∧
    (∃ (s : State) (q : Requester), Awake s ∧ reaches s q = true ∧ writeRefusal s q 0x58 0xA5000003 = none) ∧
    (∃ (s : State), Live s) ∧
    (∃ (s : State) (at_ : Nat), Live s ∧ s.boot.watchdogAt = some at_ ∧ s.tsc < at_ + msCycles) ∧
    (∃ (s : State) (at_ : Nat), Live s ∧ s.boot.watchdogAt = some at_ ∧ at_ + msCycles ≤ s.tsc) :=
  ⟨⟨up, .pcie, awake_of (by decide), by decide, by decide⟩,
   ⟨up, .smbus, awake_of (by decide), by decide, by decide⟩,
   ⟨up, live_of (by decide)⟩,
   ⟨{ up with boot := { stage := 9, watchdogAt := some 751 }, tsc := 250750 }, 751, live_of (by decide), by decide, by
    decide⟩,
   ⟨{ up with boot := { stage := 9, watchdogAt := some 750 }, tsc := 250750 }, 750, live_of (by decide), by decide, by
    decide⟩⟩

/-- The hypotheses of `AlarmsDarkenAndSuppliesReturn`, clauses 1 to 6 can be met. -/
theorem witness_AlarmsDarkenAndSuppliesReturn_1 :
    (∃ (s : State) (a : Bool) (b : Bool), Awake s ∧ (a = false ∨ b = true) ∧ s.lsd.intlkOpen = false) ∧
    (∃ (s : State) (a : Bool) (b : Bool), Awake s ∧ (a = false ∨ b = true) ∧ s.lsd.intlkOpen = true) ∧
    (∃ (s : State), Awake s) ∧
    (∃ (s : State), Awake s ∧ s.pins.intlkAHigh = s.pins.intlkBHigh ∧ s.pins.intlkAt + 20 * msCycles < s.tsc) ∧
    (∃ (s : State), Awake s ∧ (s.pins.intlkAHigh ≠ s.pins.intlkBHigh ∨ s.tsc ≤ s.pins.intlkAt + 20 * msCycles)) ∧
    (∃ (s : State), Awake s) :=
  ⟨⟨up, false, false, awake_of (by decide), by decide, by decide⟩,
   ⟨{ up with lsd := { intlkOpen := true } }, false, true, awake_of (by decide), by decide, by decide⟩,
   ⟨up, awake_of (by decide)⟩,
   ⟨{ up with pins := { intlkAHigh := true, intlkBHigh := true, intlkAt := 0 }, tsc := 5000001 }, awake_of (by decide), by
    decide, by decide⟩,
   ⟨{ up with pins := { intlkAHigh := true, intlkBHigh := true, intlkAt := 0 }, tsc := 5000000 }, awake_of (by decide), by
    decide⟩,
   ⟨up, awake_of (by decide)⟩⟩

/-- The hypotheses of `AlarmsDarkenAndSuppliesReturn`, clauses 7 to 12 can be met. -/
theorem witness_AlarmsDarkenAndSuppliesReturn_2 :
    (∃ (s : State), Awake s) ∧
    (∃ (s : State) (o : BitVec 32), Awake s) ∧
    (∃ (s : State) (up : Bool), Live s ∧ s.img.appends = []) ∧
    (∃ (s : State) (i : JtagInstr) (l : BitVec 12) (h : Bool) (u : Bool), Awake s ∧ takesBalls i = true ∧ testAllowed s =
      true) ∧
    (∃ (s : State) (i : JtagInstr) (l : BitVec 12) (h : Bool) (u : Bool), Awake s ∧ takesBalls i = true ∧ testAllowed s =
      false) ∧
    (∃ (s : State) (l : BitVec 12) (h : Bool) (u : Bool), Awake s) :=
  ⟨⟨tripped, awake_of (by decide)⟩,
   ⟨up, 0, awake_of (by decide)⟩,
   ⟨up, false, live_of (by decide), by decide⟩,
   ⟨still, .extest, 1, true, true, awake_of (by decide), by decide, by decide⟩,
   ⟨up, .clamp, 1, true, true, awake_of (by decide), by decide, by decide⟩,
   ⟨up, 1, true, true, awake_of (by decide)⟩⟩

/-- The hypotheses of `StartStagesFollow`, clauses 1 to 6 can be met. -/
theorem witness_StartStagesFollow_1 :
    (∃ (s : State) (r : StageResult), Live s ∧ s.boot.warmAt = none ∧ s.boot.stage = 0 ∧ r.safePathOk = true) ∧
    (∃ (s : State) (r : StageResult), Live s ∧ s.boot.warmAt = none ∧ s.boot.stage = 0 ∧ r.safePathOk = false) ∧
    (∃ (s : State) (r : StageResult), Live s ∧ s.boot.warmAt = none ∧ s.boot.stage = 1) ∧
    (∃ (s : State) (r : StageResult), Live s ∧ s.boot.warmAt = none ∧ s.boot.stage = 2) ∧
    (∃ (s : State) (r : StageResult), Live s ∧ s.boot.warmAt = none ∧ s.boot.stage = 3 ∧ warmStart s = false) ∧
    (∃ (s : State) (r : StageResult), Live s ∧ s.boot.warmAt = none ∧ s.boot.stage = 3 ∧ warmStart s = true) :=
  ⟨⟨early 0, {}, live_of (by decide), by decide, by decide, by decide⟩,
   ⟨early 0, { safePathOk := false }, live_of (by decide), by decide, by decide, by decide⟩,
   ⟨early 1, {}, live_of (by decide), by decide, by decide⟩,
   ⟨early 2, {}, live_of (by decide), by decide, by decide⟩,
   ⟨early 3, { failedChannels := 0x8000 }, live_of (by decide), by decide, by decide, by decide⟩,
   ⟨{ boot := { stage := 3, kind := .warm }, tsc := 1000 }, {}, live_of (by decide), by decide, by decide, by decide⟩⟩

/-- The hypotheses of `StartStagesFollow`, clauses 7 to 12 can be met. -/
theorem witness_StartStagesFollow_2 :
    (∃ (s : State) (r : StageResult), Live s ∧ s.boot.warmAt = none ∧ s.boot.stage = 4) ∧
    (∃ (s : State) (r : StageResult), Live s ∧ s.boot.warmAt = none ∧ s.boot.stage = 5) ∧
    (∃ (s : State) (r : StageResult), Live s ∧ s.boot.warmAt = none ∧ s.boot.stage = 6) ∧
    (∃ (s : State) (r : StageResult), Live s ∧ s.boot.warmAt = none ∧ s.boot.stage = 7) ∧
    (∃ (s : State) (r : StageResult), Live s ∧ s.boot.warmAt = none ∧ s.boot.stage = 8) ∧
    (∃ (s : State) (r : StageResult), Live s ∧ (s.boot.warmAt.isSome = true ∨ 9 ≤ s.boot.stage)) :=
  ⟨⟨early 4, {}, live_of (by decide), by decide, by decide⟩,
   ⟨early 5, {}, live_of (by decide), by decide, by decide⟩,
   ⟨early 6, {}, live_of (by decide), by decide, by decide⟩,
   ⟨early 7, {}, live_of (by decide), by decide, by decide⟩,
   ⟨early 8, {}, live_of (by decide), by decide, by decide⟩,
   ⟨up, {}, live_of (by decide), by decide⟩⟩

/-- The hypotheses of `HostBootAndTheFirstFrame` can be met. -/
theorem witness_HostBootAndTheFirstFrame :
    (∃ (s : State) (q : Requester) (v : BitVec 32) (ok : Bool), Awake s ∧ reaches s q = true ∧ writeRefusal s q 0x5C v.toNat
      = none ∧ bitAt v.toNat 31 = true) ∧
    (∃ (s : State) (q : Requester) (v : BitVec 32) (ok : Bool), Awake s ∧ reaches s q = true ∧ hostBootOpen s = false) ∧
    (∃ (s : State), Live s ∧ ftgMayRun s = true) ∧
    (∃ (s : State), Live s ∧ ftgMayRun s = false) :=
  ⟨⟨{ early 15 with hmi := { linkUp := true } }, .pcie, 0x80000000, true, awake_of (by decide), by decide, by decide, by
    decide⟩,
   ⟨up, .smbus, 0, true, awake_of (by decide), by decide, by decide⟩,
   ⟨{ img {} with ftgOn := false }, live_of (by decide), by decide⟩,
   ⟨up, live_of (by decide), by decide⟩⟩

/-- The hypotheses of `RegisterWriteInFullOrNotAtAll` can be met. -/
theorem witness_RegisterWriteInFullOrNotAtAll :
    (∃ (s : State) (q : Requester) (dw : Fin 0x1000000) (v : BitVec 32) (ok : Bool) (r : RegRow), Awake s ∧ reaches s q =
      true ∧ writeRefusal s q (4 * dw.val) v.toNat = none ∧ plainBlock (blockOf (4 * dw.val)) = true ∧ regRow (4 * dw.val) =
      some r) ∧
    (∃ (s : State) (q : Requester) (dw : Fin 0x1000000) (v : BitVec 32) (ok : Bool) (e : Status), Awake s ∧ reaches s q =
      true ∧ writeRefusal s q (4 * dw.val) v.toNat = some e ∧ s.glb.errValid = false) ∧
    (∃ (s : State) (q : Requester) (dw : Fin 0x1000000) (v : BitVec 32) (ok : Bool) (e : Status), Awake s ∧ reaches s q =
      true ∧ writeRefusal s q (4 * dw.val) v.toNat = some e ∧ s.glb.errValid = true) ∧
    (∃ (s : State) (q : Requester) (dw : Fin 0x1000000), Awake s ∧ reaches s q = true ∧ regRow (4 * dw.val) = none ∧ isWindow
      (4 * dw.val) = false ∧ (4 * dw.val < 0x48000 ∨ 0x4A000 ≤ 4 * dw.val)) ∧
    (∃ (s : State) (q : Requester) (dw : Fin 0x1000000) (v : BitVec 32) (ok : Bool), Awake s ∧ reaches s q = true ∧ regRow (4
      * dw.val) = none ∧ isWindow (4 * dw.val) = false ∧ (4 * dw.val < 0x48000 ∨ 0x4A000 ≤ 4 * dw.val) ∧ pathRefusal s q (4 *
      dw.val) = none ∧ absentAt s (4 * dw.val) = false ∧ sensorGone s (4 * dw.val) = false ∧ domainOff s (4 * dw.val) = false ∧
      s.glb.errValid = false) :=
  ⟨⟨up, .pcie, 0x300006, 1, true, ⟨0xc00018, [], 0xffff, 0xffff, 0x0, 0x0, 0x0, false, 0x40⟩, awake_of (by decide), by
    decide, by decide, by decide, by decide⟩,
   ⟨up, .smbus, 0x3FFF, 1, true, .outOfRange, awake_of (by decide), by decide, by decide, by decide⟩,
   ⟨{ up with glb := { errValid := true } }, .pcie, 0xFFFFFF, 1, true, .outOfRange, awake_of (by decide), by decide, by
    decide, by decide⟩,
   ⟨up, .pcie, 0x3FFF, awake_of (by decide), by decide, by decide, by decide, by decide⟩,
   ⟨up, .smbus, 0x3FFF, 1, true, awake_of (by decide), by decide, by decide, by decide, by decide, by decide, by decide, by
    decide, by decide, by decide⟩⟩

/-- The hypotheses of `TscReadsThroughShadows` can be met. -/
theorem witness_TscReadsThroughShadows :
    (∃ (s : State) (q : Requester), Awake s ∧ reaches s q = true) ∧
    (∃ (s : State) (q : Requester), Awake s ∧ reaches s q = true) :=
  ⟨⟨up, .pcie, awake_of (by decide), by decide⟩,
   ⟨up, .smbus, awake_of (by decide), by decide⟩⟩

/-- The hypotheses of `ClearingWritesAndAccessSizes`, clauses 1 to 6 can be met. -/
theorem witness_ClearingWritesAndAccessSizes_1 :
    (∃ (s : State) (q : Requester), Awake s ∧ reaches s q = true) ∧
    (∃ (s : State) (q : Requester), Awake s ∧ reaches s q = true ∧ writeRefusal s q 0x28 0x80000000 = none) ∧
    (∃ (s : State) (q : Requester), Awake s ∧ reaches s q = true ∧ writeRefusal s q 0x40020 0x80000000 = none) ∧
    (∃ (s : State) (pec : Bool), Awake s ∧ reaches s .pcie = true) ∧
    (∃ (s : State) (pec : Bool), Awake s ∧ reaches s .smbus = true) ∧
    (∃ (s : State) (q : Requester) (n : Fin 8) (v : BitVec 32), Awake s ∧ reaches s q = true ∧ writeRefusal s q (0x40040 + 4
      * n.val) v.toNat = none) :=
  ⟨⟨up, .smbus, awake_of (by decide), by decide⟩,
   ⟨up, .pcie, awake_of (by decide), by decide, by decide⟩,
   ⟨up, .pcie, awake_of (by decide), by decide, by decide⟩,
   ⟨up, true, awake_of (by decide), by decide⟩,
   ⟨up, false, awake_of (by decide), by decide⟩,
   ⟨up, .pcie, 7, 0x80000000, awake_of (by decide), by decide, by decide⟩⟩

/-- The hypotheses of `ClearingWritesAndAccessSizes`, clauses 7 to 7 can be met. -/
theorem witness_ClearingWritesAndAccessSizes_2 :
    ∃ (s : State) (rid : BitVec 16) (w : Bool) (off : BitVec 26) (fb : BitVec 4) (lb : BitVec 4) (n : BitVec 12) (v : BitVec
      64), Awake s ∧ reaches s .pcie = true ∧ oneDw fb lb n = false :=
  ⟨up, 0, true, 4, 1, 0, 1, 0, awake_of (by decide), by decide, by decide⟩

/-- The hypotheses of `WritesThatStartSomething` can be met. -/
theorem witness_WritesThatStartSomething :
    (∃ (s : State) (q : Requester) (v : BitVec 32), Awake s ∧ reaches s q = true ∧ writeRefusal s q 0x300004 v.toNat = none) ∧
    (∃ (s : State), Live s ∧ s.clr.pqBusy = true) ∧
    (∃ (s : State) (q : Requester) (n : Fin 128) (v : BitVec 32), Awake s ∧ reaches s q = true ∧ n.val < 73 ∧ writeRefusal s
      q (0x71004 + 32 * n.val) v.toNat = none) ∧
    (∃ (s : State) (q : Requester) (v : BitVec 32), Awake s ∧ reaches s q = true ∧ writeRefusal s q 0xD00200 v.toNat = none) :=
  ⟨⟨up, .pcie, 4000, awake_of (by decide), by decide, by decide⟩,
   ⟨{ up with clr := { pqBusy := true } }, live_of (by decide), by decide⟩,
   ⟨up, .pcie, 72, 0x80000000, awake_of (by decide), by decide, by decide, by decide⟩,
   ⟨up, .smbus, 2, awake_of (by decide), by decide, by decide⟩⟩

/-- The hypotheses of `ManagementPortServesItsRegisters`, clauses 1 to 6 can be met. -/
theorem witness_ManagementPortServesItsRegisters_1 :
    (∃ (s : State) (v : BitVec 32) (pec : Pec), Awake s ∧ reaches s .smbus = true ∧ pecBad s pec = false ∧ v.toNat % 4 = 0 ∧
      v.toNat < 0x4000000) ∧
    (∃ (s : State) (v : BitVec 32) (pec : Pec), Awake s ∧ reaches s .smbus = true ∧ pecBad s pec = false ∧ v.toNat % 4 ≠ 0 ∧
      s.glb.errValid = false) ∧
    (∃ (s : State) (n : Fin 256) (v : BitVec 32) (pec : Pec) (ok : Bool), Awake s ∧ reaches s .smbus = true ∧ n ≠ 4) ∧
    (∃ (s : State) (v : BitVec 32) (pec : Pec) (ok : Bool), Awake s ∧ reaches s .smbus = true ∧ pecBad s pec = true) ∧
    (∃ (s : State), Awake s ∧ reaches s .smbus = true) ∧
    (∃ (s : State) (v : BitVec 32) (pec : Pec) (ok : Bool) (r : RegRow), Awake s ∧ reaches s .smbus = true ∧ pecBad s pec =
      false ∧ writeRefusal s .smbus s.smbPtr v.toNat = none ∧ plainBlock (blockOf s.smbPtr) = true ∧ regRow s.smbPtr = some r) :=
  ⟨⟨up, 0x3FFFFFC, .none, awake_of (by decide), by decide, by decide, by decide, by decide⟩,
   ⟨up, 0x3FFFFFD, .good, awake_of (by decide), by decide, by decide, by decide, by decide⟩,
   ⟨up, 255, 0, .none, true, awake_of (by decide), by decide, by decide⟩,
   ⟨up, 0, .bad, true, awake_of (by decide), by decide, by decide⟩,
   ⟨up, awake_of (by decide), by decide⟩,
   ⟨{ up with smbPtr := 0xC00018 }, 1, .good, true, ⟨0xc00018, [], 0xffff, 0xffff, 0x0, 0x0, 0x0, false, 0x40⟩, awake_of (by
    decide), by decide, by decide, by decide, by decide, by decide⟩⟩

/-- The hypotheses of `ManagementPortServesItsRegisters`, clauses 7 to 10 can be met. -/
theorem witness_ManagementPortServesItsRegisters_2 :
    (∃ (s : State), Awake s ∧ reaches s .smbus = true) ∧
    (∃ (s : State), Awake s ∧ reaches s .smbus = true) ∧
    (∃ (s : State), Awake s ∧ reaches s .smbus = true) ∧
    (∃ (s : State), Awake s ∧ reaches s .smbus = true) :=
  ⟨⟨up, awake_of (by decide), by decide⟩,
   ⟨up, awake_of (by decide), by decide⟩,
   ⟨up, awake_of (by decide), by decide⟩,
   ⟨up, awake_of (by decide), by decide⟩⟩

/-- The hypotheses of `RefusedMessagesChangeNothing` can be met. -/
theorem witness_RefusedMessagesChangeNothing :
    (∃ (s : State) (i : Instr) (op : Nat) (c : Cmd) (sh : List (Nat × Nat)) (st : Status), Awake s ∧ messageOf i = some (op,
      c, sh) ∧ canFetch s = true ∧ s.hmi.inFlight = [] ∧ headerCheck s op c = some st) ∧
    (∃ (s : State) (i : Instr) (op : Nat) (c : Cmd) (sh : List (Nat × Nat)), Awake s ∧ messageOf i = some (op, c, sh) ∧
      canFetch s = true ∧ s.hmi.inFlight = [] ∧ headerCheck s op c = none ∧ ((opDomains op c.unit.toNat).all (domainOn s) =
      false)) :=
  ⟨⟨up, .echo (zeros 1 0), 0x0002, zeros 1 0, [], .outOfRange, awake_of (by decide), by decide, by decide, by decide, by
    decide⟩,
   ⟨{ up with pwr := { dom := vset up.pwr.dom 31 .off } }, .lsdSafe (zeros 0 1), 0x0902, zeros 0 1, [], awake_of (by
    decide), by decide, by decide, by decide, by decide, by decide⟩⟩

/-- The hypotheses of `HelloEchoAndFenceQuery` can be met. -/
theorem witness_HelloEchoAndFenceQuery :
    (∃ (s : State) (c : Cmd) (v : Version), Serving s 0x0001 c ∧ 256 * byteAt (bodyOf c) 0 + byteAt (bodyOf c) 1 ≤ 256 *
      byteAt (bodyOf c) 2 + byteAt (bodyOf c) 3 ∧ chooseVersion (256 * byteAt (bodyOf c) 0 + byteAt (bodyOf c) 1) (256 * byteAt
      (bodyOf c) 2 + byteAt (bodyOf c) 3) = some v) ∧
    (∃ (s : State) (c : Cmd), Serving s 0x0002 c) ∧
    (∃ (s : State) (c : Cmd) (q : Nat × Nat × Nat × Nat), Serving s 0x0301 c ∧ leAt (bodyOf c) 8 8 ≠ 0 ∧ leAt (bodyOf c) 0 8
      + leAt (bodyOf c) 8 8 ≤ usable s ∧ q = fenceQuery s (leAt (bodyOf c) 0 8) (leAt (bodyOf c) 8 8)) :=
  ⟨⟨up, cmd 0 [2, 3, 2, 3], ⟨2, 3⟩, serving_of (by decide), by decide, by decide⟩,
   ⟨up, zeros 0 40, serving_of (by decide)⟩,
   ⟨up, cmd 0 [0, 0, 0, 0, 0, 0, 0, 0, 1, 0, 0, 0, 0, 0, 0, 0], fenceQuery up 0 1, serving_of (by decide), by decide, by
    decide, by decide⟩⟩

/-- The hypotheses of `FunctionResetsLinkStatesAndVectors`, clauses 1 to 6 can be met. -/
theorem witness_FunctionResetsLinkStatesAndVectors_1 :
    (∃ (s : State), Awake s) ∧
    (∃ (s : State) (i : Instr), Awake s ∧ (s.hmi.linkUp = true ∨ 2 ≤ s.boot.stage) ∧ (i = .linkDown ∨ i = .perstN)) ∧
    (∃ (s : State) (i : Instr), Awake s ∧ s.hmi.linkUp = false ∧ s.boot.stage < 2 ∧ (i = .linkDown ∨ i = .perstN)) ∧
    (∃ (s : State), Awake s) ∧
    (∃ (s : State), Awake s) ∧
    (∃ (s : State), Awake s ∧ s.hmi.cplQueue = [] ∧ s.hmi.msixPending = 0) :=
  ⟨⟨up, awake_of (by decide)⟩,
   ⟨up, .perstN, awake_of (by decide), by decide, by decide⟩,
   ⟨early 1, .linkDown, awake_of (by decide), by decide, by decide, by decide⟩,
   ⟨up, awake_of (by decide)⟩,
   ⟨up, awake_of (by decide)⟩,
   ⟨up, awake_of (by decide), by decide, by decide⟩⟩

/-- The hypotheses of `FunctionResetsLinkStatesAndVectors`, clauses 7 to 8 can be met. -/
theorem witness_FunctionResetsLinkStatesAndVectors_2 :
    (∃ (s : State) (v : Fin 64), Awake s ∧ reaches s .pcie = true ∧ canMaster s = true ∧ s.hmi.msixPending.getLsbD v.val =
      true) ∧
    (∃ (s : State) (e : Fin 8), Awake s) :=
  ⟨⟨hmiIs { up.hmi with msixPending := 1 }, 0, awake_of (by decide), by decide, by decide, by decide⟩,
   ⟨up, 7, awake_of (by decide)⟩⟩

/-- The hypotheses of `Bar2ReadsWritesAndResize` can be met. -/
theorem witness_Bar2ReadsWritesAndResize :
    (∃ (s : State) (rid : BitVec 16) (off : Nat) (data : List (Option Byte)) (e : DramErrs), Awake s ∧ reaches s .pcie = true
      ∧ off + data.length ≤ 2 ^ s.hmi.bar2Log2 ∧ memServing s = true ∧ mapWf dramDefault s.dram = true) ∧
    (∃ (s : State) (n : Fin 64), Awake s ∧ reaches s .pcie = true ∧ 28 ≤ n.val ∧ 2 ^ n.val ≤ dramGb s * 0x40000000) ∧
    (∃ (s : State) (n : Fin 64), Awake s ∧ reaches s .pcie = true ∧ (n.val < 28 ∨ dramGb s * 0x40000000 < 2 ^ n.val)) ∧
    (∃ (s : State) (rid : BitVec 16) (off : Nat) (be : List Bool), Awake s ∧ reaches s .pcie = true ∧ off + be.length ≤ 2 ^
      s.hmi.bar2Log2 ∧ memServing s = true ∧ (∀ a ∈ enabledBytes (bar2Base s + off) be, badAt s a = false ∧ areaOf s a ≠
      .beyond) ∧ armedUe s (bar2Base s + off) be.length = none) ∧
    (∃ (s : State) (rid : BitVec 16) (off : Nat) (be : List Bool) (a : Nat), Awake s ∧ reaches s .pcie = true ∧ off +
      be.length ≤ 2 ^ s.hmi.bar2Log2 ∧ memServing s = true ∧ a ∈ enabledBytes (bar2Base s + off) be ∧ readable s a = true) :=
  ⟨⟨{ up with dram := [(7, 1)] }, 0, 2 ^ 28 - 1, [some 1], {}, awake_of (by decide), by decide, by decide, by decide, by
    decide⟩,
   ⟨up, 34, awake_of (by decide), by decide, by decide, by decide⟩,
   ⟨up, 27, awake_of (by decide), by decide, by decide⟩,
   ⟨up, 0, 2 ^ 28 - 2, [false, true], awake_of (by decide), by decide, by decide, by decide, by decide, by decide⟩,
   ⟨up, 0, 0, [true, true], 1, awake_of (by decide), by decide, by decide, by decide, by decide, by decide⟩⟩

/-- The hypotheses of `RingsRunAndDoorbellsRing`, clauses 1 to 6 can be met. -/
theorem witness_RingsRunAndDoorbellsRing_1 :
    (∃ (s : State) (q : Requester), Awake s ∧ reaches s q = true ∧ writeRefusal s q 0x10000 1 = none ∧ s.hmi.enabled = false) ∧
    (∃ (s : State) (q : Requester), Awake s ∧ reaches s q = true ∧ writeRefusal s q 0x10000 0 = none ∧ s.hmi.enabled = true) ∧
    (∃ (s : State) (q : Requester) (e : Bool), Awake s ∧ reaches s q = true ∧ writeRefusal s q 0x10000 (2 + b2n e) = none) ∧
    (∃ (s : State) (v : BitVec 32), Awake s ∧ reaches s .pcie = true ∧ s.hmi.enabled = true ∧ v.toNat < 4096 ∧ v.toNat <
      cmdSize s ∧ v.toNat ≠ s.hmi.cmdTail) ∧
    (∃ (s : State) (v : BitVec 32), Awake s ∧ reaches s .pcie = true ∧ s.hmi.enabled = true ∧ v.toNat < 4096 ∧ cmdSize s ≤
      v.toNat ∧ s.hmi.cmdFailed = false) ∧
    (∃ (s : State) (v : BitVec 32), Awake s ∧ reaches s .pcie = true ∧ s.hmi.enabled = true ∧ v.toNat < 4096 ∧ cplSize s ≤
      v.toNat ∧ s.hmi.cplFailed = false) :=
  ⟨⟨hmiIs { up.hmi with enabled := false }, .pcie, awake_of (by decide), by decide, by decide, by decide⟩,
   ⟨up, .pcie, awake_of (by decide), by decide, by decide, by decide⟩,
   ⟨up, .smbus, true, awake_of (by decide), by decide, by decide⟩,
   ⟨up, 15, awake_of (by decide), by decide, by decide, by decide, by decide, by decide⟩,
   ⟨up, 16, awake_of (by decide), by decide, by decide, by decide, by decide, by decide⟩,
   ⟨up, 16, awake_of (by decide), by decide, by decide, by decide, by decide, by decide⟩⟩

/-- The hypotheses of `RingsRunAndDoorbellsRing`, clauses 7 to 12 can be met. -/
theorem witness_RingsRunAndDoorbellsRing_2 :
    (∃ (s : State) (v : BitVec 32), Awake s ∧ reaches s .pcie = true ∧ s.hmi.enabled = true ∧ v.toNat < 4096 ∧ evtSize s ≤
      v.toNat ∧ s.hmi.evtFailed = false) ∧
    (∃ (s : State) (v : BitVec 32), Awake s ∧ reaches s .pcie = true ∧ s.hmi.enabled = true ∧ v.toNat < 4096 ∧ v.toNat <
      cplSize s ∧ s.hmi.cplQueue = []) ∧
    (∃ (s : State) (v : BitVec 32) (e : Completion), Awake s ∧ reaches s .pcie = true ∧ v.toNat < 4096 ∧ v.toNat < cplSize s
      ∧ s.hmi.cplQueue = [e] ∧ cplWritable { s with hmi := { s.hmi with cplHead := v.toNat } } = true) ∧
    (∃ (s : State) (v : BitVec 32), Awake s ∧ reaches s .pcie = true ∧ s.hmi.enabled = true ∧ v.toNat < 4096 ∧ v.toNat <
      evtSize s) ∧
    (∃ (s : State) (i : Instr) (v : BitVec 32), Awake s ∧ reaches s .pcie = true ∧ 4096 ≤ v.toNat ∧ (i = .hmiDbCmd v ∨ i =
      .hmiDbCpl v ∨ i = .hmiDbEvt v)) ∧
    (∃ (s : State) (i : Instr) (v : BitVec 32), Awake s ∧ reaches s .pcie = true ∧ v.toNat < 4096 ∧ s.hmi.enabled = false ∧
      (i = .hmiDbCmd v ∨ i = .hmiDbCpl v ∨ i = .hmiDbEvt v)) :=
  ⟨⟨up, 16, awake_of (by decide), by decide, by decide, by decide, by decide, by decide⟩,
   ⟨up, 15, awake_of (by decide), by decide, by decide, by decide, by decide, by decide⟩,
   ⟨hmiIs { up.hmi with cplQueue := [⟨2, false, 0, 0, 0, 0, []⟩] }, 5, ⟨2, false, 0, 0, 0, 0, []⟩, awake_of (by decide), by
    decide, by decide, by decide, by decide, by decide⟩,
   ⟨up, 15, awake_of (by decide), by decide, by decide, by decide, by decide⟩,
   ⟨up, .hmiDbEvt 4096, 4096, awake_of (by decide), by decide, by decide, (Or.inr (Or.inr rfl))⟩,
   ⟨hmiIs { up.hmi with enabled := false }, .hmiDbCpl 4095, 4095, awake_of (by decide), by decide, by decide, by decide,
    (Or.inr (Or.inl rfl))⟩⟩

/-- The hypotheses of `RingsRunAndDoorbellsRing`, clauses 13 to 15 can be met. -/
theorem witness_RingsRunAndDoorbellsRing_3 :
    (∃ (s : State) (q : Requester) (v : BitVec 32), Awake s ∧ reaches s q = true ∧ writeRefusal s q 0x1005C v.toNat = none) ∧
    (∃ (s : State), Awake s ∧ watchdogDue s = true) ∧
    (∃ (s : State), Awake s ∧ watchdogDue s = false) :=
  ⟨⟨up, .smbus, 1, awake_of (by decide), by decide, by decide⟩,
   ⟨{ hmiIs { up.hmi with wdStart := some 0 } with regs := [(0x10058, 1)], tsc := 250000 }, awake_of (by decide), by decide⟩,
   ⟨{ hmiIs { up.hmi with wdStart := some 0 } with regs := [(0x10058, 1)], tsc := 249999 }, awake_of (by decide), by decide⟩⟩

/-- The hypotheses of `CommandFetchRunsTheEntry` can be met. -/
theorem witness_CommandFetchRunsTheEntry :
    (∃ (s : State) (b : List Byte) (sh : List (Nat × Nat)), Serving s 0x0002 (entryCmd b) ∧ leAt b 0 2 = 2 ∧ s.hmi.cmdHead ≠
      s.hmi.cmdTail ∧ bitAt (byteAt b 3) 0 = s.hmi.cmdPhase ∧ s.cmp.latchWait = none ∧ s.cmp.writes = []) ∧
    (∃ (s : State) (e : Option (List Byte)) (cf : Bool) (sh : List (Nat × Nat)), Awake s ∧ canFetch s = true ∧ s.hmi.cmdHead
      ≠ s.hmi.cmdTail ∧ s.hmi.cmdFailed = false ∧ s.cmp.latchWait = none ∧ s.cmp.writes = [] ∧ (e = none ∨ ∃ b, e = some b ∧
      bitAt (byteAt b 3) 0 ≠ s.hmi.cmdPhase)) ∧
    (∃ (s : State) (e : Option (List Byte)) (cf : Bool) (sh : List (Nat × Nat)), Awake s ∧ (canFetch s = false ∨
      s.hmi.cmdHead = s.hmi.cmdTail) ∧ s.cmp.latchWait = none ∧ s.cmp.writes = []) :=
  ⟨⟨hmiIs { up.hmi with cmdTail := 1 }, [2, 0, 0, 1] ++ List.replicate 60 0, [], serving_of (by decide), by decide, by
    decide, by decide, by decide, by decide⟩,
   ⟨hmiIs { up.hmi with cmdTail := 1 }, none, false, [], awake_of (by decide), by decide, by decide, by decide, by decide,
    by decide, (Or.inl rfl)⟩,
   ⟨up, none, false, [], awake_of (by decide), by decide, by decide, by decide⟩⟩

/-- The hypotheses of `QueuedEventsAndVectors`, clauses 1 to 6 can be met. -/
theorem witness_QueuedEventsAndVectors_1 :
    (∃ (s : State) (e : Event) (l : List Event), Awake s ∧ s.hmi.evtQueue = e :: l ∧ evtWritable s = true ∧ s.hmi.lost = 0) ∧
    (∃ (s : State), Awake s ∧ s.hmi.evtQueue ≠ [] ∧ evtWritable s = true ∧ 0 < s.hmi.lost ∧ verAtLeast s 2 2 = true) ∧
    (∃ (s : State), Awake s ∧ s.hmi.evtQueue ≠ [] ∧ evtWritable s = true) ∧
    (∃ (s : State), Awake s ∧ verAtLeast s 2 1 = true ∧ canMaster s = true ∧ coalesceDue s 0 = true ∧ ((vget s.hmi.msix 0
      {}).masked = false)) ∧
    (∃ (s : State), Awake s ∧ verAtLeast s 2 1 = true ∧ canMaster s = true ∧ coalesceDue s 1 = true ∧ ((vget s.hmi.msix 1
      {}).masked = false)) ∧
    (∃ (s : State) (v : Fin 2), Awake s ∧ (verAtLeast s 2 1 = false ∨ coalesceDue s v.val = false)) :=
  ⟨⟨hmiIs { up.hmi with evtQueue := [⟨1, 0, 0, []⟩] }, ⟨1, 0, 0, []⟩, [], awake_of (by decide), by decide, by decide, by
    decide⟩,
   ⟨hmiIs { up.hmi with evtQueue := [⟨1, 0, 0, []⟩], lost := 3 }, awake_of (by decide), by decide, by decide, by decide, by
    decide⟩,
   ⟨hmiIs { up.hmi with evtQueue := [⟨1, 0, 0, []⟩] }, awake_of (by decide), by decide, by decide⟩,
   ⟨{ hmiIs { up.hmi with cplUnsig := 1, cplFirst := 750, msix := Vector.replicate 64 { masked := false } } with regs := [(0x10040, 1)] },
    awake_of (by decide), by decide, by decide, by decide, by decide⟩,
   ⟨{ hmiIs { up.hmi with evtUnsig := 1, evtFirst := 750, msix := Vector.replicate 64 { masked := false } } with regs := [(0x10040, 0x10000)] },
    awake_of (by decide), by decide, by decide, by decide, by decide⟩,
   ⟨{ hmiIs { up.hmi with cplUnsig := 1, cplFirst := 751, msix := Vector.replicate 64 { masked := false } } with regs := [(0x10040, 1)] },
    0, awake_of (by decide), by decide⟩⟩

/-- The hypotheses of `QueuedEventsAndVectors`, clauses 7 to 7 can be met. -/
theorem witness_QueuedEventsAndVectors_2 :
    ∃ (s : State), Awake s ∧ s.hmi.evtQueue = [] :=
  ⟨up, awake_of (by decide), by decide⟩

/-- The hypotheses of `StagingCopiesACheckedImage` can be met. -/
theorem witness_StagingCopiesACheckedImage :
    (∃ (s : State) (c : Cmd) (a : Nat) (n : Nat), Serving s 0x0201 c ∧ leAt (bodyOf c) 0 8 % 64 = 0 ∧ n = leAt (bodyOf c) 8 4
      ∧ leAt (bodyOf c) 0 8 + n ≤ 2 ^ s.hmi.bar2Log2 ∧ a = bar2Base s + leAt (bodyOf c) 0 8 ∧ s.img.confirmId = none ∧
      ((fenceQuery s a n).1 = 0) ∧ a + n ≤ usable s ∧ stageSlot s < 3 ∧ mapWf dramDefault s.dram = true ∧ readHits s a n =
      false) ∧
    (∃ (s : State) (c : Cmd) (a : Nat) (n : Nat), Serving s 0x0201 c ∧ leAt (bodyOf c) 0 8 % 64 = 0 ∧ n = leAt (bodyOf c) 8 4
      ∧ leAt (bodyOf c) 0 8 + n ≤ 2 ^ s.hmi.bar2Log2 ∧ a = bar2Base s + leAt (bodyOf c) 0 8 ∧ s.img.confirmId = none ∧
      ((fenceQuery s a n).1 = 0) ∧ a + n ≤ usable s ∧ readHits s a n = true) :=
  ⟨⟨up, cmd 0 [64, 0, 0, 0, 0, 0, 0, 0, 64, 0, 0, 0], bar2Base up + 64, 64, serving_of (by decide), by decide, by decide, by
    decide, by decide, by decide, by decide, by decide, by decide, by decide, by decide⟩,
   ⟨{ up with badWords := [(bar2Base up + 120) / 8] }, cmd 0 [64, 0, 0, 0, 0, 0, 0, 0, 64, 0, 0, 0], bar2Base up + 64, 64,
    serving_of (by decide), by decide, by decide, by decide, by decide, by decide, by decide, by decide, by decide⟩⟩

/-- The hypotheses of `ActivationBeginsWithEveryCheck` can be met. -/
theorem witness_ActivationBeginsWithEveryCheck :
    (∃ (s : State) (c : Cmd), Serving s 0x0202 c ∧ (leAt (bodyOf c) 0 4 = 0 ∨ (1000 ≤ leAt (bodyOf c) 0 4 ∧ leAt (bodyOf c) 0
      4 ≤ 600000)) ∧ s.img.confirmId = none ∧ s.img.roles.staged < 3 ∧ s.img.mirrorDone = false) ∧
    (∃ (s : State) (c : Cmd), Serving s 0x0202 c ∧ (leAt (bodyOf c) 0 4 = 0 ∨ (1000 ≤ leAt (bodyOf c) 0 4 ∧ leAt (bodyOf c) 0
      4 ≤ 600000)) ∧ s.img.confirmId = none ∧ s.img.roles.staged < 3 ∧ s.img.mirrorDone = true ∧ (∀ r ∈ s.flt.log, r.cls ≠ 2) ∧
      slotBad s s.img.roles.staged = false) ∧
    (∃ (s : State) (c : Cmd), Serving s 0x0202 c ∧ (leAt (bodyOf c) 0 4 = 0 ∨ (1000 ≤ leAt (bodyOf c) 0 4 ∧ leAt (bodyOf c) 0
      4 ≤ 600000)) ∧ s.img.confirmId = none ∧ s.img.roles.staged < 3 ∧ s.img.mirrorDone = true ∧ slotBad s s.img.roles.staged =
      true) :=
  ⟨⟨imgIs { roles := { staged := 2 } }, cmd 0 [0xE8, 3, 0, 0], serving_of (by decide), by decide, by decide, by decide, by
    decide⟩,
   ⟨imgIs { roles := { staged := 0 }, mirrorDone := true }, zeros 0 4, serving_of (by decide), by decide, by decide, by
    decide, by decide, by decide, by decide⟩,
   ⟨{ imgIs { roles := { staged := 0 }, mirrorDone := true } with badWords := [slotDram up 0 / 8 + 7] }, zeros 0 4,
    serving_of (by decide), by decide, by decide, by decide, by decide, by decide⟩⟩

/-- The hypotheses of `JournalRecordsReachFlash` can be met. -/
theorem witness_JournalRecordsReachFlash :
    (∃ (s : State), Live s ∧ s.img.mirroring = true ∧ s.img.roles.staged < 3 ∧ s.img.confirmId = none) ∧
    (∃ (s : State) (a : Append) (l : List Append), Switching s ∧ s.img.appends = a :: l ∧ a.retried = false) ∧
    (∃ (s : State) (a : Append) (l : List Append), Live s ∧ s.img.appends = a :: l ∧ a.retried = true ∧ a.record.state =
      .staged ∧ a.record.seq = s.img.seq) ∧
    (∃ (s : State) (a : Append) (l : List Append), Switching s ∧ s.img.appends = a :: l ∧ a.record.seq ≠ s.img.seq ∧
      a.record.state ≠ .staged ∧ ((jrnActive s).length < 767)) ∧
    (∃ (s : State) (a : Append) (l : List Append), Switching s ∧ s.img.appends = a :: l ∧ a.record.seq = s.img.seq ∧
      a.record.state = .verified ∧ s.img.act.isSome = true ∧ ((jrnActive s).length < 767)) ∧
    (∃ (s : State), Switching s ∧ s.img.erasing = true) :=
  ⟨⟨imgIs { roles := { staged := 0 }, mirroring := true }, live_of (by decide), by decide, by decide, by decide⟩,
   ⟨imgIs { appends := [{ record := ⟨1, .trial, {}, {}, 0, 0, 0, 0, 0, 0, false⟩ }], seq := 1 },
    { record := ⟨1, .trial, {}, {}, 0, 0, 0, 0, 0, 0, false⟩ }, [], switching_of (by decide), by decide, by decide⟩,
   ⟨imgIs { appends := [{ record := ⟨1, .staged, {}, {}, 0, 0, 0, 0, 0, 0, false⟩, retried := true }], seq := 1 },
    { record := ⟨1, .staged, {}, {}, 0, 0, 0, 0, 0, 0, false⟩, retried := true }, [], live_of (by decide), by decide, by
    decide, by decide, by decide⟩,
   ⟨imgIs { appends := [{ record := ⟨1, .trial, {}, {}, 0, 0, 0, 0, 0, 0, false⟩ }], seq := 2 },
    { record := ⟨1, .trial, {}, {}, 0, 0, 0, 0, 0, 0, false⟩ }, [], switching_of (by decide), by decide, by decide, by
    decide, by decide⟩,
   ⟨imgIs
    { appends := [{ record := ⟨1, .verified, {}, {}, 0, 0, 0, 0, 0, 0, false⟩ }], seq := 1, act := some ⟨.activate, none, 0⟩ },
    { record := ⟨1, .verified, {}, {}, 0, 0, 0, 0, 0, 0, false⟩ }, [], switching_of (by decide), by decide, by decide, by
    decide, by decide, by decide⟩,
   ⟨imgIs { erasing := true }, switching_of (by decide), by decide⟩⟩

/-- The hypotheses of `ActivationsRunTheirCourse` can be met. -/
theorem witness_ActivationsRunTheirCourse :
    (∃ (s : State) (a : Activation), Switching s ∧ s.img.act = some a ∧ quiesceActive s = true) ∧
    (∃ (s : State) (a : Activation), Switching s ∧ s.img.act = some a ∧ s.img.state = .switched ∧ s.img.appends = [] ∧ (∀ p,
      p < 6 → portEnabled s p = true → (vget s.plk p {}).mode = .active) ∧ a.kind = .activate) ∧
    (∃ (s : State) (a : Activation), Switching s ∧ s.img.act = some a ∧ s.img.state = .switched ∧ s.img.appends = [] ∧ (∀ p,
      p < 6 → portEnabled s p = true → (vget s.plk p {}).mode = .active) ∧ a.kind ≠ .activate) ∧
    (∃ (s : State), Switching s ∧ trialExpired s = false) ∧
    (∃ (s : State), Switching s ∧ trialExpired s = true) :=
  ⟨⟨imgIs { state := .quiesced, act := some ⟨.activate, none, 0⟩ }, ⟨.activate, none, 0⟩, switching_of (by decide), by
    decide, by decide⟩,
   ⟨imgIs { state := .switched, act := some ⟨.activate, none, 0⟩ }, ⟨.activate, none, 0⟩, switching_of (by decide), by
    decide, by decide, by decide, by decide, by decide⟩,
   ⟨imgIs { state := .switched, act := some ⟨.revert, none, 1⟩ }, ⟨.revert, none, 1⟩, switching_of (by decide), by decide,
    by decide, by decide, by decide, by decide⟩,
   ⟨imgIs { state := .trial, trialEnd := some 1001 }, switching_of (by decide), by decide⟩,
   ⟨imgIs { state := .trial, trialEnd := some 1000 }, switching_of (by decide), by decide⟩⟩

/-- The hypotheses of `ConfirmRollbackAndRevoke` can be met. -/
theorem witness_ConfirmRollbackAndRevoke :
    (∃ (s : State) (c : Cmd) (e : Nat), Switching s ∧ canFetch s = true ∧ s.hmi.inFlight = [] ∧ headerCheck s 0x0203 c = none
      ∧ s.img.state = .trial ∧ s.img.trialEnd = some e ∧ s.tsc < e ∧ leAt (bodyOf c) 0 4 = roleVersion s s.img.roles.active) ∧
    (∃ (s : State) (c : Cmd) (e : Nat), Switching s ∧ canFetch s = true ∧ s.hmi.inFlight = [] ∧ headerCheck s 0x0203 c = none
      ∧ s.img.state = .trial ∧ s.img.trialEnd = some e ∧ e ≤ s.tsc) ∧
    (∃ (s : State) (c : Cmd), Serving s 0x0204 c ∧ s.img.state ≠ .trial ∧ s.img.confirmId = none ∧ s.img.roles.previous < 3 ∧
      (∀ r ∈ s.flt.log, r.cls ≠ 2)) ∧
    (∃ (s : State) (c : Cmd), Serving s 0x0204 c ∧ s.img.state ≠ .trial ∧ s.img.confirmId = none ∧ 3 ≤ s.img.roles.previous) ∧
    (∃ (s : State) (c : Cmd), Switching s ∧ canFetch s = true ∧ s.hmi.inFlight = [] ∧ headerCheck s 0x0204 c = none ∧
      s.img.state = .trial) ∧
    (∃ (s : State) (c : Cmd) (k : Nat), Serving s 0x0205 c ∧ k = leAt (bodyOf c) 0 1 ∧ k < 4 ∧ (s.img.roles.active < 3 → vget
      s.img.slotKey s.img.roles.active 4 ≠ k) ∧ (s.img.roles.previous < 3 → vget s.img.slotKey s.img.roles.previous 4 ≠ k) ∧ (∃
      j, j < 4 ∧ j ≠ k ∧ (vget s.fuse.keyHash j none).isSome = true ∧ s.fuse.revoked.getLsbD j = false)) :=
  ⟨⟨imgIs { state := .trial, trialEnd := some 1001 }, zeros 0 4, 1001, switching_of (by decide), by decide, by decide, by
    decide, by decide, by decide, by decide, by decide⟩,
   ⟨imgIs { state := .trial, trialEnd := some 1000 }, zeros 0 4, 1000, switching_of (by decide), by decide, by decide, by
    decide, by decide, by decide, by decide⟩,
   ⟨imgIs { roles := { previous := 2 } }, zeros 0 0, serving_of (by decide), by decide, by decide, by decide, by decide⟩,
   ⟨up, zeros 0 0, serving_of (by decide), by decide, by decide, by decide⟩,
   ⟨imgIs { state := .trial, trialEnd := some 1001 }, zeros 0 0, switching_of (by decide), by decide, by decide, by decide,
    by decide⟩,
   ⟨{ up with fuse := { keyHash := Vector.replicate 4 (some []) } }, cmd 0 [3], 3, serving_of (by decide), by decide, by
    decide, by decide, by decide, by decide⟩⟩

/-- The hypotheses of `DecisionPointsJudge` can be met. -/
theorem witness_DecisionPointsJudge :
    (∃ (s : State), Live s ∧ decisionDue s = true ∧ s.ftg.mode = 0) ∧
    (∃ (s : State), Live s ∧ decisionDue s = true ∧ s.ftg.mode = 1) ∧
    (∃ (s : State), Live s ∧ decisionDue s = true ∧ s.ftg.mode = 2 ∧ s.ftg.anySym = true) ∧
    (∃ (s : State), Live s ∧ decisionDue s = true ∧ s.ftg.mode = 2 ∧ s.ftg.anySym = false) ∧
    (∃ (s : State), Live s ∧ decisionDue s = false) :=
  ⟨⟨{ up with rck := { segStart := 1064, running := true }, ftg := { mode := 0 } }, live_of (by decide), by decide, by
    decide⟩,
   ⟨{ up with rck := { segStart := 1064, running := true }, ftg := { mode := 1 }, regs := [(0xD00204, 0)] }, live_of (by
    decide), by decide, by decide⟩,
   ⟨{ up with rck := { segStart := 1064, running := true }, ftg := { mode := 2, anySym := true } }, live_of (by decide), by
    decide, by decide, by decide⟩,
   ⟨{ up with rck := { segStart := 1064, running := true }, ftg := { mode := 2 } }, live_of (by decide), by decide, by
    decide, by decide⟩,
   ⟨{ up with rck := { segStart := 1065, running := true }, ftg := { mode := 0 } }, live_of (by decide), by decide⟩⟩

/-- The hypotheses of `BoundariesStartFramesOrSegments` can be met. -/
theorem witness_BoundariesStartFramesOrSegments :
    (∃ (s : State) (d : Decision), Live s ∧ boundaryDue s = true ∧ s.ftg.realign = false ∧ s.ftg.decided = some d ∧
      (d.newFrame = true ∨ s.rck.k = 15) ∧ s.rck.k < 16) ∧
    (∃ (s : State) (d : Decision), Live s ∧ boundaryDue s = true ∧ s.ftg.realign = false ∧ s.ftg.decided = some d ∧
      d.newFrame = false ∧ s.rck.k ≠ 15) ∧
    (∃ (s : State), Live s ∧ boundaryDue s = true ∧ s.ftg.realign = true) ∧
    (∃ (s : State), Live s ∧ boundaryDue s = false) :=
  ⟨⟨{ up with rck := { segStart := 1000, running := true, k := 15 }, ftg := { decided := some ⟨false, false, 0, 0⟩ } },
    ⟨false, false, 0, 0⟩, live_of (by decide), by decide, by decide, by decide, by decide, by decide⟩,
   ⟨{ up with rck := { segStart := 1000, running := true, k := 14 }, ftg := { decided := some ⟨false, false, 0, 0⟩ } },
    ⟨false, false, 0, 0⟩, live_of (by decide), by decide, by decide, by decide, by decide, by decide⟩,
   ⟨{ up with rck := { segStart := 1000, running := true }, ftg := { realign := true } }, live_of (by decide), by decide, by
    decide⟩,
   ⟨{ up with rck := { segStart := 999, running := true }, ftg := { realign := true } }, live_of (by decide), by decide⟩⟩

/-- The hypotheses of `QuietSourcesScannerFramesAndStaleContent` can be met. -/
theorem witness_QuietSourcesScannerFramesAndStaleContent :
    (∃ (s : State), Live s ∧ s.ftgOn = false ∧ s.flt.quietFrom + quietCycles ≤ s.tsc) ∧
    (∃ (s : State), Live s ∧ (s.ftgOn = true ∨ s.tsc < s.flt.quietFrom + quietCycles)) ∧
    (∃ (s : State), Live s ∧ sof1Due s = true) ∧
    (∃ (s : State), Live s ∧ sof1Due s = false) ∧
    (∃ (s : State), Live s ∧ s.ftgOn = true ∧ s.ver.stale = false ∧ bits (regN s 0xD80004) 15 0 ≠ 0 ∧ s.ver.since + bits
      (regN s 0xD80004) 15 0 * msCycles ≤ s.tsc) ∧
    (∃ (s : State), Live s ∧ (s.ftgOn = false ∨ s.ver.stale = true ∨ bits (regN s 0xD80004) 15 0 = 0 ∨ s.tsc < s.ver.since +
      bits (regN s 0xD80004) 15 0 * msCycles)) :=
  ⟨⟨{ still with tsc := 41666667 }, live_of (by decide), by decide, by decide⟩,
   ⟨{ still with tsc := 41666666 }, live_of (by decide), by decide⟩,
   ⟨{ img { topo := { hlsEnable := 1 } } with rck := { segStart := 1000 } }, live_of (by decide), by decide⟩,
   ⟨{ img { topo := { hlsEnable := 1 } } with rck := { segStart := 999 } }, live_of (by decide), by decide⟩,
   ⟨{ up with regs := [(0xD80004, 1)], tsc := 250000 }, live_of (by decide), by decide, by decide, by decide, by decide⟩,
   ⟨{ up with regs := [(0xD80004, 1)], tsc := 249999 }, live_of (by decide), by decide⟩⟩

/-- The hypotheses of `SymbolsAndHolds`, clauses 1 to 6 can be met. -/
theorem witness_SymbolsAndHolds_1 :
    (∃ (s : State), Live s ∧ s.ftg.mode ≠ 2) ∧
    (∃ (s : State), Live s ∧ s.ftg.mode = 2) ∧
    (∃ (s : State), Live s ∧ s.ftg.arrival = none) ∧
    (∃ (s : State) (a : Nat), Live s ∧ s.ftg.arrival = some a ∧ (s.tsc - a < 8 ∨ 63 < s.tsc - a)) ∧
    (∃ (s : State) (a : Nat), Live s ∧ s.ftg.arrival = some a ∧ 8 ≤ s.tsc - a ∧ s.tsc - a ≤ 63 ∧ s.ftg.mode ≠ 2) ∧
    (∃ (s : State) (a : Nat), Live s ∧ s.ftg.arrival = some a ∧ 8 ≤ s.tsc - a ∧ s.tsc - a ≤ 63 ∧ s.ftg.mode = 2 ∧ s.ftgOn =
      true ∧ s.ftg.sync ≠ .searching) :=
  ⟨⟨up, live_of (by decide), by decide⟩,
   ⟨ftgIs { mode := 2 }, live_of (by decide), by decide⟩,
   ⟨up, live_of (by decide), by decide⟩,
   ⟨ftgIs { arrival := some 993 }, 993, live_of (by decide), by decide, by decide⟩,
   ⟨ftgIs { arrival := some 937 }, 937, live_of (by decide), by decide, by decide, by decide, by decide⟩,
   ⟨ftgIs { arrival := some 992, mode := 2 }, 992, live_of (by decide), by decide, by decide, by decide, by decide, by
    decide, by decide⟩⟩

/-- The hypotheses of `SymbolsAndHolds`, clauses 7 to 12 can be met. -/
theorem witness_SymbolsAndHolds_2 :
    (∃ (s : State) (a : Nat), Live s ∧ s.ftg.arrival = some a ∧ 32 ≤ s.tsc - a ∧ s.tsc - a ≤ 63 ∧ s.ftg.mode = 2 ∧ s.ftgOn =
      true ∧ s.ftg.sync = .searching ∧ s.ftg.idling = false ∧ s.ftg.realign = false) ∧
    (∃ (s : State) (a : Nat), Live s ∧ s.ftg.arrival = some a ∧ 32 ≤ s.tsc - a ∧ s.tsc - a ≤ 63 ∧ s.ftg.mode = 2 ∧ s.ftgOn =
      true ∧ s.ftg.sync = .searching ∧ (s.ftg.idling = true ∨ s.ftg.realign = true)) ∧
    (∃ (s : State) (t0 : Nat) (d : Nat), Live s ∧ s.ftg.hold = some (t0, d) ∧ t0 + d = s.tsc) ∧
    (∃ (s : State), Live s ∧ (∀ t0 d, s.ftg.hold = some (t0, d) → t0 + d ≠ s.tsc)) ∧
    (∃ (s : State), Live s ∧ s.ftgOn = true ∧ s.ftg.idling = true ∧ s.ftg.target = some s.tsc ∧ bits (regN s 0xD00200) 1 0 =
      s.ftg.mode) ∧
    (∃ (s : State), Live s ∧ (s.ftgOn = false ∨ s.ftg.idling = false ∨ s.ftg.target ≠ some s.tsc)) :=
  ⟨⟨ftgIs { arrival := some 968, mode := 2, sync := .searching }, 968, live_of (by decide), by decide, by decide, by decide,
    by decide, by decide, by decide, by decide, by decide⟩,
   ⟨ftgIs { arrival := some 937, mode := 2, sync := .searching, idling := true }, 937, live_of (by decide), by decide, by
    decide, by decide, by decide, by decide, by decide, by decide⟩,
   ⟨ftgIs { hold := some (900, 100) }, 900, 100, live_of (by decide), by decide, by decide⟩,
   ⟨ftgIs { hold := none }, live_of (by decide), (by intro t0 d h; cases h)⟩,
   ⟨ftgIs { idling := true, target := some 1000 }, live_of (by decide), by decide, by decide, by decide, by decide⟩,
   ⟨ftgIs { idling := true, target := some 1001 }, live_of (by decide), by decide⟩⟩

/-- The hypotheses of `BeadsDueAndLate`, clauses 1 to 6 can be met. -/
theorem witness_BeadsDueAndLate_1 :
    (∃ (s : State) (i : Instr) (how : BeadCome) (b : Bead), Live s ∧ beadOfRow i = some (how, b) ∧ beadDue s how b = false) ∧
    (∃ (s : State) (i : Instr) (b : Bead), Live s ∧ beadOfRow i = some (.corrected, b) ∧ beadDue s .corrected b = true) ∧
    (∃ (s : State) (i : Instr) (b : Bead), Live s ∧ beadOfRow i = some (.uncorrectable, b) ∧ beadDue s .uncorrectable b =
      true) ∧
    (∃ (s : State) (i : Instr) (d : Bead), Live s ∧ beadOfRow i = some (.late, d) ∧ (d.action = 1 ∨ d.action = 2) ∧ beadDue s
      .late d = true ∧ takesBeads s d.target = true ∧ portContained s d.target = false) ∧
    (∃ (s : State) (rod : Fin 64) (tm : BitVec 32) (c : Fin 3) (l : Option (Fin 16)) (d : Bead), Live s ∧ d = levelRow rod tm
      c l ∧ beadDue s .late d = true ∧ bitAt s.rck.containPrims c.val = false) ∧
    (∃ (s : State) (rod : Fin 64) (tm : BitVec 32) (how : BeadCome) (c : Fin 3) (l : Option (Fin 16)) (d : Bead), Live s ∧ d
      = levelRow rod tm c l ∧ (how = .effect ∨ how = .late) ∧ beadDue s how d = true ∧ bitAt s.rck.containPrims c.val = true) :=
  ⟨⟨due (levelRow 0 0 2 none), .resetBlock 63 1000 .effect 0 1 2 false, .effect, resetRow 63 1000 0 1 2, live_of (by
    decide), rfl, by decide⟩,
   ⟨lead (resetRow 63 1000 0 1 2), .resetBlock 63 1000 .corrected 0 1 2 false, resetRow 63 1000 0 1 2, live_of (by decide),
    rfl, by decide⟩,
   ⟨lead (resetRow 63 1000 0 1 2), .resetBlock 63 1000 .uncorrectable 0 1 2 false, resetRow 63 1000 0 1 2, live_of (by
    decide), rfl, by decide⟩,
   ⟨lead (resetRow 63 1000 0 1 2), .resetBlock 63 1000 .late 0 1 2 false, resetRow 63 1000 0 1 2, live_of (by decide), rfl,
    by decide, by decide, by decide, by decide⟩,
   ⟨lead (levelRow 0 0 2 none), 0, 0, 2, none, levelRow 0 0 2 none, live_of (by decide), rfl, by decide, by decide⟩,
   ⟨held (due (levelRow 0 0 2 none)), 0, 0, .effect, 2, none, levelRow 0 0 2 none, live_of (by decide), rfl, (Or.inl rfl),
    by decide, by decide⟩⟩

/-- The hypotheses of `BeadsDueAndLate`, clauses 7 to 8 can be met. -/
theorem witness_BeadsDueAndLate_2 :
    (∃ (s : State) (rod : Fin 64) (tm : BitVec 32) (m : BitVec 24) (o : Bool) (d : Bead), Live s ∧ d = windowRow rod tm m o ∧
      beadDue s .late d = true) ∧
    (∃ (s : State) (i : Instr) (d : Bead), Live s ∧ beadOfRow i = some (.late, d) ∧ 5 ≤ d.action ∧ (d.action ≤ 8 ∨ s.hls.mode
      = .running) ∧ beadDue s .late d = true) :=
  ⟨⟨lead (windowRow 0 0 1 true), 0, 0, 1, true, windowRow 0 0 1 true, live_of (by decide), rfl, by decide⟩,
   ⟨lead (darkRow 0 0 5), .darkSpan 0 0 .late 5, darkRow 0 0 5, live_of (by decide), rfl, by decide, (Or.inl (by decide)),
    by decide⟩⟩

/-- The hypotheses of `PortBeadsActOnBlocks` can be met. -/
theorem witness_PortBeadsActOnBlocks :
    (∃ (s : State) (rod : Fin 64) (tm : BitVec 32) (p : Fin 6) (b : Fin 16) (pl : Fin 48) (ca : Bool) (ce : Bool) (mi : List
      Nat) (ue : Option Nat) (er : DramErrs) (d : Bead) (q : Nat) (r : PlaneRef), Live s ∧ d = loadRow rod tm p b pl ca true ∧
      beadDue s .effect d = true ∧ takesBeads s p.val = true ∧ portContained s p.val = false ∧ q = ((port s p.val).loadSeq + 1)
      % 8 ∧ r = { plane := 0, set := b2n (bitAt s.pbu.shown p.val), cached := false, blank := true }) ∧
    (∃ (s : State) (rod : Fin 64) (tm : BitVec 32) (p : Fin 6) (b : Fin 16) (pl : Fin 48) (ca : Bool) (ce : Bool) (mi : List
      Nat) (ue : Option Nat) (er : DramErrs) (d : Bead) (u : State) (q : Nat) (a : Nat) (w : Nat), Live s ∧ d = loadRow rod tm
      p b pl ca false ∧ beadDue s .effect d = true ∧ takesBeads s p.val = true ∧ portContained s p.val = false ∧ q = ((port s
      p.val).loadSeq + 1) % 8 ∧ a = planeAddr (cfg s) (b2n (bitAt s.pbu.shown p.val)) p.val b.val pl.val ∧ w = planeStride
      (linkCfg s p.val).width ∧ u = (if ca then noteIssue s .effect d else meetErrors (noteIssue s .effect d) er 8)) ∧
    (∃ (s : State) (rod : Fin 64) (tm : BitVec 32) (p : Fin 6) (b : Fin 16) (pl : Fin 48) (ca : Bool) (d : Bead) (sl : Option
      Nat) (r : PlaneRef), Live s ∧ d = loadRow rod tm p b pl ca false ∧ beadDue s .effect d = true ∧ takesBeads s p.val = true
      ∧ portContained s p.val = false ∧ sl = (if ca then liveSlot s (b2n (bitAt s.pbu.shown p.val)) p.val b.val pl.val else
      none) ∧ (sl.isSome = true ∨ dramClean s = true) ∧ r =
      { plane := pl.val, set := b2n (bitAt s.pbu.shown p.val), cached := sl.isSome, blank := false }) ∧
    (∃ (s : State) (rod : Fin 64) (tm : BitVec 32) (p : Fin 6) (sh : BitVec 16) (dk : BitVec 16) (ab : Bool) (d : Bead), Live
      s ∧ d = resetRow rod tm p sh dk ∧ beadDue s .effect d = true ∧ takesBeads s p.val = true ∧ portContained s p.val = false) ∧
    (∃ (s : State) (i : Instr) (how : BeadCome) (d : Bead), Live s ∧ beadOfRow i = some (how, d) ∧ (how = .effect ∨ how =
      .late) ∧ (d.action = 1 ∨ d.action = 2) ∧ beadDue s how d = true ∧ takesBeads s d.target = false) ∧
    (∃ (s : State) (i : Instr) (how : BeadCome) (d : Bead), Live s ∧ beadOfRow i = some (how, d) ∧ (how = .effect ∨ how =
      .late) ∧ (d.action = 1 ∨ d.action = 2) ∧ beadDue s how d = true ∧ takesBeads s d.target = true ∧ portContained s d.target
      = true) :=
  ⟨⟨due (loadRow 63 7 0 15 47 false true), 63, 7, 0, 15, 47, false, false, [], none, {}, loadRow 63 7 0 15 47 false true, 1,
    { plane := 0, set := 0, cached := false, blank := true }, live_of (by decide), rfl, by decide, by decide, by decide, by
    decide, by decide⟩,
   ⟨due (loadRow 63 7 0 15 47 false false), 63, 7, 0, 15, 47, false, false, [], none, {}, loadRow 63 7 0 15 47 false false,
    meetErrors (noteIssue (due (loadRow 63 7 0 15 47 false false)) .effect (loadRow 63 7 0 15 47 false false)) {} 8, 1,
    planeAddr (cfg (due (loadRow 63 7 0 15 47 false false))) 0 0 15 47, planeStride 0, live_of (by decide), rfl, by decide,
    by decide, by decide, by decide, rfl, rfl, rfl⟩,
   ⟨due (loadRow 63 7 0 15 47 false false), 63, 7, 0, 15, 47, false, loadRow 63 7 0 15 47 false false, none,
    { plane := 47, set := 0, cached := false, blank := false }, live_of (by decide), rfl, by decide, by decide, by decide, by
    decide, by decide, by decide⟩,
   ⟨due (resetRow 63 7 0 1 2), 63, 7, 0, 1, 2, false, resetRow 63 7 0 1 2, live_of (by decide), rfl, by decide, by decide,
    by decide⟩,
   ⟨{ due (resetRow 63 1000 0 1 2) with plk := up.plk }, .resetBlock 63 1000 .effect 0 1 2 false, .effect, resetRow 63 1000
    0 1 2, live_of (by decide), rfl, (Or.inl rfl), by decide, by decide, by decide⟩,
   ⟨held (lead (resetRow 63 1000 0 1 2)), .resetBlock 63 1000 .late 0 1 2 false, .late, resetRow 63 1000 0 1 2, live_of (by
    decide), rfl, (Or.inr rfl), by decide, by decide, by decide, by decide⟩⟩

/-- The hypotheses of `OtherBeadsAndLevelPairs`, clauses 1 to 6 can be met. -/
theorem witness_OtherBeadsAndLevelPairs_1 :
    (∃ (s : State) (rod : Fin 64) (tm : BitVec 32) (c : Fin 3) (l : Option (Fin 16)) (d : Bead), Live s ∧ d = levelRow rod tm
      c l ∧ beadDue s .effect d = true ∧ bitAt s.rck.containPrims c.val = false) ∧
    (∃ (s : State) (rod : Fin 64) (tm : BitVec 32) (m : BitVec 24) (o : Bool) (d : Bead), Live s ∧ d = windowRow rod tm m o ∧
      beadDue s .effect d = true) ∧
    (∃ (s : State) (rod : Fin 64) (tm : BitVec 32) (b : Fin 12) (l : Fin 16) (w : BitVec 16) (d : Bead), Live s ∧ d =
      pulseRow rod tm b l w ∧ beadDue s .effect d = true ∧ ((bankAt s b.val).mode ≠ .armed)) ∧
    (∃ (s : State) (rod : Fin 64) (tm : BitVec 32) (b : Fin 12) (l : Fin 16) (w : BitVec 16) (d : Bead), Live s ∧ d =
      pulseRow rod tm b l w ∧ beadDue s .effect d = true ∧ ((bankAt s b.val).mode = .armed)) ∧
    (∃ (s : State) (rod : Fin 64) (tm : BitVec 32) (w : BitVec 16) (g : BitVec 16) (d : Bead), Live s ∧ d = pairRow rod tm w
      g ∧ beadDue s .effect d = true ∧ 2 ≤ (cfg s).light.levelCount) ∧
    (∃ (s : State) (rod : Fin 64) (tm : BitVec 32) (w : BitVec 16) (g : BitVec 16) (d : Bead), Live s ∧ d = pairRow rod tm w
      g ∧ beadDue s .effect d = true ∧ ((cfg s).light.levelCount < 2)) :=
  ⟨⟨due (levelRow 0 0 2 (some 15)), 0, 0, 2, some 15, levelRow 0 0 2 (some 15), live_of (by decide), rfl, by decide, by
    decide⟩,
   ⟨due (windowRow 0 0 1 true), 0, 0, 1, true, windowRow 0 0 1 true, live_of (by decide), rfl, by decide⟩,
   ⟨due (pulseRow 0 0 11 15 375), 0, 0, 11, 15, 375, pulseRow 0 0 11 15 375, live_of (by decide), rfl, by decide, by decide⟩,
   ⟨{ due (pulseRow 0 0 0 15 375) with lsd := { bank := vset up.lsd.bank 0 { mode := .armed } } }, 0, 0, 0, 15, 375,
    pulseRow 0 0 0 15 375, live_of (by decide), rfl, by decide, by decide⟩,
   ⟨dueIn { twoPorts with light := { levelCount := 2 } } (pairRow 0 0 375 0), 0, 0, 375, 0, pairRow 0 0 375 0, live_of (by
    decide), rfl, by decide, by decide⟩,
   ⟨due (pairRow 0 0 375 0), 0, 0, 375, 0, pairRow 0 0 375 0, live_of (by decide), rfl, by decide, by decide⟩⟩

/-- The hypotheses of `OtherBeadsAndLevelPairs`, clauses 7 to 12 can be met. -/
theorem witness_OtherBeadsAndLevelPairs_2 :
    (∃ (s : State) (rod : Fin 64) (tm : BitVec 32) (ch : BitVec 16) (pe : BitVec 16) (co : BitVec 16) (d : Bead), Live s ∧ d
      = dramRow rod tm false ch pe co ∧ beadDue s .effect d = true) ∧
    (∃ (s : State) (rod : Fin 64) (tm : BitVec 32) (ch : BitVec 16) (pe : BitVec 16) (co : BitVec 16) (d : Bead), Live s ∧ d
      = dramRow rod tm true ch pe co ∧ beadDue s .effect d = true) ∧
    (∃ (s : State) (rod : Fin 64) (tm : BitVec 32) (le : BitVec 32) (d : Bead), Live s ∧ d = darkRow rod tm le ∧ beadDue s
      .effect d = true) ∧
    (∃ (s : State) (rod : Fin 64) (tm : BitVec 32) (pe : BitVec 32) (f : BitVec 16) (n : BitVec 16) (d : Bead), Live s ∧ d =
      scanRow rod tm f n pe ∧ beadDue s .effect d = true ∧ s.hls.mode = .running) ∧
    (∃ (s : State) (rod : Fin 64) (tm : BitVec 32) (pe : BitVec 32) (how : BeadCome) (f : BitVec 16) (n : BitVec 16) (d :
      Bead), Live s ∧ d = scanRow rod tm f n pe ∧ (how = .effect ∨ how = .late) ∧ beadDue s how d = true ∧ s.hls.mode ≠
      .running) ∧
    (∃ (s : State) (reads : List PairRead), Live s ∧ ((cfg s).light.levelCount < 2 ∨ s.lsd.pairUntil = none ∨ (∃ e,
      s.lsd.pairUntil = some e ∧ s.tsc < e))) :=
  ⟨⟨due (dramRow 0 0 false 1 0 1), 0, 0, 1, 0, 1, dramRow 0 0 false 1 0 1, live_of (by decide), rfl, by decide⟩,
   ⟨due (dramRow 0 0 true 1 100 2), 0, 0, 1, 100, 2, dramRow 0 0 true 1 100 2, live_of (by decide), rfl, by decide⟩,
   ⟨due (darkRow 0 0 0), 0, 0, 0, darkRow 0 0 0, live_of (by decide), rfl, by decide⟩,
   ⟨{ due (scanRow 0 0 0 1 0) with hls := { mode := .running } }, 0, 0, 0, 0, 1, scanRow 0 0 0 1 0, live_of (by decide),
    rfl, by decide, by decide⟩,
   ⟨due (scanRow 0 0 0 1 0), 0, 0, 0, .effect, 0, 1, scanRow 0 0 0 1 0, live_of (by decide), rfl, (Or.inl rfl), by decide,
    by decide⟩,
   ⟨up, [], live_of (by decide), (Or.inl (by decide))⟩⟩

/-- The hypotheses of `OtherBeadsAndLevelPairs`, clauses 13 to 13 can be met. -/
theorem witness_OtherBeadsAndLevelPairs_3 :
    ∃ (s : State) (reads : List PairRead) (e : Nat), Live s ∧ 2 ≤ (cfg s).light.levelCount ∧ s.lsd.pairUntil = some e ∧ e ≤
      s.tsc :=
  ⟨{ img { twoPorts with light := { levelCount := 2 } } with lsd := { pairUntil := some 1000 } }, [], 1000, live_of (by
    decide), by decide, by decide, by decide⟩

/-- The hypotheses of `VariantsLoadAndRestore`, clauses 1 to 6 can be met. -/
theorem witness_VariantsLoadAndRestore_1 :
    (∃ (s : State) (n : VarSel), Live s ∧ s.rck.loading0 = false ∧ s.rck.next = some n ∧ n.loaded = false ∧ ((port s
      n.port).mode ≠ .parked ∨ (port s n.port).holdReady = false ∨ (port s n.port).thenTrain = true)) ∧
    (∃ (s : State) (n : VarSel), Live s ∧ s.rck.loading0 = false ∧ s.rck.next = some n ∧ n.loaded = false ∧ n.port < 6 ∧
      ((port s n.port).mode = .parked) ∧ ((port s n.port).holdReady = true) ∧ ((port s n.port).thenTrain = false)) ∧
    (∃ (s : State) (n : VarSel), Live s ∧ s.rck.loading0 = false ∧ s.rck.next = some n ∧ n.loaded = false ∧ n.port < 6 ∧
      n.cause = .degraded) ∧
    (∃ (s : State), Live s ∧ s.rck.loading0 = true) ∧
    (∃ (s : State), Live s ∧ s.rck.loading0 = true) ∧
    (∃ (s : State) (ok : Bool), Live s ∧ s.rck.loading0 = false ∧ (s.rck.next = none ∨ (∃ n, s.rck.next = some n ∧ n.loaded =
      true))) :=
  ⟨⟨{ up with rck := { next := some ⟨1, 1, 0, .degraded, false, 0⟩ } }, ⟨1, 1, 0, .degraded, false, 0⟩, live_of (by decide),
    by decide, by decide, by decide, by decide⟩,
   ⟨{ portIs { mode := .parked, holdReady := true } with rck := { next := some ⟨1, 1, 0, .degraded, false, 0⟩ } }, ⟨1, 1, 0,
    .degraded, false, 0⟩, live_of (by decide), by decide, by decide, by decide, by decide, by decide, by decide, by decide⟩,
   ⟨{ up with rck := { next := some ⟨1, 1, 0, .degraded, false, 0⟩ } }, ⟨1, 1, 0, .degraded, false, 0⟩, live_of (by decide),
    by decide, by decide, by decide, by decide, by decide⟩,
   ⟨{ up with rck := { loading0 := true } }, live_of (by decide), by decide⟩,
   ⟨{ up with rck := { loading0 := true } }, live_of (by decide), by decide⟩,
   ⟨up, true, live_of (by decide), by decide, (Or.inl rfl)⟩⟩

/-- The hypotheses of `VariantsLoadAndRestore`, clauses 7 to 9 can be met. -/
theorem witness_VariantsLoadAndRestore_2 :
    (∃ (s : State) (c : Cmd), Serving s 0x0701 c ∧ s.rck.variant ≠ 0 ∧ s.rck.next = none ∧ (∀ p, p < 6 → portEnabled s p =
      true → (port s p).mode = .failed ∨ (port s p).halfWidth = false)) ∧
    (∃ (s : State) (c : Cmd), Serving s 0x0701 c ∧ (s.rck.variant = 0 ∨ (∃ p, p < 6 ∧ portEnabled s p = true ∧ (port s
      p).mode ≠ .failed ∧ (port s p).halfWidth = true))) ∧
    (∃ (s : State) (c : Cmd), Serving s 0x0701 c ∧ s.rck.variant ≠ 0 ∧ s.rck.next.isSome = true ∧ (∀ p, p < 6 → portEnabled s
      p = true → (port s p).mode = .failed ∨ (port s p).halfWidth = false)) :=
  ⟨⟨{ up with rck := { variant := 1 } }, zeros 0 0, serving_of (by decide), by decide, by decide, by decide⟩,
   ⟨up, zeros 0 0, serving_of (by decide), (Or.inl (by decide))⟩,
   ⟨{ up with rck := { variant := 2, next := some ⟨1, 1, 0, .degraded, false, 0⟩ } }, zeros 0 0, serving_of (by decide), by
    decide, by decide, by decide⟩⟩

/-- The hypotheses of `PortsComeUpStepByStep`, clauses 1 to 6 can be met. -/
theorem witness_PortsComeUpStepByStep_1 :
    (∃ (s : State) (p : Fin 6), Live s ∧ ((port s p.val).mode = .sync)) ∧
    (∃ (s : State) (p : Fin 6), Live s ∧ ((port s p.val).mode ≠ .sync)) ∧
    (∃ (s : State) (p : Fin 6) (v1 : BitVec 8) (v2 : BitVec 8) (w : BitVec 16) (h : BitVec 16) (rows : BitVec 8) (up : BitVec
      8) (st : BitVec 16) (ve : BitVec 16) (mo : BitVec 16) (sn : BitVec 32) (l : LinkCfg), Live s ∧ ((port s p.val).mode =
      .hello) ∧ l = linkCfg s p.val ∧ v1.toNat ≤ l.nomVersion ∧ l.nomVersion ≤ v2.toNat ∧ w.toNat = l.width ∧ h.toNat =
      l.height ∧ rows.toNat = l.blockRows ∧ st.toNat ≤ l.settleMaxNs ∧ 1 ≤ up.toNat ∧ up.toNat ≤ 100) ∧
    (∃ (s : State) (p : Fin 6) (v1 : BitVec 8) (v2 : BitVec 8) (w : BitVec 16) (h : BitVec 16) (rows : BitVec 8) (up : BitVec
      8) (st : BitVec 16) (ve : BitVec 16) (mo : BitVec 16) (sn : BitVec 32), Live s ∧ ((port s p.val).mode = .hello) ∧
      ((linkCfg s p.val).nomVersion < v1.toNat ∨ v2.toNat < (linkCfg s p.val).nomVersion)) ∧
    (∃ (s : State) (p : Fin 6) (v1 : BitVec 8) (v2 : BitVec 8) (w : BitVec 16) (h : BitVec 16) (rows : BitVec 8) (up : BitVec
      8) (st : BitVec 16) (ve : BitVec 16) (mo : BitVec 16) (sn : BitVec 32) (l : LinkCfg), Live s ∧ ((port s p.val).mode =
      .hello) ∧ l = linkCfg s p.val ∧ v1.toNat ≤ l.nomVersion ∧ l.nomVersion ≤ v2.toNat ∧ (w.toNat ≠ l.width ∨ h.toNat ≠
      l.height ∨ rows.toNat ≠ l.blockRows)) ∧
    (∃ (s : State) (p : Fin 6) (v1 : BitVec 8) (v2 : BitVec 8) (w : BitVec 16) (h : BitVec 16) (rows : BitVec 8) (up : BitVec
      8) (st : BitVec 16) (ve : BitVec 16) (mo : BitVec 16) (sn : BitVec 32) (l : LinkCfg), Live s ∧ ((port s p.val).mode =
      .hello) ∧ l = linkCfg s p.val ∧ v1.toNat ≤ l.nomVersion ∧ l.nomVersion ≤ v2.toNat ∧ w.toNat = l.width ∧ h.toNat =
      l.height ∧ rows.toNat = l.blockRows ∧ (l.settleMaxNs < st.toNat ∨ up.toNat < 1 ∨ 100 < up.toNat)) :=
  ⟨⟨portIs { mode := .sync }, 0, live_of (by decide), by decide⟩,
   ⟨up, 5, live_of (by decide), by decide⟩,
   ⟨{ portIs { mode := .hello } with img := { cfg := some { twoPorts with links := [{ nomVersion := 1 }] } } }, 0, 1, 1, 0,
    0, 0, 1, 0, 0, 0, 0, { nomVersion := 1 }, live_of (by decide), by decide, by decide, by decide, by decide, by decide, by
    decide, by decide, by decide, by decide, by decide⟩,
   ⟨portIs { mode := .hello }, 0, 1, 1, 0, 0, 0, 1, 0, 0, 0, 0, live_of (by decide), by decide, by decide⟩,
   ⟨{ portIs { mode := .hello } with img := { cfg := some { twoPorts with links := [{ nomVersion := 1 }] } } }, 0, 1, 1, 1,
    0, 0, 1, 0, 0, 0, 0, { nomVersion := 1 }, live_of (by decide), by decide, by decide, by decide, by decide, by decide⟩,
   ⟨{ portIs { mode := .hello } with img := { cfg := some { twoPorts with links := [{ nomVersion := 1 }] } } }, 0, 1, 1, 0,
    0, 0, 1, 1, 0, 0, 0, { nomVersion := 1 }, live_of (by decide), by decide, by decide, by decide, by decide, by decide, by
    decide, by decide, by decide⟩⟩

/-- The hypotheses of `PortsComeUpStepByStep`, clauses 7 to 12 can be met. -/
theorem witness_PortsComeUpStepByStep_2 :
    (∃ (s : State) (p : Fin 6) (lanes : List (Nat × Bool × Bool)) (e : BitVec 32), Live s ∧ ((port s p.val).mode = .train) ∧
      (∀ r, r < 16 → bitAt (laneMask (port s p.val)) r = true → lanes.getD r (0, false, false) = (r, true, false))) ∧
    (∃ (s : State) (p : Fin 6) (lanes : List (Nat × Bool × Bool)), Live s ∧ ((port s p.val).mode = .check)) ∧
    (∃ (s : State) (p : Fin 6), Live s ∧ ((port s p.val).mode = .mode) ∧ ((port s p.val).halfWidth = false ∨ variantReady s
      p.val = true)) ∧
    (∃ (s : State) (p : Fin 6), Live s ∧ ((port s p.val).mode = .mode) ∧ ((port s p.val).halfWidth = true) ∧ variantReady s
      p.val = false) ∧
    (∃ (s : State) (p : Fin 6), Live s ∧ ((port s p.val).mode = .parked) ∧ ((port s p.val).unparking = true)) ∧
    (∃ (s : State) (i : Instr) (p : Fin 6), Live s ∧ ((port s p.val).mode = .disabled ∨ (port s p.val).mode = .failed) ∧ (i ∈
      [.statusSync p, .ready p, .syncTimeout p, .replyTimeout p, .statusLaneSilent p, .parkLate p, .statusPoll p,
      .statusFrameDiscarded p] ∨ (∃ o r, i = .ack p o r) ∨ (∃ l e, i = .trainReport p l e) ∨ (∃ l, i = .laneLost p l) ∨ (∃ b r,
      i = .rowErr p b r) ∨ (∃ o, i = .frameErr p o) ∨ (∃ a f r e, i = .status p a f r e))) :=
  ⟨⟨portIs { mode := .train }, 0, (List.range 16).map (fun r => (r, true, false)), 0, live_of (by decide), by decide, by
    decide⟩,
   ⟨portIs { mode := .check }, 0, [], live_of (by decide), by decide⟩,
   ⟨portIs { mode := .mode }, 0, live_of (by decide), by decide, by decide⟩,
   ⟨{ portIs { mode := .mode, halfWidth := true } with rck := { next := some ⟨1, 1, 0, .degraded, false, 0⟩ } }, 0, live_of
    (by decide), by decide, by decide, by decide⟩,
   ⟨portIs { mode := .parked, unparking := true }, 0, live_of (by decide), by decide, by decide⟩,
   ⟨up, .ready 5, 5, live_of (by decide), by decide, (Or.inl (by decide))⟩⟩

/-- The hypotheses of `PortLimitsFailOrPark`, clauses 1 to 6 can be met. -/
theorem witness_PortLimitsFailOrPark_1 :
    (∃ (s : State) (p : Fin 6), Live s ∧ ((port s p.val).mode = .sync) ∧ ((port s p.val).sentAt + 1250000 ≤ s.tsc)) ∧
    (∃ (s : State) (p : Fin 6), Live s ∧ ((port s p.val).mode ≠ .sync ∨ s.tsc < (port s p.val).sentAt + 1250000)) ∧
    (∃ (s : State) (p : Fin 6), Live s ∧ ((port s p.val).mode = .hello) ∧ ((port s p.val).sentAt + 2500 ≤ s.tsc) ∧ ((port s
      p.val).attempts < 4)) ∧
    (∃ (s : State) (p : Fin 6), Live s ∧ ((port s p.val).mode = .mode) ∧ ((port s p.val).sentAt + 2500 ≤ s.tsc) ∧ ((port s
      p.val).attempts < 4)) ∧
    (∃ (s : State) (p : Fin 6), Live s ∧ ((port s p.val).mode = .hello) ∧ ((port s p.val).sentAt + 2500 ≤ s.tsc) ∧ 4 ≤ (port
      s p.val).attempts) ∧
    (∃ (s : State) (p : Fin 6), Live s ∧ ((port s p.val).mode = .mode) ∧ ((port s p.val).sentAt + 2500 ≤ s.tsc) ∧ 4 ≤ (port s
      p.val).attempts) :=
  ⟨⟨{ portIs { mode := .sync, sentAt := 5 } with tsc := 1250005 }, 0, live_of (by decide), by decide, by decide⟩,
   ⟨{ portIs { mode := .sync, sentAt := 5 } with tsc := 1250004 }, 0, live_of (by decide), by decide⟩,
   ⟨{ portIs { mode := .hello, sentAt := 5, attempts := 3 } with tsc := 2505 }, 0, live_of (by decide), by decide, by
    decide, by decide⟩,
   ⟨{ portIs { mode := .mode, sentAt := 5, attempts := 3 } with tsc := 2505 }, 0, live_of (by decide), by decide, by decide,
    by decide⟩,
   ⟨{ portIs { mode := .hello, sentAt := 5, attempts := 4 } with tsc := 2505 }, 0, live_of (by decide), by decide, by
    decide, by decide⟩,
   ⟨{ portIs { mode := .mode, sentAt := 5, attempts := 4 } with tsc := 2505 }, 0, live_of (by decide), by decide, by decide,
    by decide⟩⟩

/-- The hypotheses of `PortLimitsFailOrPark`, clauses 7 to 12 can be met. -/
theorem witness_PortLimitsFailOrPark_2 :
    (∃ (s : State) (p : Fin 6), Live s ∧ ((port s p.val).mode = .active) ∧ ((port s p.val).statusWait = true) ∧ ((port s
      p.val).statusAt + 1250 ≤ s.tsc) ∧ 2 ≤ (port s p.val).statusMiss) ∧
    (∃ (s : State) (p : Fin 6), Live s ∧ s.tsc < (port s p.val).sentAt + replyLimit (port s p.val) ∧ ((port s
      p.val).statusWait = false ∨ s.tsc < (port s p.val).statusAt + 1250)) ∧
    (∃ (s : State) (p : Fin 6) (l : Fin 16), Live s ∧ ((port s p.val).mode = .active) ∧ bitAt (laneMask (port s p.val)) l.val
      = true ∧ ((port s p.val).halfWidth = true ∨ halfPermitted s p.val = false)) ∧
    (∃ (s : State) (p : Fin 6) (l : Fin 16), Live s ∧ ((port s p.val).mode = .active) ∧ bitAt (laneMask (port s p.val)) l.val
      = true ∧ ((port s p.val).halfWidth = false) ∧ halfPermitted s p.val = true) ∧
    (∃ (s : State) (p : Fin 6) (l : Fin 16), Live s ∧ ((port s p.val).mode = .train) ∧ bitAt (laneMask (port s p.val)) l.val
      = true ∧ ((port s p.val).trainTries = 0)) ∧
    (∃ (s : State) (p : Fin 6) (l : Fin 16), Live s ∧ bitAt (laneMask (port s p.val)) l.val = false) :=
  ⟨⟨{ portIs { mode := .active, statusWait := true, statusMiss := 2, statusAt := 5 } with tsc := 1255 }, 0, live_of (by
    decide), by decide, by decide, by decide, by decide⟩,
   ⟨{ portIs { mode := .hello, sentAt := 5 } with tsc := 2504 }, 0, live_of (by decide), by decide, by decide⟩,
   ⟨portIs { mode := .active, half := 0, halfWidth := true, excluded := some 1, lanes := 0xFFFF }, 0, 0, live_of (by
    decide), by decide, by decide, by decide⟩,
   ⟨{ portIs { mode := .active } with img := { cfg := some { twoPorts with links := [{ degradedVariant := 1 }] } } }, 0, 0,
    live_of (by decide), by decide, by decide, by decide, by decide⟩,
   ⟨portIs { mode := .train, lanes := 0xFFFF }, 0, 7, live_of (by decide), by decide, by decide, by decide⟩,
   ⟨portIs { mode := .active, halfWidth := true, half := 0 }, 0, 15, live_of (by decide), by decide⟩⟩

/-- The hypotheses of `PortLimitsFailOrPark`, clauses 13 to 18 can be met. -/
theorem witness_PortLimitsFailOrPark_3 :
    (∃ (s : State) (p : Fin 6), Live s ∧ ((port s p.val).mode = .active ∨ (port s p.val).mode = .parked)) ∧
    (∃ (s : State) (p : Fin 6), Live s ∧ ((port s p.val).mode ≠ .active) ∧ ((port s p.val).mode ≠ .parked)) ∧
    (∃ (s : State) (p : Fin 6) (a : Nat), Live s ∧ ((port s p.val).mode ≠ .disabled) ∧ ((port s p.val).mode ≠ .failed) ∧
      ((port s p.val).parkAt = some a) ∧ a + 2500 ≤ s.tsc) ∧
    (∃ (s : State) (p : Fin 6), Live s ∧ ((port s p.val).parkAt = none ∨ (∃ a, (port s p.val).parkAt = some a ∧ s.tsc < a +
      2500))) ∧
    (∃ (s : State) (p : Fin 6) (bl : BitVec 8) (ro : BitVec 8), Live s ∧ ((port s p.val).mode ≠ .disabled) ∧ ((port s
      p.val).mode ≠ .failed)) ∧
    (∃ (s : State) (p : Fin 6), Live s ∧ ((port s p.val).mode ≠ .disabled) ∧ ((port s p.val).mode ≠ .failed)) :=
  ⟨⟨portIs { mode := .parked }, 0, live_of (by decide), by decide⟩,
   ⟨up, 0, live_of (by decide), by decide, by decide⟩,
   ⟨{ portIs { mode := .active, parkAt := some 5 } with tsc := 2505 }, 0, 5, live_of (by decide), by decide, by decide, by
    decide, by decide⟩,
   ⟨up, 0, live_of (by decide), (Or.inl rfl)⟩,
   ⟨portIs { mode := .active }, 0, 15, 135, live_of (by decide), by decide, by decide⟩,
   ⟨portIs { mode := .active }, 0, live_of (by decide), by decide, by decide⟩⟩

/-- The hypotheses of `PortLimitsFailOrPark`, clauses 19 to 20 can be met. -/
theorem witness_PortLimitsFailOrPark_4 :
    (∃ (s : State) (p : Fin 6), Live s ∧ ((port s p.val).mode = .hello) ∧ ((port s p.val).attempts < 4)) ∧
    (∃ (s : State) (p : Fin 6) (op : BitVec 8), Live s ∧ ((port s p.val).mode = .active) ∧ op.toNat ≠ 5 ∧ op.toNat ≠ 6) :=
  ⟨⟨portIs { mode := .hello, attempts := 3 }, 0, live_of (by decide), by decide, by decide⟩,
   ⟨portIs { mode := .active }, 0, 1, live_of (by decide), by decide, by decide, by decide⟩⟩

/-- The hypotheses of `PortCommandsRetrainParkAndAsk`, clauses 1 to 6 can be met. -/
theorem witness_PortCommandsRetrainParkAndAsk_1 :
    (∃ (s : State) (c : Cmd) (p : Nat), Serving s 0x0801 c ∧ p = c.unit.toNat ∧ byteAt (bodyOf c) 0 ≤ 1 ∧ leAt (bodyOf c) 1 3
      = 0 ∧ plkRefused s = false ∧ portEnabled s p = true ∧ ((port s p).mode ≠ .disabled)) ∧
    (∃ (s : State) (c : Cmd) (p : Nat), Serving s 0x0802 c ∧ p = c.unit.toNat ∧ byteAt (bodyOf c) 0 ≤ 1 ∧ leAt (bodyOf c) 1 3
      = 0 ∧ plkRefused s = false ∧ ((port s p).mode = .active)) ∧
    (∃ (s : State) (c : Cmd) (p : Nat), Serving s 0x0803 c ∧ p = c.unit.toNat ∧ plkRefused s = false ∧ ((port s p).mode =
      .parked) ∧ ((port s p).cause = 16 ∨ (port s p).cause = 17) ∧ ((port s p).halfWidth = false ∨ variantReady s p = true)) ∧
    (∃ (s : State) (c : Cmd) (p : Nat), Serving s 0x0803 c ∧ p = c.unit.toNat ∧ plkRefused s = false ∧ ((port s p).mode =
      .parked) ∧ ((port s p).cause = 16 ∨ (port s p).cause = 17) ∧ ((port s p).halfWidth = true) ∧ variantReady s p = false) ∧
    (∃ (s : State) (c : Cmd) (p : Nat), Serving s 0x0804 c ∧ p = c.unit.toNat ∧ plkRefused s = false ∧ ((port s p).mode =
      .parked ∨ (port s p).mode = .active)) ∧
    (∃ (s : State) (c : Cmd), Serving s 0x0801 c ∧ byteAt (bodyOf c) 0 ≤ 1 ∧ leAt (bodyOf c) 1 3 = 0 ∧ (plkRefused s = true ∨
      portEnabled s c.unit.toNat = false ∨ (port s c.unit.toNat).mode = .disabled)) :=
  ⟨⟨portIs { mode := .failed }, cmd 0 [1, 0, 0, 0], 0, serving_of (by decide), by decide, by decide, by decide, by decide,
    by decide, by decide⟩,
   ⟨portIs { mode := .active }, zeros 0 4, 0, serving_of (by decide), by decide, by decide, by decide, by decide, by decide⟩,
   ⟨portIs { mode := .parked, cause := 16 }, zeros 0 0, 0, serving_of (by decide), by decide, by decide, by decide, by
    decide, by decide⟩,
   ⟨{ portIs { mode := .parked, cause := 17, halfWidth := true } with rck := { next := some ⟨1, 1, 0, .degraded, false, 0⟩ } },
    zeros 0 0, 0, serving_of (by decide), by decide, by decide, by decide, by decide, by decide, by decide⟩,
   ⟨portIs { mode := .parked }, zeros 0 0, 0, serving_of (by decide), by decide, by decide, by decide⟩,
   ⟨still, zeros 5 4, serving_of (by decide), by decide, by decide, by decide⟩⟩

/-- The hypotheses of `PortCommandsRetrainParkAndAsk`, clauses 7 to 12 can be met. -/
theorem witness_PortCommandsRetrainParkAndAsk_2 :
    (∃ (s : State) (c : Cmd), Serving s 0x0802 c ∧ byteAt (bodyOf c) 0 ≤ 1 ∧ leAt (bodyOf c) 1 3 = 0 ∧ (plkRefused s = true ∨
      (port s c.unit.toNat).mode ≠ .active)) ∧
    (∃ (s : State) (c : Cmd), Serving s 0x0803 c ∧ (plkRefused s = true ∨ (port s c.unit.toNat).mode ≠ .parked ∨ ((port s
      c.unit.toNat).cause ≠ 16 ∧ (port s c.unit.toNat).cause ≠ 17))) ∧
    (∃ (s : State) (c : Cmd), Serving s 0x0804 c ∧ (plkRefused s = true ∨ ((port s c.unit.toNat).mode ≠ .parked ∧ (port s
      c.unit.toNat).mode ≠ .active))) ∧
    (∃ (s : State) (c : Cmd), Serving s 0x0801 c ∧ (1 < byteAt (bodyOf c) 0 ∨ leAt (bodyOf c) 1 3 ≠ 0)) ∧
    (∃ (s : State) (c : Cmd), Serving s 0x0802 c ∧ (1 < byteAt (bodyOf c) 0 ∨ leAt (bodyOf c) 1 3 ≠ 0)) ∧
    (∃ (s : State) (p : Fin 6) (st : BitVec 8) (re : BitVec 32) (fe : BitVec 32), Live s ∧ ((port s p.val).mode = .active)) :=
  ⟨⟨still, zeros 5 4, serving_of (by decide), by decide, by decide, by decide⟩,
   ⟨still, zeros 5 0, serving_of (by decide), by decide⟩,
   ⟨still, zeros 5 0, serving_of (by decide), by decide⟩,
   ⟨up, cmd 0 [2, 0, 0, 0], serving_of (by decide), by decide⟩,
   ⟨up, cmd 0 [0, 0, 0, 1], serving_of (by decide), by decide⟩,
   ⟨portIs { mode := .active }, 0, 2, 0, 0, live_of (by decide), by decide⟩⟩

/-- The hypotheses of `PortCommandsRetrainParkAndAsk`, clauses 13 to 15 can be met. -/
theorem witness_PortCommandsRetrainParkAndAsk_3 :
    (∃ (s : State) (p : Fin 6) (st : BitVec 8) (fl : BitVec 8) (re : BitVec 32) (fe : BitVec 32), Live s ∧ ((port s
      p.val).mode ≠ .disabled) ∧ ((port s p.val).mode ≠ .failed) ∧ fl ≠ 0) ∧
    (∃ (s : State) (p : Fin 6), Live s ∧ ((port s p.val).mode = .active) ∧ ((port s p.val).statusWait = false) ∧ ((port s
      p.val).statusAt + bits (regN s (portBase p.val + 4)) 15 8 * 250000 ≤ s.tsc)) ∧
    (∃ (s : State) (p : Fin 6), Live s ∧ ((port s p.val).mode ≠ .active ∨ (port s p.val).statusWait = true ∨ s.tsc < (port s
      p.val).statusAt + bits (regN s (portBase p.val + 4)) 15 8 * 250000)) :=
  ⟨⟨portIs { mode := .active }, 0, 0, 1, 0, 0, live_of (by decide), by decide, by decide, by decide⟩,
   ⟨{ portIs { mode := .active, statusAt := 0 } with regs := [(portBase 0 + 4, 0)] }, 0, live_of (by decide), by decide, by
    decide, by decide⟩,
   ⟨up, 0, live_of (by decide), by decide⟩⟩

/-- The hypotheses of `BanksRearmAndGoSafe` can be met. -/
theorem witness_BanksRearmAndGoSafe :
    (∃ (s : State) (c : Cmd) (m : Nat), Serving s 0x0901 c ∧ m = leAt (bodyOf c) 0 2 ∧ m < 4096 ∧ banksAbsent s m = false ∧
      rearmBlocked s m = false ∧ inSwitch s = false ∧ (∀ b, b < 12 → bitAt m b = true → (bankAt s b).mode = .safe ∨ (bankAt s
      b).mode = .opened)) ∧
    (∃ (s : State) (c : Cmd), Serving s 0x0902 c ∧ byteAt (bodyOf c) 0 ≤ 1) ∧
    (∃ (s : State) (c : Cmd) (m : Nat), Serving s 0x0901 c ∧ m = leAt (bodyOf c) 0 2 ∧ m < 4096 ∧ banksAbsent s m = false ∧
      ((∃ b, b < 12 ∧ bitAt m b = true ∧ bitAt (vget s.thm.sensor (17 + b) {}).asserted 0 = true) ∨ bitAt (vget s.thm.sensor 0
      {}).asserted 3 = true)) ∧
    (∃ (s : State) (c : Cmd) (m : Nat), Serving s 0x0901 c ∧ m = leAt (bodyOf c) 0 2 ∧ m < 4096 ∧ banksAbsent s m = false ∧
      (interlockOpen s = true ∨ fatalHeld s = true ∨ inSwitch s = true ∨ (∃ b, b < 12 ∧ bitAt m b = true ∧ (bankAt s b).mode ≠
      .safe ∧ (bankAt s b).mode ≠ .opened))) :=
  ⟨⟨{ bankIs { mode := .safe } with pins := { intlkAHigh := true } }, cmd 0 [1, 0], 1, serving_of (by decide), by decide, by
    decide, by decide, by decide, by decide, by decide⟩,
   ⟨up, cmd 0 [1], serving_of (by decide), by decide⟩,
   ⟨sensorIs 28 { asserted := 1 }, cmd 0 [0, 8], 2048, serving_of (by decide), by decide, by decide, by decide, (Or.inl ⟨11,
    by decide⟩)⟩,
   ⟨{ up with pins := { intlkBHigh := true } }, zeros 0 2, 0, serving_of (by decide), by decide, by decide, by decide, by
    decide⟩⟩

/-- The hypotheses of `LightCommandsAndDerating`, clauses 1 to 6 can be met. -/
theorem witness_LightCommandsAndDerating_1 :
    (∃ (s : State) (c : Cmd) (l : Nat) (r : Nat), Serving s 0x0903 c ∧ l = leAt (bodyOf c) 0 2 ∧ r = leAt (bodyOf c) 2 2 ∧ l
      ≤ 4095 ∧ r ≤ 10000 ∧ inSwitch s = false ∧ s.thm.stopAt = none) ∧
    (∃ (s : State) (c : Cmd) (l : Nat), Serving s 0x0903 c ∧ l = leAt (bodyOf c) 0 2 ∧ leAt (bodyOf c) 2 2 ≤ 10000 ∧ l ≤ 4095
      ∧ inSwitch s = false ∧ s.thm.stopAt.isSome = true) ∧
    (∃ (s : State) (c : Cmd), Switching s ∧ canFetch s = true ∧ s.hmi.inFlight = [] ∧ headerCheck s 0x0903 c = none ∧
      ((opDomains 0x0903 c.unit.toNat).all (domainOn s) = true) ∧ leAt (bodyOf c) 0 2 ≤ 4095 ∧ leAt (bodyOf c) 2 2 ≤ 10000 ∧
      inSwitch s = true) ∧
    (∃ (s : State) (c : Cmd), Serving s 0x0905 c ∧ leAt (bodyOf c) 0 1 ≤ 1 ∧ s.ftgOn = true) ∧
    (∃ (s : State) (c : Cmd), Serving s 0x0905 c ∧ leAt (bodyOf c) 0 1 ≤ 1 ∧ s.ftgOn = false) ∧
    (∃ (s : State) (c : Cmd) (k : Nat) (f : Nat), Serving s 0x0906 c ∧ k = c.unit.toNat ∧ f = leAt (bodyOf c) 4 4 ∧ leAt
      (bodyOf c) 0 1 = 1 ∧ leAt (bodyOf c) 1 3 = 0 ∧ f ≤ 65536) :=
  ⟨⟨up, cmd 0 [0xFF, 0x0F, 0x10, 0x27], 4095, 10000, serving_of (by decide), by decide, by decide, by decide, by decide, by
    decide, by decide⟩,
   ⟨{ up with thm := { stopAt := some 900 } }, cmd 0 [0xFF, 0x0F, 0x10, 0x27], 4095, serving_of (by decide), by decide, by
    decide, by decide, by decide, by decide⟩,
   ⟨imgIs { state := .quiesced, act := some ⟨.activate, none, 0⟩ }, zeros 0 4, switching_of (by decide), by decide, by
    decide, by decide, by decide, by decide, by decide, by decide⟩,
   ⟨up, cmd 0 [1], serving_of (by decide), by decide, by decide⟩,
   ⟨still, zeros 0 1, serving_of (by decide), by decide, by decide⟩,
   ⟨up, cmd 2 [1, 0, 0, 0, 0, 0, 1, 0], 2, 65536, serving_of (by decide), by decide, by decide, by decide, by decide, by
    decide⟩⟩

/-- The hypotheses of `LightCommandsAndDerating`, clauses 7 to 12 can be met. -/
theorem witness_LightCommandsAndDerating_2 :
    (∃ (s : State) (c : Cmd) (k : Nat), Serving s 0x0906 c ∧ k = c.unit.toNat ∧ leAt (bodyOf c) 0 4 = 0 ∧ leAt (bodyOf c) 4 4
      = 0) ∧
    (∃ (s : State) (c : Cmd) (b : Nat), Serving s 0x0907 c ∧ b = c.unit.toNat ∧ ((bankAt s b).mode = .linkFailed ∨ (bankAt s
      b).mode = .safe ∨ (bankAt s b).mode = .opened)) ∧
    (∃ (s : State) (c : Cmd) (b : Nat), Serving s 0x0907 c ∧ b = c.unit.toNat ∧ ((bankAt s b).mode = .armed ∨ (bankAt s
      b).mode = .paused ∨ (bankAt s b).mode = .starting ∨ (bankAt s b).mode = .short ∨ (bankAt s b).mode = .disabled)) ∧
    (∃ (s : State) (c : Cmd) (m : Nat) (b : Nat), Serving s 0x0904 c ∧ m = leAt (bodyOf c) 0 2 ∧ m < 4096 ∧ banksAbsent s m =
      false ∧ (∀ x, x < 12 → bitAt m x = true → (bankAt s x).mode ≠ .armed ∧ (bankAt s x).mode ≠ .starting ∧ (bankAt s x).mode
      ≠ .paused) ∧ bitAt m b = true ∧ ((bankAt s b).mode = .safe ∨ (bankAt s b).mode = .opened)) ∧
    (∃ (s : State) (c : Cmd) (m : Nat) (b : Nat) (k : Nat), Serving s 0x0904 c ∧ m = leAt (bodyOf c) 0 2 ∧ m < 4096 ∧
      banksAbsent s m = false ∧ (∀ x, x < 12 → bitAt m x = true → (bankAt s x).mode ≠ .armed ∧ (bankAt s x).mode ≠ .starting ∧
      (bankAt s x).mode ≠ .paused) ∧ b < 12 ∧ bitAt m b = true ∧ k ≤ 6) ∧
    (∃ (s : State), Live s ∧ s.tsc < s.lsd.derateAt + 250000) :=
  ⟨⟨up, zeros 2 8, 2, serving_of (by decide), by decide, by decide, by decide⟩,
   ⟨bankIs { mode := .safe }, zeros 0 0, 0, serving_of (by decide), by decide, by decide⟩,
   ⟨bankIs { mode := .armed }, zeros 0 0, 0, serving_of (by decide), by decide, by decide⟩,
   ⟨bankIs { mode := .opened }, cmd 0 [1, 0], 1, 0, serving_of (by decide), by decide, by decide, by decide, by decide, by
    decide, by decide⟩,
   ⟨bankIs { mode := .safe }, cmd 0 [1, 0], 1, 0, 6, serving_of (by decide), by decide, by decide, by decide, by decide, by
    decide, by decide, by decide⟩,
   ⟨up, live_of (by decide), by decide⟩⟩

/-- The hypotheses of `LightCommandsAndDerating`, clauses 13 to 13 can be met. -/
theorem witness_LightCommandsAndDerating_3 :
    ∃ (s : State), Live s ∧ s.lsd.derateAt + 250000 ≤ s.tsc ∧ s.lsd.fNew.length = 3 :=
  ⟨{ up with tsc := 250000 }, live_of (by decide), by decide, by decide⟩

/-- The hypotheses of `DriverLinksStartAndAnswer`, clauses 1 to 6 can be met. -/
theorem witness_DriverLinksStartAndAnswer_1 :
    (∃ (s : State) (b : Fin 12) (r : LinkFound) (i : Nat), Live s ∧ ((bankAt s b.val).linking = true) ∧ ((bankAt s
      b.val).mode = .starting) ∧ i < 4 ∧ r.phases.getD i 0 % 256 ≠ 0 ∧ ((cfg s).light.dlinkMinVer ≤ r.verMax) ∧ r.delay ≤ 40 ∧
      r.verMin ≤ min 2 r.verMax ∧ 1 ≤ r.verMax ∧ r.probe = true) ∧
    (∃ (s : State) (b : Fin 12) (r : LinkFound), Live s ∧ ((bankAt s b.val).linking = true) ∧ (∀ i, i < 4 → r.phases.getD i 0
      % 256 = 0)) ∧
    (∃ (s : State) (b : Fin 12) (r : LinkFound) (i : Nat), Live s ∧ ((bankAt s b.val).linking = true) ∧ i < 4 ∧ r.phases.getD
      i 0 % 256 ≠ 0 ∧ r.verMax < (cfg s).light.dlinkMinVer) ∧
    (∃ (s : State) (b : Fin 12) (r : LinkFound) (i : Nat), Live s ∧ ((bankAt s b.val).linking = true) ∧ i < 4 ∧ r.phases.getD
      i 0 % 256 ≠ 0 ∧ ((cfg s).light.dlinkMinVer ≤ r.verMax) ∧ 40 < r.delay) ∧
    (∃ (s : State) (b : Fin 12) (r : LinkFound), Live s ∧ ((bankAt s b.val).linking = false)) ∧
    (∃ (s : State) (b : Fin 12) (ty : BitVec 3) (da : BitVec 16) (fl : BitVec 2) (ck : BitVec 7) (v : Nat) (f : Nat), Live s
      ∧ linkInUse s b.val = true ∧ v = (bankAt s b.val).version ∧ f = replyFrame v ty.toNat da.toNat fl.toNat ck.toNat ∧
      replyOk v f = true ∧ replyType f ≤ 1 ∧ replyFlags v f < 2) :=
  ⟨⟨bankIs { mode := .starting, linking := true }, 0, ⟨false, [1, 0, 0, 0], 1, 2, 40, true⟩, 0, live_of (by decide), by
    decide, by decide, by decide, by decide, by decide, by decide, by decide, by decide, by decide⟩,
   ⟨bankIs { mode := .starting, linking := true }, 0, ⟨false, [0, 0, 0, 0], 1, 2, 40, true⟩, live_of (by decide), by decide,
    by decide⟩,
   ⟨{ bankIs { mode := .starting, linking := true } with img := { cfg := some { light := { dlinkMinVer := 3 } } } }, 0,
    ⟨false, [1, 0, 0, 0], 1, 2, 40, true⟩, 0, live_of (by decide), by decide, by decide, by decide, by decide⟩,
   ⟨{ bankIs { mode := .starting, linking := true } with img := { cfg := some { light := { dlinkMinVer := 2 } } } }, 0,
    ⟨false, [0, 0, 0, 1], 1, 2, 41, true⟩, 3, live_of (by decide), by decide, by decide, by decide, by decide, by decide⟩,
   ⟨up, 11, ⟨false, [1, 0, 0, 0], 1, 2, 40, true⟩, live_of (by decide), by decide⟩,
   ⟨bankIs { linkRun := true, version := 1 }, 0, 1, 4095, 1, BitVec.ofNat 7 (dlinkFrame 1 1 4095 1 % 128), 1, replyFrame 1 1
    4095 1 (dlinkFrame 1 1 4095 1 % 128), live_of (by decide), by decide, by decide, by decide, by decide, by decide, by
    decide⟩⟩

/-- The hypotheses of `DriverLinksStartAndAnswer`, clauses 7 to 12 can be met. -/
theorem witness_DriverLinksStartAndAnswer_2 :
    (∃ (s : State) (b : Fin 12) (ty : BitVec 3) (da : BitVec 16) (fl : BitVec 2) (ck : BitVec 7) (v : Nat) (f : Nat), Live s
      ∧ linkInUse s b.val = true ∧ v = (bankAt s b.val).version ∧ f = replyFrame v ty.toNat da.toNat fl.toNat ck.toNat ∧
      replyOk v f = true ∧ replyType f ≠ 7 ∧ 2 ≤ replyFlags v f ∧ ((bankAt s b.val).drvFault = false)) ∧
    (∃ (s : State) (b : Fin 12) (ty : BitVec 3) (da : BitVec 16) (fl : BitVec 2) (ck : BitVec 7) (v : Nat) (f : Nat), Live s
      ∧ linkInUse s b.val = true ∧ v = (bankAt s b.val).version ∧ f = replyFrame v ty.toNat da.toNat fl.toNat ck.toNat ∧
      (replyOk v f = false ∨ replyType f = 7) ∧ ((bankAt s b.val).errRun < 3)) ∧
    (∃ (s : State) (b : Fin 12), Live s ∧ linkInUse s b.val = true ∧ ((bankAt s b.val).errRun < 3)) ∧
    (∃ (s : State) (b : Fin 12), Live s ∧ linkInUse s b.val = true ∧ 3 ≤ (bankAt s b.val).errRun) ∧
    (∃ (s : State) (b : Fin 12) (ty : BitVec 3) (da : BitVec 16) (fl : BitVec 2) (ck : BitVec 7), Live s ∧ linkInUse s b.val
      = false) ∧
    (∃ (s : State) (b : Fin 12), Live s ∧ ((bankAt s b.val).mode = .armed) ∧ ((bankAt s b.val).unverified = false) ∧ ((bankAt
      s b.val).windowAt + 250000000 ≤ s.tsc) ∧ ((bankAt s b.val).code = 0 ∨ s.tsc < (bankAt s b.val).codeAt + 375)) :=
  ⟨⟨bankIs { linkRun := true, version := 1 }, 0, 0, 0, 2, BitVec.ofNat 7 (dlinkFrame 1 0 0 2 % 128), 1, replyFrame 1 0 0 2
    (dlinkFrame 1 0 0 2 % 128), live_of (by decide), by decide, by decide, by decide, by decide, by decide, by decide, by
    decide⟩,
   ⟨bankIs { linkRun := true, version := 1, errRun := 2 }, 0, 0, 0, 0, BitVec.ofNat 7 (0), 1, replyFrame 1 0 0 0 (0),
    live_of (by decide), by decide, by decide, by decide, by decide, by decide⟩,
   ⟨bankIs { linkRun := true, version := 1, errRun := 2 }, 0, live_of (by decide), by decide, by decide⟩,
   ⟨bankIs { linkRun := true, version := 1, errRun := 3 }, 0, live_of (by decide), by decide, by decide⟩,
   ⟨up, 11, 0, 0, 0, 0, live_of (by decide), by decide⟩,
   ⟨{ bankIs { mode := .armed, windowAt := 5 } with tsc := 250000005 }, 0, live_of (by decide), by decide, by decide, by
    decide, by decide⟩⟩

/-- The hypotheses of `DriverLinksStartAndAnswer`, clauses 13 to 13 can be met. -/
theorem witness_DriverLinksStartAndAnswer_3 :
    ∃ (s : State) (b : Fin 12), Live s ∧ ((bankAt s b.val).mode ≠ .armed ∨ (bankAt s b.val).unverified = true ∨ s.tsc <
      (bankAt s b.val).windowAt + 250000000) :=
  ⟨up, 11, live_of (by decide), by decide⟩

/-- The hypotheses of `LoopTicksComputeSlots`, clauses 1 to 6 can be met. -/
theorem witness_LoopTicksComputeSlots_1 :
    (∃ (s : State) (l : List Nat) (st : List (Nat × StoreError)), Live s ∧ (s.tsc % 250 ≠ 0 ∨ s.lpe.lastTick = some s.tsc)) ∧
    (∃ (s : State) (l : List Nat), Live s ∧ s.tsc % 250 = 0 ∧ s.lpe.lastTick ≠ some s.tsc ∧ s.lpe.active = false ∧
      (s.hls.mode = .disabled ∨ s.hls.mode = .parked ∨ s.hls.mode = .failed) ∧ (∀ b, b < 12 → (bankAt s b).mode ≠ .armed) ∧ (∀
      i, i < 24 → (slotAt s i).swaps = [] ∧ (slotAt s i).resets = [])) ∧
    (∃ (s : State) (l : List Nat) (i : Nat), Live s ∧ s.tsc % 250 = 0 ∧ s.lpe.lastTick ≠ some s.tsc ∧ i < 24 ∧ ((slotAt s
      i).kind = 1) ∧ slotIdle s (slotAt s i) = false ∧ ((slotAt s i).swaps = []) ∧ ((slotAt s i).resets = []) ∧ ((slotAt s
      i).window = true) ∧ ((slotAt s i).late = false) ∧ (∀ j, j < 24 → j ≠ i → (slotAt s j).kind = 1 → (slotAt s j).target ≠
      (slotAt s i).target)) ∧
    (∃ (s : State) (l : List Nat) (i : Nat) (y : Int) (x : Slot), Live s ∧ s.tsc % 250 = 0 ∧ s.lpe.lastTick ≠ some s.tsc ∧ i
      < 24 ∧ hlsSlot s 3 = some i ∧ (s.hls.mode = .starting ∨ s.hls.mode = .running) ∧ s.lpe.active = true ∧ ((slotAt s
      i).storeErr = false) ∧ ((slotAt s i).swaps = []) ∧ ((slotAt s i).resets = []) ∧ y = (correct s (adcChannel s (slotAt s
      i).input) (l.getD (slotAt s i).input 0) * 65536 : Nat) ∧ x = slewStep { slotAt s i with idle := false, fb := y } (regN s
      (slotBase i + 0x20))) ∧
    (∃ (s : State) (l : List Nat) (st : List (Nat × StoreError)) (i : Nat) (w : Swap) (r : List Swap), Live s ∧ s.tsc % 250 =
      0 ∧ s.lpe.lastTick ≠ some s.tsc ∧ i < 24 ∧ ((slotAt s i).swaps = w :: r)) ∧
    (∃ (s : State) (l : List Nat) (i : Nat), Live s ∧ s.tsc % 250 = 0 ∧ s.lpe.lastTick ≠ some s.tsc ∧ i < 24 ∧ ((slotAt s
      i).kind ≠ 0) ∧ ((slotAt s i).resets = [])) :=
  ⟨⟨{ up with tsc := 1001 }, List.replicate 16 0, [], live_of (by decide), by decide⟩,
   ⟨up, List.replicate 16 0, live_of (by decide), by decide, by decide, by decide, by decide, by decide, by decide⟩,
   ⟨{ up with lpe := { running := true, active := true, slot := vset up.lpe.slot 0 { kind := 1, window := true } }, lsd := { bank := vset up.lsd.bank 0 { mode := .armed, nom := 1 } } },
    List.replicate 16 0, 0, live_of (by decide), by decide, by decide, by decide, by decide, by decide, by decide, by decide,
    by decide, by decide, by decide⟩,
   ⟨{ slotIs { kind := 3, tgt := 65536 } with hls := { mode := .running } }, List.replicate 16 9, 0, (correct
    ({ slotIs { kind := 3, tgt := 65536 } with hls := { mode := .running } }) (adcChannel
    ({ slotIs { kind := 3, tgt := 65536 } with hls := { mode := .running } }) (slotAt
    ({ slotIs { kind := 3, tgt := 65536 } with hls := { mode := .running } }) 0).input) 9 * 65536 : Nat), slewStep
    { slotAt ({ slotIs { kind := 3, tgt := 65536 } with hls := { mode := .running } }) 0 with idle := false, fb := (correct ({ slotIs { kind := 3, tgt := 65536 } with hls := { mode := .running } }) (adcChannel ({ slotIs { kind := 3, tgt := 65536 } with hls := { mode := .running } }) (slotAt ({ slotIs { kind := 3, tgt := 65536 } with hls := { mode := .running } }) 0).input) 9 * 65536 : Nat) }
    (regN ({ slotIs { kind := 3, tgt := 65536 } with hls := { mode := .running } }) (slotBase 0 + 0x20)), live_of (by
    decide), by decide, by decide, by decide, by decide, by decide, by decide, by decide, by decide, by decide, by decide, by
    decide⟩,
   ⟨slotIs { kind := 1, swaps := [⟨7, true, none⟩] }, List.replicate 16 0, [], 0, ⟨7, true, none⟩, [], live_of (by decide),
    by decide, by decide, by decide, by decide⟩,
   ⟨slotIs { kind := 1 }, List.replicate 16 0, 0, live_of (by decide), by decide, by decide, by decide, by decide, by
    decide⟩⟩

/-- The hypotheses of `LoopTicksComputeSlots`, clauses 7 to 12 can be met. -/
theorem witness_LoopTicksComputeSlots_2 :
    (∃ (s : State) (l : List Nat) (i : Nat), Live s ∧ s.tsc % 250 = 0 ∧ s.lpe.lastTick ≠ some s.tsc ∧ i < 24 ∧ ((slotAt s
      i).kind ≠ 0)) ∧
    (∃ (s : State) (c : Cmd) (i : Nat) (mn : Nat) (mx : Nat), Serving s 0x0A01 c ∧ i = c.unit.toNat ∧ leAt (bodyOf c) 0 1 ≤ 1
      ∧ leAt (bodyOf c) 1 1 = 1 ∧ leAt (bodyOf c) 2 2 = 0 ∧ mn = leAt (bodyOf c) 4 4 ∧ mx = leAt (bodyOf c) 8 4 ∧ signed 32 mn
      < signed 32 mx ∧ lpeRefused s i = false) ∧
    (∃ (s : State) (c : Cmd) (i : Nat), Serving s 0x0A01 c ∧ i = c.unit.toNat ∧ leAt (bodyOf c) 0 1 ≤ 1 ∧ leAt (bodyOf c) 1
      11 = 0 ∧ lpeRefused s i = false) ∧
    (∃ (s : State) (c : Cmd), Serving s 0x0A01 c ∧ leAt (bodyOf c) 0 1 ≤ 1 ∧ leAt (bodyOf c) 1 11 = 0 ∧ lpeRefused s
      c.unit.toNat = true) ∧
    (∃ (s : State) (c : Cmd), Serving s 0x0A01 c ∧ (1 < leAt (bodyOf c) 0 1 ∨ 1 < leAt (bodyOf c) 1 1 ∨ leAt (bodyOf c) 2 2 ≠
      0)) ∧
    (∃ (s : State) (c : Cmd) (i : Nat), Serving s 0x0A02 c ∧ i = c.unit.toNat ∧ lpeRefused s i = false) :=
  ⟨⟨slotIs { kind := 1 }, List.replicate 16 0, 0, live_of (by decide), by decide, by decide, by decide, by decide⟩,
   ⟨{ slotIs { kind := 1 } with img := { cfg := some {} } }, cmd 0 [1, 1, 0, 0, 0, 0, 0, 0x80, 0, 0, 0, 0], 0, 0x80000000,
    0, serving_of (by decide), by decide, by decide, by decide, by decide, by decide, by decide, by decide, by decide⟩,
   ⟨{ slotIs { kind := 1 } with img := { cfg := some {} } }, cmd 0 ([1] ++ List.replicate 11 0), 0, serving_of (by decide),
    by decide, by decide, by decide, by decide⟩,
   ⟨up, zeros 23 12, serving_of (by decide), by decide, by decide, by decide⟩,
   ⟨up, cmd 0 ([2] ++ List.replicate 11 0), serving_of (by decide), by decide⟩,
   ⟨{ slotIs { kind := 1 } with img := { cfg := some {} } }, zeros 0 0, 0, serving_of (by decide), by decide, by decide⟩⟩

/-- The hypotheses of `LoopTicksComputeSlots`, clauses 13 to 13 can be met. -/
theorem witness_LoopTicksComputeSlots_3 :
    ∃ (s : State) (c : Cmd), Serving s 0x0A02 c ∧ lpeRefused s c.unit.toNat = true :=
  ⟨up, zeros 23 0, serving_of (by decide), by decide⟩

/-- The hypotheses of `ScannerStartsAndParks`, clauses 1 to 6 can be met. -/
theorem witness_ScannerStartsAndParks_1 :
    (∃ (s : State) (c : Cmd), Serving s 0x0B01 c ∧ (s.hls.mode = .parked ∨ s.hls.mode = .failed) ∧ s.ftgOn = true ∧
      s.hls.parkTrigAt ≠ some s.tsc ∧ incOutside s (incStart s) = false) ∧
    (∃ (s : State) (c : Cmd), Serving s 0x0B01 c ∧ (s.hls.mode = .parked ∨ s.hls.mode = .failed) ∧ s.ftgOn = true ∧
      s.hls.parkTrigAt ≠ some s.tsc ∧ incOutside s (incStart s) = true) ∧
    (∃ (s : State) (c : Cmd), Serving s 0x0B01 c ∧ (s.ftgOn = false ∨ (s.hls.mode ≠ .parked ∧ s.hls.mode ≠ .failed) ∨
      s.hls.parkTrigAt = some s.tsc)) ∧
    (∃ (s : State) (c : Cmd), Serving s 0x0B02 c ∧ (s.hls.mode = .running ∨ s.hls.mode = .starting)) ∧
    (∃ (s : State) (c : Cmd), Serving s 0x0B02 c ∧ s.hls.mode = .parking) ∧
    (∃ (s : State) (c : Cmd), Serving s 0x0B02 c ∧ (s.hls.mode = .parked ∨ s.hls.mode = .failed)) :=
  ⟨⟨{ hlsIs { mode := .failed } with img := { cfg := some { scan := some { fMax := 24000100 } } } }, zeros 0 0, serving_of
    (by decide), by decide, by decide, by decide, by decide⟩,
   ⟨{ hlsIs { mode := .parked } with img := { cfg := some { scan := some { fMax := 23999000 } } } }, zeros 0 0, serving_of
    (by decide), by decide, by decide, by decide, by decide⟩,
   ⟨up, zeros 0 0, serving_of (by decide), by decide⟩,
   ⟨hlsIs { mode := .starting }, zeros 0 0, serving_of (by decide), by decide⟩,
   ⟨hlsIs { mode := .parking }, zeros 0 0, serving_of (by decide), by decide⟩,
   ⟨hlsIs { mode := .parked }, zeros 0 0, serving_of (by decide), by decide⟩⟩

/-- The hypotheses of `ScannerStartsAndParks`, clauses 7 to 12 can be met. -/
theorem witness_ScannerStartsAndParks_2 :
    (∃ (s : State) (c : Cmd), Serving s 0x0B02 c ∧ s.hls.mode = .disabled) ∧
    (∃ (s : State), Live s ∧ (s.hls.mode = .running ∨ s.hls.mode = .starting) ∧ 500000000000 ≤ (s.tsc - s.hls.crossAt) *
      (scanCfg s).fMin) ∧
    (∃ (s : State), Live s ∧ ((s.tsc - s.hls.crossAt) * (scanCfg s).fMin < 500000000000)) ∧
    (∃ (s : State), Live s ∧ s.hls.mode = .starting ∧ s.hls.locked = false ∧ s.hls.startedAt + bits (hlsReg s 0xC00014) 15 0
      * 250000 ≤ s.tsc) ∧
    (∃ (s : State), Live s ∧ (s.hls.mode ≠ .starting ∨ s.hls.locked = true ∨ s.tsc < s.hls.startedAt + bits (hlsReg s
      0xC00014) 15 0 * 250000)) ∧
    (∃ (s : State), Live s ∧ s.hls.mode = .parking ∧ slowNear s (parkPos s) = true ∧ s.hls.resume = false) :=
  ⟨⟨up, zeros 0 0, serving_of (by decide), by decide⟩,
   ⟨{ hlsIs { mode := .running } with img := { cfg := some { scan := some { fMin := 500000000 } } } }, live_of (by decide),
    by decide, by decide⟩,
   ⟨{ hlsIs { mode := .running } with img := { cfg := some { scan := some { fMin := 499999999 } } } }, live_of (by decide),
    by decide⟩,
   ⟨{ hlsIs { mode := .starting } with tsc := 125000000 }, live_of (by decide), by decide, by decide, by decide⟩,
   ⟨{ hlsIs { mode := .starting } with tsc := 124999999 }, live_of (by decide), by decide⟩,
   ⟨{ slotIs { kind := 3 } with hls := { mode := .parking, force := [0x40000000, 24000000, 2560, 256 * 65536 + 500, 64, 0xFFFF0000, 0, 0x0FFF0000, 0x0FFF0000, 0x0FFF0000] } },
    live_of (by decide), by decide, by decide, by decide⟩⟩

/-- The hypotheses of `ScannerStartsAndParks`, clauses 13 to 16 can be met. -/
theorem witness_ScannerStartsAndParks_3 :
    (∃ (s : State), Live s ∧ s.hls.mode = .parking ∧ slowNear s (parkPos s) = false) ∧
    (∃ (s : State), Live s ∧ s.hls.mode = .parking ∧ slowNear s (parkPos s) = false ∧ s.hls.resume = false ∧ s.hls.parkedAt +
      1250000 ≤ s.tsc) ∧
    (∃ (s : State), Live s ∧ s.tsc < s.hls.parkedAt + 1250000) ∧
    (∃ (s : State), Live s ∧ (s.hls.mode = .disabled ∨ s.hls.mode = .parked ∨ s.hls.mode = .failed)) :=
  ⟨⟨hlsIs
    { mode := .parking, force := [0x40000000, 24000000, 2560, 256 * 65536 + 500, 0, 0xFFFF0000, 60000, 0x0FFF0000, 0x0FFF0000, 0x0FFF0000] },
    live_of (by decide), by decide, by decide⟩,
   ⟨{ hlsIs { mode := .parking, force := [0x40000000, 24000000, 2560, 256 * 65536 + 500, 0, 0xFFFF0000, 60000, 0x0FFF0000, 0x0FFF0000, 0x0FFF0000] } with tsc := 1250000 },
    live_of (by decide), by decide, by decide, by decide, by decide⟩,
   ⟨up, live_of (by decide), by decide⟩,
   ⟨up, live_of (by decide), by decide⟩⟩

/-- The hypotheses of `CrossingsLockAndLinesAreDrawn`, clauses 1 to 6 can be met. -/
theorem witness_CrossingsLockAndLinesAreDrawn_1 :
    (∃ (s : State) (tick : Nat) (q : Fin 4) (a : BitVec 16) (b : BitVec 16) (mx : BitVec 16) (mn : BitVec 16) (i : Nat) (ch :
      Nat) (pp : Nat) (nom : Nat) (tol : Nat), Live s ∧ (s.hls.mode = .running ∨ s.hls.mode = .starting) ∧ hlsSlot s 2 = some i
      ∧ s.hls.period = none ∧ ch = adcChannel s (slotAt s i).input ∧ pp = correct s ch mx.toNat - correct s ch mn.toNat ∧ nom =
      bits (hlsReg s 0xC00010) 31 16 ∧ tol = bits (hlsReg s 0xC00010) 15 8 ∧ (nom = 0 ∨ (nom ≤ 2 * pp ∧ nom * (100 - tol) ≤ pp
      * 100 ∧ pp * 100 ≤ nom * (100 + tol)))) ∧
    (∃ (s : State) (tick : Nat) (q : Fin 4) (a : BitVec 16) (b : BitVec 16) (mx : BitVec 16) (mn : BitVec 16) (i : Nat) (ch :
      Nat) (hi : Nat) (lo : Nat) (v0 : Nat) (v1 : Nat) (pp : Nat) (nom : Nat) (tol : Nat), Live s ∧ (s.hls.mode = .running ∨
      s.hls.mode = .starting) ∧ hlsSlot s 2 = some i ∧ s.hls.period = some (hi, lo) ∧ ch = adcChannel s (slotAt s i).input ∧ v0
      = correct s ch a.toNat ∧ v1 = correct s ch b.toNat ∧ 2 * v0 < hi + lo ∧ hi + lo ≤ 2 * v1 ∧ pp = correct s ch mx.toNat -
      correct s ch mn.toNat ∧ nom = bits (hlsReg s 0xC00010) 31 16 ∧ tol = bits (hlsReg s 0xC00010) 15 8 ∧ (nom = 0 ∨ (nom ≤ 2
      * pp ∧ nom * (100 - tol) ≤ pp * 100 ∧ pp * 100 ≤ nom * (100 + tol)))) ∧
    (∃ (s : State) (tick : Nat) (q : Fin 4) (a : BitVec 16) (b : BitVec 16) (mx : BitVec 16) (mn : BitVec 16) (i : Nat) (ch :
      Nat), Live s ∧ (s.hls.mode = .running ∨ s.hls.mode = .starting) ∧ hlsSlot s 2 = some i ∧ ch = adcChannel s (slotAt s
      i).input ∧ (∀ hi lo, s.hls.period = some (hi, lo) → 2 * correct s ch a.toNat < hi + lo ∧ hi + lo ≤ 2 * correct s ch
      b.toNat) ∧ 2 * (correct s ch mx.toNat - correct s ch mn.toNat) < bits (hlsReg s 0xC00010) 31 16) ∧
    (∃ (s : State) (tick : Nat) (q : Fin 4) (a : BitVec 16) (b : BitVec 16) (mx : BitVec 16) (mn : BitVec 16) (i : Nat) (ch :
      Nat) (pp : Nat) (nom : Nat) (tol : Nat), Live s ∧ (s.hls.mode = .running ∨ s.hls.mode = .starting) ∧ hlsSlot s 2 = some i
      ∧ s.hls.period = none ∧ s.hls.amplOut = false ∧ ch = adcChannel s (slotAt s i).input ∧ pp = correct s ch mx.toNat -
      correct s ch mn.toNat ∧ nom = bits (hlsReg s 0xC00010) 31 16 ∧ tol = bits (hlsReg s 0xC00010) 15 8 ∧ nom ≠ 0 ∧ nom ≤ 2 *
      pp ∧ (pp * 100 < nom * (100 - tol) ∨ nom * (100 + tol) < pp * 100)) ∧
    (∃ (s : State) (tick : Nat) (q : Fin 4) (a : BitVec 16) (b : BitVec 16) (mx : BitVec 16) (mn : BitVec 16), Live s ∧
      ((s.hls.mode ≠ .running ∧ s.hls.mode ≠ .starting) ∨ hlsSlot s 2 = none)) ∧
    (∃ (s : State) (tick : Nat) (q : Fin 4) (a : BitVec 16) (b : BitVec 16) (mx : BitVec 16) (mn : BitVec 16) (i : Nat) (ch :
      Nat) (hi : Nat) (lo : Nat), Live s ∧ hlsSlot s 2 = some i ∧ ch = adcChannel s (slotAt s i).input ∧ s.hls.period = some
      (hi, lo) ∧ (hi + lo ≤ 2 * correct s ch a.toNat ∨ 2 * correct s ch b.toNat < hi + lo)) :=
  ⟨⟨{ slotIs { kind := 2 } with hls := { mode := .running } }, 990, 3, 0, 0, 60000, 0, 0, adcChannel up 0, correct
    ({ slotIs { kind := 2 } with hls := { mode := .running } }) (adcChannel up 0) 60000 - correct
    ({ slotIs { kind := 2 } with hls := { mode := .running } }) (adcChannel up 0) 0, 0, 10, live_of (by decide), by decide,
    by decide, by decide, by decide, by decide, by decide, by decide, by decide⟩,
   ⟨{ slotIs { kind := 2 } with hls := { mode := .running, period := some (60000, 0) } }, 990, 3, 29999, 30000, 60000, 0, 0,
    adcChannel up 0, 60000, 0, correct ({ slotIs { kind := 2 } with hls := { mode := .running, period := some (60000, 0) } })
    (adcChannel up 0) 29999, correct ({ slotIs { kind := 2 } with hls := { mode := .running, period := some (60000, 0) } })
    (adcChannel up 0) 30000, correct ({ slotIs { kind := 2 } with hls := { mode := .running, period := some (60000, 0) } })
    (adcChannel up 0) 60000 - correct ({ slotIs { kind := 2 } with hls := { mode := .running, period := some (60000, 0) } })
    (adcChannel up 0) 0, 0, 10, live_of (by decide), by decide, by decide, by decide, by decide, by decide, by decide, by
    decide, by decide, by decide, by decide, by decide, by decide⟩,
   ⟨{ slotIs { kind := 2 } with hls := { mode := .running, force := [0x40000000, 24000000, 0xFFFF0A00, 256 * 65536 + 500, 64, 0xFFFF0000, 0x80008000, 0x0FFF0000, 0x0FFF0000, 0x0FFF0000] } },
    990, 3, 0, 0, 1, 0, 0, adcChannel up 0, live_of (by decide), by decide, by decide, by decide, (by intro hi lo h; cases
    h), by decide⟩,
   ⟨{ slotIs { kind := 2 } with hls := { mode := .running, force := [0x40000000, 24000000, 60000 * 65536 + 10 * 256, 256 * 65536 + 500, 64, 0xFFFF0000, 0x80008000, 0x0FFF0000, 0x0FFF0000, 0x0FFF0000] } },
    990, 3, 0, 0, 40000, 0, 0, adcChannel up 0, correct
    ({ slotIs { kind := 2 } with hls := { mode := .running, force := [0x40000000, 24000000, 60000 * 65536 + 10 * 256, 256 * 65536 + 500, 64, 0xFFFF0000, 0x80008000, 0x0FFF0000, 0x0FFF0000, 0x0FFF0000] } })
    (adcChannel up 0) 40000 - correct
    ({ slotIs { kind := 2 } with hls := { mode := .running, force := [0x40000000, 24000000, 60000 * 65536 + 10 * 256, 256 * 65536 + 500, 64, 0xFFFF0000, 0x80008000, 0x0FFF0000, 0x0FFF0000, 0x0FFF0000] } })
    (adcChannel up 0) 0, 60000, 10, live_of (by decide), by decide, by decide, by decide, by decide, by decide, by decide, by
    decide, by decide, by decide, by decide, by decide⟩,
   ⟨up, 0, 0, 0, 0, 0, 0, live_of (by decide), by decide⟩,
   ⟨{ slotIs { kind := 2 } with hls := { mode := .running, period := some (60000, 0) } }, 990, 3, 30001, 30002, 60000, 0, 0,
    adcChannel up 0, 60000, 0, live_of (by decide), by decide, by decide, by decide, by decide⟩⟩

/-- The hypotheses of `CrossingsLockAndLinesAreDrawn`, clauses 7 to 12 can be met. -/
theorem witness_CrossingsLockAndLinesAreDrawn_2 :
    (∃ (s : State) (p : ScanSpan) (line : Nat), Live s ∧ s.hls.span = some p ∧ s.hls.mode = .running ∧ p.started < p.count ∧
      p.t0 ≤ s.tsc ∧ halfBegins s = true ∧ halfFits s p.busyEnd = true ∧ line = p.first + p.started ∧ slowOff s = false ∧
      ((lineValues s line).2 = false)) ∧
    (∃ (s : State) (p : ScanSpan), Live s ∧ s.hls.span = some p ∧ s.hls.mode = .running ∧ p.started < p.count ∧ p.t0 ≤ s.tsc
      ∧ halfBegins s = true ∧ halfFits s p.busyEnd = true) ∧
    (∃ (s : State) (p : ScanSpan), Live s ∧ s.hls.span = some p ∧ (s.hls.mode ≠ .running ∨ p.count ≤ p.started ∨ s.tsc < p.t0
      ∨ halfBegins s = false ∨ halfFits s p.busyEnd = false)) ∧
    (∃ (s : State), Live s ∧ s.hls.span = none) ∧
    (∃ (s : State) (p : ScanSpan), Live s ∧ s.hls.span = some p ∧ s.tsc < p.busyEnd) ∧
    (∃ (s : State) (p : ScanSpan), Live s ∧ s.hls.span = some p ∧ p.busyEnd ≤ s.tsc) :=
  ⟨⟨hlsIs { mode := .running, span := some ⟨0, 3000, 0, 2, 1⟩, nco := { inc := 0x80000000 } }, ⟨0, 3000, 0, 2, 1⟩, 1,
    live_of (by decide), by decide, by decide, by decide, by decide, by decide, by decide, by decide, by decide, by decide⟩,
   ⟨hlsIs { mode := .running, span := some ⟨0, 3000, 0, 2, 1⟩, nco := { inc := 0x80000000 } }, ⟨0, 3000, 0, 2, 1⟩, live_of
    (by decide), by decide, by decide, by decide, by decide, by decide, by decide⟩,
   ⟨hlsIs { span := some ⟨0, 3000, 0, 2, 1⟩ }, ⟨0, 3000, 0, 2, 1⟩, live_of (by decide), by decide, by decide⟩,
   ⟨up, live_of (by decide), by decide⟩,
   ⟨hlsIs { span := some ⟨0, 1001, 0, 2, 1⟩ }, ⟨0, 1001, 0, 2, 1⟩, live_of (by decide), by decide, by decide⟩,
   ⟨hlsIs { span := some ⟨0, 1000, 0, 2, 1⟩ }, ⟨0, 1000, 0, 2, 1⟩, live_of (by decide), by decide, by decide⟩⟩

/-- The hypotheses of `RefreshDebtIsKept`, clauses 1 to 6 can be met. -/
theorem witness_RefreshDebtIsKept_1 :
    (∃ (s : State) (c : Fin 16), Live s ∧ (memServing s = false ∨ s.tsc % dueInterval (rateOf s c.val) ≠ 0 ∨ (chan s
      c.val).dueAt = some s.tsc)) ∧
    (∃ (s : State) (c : Fin 16), Live s ∧ memServing s = true ∧ s.tsc % dueInterval (rateOf s c.val) = 0 ∧ ((chan s
      c.val).dueAt ≠ some s.tsc) ∧ ((chan s c.val).debt + 1 < 8)) ∧
    (∃ (s : State) (c : Fin 16), Live s ∧ memServing s = true ∧ s.tsc % dueInterval (rateOf s c.val) = 0 ∧ ((chan s
      c.val).dueAt ≠ some s.tsc) ∧ 8 ≤ (chan s c.val).debt + 1) ∧
    (∃ (s : State) (c : Fin 16), Live s ∧ memServing s = true ∧ (s.tsc % dueInterval (rateOf s c.val) ≠ 0 ∨ (chan s
      c.val).dueAt = some s.tsc) ∧ s.mem.trains.any (trainOpens s c.val) = true ∧ 0 < (chan s c.val).debt ∧ ((chan s
      c.val).oppAt ≠ some s.tsc)) ∧
    (∃ (s : State) (c : Fin 16), Live s ∧ memServing s = true ∧ s.tsc % dueInterval (rateOf s c.val) = 0 ∧ ((chan s
      c.val).dueAt ≠ some s.tsc) ∧ ((chan s c.val).debt + 1 < 8) ∧ s.mem.trains.any (trainOpens s c.val) = true ∧ ((chan s
      c.val).oppAt ≠ some s.tsc)) ∧
    (∃ (s : State) (c : Fin 16), Live s ∧ (memServing s = false ∨ s.tsc % dueInterval (rateOf s c.val) ≠ 0 ∨ (chan s
      c.val).dueAt = some s.tsc) ∧ (memServing s = false ∨ s.mem.trains.any (trainOpens s c.val) = false ∨ (chan s c.val).debt
      = 0 ∨ (chan s c.val).oppAt = some s.tsc)) :=
  ⟨⟨up, 15, live_of (by decide), by decide⟩,
   ⟨{ up with tsc := 1200 }, 15, live_of (by decide), by decide, by decide, by decide, by decide⟩,
   ⟨{ memIs { ch := vset up.mem.ch 0 { debt := 7 } } with tsc := 1200 }, 0, live_of (by decide), by decide, by decide, by
    decide, by decide⟩,
   ⟨memIs { ch := vset up.mem.ch 0 { debt := 1 }, trains := [⟨true, 1, 1000, 0, 1⟩] }, 0, live_of (by decide), by decide, by
    decide, by decide, by decide, by decide⟩,
   ⟨{ memIs { trains := [⟨true, 1, 1200, 0, 1⟩] } with tsc := 1200 }, 0, live_of (by decide), by decide, by decide, by
    decide, by decide, by decide, by decide⟩,
   ⟨up, 15, live_of (by decide), by decide, by decide⟩⟩

/-- The hypotheses of `RefreshDebtIsKept`, clauses 7 to 11 can be met. -/
theorem witness_RefreshDebtIsKept_2 :
    (∃ (s : State), Live s ∧ ((∃ a n, s.ftg.hold = some (a, n) ∧ (s.tsc - a) % 100 = 0) ∨ (s.ftg.hold = none ∧ s.mem.ownSlots
      = true ∧ (s.tsc - s.mem.ownFrom) % 100 = 0))) ∧
    (∃ (s : State), Live s ∧ ((∃ a n, s.ftg.hold = some (a, n) ∧ (s.tsc - a) % 100 ≠ 0) ∨ (s.ftg.hold = none ∧
      (s.mem.ownSlots = false ∨ (s.tsc - s.mem.ownFrom) % 100 ≠ 0)))) ∧
    (∃ (s : State) (c : Fin 16) (k : Option (Fin 8)), Live s ∧ mr4Due s c.val = false) ∧
    (∃ (s : State) (c : Fin 16), Live s ∧ mr4Due s c.val = true) ∧
    (∃ (s : State) (c : Fin 16) (k : Fin 8) (r : Nat), Live s ∧ mr4Due s c.val = true ∧ r = (if k.val ≤ 2 then 1 else if
      k.val = 3 then 2 else 3)) :=
  ⟨⟨memIs { ownSlots := true }, live_of (by decide), (Or.inr (by decide))⟩,
   ⟨memIs { ownSlots := false }, live_of (by decide), (Or.inr (by decide))⟩,
   ⟨up, 15, some 7, live_of (by decide), by decide⟩,
   ⟨memIs { trains := [⟨true, 1, 1000, 0, 1⟩] }, 0, live_of (by decide), by decide⟩,
   ⟨memIs { trains := [⟨true, 1, 1000, 0, 1⟩] }, 0, 7, 3, live_of (by decide), by decide, by decide⟩⟩

/-- The hypotheses of `TrainingStepsJudgeChannels`, clauses 1 to 6 can be met. -/
theorem witness_TrainingStepsJudgeChannels_1 :
    (∃ (s : State) (c : Cmd), Serving s 0x0D01 c ∧ leAt (bodyOf c) 0 1 ≤ 1 ∧ leAt (bodyOf c) 1 3 = 0 ∧ s.ftgOn = false) ∧
    (∃ (s : State) (c : Cmd), Serving s 0x0D01 c ∧ leAt (bodyOf c) 0 1 ≤ 1 ∧ leAt (bodyOf c) 1 3 = 0 ∧ s.ftgOn = true) ∧
    (∃ (s : State) (c : Cmd), Serving s 0x0D01 c ∧ (1 < leAt (bodyOf c) 0 1 ∨ leAt (bodyOf c) 1 3 ≠ 0)) ∧
    (∃ (s : State) (c : Fin 16) (r : StepResult) (x : Nat) (id : Nat), Live s ∧ s.mem.train.find? (fun e => e.1 == c.val) =
      some (x, id, 0) ∧ stepFails s c.val r = false) ∧
    (∃ (s : State) (c : Fin 16) (r : StepResult) (x : Nat) (id : Nat), Live s ∧ s.mem.train.find? (fun e => e.1 == c.val) =
      some (x, id, 0) ∧ stepFails s c.val r = true) ∧
    (∃ (s : State) (c : Fin 16) (r : StepResult) (x : Nat) (id : Nat) (m : Nat), Live s ∧ s.mem.train.find? (fun e => e.1 ==
      c.val) = some (x, id, m) ∧ m ≠ 0) :=
  ⟨⟨still, zeros 15 4, serving_of (by decide), by decide, by decide, by decide⟩,
   ⟨up, zeros 15 4, serving_of (by decide), by decide, by decide, by decide⟩,
   ⟨up, cmd 0 [2, 0, 0, 0], serving_of (by decide), by decide⟩,
   ⟨memIs { train := [(0, 7, 0)] }, 0, ⟨[255, 255, 255, 255], [0, 0, 0, 0], none, none⟩, 0, 7, live_of (by decide), by
    decide, by decide⟩,
   ⟨memIs { train := [(0, 7, 0)] }, 0, ⟨[0, 0, 0, 0], [0, 0, 0, 0], some 0x3FFFF, none⟩, 0, 7, live_of (by decide), by
    decide, by decide⟩,
   ⟨memIs { train := [(0, 7, 1)] }, 0, ⟨[0, 0, 0, 0], [0, 0, 0, 0], some 0x3FFFF, none⟩, 0, 7, 1, live_of (by decide), by
    decide, by decide⟩⟩

/-- The hypotheses of `TrainingStepsJudgeChannels`, clauses 7 to 11 can be met. -/
theorem witness_TrainingStepsJudgeChannels_2 :
    (∃ (s : State) (c : Fin 16) (r : StepResult), Live s ∧ s.mem.train.find? (fun e => e.1 == c.val) = none ∧ (bitAt
      s.mem.afterReset c.val = true ∨ (pauseTurn s c.val = true ∧ (chan s c.val).mode ≠ .fallback)) ∧ stepFails s c.val r =
      false) ∧
    (∃ (s : State) (c : Fin 16) (r : StepResult), Live s ∧ s.mem.train.find? (fun e => e.1 == c.val) = none ∧ (bitAt
      s.mem.afterReset c.val = true ∨ (pauseTurn s c.val = true ∧ (chan s c.val).mode ≠ .fallback)) ∧ stepFails s c.val r =
      true) ∧
    (∃ (s : State) (c : Fin 16) (r : StepResult) (ok : Bool), Live s ∧ s.mem.train.find? (fun e => e.1 == c.val) = none ∧
      bitAt s.mem.afterReset c.val = false ∧ pauseTurn s c.val = true ∧ ((chan s c.val).mode = .fallback) ∧ r.firmware = some
      ok) ∧
    (∃ (s : State) (c : Fin 16) (r : StepResult), Live s ∧ s.mem.train.find? (fun e => e.1 == c.val) = none ∧ bitAt
      s.mem.afterReset c.val = false ∧ pauseTurn s c.val = true ∧ ((chan s c.val).mode = .fallback) ∧ r.firmware = none) ∧
    (∃ (s : State) (c : Fin 16) (r : StepResult), Live s ∧ s.mem.train.find? (fun e => e.1 == c.val) = none ∧ bitAt
      s.mem.afterReset c.val = false ∧ pauseTurn s c.val = false) :=
  ⟨⟨{ memIs { pause := 1, pauseEnd := 2600, stepFrom := 1000 } with tsc := 2600 }, 0, ⟨[255, 255, 255, 255], [0, 0, 0, 0],
    none, none⟩, live_of (by decide), by decide, by decide, by decide⟩,
   ⟨memIs { afterReset := 1 }, 0, ⟨[0, 0, 0, 0], [0, 0, 0, 0], some 0x3FFFF, none⟩, live_of (by decide), by decide, by
    decide, by decide⟩,
   ⟨{ memIs { pause := 1, pauseEnd := 2600, stepFrom := 1000, ch := vset up.mem.ch 0 { mode := .fallback } } with tsc := 2600 },
    0, ⟨[], [], none, some true⟩, true, live_of (by decide), by decide, by decide, by decide, by decide, by decide⟩,
   ⟨{ memIs { pause := 1, pauseEnd := 2600, stepFrom := 1000, ch := vset up.mem.ch 0 { mode := .fallback } } with tsc := 2600 },
    0, ⟨[], [], none, none⟩, live_of (by decide), by decide, by decide, by decide, by decide, by decide⟩,
   ⟨up, 15, ⟨[255, 255, 255, 255], [0, 0, 0, 0], none, none⟩, live_of (by decide), by decide, by decide, by decide⟩⟩

/-- The hypotheses of `AudioPortsRun`, clauses 1 to 6 can be met. -/
theorem witness_AudioPortsRun_1 :
    (∃ (s : State) (c : Cmd) (p : Nat), Serving s 0x0E01 c ∧ p = c.unit.toNat ∧ ((audPort s p).running = false) ∧ ((audPort s
      p).start = none) ∧ audEnabled s p = true ∧ s.aud.pllLock = true ∧ s.img.cfg.isSome = true ∧ inSwitch s = false ∧ ringBase
      s p % 64 = 0 ∧ inHostArea s (ringBase s p) (ringBase s p + ringBytes s p) = true) ∧
    (∃ (s : State) (c : Cmd), Serving s 0x0E01 c ∧ ((audPort s c.unit.toNat).running = true ∨ s.aud.pllLock = false)) ∧
    (∃ (s : State) (c : Cmd) (p : Nat), Serving s 0x0E01 c ∧ p = c.unit.toNat ∧ ((audPort s p).running = false) ∧ ((audPort s
      p).start = none) ∧ audEnabled s p = true ∧ s.aud.pllLock = true ∧ s.img.cfg.isSome = true ∧ inSwitch s = false ∧
      (ringBase s p % 64 ≠ 0 ∨ inHostArea s (ringBase s p) (ringBase s p + ringBytes s p) = false)) ∧
    (∃ (s : State) (p : Fin 5), Live s ∧ ((audPort s p.val).start = none)) ∧
    (∃ (s : State) (p : Fin 5) (a : Nat) (id : Nat), Live s ∧ ((audPort s p.val).start = some (a, id)) ∧ a ≤ s.tsc) ∧
    (∃ (s : State) (p : Fin 5) (a : Nat) (id : Nat), Live s ∧ ((audPort s p.val).start = some (a, id)) ∧ s.tsc < a) :=
  ⟨⟨audOn 3 {  }, zeros 3 8, 3, serving_of (by decide), by decide, by decide, by decide, by decide, by decide, by decide, by
    decide, by decide, by decide⟩,
   ⟨up, zeros 4 8, serving_of (by decide), by decide⟩,
   ⟨{ audOn 3 {  } with regs := [(0xE0030C, 0x100020)] }, zeros 3 8, 3, serving_of (by decide), by decide, by decide, by
    decide, by decide, by decide, by decide, by decide, by decide⟩,
   ⟨up, 4, live_of (by decide), by decide⟩,
   ⟨audOn 4 { start := some (1000, 7) }, 4, 1000, 7, live_of (by decide), by decide, by decide⟩,
   ⟨audOn 0 { start := some (1001, 7) }, 0, 1001, 7, live_of (by decide), by decide, by decide⟩⟩

/-- The hypotheses of `AudioPortsRun`, clauses 7 to 12 can be met. -/
theorem witness_AudioPortsRun_2 :
    (∃ (s : State) (c : Cmd), Serving s 0x0E02 c ∧ ((audPort s c.unit.toNat).running = true)) ∧
    (∃ (s : State) (c : Cmd), Serving s 0x0E02 c ∧ ((audPort s c.unit.toNat).running = false)) ∧
    (∃ (s : State) (p : Fin 4) (er : DramErrs), Live s ∧ ((audPort s p.val).running = true) ∧ ((audPort s p.val).stopIds ≠
      [])) ∧
    (∃ (s : State) (l : BitVec 32) (r : BitVec 32), Live s ∧ ((audPort s 4).running = true) ∧ ((audPort s 4).stopIds ≠ [])) ∧
    (∃ (s : State), Live s ∧ s.aud.pllLock = true) ∧
    (∃ (s : State), Live s ∧ s.aud.pllLock = false) :=
  ⟨⟨audOn 0 { running := true }, zeros 0 0, serving_of (by decide), by decide⟩,
   ⟨up, zeros 0 0, serving_of (by decide), by decide⟩,
   ⟨audOn 0 { running := true, stopIds := [7] }, 0, {}, live_of (by decide), by decide, by decide⟩,
   ⟨audOn 4 { running := true, stopIds := [7] }, 1, 2, live_of (by decide), by decide, by decide⟩,
   ⟨audOn 0 {  }, live_of (by decide), by decide⟩,
   ⟨up, live_of (by decide), by decide⟩⟩

/-- The hypotheses of `AudioPortsRun`, clauses 13 to 18 can be met. -/
theorem witness_AudioPortsRun_3 :
    (∃ (s : State), Live s ∧ ((List.range 5).any (audEnabled s) = true)) ∧
    (∃ (s : State), Live s ∧ ((List.range 5).any (audEnabled s) = false)) ∧
    (∃ (s : State) (p : Fin 4) (er : DramErrs) (f : Nat × Nat) (r : List (Nat × Nat)), Live s ∧ ((audPort s p.val).running =
      true) ∧ ((audPort s p.val).stopIds = []) ∧ ((audPort s p.val).repeats = false) ∧ ((audPort s p.val).fifo = f :: r)) ∧
    (∃ (s : State) (p : Fin 4) (er : DramErrs), Live s ∧ ((audPort s p.val).running = true) ∧ ((audPort s p.val).stopIds =
      []) ∧ ((audPort s p.val).repeats = false) ∧ ((audPort s p.val).fifo = []) ∧ ((audPort s p.val).rd = (audPort s
      p.val).wr)) ∧
    (∃ (s : State) (p : Fin 4) (er : DramErrs), Live s ∧ ((audPort s p.val).running = true) ∧ ((audPort s p.val).stopIds =
      []) ∧ ((audPort s p.val).repeats = true)) ∧
    (∃ (s : State) (p : Fin 4) (er : DramErrs), Live s ∧ ((audPort s p.val).running = false)) :=
  ⟨⟨audOn 0 {  }, live_of (by decide), by decide⟩,
   ⟨up, live_of (by decide), by decide⟩,
   ⟨audOn 0 { running := true, fifo := [(1, 2)] }, 0, {}, (1, 2), [], live_of (by decide), by decide, by decide, by decide,
    by decide⟩,
   ⟨audOn 0 { running := true }, 0, {}, live_of (by decide), by decide, by decide, by decide, by decide, by decide⟩,
   ⟨audOn 0 { running := true, repeats := true }, 0, {}, live_of (by decide), by decide, by decide, by decide⟩,
   ⟨up, 3, {}, live_of (by decide), by decide⟩⟩

/-- The hypotheses of `AudioPortsRun`, clauses 19 to 24 can be met. -/
theorem witness_AudioPortsRun_4 :
    (∃ (s : State) (l : BitVec 32) (r : BitVec 32) (f : Nat × Nat) (a : Nat), Live s ∧ ((audPort s 4).running = true) ∧
      ((audPort s 4).stopIds = []) ∧ ((audPort s 4).lost = 0) ∧ 0 < ringRoom s 4 ∧ a = ringBase s 4 + (audPort s 4).wr ∧ a + 8
      ≤ reservedBase s ∧ mapWf dramDefault s.dram = true ∧ f = (audWord s 4 (maskAt s 4) 0 l.toNat, audWord s 4 (maskAt s 4) 1
      r.toNat)) ∧
    (∃ (s : State) (l : BitVec 32) (r : BitVec 32), Live s ∧ ((audPort s 4).running = true) ∧ ((audPort s 4).stopIds = []) ∧
      ((audPort s 4).lost = 0) ∧ ringRoom s 4 = 0) ∧
    (∃ (s : State) (l : BitVec 32) (r : BitVec 32), Live s ∧ ((audPort s 4).running = true) ∧ ((audPort s 4).stopIds = []) ∧
      0 < (audPort s 4).lost ∧ ((audPort s 4).lost + 1 < tallyMax)) ∧
    (∃ (s : State) (l : BitVec 32) (r : BitVec 32), Live s ∧ ((audPort s 4).running = false)) ∧
    (∃ (s : State) (a : Nat), Live s ∧ 0 < (audPort s 4).lost ∧ 0 < ringRoom s 4 ∧ (∀ e, (audPort s 4).fillAt = some e → e +
      32 ≤ s.tsc) ∧ a = ringBase s 4 + (audPort s 4).wr ∧ a + 8 ≤ reservedBase s ∧ mapWf dramDefault s.dram = true) ∧
    (∃ (s : State), Live s ∧ ((audPort s 4).lost = 0 ∨ ringRoom s 4 = 0 ∨ (∃ e, (audPort s 4).fillAt = some e ∧ s.tsc < e +
      32))) :=
  ⟨⟨audOn 4 { running := true }, 1, 2, (audWord (audOn 4 { running := true }) 4 (maskAt (audOn 4 { running := true }) 4) 0
    1, audWord (audOn 4 { running := true }) 4 (maskAt (audOn 4 { running := true }) 4) 1 2), 0x100000, live_of (by decide),
    by decide, by decide, by decide, by decide, by decide, by decide, by decide, by decide⟩,
   ⟨audOn 4 { running := true, wr := 4088 }, 1, 2, live_of (by decide), by decide, by decide, by decide, by decide⟩,
   ⟨audOn 4 { running := true, lost := 3 }, 1, 2, live_of (by decide), by decide, by decide, by decide, by decide⟩,
   ⟨up, 1, 2, live_of (by decide), by decide⟩,
   ⟨audOn 4 { running := true, lost := 3 }, 0x100000, live_of (by decide), by decide, by decide, (by intro e h; cases h), by
    decide, by decide, by decide⟩,
   ⟨up, live_of (by decide), (Or.inl (by decide))⟩⟩

/-- The hypotheses of `BadReferenceFailsTheRun` can be met. -/
theorem witness_BadReferenceFailsTheRun :
    ∃ (s : State) (v : Nat) (l : List CalMeas) (r : CalRun), Live s ∧ s.cal.run = some r ∧ (v < 2450000 ∨ 2550000 < v) :=
  ⟨calIs { run := some ⟨none, [72]⟩ }, 2449999, [], ⟨none, [72]⟩, live_of (by decide), by decide, by decide⟩

/-- The hypotheses of `CalibrationRunsRampsAndStores`, clauses 1 to 6 can be met. -/
theorem witness_CalibrationRunsRampsAndStores_1 :
    (∃ (s : State) (c : Cmd) (l : List Nat), Serving s 0x0F01 c ∧ l = calNamed (leAt (bodyOf c) 0 8) (leAt (bodyOf c) 8 2) ∧
      leAt (bodyOf c) 10 6 = 0 ∧ l ≠ [] ∧ (∀ n ∈ l, calDefined n = true ∧ calPresent s n = true ∧ calFree s n = true) ∧
      s.cal.run = none) ∧
    (∃ (s : State) (c : Cmd) (l : List Nat), Serving s 0x0F01 c ∧ l = calNamed (leAt (bodyOf c) 0 8) (leAt (bodyOf c) 8 2) ∧
      leAt (bodyOf c) 10 6 = 0 ∧ l ≠ [] ∧ (∀ n ∈ l, calDefined n = true ∧ calPresent s n = true) ∧ s.cal.run.isSome = true) ∧
    (∃ (s : State) (c : Cmd) (l : List Nat), Serving s 0x0F01 c ∧ l = calNamed (leAt (bodyOf c) 0 8) (leAt (bodyOf c) 8 2) ∧
      leAt (bodyOf c) 10 6 = 0 ∧ (∀ n ∈ l, calDefined n = true ∧ calPresent s n = true) ∧ s.cal.run = none ∧ (∃ n ∈ l, calFree
      s n = false)) ∧
    (∃ (s : State) (v : Nat) (n : Nat) (g : Nat) (l : List CalMeas) (r : CalRun) (m : CalMeas) (o : Int) (e : Nat), Live s ∧
      s.cal.run = some r ∧ 2450000 ≤ v ∧ v ≤ 2550000 ∧ n < 73 ∧ n ∈ r.chans ∧ calIsDac n = false ∧ l.find? (fun x => x.chan ==
      n) = some m ∧ calSolve n m = some (g, o, e) ∧ calInside s n g o = true ∧ e ≤ (calLimits s n).residMax) ∧
    (∃ (s : State) (v : Nat) (n : Nat) (l : List CalMeas) (r : CalRun), Live s ∧ s.cal.run = some r ∧ 2450000 ≤ v ∧ v ≤
      2550000 ∧ n < 73 ∧ n ∈ r.chans ∧ (∀ m g o e, l.find? (fun x => x.chan == n) = some m → calSolve n m = some (g, o, e) →
      calInside s n g o = false ∨ (calLimits s n).residMax < e)) ∧
    (∃ (s : State) (v : Nat) (l : List CalMeas), Live s ∧ s.cal.run = none) :=
  ⟨⟨up, cmd 0 [1, 0, 0, 0, 0, 0, 0, 0, 0, 1, 0, 0, 0, 0, 0, 0], [0, 72], serving_of (by decide), by decide, by decide, by
    decide, by decide, by decide⟩,
   ⟨calIs { run := some ⟨none, []⟩ }, cmd 0 [1, 0, 0, 0, 0, 0, 0, 0, 0, 1, 0, 0, 0, 0, 0, 0], [0, 72], serving_of (by
    decide), by decide, by decide, by decide, by decide, by decide⟩,
   ⟨bankIs { mode := .armed }, cmd 0 ([1] ++ List.replicate 15 0), [0], serving_of (by decide), by decide, by decide, by
    decide, by decide, by decide⟩,
   ⟨calIs { run := some ⟨none, [0]⟩ }, 2450000, 0, 32768, [⟨0, 4096, 32768, 61440⟩], ⟨none, [0]⟩, ⟨0, 4096, 32768, 61440⟩,
    0, 0, live_of (by decide), by decide, by decide, by decide, by decide, by decide, by decide, by decide, by decide, by
    decide, by decide⟩,
   ⟨calIs { run := some ⟨none, [0]⟩ }, 2550000, 0, [], ⟨none, [0]⟩, live_of (by decide), by decide, by decide, by decide, by
    decide, by decide, (by intro m g o e h; cases h)⟩,
   ⟨up, 0, [], live_of (by decide), by decide⟩⟩

/-- The hypotheses of `CalibrationRunsRampsAndStores`, clauses 7 to 12 can be met. -/
theorem witness_CalibrationRunsRampsAndStores_2 :
    (∃ (s : State), Live s ∧ s.tsc % 250000 ≠ 0) ∧
    (∃ (s : State), Live s ∧ s.tsc % 250000 = 0) ∧
    (∃ (s : State) (c : Cmd), Serving s 0x0F02 c ∧ s.cal.store = none) ∧
    (∃ (s : State) (c : Cmd), Serving s 0x0F02 c ∧ s.cal.store.isSome = true) ∧
    (∃ (s : State) (r : CalStoreRun), Live s ∧ s.cal.store = some r) ∧
    (∃ (s : State) (r : CalStoreRun), Live s ∧ s.cal.store = some r) :=
  ⟨⟨up, live_of (by decide), by decide⟩,
   ⟨{ up with tsc := 250000 }, live_of (by decide), by decide⟩,
   ⟨up, zeros 0 0, serving_of (by decide), by decide⟩,
   ⟨calIs { store := some ⟨0, true, 1, []⟩ }, zeros 0 0, serving_of (by decide), by decide⟩,
   ⟨calIs { store := some ⟨0, true, 1, []⟩ }, ⟨0, true, 1, []⟩, live_of (by decide), by decide⟩,
   ⟨calIs { store := some ⟨0, true, 1, []⟩ }, ⟨0, true, 1, []⟩, live_of (by decide), by decide⟩⟩

/-- The hypotheses of `CalibrationRunsRampsAndStores`, clauses 13 to 13 can be met. -/
theorem witness_CalibrationRunsRampsAndStores_3 :
    ∃ (s : State) (ok : Bool), Live s ∧ s.cal.store = none :=
  ⟨up, true, live_of (by decide), by decide⟩

/-- The hypotheses of `SensorsSampleAndStopTheLight`, clauses 1 to 6 can be met. -/
theorem witness_SensorsSampleAndStopTheLight_1 :
    (∃ (s : State) (die : Option Int) (l : List Nat), Live s ∧ (s.tsc % 250000 ≠ 0 ∨ s.thm.sampledAt = some s.tsc)) ∧
    (∃ (s : State) (die : Option Int) (l : List Nat), Awake s ∧ s.boot.power = .tripped ∧ s.tsc % 250000 = 0 ∧
      s.thm.sampledAt ≠ some s.tsc) ∧
    (∃ (s : State) (die : Option Int) (l : List Nat) (i : Nat) (v : Int), Live s ∧ s.tsc % 250000 = 0 ∧ s.thm.sampledAt ≠
      some s.tsc ∧ i < 35 ∧ sensorPresent s i = true ∧ ((sensorAt s i).suspended = false) ∧ ((sensorAt s i).failed = false) ∧
      sampleReading s die l i = some v) ∧
    (∃ (s : State) (die : Option Int) (l : List Nat) (i : Nat), Live s ∧ s.tsc % 250000 = 0 ∧ s.thm.sampledAt ≠ some s.tsc ∧
      i < 35 ∧ sensorPresent s i = true ∧ ((sensorAt s i).suspended = false) ∧ ((sensorAt s i).failed = false) ∧ ((sensorAt s
      i).miss = 3) ∧ sampleReading s die l i = none) ∧
    (∃ (s : State) (die : Option Int) (l : List Nat), Live s) ∧
    (∃ (s : State) (die : Option Int) (l : List Nat) (v : Int), Live s ∧ s.tsc % 250000 = 0 ∧ s.thm.sampledAt ≠ some s.tsc ∧
      ((sensorAt s 0).suspended = false) ∧ ((sensorAt s 0).failed = false) ∧ sampleReading s die l 0 = some v ∧ bitAt (sensorAt
      s 0).asserted 3 = false ∧ ((sensorAt s 0).up.getD 3 0 = 3) ∧ threshLevel s 0 3 ≤ v ∧ s.thm.stopAt = none) :=
  ⟨⟨up, some 600, List.replicate 18 0, live_of (by decide), by decide⟩,
   ⟨{ tripped with tsc := 250000 }, some 379, List.replicate 18 0, awake_of (by decide), by decide, by decide, by decide⟩,
   ⟨{ up with tsc := 250000 }, some 600, List.replicate 18 0, 0, 600, live_of (by decide), by decide, by decide, by decide,
    by decide, by decide, by decide, by decide⟩,
   ⟨{ sensorIs 0 { miss := 3 } with tsc := 250000 }, none, List.replicate 18 0, 0, live_of (by decide), by decide, by
    decide, by decide, by decide, by decide, by decide, by decide, by decide⟩,
   ⟨up, none, List.replicate 18 0, live_of (by decide)⟩,
   ⟨{ sensorIs 0 { up := [0, 0, 0, 3] } with tsc := 250000 }, some 600, List.replicate 18 0, 600, live_of (by decide), by
    decide, by decide, by decide, by decide, by decide, by decide, by decide, by decide, by decide⟩⟩

/-- The hypotheses of `SensorsSampleAndStopTheLight`, clauses 7 to 10 can be met. -/
theorem witness_SensorsSampleAndStopTheLight_2 :
    (∃ (s : State) (a : Nat), Live s ∧ s.thm.stopAt = some a ∧ a + 5000000 ≤ s.tsc) ∧
    (∃ (s : State), Live s ∧ (s.thm.stopAt = none ∨ (∃ a, s.thm.stopAt = some a ∧ s.tsc < a + 5000000))) ∧
    (∃ (s : State) (a : Nat) (r : FaultRec), Live s ∧ s.pending = [] ∧ s.boot.sysclkMissing = false ∧ s.lsd.pulses = [] ∧
      s.boot.warmAt = none ∧ s.thm.stopAt = some a ∧ r ∈ s.flt.log ∧ a ≤ r.tsc ∧ bitAt r.reaction 0 = true) ∧
    (∃ (s : State) (c : Cmd), Serving s 0x1002 c) :=
  ⟨⟨{ up with thm := { stopAt := some 5 }, tsc := 5000005 }, 5, live_of (by decide), by decide, by decide⟩,
   ⟨up, live_of (by decide), (Or.inl rfl)⟩,
   ⟨{ up with thm := { stopAt := some 0 }, flt := { log := [⟨5, 0, 1, 0, 0x91, 2, 3, 0, 0, 0, 0, false⟩] } }, 0, ⟨5, 0, 1,
    0, 0x91, 2, 3, 0, 0, 0, 0, false⟩, live_of (by decide), by decide, by decide, by decide, by decide, by decide, by decide,
    by decide, by decide⟩,
   ⟨up, zeros 34 0, serving_of (by decide)⟩⟩

/-- The hypotheses of `PowerDomainsMove`, clauses 1 to 6 can be met. -/
theorem witness_PowerDomainsMove_1 :
    (∃ (s : State) (c : Cmd) (m : Nat) (st : Nat) (next : Nat → DomMode) (todo : List Nat), Serving s 0x1001 c ∧ m = leAt
      (bodyOf c) 0 8 ∧ st = leAt (bodyOf c) 8 1 ∧ m ≠ 0 ∧ m < 2 ^ 36 ∧ st ≤ 2 ∧ leAt (bodyOf c) 9 7 = 0 ∧ s.pwr.run = none ∧ (∀
      d, next d = if bitAt m d then domOf st else vget s.pwr.dom d .off) ∧ (∀ d, d < 36 → bitAt m d = true → domainPresent s d
      = true ∧ (st = 1 → vget s.pwr.dom d .off ≠ .off)) ∧ (∀ d q, d < 36 → next d = .on → domainParent d = some q → next q =
      .on) ∧ (∀ d, d < 36 → vget s.pwr.dom d .off = .on → next d ≠ .on → domainInUse s next d = false) ∧ (s.img.cfg.isSome =
      true → ∀ d, d < 36 → vget s.pwr.dom d .off ≠ next d → (next d ≠ .on → bitAt (requiredOn (cfg s)) d = false) ∧ (next d =
      .retain → bitAt (retainOk (cfg s)) d = true)) ∧ todo = domainOrder (domOf st == .on) 36 ((List.range 36).filter (fun d =>
      bitAt m d && vget s.pwr.dom d .off != domOf st))) ∧
    (∃ (s : State) (c : Cmd) (m : Nat), Serving s 0x1001 c ∧ m = leAt (bodyOf c) 0 8 ∧ m ≠ 0 ∧ m < 2 ^ 36 ∧ leAt (bodyOf c) 8
      1 ≤ 2 ∧ leAt (bodyOf c) 9 7 = 0 ∧ (∀ d, d < 36 → bitAt m d = true → domainPresent s d = true) ∧ s.pwr.run.isSome = true) ∧
    (∃ (s : State) (c : Cmd) (m : Nat) (next : Nat → DomMode), Serving s 0x1001 c ∧ m = leAt (bodyOf c) 0 8 ∧ m ≠ 0 ∧ m < 2 ^
      36 ∧ leAt (bodyOf c) 8 1 ≤ 2 ∧ leAt (bodyOf c) 9 7 = 0 ∧ (∀ d, d < 36 → bitAt m d = true → domainPresent s d = true) ∧
      s.pwr.run = none ∧ (∀ d, next d = if bitAt m d then domOf (leAt (bodyOf c) 8 1) else vget s.pwr.dom d .off) ∧ ((∃ d, d <
      36 ∧ vget s.pwr.dom d .off = .on ∧ next d ≠ .on ∧ domainInUse s next d = true) ∨ (∃ d q, d < 36 ∧ next d = .on ∧
      domainParent d = some q ∧ next q ≠ .on))) ∧
    (∃ (s : State) (r : PwrRun) (d : Nat) (e : Nat) (l : List Nat), Live s ∧ s.pwr.run = some r ∧ r.todo = d :: e :: l ∧ d <
      36 ∧ s.tsc ≤ domainLimit s r d) ∧
    (∃ (s : State) (r : PwrRun) (d : Nat), Live s ∧ s.pwr.run = some r ∧ r.todo = [d] ∧ d < 36 ∧ s.tsc ≤ domainLimit s r d) ∧
    (∃ (s : State) (r : PwrRun) (d : Nat) (l : List Nat), Live s ∧ s.pwr.run = some r ∧ r.todo = d :: l) :=
  ⟨⟨{ still with img := {} }, cmd 0 [0, 0, 0, 0, 4, 0, 0, 0, 0, 0, 0, 0, 0, 0, 0, 0], 2 ^ 34, 0, fun d => if bitAt (2 ^ 34)
    d then .off else vget up.pwr.dom d .off, [34], serving_of (by decide), by decide, by decide, by decide, by decide, by
    decide, by decide, by decide, fun _ => rfl, by decide, (parents_on _ (by decide)), by decide, by decide, by decide⟩,
   ⟨moving [34], cmd 0 [0, 0, 0, 0, 4, 0, 0, 0, 0, 0, 0, 0, 0, 0, 0, 0], 2 ^ 34, serving_of (by decide), by decide, by
    decide, by decide, by decide, by decide, by decide, by decide⟩,
   ⟨up, cmd 0 ([1] ++ List.replicate 15 0), 1, fun d => if bitAt 1 d then .off else vget up.pwr.dom d .off, serving_of (by
    decide), by decide, by decide, by decide, by decide, by decide, by decide, by decide, fun _ => rfl, (Or.inl ⟨0, by
    decide⟩)⟩,
   ⟨{ up with pwr := { run := some { cmdId := 0, target := .off, todo := [35, 34], moved := 0, since := 1000 } }, tsc := 1000 },
    { cmdId := 0, target := .off, todo := [35, 34], moved := 0, since := 1000 }, 35, 34, [], live_of (by decide), by decide,
    by decide, by decide, by decide⟩,
   ⟨{ up with pwr := { run := some { cmdId := 0, target := .off, todo := [35], moved := 0, since := 1000 } }, tsc := 1000 },
    { cmdId := 0, target := .off, todo := [35], moved := 0, since := 1000 }, 35, live_of (by decide), by decide, by decide,
    by decide, by decide⟩,
   ⟨{ up with pwr := { run := some { cmdId := 0, target := .off, todo := [35, 34], moved := 0, since := 1000 } }, tsc := 1000 },
    { cmdId := 0, target := .off, todo := [35, 34], moved := 0, since := 1000 }, 35, [34], live_of (by decide), by decide, by
    decide⟩⟩

/-- The hypotheses of `PowerDomainsMove`, clauses 7 to 8 can be met. -/
theorem witness_PowerDomainsMove_2 :
    (∃ (s : State) (r : PwrRun) (d : Nat) (l : List Nat), Live s ∧ s.pwr.run = some r ∧ r.todo = d :: l ∧ d < 36 ∧
      domainLimit s r d ≤ s.tsc) ∧
    (∃ (s : State), Live s ∧ s.pwr.run = none) :=
  ⟨⟨{ up with pwr := { run := some { cmdId := 0, target := .off, todo := [35, 34], moved := 0, since := 1000 } }, tsc := 100000000 },
    { cmdId := 0, target := .off, todo := [35, 34], moved := 0, since := 1000 }, 35, [34], live_of (by decide), by decide, by
    decide, by decide, by decide⟩,
   ⟨up, live_of (by decide), by decide⟩⟩

/-- The hypotheses of `InjectionsAndTheLog` can be met. -/
theorem witness_InjectionsAndTheLog :
    (∃ (s : State) (c : Cmd) (src : Nat), Serving s 0x1101 c ∧ src = byteAt (bodyOf c) 0 ∧ injectPayloadOk (bodyOf c) = true
      ∧ sourceAbsent s src = false ∧ bitAt (regN s 0x40004) 0 = true ∧ inSwitch s = false ∧ ((srcAt s src).armed = none) ∧ (src
      = 0x21 ∨ src = 0x40 ∨ src = 0xA0)) ∧
    (∃ (s : State) (c : Cmd) (src : Nat), Serving s 0x1101 c ∧ src = byteAt (bodyOf c) 0 ∧ injectPayloadOk (bodyOf c) = true
      ∧ sourceAbsent s src = false ∧ bitAt (regN s 0x40004) 0 = true ∧ inSwitch s = false ∧ ((srcAt s src).armed = none) ∧ src
      ≠ 0x21 ∧ src ≠ 0x40 ∧ src ≠ 0xA0 ∧ bitAt (byteAt (bodyOf c) 1) 0 = false) ∧
    (∃ (s : State) (c : Cmd) (src : Nat), Serving s 0x1101 c ∧ src = byteAt (bodyOf c) 0 ∧ injectPayloadOk (bodyOf c) = true
      ∧ sourceAbsent s src = false ∧ bitAt (regN s 0x40004) 0 = true ∧ inSwitch s = false ∧ ((srcAt s src).armed = none) ∧ src
      ≠ 0x21 ∧ src ≠ 0x40 ∧ src ≠ 0xA0 ∧ bitAt (byteAt (bodyOf c) 1) 0 = true ∧ ((sourceCfg s src).1 ≠ 0)) ∧
    (∃ (s : State) (c : Cmd), Serving s 0x1101 c ∧ injectPayloadOk (bodyOf c) = true ∧ sourceAbsent s (byteAt (bodyOf c) 0) =
      false ∧ bitAt (regN s 0x40004) 0 = false) ∧
    (∃ (s : State) (c : Cmd) (r : FaultRec), Serving s 0x1102 c ∧ ((s.flt.log ++ s.flt.ext).find? (fun r => r.seq == leAt
      (bodyOf c) 0 4 && decide (leAt (bodyOf c) 0 4 ≠ 0)) = some r)) ∧
    (∃ (s : State) (c : Cmd), Serving s 0x1102 c ∧ (∀ r ∈ s.flt.log ++ s.flt.ext, r.seq ≠ leAt (bodyOf c) 0 4)) :=
  ⟨⟨{ up with regs := [(0x40004, 1)] }, cmd 0 ([0xA0, 1] ++ List.replicate 14 0), 0xA0, serving_of (by decide), by decide,
    by decide, by decide, by decide, by decide, by decide, by decide⟩,
   ⟨{ up with regs := [(0x40004, 1)] }, cmd 0 ([0x61, 0] ++ List.replicate 14 0), 0x61, serving_of (by decide), by decide,
    by decide, by decide, by decide, by decide, by decide, by decide, by decide, by decide, by decide⟩,
   ⟨{ up with regs := [(0x40004, 1)] }, cmd 0 ([0x61, 1] ++ List.replicate 14 0), 0x61, serving_of (by decide), by decide,
    by decide, by decide, by decide, by decide, by decide, by decide, by decide, by decide, by decide, by decide⟩,
   ⟨up, cmd 0 ([0x61, 0] ++ List.replicate 14 0), serving_of (by decide), by decide, by decide, by decide⟩,
   ⟨{ up with flt := { log := [⟨0, 0, 1, 0, 0x10, 1, 0, 0, 0, 0, 0, false⟩] } }, cmd 0 [1, 0, 0, 0], ⟨0, 0, 1, 0, 0x10, 1,
    0, 0, 0, 0, 0, false⟩, serving_of (by decide), by decide⟩,
   ⟨up, cmd 0 [1, 0, 0, 0], serving_of (by decide), by decide⟩⟩

/-- The hypotheses of `LayerCommandsTakeEffect`, clauses 1 to 6 can be met. -/
theorem witness_LayerCommandsTakeEffect_1 :
    (∃ (s : State) (c : Cmd), Serving s 0x0401 c ∧ s.ftgOn = true ∧ layerEnabled s c.unit.toNat = true ∧ surfaceEncOk (bodyOf
      c) = true) ∧
    (∃ (s : State) (c : Cmd), Serving s 0x0402 c ∧ s.ftgOn = true ∧ layerEnabled s c.unit.toNat = true ∧ geomEncOk
      c.unit.toNat (bodyOf c) = true) ∧
    (∃ (s : State) (c : Cmd) (q : PendSt), Serving s 0x0404 c ∧ layerEnabled s c.unit.toNat = true ∧ ((vget s.cmp.layers
      c.unit.toNat {}).pend = some q) ∧ q.wait = true ∧ q.ready = false ∧ q.st.surf.bufferId = leAt (bodyOf c) 0 2) ∧
    (∃ (s : State) (c : Cmd), Serving s 0x0401 c ∧ surfaceEncOk (bodyOf c) = true ∧ (s.ftgOn = false ∨ layerEnabled s
      c.unit.toNat = false)) ∧
    (∃ (s : State) (c : Cmd), Serving s 0x0401 c ∧ surfaceEncOk (bodyOf c) = false) ∧
    (∃ (s : State) (c : Cmd), Serving s 0x0402 c ∧ geomEncOk c.unit.toNat (bodyOf c) = true ∧ (s.ftgOn = false ∨ layerEnabled
      s c.unit.toNat = false)) :=
  ⟨⟨img { topo := { videoMask := 15, gfxMask := 4095 } }, cmd 15 [0, 0, 0, 0, 0, 0, 0, 0, 0, 0, 0, 0, 0, 0, 0, 0, 64, 0, 0,
    0, 1, 0, 1, 0, 0, 0, 0, 0, 0, 0, 0, 0], serving_of (by decide), by decide, by decide, by decide⟩,
   ⟨img { topo := { videoMask := 15, gfxMask := 4095 } }, cmd 3 [0, 0, 0, 0, 1, 0, 1, 0, 0, 0, 0, 0, 1, 0, 1, 0, 255, 0, 0,
    0], serving_of (by decide), by decide, by decide, by decide⟩,
   ⟨{ img { topo := { videoMask := 15, gfxMask := 4095 } } with cmp := { layers := vset up.cmp.layers 0 { pend := some { st := {}, wait := true, ready := false, seq := 1, arrival := 0, changed := [] } } } },
    zeros 0 2, { st := {}, wait := true, ready := false, seq := 1, arrival := 0, changed := [] }, serving_of (by decide), by
    decide, by decide, by decide, by decide, by decide⟩,
   ⟨still, cmd 15 [0, 0, 0, 0, 0, 0, 0, 0, 0, 0, 0, 0, 0, 0, 0, 0, 64, 0, 0, 0, 1, 0, 1, 0, 0, 0, 0, 0, 0, 0, 0, 0],
    serving_of (by decide), by decide, by decide⟩,
   ⟨img { topo := { videoMask := 15, gfxMask := 4095 } }, cmd 15 (List.replicate 32 255), serving_of (by decide), by decide⟩,
   ⟨up, cmd 3 [0, 0, 0, 0, 1, 0, 1, 0, 0, 0, 0, 0, 1, 0, 1, 0, 255, 0, 0, 0], serving_of (by decide), by decide, by decide⟩⟩

/-- The hypotheses of `LayerCommandsTakeEffect`, clauses 7 to 8 can be met. -/
theorem witness_LayerCommandsTakeEffect_2 :
    (∃ (s : State) (c : Cmd), Serving s 0x0402 c ∧ geomEncOk c.unit.toNat (bodyOf c) = false) ∧
    (∃ (s : State) (c : Cmd), Serving s 0x0404 c ∧ (layerEnabled s c.unit.toNat = false ∨ (∀ q, (vget s.cmp.layers
      c.unit.toNat {}).pend = some q → q.wait = false ∨ q.ready = true ∨ q.st.surf.bufferId ≠ leAt (bodyOf c) 0 2))) :=
  ⟨⟨img { topo := { videoMask := 15, gfxMask := 4095 } }, zeros 3 20, serving_of (by decide), by decide⟩,
   ⟨up, zeros 0 2, serving_of (by decide), (Or.inl (by decide))⟩⟩

/-- The hypotheses of `AcceptedCommitMergesShadows` can be met. -/
theorem witness_AcceptedCommitMergesShadows :
    (∃ (s : State) (c : Cmd) (p : List Byte), p = bodyOf c ∧ Serving s 0x0403 c ∧ commitShut s s.tsc = false ∧ s.cmp.writes =
      [] ∧ commitPayloadOk (decide ((arriving s 0x0403 c []).ver.major = 1)) p = true ∧ maskCheck s (leAt p 0 2) = none ∧ leAt
      p 2 2 &&& leAt p 0 2 = leAt p 2 2 ∧ (∀ l, l < 16 → bitAt (leAt p 0 2) l = true → layerCheck s l = none) ∧ fetchBudget s
      (mergeLayers s (leAt p 0 2) (leAt p 2 2) 0 s.tsc ((List.range 7).map (fun i => leAt p (8 + 2 * i) 2))) ≤ (cfg
      s).canvas.fetchAllotment) ∧
    (∃ (s : State) (c : Cmd), Serving s 0x0403 c ∧ commitPayloadOk (decide ((arriving s 0x0403 c []).ver.major = 1)) (bodyOf
      c) = true ∧ s.ftgOn = false ∧ s.cmp.stoppedAt ≤ s.tsc) ∧
    (∃ (s : State) (c : Cmd) (l : Nat) (st : Status), Serving s 0x0403 c ∧ commitShut s s.tsc = false ∧ commitPayloadOk
      (decide ((arriving s 0x0403 c []).ver.major = 1)) (bodyOf c) = true ∧ maskCheck s (leAt (bodyOf c) 0 2) = some (l, st)) ∧
    (∃ (s : State) (c : Cmd) (l : Nat) (step : Nat) (st : Status), Serving s 0x0403 c ∧ commitShut s s.tsc = false ∧
      commitPayloadOk (decide ((arriving s 0x0403 c []).ver.major = 1)) (bodyOf c) = true ∧ maskCheck s (leAt (bodyOf c) 0 2) =
      none ∧ leAt (bodyOf c) 2 2 &&& leAt (bodyOf c) 0 2 = leAt (bodyOf c) 2 2 ∧ l < 16 ∧ bitAt (leAt (bodyOf c) 0 2) l = true
      ∧ layerCheck s l = some (step, st) ∧ (∀ j, j < l → bitAt (leAt (bodyOf c) 0 2) j = true → layerCheck s j = none)) ∧
    (∃ (s : State) (c : Cmd), Serving s 0x0403 c ∧ commitPayloadOk (decide ((arriving s 0x0403 c []).ver.major = 1)) (bodyOf
      c) = false) :=
  ⟨⟨img { topo := { videoMask := 15, gfxMask := 4095 } }, cmd 0 ([3, 0, 1, 0] ++ List.replicate 20 0), [3, 0, 1, 0] ++
    List.replicate 20 0, by decide, serving_of (by decide), by decide, by decide, by decide, by decide, by decide, by decide,
    by decide⟩,
   ⟨{ still with cmp := { stoppedAt := 1000 } }, zeros 0 24, serving_of (by decide), by decide, by decide, by decide⟩,
   ⟨up, cmd 0 ([1] ++ List.replicate 23 0), 0, .badState, serving_of (by decide), by decide, by decide, by decide⟩,
   ⟨{ img { topo := { videoMask := 15, gfxMask := 4095 } } with cmp := { layers := vset up.cmp.layers 3 { shadow := { geom := { enable := true } } } } },
    cmd 0 ([8] ++ List.replicate 23 0), 3, 3, .outOfRange, serving_of (by decide), by decide, by decide, by decide, by
    decide, by decide, by decide, by decide, by decide⟩,
   ⟨up, cmd 0 ([0, 0, 0, 0, 1] ++ List.replicate 19 0), serving_of (by decide), by decide⟩⟩

/-- The hypotheses of `LinesWatermarksAndTheLatch`, clauses 1 to 6 can be met. -/
theorem witness_LinesWatermarksAndTheLatch_1 :
    (∃ (s : State), Live s ∧ lineDue s 0 = true) ∧
    (∃ (s : State), Live s ∧ lineDue s 1 = true) ∧
    (∃ (s : State) (f : Fin 2), Live s ∧ lineDue s f.val = false) ∧
    (∃ (s : State) (l : Fin 16) (fill : Nat) (errs : DramErrs), Live s ∧ ((vget s.cmp.layers l.val {}).urgent = false) ∧ fill
      < bits (regN s 0x20001C) 5 0) ∧
    (∃ (s : State) (l : Fin 16) (fill : Nat) (errs : DramErrs), Live s ∧ ((vget s.cmp.layers l.val {}).urgent = true) ∧ bits
      (regN s 0x20001C) 13 8 ≤ fill) ∧
    (∃ (s : State) (l : Fin 16) (fill : Nat), Live s ∧ (if (vget s.cmp.layers l.val {}).urgent then fill < bits (regN s
      0x20001C) 13 8 else bits (regN s 0x20001C) 5 0 ≤ fill)) :=
  ⟨⟨ftgIs { lineAt := 1000 }, live_of (by decide), by decide⟩,
   ⟨ftgIs { on1 := true, lineAt1 := 1000 }, live_of (by decide), by decide⟩,
   ⟨ftgIs { lineAt := 999 }, 0, live_of (by decide), by decide⟩,
   ⟨up, 15, 15, {}, live_of (by decide), by decide, by decide⟩,
   ⟨{ up with cmp := { layers := vset up.cmp.layers 0 { urgent := true } } }, 0, 32, {}, live_of (by decide), by decide, by
    decide⟩,
   ⟨up, 15, 16, live_of (by decide), by decide⟩⟩

/-- The hypotheses of `LinesWatermarksAndTheLatch`, clauses 7 to 9 can be met. -/
theorem witness_LinesWatermarksAndTheLatch_2 :
    (∃ (s : State), Live s ∧ latchDue s = true ∧ s.cmp.latchStamp = none ∧ underCheck s s.tsc = false) ∧
    (∃ (s : State), Live s ∧ latchDue s = true ∧ s.cmp.latchStamp = none ∧ underCheck s s.tsc = true) ∧
    (∃ (s : State), Live s ∧ (latchDue s = false ∨ s.cmp.latchStamp.isSome = true)) :=
  ⟨⟨{ up with rck := { segStart := 1000 } }, live_of (by decide), by decide, by decide, by decide⟩,
   ⟨{ hmiIs { up.hmi with cmdTail := 1, dbLog := [(1, 999)] } with rck := { segStart := 1000 } }, live_of (by decide), by
    decide, by decide, by decide⟩,
   ⟨{ up with rck := { segStart := 999 } }, live_of (by decide), by decide⟩⟩

/-- The hypotheses of `PassesRestartAndComplete`, clauses 1 to 6 can be met. -/
theorem witness_PassesRestartAndComplete_1 :
    (∃ (s : State) (layer : Option (Fin 16)) (line : Nat) (p : Pass), Live s ∧ s.cmp.pass = some p ∧ p.mode = .running ∧
      (layer ≠ none ∨ ringRowFree s line = false)) ∧
    (∃ (s : State) (layer : Option (Fin 16)) (line : Nat), Live s ∧ s.cmp.pass.all (fun p => p.mode != .running) = true) ∧
    (∃ (s : State) (line : Nat), Live s ∧ ringRowFree s line = true) ∧
    (∃ (s : State) (p : Pass) (e : StoreError), Live s ∧ s.cmp.pass = some p ∧ p.mode = .running) ∧
    (∃ (s : State) (e : StoreError), Live s ∧ s.cmp.pass.all (fun p => p.mode != .running) = true) ∧
    (∃ (s : State) (p : HlPass) (bad : List Nat) (errs : DramErrs), Live s ∧ s.hls.pass = some p) :=
  ⟨⟨{ up with cmp := { pass := some { no := 1, mode := .running, layers := [], takenSeq := 0, frame := 0, line := 0, changed := [], cover := 0, carryIn := false, gains := [], pqPeak := 0, start := 0 } } },
    some 0, 3,
    { no := 1, mode := .running, layers := [], takenSeq := 0, frame := 0, line := 0, changed := [], cover := 0, carryIn := false, gains := [], pqPeak := 0, start := 0 },
    live_of (by decide), by decide, by decide, by decide⟩,
   ⟨{ up with cmp := { pass := some { no := 1, mode := .complete, layers := [], takenSeq := 0, frame := 0, line := 0, changed := [], cover := 0, carryIn := false, gains := [], pqPeak := 0, start := 0 } } },
    none, 0, live_of (by decide), by decide⟩,
   ⟨{ up with cmp := { pass := some { no := 1, mode := .running, layers := [], takenSeq := 0, frame := 0, line := 0, changed := [], cover := 0, carryIn := false, gains := [], pqPeak := 0, start := 0 } } },
    3, live_of (by decide), by decide⟩,
   ⟨{ up with cmp := { pass := some { no := 1, mode := .running, layers := [], takenSeq := 0, frame := 0, line := 0, changed := [], cover := 0, carryIn := false, gains := [], pqPeak := 0, start := 0 } } },
    { no := 1, mode := .running, layers := [], takenSeq := 0, frame := 0, line := 0, changed := [], cover := 0, carryIn := false, gains := [], pqPeak := 0, start := 0 },
    .uncorrectable, live_of (by decide), by decide, by decide⟩,
   ⟨{ up with cmp := { pass := some { no := 1, mode := .waiting, layers := [], takenSeq := 0, frame := 0, line := 0, changed := [], cover := 0, carryIn := false, gains := [], pqPeak := 0, start := 0 } } },
    .none, live_of (by decide), by decide⟩,
   ⟨hlsIs { pass := some ⟨1, 0, none, 1000⟩ }, ⟨1, 0, none, 1000⟩, [], {}, live_of (by decide), by decide⟩⟩

/-- The hypotheses of `PassesRestartAndComplete`, clauses 7 to 7 can be met. -/
theorem witness_PassesRestartAndComplete_2 :
    ∃ (s : State) (bad : List Nat) (errs : DramErrs), Live s ∧ s.hls.pass = none :=
  ⟨up, [], {}, live_of (by decide), by decide⟩

/-- The hypotheses of `BuildersWork`, clauses 1 to 6 can be met. -/
theorem witness_BuildersWork_1 :
    (∃ (s : State) (sl : Fin 22) (p : Pass) (e : TileCfg), Live s ∧ s.cmp.pass = some p ∧ slotTile s sl.val = some e ∧
      buildsPass s p = true ∧ ((vget s.pbu.slots sl.val {}).phys.isSome = true) ∧ ((vget s.pbu.slots sl.val {}).running =
      false) ∧ ((vget s.pbu.slots sl.val {}).abandoned = false) ∧ s.pbu.belowMin = false ∧ firstRowIn s p e = true ∧ (∀ f ∈
      s.pbu.failing, f.slot ≠ sl.val)) ∧
    (∃ (s : State) (sl : Fin 22) (p : Pass) (e : TileCfg), Live s ∧ s.cmp.pass = some p ∧ slotTile s sl.val = some e ∧
      (firstRowIn s p e = false ∨ (vget s.pbu.slots sl.val {}).running = true)) ∧
    (∃ (s : State) (sl : Fin 22) (p : Pass) (e : TileCfg) (b : Nat) (l : List (BitVec 32)), Live s ∧ s.cmp.pass = some p ∧
      slotTile s sl.val = some e ∧ ((vget s.pbu.slots sl.val {}).phys = some b) ∧ ((vget s.pbu.slots sl.val {}).running = true)
      ∧ tileDue s p e (vget s.pbu.slots sl.val {}).start = true ∧ l.map (·.toNat) = inputResidues s p e.port e.band ∧ armedOn s
      0x40 b = none) ∧
    (∃ (s : State) (sl : Fin 22) (p : Pass) (e : TileCfg) (b : Nat) (l : List (BitVec 32)), Live s ∧ s.cmp.pass = some p ∧
      slotTile s sl.val = some e ∧ ((vget s.pbu.slots sl.val {}).phys = some b) ∧ ((vget s.pbu.slots sl.val {}).running = true)
      ∧ tileDue s p e (vget s.pbu.slots sl.val {}).start = true ∧ l.map (·.toNat) ≠ inputResidues s p e.port e.band ∧ armedOn s
      0x40 b = none) ∧
    (∃ (s : State) (sl : Fin 22) (l : List (BitVec 32)), Live s ∧ ((vget s.pbu.slots sl.val {}).running = false ∨ (∀ p e,
      s.cmp.pass = some p → slotTile s sl.val = some e → tileDue s p e (vget s.pbu.slots sl.val {}).start = false))) ∧
    (∃ (s : State) (f : FailedTile) (p : Pass) (sp : Nat) (l : List Nat), s.pending = [] ∧ s.boot.power = .running ∧
      s.boot.sysclkMissing = false ∧ NothingDue { s with pbu := { s.pbu with failing := [] } } ∧ s.pbu.failing = [f] ∧ f.slot <
      22 ∧ f.real = true ∧ f.inj = none ∧ s.cmp.pass = some p ∧ buildsPass s p = true ∧ f.pass = p.no ∧ spares s = sp :: l) :=
  ⟨⟨{ (img { builds := [{ tiles := [{ slot := 21, seq := 0 }] }] }) with cmp := { pass := some { no := 1, mode := .running, layers := [], takenSeq := 0, frame := 0, line := 0, changed := [], cover := 0, carryIn := false, gains := [], pqPeak := 0, start := 0 } }, pbu := { slots := vset up.pbu.slots 21 { phys := some 23 }, passNo := 1 }, tsc := 19408 },
    21,
    { no := 1, mode := .running, layers := [], takenSeq := 0, frame := 0, line := 0, changed := [], cover := 0, carryIn := false, gains := [], pqPeak := 0, start := 0 },
    { slot := 21, seq := 0 }, live_of (by decide), by decide, by decide, by decide, by decide, by decide, by decide, by
    decide, by decide, by decide⟩,
   ⟨{ (img { builds := [{ tiles := [{ slot := 21, seq := 0 }] }] }) with cmp := { pass := some { no := 1, mode := .running, layers := [], takenSeq := 0, frame := 0, line := 0, changed := [], cover := 0, carryIn := false, gains := [], pqPeak := 0, start := 0 } }, pbu := { slots := vset up.pbu.slots 21 { phys := some 23, running := true }, passNo := 1 }, tsc := 19408 },
    21,
    { no := 1, mode := .running, layers := [], takenSeq := 0, frame := 0, line := 0, changed := [], cover := 0, carryIn := false, gains := [], pqPeak := 0, start := 0 },
    { slot := 21, seq := 0 }, live_of (by decide), by decide, by decide, by decide⟩,
   ⟨{ (img { builds := [{ tiles := [{ slot := 21, seq := 0 }] }] }) with cmp := { pass := some { no := 1, mode := .running, layers := [], takenSeq := 0, frame := 0, line := 0, changed := [], cover := 0, carryIn := false, gains := [], pqPeak := 0, start := 0 } }, pbu := { slots := vset up.pbu.slots 21 { phys := some 23, running := true }, passNo := 1 }, tsc := 19408 },
    21,
    { no := 1, mode := .running, layers := [], takenSeq := 0, frame := 0, line := 0, changed := [], cover := 0, carryIn := false, gains := [], pqPeak := 0, start := 0 },
    { slot := 21, seq := 0 }, 23, [0], live_of (by decide), by decide, by decide, by decide, by decide, by decide, by decide,
    by decide⟩,
   ⟨{ (img { builds := [{ tiles := [{ slot := 21, seq := 0 }] }] }) with cmp := { pass := some { no := 1, mode := .running, layers := [], takenSeq := 0, frame := 0, line := 0, changed := [], cover := 0, carryIn := false, gains := [], pqPeak := 0, start := 0 } }, pbu := { slots := vset up.pbu.slots 21 { phys := some 23, running := true }, passNo := 1 }, tsc := 19408 },
    21,
    { no := 1, mode := .running, layers := [], takenSeq := 0, frame := 0, line := 0, changed := [], cover := 0, carryIn := false, gains := [], pqPeak := 0, start := 0 },
    { slot := 21, seq := 0 }, 23, [1], live_of (by decide), by decide, by decide, by decide, by decide, by decide, by decide,
    by decide⟩,
   ⟨up, 21, [0], live_of (by decide), (Or.inl (by decide))⟩,
   ⟨{ (img { builds := [{ tiles := [{ slot := 21, seq := 0 }] }] }) with cmp := { pass := some { no := 1, mode := .running, layers := [], takenSeq := 0, frame := 0, line := 0, changed := [], cover := 0, carryIn := false, gains := [], pqPeak := 0, start := 0 } }, pbu := { slots := vset up.pbu.slots 21 { phys := some 23 }, passNo := 1, table := 1, failing := [{ slot := 21, phys := 23, port := 0, band := 0, real := true, inj := none, pass := 1 }] }, tsc := 19408 },
    { slot := 21, phys := 23, port := 0, band := 0, real := true, inj := none, pass := 1 },
    { no := 1, mode := .running, layers := [], takenSeq := 0, frame := 0, line := 0, changed := [], cover := 0, carryIn := false, gains := [], pqPeak := 0, start := 0 },
    0, (List.range 22).map (· + 1), by decide, by decide, by decide, nothing_of (by decide), by decide, by decide, by decide,
    by decide, by decide, by decide, by decide, by decide⟩⟩

/-- The hypotheses of `BuildersWork`, clauses 7 to 11 can be met. -/
theorem witness_BuildersWork_2 :
    (∃ (s : State) (f : FailedTile), s.pending = [] ∧ s.boot.power = .running ∧ s.boot.sysclkMissing = false ∧ NothingDue
      { s with pbu := { s.pbu with failing := [] } } ∧ s.pbu.failing = [f] ∧ f.slot < 22 ∧ f.real = true ∧ f.inj = none ∧
      spares s = []) ∧
    (∃ (s : State) (c : Cmd), Serving s 0x0601 c ∧ builderMapped s c.unit.toNat = false ∧ domainOn s (builderDomain
      c.unit.toNat) = true) ∧
    (∃ (s : State) (c : Cmd), Serving s 0x0601 c ∧ builderMapped s c.unit.toNat = true) ∧
    (∃ (s : State) (n : Fin 24) (id : Nat) (residue : BitVec 32), Live s ∧ s.pbu.tests.find? (fun e => e.1 == n.val) = some
      (n.val, id)) ∧
    (∃ (s : State) (n : Fin 24) (residue : BitVec 32), Live s ∧ (∀ e ∈ s.pbu.tests, e.1 ≠ n.val)) :=
  ⟨⟨{ (img { builds := [{ tiles := [{ slot := 21, seq := 0 }] }] }) with cmp := { pass := some { no := 1, mode := .running, layers := [], takenSeq := 0, frame := 0, line := 0, changed := [], cover := 0, carryIn := false, gains := [], pqPeak := 0, start := 0 } }, pbu := { slots := vset up.pbu.slots 21 { phys := some 23 }, passNo := 1, table := 1, failing := [{ slot := 21, phys := 23, port := 0, band := 0, real := true, inj := none, pass := 1 }], fenced := Vector.replicate 24 true }, tsc := 19408 },
    { slot := 21, phys := 23, port := 0, band := 0, real := true, inj := none, pass := 1 }, by decide, by decide, by decide,
    nothing_of (by decide), by decide, by decide, by decide, by decide, by decide⟩,
   ⟨up, zeros 23 0, serving_of (by decide), by decide, by decide⟩,
   ⟨{ (img { builds := [{ tiles := [{ slot := 21, seq := 0 }] }] }) with cmp := { pass := some { no := 1, mode := .running, layers := [], takenSeq := 0, frame := 0, line := 0, changed := [], cover := 0, carryIn := false, gains := [], pqPeak := 0, start := 0 } }, pbu := { slots := vset up.pbu.slots 21 { phys := some 23 }, passNo := 1 }, tsc := 19408 },
    zeros 23 0, serving_of (by decide), by decide⟩,
   ⟨{ up with pbu := { tests := [(23, 7)] } }, 23, 7, 0, live_of (by decide), by decide⟩,
   ⟨up, 23, 0, live_of (by decide), by decide⟩⟩

end Sys2Proof.Machine.Tests
end

section
/-! Reads of BAR0 registers by either requester: the path to the registers, the end of a command that reports nothing, the
GLB block, which no domain serves, and the TSC's shadows (R28). -/

namespace Sys2Proof.Machine

/-! ### The end of a host event that reports nothing -/

/-- A host event whose operation leaves the end of the command nothing to do. -/
theorem hostEvent_quiet {s r : State} {f : State → State} (h : s.boot.power ≠ .heldInReset) (hf : f s = r) (q : Quiet s r)
    (hp : r.pending = s.pending) : hostEvent s f = r := by
  subst hf
  rw [hostEvent_up h, finish_quiet q, ← hp]
  rfl

/-! ### The shadows -/

theorem capture_frame (s : State) (q : Requester) (off : Nat) :
    capture s q off = { s with shPcie := (capture s q off).shPcie, shSmb := (capture s q off).shSmb } := by
  cases q <;> rfl

theorem tscShadow_capture_tscLo (s : State) (q : Requester) : tscShadow (capture s q 0x40) q = bits s.tsc 63 32 := by
  cases q <;> rfl

/-- Each requester has its own shadow. -/
theorem tscShadow_capture_ne (s : State) {q r : Requester} (off : Nat) (h : r ≠ q) :
    tscShadow (capture s q off) r = tscShadow s r := by
  cases q <;> cases r
  case pcie.pcie => exact absurd rfl h
  case pcie.smbus => rfl
  case smbus.pcie => rfl
  case smbus.smbus => exact absurd rfl h

/-- GLB_TSC_HI is no LO register: its read captures nothing. -/
theorem capture_tscHi (s : State) (q : Requester) : capture s q 0x44 = s := by
  cases q <;> rfl

@[simp] theorem tscShadow_emit (s : State) (o : Output) (q : Requester) : tscShadow (emit s o) q = tscShadow s q := by
  cases q <;> rfl

/-! ### A read of a BAR0 register -/

/-- A register read changes at most the shadows. -/
theorem regRead_frame (s : State) (q : Requester) (off : Nat) :
    (regRead s q off).2 = { s with shPcie := (regRead s q off).2.shPcie, shSmb := (regRead s q off).2.shSmb } := by
  simp only [regRead]
  split
  · rfl
  · exact capture_frame s q off

/-- An access that reaches the registers answers its requester with what the register reads as. -/
theorem readBy_reached {s : State} {q : Requester} (h : reaches s q = true) (off : Nat) :
    readBy s q off = emit (regRead s q off).2 (answerTo s q (regRead s q off).1) := by
  cases q with
  | pcie =>
    obtain ⟨hreach, hlink⟩ : pcieReaches s = true ∧ s.hmi.linkUp = true := by simpa [reaches] using h
    simp [readBy, pcieAccess, pcieUp, hreach, hlink, answerTo]
  | smbus =>
    have hans : smbAnswers s = true := h
    simp [readBy, hans, answerTo]

/-- A register read reports nothing and starts nothing, so the end of the command finds nothing to do. -/
theorem regRead_emit_quiet {s : State} (h : Steady s) (q : Requester) (off : Nat) (o : Output) :
    Quiet s (emit (regRead s q off).2 o) := by
  rw [regRead_frame]
  exact ⟨h.reports, rfl, rfl, rfl, rfl, rearmed_same rfl, h.waits⟩

/-- SHADOW_CAPTURE_READ of a BAR0 register is the register's read, and the answer to its requester. -/
theorem exec_shadowCaptureRead_bar0 {s : State} {q : Requester} {dw : Fin 0x1000000} (hs : Awake s)
    (hr : reaches s q = true) :
    exec (.shadowCaptureRead q .bar0 dw) s =
      .next (emit (regRead s q (4 * dw.val)).2 (answerTo s q (regRead s q (4 * dw.val)).1)) := by
  have hpending : (regRead s q (4 * dw.val)).2.pending = s.pending := by rw [regRead_frame]
  exact congrArg Host.Outcome.next
    (hostEvent_quiet hs.power (readBy_reached hr _) (regRead_emit_quiet hs.toSteady q _ _) hpending)

/-! ### The GLB block -/

theorem blockOf_glb {off : Nat} (h : off < 0x10000) : blockOf off = .glb := by
  simp [blockOf, h]

/-- Every range that a domain serves lies above the GLB block (R106, R483). -/
theorem domainBlocks_above_glb : ∀ d ∈ List.range 36, ∀ r ∈ domainBlocks d, 0x10000 ≤ r.1 := by decide

/-- No domain serves the GLB block, so none takes it away. -/
theorem domainOff_glb (s : State) {off : Nat} (h : off < 0x10000) : domainOff s off = false := by
  rw [domainOff, List.any_eq_false]
  intro d hd
  have hout : (domainBlocks d).any (fun r => decide (r.1 ≤ off ∧ off < r.1 + r.2)) = false := by
    rw [List.any_eq_false]
    intro r hr
    have habove := domainBlocks_above_glb d hd r hr
    simp only [decide_eq_true_eq]
    omega
  rw [hout, Bool.and_false]
  exact Bool.false_ne_true

/-- A computed GLB register reads as its view in every stage of the start-up, and its read captures (R28, R524). -/
theorem regRead_glb {s : State} {q : Requester} {off v : Nat} (h : off < 0x10000) (hr : (regRow off).isSome = true)
    (hv : glbView s q off = some v) : regRead s q off = (v, capture s q off) := by
  obtain ⟨row, hrow⟩ := Option.isSome_iff_exists.mp hr
  have hblock := blockOf_glb h
  have hearly : earlyBlock off = true := by simp [earlyBlock, hblock]
  have habsent : absentAt s off = false := by simp [absentAt, hblock]
  have hwindow : isWindow off = false := by simp [isWindow]; omega
  have hview : blockView s q off = some v := by simp [blockView, hblock, hv]
  simp [regRead, regValue, hblock, hearly, habsent, hwindow, domainOff_glb s h, hrow, hview]

theorem regRead_tscLo (s : State) (q : Requester) : regRead s q 0x40 = (bits s.tsc 31 0, capture s q 0x40) :=
  regRead_glb (by decide) (by decide) rfl

theorem regRead_tscHi (s : State) (q : Requester) : regRead s q 0x44 = (tscShadow s q, s) := by
  have hview : glbView s q 0x44 = some (tscShadow s q) := by cases q <;> rfl
  rw [regRead_glb (by decide) (by decide) hview, capture_tscHi]

/-! ### O15: the TSC is read through its shadows -/

theorem exec_read_tscLo {s : State} {q : Requester} (hs : Awake s) (hr : reaches s q = true) :
    exec (.shadowCaptureRead q .bar0 0x10) s =
      .next (emit (capture s q 0x40) (answerTo s q (bits s.tsc 31 0))) := by
  rw [exec_shadowCaptureRead_bar0 hs hr, show 4 * (0x10 : Fin 0x1000000).val = 0x40 from rfl, regRead_tscLo]

theorem exec_read_tscHi {s : State} {q : Requester} (hs : Awake s) (hr : reaches s q = true) :
    exec (.shadowCaptureRead q .bar0 0x11) s = .next (emit s (answerTo s q (tscShadow s q))) := by
  rw [exec_shadowCaptureRead_bar0 hs hr, show 4 * (0x11 : Fin 0x1000000).val = 0x44 from rfl, regRead_tscHi]

/-- Settles O15: both registers are GLB views that no stage and no domain hides; the read of the low half captures for its
requester alone. -/
theorem tscReadsThroughShadows : Obligations.TscReadsThroughShadows := by
  unfold Obligations.TscReadsThroughShadows
  refine ⟨fun s q hs hr => ⟨_, exec_read_tscLo hs hr, ?answer, ?own, ?others, ?frame⟩,
    fun s q hs hr => exec_read_tscHi hs hr, rfl, ?reset⟩
  case answer => rw [emit_outs, capture_frame]
  case own => rw [tscShadow_emit, tscShadow_capture_tscLo]
  case others => exact fun r hne => by rw [tscShadow_emit, tscShadow_capture_ne s _ hne]
  case frame => cases q <;> rfl
  case reset => intro q; cases q <;> rfl

end Sys2Proof.Machine
end

section
/-! What is counted in the tally of a fault source: nothing but the records of its reports (R516). A command that reports a
fault once, by no injection, has counted it once more at its end, whatever reactions the image gives to the fault. -/

namespace Sys2Proof.Machine

/-! ### The tally of a source and the reports that wait -/

/-- The records of a source counted so far (R516). -/
def sourceTally (s : State) (src : Nat) : Nat := tally s (srcBase src + 8)

/-- The reports of a list that are of a source, as its tally tells sources apart: by their 8-bit ID (R491). -/
def reportsOf (l : List Report) (src : Nat) : Nat := l.countP (fun r => r.source % 256 == src % 256)

/-- No report that waits is an injection's (R511). -/
def noInjection (s : State) : Prop := ∀ r ∈ s.reports, r.injected = false

theorem Loose.noInjection {s t : State} (k : Loose s t) (h : Machine.noInjection s) : Machine.noInjection t := by
  intro r hr
  rcases k.reports r hr with hr | rfl
  · exact h r hr
  · rfl

theorem HostOnly.noInjection {s t : State} (k : HostOnly s t) (h : Machine.noInjection s) : Machine.noInjection t := by
  intro r hr
  rcases k.reports r hr with hr | rfl
  · exact h r hr
  · rfl

theorem noInjection_report {s : State} {r : Report} (h : noInjection s) (hr : r.injected = false) :
    noInjection (report s r) := by
  intro q hq
  rcases List.mem_append.mp hq with hq | hq
  · exact h q hq
  · rw [List.mem_singleton.mp hq]
    exact hr

/-- From `s` to `t` no record is counted, and no report but of lost events (0x12) comes or goes. -/
structure Uncounted (s t : State) : Prop where
  tallies : ∀ src, sourceTally t src = sourceTally s src
  reports : ∀ src, src % 256 ≠ 0x12 → reportsOf t.reports src = reportsOf s.reports src

theorem Uncounted.refl (s : State) : Uncounted s s := ⟨fun _ => rfl, fun _ _ => rfl⟩

theorem Uncounted.trans {a b c : State} (h1 : Uncounted a b) (h2 : Uncounted b c) : Uncounted a c :=
  ⟨fun src => (h2.tallies src).trans (h1.tallies src), fun src h => (h2.reports src h).trans (h1.reports src h)⟩

/-- A change that leaves tallies and reports alone. -/
theorem Uncounted.same {s t : State} (h : (t.tallies, t.reports) = (s.tallies, s.reports)) : Uncounted s t := by
  obtain ⟨ht, hr⟩ := Prod.mk.inj h
  exact ⟨fun src => by simp only [sourceTally, tally, ht], fun src _ => by rw [hr]⟩

/-- What counts no record from `a` counts none from a state with the same tallies and reports. -/
theorem Uncounted.after {s a t : State} (h : Uncounted a t) (ha : (a.tallies, a.reports) = (s.tallies, s.reports)) :
    Uncounted s t := (Uncounted.same ha).trans h

theorem Uncounted.ite {s a b : State} (c : Prop) [Decidable c] (ha : Uncounted s a) (hb : Uncounted s b) :
    Uncounted s (if c then a else b) := by split <;> assumption

theorem Uncounted.foldl {β : Type} (f : State → β → State) (h : ∀ s b, Uncounted s (f s b)) (l : List β) (s : State) :
    Uncounted s (l.foldl f s) := by
  induction l generalizing s with
  | nil => exact .refl _
  | cons b t ih => exact (h s b).trans (ih _)

theorem Uncounted.forN (n : Nat) (f : State → Nat → State) (h : ∀ s b, Uncounted s (f s b)) (s : State) :
    Uncounted s (Machine.forN n f s) := .foldl f h _ s

/-! ### Events, vectors and completions count no record -/

theorem signal_uncounted (s : State) (v : Nat) : Uncounted s (signal s v) := .ite _ (.same (by rfl)) (.same (by rfl))

theorem coalesceEvt_uncounted (s : State) : Uncounted s (coalesceEvt s) :=
  .ite _ (.ite _ ((signal_uncounted _ _).after (by rfl)) (.same (by rfl))) (signal_uncounted _ _)

theorem writeEvt_uncounted (s : State) (e : Event) : Uncounted s (writeEvt s e) :=
  (coalesceEvt_uncounted _).after (by rfl)

theorem bumpRaw_uncounted (s : State) {off : Nat} (h : ∀ src, srcBase src + 8 ≠ off) : Uncounted s (bumpRaw s off).1 where
  tallies src := tally_bumpRaw_ne s (h src)
  reports src _ := by unfold bumpRaw; split <;> rfl

theorem reportLost_uncounted (s : State) : Uncounted s (report s { source := 0x12 }) where
  tallies _ := rfl
  reports src h := by simp [report, reportsOf, Ne.symm h]

theorem dropEvt_uncounted (s : State) : Uncounted s (dropEvt s) := by
  have h : Uncounted s (bumpRaw s offEvtLost).1 :=
    bumpRaw_uncounted s (fun src => by simp only [srcBase, offEvtLost]; omega)
  exact .ite _ (h.trans (.same (by rfl))) ((h.trans (.same (by rfl))).trans (reportLost_uncounted _))

theorem pushEvt_uncounted (s : State) (e : Event) : Uncounted s (pushEvt s e) :=
  .ite _ (.refl _) (.ite _ (writeEvt_uncounted _ _) (.ite _ (.same (by rfl)) (dropEvt_uncounted _)))

theorem post_uncounted (s : State) (c u : Nat) (p : List Byte) : Uncounted s (post s c u p) := pushEvt_uncounted _ _

theorem post2_uncounted (s : State) (c u : Nat) (p : List Byte) : Uncounted s (post2 s c u p) :=
  .ite _ (post_uncounted _ _ _ _) (.refl _)

/-- What a count does beside counting. -/
theorem bump_uncounted_after (s : State) (off : Nat) : Uncounted (bumpRaw s off).1 (bump s off) :=
  .ite _ (post_uncounted _ _ _ _) (.refl _)

/-- A count of a tally that is no source's. -/
theorem bump_uncounted (s : State) {off : Nat} (h : ∀ src, srcBase src + 8 ≠ off) : Uncounted s (bump s off) :=
  (bumpRaw_uncounted s h).trans (bump_uncounted_after s off)

/-- A count of a tally outside the registers of the sources (R516). -/
theorem bump_uncounted_outside (s : State) {off : Nat} (h : off < 0x41000 ∨ 0x42000 ≤ off) :
    Uncounted s (bump s off) :=
  bump_uncounted s (fun src => by unfold srcBase; omega)

theorem coalesceCpl_uncounted (s : State) : Uncounted s (coalesceCpl s) :=
  .ite _ (.ite _ ((signal_uncounted _ _).after (by rfl)) (.same (by rfl))) (signal_uncounted _ _)

theorem postCpl_uncounted (s : State) (c : Completion) : Uncounted s (postCpl s c) :=
  .ite _ (.refl _) (.ite _ ((coalesceCpl_uncounted _).after (by rfl)) (.same (by rfl)))

theorem flushOrdered_uncounted (n : Nat) (s : State) : Uncounted s (flushOrdered n s) := by
  induction n generalizing s with
  | zero => exact .refl _
  | succ k ih =>
    unfold flushOrdered
    split
    · exact .refl _
    · split
      · exact .refl _
      · exact ((Uncounted.ite _ (postCpl_uncounted _ _) (.refl _)).trans (ih _)).after (by rfl)

theorem complete_uncounted (s : State) (id : Nat) (st : Status) (res : List Byte) : Uncounted s (complete s id st res) := by
  have h : Uncounted s (bump s offCmdTally) := bump_uncounted_outside s (by decide)
  unfold complete
  split
  · exact .refl _
  · exact .ite _ ((h.trans (.same (by rfl))).trans (flushOrdered_uncounted _ _))
      ((h.trans (.same (by rfl))).trans (.ite _ (postCpl_uncounted _ _) (.refl _)))

theorem completeOpt_uncounted (s : State) (id : Option Nat) (st : Status) (res : List Byte) :
    Uncounted s (completeOpt s id st res) := by
  cases id with
  | none => exact .refl _
  | some i => exact complete_uncounted s i st res

/-! ### Reactions count no record -/

theorem clearBankSlot_uncounted (s : State) (b : Nat) : Uncounted s (clearBankSlot s b) := by
  unfold clearBankSlot; split <;> exact .same (by rfl)

theorem bankLeave_uncounted (s : State) (b : Nat) : Uncounted s (bankLeave s b) :=
  Uncounted.trans (.ite _ (.same (by rfl)) (.same (by rfl))) (clearBankSlot_uncounted _ _)

theorem setBank_uncounted (s : State) (b : Nat) (m : BankMode) (c : Nat) : Uncounted s (setBank s b m c) := by
  unfold setBank
  extract_lets s0 s1
  have h1 : Uncounted s s1 := .ite _ (.same (by rfl)) (.same (by rfl))
  exact (h1.trans (.ite _ (bankLeave_uncounted _ _) (.refl _))).trans (post_uncounted _ _ _ _)

theorem bankOff_uncounted (s : State) (b : Nat) : Uncounted s (bankOff s b) :=
  have h := setBank_uncounted s b .safe 3
  .ite _ (.ite _ (h.trans (.same (by rfl))) h) (.refl _)

theorem lightOff_uncounted (s : State) (shutter : Bool) : Uncounted s (lightOff s shutter) := .same (by rfl)

theorem driveOthersOff_uncounted (s : State) : Uncounted s (driveOthersOff s) :=
  .forN 12 _ (fun _ _ => .ite _ (.same (by rfl)) (.refl _)) s

theorem postSafe_uncounted (s : State) (on : Bool) : Uncounted s (postSafe s on) := post_uncounted _ _ _ _

theorem safeBegin_uncounted (s : State) (source : Nat) (shutter : Bool) : Uncounted s (safeBegin s source shutter) :=
  have h (a : State) : Uncounted a (driveOthersOff (signal (postSafe a true) 14)) :=
    ((postSafe_uncounted _ _).trans (signal_uncounted _ _)).trans (driveOthersOff_uncounted _)
  .ite _ (.refl _) ((h _).after (by rfl))

theorem enterSafe_uncounted (s : State) (source : Nat) (shutter : Bool) : Uncounted s (enterSafe s source shutter) := by
  unfold enterSafe
  extract_lets s1
  have h : Uncounted s s1 :=
    ((safeBegin_uncounted s source shutter).trans (.forN 12 bankOff bankOff_uncounted _)).trans
      (lightOff_uncounted _ shutter)
  clear_value s1
  exact .ite _ h (h.trans (.same (by rfl)))

theorem enterPort_uncounted (s : State) (p : Nat) (m : PortMode) (c : Nat) : Uncounted s (enterPort s p m c) :=
  .ite _ (.same (by rfl)) (((post_uncounted _ _ _ _).trans (signal_uncounted _ _)).after (by rfl))

theorem parkPort_uncounted (s : State) (p style cause : Nat) : Uncounted s (parkPort s p style cause) :=
  (enterPort_uncounted _ _ _ _).after (by rfl)

theorem parkArray_uncounted (s : State) (p : Nat) : Uncounted s (parkArray s p) :=
  .ite _ (((parkPort_uncounted _ _ _ _).trans (completeOpt_uncounted _ _ _ _)).after (by rfl)) (.refl _)

theorem modHlsSlot_uncounted (s : State) (k : Nat) (f : Slot → Slot) : Uncounted s (modHlsSlot s k f) := by
  unfold modHlsSlot; split <;> exact .same (by rfl)

theorem scannerRest_uncounted (s : State) (cause : Nat) (fault : Bool) : Uncounted s (scannerRest s cause fault) :=
  .same (by rfl)

theorem setInc_uncounted (s : State) (inc t : Nat) : Uncounted s (setInc s inc t) := .same (by rfl)

theorem setHls_uncounted (s : State) (m : HlsMode) (c : Nat) : Uncounted s (setHls s m c) :=
  (post_uncounted _ _ _ _).after (by rfl)

theorem parkTrigger_uncounted (s : State) : Uncounted s (parkTrigger s) := .same (by rfl)

theorem parkScanner_uncounted (s : State) (cause : Nat) (fault : Bool) : Uncounted s (parkScanner s cause fault) := by
  unfold parkScanner
  extract_lets t s1
  have h1 : Uncounted t s1 :=
    ((scannerRest_uncounted t _ _).trans (modHlsSlot_uncounted _ _ _)).trans (modHlsSlot_uncounted _ _ _)
  have h2 : Uncounted t (hlsTarget s1 3 (parkPos t)) := h1.trans (modHlsSlot_uncounted _ _ _)
  exact (parkTrigger_uncounted s).trans
    (.ite _ ((h2.trans (setInc_uncounted _ _ _)).trans (setHls_uncounted _ _ _)) (.refl _))

/-- The reactions of a cycle, whichever they are. -/
theorem applyReactions_uncounted (s : State) (l : List Report) : Uncounted s (applyReactions s l) := by
  unfold applyReactions
  extract_lets act rs has s1 s2 s3
  have h1 : Uncounted s s1 := by
    simp only [s1]
    split
    · exact enterSafe_uncounted _ _ _
    · exact .refl _
  have h2 : Uncounted s1 s2 := .ite _ (.forN 6 parkArray parkArray_uncounted _) (.refl _)
  have h3 : Uncounted s2 s3 := .ite _ (parkScanner_uncounted _ _ _) (.refl _)
  exact ((h1.trans h2).trans h3).trans (.foldl _ (fun s e => .ite _ (bankOff_uncounted _ _) (.refl _)) _ _)

/-! ### A record counts its source once -/

theorem wrBytes_uncounted (s : State) (a : Nat) (l : List Byte) : Uncounted s (wrBytes s a l) := by
  unfold wrBytes
  obtain ⟨dr, h⟩ := wrRaw_memory s a l
  rw [h]
  exact .same (by rfl)

theorem logRecord_uncounted (s : State) (r : FaultRec) : Uncounted s (logRecord s r) := by
  unfold logRecord
  extract_lets s1 s2
  have h2 : Uncounted s1 s2 := .ite _ (bump_uncounted_outside _ (by decide)) (.refl _)
  exact .ite _ ((h2.after (by rfl)).trans ((wrBytes_uncounted _ _ _).after (by rfl))) (.same (by rfl))

theorem publish_uncounted (s : State) (rc : FaultRec) (c : Bool) : Uncounted s (publish s rc c) := by
  have h : Uncounted s (logRecord (bump s 0x40080) rc) :=
    (bump_uncounted_outside s (by decide)).trans (logRecord_uncounted _ _)
  exact .ite _ (bump_uncounted_outside s (by decide))
    (.ite _ h ((h.trans (post_uncounted _ _ _ _)).trans (signal_uncounted _ _)))

theorem captureFirst_uncounted (s : State) (rc : FaultRec) : Uncounted s (captureFirst s rc) :=
  .ite _ (.same (by rfl)) (.refl _)

theorem noteSource_uncounted (s : State) (r : Report) (rc : FaultRec) (c : Bool) : Uncounted s (noteSource s r rc c) :=
  .ite _ (.same (by rfl)) (.same (by rfl))

/-- What counting a report does beside the tally of its source. -/
theorem countReport_uncounted_after (s : State) (r : Report) :
    Uncounted (bump s (srcBase r.source + 8)) (countReport s r) := by
  unfold countReport
  extract_lets s1 s2
  have h2 : Uncounted s1 s2 := .ite _ (bump_uncounted_outside _ (by decide)) (.refl _)
  exact h2.trans (.ite _ (bump_uncounted_outside _ (by decide)) (.refl _))

/-- A record is the count of its source, and nothing that is counted in any source's tally. -/
theorem recordReport_counts (several : Bool) (s : State) (r : Report) : ∃ a, Uncounted s a ∧
    Uncounted (bumpRaw a (srcBase r.source + 8)).1 (recordReport several s r) :=
  ⟨_, captureFirst_uncounted s (recordOf several s r), (((bump_uncounted_after _ _).trans
    (countReport_uncounted_after _ _)).trans (noteSource_uncounted _ _ _ _)).trans (publish_uncounted _ _ _)⟩

theorem bumpRaw_reports (s : State) (off : Nat) : (bumpRaw s off).1.reports = s.reports := by
  unfold bumpRaw; split <;> rfl

theorem reportsOf_recordReport (several : Bool) (s : State) (r : Report) {src : Nat} (h : src % 256 ≠ 0x12) :
    reportsOf (recordReport several s r).reports src = reportsOf s.reports src := by
  obtain ⟨a, ha, hr⟩ := recordReport_counts several s r
  rw [hr.reports src h, bumpRaw_reports, ha.reports src h]

theorem srcBase_eq_iff (a b : Nat) : srcBase a = srcBase b ↔ a % 256 = b % 256 := by
  unfold srcBase; omega

theorem sourceTally_le (s : State) (src : Nat) : sourceTally s src ≤ tallyMax := by
  have h := (mapGet (fun _ => (0 : Word)) s.tallies (srcBase src + 8)).isLt
  simp only [sourceTally, tally, tallyMax]
  omega

theorem sourceTally_recordReport (several : Bool) (s : State) (r : Report) (src : Nat) :
    sourceTally (recordReport several s r) src = min (sourceTally s src + reportsOf [r] src) tallyMax := by
  obtain ⟨a, ha, hr⟩ := recordReport_counts several s r
  rw [hr.tallies src, ← ha.tallies src]
  by_cases hsrc : r.source % 256 = src % 256
  · have hone : reportsOf [r] src = 1 := by simp [reportsOf, hsrc]
    rw [hone, sourceTally, (srcBase_eq_iff _ _).mpr hsrc, tally_bumpRaw, sourceTally]
  · have hnone : reportsOf [r] src = 0 := by simp [reportsOf, hsrc]
    have hne : srcBase src + 8 ≠ srcBase r.source + 8 :=
      fun h => hsrc ((srcBase_eq_iff _ _).mp (Nat.add_right_cancel h)).symm
    rw [hnone, sourceTally, tally_bumpRaw_ne a hne]
    exact (Nat.min_eq_left (sourceTally_le a src)).symm

theorem reportsOf_cons (r : Report) (l : List Report) (src : Nat) :
    reportsOf (r :: l) src = reportsOf [r] src + reportsOf l src := by
  simp only [reportsOf, List.countP_cons, List.countP_nil]; omega

/-- The records of a round count a source as often as the round holds reports of it. -/
theorem foldl_recordReport_counts (several : Bool) (l : List Report) (s : State) (src : Nat) :
    sourceTally (l.foldl (recordReport several) s) src = min (sourceTally s src + reportsOf l src) tallyMax := by
  induction l generalizing s with
  | nil => exact (Nat.min_eq_left (sourceTally_le s src)).symm
  | cons r t ih =>
    rw [List.foldl_cons, ih, sourceTally_recordReport, reportsOf_cons r t]
    omega

theorem foldl_recordReport_reports (several : Bool) (l : List Report) (s : State) {src : Nat} (h : src % 256 ≠ 0x12) :
    reportsOf (l.foldl (recordReport several) s).reports src = reportsOf s.reports src := by
  induction l generalizing s with
  | nil => rfl
  | cons r t ih => rw [List.foldl_cons, ih, reportsOf_recordReport several s r h]

/-! ### The collector counts each report of a source once -/

theorem insertReport_perm (s : State) (r : Report) (l : List Report) : (insertReport s r l).Perm (r :: l) := by
  induction l with
  | nil => exact .refl _
  | cons q t ih =>
    unfold insertReport
    split
    · exact .refl _
    · exact (ih.cons q).trans (.swap r q t)

/-- Where no report is an injection's, none is merged into another. -/
theorem orderReports_perm (s : State) {l : List Report} (hi : ∀ r ∈ l, r.injected = false) : (orderReports s l).Perm l := by
  have insert : ∀ rest acc : List Report, (rest.foldl (fun acc r => insertReport s r acc) acc).Perm (rest ++ acc) := by
    intro rest
    induction rest with
    | nil => exact fun acc => .refl _
    | cons r t ih => exact fun acc => (ih _).trans (((insertReport_perm s r acc).append_left t).trans List.perm_middle)
  unfold orderReports
  extract_lets merged
  have hm : merged = l := by
    refine List.foldlRecOn l _ (motive := fun acc => acc = l) rfl (fun acc hacc r hr => ?_)
    rw [hi r hr]
    exact hacc
  rw [hm]
  simpa using insert l []

theorem reportsOf_eq_zero_iff (l : List Report) (src : Nat) :
    reportsOf l src = 0 ↔ ∀ r ∈ l, ¬ r.source % 256 = src % 256 := by
  simp [reportsOf, List.countP_eq_zero]

/-- The reports of a source in the order of R500: as many as before, where none is an injection's or none is of the
source. -/
theorem reportsOf_orderReports (s : State) {l : List Report} {src : Nat}
    (h : (∀ r ∈ l, r.injected = false) ∨ reportsOf l src = 0) : reportsOf (orderReports s l) src = reportsOf l src := by
  rcases h with hi | hz
  · exact (orderReports_perm s hi).countP_eq _
  · rw [hz, reportsOf_eq_zero_iff]
    exact orderReports_forall (P := fun r => ¬ r.source % 256 = src % 256) (fun _ hr => hr) s l
      ((reportsOf_eq_zero_iff l src).mp hz)

/-- One round counts the reports in hand, and its reactions bring no more of the source. -/
theorem collectOnce_counts {s : State} {src : Nat} (hl : src % 256 ≠ 0x12)
    (h : noInjection s ∨ reportsOf s.reports src = 0) :
    sourceTally (collectOnce s) src = min (sourceTally s src + reportsOf s.reports src) tallyMax ∧
    reportsOf (collectOnce s).reports src = 0 := by
  unfold collectOnce
  extract_lets l s1
  have ha := applyReactions_uncounted s1 l
  constructor
  · rw [ha.tallies, foldl_recordReport_counts, reportsOf_orderReports s h]
    rfl
  · rw [ha.reports src hl, foldl_recordReport_reports _ _ _ hl]
    rfl

theorem collectN_counts (n : Nat) {s : State} {src : Nat} (hl : src % 256 ≠ 0x12) (hz : reportsOf s.reports src = 0) :
    sourceTally (collectN n s) src = sourceTally s src := by
  induction n generalizing s with
  | zero => rfl
  | succ k ih =>
    unfold collectN
    split
    · rfl
    · obtain ⟨htally, hrest⟩ := collectOnce_counts hl (.inr hz)
      rw [ih hrest, htally, hz, Nat.add_zero, Nat.min_eq_left (sourceTally_le s src)]

/-- The collector counts every report of a source once, where no report is an injection's or none is of the source. -/
theorem collect_counts {s : State} {src : Nat} (hl : src % 256 ≠ 0x12)
    (h : noInjection s ∨ reportsOf s.reports src = 0) :
    sourceTally (collect s) src = min (sourceTally s src + reportsOf s.reports src) tallyMax := by
  unfold collect collectN
  split
  · rename_i he
    rw [List.isEmpty_iff.mp he]
    exact (Nat.min_eq_left (sourceTally_le s src)).symm
  · obtain ⟨htally, hrest⟩ := collectOnce_counts hl h
    rw [collectN_counts 3 hl hrest, htally]

theorem collect_uncounted {s : State} {src : Nat} (hl : src % 256 ≠ 0x12) (hz : reportsOf s.reports src = 0) :
    sourceTally (collect s) src = sourceTally s src := collectN_counts 4 hl hz

/-! ### The end of a command counts each report of a source once -/

theorem exitHold_uncounted (s : State) (src : Nat) : Uncounted s (exitHold s src) := by
  have hne : ∀ i, srcBase i + 8 ≠ srcBase src + 0xC := fun i => by unfold srcBase; omega
  exact .ite _ (((bump_uncounted _ hne).trans (post2_uncounted _ _ _ _)).after (by rfl)) (.refl _)

theorem exitConditions_uncounted (a s : State) : Uncounted s (exitConditions a s) := by
  unfold exitConditions
  extract_lets p61 s1 s2 s3
  have h1 : Uncounted s s1 := .ite _ (exitHold_uncounted _ _) (.refl _)
  have h2 : Uncounted s1 s2 := .ite _ (.foldl _ exitHold_uncounted _ _) (.refl _)
  exact (h1.trans h2).trans (.ite _ (exitHold_uncounted _ _) (.refl _))

theorem settle_counts {a s : State} {src : Nat} (ha : s.img.act = none) (hl : src % 256 ≠ 0x12)
    (h : noInjection s ∨ reportsOf s.reports src = 0) :
    sourceTally (settle a s) src = min (sourceTally s src + reportsOf s.reports src) tallyMax := by
  have hact : (collect s).img.act = none := by rw [(collect_reacts s).act]; exact ha
  unfold settle
  extract_lets s1 s2
  have h2 : s2 = s1 := by
    simp only [s2, s1, activationFatal_none hact, collect_quiet (collect_reports s), ite_self]
  have he := exitConditions_uncounted a s2
  have hz : reportsOf (exitConditions a s2).reports src = 0 := by
    rw [he.reports src hl, h2, collect_reports]
    rfl
  rw [collect_uncounted hl hz, he.tallies, h2]
  exact collect_counts hl h

/-- Outside an activation, with no command left waiting, the end of a command counts a source as often as the command has
reported it. -/
theorem finish_counts {a s : State} {src : Nat} (ha : s.img.act = none) (w : noWait s) (hl : src % 256 ≠ 0x12)
    (hi : noInjection s) : sourceTally (finish a s) src =
      min (sourceTally s src + reportsOf s.reports src) tallyMax := by
  have h1 := settle_reacts (a := a) ha
  have hact : (settle a s).img.act = none := by rw [h1.act]; exact ha
  have hnone : reportsOf (settle a s).reports src = 0 := by rw [settle_reports]; rfl
  unfold finish
  extract_lets s1
  rw [startWaiting_quiet _ (h1.keeps.waits w)]
  show sourceTally (settle s1 s1) src = _
  rw [settle_counts hact hl (.inr hnone), hnone, Nat.add_zero, Nat.min_eq_left (sourceTally_le _ src),
    settle_counts ha hl (.inl hi)]

variable {i : Instr} {s r : State} {src : Nat}

/-- An event whose operation reports a source once, by no injection: it reacts, and counts one more record of the source. -/
theorem exec_reports {f : State → State} (hx : exec i s = .next (event s f)) (h : Live s) (hf : f s = r) (hw : noWait r)
    (hl : src % 256 ≠ 0x12) (hi : noInjection r) (ht : sourceTally r src = sourceTally s src)
    (hone : reportsOf r.reports src = 1) (ha : r.img.act = s.img.act) (hq : r.pending = s.pending) :
    ∃ t, exec i s = .next t ∧ Reacts r t ∧ counted s t src := by
  obtain ⟨t, hexec, hreacts, -, -⟩ := exec_reacts hx h hf hw ha hq
  have hend : t = finish s r := by
    have hsame := hexec.symm.trans hx
    rw [event_running h.power, hf] at hsame
    exact Host.Outcome.next.inj hsame
  have hcount := finish_counts (a := s) (ha.trans h.act) hw hl hi
  rw [ht, hone, ← hend] at hcount
  exact ⟨t, hexec, hreacts, hcount⟩

end Sys2Proof.Machine
end

section
/-! A calibration run whose reference is out of its band (R458): what the operation leaves of the channels, and the one
report of fault 0xC3. -/

namespace Sys2Proof.Machine

/-! ### Channels that fail -/

theorem calCh_modCal (s : State) (n m : Nat) (f : CalCh → CalCh) :
    calCh (modCal s n f) m = if n = m ∧ n < 73 then f (calCh s m) else calCh s m := by
  show vget (vmod s.cal.ch n f) m {} = _
  by_cases hn : n < 73
  · by_cases hnm : n = m
    · subst hnm
      rw [vget_vmod_same _ hn, if_pos ⟨rfl, hn⟩]
      rfl
    · rw [vget_vmod_ne _ hnm, if_neg (fun h => hnm h.1)]
      rfl
  · rw [vmod_beyond _ hn, if_neg (fun h => hn h.2)]
    rfl

/-- A channel that fails changes its own record, and counts. -/
theorem calFail_mild (s : State) (n result : Nat) : Mild s (calFail s n result) :=
  Mild.trans (b := modCal s n _) .units (bump_mild _ _)

theorem calFail_uncounted (s : State) (n result : Nat) : Uncounted s (calFail s n result) :=
  Uncounted.trans (b := modCal s n _) (.same (by rfl)) (bump_uncounted_outside _ (by decide))

theorem calm_calFail (s : State) (n result : Nat) :
    calm (calFail s n result) = calm (modCal s n (fun c => { c with result := result, failed := true })) := calm_bump _ _

theorem calFail_cal (s : State) (n result : Nat) :
    (calFail s n result).cal = (modCal s n (fun c => { c with result := result, failed := true })).cal :=
  calm_eq (·.cal) (calm_calFail s n result)

theorem calCh_calFail (s : State) (n result : Nat) {m : Nat} (hm : m < 73) : calCh (calFail s n result) m =
    if n = m then { calCh s m with result := result, failed := true } else calCh s m := by
  rw [calCh, calFail_cal]
  refine (calCh_modCal s n m _).trans ?_
  by_cases hnm : n = m
  · subst hnm
    rw [if_pos ⟨rfl, hm⟩, if_pos rfl]
  · rw [if_neg (fun h => hnm h.1), if_neg hnm]

/-- Every channel of a list fails with one result. -/
def failAll (s : State) (chans : List Nat) (result : Nat) : State := chans.foldl (fun s n => calFail s n result) s

theorem failAll_mild (s : State) (l : List Nat) (result : Nat) : Mild s (failAll s l result) :=
  .foldl _ (fun s n => calFail_mild s n result) l s

theorem failAll_uncounted (s : State) (l : List Nat) (result : Nat) : Uncounted s (failAll s l result) :=
  .foldl _ (fun s n => calFail_uncounted s n result) l s

/-- Of all units only calibration changes, and of it only the channels. -/
theorem calm_failAll (s : State) (l : List Nat) (result : Nat) :
    calm (failAll s l result) = calm { s with cal := { s.cal with ch := (failAll s l result).cal.ch } } := by
  induction l generalizing s with
  | nil => rfl
  | cons n t ih =>
    refine (ih (calFail s n result)).trans ?_
    rw [calm_with_cal (calm_calFail s n result), calFail_cal]
    rfl

theorem calCh_failAll (s : State) (l : List Nat) (result : Nat) {m : Nat} (hm : m < 73) :
    calCh (failAll s l result) m =
      if m ∈ l then { calCh s m with result := result, failed := true } else calCh s m := by
  induction l generalizing s with
  | nil => rfl
  | cons n t ih =>
    refine (ih (calFail s n result)).trans ?_
    rw [calCh_calFail s n result hm]
    by_cases hnm : n = m
    · subst hnm
      simp
    · simp [hnm, Ne.symm hnm]

/-! ### The run -/

/-- Suspending sensors changes the sensors alone. -/
theorem calSuspend_frame (s : State) (l : List Nat) (on : Bool) : ∃ th, calSuspend s l on = { s with thm := th } := by
  unfold calSuspend
  refine List.foldlRecOn l _ (motive := fun x => ∃ th, x = { s with thm := th }) ⟨s.thm, rfl⟩ ?_
  rintro _ ⟨th, rfl⟩ n -
  dsimp only
  split
  · exact ⟨_, rfl⟩
  · exact ⟨_, rfl⟩

/-- A run that fails as a whole, up to its report: its sensors are released, the run has ended with VREF_BAD, and each of its
channels has failed with RESULT 3. -/
def runFailed (s : State) (r : CalRun) (vrefUv : Nat) : State :=
  failAll { calSuspend s r.chans false with
    cal := { (calSuspend s r.chans false).cal with run := none, vrefBad := true, vrefUv := vrefUv } } r.chans 3

theorem runFailed_eq (s : State) (r : CalRun) (v : Nat) : ∃ th, runFailed s r v =
    failAll { s with thm := th, cal := { s.cal with run := none, vrefBad := true, vrefUv := v } } r.chans 3 := by
  obtain ⟨th, hth⟩ := calSuspend_frame s r.chans false
  exact ⟨th, by rw [runFailed, hth]⟩

theorem runFailed_frame (s : State) (r : CalRun) (v : Nat) : ∃ th ch, calm (runFailed s r v) =
    calm { s with thm := th, cal := { s.cal with run := none, vrefBad := true, vrefUv := v, ch := ch } } := by
  obtain ⟨th, hrun⟩ := runFailed_eq s r v
  rw [hrun]
  exact ⟨th, _, calm_failAll _ _ _⟩

theorem calCh_runFailed (s : State) (r : CalRun) (v : Nat) {n : Nat} (hn : n < 73) :
    calCh (runFailed s r v) n =
      if n ∈ r.chans then { calCh s n with result := 3, failed := true } else calCh s n := by
  obtain ⟨th, hrun⟩ := runFailed_eq s r v
  rw [hrun]
  exact calCh_failAll _ _ _ hn

theorem runFailed_loose (s : State) (r : CalRun) (v : Nat) : Loose s (runFailed s r v) := by
  obtain ⟨th, hrun⟩ := runFailed_eq s r v
  rw [hrun]
  exact Loose.trans .units (failAll_mild _ _ _).toLoose

theorem runFailed_uncounted (s : State) (r : CalRun) (v : Nat) : Uncounted s (runFailed s r v) := by
  obtain ⟨th, hrun⟩ := runFailed_eq s r v
  rw [hrun]
  exact (failAll_uncounted _ _ _).after (by rfl)

/-- The failed run with its report of fault 0xC3, its count and its event of payload `p`. -/
def runReported (s : State) (r : CalRun) (vrefUv : Nat) (p : List Byte) : State :=
  post (bump (report (runFailed s r vrefUv) { source := 0xC3 }) 0x70030) 0x0F01 0 p

theorem runReported_loose (s : State) (r : CalRun) (v : Nat) (p : List Byte) :
    Loose (report (runFailed s r v) { source := 0xC3 }) (runReported s r v p) :=
  ((bump_mild _ _).trans (post_mild _ _ _ _)).toLoose

theorem runReported_uncounted (s : State) (r : CalRun) (v : Nat) (p : List Byte) :
    Uncounted (report (runFailed s r v) { source := 0xC3 }) (runReported s r v p) :=
  (bump_uncounted_outside _ (by decide)).trans (post_uncounted _ _ _ _)

theorem calm_runReported (s : State) (r : CalRun) (v : Nat) (p : List Byte) :
    calm (runReported s r v p) = calm (runFailed s r v) := by
  simp [runReported]

/-- With the reference out of its band the measurements are not judged: the run fails, fault 0xC3 is reported, and the run's
event and completion go out. -/
theorem calRunDone_bad {s : State} {r : CalRun} {v : Nat} (l : List CalMeas) (hr : s.cal.run = some r)
    (hv : v < 2450000 ∨ 2550000 < v) :
    ∃ p res, calRunDone s v l = completeOpt (runReported s r v p) r.cmdId .ok res := by
  unfold calRunDone
  rw [hr]
  simp only [hv, decide_true, if_true]
  exact ⟨_, _, rfl⟩

/-- What a run that fails as a whole leaves before the collector acts: the failed run, whose one report but of lost events is
fault 0xC3, not counted yet. -/
theorem calRunDone_bad_leaves {s : State} {r : CalRun} {v : Nat} (l : List CalMeas) (h : Live s)
    (hr : s.cal.run = some r) (hv : v < 2450000 ∨ 2550000 < v) :
    calm (calRunDone s v l) = calm (runFailed s r v) ∧ noWait (calRunDone s v l) ∧ noInjection (calRunDone s v l) ∧
    sourceTally (calRunDone s v l) 0xC3 = sourceTally s 0xC3 ∧ reportsOf (calRunDone s v l).reports 0xC3 = 1 := by
  obtain ⟨p, res, hdone⟩ := calRunDone_bad l hr hv
  rw [hdone]
  have hfail := runFailed_loose s r v
  have hreport := runReported_loose s r v p
  have hcpl := completeOpt_host (runReported s r v p) r.cmdId .ok res
  have hrun := runFailed_uncounted s r v
  have hafter := (runReported_uncounted s r v p).trans (completeOpt_uncounted _ r.cmdId .ok res)
  refine ⟨?calm, ?waits, ?real, ?tally, ?one⟩
  case calm => rw [calm_completeOpt, calm_runReported]
  case waits => exact hcpl.waits (hreport.noWait (hfail.noWait h.waits))
  case real =>
    have hnone : noInjection s := fun q hq => by rw [h.reports] at hq; cases hq
    exact hcpl.noInjection (hreport.noInjection (noInjection_report (hfail.noInjection hnone) rfl))
  case tally => exact (hafter.tallies 0xC3).trans (hrun.tallies 0xC3)
  case one =>
    have hnone : reportsOf (runFailed s r v).reports 0xC3 = 0 := by
      rw [hrun.reports 0xC3 (by decide), h.reports]
      rfl
    rw [hafter.reports 0xC3 (by decide), report, reportsOf, List.countP_append, ← reportsOf, hnone]
    rfl

/-! ### O51: the run fails as a whole -/

/-- CAL_RUN_DONE with the reference out of its band: the channels, and VREF_BAD, as the failed run has them, and one more
record of fault 0xC3. -/
theorem exec_calRunDone_bad {s : State} {r : CalRun} {v : Nat} (l : List CalMeas) (h : Live s) (hr : s.cal.run = some r)
    (hv : v < 2450000 ∨ 2550000 < v) :
    ∃ t, exec (.calRunDone v l) s = .next t ∧ t.cal = (runFailed s r v).cal ∧ counted s t 0xC3 := by
  obtain ⟨hcalm, hwait, hreal, htally, hone⟩ := calRunDone_bad_leaves l h hr hv
  obtain ⟨th, ch, hframe⟩ := runFailed_frame s r v
  have hact : (calRunDone s v l).img.act = s.img.act := (calm_eq (·.img.act) (hcalm.trans hframe)).trans rfl
  have hpending : (calRunDone s v l).pending = s.pending := (calm_eq (·.pending) (hcalm.trans hframe)).trans rfl
  obtain ⟨t, hexec, hreacts, hcounted⟩ :=
    exec_reports (i := .calRunDone v l) (f := fun s => calRunDone s v l) rfl h rfl hwait (by decide) hreal htally hone hact
      hpending
  have hcal : t.cal = (calRunDone s v l).cal := by
    obtain ⟨o, hm, ta, re, fl, dr, bw, po, ls, pi, lp, pk, rc, hl, rfl⟩ := hreacts.frame
    rfl
  exact ⟨t, hexec, hcal.trans (calm_eq (·.cal) hcalm), hcounted⟩

/-- Settles O51: the failed run writes RESULT and the failure mark of its own channels alone, and its one report of 0xC3 is
recorded once, whatever class and reaction the image gives it. -/
theorem badReferenceFailsTheRun : Obligations.BadReferenceFailsTheRun := by
  unfold Obligations.BadReferenceFailsTheRun
  intro s v l r h hr hv
  obtain ⟨t, hexec, hcal, hcounted⟩ := exec_calRunDone_bad l h hr hv
  obtain ⟨th, ch, hframe⟩ := runFailed_frame s r v
  have hch : ∀ n, n < 73 → calCh t n =
      if n ∈ r.chans then { calCh s n with result := 3, failed := true } else calCh s n := by
    intro n hn
    rw [calCh, hcal]
    exact calCh_runFailed s r v hn
  refine ⟨t, hexec, ?bad, hcounted, ?result, ?correction, ?others⟩
  case bad => rw [hcal, calm_eq (·.cal) hframe]
  case result => exact fun n hn hmem => by rw [hch n hn, if_pos hmem]
  case correction =>
    intro n hn
    rw [hch n hn]
    split <;> rfl
  case others => exact fun n hn hmem => by rw [hch n hn, if_neg hmem]

end Sys2Proof.Machine
end


section
/-! The rows by the gate that their operation passes: an event of the running module, an event of the host interface, or one
of the supplies' own. What follows for every step: no report is left, and a module held in reset stays as it is. -/

namespace Sys2Proof.Machine

/-! ### Rows by their gate -/

/-- The operation of SENSOR_SAMPLE is one of the running module, or of the tripped one (R471, R481). -/
def sampleStep (die : Option Int) (ntc : List Nat) (s : State) : State :=
  if s.boot.power == .tripped then hostEvent s (fun s => sampleTripped s die) else event s (fun s => sampleAll s die ntc)

/-- The gate of a row: it acts in the running module alone, in every module not held in reset, by the sensors' power, or
always. -/
inductive Gated (i : Instr) : Prop
  | unit (f : State → State) (h : ∀ s, exec i s = .next (event s f))
  | host (f : State → State) (h : ∀ s, exec i s = .next (hostEvent s f))
  | sensor (die : Option Int) (ntc : List Nat) (h : ∀ s, exec i s = .next (sampleStep die ntc s))
  | power (b : Fin 4) (a : Bool) (m : Fin 4) (h : i = .powerOnReset b a m)

/-- Every row passes one of the gates. -/
theorem gated (i : Instr) : Gated i := by
  cases i
  case powerOnReset b a m => exact .power b a m rfl
  case sensorSample die ntc => exact .sensor die ntc (fun _ => rfl)
  all_goals first
    | exact .unit _ (fun _ => rfl)
    | exact .host _ (fun _ => rfl)

/-! ### Every step -/

theorem sampleStep_reports {s : State} (h : s.reports = []) (die : Option Int) (ntc : List Nat) :
    (sampleStep die ntc s).reports = [] := by
  unfold sampleStep
  split
  · exact hostEvent_reports h _
  · exact event_reports h _

/-- A command leaves no report where none was left before it. -/
theorem exec_reports_nil {i : Instr} {s t : State} (h : s.reports = []) (he : exec i s = .next t) : t.reports = [] := by
  rcases gated i with ⟨f, hi⟩ | ⟨f, hi⟩ | ⟨die, ntc, hi⟩ | ⟨b, a, m, rfl⟩
  · rw [hi] at he; cases he; exact event_reports h f
  · rw [hi] at he; cases he; exact hostEvent_reports h f
  · rw [hi] at he; cases he; exact sampleStep_reports h die ntc
  · cases he; exact finish_reports _ _

theorem tick_reports {s : State} (h : s.reports = []) : (tick s).reports = [] := by
  unfold tick
  split
  · exact h
  · exact finish_reports _ _

/-- Settles O3: the collector takes what a command or a cycle reports, in the same step. -/
theorem everyStepLeavesNoReport : Obligations.EveryStepLeavesNoReport := by
  unfold Obligations.EveryStepLeavesNoReport
  intro s t h hs
  unfold step at hs
  split at hs
  · cases hs; exact tick_reports h
  · exact exec_reports_nil (by exact h) hs

/-- Settles O6: both gates stand shut while the module is held in reset. -/
theorem heldInResetUntilPowerOn : Obligations.HeldInResetUntilPowerOn := by
  unfold Obligations.HeldInResetUntilPowerOn
  intro s i h hne
  rcases gated i with ⟨f, hi⟩ | ⟨f, hi⟩ | ⟨die, ntc, hi⟩ | ⟨b, a, m, rfl⟩
  · rw [hi, event_stopped (by rw [h]; decide)]
  · rw [hi, hostEvent_held h]
  · rw [hi, sampleStep, h, event_stopped (by rw [h]; decide)]
    rfl
  · exact absurd rfl (hne b a m)

/-- Settles O1: by the definition of a step. -/
theorem stepRunsFrontCommand : Obligations.StepRunsFrontCommand := by
  unfold Obligations.StepRunsFrontCommand
  exact fun c s => rfl

/-! ### An idle cycle in which nothing falls due -/

theorem forN_id (n : Nat) (f : State → Nat → State) (s : State) (h : ∀ b, b < n → f s b = s) : forN n f s = s := by
  have : ∀ l : List Nat, (∀ b ∈ l, b < n) → l.foldl f s = s := by
    intro l
    induction l with
    | nil => exact fun _ => rfl
    | cons b t ih =>
      intro hl
      rw [List.foldl_cons, h b (hl b (List.mem_cons_self ..))]
      exact ih (fun x hx => hl x (List.mem_cons_of_mem _ hx))
  exact this _ (fun b hb => List.mem_range.mp hb)

/-- Nothing falls due in a cycle but for residue failures and reports. -/
structure Undue (s : State) : Prop where
  windows : ∀ b, b < 12 → (bankAt s b).ended = none
  pulses : s.lsd.pulses = []
  edges : s.ftg.edges = []
  latch : s.cmp.latchWait = none
  ramp : s.lsd.ramp = none
  stop : s.thm.stopAt = none
  trial : s.img.trialEnd = none
  warm : s.boot.warmAt = none
  line : s.hls.lineNow = none
  scanner : s.hls.mode ≠ .running ∧ s.hls.mode ≠ .starting

theorem NothingDue.undue {s : State} (h : NothingDue s) : Undue s :=
  ⟨h.windows, h.pulses, h.edges, h.latch, h.ramp, h.stop, h.trial, h.warm, h.line, h.scanner⟩

/-- The timebase counts. -/
def timed (s : State) (n : Nat) : State := { s with tsc := n }

theorem Undue.at {s : State} (h : Undue s) (n : Nat) : Undue (timed s n) :=
  ⟨h.windows, h.pulses, h.edges, h.latch, h.ramp, h.stop, h.trial, h.warm, h.line, h.scanner⟩

theorem buildTick_idle {s : State} (h : NothingDue s) : buildTick s = s := by simp [buildTick, h.failing]

section
variable {s : State} (h : Undue s)
include h

theorem scanTick_idle : scanTick s = s := by
  obtain ⟨hrun, hstart⟩ := h.scanner
  simp [scanTick, h.line, fastDrive, hrun, hstart]

theorem windowTick_idle : windowTick s = s := forN_id _ _ s (fun b hb => by rw [h.windows b hb])

theorem pulseTick_idle : pulseTick s = s := by
  have : s = { s with lsd := { s.lsd with pulses := [] } } := by rw [← h.pulses]
  simp only [pulseTick, h.pulses, List.filter_nil, List.foldl_nil]
  exact this.symm

theorem fsyncTick_idle : fsyncTick s = s := by rw [fsyncTick, h.edges]

theorem latchTick_idle : latchTick s = s := by rw [latchTick, h.latch]

theorem quiesceTick_idle : quiesceTick s = s := by rw [quiesceTick, h.ramp]

theorem stopTick_idle : stopTick s = s := by simp [stopTick, stopOvertaken, h.stop]

theorem trialTick_idle : trialTick s = s := by simp [trialTick, trialTimeout, trialExpired, h.trial]

theorem warmTick_idle : warmTick s = s := by rw [warmTick, h.warm]

end

/-- A cycle in which at most residue failures fall due handles them and counts. -/
theorem tick_undue {s : State} (hc : clockStands s = false) (h : Undue (buildTick s)) :
    tick s = finish s (timed (buildTick s) ((s.tsc + 1) % 2 ^ 64)) := by
  have h' := h.at ((s.tsc + 1) % 2 ^ 64)
  have ht : tick s = finish s (warmTick (trialTick (stopTick (quiesceTick (latchTick (fsyncTick (pulseTick (windowTick (scanTick
      (timed (buildTick s) ((s.tsc + 1) % 2 ^ 64))))))))))) := if_neg (by rw [hc]; decide)
  rw [ht, scanTick_idle h', windowTick_idle h', pulseTick_idle h', fsyncTick_idle h', latchTick_idle h', quiesceTick_idle h',
    stopTick_idle h', trialTick_idle h', warmTick_idle h']

/-- A cycle in which nothing falls due only counts. -/
theorem tick_idle {s : State} (hc : clockStands s = false) (h : NothingDue s) :
    tick s = { s with tsc := (s.tsc + 1) % 2 ^ 64 } := by
  rw [tick_undue hc (by rw [buildTick_idle h]; exact h.undue), buildTick_idle h]
  exact finish_quiet ⟨h.reports, rfl, rfl, rfl, rfl, rearmed_same rfl, h.waits⟩

theorem clockStands_iff (s : State) : clockStands s = true ↔ s.boot.power = .heldInReset ∨ s.boot.sysclkMissing = true := by
  simp [clockStands]

theorem step_idle {s : State} (h : s.pending = []) : step s = .next (tick s) := by rw [step, h]

/-- Settles O2: where the timebase stands the cycle is not counted, and where nothing falls due it is only counted. -/
theorem idleStepCountsTheTimebase : Obligations.IdleStepCountsTheTimebase := by
  unfold Obligations.IdleStepCountsTheTimebase
  refine ⟨fun s hp hs => ?stands, fun s hp hr hc hn => ?counts⟩
  case stands => rw [step_idle hp, tick, if_pos ((clockStands_iff s).mpr hs)]
  case counts =>
    have hstand : clockStands s = false := by
      rw [Bool.eq_false_iff, Ne, clockStands_iff]
      rintro (h | h)
      · exact hr h
      · rw [hc] at h; cases h
    rw [step_idle hp, tick_idle hstand hn]

/-! ### Reset -/

/-- A family of equal members reads the same everywhere. -/
theorem vget_replicate {β : Type} (n : Nat) (x : β) (i : Nat) : vget (Vector.replicate n x) i x = x := by
  rcases Nat.lt_or_ge i n with hi | hi
  · simp [vget, List.getD_eq_getElem?_getD, hi]
  · simp [vget, List.getD_eq_getElem?_getD, hi]

theorem srcAt_reset (i : Nat) : srcAt State.reset i = {} := vget_replicate 256 ({} : Src) i

/-- Settles O5: an empty register file reads the Reset column, an empty set of tallies 0. -/
theorem resetStateAsTheSpecGivesIt : Obligations.ResetStateAsTheSpecGivesIt := by
  unfold Obligations.ResetStateAsTheSpecGivesIt
  refine ⟨rfl, rfl, fun _ => rfl, fun _ => rfl, fun i => ?source, rfl, rfl, rfl, rfl, rfl, ⟨rfl, rfl, rfl⟩, rfl, rfl, rfl, rfl⟩
  case source => rw [srcAt_reset]; exact ⟨rfl, rfl⟩

/-! ### Power-on reset -/

/-- No source is in FAULT, so none has an exit condition to meet (R506). -/
theorem exitConditions_clear {a s : State} (h : ∀ i, (srcAt s i).mode ≠ .fault) : exitConditions a s = s := by
  have hold : ∀ i, exitHold s i = s := fun i => by simp [exitHold, h i]
  simp [exitConditions, hold]

/-- The end of a command that left the collector as after reset, and nothing waiting. -/
theorem finish_clear {a s : State} (hr : s.reports = []) (hl : s.flt.log = []) (hs : ∀ i, (srcAt s i).mode ≠ .fault)
    (hw : noWait s) : finish a s = withQueue s a.pending := by
  have hn : ∀ b, newFatal b s = false := fun b => by simp [newFatal, hl]
  have settled : ∀ b, settle b s = s := fun b => by
    simp only [settle, collect_quiet hr, hn, Bool.false_eq_true, if_false, exitConditions_clear hs]
  simp only [finish, settled, startWaiting_quiet _ hw]

/-- What a loss of power leaves has nothing for the end of a command to do. -/
theorem finish_powerOnReset (s : State) (b : Nat) (a : Bool) (m : Nat) :
    finish s (powerOnReset s b a m) = powerOnReset s b a m :=
  finish_clear (a := s) (s := powerOnReset s b a m) rfl rfl (fun i => by
    rw [show srcAt (powerOnReset s b a m) i = srcAt State.reset i from rfl, srcAt_reset]; decide) rfl

/-- Settles O7: the cold state, with the straps sampled anew. -/
theorem powerOnResetStartsAfresh : Obligations.PowerOnResetStartsAfresh := by
  unfold Obligations.PowerOnResetStartsAfresh
  intro s b a m
  show Host.Outcome.next (finish s (powerOnReset s b.val a m.val)) = _
  rw [finish_powerOnReset]
  cases h : s.boot.power <;> simp only [powerOnReset, coldState, h] <;> rfl

end Sys2Proof.Machine
end


section
/-! A thermal trip switches the DRAM's domains off, and what DRAM held is lost (R435, R480). -/

namespace Sys2Proof.Machine

/-- A running module with one byte of DRAM set. -/
def oneByteSet : State := { dram := [(0, 1)] }

theorem live_oneByteSet : Live oneByteSet := ⟨⟨rfl, rfl, rfl⟩, rfl⟩

set_option maxRecDepth 20000 in
theorem rd_thermalTrip_oneByteSet : rd (finish oneByteSet (thermalTrip oneByteSet)) 0 = 0 := by decide

/-- Refutes O8: the statement has a thermal trip leave the DRAM below the reserved area, but the trip takes PD0–PD7 OFF, and
the DRAM of a domain that goes OFF reads 0 afterwards. The byte of `oneByteSet` is lost. -/
theorem not_brownoutTripAndRestart : ¬ Obligations.BrownoutTripAndRestart := by
  unfold Obligations.BrownoutTripAndRestart
  rintro ⟨-, htrip, -⟩
  obtain ⟨t, ht, -, -, -, -, -, -, -, -, -, -, hmem⟩ := htrip oneByteSet live_oneByteSet
  obtain rfl : finish oneByteSet (thermalTrip oneByteSet) = t := Host.Outcome.next.inj ht
  have h := hmem 0 (by decide)
  rw [rd_thermalTrip_oneByteSet] at h
  exact absurd h (by decide)

end Sys2Proof.Machine
end


section
/-! The end of a command, whichever gate its row passed: all that the collector, the reactions and the recoveries may add to
what the operation left, in one place. -/

namespace Sys2Proof.Machine

/-! ### Light that is out stays out -/

theorem PinsDown.dark {s t : State} (h : PinsDown s t) (hd : Machine.dark s.pins) : Machine.dark t.pins := by
  obtain ⟨hlaser, hhl, hshutter⟩ := hd
  exact ⟨h.laser hlaser, h.hl hhl, h.shutter hshutter⟩

theorem Reacts.dark {s t : State} (h : Reacts s t) (hd : Machine.dark s.pins) : Machine.dark t.pins := h.pins.dark hd

theorem lightOff_dark (s : State) : dark (lightOff s true).pins := ⟨rfl, rfl, by simp [lightOff, hlOff]⟩

/-- The safe state with the shutter leaves the light path dark (R337). -/
theorem enterSafe_dark (s : State) (source : Nat) : dark (enterSafe s source true).pins := by
  unfold enterSafe
  extract_lets s1
  have h : dark s1.pins := lightOff_dark _
  split
  · exact h
  · exact h

/-- The reactions of one report that calls for the safe state and the shutter. -/
theorem applyReactions_dark (s : State) {rep : Report} (hn : rep.reactionAs = none) (h0 : bitAt (reactionOf s rep) 0 = true)
    (h1 : bitAt (reactionOf s rep) 1 = true) : dark (applyReactions s [rep]).pins := by
  unfold applyReactions
  extract_lets act rs has s1 s2 s3
  have hrs : rs = [(rep, reactionOf s rep)] := by simp [rs, act, hn]
  have hs1 : dark s1.pins := by
    have : s1 = enterSafe s rep.source true := by simp [s1, hrs, h0, has, h1]
    rw [this]
    exact enterSafe_dark _ _
  have h2 : Reacts s1 s2 := ite_reacts _ (parkArrays_reacts _) (.refl _)
  have h3 : Reacts s2 s3 := ite_reacts _ (parkScanner_reacts _ _ _) (.refl _)
  refine ((h2.trans h3).trans (Reacts.foldl _ (fun s e => ?_) _ _)).dark hs1
  exact ite_reacts _ (bankOff_reacts _ _) (.refl _)

theorem orderReports_single (s : State) {rep : Report} (hi : rep.injected = false) : orderReports s [rep] = [rep] :=
  List.perm_singleton.mp (orderReports_perm s (by simp [hi]))

/-- The collector on one report that calls for the safe state and the shutter. -/
theorem collect_dark {s : State} {rep : Report} (hs : s.reports = [rep]) (hi : rep.injected = false)
    (hn : rep.reactionAs = none) (h0 : bitAt (reactionOf s rep) 0 = true) (h1 : bitAt (reactionOf s rep) 1 = true) :
    dark (collect s).pins := by
  have hc : collect s = collectN 3 (collectOnce s) := by simp [collect, collectN, hs]
  rw [hc]
  refine (collectN_reacts 3 _).dark ?_
  have hr := (records_reacts s (decide (2 ≤ [rep].length)) [rep]).keeps.map
  simp only [collectOnce, hs, orderReports_single s hi]
  exact applyReactions_dark _ hn (by rw [reactionOf_map hr]; exact h0) (by rw [reactionOf_map hr]; exact h1)

/-! ### What no reaction changes -/

/-- A state without what recording and reacting may change: of the light path the banks, the light tests, the safe state and its
outputs; the scanner's state and its outputs; the loop slots; the ports, and the blocks they show. -/
def unreacted (s : State) : State :=
  { calm s with
    lpe := {}, plk := Vector.replicate 6 {},
    hls := { s.hls with
      mode := .disabled, cause := 0, parkFault := false, parkedAt := 0, locked := false, lockRun := 0, span := none,
      lineNow := none, motion := false, resume := false, dark := true, ncoPrev := {}, nco := {}, parkTrigAt := none },
    rck := { s.rck with blocks := Vector.replicate 6 (Vector.replicate 16 {}) },
    lsd := { s.lsd with bank := Vector.replicate 12 {}, pulses := [], safeOn := false, safeSource := 0, safeShutter := false },
    pins := { s.pins with laserEn := 0, shutterOut := false, hlEn := false, hlDac := [], fastDrv := 0 } }

theorem unreacted_of_calm {a b : State} (h : calm a = calm b) : unreacted a = unreacted b :=
  congrArg (fun x : State => { x with
    lpe := {}, plk := Vector.replicate 6 {},
    hls := { x.hls with
      mode := .disabled, cause := 0, parkFault := false, parkedAt := 0, locked := false, lockRun := 0, span := none,
      lineNow := none, motion := false, resume := false, dark := true, ncoPrev := {}, nco := {}, parkTrigAt := none },
    rck := { x.rck with blocks := Vector.replicate 6 (Vector.replicate 16 {}) },
    lsd := { x.lsd with bank := Vector.replicate 12 {}, pulses := [], safeOn := false, safeSource := 0, safeShutter := false },
    pins := { x.pins with laserEn := 0, shutterOut := false, hlEn := false, hlDac := [], fastDrv := 0 } }) h

theorem unreacted_ite {a b x : State} (c : Prop) [Decidable c] (ha : unreacted a = unreacted x)
    (hb : unreacted b = unreacted x) : unreacted (if c then a else b) = unreacted x := by split <;> assumption

theorem unreacted_foldl {β : Type} (f : State → β → State) (h : ∀ s b, unreacted (f s b) = unreacted s) (l : List β)
    (s : State) : unreacted (l.foldl f s) = unreacted s := by
  induction l generalizing s with
  | nil => rfl
  | cons b t ih => rw [List.foldl_cons, ih, h]

theorem unreacted_forN (n : Nat) (f : State → Nat → State) (h : ∀ s b, unreacted (f s b) = unreacted s) (s : State) :
    unreacted (forN n f s) = unreacted s := unreacted_foldl f h _ s

@[simp] theorem unreacted_emit (s : State) (o : Output) : unreacted (emit s o) = unreacted s := rfl
@[simp] theorem unreacted_post (s : State) (c u : Nat) (p : List Byte) : unreacted (post s c u p) = unreacted s :=
  unreacted_of_calm (calm_post s c u p)
@[simp] theorem unreacted_signal (s : State) (v : Nat) : unreacted (signal s v) = unreacted s :=
  unreacted_of_calm (calm_signal s v)
@[simp] theorem unreacted_completeOpt (s : State) (id : Option Nat) (st : Status) (res : List Byte) :
    unreacted (completeOpt s id st res) = unreacted s := unreacted_of_calm (calm_completeOpt s id st res)
@[simp] theorem unreacted_modSlot (s : State) (i : Nat) (f : Slot → Slot) : unreacted (modSlot s i f) = unreacted s := rfl
@[simp] theorem unreacted_modBank (s : State) (b : Nat) (f : Bank → Bank) : unreacted (modBank s b f) = unreacted s := rfl
@[simp] theorem unreacted_modPort (s : State) (p : Nat) (f : Port → Port) : unreacted (modPort s p f) = unreacted s := rfl
@[simp] theorem unreacted_hlOff (s : State) : unreacted (hlOff s) = unreacted s := rfl
@[simp] theorem unreacted_bankMark (s : State) (b : Nat) (m : BankMode) (c : Nat) :
    unreacted (bankMark s b m c) = unreacted s := rfl
@[simp] theorem unreacted_sendDrive (s : State) (b c : Nat) : unreacted (sendDrive s b c) = unreacted s := rfl
@[simp] theorem unreacted_postBank (s : State) (b : Nat) (m : BankMode) : unreacted (postBank s b m) = unreacted s :=
  unreacted_post _ _ _ _
@[simp] theorem unreacted_lightOff (s : State) (shutter : Bool) : unreacted (lightOff s shutter) = unreacted s := rfl

@[simp] theorem unreacted_clearBankSlot (s : State) (b : Nat) : unreacted (clearBankSlot s b) = unreacted s := by
  unfold clearBankSlot; split <;> rfl

@[simp] theorem unreacted_bankLeave (s : State) (b : Nat) : unreacted (bankLeave s b) = unreacted s := by
  unfold bankLeave
  rw [unreacted_clearBankSlot]
  split <;> rfl

@[simp] theorem unreacted_setBank (s : State) (b : Nat) (m : BankMode) (c : Nat) :
    unreacted (setBank s b m c) = unreacted s := by
  unfold setBank
  extract_lets s0 s1
  have h1 : unreacted s1 = unreacted s := unreacted_ite _ (by simp [s0]) (by simp [s0])
  rw [unreacted_postBank]
  exact unreacted_ite _ (by rw [unreacted_bankLeave, h1]) h1

@[simp] theorem unreacted_bankOff (s : State) (b : Nat) : unreacted (bankOff s b) = unreacted s := by
  unfold bankOff
  exact unreacted_ite _ (unreacted_ite _ (by simp) (by simp)) rfl

@[simp] theorem unreacted_driveOthersOff (s : State) : unreacted (driveOthersOff s) = unreacted s :=
  unreacted_forN _ _ (fun s b => by dsimp only; exact unreacted_ite _ rfl rfl) s

@[simp] theorem unreacted_safeBegin (s : State) (source : Nat) (shutter : Bool) :
    unreacted (safeBegin s source shutter) = unreacted s := by
  unfold safeBegin
  refine unreacted_ite _ rfl ?_
  rw [unreacted_driveOthersOff, unreacted_signal, postSafe, unreacted_post]
  rfl

@[simp] theorem unreacted_enterSafe (s : State) (source : Nat) (shutter : Bool) :
    unreacted (enterSafe s source shutter) = unreacted s := by
  unfold enterSafe
  extract_lets s1
  have h : unreacted s1 = unreacted s := by
    rw [unreacted_lightOff, unreacted_forN _ _ unreacted_bankOff, unreacted_safeBegin]
  clear_value s1
  exact unreacted_ite _ h (Eq.trans rfl h)

@[simp] theorem unreacted_enterPort (s : State) (p : Nat) (m : PortMode) (c : Nat) :
    unreacted (enterPort s p m c) = unreacted s := by
  unfold enterPort
  extract_lets prev s1
  exact unreacted_ite _ rfl (by rw [postPortState, unreacted_signal, unreacted_post]; rfl)

@[simp] theorem unreacted_parkPort (s : State) (p style cause : Nat) :
    unreacted (parkPort s p style cause) = unreacted s := by
  unfold parkPort
  rw [unreacted_enterPort]
  rfl

@[simp] theorem unreacted_parkArrays (s : State) : unreacted (parkArrays s) = unreacted s :=
  unreacted_forN 6 parkArray (fun s p => by
    unfold parkArray
    exact unreacted_ite _ (by rw [unreacted_completeOpt, unreacted_parkPort, unreacted_modPort]) rfl) s

@[simp] theorem unreacted_modHlsSlot (s : State) (k : Nat) (f : Slot → Slot) :
    unreacted (modHlsSlot s k f) = unreacted s := by
  unfold modHlsSlot; split <;> rfl

@[simp] theorem unreacted_setHls (s : State) (m : HlsMode) (c : Nat) : unreacted (setHls s m c) = unreacted s := by
  rw [setHls, postHls, unreacted_post]; rfl

@[simp] theorem unreacted_setInc (s : State) (i t : Nat) : unreacted (setInc s i t) = unreacted s := rfl
@[simp] theorem unreacted_scannerRest (s : State) (c : Nat) (f : Bool) : unreacted (scannerRest s c f) = unreacted s := rfl

@[simp] theorem unreacted_parkScanner (s : State) (cause : Nat) (fault : Bool) :
    unreacted (parkScanner s cause fault) = unreacted s := by
  unfold parkScanner
  extract_lets x s1
  refine unreacted_ite _ ?_ rfl
  rw [unreacted_setHls, unreacted_setInc, hlsTarget, unreacted_modHlsSlot]
  simp only [s1, unreacted_modHlsSlot, unreacted_scannerRest]
  rfl

theorem unreacted_applyReactions (s : State) (l : List Report) : unreacted (applyReactions s l) = unreacted s := by
  unfold applyReactions
  extract_lets act rs has s1 s2 s3
  have h1 : unreacted s1 = unreacted s := by
    simp only [s1]
    split
    · exact unreacted_enterSafe _ _ _
    · rfl
  have h2 : unreacted s2 = unreacted s := unreacted_ite _ (by rw [unreacted_parkArrays, h1]) h1
  have h3 : unreacted s3 = unreacted s := unreacted_ite _ (by rw [unreacted_parkScanner, h2]) h2
  rw [unreacted_foldl _ (fun s e => unreacted_ite _ (unreacted_bankOff _ _) rfl), h3]

theorem Records.unreacted {s t : State} (h : Records s t) : Machine.unreacted t = Machine.unreacted s :=
  unreacted_of_calm h.calm

theorem unreacted_collect (s : State) : unreacted (collect s) = unreacted s := by
  have once : ∀ x, unreacted (collectOnce x) = unreacted x := fun x =>
    (unreacted_applyReactions _ _).trans (records_reacts x _ _).unreacted
  have many : ∀ n x, unreacted (collectN n x) = unreacted x := by
    intro n
    induction n with
    | zero => exact fun x => (clearReports_records x).unreacted
    | succ k ih =>
      intro x
      unfold collectN
      exact unreacted_ite _ rfl ((ih _).trans (once x))
  exact many 4 s

/-! ### Counting where injections of other sources wait -/

/-- The reports of a source, told by the list of their sources. -/
theorem reportsOf_map (l : List Report) (src : Nat) :
    reportsOf l src = (l.map (·.source)).countP (fun x => x % 256 == src % 256) := by
  rw [List.countP_map]; rfl

/-- The mark changes no report's source. -/
theorem map_markCoincident (l : List Report) (i : Report) : (markCoincident l i).map (·.source) = l.map (·.source) := by
  have hset : ∀ k, k < l.length →
      (l.set k { l.getD k i with coincident := true }).map (·.source) = l.map (·.source) := by
    intro k hk
    rw [List.map_set, List.getD_eq_getElem?_getD, List.getElem?_eq_getElem hk]
    have hk' : k < (l.map (·.source)).length := by simpa using hk
    have : (l[k]).source = (l.map (·.source))[k] := by simp
    exact (congrArg _ this).trans (List.set_getElem_self hk')
  unfold markCoincident
  extract_lets exact any
  split
  · next hk => exact hset _ (List.findIdx?_eq_some_iff_getElem.mp hk).1
  · next hk => exact hset _ (List.findIdx?_eq_some_iff_getElem.mp hk).1
  · rfl

theorem foldl_insertReport_perm (s : State) (l acc : List Report) :
    (l.foldl (fun acc r => insertReport s r acc) acc).Perm (l ++ acc) := by
  induction l generalizing acc with
  | nil => exact .refl _
  | cons r t ih => exact (ih _).trans (((insertReport_perm s r acc).append_left t).trans List.perm_middle)

/-- The order of R500 leaves as many reports of a source, where none of them is an injection's. -/
theorem reportsOf_ordered (s : State) {l : List Report} {src : Nat}
    (h : ∀ q ∈ l, q.source % 256 = src % 256 → q.injected = false) : reportsOf (orderReports s l) src = reportsOf l src := by
  unfold orderReports
  extract_lets merged
  have hm : reportsOf merged src = reportsOf l src := by
    refine List.foldlRecOn l _ (motive := fun acc => reportsOf acc src = reportsOf l src) rfl (fun acc hacc r hr => ?_)
    split
    · next hi =>
      have hne : ¬ r.source % 256 = src % 256 := fun hs => by simp [h r hr hs] at hi
      rw [reportsOf_map, map_markCoincident, ← reportsOf_map, ← hacc, reportsOf, reportsOf, List.countP_filter]
      refine List.countP_congr fun q _ => ?_
      by_cases hq : q = r
      · subst hq; simp [hne]
      · simp [hq]
    · exact hacc
  have hp := (foldl_insertReport_perm s merged []).countP_eq (fun r => r.source % 256 == src % 256)
  rw [List.append_nil] at hp
  exact hp.trans hm

theorem collect_counts_real {s : State} {src : Nat} (hl : src % 256 ≠ 0x12)
    (h : ∀ q ∈ s.reports, q.source % 256 = src % 256 → q.injected = false) :
    sourceTally (collect s) src = min (sourceTally s src + reportsOf s.reports src) tallyMax := by
  unfold collect collectN
  split
  · next he =>
    rw [List.isEmpty_iff.mp he]
    exact (Nat.min_eq_left (sourceTally_le s src)).symm
  · have ht : sourceTally (collectOnce s) src = min (sourceTally s src + reportsOf s.reports src) tallyMax := by
      unfold collectOnce
      extract_lets l s1
      rw [(applyReactions_uncounted s1 l).tallies, foldl_recordReport_counts, reportsOf_ordered s h]
      rfl
    have hz : reportsOf (collectOnce s).reports src = 0 := by
      unfold collectOnce
      extract_lets l s1
      rw [(applyReactions_uncounted s1 l).reports src hl, foldl_recordReport_reports _ _ _ hl]
      rfl
    rw [collectN_counts 3 hl hz, ht]

/-- Outside an activation, with no command left waiting, the end of a command counts a source as often as the command has
reported it, where none of these reports is an injection's. -/
theorem finish_counts_real {a s : State} {src : Nat} (ha : s.img.act = none) (w : noWait s) (hl : src % 256 ≠ 0x12)
    (hi : ∀ q ∈ s.reports, q.source % 256 = src % 256 → q.injected = false) : sourceTally (finish a s) src =
      min (sourceTally s src + reportsOf s.reports src) tallyMax := by
  have hact : (collect s).img.act = none := by rw [(collect_reacts s).act]; exact ha
  have h1 := settle_reacts (a := a) ha
  have hact1 : (settle a s).img.act = none := by rw [h1.act]; exact ha
  have hnone : reportsOf (settle a s).reports src = 0 := by rw [settle_reports]; rfl
  have hfirst : sourceTally (settle a s) src = min (sourceTally s src + reportsOf s.reports src) tallyMax := by
    unfold settle
    extract_lets s1 s2
    have h2 : s2 = s1 := by
      simp only [s2, s1, activationFatal_none hact, collect_quiet (collect_reports s), ite_self]
    have he := exitConditions_uncounted a s2
    have hz : reportsOf (exitConditions a s2).reports src = 0 := by
      rw [he.reports src hl, h2, collect_reports]
      rfl
    rw [collect_uncounted hl hz, he.tallies, h2]
    exact collect_counts_real hl hi
  unfold finish
  extract_lets s1
  rw [startWaiting_quiet _ (h1.keeps.waits w)]
  show sourceTally (settle s1 s1) src = _
  rw [settle_counts hact1 hl (.inr hnone), hnone, Nat.add_zero, Nat.min_eq_left (sourceTally_le _ src), hfirst]

/-! ### The end of a command -/

/-- `t` is what the end of a command makes of `r`, outside an activation and with no command waiting. -/
structure Ends (r t : State) : Prop where
  reacts : Reacts r t
  rest : unreacted t = unreacted r
  settled : t.reports = []
  marks : ∀ src, src < 256 → (∃ q ∈ r.reports, q.source = src ∧ q.injected = false) → (sourceCfg r src).1 ≠ 0 →
    (srcAt t src).pending = true ∧ ((sourceCfg r src).1 = 2 → (srcAt t src).mode = .fatal)
  records : harmless r → Records r t
  counts : ∀ src, src % 256 ≠ 0x12 → (∀ q ∈ r.reports, q.source % 256 = src % 256 → q.injected = false) →
    sourceTally t src = min (sourceTally r src + reportsOf r.reports src) tallyMax
  shuts : ∀ rep, r.reports = [rep] → rep.injected = false → rep.reactionAs = none → bitAt (reactionOf r rep) 0 = true →
    bitAt (reactionOf r rep) 1 = true → dark t.pins

/-- What follows the collector in the end of a command only reacts and records. -/
theorem finish_after_collect {a r : State} (ha : r.img.act = none) (w : noWait r) (hq : r.pending = a.pending) :
    Reacts (collect r) (finish a r) ∧ unreacted (finish a r) = unreacted (collect r) := by
  have hact : (collect r).img.act = none := by rw [(collect_reacts r).act]; exact ha
  have settled : ∀ b x : State, (collect x).img.act = none →
      Reacts (collect x) (settle b x) ∧ unreacted (settle b x) = unreacted (collect x) := by
    intro b x hx
    unfold settle
    extract_lets s1 s2
    have hs2 : s2 = s1 := by simp only [s2, s1, activationFatal_none hx, collect_quiet (collect_reports x), ite_self]
    rw [hs2]
    have he := exitConditions_records b s1
    exact ⟨he.reacts.trans (collect_reacts _), (unreacted_collect _).trans he.unreacted⟩
  obtain ⟨h1, hu1⟩ := settled a r hact
  obtain ⟨h2', hu2⟩ := settled (settle a r) (settle a r) (by rw [(collect_reacts _).act, h1.act]; exact hact)
  have h2 := h1.trans ((collect_reacts _).trans h2')
  have hf : finish a r = withQueue (settle (settle a r) (settle a r)) a.pending := by
    unfold finish
    extract_lets s1
    rw [startWaiting_quiet _ ((settle_reacts ha).keeps.waits w)]
  have hp : withQueue (settle (settle a r) (settle a r)) a.pending = settle (settle a r) (settle a r) := by
    obtain ⟨o, h, ta, rr, fl, dr, bw, po, ls, pi, lp, pk, rc, hl, he⟩ := ((collect_reacts r).trans h2).frame
    rw [he, ← hq]
    rfl
  rw [hf, hp]
  exact ⟨h2, hu2.trans ((unreacted_collect _).trans hu1)⟩

/-- The end of a command adds what the collector, its reactions and the recoveries add. -/
theorem finish_ends {a r : State} (ha : r.img.act = none) (w : noWait r) (hq : r.pending = a.pending) :
    Ends r (finish a r) where
  reacts := (collect_reacts r).trans (finish_after_collect ha w hq).1
  rest := (finish_after_collect ha w hq).2.trans (unreacted_collect r)
  settled := finish_reports a r
  marks src hs hr hc := finish_marks ha w hs hr hc
  records hh := by
    obtain ⟨u, h1, -, h3⟩ := finish_records (a := a) ha w hh
    have hp : withQueue u a.pending = u := by
      obtain ⟨o, h, ta, rr, fl, dr, bw, po, he⟩ := h1.frame
      rw [he, ← hq]
      rfl
    rw [h3, hp]
    exact h1
  counts src hl hi := finish_counts_real ha w hl hi
  shuts rep hs hi hn h0 h1 := (finish_after_collect ha w hq).1.dark (collect_dark hs hi hn h0 h1)

variable {i : Instr} {s r : State} {f : State → State}

/-- An event of a live module. -/
theorem exec_unit_ends (hi : exec i s = .next (event s f)) (h : Live s) (hf : f s = r) (hw : noWait r)
    (ha : r.img.act = s.img.act := by rfl) (hq : r.pending = s.pending := by rfl) :
    ∃ t, exec i s = .next t ∧ Ends r t := by
  subst hf
  exact ⟨_, by rw [hi, event_running h.power], finish_ends (ha.trans h.act) hw hq⟩

/-- An event of the host interface of a module not held in reset. -/
theorem exec_host_ends (hi : exec i s = .next (hostEvent s f)) (h : Awake s) (hf : f s = r) (hw : noWait r)
    (ha : r.img.act = s.img.act := by rfl) (hq : r.pending = s.pending := by rfl) :
    ∃ t, exec i s = .next t ∧ Ends r t := by
  subst hf
  exact ⟨_, by rw [hi, hostEvent_up h.power], finish_ends (ha.trans h.act) hw hq⟩

/-- The end of a command has nothing to do where the operation left alone all that it looks at. -/
theorem Steady.quiet (h : Steady s) (hr : r.reports = s.reports := by rfl) (hd : r.flt.head = s.flt.head := by rfl)
    (hp : r.plk = s.plk := by rfl) (hm : r.hls.mode = s.hls.mode := by rfl) (ht : r.thm.stop = s.thm.stop := by rfl)
    (hb : r.lsd.bank = s.lsd.bank := by rfl) (hw : r.hmi.inFlight = s.hmi.inFlight := by rfl) : Quiet s r :=
  ⟨hr.trans h.reports, hd, hp, hm, ht, rearmed_same hb, by rw [hw]; exact h.waits⟩

theorem exec_unit_quiet (hi : exec i s = .next (event s f)) (h : Live s) (hf : f s = r) (q : Quiet s r)
    (hq : r.pending = s.pending := by rfl) : exec i s = .next r := by
  subst hf
  rw [hi, event_running h.power, finish_quiet q, ← hq]
  rfl

theorem exec_host_quiet (hi : exec i s = .next (hostEvent s f)) (h : Awake s) (hf : f s = r) (q : Quiet s r)
    (hq : r.pending = s.pending := by rfl) : exec i s = .next r := by
  rw [hi, hostEvent_quiet h.power hf q hq]

/-- An event that finds no occasion. -/
theorem exec_unit_same (hi : exec i s = .next (event s f)) (h : Live s) (hf : f s = s) : exec i s = .next s :=
  exec_unit_quiet hi h hf h.toSteady.quiet

theorem exec_host_same (hi : exec i s = .next (hostEvent s f)) (h : Awake s) (hf : f s = s) : exec i s = .next s :=
  exec_host_quiet hi h hf h.toSteady.quiet

end Sys2Proof.Machine
end


section
/-! Register writes by either requester: the path, and what an accepted or a refused write comes to. Warm resets and the
alarms of always-on logic (R339, R495, R528). -/

namespace Sys2Proof.Machine

/-! ### What recording and reacting keep, by field -/

/-- What reacting keeps of a state, read by `g`. -/
theorem Reacts.eq {α : Type} (g : State → α) {s t : State} (h : Reacts s t)
    (hg : ∀ (x : State) o hm ta r fl dr bw po ls pi lp pk rc hl, g { x with
      outs := o, hmi := hm, tallies := ta, reports := r, flt := fl, dram := dr, badWords := bw, poisoned := po, lsd := ls,
      pins := pi, lpe := lp, plk := pk, rck := rc, hls := hl } = g x := by intros; rfl) : g t = g s := by
  obtain ⟨o, hm, ta, r, fl, dr, bw, po, ls, pi, lp, pk, rc, hl, rfl⟩ := h.frame
  exact hg ..

theorem reservedBase_le_logBase (s : State) : reservedBase s ≤ logBase s := by unfold logBase; omega

/-- Below the reserved area reacting leaves the DRAM. -/
theorem Keeps.reserved {s t : State} (h : Keeps s t) {a : Nat} (ha : a < reservedBase s) : rd t a = rd s a :=
  h.memory a (Nat.lt_of_lt_of_le ha (reservedBase_le_logBase s))

/-! ### The path of a register write (R106, R132) -/

/-- A write by a requester that reaches the registers. -/
theorem writeBy_reached {s : State} {q : Requester} (h : reaches s q = true) (off v : Nat) (ok : Bool) :
    writeBy s q off v ok = regWrite s q off v ok := by
  cases q with
  | pcie =>
    obtain ⟨hreach, hlink⟩ : pcieReaches s = true ∧ s.hmi.linkUp = true := by simpa [reaches] using h
    simp [writeBy, pcieWrite, pcieAccess, pcieUp, hreach, hlink]
  | smbus => simp [writeBy, show smbAnswers s = true from h]

theorem writeBy_accepted {s : State} {q : Requester} {off v : Nat} (h : reaches s q = true)
    (hr : writeRefusal s q off v = none) (ok : Bool) : writeBy s q off v ok = writeEffect s off v ok := by
  rw [writeBy_reached h, regWrite, hr]

theorem writeBy_refused {s : State} {q : Requester} {off v : Nat} {e : Status} (h : reaches s q = true)
    (hr : writeRefusal s q off v = some e) (ok : Bool) : writeBy s q off v ok = reject s q false off e := by
  rw [writeBy_reached h, regWrite, hr]

/-! ### Warm resets -/

/-- What a warm reset's reaction leaves, before its own mark on the start-up. -/
def warmSafe (s : State) (source : Nat) : State :=
  parkScanner (parkArrays (enterSafe (bump s 0x68) source true)) 3 true

theorem warmSafe_reacts (s : State) (source : Nat) : Reacts (bumpRaw s 0x68).1 (warmSafe s source) :=
  (((bump_counted s 0x68).reacts.trans (enterSafe_reacts _ _ _)).trans (parkArrays_reacts _)).trans (parkScanner_reacts _ _ _)

theorem warmSafe_dark (s : State) (source : Nat) : dark (warmSafe s source).pins :=
  ((parkArrays_reacts _).trans (parkScanner_reacts _ _ _)).dark (enterSafe_dark _ _)

theorem bumpRaw_mild_frame (s : State) (off : Nat) : ∃ ta, (bumpRaw s off).1 = { s with tallies := ta } := by
  unfold bumpRaw
  split
  · exact ⟨s.tallies, rfl⟩
  · exact ⟨_, rfl⟩

/-- A warm reset has begun in the safe state (R528). -/
structure WarmBegun (s t : State) (kind : StartKind) (hostBoot : Bool) : Prop where
  boot : t.boot = { s.boot with kind := kind, warmAt := some s.tsc, hostBoot := hostBoot, watchdogAt := none }
  dark : dark t.pins
  counts : tally t 0x68 = min (tally s 0x68 + 1) tallyMax
  regs : t.regs = s.regs
  memory : ∀ a, a < reservedBase s → rd t a = rd s a

theorem warmBegin_eq (s : State) (source : Nat) (kind : StartKind) (hostBoot : Bool) :
    warmBegin s source kind hostBoot = { warmSafe s source with boot := { (warmSafe s source).boot with
      kind := kind, warmAt := some s.tsc, hostBoot := hostBoot, watchdogAt := none } } := by
  unfold warmBegin warmSafe
  rfl

/-- The end of a command that has begun a warm reset. -/
theorem warmBegun_of_reacts {s t : State} {source : Nat} {kind : StartKind} {hostBoot : Bool}
    (h : Reacts (warmBegin s source kind hostBoot) t) : WarmBegun s t kind hostBoot := by
  obtain ⟨ta, hb⟩ := bumpRaw_mild_frame s 0x68
  have hcount := tally_bumpRaw s 0x68
  have hs := warmSafe_reacts s source
  have hdark := warmSafe_dark s source
  rw [warmBegin_eq] at h
  generalize warmSafe s source = x at hs hdark h
  rw [hb] at hs hcount
  have hk := h.keeps
  have hboot : x.boot = s.boot := hs.eq (·.boot)
  have hfuse : x.fuse = s.fuse := hs.eq (·.fuse)
  refine ⟨?boot, h.dark hdark, ?counts, (h.eq (·.regs)).trans (hs.eq (·.regs)), ?memory⟩
  case boot => rw [h.eq (·.boot), hboot]
  case counts => exact ((hk.tallies 0x68 (by decide)).trans (hs.keeps.tallies 0x68 (by decide))).trans hcount
  case memory =>
    intro a ha
    exact (hk.reserved (show a < reservedBase x by rw [reservedBase_fuse hfuse]; exact ha)).trans (hs.keeps.reserved ha)

/-- What stands in the way of no end of a command: a warm reset leaves the image unit, the queue, and no command waiting. -/
theorem warmBegin_keeps (s : State) (source : Nat) (kind : StartKind) (hostBoot : Bool) :
    (noWait s → noWait (warmBegin s source kind hostBoot)) ∧
    (warmBegin s source kind hostBoot).img.act = s.img.act ∧ (warmBegin s source kind hostBoot).pending = s.pending := by
  obtain ⟨ta, hb⟩ := bumpRaw_mild_frame s 0x68
  have hs := warmSafe_reacts s source
  rw [warmBegin_eq]
  generalize warmSafe s source = x at hs
  rw [hb] at hs
  exact ⟨fun h => hs.keeps.waits h, hs.eq (·.img.act), hs.eq (·.pending)⟩

/-- A row of the host interface whose operation begins a warm reset. -/
theorem exec_host_warm {i : Instr} {s : State} {f : State → State} {source : Nat} {kind : StartKind} {hostBoot : Bool}
    (hi : exec i s = .next (hostEvent s f)) (h : Awake s) (hf : f s = warmBegin s source kind hostBoot) :
    ∃ t, exec i s = .next t ∧ WarmBegun s t kind hostBoot := by
  obtain ⟨hw, ha, hq⟩ := warmBegin_keeps s source kind hostBoot
  obtain ⟨t, ht, hends⟩ := exec_host_ends hi h hf (hw h.waits) ha hq
  exact ⟨t, ht, warmBegun_of_reacts hends.reacts⟩

theorem exec_unit_warm {i : Instr} {s : State} {f : State → State} {source : Nat} {kind : StartKind} {hostBoot : Bool}
    (hi : exec i s = .next (event s f)) (h : Live s) (hf : f s = warmBegin s source kind hostBoot) :
    ∃ t, exec i s = .next t ∧ WarmBegun s t kind hostBoot := by
  obtain ⟨hw, ha, hq⟩ := warmBegin_keeps s source kind hostBoot
  obtain ⟨t, ht, hends⟩ := exec_unit_ends hi h hf (hw h.waits) ha hq
  exact ⟨t, ht, warmBegun_of_reacts hends.reacts⟩

/-! ### Alarms -/

/-- The single report of a state that held none. -/
theorem report_single {s : State} (h : s.reports = []) (rep : Report) : (report s rep).reports = [rep] := by
  rw [report_reports, h]; rfl

/-- A fixed source is configured the same under every image (R493). -/
theorem sourceCfg_fixed {src : Nat} {e : Nat × Nat × Nat} (h : fixedSources.find? (fun e => e.1 == src) = some e) (s : State) :
    sourceCfg s src = (e.2.1, e.2.2, 64, true) := by
  rw [sourceCfg, h]

/-- What an alarm of a fixed source leaves: the light path dark, its source pending, a fatal one in FATAL. -/
theorem Ends.alarm {s t : State} {rep : Report} {e : Nat × Nat × Nat} (h : Ends (report s rep) t) (hr : s.reports = [])
    (he : fixedSources.find? (fun e => e.1 == rep.source) = some e) (h0 : bitAt e.2.2 0 = true) (h1 : bitAt e.2.2 1 = true)
    (hc : e.2.1 ≠ 0) (hs : rep.source < 256 := by exact of_decide_eq_true rfl)
    (hi : rep.injected = false := by rfl) (hn : rep.reactionAs = none := by rfl) :
    dark t.pins ∧ (srcAt t rep.source).pending = true ∧ (e.2.1 = 2 → (srcAt t rep.source).mode = .fatal) := by
  have hcfg := sourceCfg_fixed he (report s rep)
  have hre : reactionOf (report s rep) rep = e.2.2 := by simp [reactionOf, hn, hi, hcfg]
  have hm := h.marks rep.source hs ⟨rep, by simp, rfl, hi⟩ (by rw [hcfg]; exact hc)
  rw [hcfg] at hm
  exact ⟨h.shuts rep (report_single hr rep) hi hn (by rw [hre]; exact h0) (by rw [hre]; exact h1), hm⟩

/-- Settles O10: both resets and the watchdog's run through the same safe state. -/
theorem warmResetsBegin : Obligations.WarmResetsBegin := by
  unfold Obligations.WarmResetsBegin
  refine ⟨fun s q h hreach hr => ?warm, fun s q h hreach hr => ?host, fun s h => ?watchdog, fun s at_ h hw ht => ?early,
    fun s at_ h hw ht => ?late⟩
  case warm =>
    obtain ⟨t, ht, hb⟩ := exec_host_warm (i := .warmReset q) rfl h (writeBy_accepted hreach hr true)
    refine ⟨t, ht, ?_, ?_, ?_, hb.dark, hb.counts, hb.regs, hb.memory⟩ <;> rw [hb.boot]
    rfl
  case host =>
    obtain ⟨t, ht, hb⟩ := exec_host_warm (i := .hostBoot q) rfl h (writeBy_accepted hreach hr true)
    refine ⟨t, ht, ?_, ?_, ?_, hb.dark, hb.counts, hb.regs, hb.memory⟩ <;> rw [hb.boot]
    rfl
  case watchdog =>
    obtain ⟨t, ht, hends⟩ := exec_unit_ends (i := .supervisorWatchdog) rfl h rfl h.waits
    obtain ⟨hdark, hpend, hfatal⟩ := hends.alarm (e := (0xF0, 2, 15)) h.reports rfl rfl rfl (by decide)
    exact ⟨t, ht, hends.reacts.eq (·.boot), hdark, hpend, hfatal rfl⟩
  case early => exact exec_unit_same (i := .watchdogReset) rfl h (by simp [watchdogReset, hw, ht])
  case late =>
    obtain ⟨t, ht', hb⟩ := exec_unit_warm (i := .watchdogReset) rfl h (by
      rw [watchdogReset, hw]
      exact if_pos ht)
    refine ⟨t, ht', ?_, ?_, ?_, hb.dark, hb.counts, hb.regs, hb.memory⟩ <;> rw [hb.boot]

/-! ### The interlock, the supplies and the test port -/

theorem interlockOpen_interlockPins (s : State) (a b : Bool) : interlockOpen (interlockPins s a b) = (!a || b) := rfl

theorem interlockAct_opening {s : State} {a b : Bool} (h : a = false ∨ b = true) (ho : s.lsd.intlkOpen = false) :
    interlockAct s a b = report (interlockPins s a b) { source := 0x00, master := if a then 1 else 0 } := by
  have : interlockOpen (interlockPins s a b) = true := by
    rw [interlockOpen_interlockPins]
    rcases h with rfl | rfl <;> simp
  simp [interlockAct, this, ho]

theorem interlockAct_same {s : State} {a b : Bool} (h : (!a || b) = false ∨ s.lsd.intlkOpen = true) :
    interlockAct s a b = interlockPins s a b := by
  rcases h with h | h <;> simp [interlockAct, interlockOpen_interlockPins, h]

theorem interlockDisagree_early {s : State}
    (h : s.pins.intlkAHigh ≠ s.pins.intlkBHigh ∨ s.tsc ≤ s.pins.intlkAt + 20 * msCycles) : interlockDisagree s = s := by
  refine if_neg (fun hc => ?_)
  simp only [Bool.and_eq_true, beq_iff_eq, decide_eq_true_eq] at hc
  rcases h with h | h
  · exact h hc.1
  · omega

theorem jtagLoad_allowed {s : State} {i : JtagInstr} (l : BitVec 12) (h u : Bool) (ht : takesBalls i = true)
    (ha : testAllowed s = true) : jtagLoad s i l.toNat h u = { s with jtag := {
      instr := i, control := true, laserCells := if interlockOpen s then 0 else l.toNat,
      hlCell := !interlockOpen s && h, shutterCell := !interlockOpen s && u } } := by
  have hi : i ≠ .idcode := by rintro rfl; cases ht
  have hl : l.toNat % 4096 = l.toNat := Nat.mod_eq_of_lt l.isLt
  simp only [jtagLoad, ht, ha, hi, hl, Bool.and_self, Bool.not_true, Bool.and_false, Bool.false_eq_true, if_false,
    Bool.true_and]
  cases interlockOpen s <;> rfl

theorem jtagLoad_bypass {s : State} {i : JtagInstr} (l : BitVec 12) (h u : Bool) (ht : takesBalls i = true)
    (ha : testAllowed s = false) : jtagLoad s i l.toNat h u = { s with jtag := { instr := .bypass } } := by
  have hi : i ≠ .idcode := by rintro rfl; cases ht
  simp [jtagLoad, ht, ha, hi]

/-- Settles O11: each alarm is one report of a fixed source whose reaction is the safe state with the shutter. -/
theorem alarmsDarkenAndSuppliesReturn : Obligations.AlarmsDarkenAndSuppliesReturn := by
  unfold Obligations.AlarmsDarkenAndSuppliesReturn
  refine ⟨fun s a b h hab ho => ?opening, fun s a b h hab ho => ?open_, fun s h => ?closed, fun s h he ht => ?discrepancy,
    fun s h hn => ?agree, fun s h => ?lost, fun s h => ?back, fun s o h => ?aon, fun s up h hn => ?vaux,
    fun s i l hl u h ht ha => ?taken, fun s i l hl u h ht ha => ?bypass, fun s l hl u h => ?idcode⟩
  case opening =>
    obtain ⟨t, ht, hends⟩ := exec_host_ends (i := .interlockOpen a b) rfl h (interlockAct_opening hab ho) h.waits
    obtain ⟨hdark, hpend, -⟩ := hends.alarm (e := (0x00, 1, 3)) h.reports rfl rfl rfl (by decide)
    refine ⟨t, ht, congrArg (·.pins.intlkAHigh) hends.rest, congrArg (·.pins.intlkBHigh) hends.rest, ?_, hdark, hpend⟩
    refine (congrArg (·.lsd.intlkOpen) hends.rest).trans ?_
    show (!a || b) = true
    rcases hab with rfl | rfl <;> simp
  case open_ =>
    rw [exec_host_quiet (i := .interlockOpen a b) rfl h (interlockAct_same (.inr ho)) h.toSteady.quiet]
    have hopen : (!a || b) = true := by rcases hab with rfl | rfl <;> simp
    have : s.lsd = { s.lsd with intlkOpen := (!a || b) } := by rw [hopen, ← ho]
    rw [this]
    simp only [interlockPins, decide_eq_true_eq]
    rfl
  case closed =>
    rw [exec_host_quiet (i := .interlockOpen true false) rfl h (interlockAct_same (.inl rfl)) h.toSteady.quiet]
    simp only [interlockPins, decide_eq_true_eq]
    rfl
  case discrepancy =>
    obtain ⟨t, ht', hends⟩ := exec_host_ends (i := .interlockDiscrepancy) rfl h
      (if_pos (by simp [he]; omega)) h.waits
    obtain ⟨hdark, hpend, hfatal⟩ := hends.alarm (e := (0x01, 2, 3)) h.reports rfl rfl rfl (by decide)
    exact ⟨t, ht', hdark, hpend, hfatal rfl⟩
  case agree => exact exec_host_same (i := .interlockDiscrepancy) rfl h (interlockDisagree_early hn)
  case lost =>
    obtain ⟨t, ht, hends⟩ := exec_host_ends (i := .clockLoss true) rfl h rfl h.waits
    obtain ⟨hdark, hpend, hfatal⟩ := hends.alarm (e := (0xF3, 2, 15)) h.reports rfl rfl rfl (by decide)
    exact ⟨t, ht, hends.reacts.eq (·.boot), hdark, hpend, hfatal rfl⟩
  case back => exact exec_host_quiet (i := .clockLoss false) rfl h rfl h.toSteady.quiet
  case aon =>
    obtain ⟨t, ht, hends⟩ := exec_host_ends (i := .aonUe o) rfl h rfl h.waits
    obtain ⟨hdark, hpend, hfatal⟩ := hends.alarm (e := (0xF2, 2, 7)) h.reports rfl rfl rfl (by decide)
    exact ⟨t, ht, hdark, hpend, hfatal rfl⟩
  case vaux => exact exec_unit_quiet (i := .vaux3v3Retry up) rfl h (if_pos (by rw [hn]; rfl)) h.toSteady.quiet
  case taken =>
    exact exec_host_quiet (i := .boundaryScanInstruction i l hl u) rfl h (jtagLoad_allowed l hl u ht ha) h.toSteady.quiet
  case bypass =>
    exact exec_host_quiet (i := .boundaryScanInstruction i l hl u) rfl h (jtagLoad_bypass l hl u ht ha) h.toSteady.quiet
  case idcode =>
    exact exec_host_quiet (i := .boundaryScanInstruction .idcode l hl u) rfl h rfl h.toSteady.quiet

end Sys2Proof.Machine
end


section
/-! Register writes in full or not at all (R18, R107, R108), and the offsets of BAR0 that hold no register (R101). -/

namespace Sys2Proof.Machine

/-! ### Plain registers -/

/-- A block of plain registers has no write of its own kind. -/
theorem writeEffect_plain {off : Nat} (h : plainBlock (blockOf off) = true) (s : State) (v : Nat) (ok : Bool) :
    writeEffect s off v ok = plainWrite s off v := by
  unfold writeEffect
  split <;> first | rfl | (rename_i hb; rw [hb] at h; cases h)

theorem plainWrite_row {off : Nat} {r : RegRow} (h : regRow off = some r) (s : State) (v : Nat) :
    plainWrite s off v = setReg s off (plainValue s off r v) := by
  rw [plainWrite, h]

/-- A register write whose effect is on state that the end of a command does not look at. -/
theorem exec_write_quiet {s r : State} {q : Requester} {dw : Fin 0x1000000} {v : BitVec 32} {ok : Bool} (h : Awake s)
    (hf : writeBy s q (4 * dw.val) v.toNat ok = r) (hq : Quiet s r) (hp : r.pending = s.pending := by rfl) :
    exec (.registerWrite q .bar0 dw v ok) s = .next r :=
  exec_host_quiet (i := .registerWrite q .bar0 dw v ok) rfl h hf hq hp

/-! ### Offsets without a register -/

theorem ite_ne {α : Type} {c : Prop} [Decidable c] {a b x : α} (ha : a ≠ x) (hb : b ≠ x) : (if c then a else b) ≠ x := by
  split <;> assumption

theorem blockOf_windows {off : Nat} (h : isWindow off = false) : blockOf off ≠ .lut ∧ blockOf off ≠ .bootWindow := by
  simp only [isWindow, decide_eq_false_iff_not] at h
  unfold blockOf
  rw [if_neg (show ¬(0x1800000 ≤ off ∧ off < 0x2000000) by omega), if_neg (show ¬(0x2000000 ≤ off ∧ off < 0x2400000) by omega)]
  constructor
  all_goals
    repeat refine ite_ne (by decide) ?_
    decide

/-- A register stands at every offset whose read captures (R28). -/
theorem capture_unregistered {off : Nat} (h : regRow off = none) (s : State) (q : Requester) : capture s q off = s := by
  have hne : ∀ o, (regRow o).isSome = true → off ≠ o := by
    rintro o ho rfl
    rw [h] at ho
    cases ho
  have hinto : ∀ x : Shadows, captureInto s x off = x := fun x => by
    simp only [captureInto, captureFtg, hne 0x40 rfl, hne 0x200010 rfl, hne 0x100010 rfl, hne 0xD00004 rfl,
      hne 0xD0000C rfl, hne 0xD00104 rfl, hne 0xD0010C rfl, if_false]
  cases q <;> simp only [capture, hinto]

/-- An offset of no register and of no window reads as 0. -/
theorem regValue_unmapped {off : Nat} (hr : regRow off = none) (hw : isWindow off = false)
    (hl : off < 0x48000 ∨ 0x4A000 ≤ off) (s : State) (q : Requester) : regValue s q off = 0 := by
  have hlog : decide (0x48000 ≤ off ∧ off < 0x4A000) = false := by simp; omega
  have hboot : (blockOf off == .bootWindow) = false := by simp [(blockOf_windows hw).2]
  simp only [regValue, hboot, hr, hw, hlog, Bool.and_false, Bool.or_self, Bool.false_eq_true, if_false, ite_self]

theorem mapped_unmapped {off : Nat} (hr : regRow off = none) (hw : isWindow off = false)
    (hl : off < 0x48000 ∨ 0x4A000 ≤ off) : mapped off = false := by
  obtain ⟨hlut, hboot⟩ := blockOf_windows hw
  unfold mapped
  split
  case h_1 hb => exact absurd hb hboot
  case h_2 hb => exact absurd hb hlut
  case h_3 => simp [hr]; omega
  case h_4 => simp [hr]

/-- A write to such an offset is out of range, where neither its path nor a unit refuses it first (R132). -/
theorem writeRefusal_unmapped {s : State} {q : Requester} {off : Nat} (v : Nat) (hr : regRow off = none)
    (hw : isWindow off = false) (hl : off < 0x48000 ∨ 0x4A000 ≤ off) (hp : pathRefusal s q off = none)
    (ha : absentAt s off = false) (hs : sensorGone s off = false) (hd : domainOff s off = false) :
    writeRefusal s q off v = some .outOfRange := by
  have hclear : isErrClear off v = false := by
    have : off ≠ 0x20 := by rintro rfl; cases hr
    simp [isErrClear, this]
  simp [writeRefusal, hclear, hp, ha, hs, hd, mapped_unmapped hr hw hl]

/-! ### O14 -/

theorem reject_first {s : State} (h : s.glb.errValid = false) (q : Requester) (off : Nat) (e : Status) :
    reject s q false off e = { s with glb := { s.glb with
      errValid := true, errMulti := false, errSmbus := q == .smbus, errBar4 := false, errCode := e.code, errAddr := off } } := by
  simp [reject, h]

theorem reject_later {s : State} (h : s.glb.errValid = true) (q : Requester) (off : Nat) (e : Status) :
    reject s q false off e = { s with glb := { s.glb with errMulti := true } } := by
  simp [reject, h]

/-- Settles O14: an accepted write is the plain write, a refused one its record. -/
theorem registerWriteInFullOrNotAtAll : Obligations.RegisterWriteInFullOrNotAtAll := by
  unfold Obligations.RegisterWriteInFullOrNotAtAll
  refine ⟨fun s q dw v ok r h hreach hr hb hrow => ?full, fun s q dw v ok e h hreach hr he => ?first,
    fun s q dw v ok e h hreach hr he => ?later, fun s q dw h hreach hrow hw hl => ?read,
    fun s q dw v ok h hreach hrow hw hl hp ha hs hd he => ?write⟩
  case full =>
    refine exec_write_quiet (r := setReg s _ _) h ?_ h.toSteady.quiet
    rw [writeBy_accepted hreach hr, writeEffect_plain hb, plainWrite_row hrow]
  case first =>
    exact exec_write_quiet h (by rw [writeBy_refused hreach hr, reject_first he]) h.toSteady.quiet
  case later =>
    exact exec_write_quiet h (by rw [writeBy_refused hreach hr, reject_later he]) h.toSteady.quiet
  case read =>
    refine ⟨_, exec_shadowCaptureRead_bar0 h hreach, ?_⟩
    simp only [regRead, regValue_unmapped hrow hw hl, capture_unregistered hrow, ite_self]
    rfl
  case write =>
    have hr := writeRefusal_unmapped v.toNat hrow hw hl hp ha hs hd
    exact ⟨_, exec_write_quiet h (by rw [writeBy_refused hreach hr, reject_first he]) h.toSteady.quiet, rfl, rfl, rfl, rfl⟩

end Sys2Proof.Machine
end


section
/-! Message commands of the host interface and of the composer that answer at once (R133–R138, R168, R175–R182). -/

namespace Sys2Proof.Machine

variable {s : State} {c : Cmd}

/-! ### HELLO, ECHO and MEM_FENCE_QUERY -/

theorem runHello_ok {f : InFlight} {p : List Byte} {v : Version} (h : s.hmi.inFlight = [])
    (hr : 256 * byteAt p 0 + byteAt p 1 ≤ 256 * byteAt p 2 + byteAt p 3)
    (hv : chooseVersion (256 * byteAt p 0 + byteAt p 1) (256 * byteAt p 2 + byteAt p 3) = some v) :
    runHello (enterFlight s f) f.id p =
      (enterFlight { s with hmi := { s.hmi with version := some v } } f, .now .ok (helloResult s v)) := by
  have hb : (enterFlight s f).hmi.inFlight.any (fun g => g.id != f.id && g.done.isNone) = false := by
    simp [enterFlight, h]
  simp only [runHello, hb, hv, if_neg (Nat.not_lt.mpr hr), Bool.false_eq_true, if_false]
  rfl

theorem runFenceQuery_ok {p : List Byte} (h0 : leAt p 8 8 ≠ 0) (hl : leAt p 0 8 + leAt p 8 8 ≤ usable s) :
    runFenceQuery s p = (s, .now .ok
      (leBytes 1 (fenceQuery s (leAt p 0 8) (leAt p 8 8)).1 ++ leBytes 1 (fenceQuery s (leAt p 0 8) (leAt p 8 8)).2.1 ++
        leBytes 2 (fenceQuery s (leAt p 0 8) (leAt p 8 8)).2.2.1 ++ leBytes 4 0 ++
        leBytes 8 (fenceQuery s (leAt p 0 8) (leAt p 8 8)).2.2.2)) := by
  unfold runFenceQuery
  exact if_neg (by omega)

/-- The only command in flight completes, beside the effect `e` of its operation. -/
theorem completes_alone {e : State} {f : InFlight} {op : State → State} {st : Status} {res : List Byte}
    (hm : op s = complete (enterFlight e f) f.id st res) (hp : s.boot.power ≠ .heldInReset) (hf : e.hmi.inFlight = [])
    (hc : e.hmi.cplQueue = []) (hw : cplWritable e = true) (ha : e.img.act = none) (hr : e.reports = [])
    (hq : e.pending = s.pending) : ∃ t, hostEvent s op = t ∧ Replies e t f st res := by
  obtain ⟨hidle, hanswer⟩ := complete_alone (s := enterFlight e f) (f := f) (by simp [enterFlight, hf]) hc hw st res
  have hk := complete_host (enterFlight e f) f.id st res
  obtain ⟨o, h, ta, r, hfr⟩ := hk.frame
  obtain ⟨t, ht, hrec, hset⟩ := hostEvent_records op hp hm (by rw [hfr]; exact ha) (noWait_nil hidle)
    (hk.keeps.harmless_nil hr) (by rw [hfr]; exact hq)
  refine ⟨t, ht, ?frame, hk.keeps.trans hrec.keeps, hrec.flight.trans hidle, hset, fun hs => ?answer⟩
  case frame =>
    exact ⟨_, _, _, _, _, _, _, _, calm_frame (hrec.calm.trans (hk.calm.trans rfl))⟩
  case answer =>
    obtain ⟨l, hl, hmem⟩ := hanswer hs
    obtain ⟨k, hk⟩ := hrec.keeps.outs
    exact ⟨k ++ l, by rw [← hk, hl, List.append_assoc]; rfl, List.mem_append_right _ hmem⟩

/-- HELLO changes the version that governs later commands, and no ring. -/
theorem exec_hello {v : Version} (h : Serving s 0x0001 c)
    (hr : 256 * byteAt (bodyOf c) 0 + byteAt (bodyOf c) 1 ≤ 256 * byteAt (bodyOf c) 2 + byteAt (bodyOf c) 3)
    (hv : chooseVersion (256 * byteAt (bodyOf c) 0 + byteAt (bodyOf c) 1) (256 * byteAt (bodyOf c) 2 + byteAt (bodyOf c) 3) =
      some v) :
    ∃ t, exec (.hello c) s = .next t ∧
      Replies { s with hmi := { s.hmi with version := some v } } t (arriving s 0x0001 c []) .ok (helloResult s v) := by
  have hm : message s 0x0001 c [] = complete (enterFlight { s with hmi := { s.hmi with version := some v } }
      (arriving s 0x0001 c [])) (arriving s 0x0001 c []).id .ok (helloResult s v) := by
    rw [message_runs h, startCmd_alone h.alone rfl, (h.on []).trans (runHello_ok h.alone hr hv)]
  obtain ⟨t, ht, hrep⟩ := completes_alone (op := fun s => message s 0x0001 c []) hm (canFetch_host h.fetch) h.alone
    (canFetch_queue h.fetch) (canFetch_ring h.fetch) h.act h.reports rfl
  exact ⟨t, congrArg Host.Outcome.next ht, hrep⟩

/-- Settles O20: HELLO completes beside the version it has put in force, the others beside nothing. -/
theorem helloEchoAndFenceQuery : Obligations.HelloEchoAndFenceQuery := by
  unfold Obligations.HelloEchoAndFenceQuery
  refine ⟨fun s c v h hr hv => exec_hello h hr hv, fun s c h => ?echo, fun s c q h h0 hl hq => ?fence⟩
  case echo => exact exec_replies (e := s) (i := .echo c) rfl h (h.on [])
  case fence =>
    subst hq
    exact exec_replies (e := s) (i := .memFenceQuery c) rfl h ((h.on []).trans (runFenceQuery_ok h0 hl))

/-! ### Layer commands -/

theorem layerRefused_eq {l : Nat} (h : s.ftgOn = false ∨ layerEnabled s l = false) : layerRefused s l = true := by
  rcases h with h | h <;> simp [layerRefused, h]

theorem runLayerSurface_refused {l : Nat} {p : List Byte} (hp : surfaceEncOk p = true)
    (h : s.ftgOn = false ∨ layerEnabled s l = false) : runLayerSurface s l p = (s, .now .badState []) := by
  simp [runLayerSurface, hp, layerRefused_eq h]

theorem runLayerGeom_refused {l : Nat} {p : List Byte} (hp : geomEncOk l p = true)
    (h : s.ftgOn = false ∨ layerEnabled s l = false) : runLayerGeom s l p = (s, .now .badState []) := by
  simp [runLayerGeom, hp, layerRefused_eq h]

theorem runLayerSurface_range {l : Nat} {p : List Byte} (hp : surfaceEncOk p = false) :
    runLayerSurface s l p = (s, .now .outOfRange []) := by
  simp [runLayerSurface, hp]

theorem runLayerGeom_range {l : Nat} {p : List Byte} (hp : geomEncOk l p = false) :
    runLayerGeom s l p = (s, .now .outOfRange []) := by
  simp [runLayerGeom, hp]

theorem runLayerReady_refused {l arrival : Nat} {p : List Byte} (h : layerEnabled s l = false ∨
    (∀ q, (vget s.cmp.layers l {}).pend = some q → q.wait = false ∨ q.ready = true ∨ q.st.surf.bufferId ≠ leAt p 0 2)) :
    runLayerReady s l arrival p = (s, .now .badState []) := by
  unfold runLayerReady
  rcases h with h | h
  · simp [h]
  · split
    · rfl
    · split
      · rfl
      · next q hq =>
        refine if_pos ?_
        rcases h q hq with hc | hc | hc <;> simp [hc]

/-- Settles O56: each command answers at once, beside the shadow or the pending state it changes. -/
theorem layerCommandsTakeEffect : Obligations.LayerCommandsTakeEffect := by
  unfold Obligations.LayerCommandsTakeEffect
  refine ⟨fun s c h hf hl hp => ?surface, fun s c h hf hl hp => ?geom, fun s c q h hl hq hw hr hb => ?ready,
    fun s c h hp hl => ?surfaceState, fun s c h hp => ?surfaceRange, fun s c h hp hl => ?geomState, fun s c h hp => ?geomRange,
    fun s c h hl => ?readyState⟩
  case surface =>
    exact exec_replies (i := .cmpLayerSurface c) rfl h
      ((h.on []).trans (runLayerSurface_ok (s := enterFlight s (arriving s 0x0401 c [])) hp hf hl))
  case geom =>
    exact exec_replies (i := .cmpLayerGeom c) rfl h
      ((h.on []).trans (runLayerGeom_ok (s := enterFlight s (arriving s 0x0402 c [])) hp hf hl))
  case ready =>
    exact exec_replies (i := .cmpLayerReady c) rfl h
      ((h.on []).trans (runLayerReady_ok (s := enterFlight s (arriving s 0x0404 c [])) hl hq hw hr hb _))
  case surfaceState =>
    exact exec_replies (i := .cmpLayerSurface c) rfl h
      ((h.on []).trans (runLayerSurface_refused (s := enterFlight s (arriving s 0x0401 c [])) hp hl))
  case surfaceRange =>
    exact exec_replies (i := .cmpLayerSurface c) rfl h ((h.on []).trans (runLayerSurface_range hp))
  case geomState =>
    exact exec_replies (i := .cmpLayerGeom c) rfl h
      ((h.on []).trans (runLayerGeom_refused (s := enterFlight s (arriving s 0x0402 c [])) hp hl))
  case geomRange =>
    exact exec_replies (i := .cmpLayerGeom c) rfl h ((h.on []).trans (runLayerGeom_range hp))
  case readyState =>
    exact exec_replies (i := .cmpLayerReady c) rfl h
      ((h.on []).trans (runLayerReady_refused (s := enterFlight s (arriving s 0x0404 c [])) hl))

/-! ### Commits -/

/-- A commit's operation: refused at once where its payload is not as its version allows. -/
theorem runOp_commit (h : Serving s 0x0403 c) :
    runOp (enterFlight s (arriving s 0x0403 c [])) (arriving s 0x0403 c []) =
      if commitPayloadOk (decide ((arriving s 0x0403 c []).ver.major = 1)) (bodyOf c) then
        runCommit (enterFlight s (arriving s 0x0403 c [])) s.tsc (bodyOf c)
      else (enterFlight s (arriving s 0x0403 c []), .now .outOfRange (commitResult 0 0 0 255)) :=
  h.on []

/-- A rejected commit is recorded, and leaves the sequence number. -/
theorem runCommit_rejected {arrival reason layer fetch : Nat} {p : List Byte} {st : Status}
    (h : runCommitChecks s arrival p = rejectCommit s st reason layer fetch) :
    runCommit s arrival p = ({ s with cmp := { s.cmp with rejStatus := st.code, rejLayer := layer, rejReason := reason } },
      .now st (commitResult 0 fetch reason layer)) := by
  unfold runCommit
  rw [h]
  exact if_pos rfl

theorem findSome?_first {α : Type} {n l : Nat} (f : Nat → Option α) {x : α} (hl : l < n) (hx : f l = some x)
    (hj : ∀ j, j < l → f j = none) : (List.range n).findSome? f = some x := by
  induction n with
  | zero => omega
  | succ n ih =>
    rw [List.range_succ, List.findSome?_append]
    by_cases hln : l < n
    · rw [ih hln]; rfl
    · obtain rfl : l = n := by omega
      have : (List.range l).findSome? f = none :=
        List.findSome?_eq_none_iff.mpr fun j hm => hj j (List.mem_range.mp hm)
      rw [this]
      simp [hx]

theorem runCommitChecks_shut {arrival : Nat} (p : List Byte) (h : commitShut s arrival = true) :
    runCommitChecks s arrival p = rejectCommit s .badState 1 255 0 := by
  simp [runCommitChecks, h]

theorem runCommitChecks_mask {arrival l : Nat} {p : List Byte} {st : Status} (h : commitShut s arrival = false)
    (hm : maskCheck s (leAt p 0 2) = some (l, st)) : runCommitChecks s arrival p = rejectCommit s st 2 l 0 := by
  simp [runCommitChecks, h, hm]

theorem runCommitChecks_layer {arrival l step : Nat} {p : List Byte} {st : Status} (h : commitShut s arrival = false)
    (hm : maskCheck s (leAt p 0 2) = none) (hw : leAt p 2 2 &&& leAt p 0 2 = leAt p 2 2) (hl : l < 16)
    (hb : bitAt (leAt p 0 2) l = true) (hc : layerCheck s l = some (step, st))
    (hj : ∀ j, j < l → bitAt (leAt p 0 2) j = true → layerCheck s j = none) :
    runCommitChecks s arrival p = rejectCommit s st step l 0 := by
  have hf : (List.range 16).findSome? (fun l =>
      if bitAt (leAt p 0 2) l then (layerCheck s l).map (fun e => (l, e)) else none) = some (l, step, st) := by
    refine findSome?_first _ hl (by simp [hb, hc]) fun j hlt => ?_
    by_cases hbj : bitAt (leAt p 0 2) j = true
    · simp [hbj, hj j hlt hbj]
    · simp [hbj]
  simp only [runCommitChecks, h, hm, hf, Bool.false_eq_true, if_false, if_neg (not_not.mpr hw)]

theorem verCommit_mild (s : State) (arrival : Nat) : Mild s (verCommit s arrival) := .units

/-- A commit that a check refuses changes the record of the last rejection alone. -/
theorem exec_commit_rejected {reason layer : Nat} {st : Status} (h : Serving s 0x0403 c)
    (hp : commitPayloadOk (decide ((arriving s 0x0403 c []).ver.major = 1)) (bodyOf c) = true)
    (hr : runCommitChecks (enterFlight s (arriving s 0x0403 c [])) s.tsc (bodyOf c) =
      rejectCommit (enterFlight s (arriving s 0x0403 c [])) st reason layer 0) :
    ∃ t, exec (.cmpCommit c) s = .next t ∧
      Replies { s with cmp := { s.cmp with rejStatus := st.code, rejLayer := layer, rejReason := reason } } t
        (arriving s 0x0403 c []) st (commitResult 0 0 reason layer) := by
  refine exec_replies (i := .cmpCommit c) rfl h ((runOp_commit h).trans ?_)
  rw [if_pos hp]
  exact runCommit_rejected hr

/-- A commit that passes every check merges the shadows. -/
theorem exec_commit_accepted {p : List Byte} (hp : p = bodyOf c) (h : Serving s 0x0403 c) (hs : commitShut s s.tsc = false)
    (hw : s.cmp.writes = []) (ho : commitPayloadOk (decide ((arriving s 0x0403 c []).ver.major = 1)) p = true)
    (hm : maskCheck s (leAt p 0 2) = none) (hwait : leAt p 2 2 &&& leAt p 0 2 = leAt p 2 2)
    (hl : ∀ l, l < 16 → bitAt (leAt p 0 2) l = true → layerCheck s l = none)
    (hb : fetchBudget s (mergeLayers s (leAt p 0 2) (leAt p 2 2) 0 s.tsc ((List.range 7).map (fun i => leAt p (8 + 2 * i) 2)))
      ≤ (cfg s).canvas.fetchAllotment) :
    ∃ t fetch cmp ver, exec (.cmpCommit c) s = .next t ∧
      Answers s t (arriving s 0x0403 c []) .ok (commitResult (s.cmp.commitSeq + 1) fetch 0 255) ∧
      calm t = calm { s with cmp := cmp, ver := ver } ∧ (∀ a, a < reservedBase s → rd t a = rd s a) ∧ ver.stale = false ∧
      cmp = { s.cmp with
        layers := mergeLayers s (leAt p 0 2) (leAt p 2 2) (s.cmp.commitSeq + 1) s.tsc
          ((List.range 7).map (fun i => leAt p (8 + 2 * i) 2)),
        commitSeq := s.cmp.commitSeq + 1
        fetchLast := fetch
        commits := s.cmp.commits ++ [⟨s.cmp.commitSeq + 1, s.tsc, (List.range 7).map (fun i => leAt p (8 + 2 * i) 2)⟩] } := by
  let s1 := enterFlight s (arriving s 0x0403 c [])
  let changed := (List.range 7).map (fun i => leAt p (8 + 2 * i) 2)
  obtain ⟨fetch, hrun⟩ := runCommit_ok (s := s1) (arrival := s.tsc) (p := p) hs hw hm hwait hl hb
  have hmild := acceptCommit_mild s1 (leAt p 0 2) (leAt p 2 2) s.tsc fetch changed
  have hcalm := acceptCommit_calm s1 (leAt p 0 2) (leAt p 2 2) s.tsc fetch changed
  have hrun' := (runOp_commit h).trans (if_pos (by rw [← hp]; exact ho))
  rw [← hp, hrun] at hrun'
  generalize acceptCommit s1 (leAt p 0 2) (leAt p 2 2) s.tsc fetch changed = r at hmild hcalm hrun'
  have hregs : r.regs = s.regs := (calm_eq (·.regs) hcalm :)
  have htsc : r.tsc = s.tsc := (calm_eq (·.tsc) hcalm :)
  have hact : r.img.act = s.img.act := (calm_eq (·.img.act) hcalm :)
  have hpend : r.pending = s.pending := (calm_eq (·.pending) hcalm :)
  have hfuse : r.fuse = s.fuse := (calm_eq (·.fuse) hcalm :)
  have hcmp := (calm_eq (·.cmp) hcalm :)
  have hall := hmild.trans (verCommit_mild r s.tsc)
  obtain ⟨t, ht, hans, hct, hk⟩ := exec_answers (i := .cmpCommit c) rfl h hrun' hall.toLoose hregs htsc hact hpend
  refine ⟨t, fetch, r.cmp, { r.ver with commitAt := s.tsc, since := s.tsc, stale := false }, ht, hans, ?_, fun a ha => hall.memory (s := s1) hfuse hk a ha, rfl, hcmp⟩
  rw [hct, hcmp]
  exact calm_with_ver hcalm { r.ver with commitAt := s.tsc, since := s.tsc, stale := false }

/-- Settles O57: a commit is accepted by the merge, or refused by the first check that fails. -/
theorem acceptedCommitMergesShadows : Obligations.AcceptedCommitMergesShadows := by
  unfold Obligations.AcceptedCommitMergesShadows
  refine ⟨fun s c p hp h hs hw ho hm hwait hl hb => ?merge, fun s c h ho hf ht => ?stopped, fun s c l st h hs ho hm => ?mask,
    fun s c l step st h hs ho hm hw hl hb hc hj => ?layer, fun s c h ho => ?payload⟩
  case merge =>
    obtain ⟨t, fetch, cmp, ver, ht, hans, hcalm, hmem, hstale, hcmp⟩ := exec_commit_accepted hp h hs hw ho hm hwait hl hb
    have htc : t.cmp = cmp := calm_eq (·.cmp) hcalm
    have htv : t.ver = ver := calm_eq (·.ver) hcalm
    have hget := mergeLayers_get s (leAt p 0 2) (leAt p 2 2) (s.cmp.commitSeq + 1) s.tsc
      ((List.range 7).map (fun i => leAt p (8 + 2 * i) 2))
    refine ⟨t, ht, ?_, ?_, fun l hl16 hbit => ?_, fun l hbit => ?_, by rw [htv]; exact hstale, by rw [htc, htv]; exact hcalm,
      hmem⟩
    · rw [htc, hcmp]; exact hans
    · rw [htc, hcmp]
    · rw [htc, hcmp]
      dsimp only
      rw [hget, if_pos ⟨hl16, hbit⟩]
      rfl
    · rw [htc, hcmp]
      dsimp only
      rw [hget, if_neg (by simp [hbit])]
  case stopped =>
    exact exec_commit_rejected h ho (runCommitChecks_shut _ (by simp [commitShut, enterFlight, hf, ht]))
  case mask => exact exec_commit_rejected h ho (runCommitChecks_mask hs hm)
  case layer => exact exec_commit_rejected h ho (runCommitChecks_layer hs hm hw hl hb hc hj)
  case payload =>
    exact exec_replies (e := s) (i := .cmpCommit c) rfl h ((runOp_commit h).trans (if_neg (by rw [ho]; decide)))

end Sys2Proof.Machine
end


section
/-! What noting memory errors leaves (R418, R419), and the latch line (R183, R185). -/

namespace Sys2Proof.Machine

/-! ### What noting errors changes -/

/-- A state without what noting errors, counting, posting and reporting may change. -/
def noted (s : State) : State := { calm s with hmi := evtCore s.hmi, mem := {}, ver := {} }

theorem Posts.noted {s t : State} (h : Posts s t) : Machine.noted t = Machine.noted s := by
  have he := h.events
  obtain ⟨o, hm, ta, r, rfl⟩ := h.frame
  show { Machine.calm s with hmi := evtCore hm, mem := {}, ver := {} } = Machine.noted s
  rw [show evtCore hm = evtCore s.hmi from he]
  rfl

@[simp] theorem noted_report (s : State) (r : Report) : noted (report s r) = noted s := rfl
@[simp] theorem noted_post (s : State) (c u : Nat) (p : List Byte) : noted (post s c u p) = noted s := (post_posts s c u p).noted

theorem noted_bumpRaw (s : State) (off : Nat) : noted (bumpRaw s off).1 = noted s := by
  obtain ⟨ta, h⟩ := bumpRaw_mild_frame s off
  rw [h]; rfl

@[simp] theorem noted_bump (s : State) (off : Nat) : noted (bump s off) = noted s :=
  (bump_counted s off).noted.trans (noted_bumpRaw s off)

theorem noted_ite {a b x : State} (c : Prop) [Decidable c] (ha : noted a = noted x) (hb : noted b = noted x) :
    noted (if c then a else b) = noted x := by split <;> assumption

theorem noted_foldl {β : Type} (f : State → β → State) (h : ∀ s b, noted (f s b) = noted s) (l : List β) (s : State) :
    noted (l.foldl f s) = noted s := by
  induction l generalizing s with
  | nil => rfl
  | cons b t ih => rw [List.foldl_cons, ih, h]

@[simp] theorem noted_bumpBy (s : State) (off n : Nat) : noted (bumpBy s off n) = noted s :=
  noted_foldl _ (fun s _ => noted_bump s off) _ s

theorem noted_dramCe (s : State) (addr unit : Nat) : noted (dramCe s addr unit) = noted s := by
  unfold dramCe
  rw [noted_report, noted_bump]
  rfl

theorem noted_meetErrors (s : State) (e : DramErrs) (unit : Nat) : noted (meetErrors s e unit) = noted s := by
  unfold meetErrors
  extract_lets real s1
  rw [noted_foldl _ (fun s w => noted_dramCe s (8 * w) unit)]
  rfl

/-- What `noted` keeps is alike in two states that it makes alike. -/
theorem noted_eq {α : Type} (g : State → α) {a b : State} (h : noted a = noted b)
    (hg : ∀ x, g (noted x) = g x := by intro x; rfl) : g a = g b := by rw [← hg a, h, hg]

theorem noWait_noted {a b : State} (h : noted a = noted b) (w : noWait b) : noWait a := by
  have : a.hmi.inFlight = b.hmi.inFlight := noted_eq (·.hmi.inFlight) h
  rw [noWait, this]; exact w

/-- Noting errors counts in MEM's tallies alone. -/
theorem tally_meetErrors (s : State) (e : DramErrs) (unit : Nat) {off : Nat} (hu : unitTally off = true) (hne : off ≠ 0x100020) :
    tally (meetErrors s e unit) off = tally s off := by
  unfold meetErrors
  extract_lets real s1
  have step : ∀ (l : List Nat) (x : State), tally (l.foldl (fun s w => dramCe s (8 * w) unit) x) off = tally x off := by
    intro l
    induction l with
    | nil => exact fun x => rfl
    | cons w l ih => exact fun x => (ih _).trans (tally_bump_ne _ hu hne)
  exact step _ s1

/-! ### A latch that aborts a running pass -/

/-- A running pass with one layer of one KTC tile. -/
def badTilePass : Pass :=
  { no := 1, mode := .running,
    layers := [some { surf := { ktc := true, width := 8, height := 8 },
                      geom := { enable := true, srcW := 8, srcH := 8, dstW := 8, dstH := 8 } }],
    takenSeq := 0, frame := 0, line := 0, changed := [], cover := 0, carryIn := false, gains := [], pqPeak := 0, start := 0 }

/-- The latch line of a frame with a commit waiting, while a pass runs whose tile, all zeros, does not decode; the image gives
fault 0x2A the safe state. -/
def badTileLatch : State :=
  { tsc := 1, ftgOn := true, rck := { segStart := 1 }, img := { cfg := some { topo := { videoMask := 1 } } }
    flt := { map := (List.replicate 256 {}).set 0x2A { cls := 1, reaction := 1 } }
    cmp := { commits := [{ seq := 1, arrival := 0, changed := [] }], pass := some badTilePass } }

theorem live_badTileLatch : Live badTileLatch := ⟨⟨rfl, rfl, rfl⟩, rfl⟩

set_option maxRecDepth 20000 in
theorem safeSource_badTileLatch : (finish badTileLatch (latchLine badTileLatch)).lsd.safeSource = 0x2A := by decide

/-- What an event of a live module answers. -/
theorem exec_unit_end {i : Instr} {s t : State} {f : State → State} (hi : exec i s = .next (event s f)) (h : Live s)
    (ht : exec i s = .next t) : finish s (f s) = t := by
  rw [hi, event_running h.power] at ht
  exact Host.Outcome.next.inj ht

/-- Refutes O58: the latch aborts the pass that runs, what it has fetched is judged, and fault 0x2A of a KTC tile that does not
decode has the reaction that the image gives it; the statement leaves the light path out of what a latch changes. In
`badTileLatch` that reaction is the safe state, and its source is kept. -/
theorem not_linesWatermarksAndTheLatch : ¬ Obligations.LinesWatermarksAndTheLatch := by
  unfold Obligations.LinesWatermarksAndTheLatch
  rintro ⟨-, -, -, -, -, -, hlatch, -⟩
  obtain ⟨t, ht, -, -, -, -, -, -, hcalm, -⟩ := hlatch badTileLatch live_badTileLatch rfl rfl rfl
  have hsource : t.lsd.safeSource = 0 := congrArg (·.lsd.safeSource) hcalm
  rw [← exec_unit_end rfl live_badTileLatch ht, safeSource_badTileLatch] at hsource
  exact absurd hsource (by decide)

end Sys2Proof.Machine
end


section
/-! Composer passes that run dry or complete, and highlight passes (R198–R203, R220, R379). -/

namespace Sys2Proof.Machine

/-! ### Operations that report of given sources only -/

/-- From `s` to `t` no record is counted, and reports come of the sources of `L` and of lost events only. -/
structure Raises (L : List Nat) (s t : State) : Prop where
  tallies : ∀ src, sourceTally t src = sourceTally s src
  reports : ∀ src, src % 256 ≠ 0x12 → (∀ x ∈ L, src % 256 ≠ x % 256) → reportsOf t.reports src = reportsOf s.reports src

theorem Uncounted.raises {s t : State} (h : Uncounted s t) (L : List Nat) : Raises L s t :=
  ⟨h.tallies, fun src h12 _ => h.reports src h12⟩

theorem Raises.refl (L : List Nat) (s : State) : Raises L s s := (Uncounted.refl s).raises L

theorem Raises.trans {L : List Nat} {a b c : State} (h1 : Raises L a b) (h2 : Raises L b c) : Raises L a c :=
  ⟨fun src => (h2.tallies src).trans (h1.tallies src),
    fun src h hL => (h2.reports src h hL).trans (h1.reports src h hL)⟩

theorem Raises.same {L : List Nat} {s t : State} (h : (t.tallies, t.reports) = (s.tallies, s.reports)) : Raises L s t :=
  (Uncounted.same h).raises L

theorem Raises.ite {L : List Nat} {s a b : State} (c : Prop) [Decidable c] (ha : Raises L s a) (hb : Raises L s b) :
    Raises L s (if c then a else b) := by split <;> assumption

theorem Raises.foldl {L : List Nat} {β : Type} (f : State → β → State) (h : ∀ s b, Raises L s (f s b)) (l : List β)
    (s : State) : Raises L s (l.foldl f s) := by
  induction l generalizing s with
  | nil => exact .refl L _
  | cons b t ih => exact (h s b).trans (ih _)

theorem report_raises {L : List Nat} (s : State) {r : Report} (h : r.source ∈ L) : Raises L s (report s r) where
  tallies _ := rfl
  reports src _ hL := by
    have : ¬ r.source % 256 = src % 256 := fun he => hL _ h he.symm
    simp [report, reportsOf, this]

theorem bump_raises {L : List Nat} (s : State) {off : Nat} (h : off < 0x41000 ∨ 0x42000 ≤ off) : Raises L s (bump s off) :=
  (bump_uncounted_outside s h).raises L

theorem bumpBy_raises {L : List Nat} (s : State) {off : Nat} (n : Nat) (h : off < 0x41000 ∨ 0x42000 ≤ off) :
    Raises L s (bumpBy s off n) := .foldl _ (fun s _ => bump_raises s h) _ s

theorem post_raises {L : List Nat} (s : State) (c u : Nat) (p : List Byte) : Raises L s (post s c u p) :=
  (post_uncounted s c u p).raises L

theorem tally_report (s : State) (r : Report) (off : Nat) : tally (report s r) off = tally s off := rfl

theorem reportsOf_append (l k : List Report) (src : Nat) : reportsOf (l ++ k) src = reportsOf l src + reportsOf k src := by
  simp [reportsOf, List.countP_append]

/-- The end of a command that has reported a source once, by no injection, has counted it once more. -/
theorem Ends.counted {s r t : State} {src : Nat} (h : Ends r t) (h12 : src % 256 ≠ 0x12)
    (hi : ∀ q ∈ r.reports, q.source % 256 = src % 256 → q.injected = false) (hone : reportsOf r.reports src = 1)
    (ht : sourceTally r src = sourceTally s src) : Machine.counted s t src := by
  have hc := h.counts src h12 hi
  rw [hone, ht] at hc
  exact hc

/-- The same where the report is the last thing that the operation did. -/
theorem Ends.counted_last {s r t : State} {rep : Report} (h : Ends (report r rep) t) (h12 : rep.source % 256 ≠ 0x12)
    (hi : rep.injected = false) (hz : reportsOf r.reports rep.source = 0)
    (ht : sourceTally r rep.source = sourceTally s rep.source) : Machine.counted s t rep.source := by
  refine h.counted h12 (fun q hq hs => ?_) ?_ ht
  · rcases List.mem_append.mp hq with hq | hq
    · exact absurd hs ((reportsOf_eq_zero_iff _ _).mp hz q hq)
    · rw [List.mem_singleton.mp hq]; exact hi
  · show reportsOf (r.reports ++ [rep]) rep.source = 1
    rw [reportsOf_append, hz]
    simp [reportsOf]

/-! ### A pass runs dry -/

theorem countKtc_raises (s : State) (p : Pass) (lines : Nat) : Raises [0x2A] s (countKtc s p lines) :=
  .ite _ (.refl _ _) ((bumpBy_raises s _ (by decide)).trans (report_raises _ (by simp)))

theorem noted_countKtc (s : State) (p : Pass) (lines : Nat) : noted (countKtc s p lines) = noted s :=
  noted_ite _ rfl (by rw [noted_report, noted_bumpBy])

theorem tally_countKtc (s : State) (p : Pass) (lines : Nat) {off : Nat} (hu : unitTally off = true) (hne : off ≠ 0x1F0018) :
    tally (countKtc s p lines) off = tally s off := by
  have hby : ∀ (n : Nat) (x : State), tally (bumpBy x 0x1F0018 n) off = tally x off := by
    intro n x
    unfold bumpBy forN
    generalize List.range n = l
    induction l generalizing x with
    | nil => rfl
    | cons k l ih => exact (ih _).trans (tally_bump_ne x hu hne)
  unfold countKtc
  extract_lets n
  split
  · rfl
  · exact hby _ _

theorem noInjection_countKtc {s : State} (h : noInjection s) (p : Pass) (lines : Nat) : noInjection (countKtc s p lines) := by
  unfold countKtc
  extract_lets n
  split
  · exact h
  · exact noInjection_report ((bumpBy_mild s 0x1F0018 n).toLoose.noInjection h) rfl

/-! The first thing that a pass does that runs dry: it is judged, counted and reported. -/

theorem Raises.mono {L M : List Nat} {s t : State} (h : Raises L s t) (hs : L ⊆ M) : Raises M s t :=
  ⟨h.tallies, fun src h12 hM => h.reports src h12 fun x hx => hM x (hs hx)⟩

theorem noted_dryStart (s : State) (p : Pass) (line : Nat) : noted (dryStart s p line) = noted s := by
  rw [dryStart, noted_report, noted_bump, noted_countKtc]

theorem dryStart_raises (s : State) (p : Pass) (line : Nat) : Raises [0x2A, 0x30] s (dryStart s p line) :=
  (((countKtc_raises s _ _).mono (by simp)).trans (bump_raises _ (by decide))).trans (report_raises _ (by simp))

theorem noInjection_dryStart {s : State} (h : s.reports = []) (p : Pass) (line : Nat) : noInjection (dryStart s p line) :=
  noInjection_report ((bump_mild _ _).toLoose.noInjection (noInjection_countKtc (by simp [noInjection, h]) _ _)) rfl

theorem tally_dryStart (s : State) (p : Pass) (line : Nat) :
    tally (dryStart s p line) 0x200028 = min (tally s 0x200028 + 1) tallyMax := by
  rw [dryStart, tally_report, tally_bump _ _ rfl, tally_countKtc _ _ _ rfl (by decide)]

theorem tally_dryStart_ne (s : State) (p : Pass) (line : Nat) {off : Nat} (hu : unitTally off = true)
    (hk : off ≠ 0x1F0018) (hd : off ≠ 0x200028) : tally (dryStart s p line) off = tally s off := by
  rw [dryStart, tally_report, tally_bump_ne _ hu hd, tally_countKtc _ _ _ hu hk]

theorem reportsOf_dryStart {s : State} (h : s.reports = []) (p : Pass) (line : Nat) :
    reportsOf (dryStart s p line).reports 0x30 = 1 := by
  have hr : Raises [0x2A] s (bump (countKtc s { p with line := line } (line + 1)) 0x200028) :=
    (countKtc_raises s _ _).trans (bump_raises _ (by decide))
  have hz := hr.reports 0x30 (by decide) (by decide)
  rw [h] at hz
  rw [dryStart, report_reports, reportsOf_append, hz]
  rfl

/-- With no KTC tile in error, what has been reported has no reaction. -/
theorem harmless_dryStart {s : State} (h : s.reports = []) {p : Pass} {line : Nat}
    (hk : ktcErrors s { p with line := line } (line + 1) = 0) : harmless (dryStart s p line) := by
  have hc : countKtc s { p with line := line } (line + 1) = s := by simp [countKtc, hk]
  rw [dryStart, hc]
  exact harmless_fixed ((bump_mild s _).toLoose.harmless h) rfl

theorem dram_dryStart (s : State) (p : Pass) (line : Nat) : (dryStart s p line).dram = s.dram := by
  have hk : (countKtc s { p with line := line } (line + 1)).dram = s.dram := by
    unfold countKtc
    extract_lets n
    split
    · rfl
    · exact (bumpBy_mild s 0x1F0018 n).dram
  rw [dryStart, report_dram, (bump_mild _ _).dram, hk]

/-- The effect `r` of a pass that has run dry, after its first thing `d`, with what it makes of the composer's and the
builders' state, and the tally of the way it went. -/
structure RunsDry (s d r : State) (C : Cmp) (B : Pbu) (off : Nat) : Prop where
  calm : Machine.calm r = Machine.calm { s with cmp := C, pbu := B }
  events : evtCore r.hmi = evtCore s.hmi
  memory : r.dram = s.dram
  reports : reportsOf r.reports 0x30 = 1
  real : noInjection r
  tallies : ∀ src, sourceTally r src = sourceTally s src
  dry : tally r 0x200028 = min (tally s 0x200028 + 1) tallyMax
  way : tally r off = min (tally s off + 1) tallyMax
  mild : harmless d → harmless r

theorem calm_with_build {a b : State} (h : calm a = calm b) (C : Cmp) (B : Pbu) :
    calm { a with cmp := C, pbu := B } = calm { b with cmp := C, pbu := B } :=
  congrArg (fun z : State => { z with cmp := C, pbu := B }) h

/-- What follows the first thing counts, posts, and sets the composer's and the builders' state. -/
theorem runsDry_of {s y : State} {p : Pass} {line : Nat} {C : Cmp} {B : Pbu} (hs : s.reports = [])
    (hy : Raises [0x31] (dryStart s p line) y) (hc : calm y = calm { s with cmp := C, pbu := B })
    (hn : evtCore y.hmi = evtCore (dryStart s p line).hmi) (hd : y.dram = (dryStart s p line).dram) (hi : noInjection y)
    (ht : tally y 0x200028 = tally (dryStart s p line) 0x200028) {off : Nat} (hu : unitTally off = true)
    (hk : off ≠ 0x1F0018) (ho : off ≠ 0x200028) (hw : tally y off = min (tally (dryStart s p line) off + 1) tallyMax)
    (hh : harmless (dryStart s p line) → harmless y) : RunsDry s (dryStart s p line) y C B off :=
  ⟨hc, hn.trans (congrArg (·.hmi) (noted_dryStart s p line)), hd.trans (dram_dryStart s p line),
    (hy.reports 0x30 (by decide) (by decide)).trans (reportsOf_dryStart hs p line), hi,
    fun src => (hy.tallies src).trans ((dryStart_raises s p line).tallies src), ht.trans (tally_dryStart s p line),
    by rw [hw, tally_dryStart_ne s p line hu hk ho], hh⟩

theorem postPassRestart_posts (s : State) (p : Pass) (o l : Nat) : Posts s (postPassRestart s p o l) := post_posts _ _ _ _

theorem restartPass_eq {s x : State} (hcmp : x.cmp = s.cmp) (htsc : x.tsc = s.tsc) (hpbu : x.pbu = s.pbu) (p : Pass) :
    restartPass x p = { x with
      cmp := { s.cmp with pass := some { p with mode := .running, line := 0, start := s.tsc, held := [] } },
      pbu := (beginBuild s p.no).pbu } := by
  rw [← hcmp, ← htsc]
  unfold beginBuild
  rw [← hpbu]
  rfl

theorem runsDry_restart {s : State} (hs : s.reports = []) (p : Pass) (line layer : Nat) :
    RunsDry s (dryStart s p line) (restartPass (postPassRestart (bump (dryStart s p line) 0x20002C) { p with line := line } 0 layer)
      { p with line := line })
      { s.cmp with pass := some { p with mode := .running, line := 0, start := s.tsc, held := [] } } (beginBuild s p.no).pbu 0x20002C := by
  have hraise : Raises [0x31] (dryStart s p line) (bump (dryStart s p line) 0x20002C) := bump_raises _ (by decide)
  have hmild := bump_mild (dryStart s p line) 0x20002C
  have hcalm := calm_bump (dryStart s p line) 0x20002C
  have hcount := tally_bump_ne (dryStart s p line) (off := 0x20002C) (i := 0x200028) rfl (by decide)
  have hway := tally_bump (dryStart s p line) 0x20002C rfl
  generalize bump (dryStart s p line) 0x20002C = w at hraise hmild hcalm hcount hway ⊢
  have hpost := postPassRestart_posts w { p with line := line } 0 layer
  have hraise2 : Raises [0x31] w (postPassRestart w { p with line := line } 0 layer) := post_raises _ _ _ _
  generalize postPassRestart w { p with line := line } 0 layer = x at hpost hraise2 ⊢
  have hall := hmild.trans hpost.mild
  have hc := (hpost.calm.trans hcalm).trans (calm_dryStart s p line)
  rw [restartPass_eq (calm_eq (·.cmp) hc) (calm_eq (·.tsc) hc) (calm_eq (·.pbu) hc) { p with line := line }]
  refine runsDry_of hs ?_ ?_ ?_ ?_ ?_ ?_ (off := 0x20002C) rfl (by decide) (by decide) ?_ ?_
  · exact (hraise.trans hraise2).trans (.same rfl)
  · exact calm_with_build hc _ _
  · exact hall.events
  · exact hall.dram
  · exact hall.toLoose.noInjection (noInjection_dryStart hs p line)
  · exact (hpost.tallies _ rfl).trans hcount
  · exact (hpost.tallies _ rfl).trans hway
  · exact hall.toLoose.keep

/-- A pass abandoned: counted and reported a second time, and waiting. -/
def dryWaits (s : State) (p : Pass) (line : Nat) : State :=
  setPass (report (bump (dryStart s p line) 0x200030) { source := 0x31 }) (some { p with line := line, mode := .waiting })

theorem runsDry_abandon {s : State} (hs : s.reports = []) (p : Pass) (line layer : Nat) :
    RunsDry s (dryStart s p line) (beginBuild (postPassRestart (dryWaits s p line) { p with line := line } 1 layer) 0)
      { s.cmp with pass := some { p with line := line, mode := .waiting } } (beginBuild s 0).pbu 0x200030 := by
  have hraise : Raises [0x31] (dryStart s p line) (bump (dryStart s p line) 0x200030) := bump_raises _ (by decide)
  have hmild := bump_mild (dryStart s p line) 0x200030
  have hc0 := (calm_bump (dryStart s p line) 0x200030).trans (calm_dryStart s p line)
  have hcount := tally_bump_ne (dryStart s p line) (off := 0x200030) (i := 0x200028) rfl (by decide)
  unfold dryWaits
  have hway := tally_bump (dryStart s p line) 0x200030 rfl
  generalize bump (dryStart s p line) 0x200030 = w at hraise hmild hc0 hcount hway ⊢
  have hinj : noInjection (report w { source := 0x31 }) :=
    noInjection_report (hmild.toLoose.noInjection (noInjection_dryStart hs p line)) rfl
  have hr0 : Raises [0x31] (dryStart s p line) (report w { source := 0x31 }) := hraise.trans (report_raises _ (by simp))
  have hset := setPass_calm (x := report w { source := 0x31 }) hc0 (some { p with line := line, mode := .waiting })
  generalize hC : ({ s.cmp with pass := some { p with line := line, mode := .waiting } } : Cmp) = C at hset ⊢
  have hr1 : Raises [0x31] (dryStart s p line) (setPass (report w { source := 0x31 })
      (some { p with line := line, mode := .waiting })) := hr0.trans (.same rfl)
  have hv1 : (setPass (report w { source := 0x31 }) (some { p with line := line, mode := .waiting })).hmi = w.hmi := rfl
  have hv2 : (setPass (report w { source := 0x31 }) (some { p with line := line, mode := .waiting })).dram = w.dram := rfl
  have hv3 : noInjection (setPass (report w { source := 0x31 }) (some { p with line := line, mode := .waiting })) := hinj
  have hv4 : tally (setPass (report w { source := 0x31 }) (some { p with line := line, mode := .waiting })) 0x200028 =
    tally w 0x200028 := rfl
  have hv5 : tally (setPass (report w { source := 0x31 }) (some { p with line := line, mode := .waiting })) 0x200030 =
    tally w 0x200030 := rfl
  have hv6 : harmless (dryStart s p line) →
      harmless (setPass (report w { source := 0x31 }) (some { p with line := line, mode := .waiting })) :=
    fun h => harmless_fixed (hmild.toLoose.keep h) rfl
  generalize setPass (report w { source := 0x31 }) (some { p with line := line, mode := .waiting }) = v
    at hset hr1 hv1 hv2 hv3 hv4 hv5 hv6 ⊢
  have hpost := postPassRestart_posts v { p with line := line } 1 layer
  have hraise : Raises [0x31] v (postPassRestart v { p with line := line } 1 layer) := post_raises _ _ _ _
  generalize postPassRestart v { p with line := line } 1 layer = x at hpost hraise ⊢
  have hc := hpost.calm.trans hset
  have hpbu : x.pbu = s.pbu := (calm_eq (·.pbu) hc :)
  have hbuild : beginBuild x 0 = { x with pbu := (beginBuild s 0).pbu } := by
    unfold beginBuild
    rw [← hpbu]
  rw [hbuild]
  refine runsDry_of hs ?_ ?_ ?_ ?_ ?_ ?_ (off := 0x200030) rfl (by decide) (by decide) ?_ ?_
  · exact (hr1.trans hraise).trans (.same rfl)
  · exact calm_with_pbu hc _
  · exact hpost.events.trans ((congrArg evtCore hv1).trans hmild.events)
  · exact hpost.mild.dram.trans (hv2.trans hmild.dram)
  · exact hpost.mild.toLoose.noInjection hv3
  · exact (hpost.tallies _ rfl).trans (hv4.trans hcount)
  · exact (hpost.tallies _ rfl).trans (hv5.trans hway)
  · exact fun h => hpost.mild.toLoose.keep (hv6 h)

/-- A pass runs dry on a layer, or at a row of the row store that is not free. -/
theorem composerDry_running {s : State} {p : Pass} {layer line : Nat} (hp : s.cmp.pass = some p) (hm : p.mode = .running)
    (hl : (layer == 0xFE && ringRowFree s line) = false) (deadline : Nat) :
    composerDry s layer line deadline =
      if s.tsc + passCycles s ≤ deadline then
        restartPass (postPassRestart (bump (dryStart s p line) 0x20002C) { p with line := line } 0 layer) { p with line := line }
      else beginBuild (postPassRestart (dryWaits s p line) { p with line := line } 1 layer) 0 := by
  simp only [composerDry, hp, hm, hl, beq_self_eq_true, Bool.not_false, Bool.and_self, if_true]
  rfl

/-- The end of a pass that has run dry. -/
theorem exec_dry {s d r : State} {layer : Option (Fin 16)} {line off : Nat} {C : Cmp} {B : Pbu} (h : Live s)
    (hr : composerDry s (layer.elim 0xFE (·.val)) line (lastDecision s) = r) (hd : RunsDry s d r C B off)
    (hu : unitTally off = true) :
    ∃ t, exec (.composerDry layer line) s = .next t ∧ Ends r t ∧ counted s t 0x30 ∧
      tally t 0x200028 = min (tally s 0x200028 + 1) tallyMax ∧ t.cmp = C ∧ t.pbu = B ∧
      tally t off = min (tally s off + 1) tallyMax ∧
      (harmless d → calm t = calm { s with cmp := t.cmp, pbu := t.pbu }) ∧ (∀ a, a < reservedBase s → rd t a = rd s a) := by
  have hfl : r.hmi.inFlight = s.hmi.inFlight := congrArg (f := Hmi.inFlight) (a₁ := evtCore r.hmi) (a₂ := evtCore s.hmi) hd.events
  have hw : noWait r := by rw [noWait, hfl]; exact h.waits
  have hact : r.img.act = s.img.act := (calm_eq (·.img.act) hd.calm :)
  have hpend : r.pending = s.pending := (calm_eq (·.pending) hd.calm :)
  have hf : r.fuse = s.fuse := (calm_eq (·.fuse) hd.calm :)
  have hrc : r.cmp = C := (calm_eq (·.cmp) hd.calm :)
  have hrb : r.pbu = B := (calm_eq (·.pbu) hd.calm :)
  obtain ⟨t, ht, hends⟩ := exec_unit_ends (i := .composerDry layer line) rfl h hr hw hact hpend
  have hk := hends.reacts.keeps
  have hcmp : t.cmp = C := (hends.reacts.eq (·.cmp)).trans hrc
  have hpbu : t.pbu = B := (hends.reacts.eq (·.pbu)).trans hrb
  refine ⟨t, ht, hends, hends.counted (by decide) (fun q hq _ => hd.real q hq) hd.reports (hd.tallies _),
    (hk.tallies _ rfl).trans hd.dry, hcmp, hpbu, (hk.tallies _ hu).trans hd.way, fun hh => ?_, fun a ha => ?_⟩
  · rw [hcmp, hpbu]
    exact (hends.records (hd.mild hh)).calm.trans hd.calm
  · rw [hk.reserved (by rw [reservedBase_fuse hf]; exact ha), rd, rd, hd.memory]

/-- An abandoned pass is reported once more, by fault 0x31. -/
theorem reportsOf_abandon {s : State} {p : Pass} {line layer : Nat} (hs : s.reports = []) :
    reportsOf (beginBuild (postPassRestart (dryWaits s p line) { p with line := line } 1 layer) 0).reports 0x31 = 1 := by
  have hr : Raises [0x2A, 0x30] s (bump (dryStart s p line) 0x200030) :=
    (dryStart_raises s p line).trans (bump_raises _ (by decide))
  have hz := hr.reports 0x31 (by decide) (by decide)
  have hp : reportsOf (postPassRestart (dryWaits s p line) { p with line := line } 1 layer).reports 0x31 =
      reportsOf (dryWaits s p line).reports 0x31 := (post_uncounted _ _ _ _).reports 0x31 (by decide)
  rw [hs] at hz
  unfold beginBuild
  dsimp only
  rw [hp]
  unfold dryWaits setPass
  generalize bump (dryStart s p line) 0x200030 = w at hz ⊢
  exact (reportsOf_append _ _ _).trans (by rw [hz]; rfl)

/-! ### Operations that note errors and leave the DRAM -/

/-- From `s` to `t` errors are noted, of the sources of `L`, and the DRAM is left as it is. -/
structure Notes (L : List Nat) (s t : State) : Prop where
  noted : Machine.noted t = Machine.noted s
  raises : Raises L s t
  dram : t.dram = s.dram

section
variable {L : List Nat} {s a b c : State}

theorem Notes.refl (L : List Nat) (s : State) : Notes L s s := ⟨rfl, .refl L s, rfl⟩

theorem Notes.trans (h1 : Notes L a b) (h2 : Notes L b c) : Notes L a c :=
  ⟨h2.noted.trans h1.noted, h1.raises.trans h2.raises, h2.dram.trans h1.dram⟩

theorem Notes.mono {M : List Nat} (h : Notes L a b) (hs : L ⊆ M) : Notes M a b := ⟨h.noted, h.raises.mono hs, h.dram⟩

theorem Notes.ite (c : Prop) [Decidable c] (ha : Notes L s a) (hb : Notes L s b) : Notes L s (if c then a else b) := by
  split <;> assumption

theorem Notes.foldl {β : Type} (f : State → β → State) (h : ∀ s b, Notes L s (f s b)) (l : List β) (s : State) :
    Notes L s (l.foldl f s) := by
  induction l generalizing s with
  | nil => exact .refl L _
  | cons b t ih => exact (h s b).trans (ih _)

theorem bump_notes (s : State) {off : Nat} (h : off < 0x41000 ∨ 0x42000 ≤ off) : Notes L s (bump s off) :=
  ⟨noted_bump s off, bump_raises s h, (bump_mild s off).dram⟩

theorem bumpBy_notes (s : State) {off : Nat} (n : Nat) (h : off < 0x41000 ∨ 0x42000 ≤ off) : Notes L s (bumpBy s off n) :=
  .foldl _ (fun s _ => bump_notes s h) _ s

theorem report_notes (s : State) {r : Report} (h : r.source ∈ L) : Notes L s (report s r) := ⟨rfl, report_raises s h, rfl⟩

/-- A change of the controller's, the verification unit's or the collector's own state. -/
theorem Notes.own (m : Mem) (v : Ver) (f : Flt) : Notes L s { s with mem := m, ver := v, flt := f } :=
  ⟨rfl, .same rfl, rfl⟩

theorem Notes.mem (m : Mem) : Notes L s { s with mem := m } := ⟨rfl, .same rfl, rfl⟩

theorem dramCe_notes (s : State) (addr unit : Nat) (h : 0x20 ∈ L) : Notes L s (dramCe s addr unit) :=
  ((Notes.mem _).trans (bump_notes _ (by decide))).trans (report_notes _ h)

theorem meetErrors_notes (s : State) (e : DramErrs) (unit : Nat) (h : 0x20 ∈ L) : Notes L s (meetErrors s e unit) := by
  unfold meetErrors
  extract_lets real s1
  have h1 : Notes L s s1 := ⟨rfl, .same rfl, rfl⟩
  exact h1.trans (.foldl _ (fun s w => dramCe_notes s _ _ h) _ _)

theorem dramUe_notes (s : State) (addr unit : Nat) (inj : Option Injection) (co : Bool) (h : 0x21 ∈ L) :
    Notes L s (dramUe s addr unit inj co) :=
  ((Notes.mem _).trans (bump_notes _ (by decide))).trans (report_notes _ h)

theorem disarm_notes (s : State) (src : Nat) : Notes L s (disarm s src) := ⟨rfl, .same rfl, rfl⟩

theorem readUe_notes (s : State) (x n unit : Nat) (h : 0x21 ∈ L) : Notes L s (readUe s x n unit) := by
  unfold readUe reportUe
  split
  · exact .refl L s
  · exact dramUe_notes _ _ _ _ _ h
  · exact (disarm_notes s 0x21).trans (dramUe_notes _ _ _ _ _ h)
  · exact (disarm_notes s 0x21).trans (dramUe_notes _ _ _ _ _ h)

theorem modRegion_notes (s : State) (o r : Nat) (f : Region → Region) : Notes L s (modRegion s o r f) := ⟨rfl, .same rfl, rfl⟩

theorem verRecord_notes (s : State) (o r residue frame : Nat) (carried : Bool) (h : 0xA1 ∈ L) :
    Notes L s (verRecord s o r residue frame carried) := by
  unfold verRecord
  extract_lets g n judged cnt frozen s1
  have h1 : Notes L s s1 := modRegion_notes _ _ _ _
  exact h1.trans (.ite _ ((bump_notes _ (by decide)).trans (report_notes _ h)) (.refl L _))

theorem verPass_notes (s : State) (o : Nat) (bytes : Region → List Byte) (changed frame : Nat) (h0 : 0xA0 ∈ L) (h1 : 0xA1 ∈ L) :
    Notes L s (verPass s o bytes changed frame) := by
  unfold verPass
  extract_lets on res inj real injR bad held s1 s2 s3 src s4 s5
  have key : ∀ i : Option Injection, Notes L s (match i with
      | some i => report (disarm s 0xA0) { source := 0xA0, master := o, address := i.address, injected := true, react := i.react }
      | none => s) := by
    rintro (_ | i)
    · exact .refl L s
    · exact (disarm_notes s 0xA0).trans (report_notes _ h0)
  have hs1 : Notes L s s1 := key inj
  have hs2 : Notes L s1 s2 := .foldl _ (fun s r => report_notes s h0) _ _
  have hs3 : Notes L s2 s3 := bumpBy_notes _ _ (by decide)
  have hs4 : Notes L s3 s4 := ⟨rfl, .same rfl, rfl⟩
  have hs5 : Notes L s4 s5 := .ite _ (bump_notes _ (by decide)) (.refl L _)
  exact ((((hs1.trans hs2).trans hs3).trans hs4).trans hs5).trans
    (.foldl _ (fun s e => verRecord_notes s _ _ _ _ _ h1) _ _)

theorem verPortPasses_notes (s : State) (ps : Pass) (h0 : 0xA0 ∈ L) (h1 : 0xA1 ∈ L) : Notes L s (verPortPasses s ps) :=
  .foldl _ (fun s _ => .ite _ (verPass_notes s _ _ _ _ h0 h1) (.refl L s)) _ s

theorem passUes_notes (s : State) (p : Pass) (h : 0x21 ∈ L) : Notes L s (passUes s p) := by
  unfold passUes
  split
  · exact .refl L s
  · extract_lets s1
    have h1 : Notes L s s1 := .foldl _ (fun s1 e => .foldl _ (fun s2 r => readUe_notes s2 _ _ _ h) _ _) _ s
    exact .ite _ (h1.trans (.foldl _ (fun s1 y => readUe_notes s1 _ _ _ h) _ _)) h1

end

theorem PinsDown.same {s t : State} (h : t.pins = s.pins) : PinsDown s t :=
  ⟨by rw [h]; exact id, by rw [h]; exact id, by rw [h]; exact id, by rw [h]⟩

/-- What `noted` leaves out of `calm`. -/
theorem calm_of_noted {a b : State} (h : noted a = noted b) : calm a = calm { b with mem := a.mem, ver := a.ver } :=
  congrArg (fun z : State => { z with hmi := {}, mem := a.mem, ver := a.ver }) h

/-- After an operation that left `e` but for noting errors, what the reactions to them leave. -/
theorem Reacts.calm_noted {e r t : State} (h : Reacts r t) (hn : noted r = noted e) : calm t = calm { e with
    ver := t.ver, lsd := t.lsd, pins := t.pins, lpe := t.lpe, plk := t.plk, rck := t.rck, hls := t.hls, mem := t.mem } := by
  have hc := calm_of_noted hn
  obtain ⟨o, hm, ta, rr, fl, dr, bw, po, ls, pi, lp, pk, rc, hl, rfl⟩ := h.frame
  exact congrArg (fun z : State => { z with lsd := ls, pins := pi, lpe := lp, plk := pk, rck := rc, hls := hl }) hc

/-- An event of a live module whose operation leaves `e` but for noting errors. -/
theorem exec_unit_noted {i : Instr} {s e r : State} {f : State → State} (hi : exec i s = .next (event s f)) (h : Live s)
    (hf : f s = r) (hn : noted r = noted e) (hv : e.hmi = s.hmi := by rfl) (ha : e.img.act = s.img.act := by rfl)
    (hq : e.pending = s.pending := by rfl) (hfu : e.fuse = s.fuse := by rfl) (hpi : e.pins = s.pins := by rfl) :
    ∃ t, exec i s = .next t ∧ Ends r t ∧ PinsDown s t ∧ (∀ a, a < reservedBase s → rd t a = rd r a) := by
  have hact : r.img.act = e.img.act := noted_eq (·.img.act) hn
  have hpend : r.pending = e.pending := noted_eq (·.pending) hn
  have hfuse : r.fuse = e.fuse := noted_eq (·.fuse) hn
  have hpins : r.pins = e.pins := noted_eq (·.pins) hn
  obtain ⟨t, ht, hends⟩ := exec_unit_ends hi h hf (noWait_noted hn (by rw [noWait, hv]; exact h.waits)) (hact.trans ha)
    (hpend.trans hq)
  refine ⟨t, ht, hends, ?_, fun a hlt => hends.reacts.keeps.reserved ?_⟩
  · exact (PinsDown.same (hpins.trans hpi)).trans hends.reacts.pins
  · rw [reservedBase_fuse (hfuse.trans hfu)]; exact hlt

/-! ### A pass completes -/

/-- What a pass writes into the carry buffer that it does not read. -/
structure Carries (s0 : State) (p : Pass) (s t : State) : Prop where
  noted : Machine.noted t = Machine.noted s
  raises : Raises [] s t
  memory : ∀ a, (cfg s0).canvas.carryEnable ≠ 1 ∨ a < carryAddr s0 (!p.carryIn) 0 0 ∨
    carryAddr s0 (!p.carryIn) 0 (cfg s0).canvas.height ≤ a → rd t a = rd s a

theorem noted_wrBytes (s : State) (a : Nat) (l : List Byte) : noted (wrBytes s a l) = noted s := by
  unfold wrBytes
  obtain ⟨dr, h⟩ := wrRaw_memory s a l
  rw [h]; rfl

theorem foldl_bytes_length {β : Type} (g : β → List Byte × Bool) (n : Nat) (hg : ∀ x, (g x).1.length = n) (l : List β)
    (a : List Byte × Bool) :
    (l.foldl (fun (r : List Byte × Bool) x => (r.1 ++ (g x).1, r.2 || (g x).2)) a).1.length = a.1.length + n * l.length := by
  induction l generalizing a with
  | nil => simp
  | cons x l ih =>
    rw [List.foldl_cons, ih, List.length_append, hg, List.length_cons, Nat.mul_succ]
    omega

/-- A pixel of a line of carries: its two bytes, and whether it clipped. -/
def carryPx (s : State) (p : Pass) (y x : Nat) : List Byte × Bool :=
  (leBytes 2 ((passPx (fetched s p y) p x y).2.1.getD 0 0 + 16 * (passPx (fetched s p y) p x y).2.1.getD 1 0
    + 256 * (passPx (fetched s p y) p x y).2.1.getD 2 0), (passPx (fetched s p y) p x y).2.2)

/-- A line of carries: two bytes for each pixel. -/
def carryLine (s : State) (p : Pass) (y : Nat) (clip : Bool) : List Byte × Bool :=
  (List.range (cfg s).canvas.width).foldl (fun r x => (r.1 ++ (carryPx s p y x).1, r.2 || (carryPx s p y x).2)) ([], clip)

theorem passLine_eq (s0 : State) (p : Pass) (y : Nat) (x : State) (clip : Bool) : passLine s0 p y (x, clip) =
    (if (cfg s0).canvas.carryEnable = 1 then wrBytes x (carryAddr s0 (!p.carryIn) 0 y) (carryLine s0 p y clip).1 else x,
      (carryLine s0 p y clip).2) := rfl

theorem carryLine_length (s : State) (p : Pass) (y : Nat) (clip : Bool) :
    (carryLine s p y clip).1.length = 2 * (cfg s).canvas.width :=
  (foldl_bytes_length (carryPx s p y) 2 (fun _ => rfl) _ _).trans (by simp)

theorem Carries.refl (s0 : State) (p : Pass) (s : State) : Carries s0 p s s := ⟨rfl, .refl [] s, fun _ _ => rfl⟩

theorem Carries.trans {s0 a b c : State} {p : Pass} (h1 : Carries s0 p a b) (h2 : Carries s0 p b c) : Carries s0 p a c :=
  ⟨h2.noted.trans h1.noted, h1.raises.trans h2.raises, fun a ha => (h2.memory a ha).trans (h1.memory a ha)⟩

/-- Lines of one buffer follow one another. -/
theorem carryAddr_line (s : State) (b : Bool) (y : Nat) :
    carryAddr s b 0 y = carryAddr s b 0 0 + 2 * (y * (cfg s).canvas.width) := by
  simp [carryAddr]

theorem passLine_carries {s0 : State} {p : Pass} {y : Nat} (hy : y < (cfg s0).canvas.height) (a : State × Bool) :
    Carries s0 p a.1 (passLine s0 p y a).1 := by
  obtain ⟨x, clip⟩ := a
  rw [passLine_eq]
  dsimp only
  split
  · next he =>
    refine ⟨noted_wrBytes _ _ _, (wrBytes_uncounted _ _ _).raises [], fun b hb => rd_wrBytes_outside _ _ _ ?_⟩
    have hl : y * (cfg s0).canvas.width + (cfg s0).canvas.width ≤ (cfg s0).canvas.height * (cfg s0).canvas.width := by
      rw [← Nat.succ_mul]; exact Nat.mul_le_mul_right _ hy
    rw [carryLine_length]
    have h1 := carryAddr_line s0 (!p.carryIn) y
    have h2 := carryAddr_line s0 (!p.carryIn) (cfg s0).canvas.height
    rcases hb with hb | hb | hb
    · exact absurd he hb
    · left; omega
    · right; omega
  · exact .refl s0 p x

theorem passLines_carries (s0 : State) (p : Pass) (l : List Nat) (hl : ∀ y ∈ l, y < (cfg s0).canvas.height)
    (a : State × Bool) : Carries s0 p a.1 (l.foldl (fun a y => passLine s0 p y a) a).1 := by
  induction l generalizing a with
  | nil => exact .refl s0 p a.1
  | cons y l ih =>
    exact (passLine_carries (hl y (List.mem_cons_self ..)) a).trans (ih (fun y hy => hl y (List.mem_cons_of_mem _ hy)) _)

/-- The state of a pass that has written its last line. -/
def passEnd (s : State) (p : Pass) (z : List Nat) (x : State) : State :=
  { x with
    cmp := { x.cmp with pass := some { p with
      mode := .complete, line := (cfg s).canvas.height, zeroed := p.zeroed ++ z } },
    clr := { x.clr with carryRead := !p.carryIn } }

theorem takenWords_unarmed {s : State} (h : (srcAt s 0x21).armed = none) (t : State) : takenWords s t = [] := by
  have h' : (vget s.flt.srcs 0x21 {}).armed = none := h
  rw [takenWords, h']

theorem finishPass_eq (s : State) (p : Pass) : ∃ w x z, finishPass s p = passEnd s p z x ∧ Carries s p s w ∧
    Notes [0x21, 0x2A] w x ∧ ((srcAt s 0x21).armed = none → z = []) := by
  let lines := (List.range (cfg s).canvas.height).foldl (fun a y => passLine s p y a) (s, false)
  let s2 := passUes lines.1 p
  let n := ktcErrors s p (cfg s).canvas.height
  let s3 := if n = 0 then s2 else report (bumpBy s2 0x1F0018 n) { source := 0x2A }
  let s4 := if lines.2 then bump s3 0x300058 else s3
  have h2 : Notes [0x21, 0x2A] lines.1 s2 := passUes_notes _ _ (by simp)
  have h3 : Notes [0x21, 0x2A] s2 s3 := .ite _ (.refl _ _) ((bumpBy_notes _ _ (by decide)).trans (report_notes _ (by simp)))
  have h4 : Notes [0x21, 0x2A] s3 s4 := .ite _ (bump_notes _ (by decide)) (.refl _ _)
  exact ⟨lines.1, s4, takenWords s s2, rfl, passLines_carries s p _ (fun y hy => List.mem_range.mp hy) (s, false),
    (h2.trans h3).trans h4, fun h => takenWords_unarmed h _⟩

theorem storeReport_eq (s : State) (e : StoreError) (ce ue : Nat) : storeReport s e ce ue =
    match e with
    | .none => s
    | .corrected => report s { source := ce }
    | .uncorrectable => report s { source := ue } := by
  cases e <;> rfl

theorem noted_passEnd {s x : State} {p : Pass} {z : List Nat} (h : noted x = noted s) : noted (passEnd s p z x) = noted { s with
    cmp := { s.cmp with pass := some { p with
      mode := .complete, line := (cfg s).canvas.height, zeroed := p.zeroed ++ z } },
    clr := { s.clr with carryRead := !p.carryIn } } := by
  have hcmp : x.cmp = s.cmp := noted_eq (·.cmp) h
  have hclr : x.clr = s.clr := noted_eq (·.clr) h
  unfold passEnd
  rw [hcmp, hclr]
  exact congrArg (fun y : State => { y with
    cmp := { s.cmp with pass := some { p with
      mode := .complete, line := (cfg s).canvas.height, zeroed := p.zeroed ++ z } },
    clr := { s.clr with carryRead := !p.carryIn } }) h

theorem passDone_running {s : State} {p : Pass} (hp : s.cmp.pass = some p) (hm : p.mode = .running) (e : StoreError) :
    passDone s e = storeReport (verPortPasses (finishPass s p) p) e 0x32 0x33 := by
  simp [passDone, hp, hm]

theorem passDone_idle {s : State} (h : s.cmp.pass.all (fun p => p.mode != .running) = true) (e : StoreError) :
    passDone s e = s := by
  unfold passDone
  cases hp : s.cmp.pass with
  | none => rfl
  | some p =>
    rw [hp] at h
    have hm : (p.mode == .running) = false := by simpa [bne] using h
    simp [hm]

theorem composerDry_idle {s : State} (h : s.cmp.pass.all (fun p => p.mode != .running) = true) (layer line deadline : Nat) :
    composerDry s layer line deadline = s := by
  unfold composerDry
  cases hp : s.cmp.pass with
  | none => rfl
  | some p =>
    rw [hp] at h
    have hm : (p.mode == .running) = false := by simpa [bne] using h
    simp [hm]

theorem composerDry_free {s : State} {line : Nat} (h : ringRowFree s line = true) (deadline : Nat) :
    composerDry s 0xFE line deadline = s := by
  unfold composerDry
  split
  · simp [h]
  · rfl

/-- The end of the last line of a pass. -/
theorem exec_passComplete {s : State} {p : Pass} (e : StoreError) (h : Live s) (hp : s.cmp.pass = some p)
    (hm : p.mode = .running) : ∃ t z, exec (.passComplete e) s = .next t ∧
      t.cmp = { s.cmp with
        pass := some { p with mode := .complete, line := (cfg s).canvas.height, zeroed := p.zeroed ++ z } } ∧
      ((srcAt s 0x21).armed = none → z = []) ∧
      t.clr = { s.clr with carryRead := !p.carryIn } ∧ PinsDown s t ∧
      (e = .corrected → counted s t 0x32) ∧ (e = .uncorrectable → counted s t 0x33) ∧
      calm t = calm { s with
        cmp := t.cmp, clr := t.clr, ver := t.ver, lsd := t.lsd, pins := t.pins, lpe := t.lpe, plk := t.plk, rck := t.rck,
        hls := t.hls, mem := t.mem } ∧
      (∀ a, a < reservedBase s → (cfg s).canvas.carryEnable ≠ 1 ∨ a < carryAddr s (!p.carryIn) 0 0 ∨
        carryAddr s (!p.carryIn) 0 (cfg s).canvas.height ≤ a → rd t a = rd s a) := by
  obtain ⟨w, x, z, hfin, hcarry, hnotes, hz⟩ := finishPass_eq s p
  have hver := verPortPasses_notes (L := [0x21, 0x2A, 0xA0, 0xA1]) (finishPass s p) p (by simp) (by simp)
  have hrun := passDone_running hp hm e
  rw [hfin] at hver hrun
  generalize verPortPasses (passEnd s p z x) p = y at hver hrun
  have hn := hver.noted.trans (noted_passEnd (hnotes.noted.trans hcarry.noted))
  have hend : Raises [0x21, 0x2A, 0xA0, 0xA1] x (passEnd s p z x) := .same rfl
  have hraise : Raises [0x21, 0x2A, 0xA0, 0xA1] s y :=
    (((hcarry.raises.mono (by simp)).trans (hnotes.raises.mono (by simp))).trans hend).trans hver.raises
  have hdram : y.dram = w.dram := hver.dram.trans hnotes.dram
  have hstore : noted (storeReport y e 0x32 0x33) = noted y := by cases e <;> rfl
  have hmem : (storeReport y e 0x32 0x33).dram = w.dram := by cases e <;> exact hdram
  obtain ⟨t, ht, hends, hpins, hkeep⟩ := exec_unit_noted (i := .passComplete e) rfl h hrun (hstore.trans hn)
  have hcmp := (hends.reacts.eq (·.cmp)).trans (noted_eq (·.cmp) (hstore.trans hn))
  have hclr := (hends.reacts.eq (·.clr)).trans (noted_eq (·.clr) (hstore.trans hn))
  have hzero : ∀ src, src % 256 ≠ 0x12 → (∀ x ∈ [0x21, 0x2A, 0xA0, 0xA1], src % 256 ≠ x % 256) → reportsOf y.reports src = 0 := by
    intro src h12 hL
    rw [hraise.reports src h12 hL, h.reports]
    rfl
  refine ⟨t, z, ht, hcmp, hz, hclr, hpins, ?_, ?_, ?_, fun a ha hout => ?_⟩
  · rintro rfl
    exact Ends.counted_last (rep := { source := 0x32 }) hends (by decide) rfl (hzero _ (by decide) (by decide)) (hraise.tallies _)
  · rintro rfl
    exact Ends.counted_last (rep := { source := 0x33 }) hends (by decide) rfl (hzero _ (by decide) (by decide)) (hraise.tallies _)
  · rw [hcmp, hclr]
    exact hends.reacts.calm_noted (hstore.trans hn)
  · rw [hkeep a ha, rd, hmem]
    exact hcarry.memory a hout

/-! ### Highlight passes -/

theorem hlPassUes_notes {L : List Nat} (s : State) (p : HlPass) (bad : List Nat) (h : 0x21 ∈ L) :
    Notes L s (hlPassUes s p bad) := by
  unfold hlPassUes
  extract_lets s1
  have h1 : Notes L s s1 := .foldl _ (fun s n => .ite _ (readUe_notes s _ _ _ h) (dramUe_notes s _ _ _ _ h)) _ _
  split
  · exact h1
  · refine .ite _ h1 (h1.trans (.foldl _ (fun s e => .foldl _ (fun s d => ?_) _ _) _ _))
    exact .ite _ (.foldl _ (fun s r => readUe_notes s _ _ _ h) _ _) (.refl L s)

/-- A highlight pass with its set written. -/
def hlPassEnd (x : State) (p : HlPass) : State :=
  { x with hls := { x.hls with pass := none, passDone := true, passNs := (x.tsc - p.start) * 4 % 2 ^ 32 } }

theorem noted_hlPassEnd {s x : State} (h : noted x = noted s) (p : HlPass) : noted (hlPassEnd x p) = noted (hlPassEnd s p) := by
  have hhls : x.hls = s.hls := noted_eq (·.hls) h
  have htsc : x.tsc = s.tsc := noted_eq (·.tsc) h
  have hset : ∀ v : Hls, noted { x with hls := v } = noted { s with hls := v } :=
    fun v => congrArg (fun y : State => { y with hls := v }) h
  exact (hset _).trans (by rw [hhls, htsc]; rfl)

/-- The field sets lie in the reserved area (R145). -/
theorem reservedBase_le_fieldAddr (s : State) (set : Bool) (line i : Nat) : reservedBase s ≤ fieldAddr s set line i := by
  unfold fieldAddr fieldBase; omega

theorem hlPassWrite_eq (s : State) (p : HlPass) (bad : List Nat) : noted (hlPassWrite s p bad) = noted (hlPassEnd s p) ∧
    ∀ a, a < reservedBase s → rd (hlPassWrite s p bad) a = rd s a := by
  unfold hlPassWrite
  extract_lets vals x a s1 src s2
  have hx : Notes [0x21] s x := (hlPassUes_notes s p bad (by simp)).trans (bumpBy_notes _ _ (by decide))
  have hfuse : x.fuse = s.fuse := noted_eq (·.fuse) hx.noted
  have h1 : noted s1 = noted s := (noted_wrBytes _ _ _).trans hx.noted
  have htsc : x.tsc = s1.tsc := (noted_eq (·.tsc) hx.noted).trans (noted_eq (·.tsc) h1).symm
  have h2 : noted s2 = noted (hlPassEnd s p) := by
    rw [← noted_hlPassEnd h1 p]
    simp only [s2, htsc]
    rfl
  refine ⟨noted_ite _ h2 (h2 ▸ noted_report _ _), fun b hb => ?_⟩
  have hb1 : rd s1 b = rd s b := by
    rw [rd_wrBytes_outside]
    · rw [rd, rd, hx.dram]
    · left
      exact Nat.lt_of_lt_of_le (by rw [reservedBase_fuse hfuse]; exact hb) (reservedBase_le_fieldAddr x _ 0 0)
  split
  · exact hb1
  · exact hb1

/-- A highlight pass ends: its set is written, and its regions are judged. -/
theorem hlPassDone_eq {s : State} {p : HlPass} (hp : s.hls.pass = some p) (bad : List Nat) :
    noted (hlPassDone s bad) = noted (hlPassEnd s p) ∧ ∀ a, a < reservedBase s → rd (hlPassDone s bad) a = rd s a := by
  unfold hlPassDone
  rw [hp]
  dsimp only
  obtain ⟨hn, hm⟩ := hlPassWrite_eq s p (badSamples s bad)
  have hv := verPass_notes (L := [0xA0, 0xA1]) (hlPassWrite s p (badSamples s bad)) 6
    (hlRegionBytes s (hlValues s p (badSamples s bad)))
    (match s.cmp.pass with | some q => q.changed.getD 6 0 | none => 0)
    (match s.cmp.pass with | some q => q.frame | none => s.frame) (by simp) (by simp)
  exact ⟨hv.noted.trans hn, fun a ha => (congrArg (fun d => mapGet dramDefault d a) hv.dram).trans (hm a ha)⟩

theorem exec_highlightPassDone {s : State} {p : HlPass} (bad : List Nat) (errs : DramErrs) (h : Live s)
    (hp : s.hls.pass = some p) : ∃ t, exec (.highlightPassDone bad errs) s = .next t ∧ PinsDown s t ∧
      t.hls.pass = none ∧ t.hls.passDone = true ∧ t.hls.passNs = (s.tsc - p.start) * 4 % 2 ^ 32 ∧
      calm t = calm { s with
        ver := t.ver, lsd := t.lsd, pins := t.pins, lpe := t.lpe, plk := t.plk, rck := t.rck, hls := t.hls, mem := t.mem } ∧
      (∀ a, a < reservedBase s → rd t a = rd s a) := by
  have hmeet := meetErrors_notes (L := [0x20]) s errs 0x0B (by simp)
  have hpm : (meetErrors s errs 0x0B).hls.pass = some p := (noted_eq (·.hls.pass) hmeet.noted).trans hp
  obtain ⟨hdone, hmem⟩ := hlPassDone_eq hpm bad
  have hn := hdone.trans (noted_hlPassEnd hmeet.noted p)
  have hfuse : (meetErrors s errs 0x0B).fuse = s.fuse := noted_eq (·.fuse) hmeet.noted
  obtain ⟨t, ht, hends, hpins, hkeep⟩ := exec_unit_noted (i := .highlightPassDone bad errs) rfl h
    (if_pos (by rw [hp]; rfl)) hn
  have hls : ∀ {α : Type} (g : Hls → α), (∀ x y : State, unreacted x = unreacted y → g x.hls = g y.hls) →
      g t.hls = g (hlPassEnd s p).hls := fun g hg => (hg _ _ hends.rest).trans (congrArg g (noted_eq (·.hls) hn))
  refine ⟨t, ht, hpins, hls (·.pass) (fun x y h => congrArg (·.hls.pass) h), hls (·.passDone) (fun x y h => congrArg (·.hls.passDone) h),
    hls (·.passNs) (fun x y h => congrArg (·.hls.passNs) h), ?_, fun a ha => ?_⟩
  · exact (hends.reacts.calm_noted hn).trans rfl
  · rw [hkeep a ha, hmem a (by rw [reservedBase_fuse hfuse]; exact ha), rd, rd, hmeet.dram]

/-- Settles O59: a dry pass is counted and restarted or abandoned; the last line of a pass, or a highlight pass, writes its own
buffer, and notes the errors met. -/
theorem passesRestartAndComplete : Obligations.PassesRestartAndComplete := by
  unfold Obligations.PassesRestartAndComplete
  refine ⟨fun s layer line p h hp hm hl => ?dry, fun s layer line h hp => ?idle, fun s line h hf => ?free,
    fun s p e h hp hm => exec_passComplete e h hp hm, fun s e h hp => exec_unit_same (i := .passComplete e) rfl h (passDone_idle hp e),
    fun s p bad errs h hp => exec_highlightPassDone bad errs h hp, fun s bad errs h hp => ?noPass⟩
  case idle => exact exec_unit_same (i := .composerDry layer line) rfl h (composerDry_idle hp _ _ _)
  case free => exact exec_unit_same (i := .composerDry none line) rfl h (composerDry_free hf _)
  case noPass => exact exec_unit_same (i := .highlightPassDone bad errs) rfl h (if_neg (by rw [hp]; decide))
  case dry =>
    have hno : ∀ l : Nat, layer.elim 0xFE (·.val) = l → (l == 0xFE && ringRowFree s line) = false := by
      rintro l rfl
      cases layer with
      | none => simpa using hl
      | some n => simp; omega
    have hrun := composerDry_running hp hm (hno _ rfl) (lastDecision s)
    by_cases hd : s.tsc + passCycles s ≤ lastDecision s
    · rw [if_pos hd] at hrun
      obtain ⟨t, ht, hends, h30, hdry, hcmp, hpbu, hway, hcalm, hmem⟩ := exec_dry h hrun (runsDry_restart h.reports p line _) rfl
      exact ⟨t, ht, h30, hdry, fun _ => ⟨hcmp, hpbu, hway⟩, fun hlt => absurd hlt (Nat.not_lt.mpr hd),
        fun hk => hcalm (harmless_dryStart h.reports hk), hmem⟩
    · rw [if_neg hd] at hrun
      have hdrun := runsDry_abandon h.reports p line (layer.elim 0xFE (·.val))
      obtain ⟨t, ht, hends, h30, hdry, hcmp, hpbu, hway, hcalm, hmem⟩ := exec_dry h hrun hdrun rfl
      have h31 : counted s t 0x31 := hends.counted (by decide) (fun q hq _ => hdrun.real q hq) (reportsOf_abandon h.reports)
        (hdrun.tallies _)
      exact ⟨t, ht, h30, hdry, fun hle => absurd hle hd, fun _ => ⟨hcmp, hpbu, hway, h31⟩,
        fun hk => hcalm (harmless_dryStart h.reports hk), hmem⟩

end Sys2Proof.Machine
end


section
/-! Writes that clear, the end of a command that leaves the sources alone, and accesses of an odd size (R100, R106, R107, R114,
R501, R507). -/

namespace Sys2Proof.Machine

/-! ### A command that reports nothing but lost events spares every other source -/

/-- The source of lost events is the only one that `t` may have changed, in no state, PENDING bit or quiet count, and the only one that has
come to be reported. -/
structure Spares (s t : State) : Prop where
  srcs : ∀ i, i ≠ 0x12 → srcAt t i = srcAt s i
  marks : ∀ i, (srcAt t i).pending = (srcAt s i).pending ∧ (srcAt t i).mode = (srcAt s i).mode
  quiet : ∀ i, (srcAt t i).quiet = (srcAt s i).quiet
  quietFrom : t.flt.quietFrom = s.flt.quietFrom
  reports : ∀ q ∈ t.reports, q ∈ s.reports ∨ q = { source := 0x12 }

theorem Spares.refl (s : State) : Spares s s := ⟨fun _ _ => rfl, fun _ => ⟨rfl, rfl⟩, fun _ => rfl, rfl, fun _ h => .inl h⟩

theorem Spares.trans {a b c : State} (h1 : Spares a b) (h2 : Spares b c) : Spares a c :=
  ⟨fun i h => (h2.srcs i h).trans (h1.srcs i h),
    fun i => ⟨(h2.marks i).1.trans (h1.marks i).1, (h2.marks i).2.trans (h1.marks i).2⟩,
    fun i => (h2.quiet i).trans (h1.quiet i), h2.quietFrom.trans h1.quietFrom, fun q hq => (h2.reports q hq).elim (h1.reports q) .inr⟩

theorem Spares.ite {s a b : State} (c : Prop) [Decidable c] (ha : Spares s a) (hb : Spares s b) : Spares s (if c then a else b) := by
  split <;> assumption

theorem Spares.same {s t : State} (h : t.flt.srcs = s.flt.srcs) (hr : t.reports = s.reports)
    (hf : t.flt.quietFrom = s.flt.quietFrom := by rfl) : Spares s t :=
  have hs : ∀ i, srcAt t i = srcAt s i := fun i => by rw [srcAt, srcAt, h]
  ⟨fun i _ => hs i, fun i => by rw [hs i]; exact ⟨rfl, rfl⟩, fun i => by rw [hs i], hf, fun q hq => .inl (hr ▸ hq)⟩

theorem Mild.spares {s t : State} (h : Mild s t) : Spares s t :=
  have hs : ∀ i, srcAt t i = srcAt s i := fun i => by rw [srcAt, srcAt, h.flt]
  ⟨fun i _ => hs i, fun i => by rw [hs i]; exact ⟨rfl, rfl⟩, fun i => by rw [hs i], by rw [h.flt], h.reports⟩

theorem HostOnly.spares {s t : State} (h : HostOnly s t) : Spares s t := by
  have hr := h.reports
  obtain ⟨o, hm, ta, r, rfl⟩ := h.frame
  exact ⟨fun _ _ => rfl, fun _ => ⟨rfl, rfl⟩, fun _ => rfl, rfl, hr⟩

theorem modSrc_spares (s : State) (f : Src → Src) (hp : ∀ x, (f x).pending = x.pending ∧ (f x).mode = x.mode ∧ (f x).quiet = x.quiet) :
    Spares s (modSrc s 0x12 f) where
  srcs i hi := by rw [srcAt_modSrc, if_neg fun h => hi h.1.symm]
  marks i := by
    rw [srcAt_modSrc]
    split
    · exact ⟨(hp _).1, (hp _).2.1⟩
    · exact ⟨rfl, rfl⟩
  quiet i := by
    rw [srcAt_modSrc]
    split
    · exact (hp _).2.2
    · rfl
  quietFrom := rfl
  reports _ h := .inl h

theorem wrBytes_flt (s : State) (a : Nat) (l : List Byte) :
    (wrBytes s a l).flt = s.flt ∧ (wrBytes s a l).reports = s.reports := by
  unfold wrBytes
  obtain ⟨dr, h⟩ := wrRaw_memory s a l
  rw [h]
  exact ⟨rfl, rfl⟩

theorem logRecord_spares (s : State) (r : FaultRec) : Spares s (logRecord s r) := by
  unfold logRecord
  extract_lets s1 s2
  have h1 : Spares s s1 := .same rfl rfl
  have h2 : Spares s1 s2 := .ite _ (bump_mild _ _).spares (.refl _)
  have h3 : Spares s2 (extNote s2 r) := .same rfl rfl
  split
  · obtain ⟨hf, hr⟩ := wrBytes_flt (extNote s2 r) (reservedBase s + 0x3500000 + 32 * (r.seq % 32768)) (recBytes r)
    exact ((h1.trans h2).trans h3).trans (.same (congrArg Flt.srcs hf) hr (congrArg Flt.quietFrom hf))
  · exact h1

theorem publish_spares (s : State) (rc : FaultRec) (c : Bool) : Spares s (publish s rc c) := by
  unfold publish
  extract_lets s1
  have h1 : Spares s s1 := (bump_mild _ _).spares.trans (logRecord_spares _ _)
  exact .ite _ (bump_mild _ _).spares
    (.ite _ h1 ((h1.trans (post_mild _ _ _ _).spares).trans (signal_mild _ _).spares))

theorem captureFirst_spares (s : State) (rc : FaultRec) : Spares s (captureFirst s rc) := .ite _ (.same rfl rfl) (.refl s)

theorem countReport_spares (s : State) (r : Report) : Spares s (countReport s r) := by
  unfold countReport
  extract_lets s1 s2
  have h1 : Spares s s1 := (bump_mild _ _).spares
  have h2 : Spares s1 s2 := .ite _ (bump_mild _ _).spares (.refl _)
  exact (h1.trans h2).trans (.ite _ (bump_mild _ _).spares (.refl _))

/-- The record of a lost event. -/
theorem recordLost_spares (several : Bool) (s : State) {r : Report} (hr : r.source = 0x12) :
    Spares s (recordReport several s r) := by
  unfold recordReport
  extract_lets rc coal
  have h2 := (captureFirst_spares s rc).trans (countReport_spares _ r)
  refine (h2.trans ?_).trans (publish_spares _ _ _)
  have hcls : rc.cls = 0 := by
    have hcfg := sourceCfg_fixed (src := r.source) (e := (0x12, 0, 0)) (by rw [hr]; rfl) s
    exact congrArg (·.1) hcfg
  unfold noteSource enterFault
  rw [hr, hcls]
  extract_lets s1
  have h1 : Spares _ s1 := modSrc_spares _ _ fun _ => ⟨rfl, rfl, rfl⟩
  exact .ite _ h1 (h1.trans (modSrc_spares _ _ fun _ => ⟨by simp, rfl, rfl⟩))

/-- Every report that waits is of a lost event. -/
def onlyLost (s : State) : Prop := ∀ q ∈ s.reports, q.source = 0x12 ∧ q.reactionAs = none

theorem Spares.onlyLost {s t : State} (h : Spares s t) (hs : Machine.onlyLost s) : Machine.onlyLost t := by
  intro q hq
  rcases h.reports q hq with hq | rfl
  · exact hs q hq
  · exact ⟨rfl, rfl⟩

theorem onlyLost_harmless {s : State} (h : onlyLost s) : harmless s := by
  intro r hr hn
  obtain ⟨hs, -⟩ := h r hr
  have hcfg := sourceCfg_fixed (src := r.source) (e := (0x12, 0, 0)) (by rw [hs]; rfl) s
  simp [reactionOf, hn, hcfg]

theorem foldl_spares {s : State} (l : List Report) (several : Bool) (h : ∀ q ∈ l, q.source = 0x12) :
    Spares s (l.foldl (recordReport several) s) := by
  induction l generalizing s with
  | nil => exact .refl s
  | cons r l ih =>
    exact (recordLost_spares several s (h r (List.mem_cons_self ..))).trans (ih fun q hq => h q (List.mem_cons_of_mem _ hq))

theorem collectOnce_spares {s : State} (h : onlyLost s) : Spares s (collectOnce s) := by
  unfold collectOnce
  extract_lets l s1
  have hl : ∀ q ∈ l, q.source = 0x12 ∧ q.reactionAs = none :=
    orderReports_forall (P := fun q => q.source = 0x12 ∧ q.reactionAs = none) (fun _ hq => hq) s _ h
  have hr := records_reacts s (decide (2 ≤ l.length)) l
  have h1 : Spares { s with reports := [] } s1 := foldl_spares l _ fun q hq => (hl q hq).1
  have hnone : applyReactions s1 l = s1 := applyReactions_none fun q hq hn => by
    have hcfg := sourceCfg_fixed (src := q.source) (e := (0x12, 0, 0)) (by rw [(hl q hq).1]; rfl) s1
    simp [reactionOf, hn, hcfg]
  rw [hnone]
  exact ⟨fun i hi => h1.srcs i hi, fun i => h1.marks i, fun i => h1.quiet i, h1.quietFrom, fun q hq => (h1.reports q hq).elim (fun hq => absurd hq (by simp)) .inr⟩

theorem collectN_spares (n : Nat) {s : State} (h : onlyLost s) : Spares s (collectN n s) := by
  induction n generalizing s with
  | zero => exact ⟨fun _ _ => rfl, fun _ => ⟨rfl, rfl⟩, fun _ => rfl, rfl, fun q hq => absurd hq (by simp [collectN])⟩
  | succ n ih =>
    unfold collectN
    split
    · exact .refl s
    · have h1 := collectOnce_spares h
      exact h1.trans (ih (h1.onlyLost h))

/-- Where the units stand as before, settling is the collector's work. -/
theorem settle_units {b x : State} (ha : x.img.act = none) (hp : (collect x).plk = b.plk)
    (hm : (collect x).hls.mode = b.hls.mode) (ht : (collect x).thm.stop = b.thm.stop)
    (hb : (collect x).lsd.bank = b.lsd.bank) : settle b x = collect x := by
  have hact : (collect x).img.act = none := by rw [(collect_reacts x).act]; exact ha
  have hq := collect_quiet (collect_reports x)
  simp only [settle, activationFatal_none hact, hq, ite_self, exitConditions_quiet hp hm ht (rearmed_same hb)]

/-- The end of a command that left the units alone, and reports nothing but lost events, is the record of these. -/
theorem finish_lost {a r : State} (ha : r.img.act = none) (w : noWait r) (h : onlyLost r) (hp : r.plk = a.plk)
    (hm : r.hls.mode = a.hls.mode) (ht : r.thm.stop = a.thm.stop) (hb : r.lsd.bank = a.lsd.bank) :
    finish a r = withQueue (collect r) a.pending := by
  have hrec : Records r (collect r) := collect_records (onlyLost_harmless h)
  have hact : (collect r).img.act = none := by rw [(collect_reacts r).act]; exact ha
  have hcp : (collect r).plk = r.plk := calm_eq (·.plk) hrec.calm
  have hch : (collect r).hls.mode = r.hls.mode := calm_eq (·.hls.mode) hrec.calm
  have hct : (collect r).thm.stop = r.thm.stop := calm_eq (·.thm.stop) hrec.calm
  have hcb : (collect r).lsd.bank = r.lsd.bank := calm_eq (·.lsd.bank) hrec.calm
  have h1 : settle a r = collect r := settle_units ha (hcp.trans hp) (hch.trans hm) (hct.trans ht) (hcb.trans hb)
  have hq : collect (collect r) = collect r := collect_quiet (collect_reports r)
  have h2 : settle (collect r) (collect r) = collect r :=
    (settle_units hact (by rw [hq]) (by rw [hq]) (by rw [hq]) (by rw [hq])).trans hq
  unfold finish
  rw [h1]
  dsimp only
  rw [startWaiting_quiet _ (hrec.keeps.waits w), h2]

theorem finish_spares {a r : State} (ha : r.img.act = none) (w : noWait r) (h : onlyLost r) (hp : r.plk = a.plk)
    (hm : r.hls.mode = a.hls.mode) (ht : r.thm.stop = a.thm.stop) (hb : r.lsd.bank = a.lsd.bank) : Spares r (finish a r) := by
  rw [finish_lost ha w h hp hm ht hb]
  have hc : Spares r (collect r) := collectN_spares 4 h
  exact ⟨hc.srcs, hc.marks, hc.quiet, hc.quietFrom, hc.reports⟩

/-! ### FLT_PENDING (R507) -/

/-- What the clear of its PENDING bit makes of a source. -/
def clearSrc (x : Src) : Src :=
  if x.pending then { x with pending := false, mode := if x.mode == .fatal then .clear else x.mode } else x

/-- One bit of the write. -/
def pendingStep (n : Nat) (s : State) (i : Nat) : State :=
  let x := srcAt s (32 * n + i)
  if x.pending then
    let s1 := modSrc s (32 * n + i) (fun x => { x with pending := false })
    if x.mode == .fatal then postRecovered (modSrc s1 (32 * n + i) (fun x => { x with mode := .clear })) (32 * n + i) 2 0 else s1
  else s

theorem pendingClear_eq (s : State) (n v : Nat) : pendingClear s n v = forMask 32 v (pendingStep n) s := rfl

theorem srcAt_post2 (s : State) (c u : Nat) (p : List Byte) (i : Nat) : srcAt (post2 s c u p) i = srcAt s i := by
  rw [srcAt, srcAt, (post2_mild s c u p).flt]

theorem srcAt_pendingStep {n i : Nat} (h : 32 * n + i < 256) (s : State) (j : Nat) :
    srcAt (pendingStep n s i) j = if 32 * n + i = j then clearSrc (srcAt s j) else srcAt s j := by
  unfold pendingStep
  extract_lets x s1
  by_cases hj : 32 * n + i = j
  · subst hj
    cases hp : (srcAt s (32 * n + i)).pending
    · simp [hp, clearSrc]
    · cases hm : ((srcAt s (32 * n + i)).mode == .fatal) <;>
        simp [hp, hm, clearSrc, s1, postRecovered, srcAt_post2, srcAt_modSrc, h]
  · split
    · split <;> simp [s1, postRecovered, srcAt_post2, srcAt_modSrc, hj]
    · simp

theorem pendingStep_loose (n : Nat) (s : State) (i : Nat) : Loose s (pendingStep n s i) := by
  unfold pendingStep
  extract_lets x s1
  have h1 : Loose s s1 := .units
  exact .ite _ (.ite _ (h1.trans (b := s1) ((Loose.units (t := modSrc s1 (32 * n + i) (fun x => { x with mode := .clear }))).trans
    (post2_mild _ _ _ _).toLoose)) h1) (.refl s)

theorem calm_pendingStep (n : Nat) (s : State) (i : Nat) : calm (pendingStep n s i) = calm s := by
  unfold pendingStep
  extract_lets x s1
  have h1 : calm s1 = calm s := rfl
  exact calm_ite _ (calm_ite _ ((calm_post2 _ _ _ _).trans h1) h1) rfl

/-- The first `k` bits of the write. -/
theorem srcAt_pendingSteps (n : Fin 8) (v k : Nat) (hk : k ≤ 32) (s : State) (i : Nat) (hi : i < 32) :
    srcAt (forN k (fun s i => if bitAt v i then pendingStep n.val s i else s) s) (32 * n.val + i) =
      if i < k ∧ bitAt v i = true then clearSrc (srcAt s (32 * n.val + i)) else srcAt s (32 * n.val + i) := by
  induction k with
  | zero => simp [forN]
  | succ k ih =>
    have hstep : forN (k + 1) (fun s i => if bitAt v i then pendingStep n.val s i else s) s =
        (fun s i => if bitAt v i then pendingStep n.val s i else s)
          (forN k (fun s i => if bitAt v i then pendingStep n.val s i else s) s) k := by
      simp [forN, List.range_succ]
    rw [hstep]
    have ih := ih (by omega)
    generalize forN k (fun s i => if bitAt v i then pendingStep n.val s i else s) s = x at ih
    dsimp only
    by_cases hik : k = i
    · subst hik
      cases hb : bitAt v k
      · simpa [hb] using ih
      · have hlt : 32 * n.val + k < 256 := by have := n.isLt; omega
        simp [srcAt_pendingStep hlt, ih]
    · have hne : ¬ 32 * n.val + k = 32 * n.val + i := by omega
      have hlt : i < k + 1 ↔ i < k := by omega
      simp only [hlt]
      rw [← ih]
      split
      · rw [srcAt_pendingStep (by have := n.isLt; omega), if_neg hne]
      · rfl

/-- Sources of the other words stay. -/
theorem pendingClear_src (n : Fin 8) (v : Nat) (s : State) (i : Nat) (hi : i < 32) :
    srcAt (pendingClear s n.val v) (32 * n.val + i) =
      if bitAt v i = true then clearSrc (srcAt s (32 * n.val + i)) else srcAt s (32 * n.val + i) := by
  rw [pendingClear_eq, forMask, srcAt_pendingSteps n v 32 (Nat.le_refl 32) s i hi]
  simp only [hi, true_and]

theorem pendingClear_loose (s : State) (n v : Nat) : Loose s (pendingClear s n v) := by
  rw [pendingClear_eq]
  exact .forN 32 _ (fun s i => .ite _ (pendingStep_loose n s i) (.refl s)) s

theorem calm_pendingClear (s : State) (n v : Nat) : calm (pendingClear s n v) = calm s :=
  calm_forMask 32 v _ (calm_pendingStep n) s

theorem blockOf_pending : ∀ n : Fin 8, blockOf (0x40040 + 4 * n.val) = .flt := by decide

theorem fltWrite_pending (s : State) (n : Fin 8) (v : Nat) : fltWrite s (0x40040 + 4 * n.val) v = pendingClear s n.val v := by
  have hn := n.isLt
  unfold fltWrite
  rw [if_pos (by omega), show (0x40040 + 4 * n.val - 0x40040) / 4 = n.val by omega]

theorem clearSrc_pending (x : Src) : (clearSrc x).pending = false ∧ (x.pending = true → (clearSrc x).mode ≠ .fatal) := by
  unfold clearSrc
  cases hp : x.pending
  · simp [hp]
  · cases hm : x.mode <;> simp

/-- A write of FLT_PENDING_n (R507). -/
theorem exec_pendingClear {s : State} {q : Requester} {n : Fin 8} {v : BitVec 32} (h : Awake s) (hreach : reaches s q = true)
    (hr : writeRefusal s q (0x40040 + 4 * n.val) v.toNat = none) : ∃ t, exec (.pendingClear q n v) s = .next t ∧
      Spares (pendingClear s n.val v.toNat) t ∧ calm t = calm s := by
  have hw : writeBy s q (0x40040 + 4 * n.val) v.toNat true = pendingClear s n.val v.toNat := by
    rw [writeBy_accepted hreach hr, writeEffect, blockOf_pending]
    exact fltWrite_pending s n _
  have hc := calm_pendingClear s n.val v.toNat
  have hl := pendingClear_loose s n.val v.toNat
  generalize pendingClear s n.val v.toNat = r at hw hc hl ⊢
  have hact : r.img.act = none := ((calm_eq (·.img.act) hc :) : r.img.act = s.img.act).trans h.act
  have hpend : r.pending = s.pending := calm_eq (·.pending) hc
  have hlost : onlyLost r := fun q hq => by
    rcases hl.reports q hq with hq | rfl
    · rw [h.reports] at hq; cases hq
    · exact ⟨rfl, rfl⟩
  obtain ⟨t, ht, hrec, -⟩ := hostEvent_records (fun s => writeBy s q (0x40040 + 4 * n.val) v.toNat true) h.power hw hact
    (hl.noWait h.waits) (onlyLost_harmless hlost) hpend
  have hsp : Spares r (finish s r) := finish_spares hact (hl.noWait h.waits) hlost (calm_eq (·.plk) hc)
    (calm_eq (·.hls.mode) hc) (calm_eq (·.thm.stop) hc) (calm_eq (·.lsd.bank) hc)
  rw [hostEvent_up h.power, hw] at ht
  refine ⟨t, ?_, ht ▸ hsp, hrec.calm.trans hc⟩
  show Host.Outcome.next (hostEvent s (fun s => writeBy s q (0x40040 + 4 * n.val) v.toNat true)) = _
  rw [hostEvent_up h.power, hw, ht]

/-! ### Accesses of an odd size (R100) -/

/-- The access record after an access to BAR0 that R100 does not accept. -/
def accessGlb (g : Glb) (w : Bool) (addr fb lb len : Nat) : Glb :=
  if g.accValid then { g with accMulti := true } else { g with
    accValid := true, accMulti := false, accWrite := w, accBar4 := false, accFirstBe := fb,
    accLastBe := lb, accLength := len, accAddr := addr }

theorem accessError_eq (s : State) (rid : Nat) (w : Bool) (addr fb lb len : Nat) : accessError s rid false w addr fb lb len =
    report (bump { s with glb := accessGlb s.glb w addr fb lb len } 0x30)
      { source := 0x10, address := addr, master := rid, access := (if w then 0x11 else 0x12), lengthDw := len % 256 } := by
  unfold accessError accessGlb
  split <;> rfl

theorem exec_accessSize {s : State} {rid : BitVec 16} {w : Bool} {off : BitVec 26} {fb lb : BitVec 4} {n : BitVec 12}
    {v : BitVec 64} (h : Awake s) (hreach : reaches s .pcie = true) (ho : oneDw fb lb n = false) :
    ∃ t, exec (.accessSize rid .bar0 w off fb lb n v) s = .next t ∧ counted s t 0x10 ∧
      tally t 0x30 = min (tally s 0x30 + 1) tallyMax ∧
      t.glb = accessGlb s.glb w (off.toNat / 4 * 4) fb.toNat lb.toNat n.toNat ∧
      (w = false → Output.readData (List.replicate (4 * n.toNat) 0) false ∈ t.outs) ∧
      calm t = calm { s with glb := t.glb } ∧ (∀ a, a < reservedBase s → rd t a = rd s a) := by
  obtain ⟨hr, hlink⟩ : pcieReaches s = true ∧ s.hmi.linkUp = true := by simpa [reaches] using hreach
  let x := bump { s with glb := accessGlb s.glb w (off.toNat / 4 * 4) fb.toNat lb.toNat n.toNat } 0x30
  let rep : Report := { source := 0x10, address := off.toNat / 4 * 4, master := rid.toNat, access := (if w then 0x11 else 0x12), lengthDw := n.toNat % 256 }
  let r := if w then report x rep else emit (report x rep) (.readData (List.replicate (4 * n.toNat) 0) false)
  have hf : (if oneDw fb lb n then s else pcieAccess s (fun s =>
      if msixQword .bar0 off.toNat fb.toNat lb.toNat n.toNat then msixAccess s w off.toNat v.toNat else
      let s1 := accessError s rid.toNat (Bar.bar0 == .bar4) w (off.toNat / 4 * 4) fb.toNat lb.toNat n.toNat
      if w then s1 else emit s1 (.readData (List.replicate (4 * n.toNat) 0) false))) = r := by
    simp only [ho, Bool.false_eq_true, if_false, pcieAccess, hr, if_true, pcieUp, hlink]
    exact congrArg (fun z => if w then z else emit z (.readData (List.replicate (4 * n.toNat) 0) false))
      (accessError_eq s rid.toNat w (off.toNat / 4 * 4) fb.toNat lb.toNat n.toNat)
  have hglb : x.glb = accessGlb s.glb w (off.toNat / 4 * 4) fb.toNat lb.toNat n.toNat :=
    (calm_eq (·.glb) (calm_bump { s with glb := accessGlb s.glb w (off.toNat / 4 * 4) fb.toNat lb.toNat n.toNat } 0x30) :)
  have hcalm : calm x = calm { s with glb := x.glb } := by rw [hglb]; exact calm_bump _ _
  have hmild := bump_mild { s with glb := accessGlb s.glb w (off.toNat / 4 * 4) fb.toNat lb.toNat n.toNat } 0x30
  have hcount := tally_bump { s with glb := accessGlb s.glb w (off.toNat / 4 * 4) fb.toNat lb.toNat n.toNat } 0x30 rfl
  have hraise : Raises [] { s with glb := accessGlb s.glb w (off.toNat / 4 * 4) fb.toNat lb.toNat n.toNat } x :=
    bump_raises _ (by decide)
  have hrr : r.reports = x.reports ++ [rep] := by cases w <;> rfl
  have hrc : calm r = calm x := by cases w <;> rfl
  have hrt : r.tallies = x.tallies := by cases w <;> rfl
  have hrd : r.dram = s.dram := (by cases w <;> rfl : r.dram = x.dram).trans hmild.dram
  have hrw : noWait r := by cases w <;> exact hmild.toLoose.noWait h.waits
  have hro : w = false → Output.readData (List.replicate (4 * n.toNat) 0) false ∈ r.outs := by
    rintro rfl
    exact List.mem_cons_self ..
  have hharm : harmless r := by
    have hx : harmless (report x rep) := harmless_fixed (hmild.toLoose.harmless h.reports) rfl
    cases w <;> exact hx
  clear_value r
  have hact : r.img.act = s.img.act := (calm_eq (·.img.act) (hrc.trans hcalm) :)
  have hpend : r.pending = s.pending := (calm_eq (·.pending) (hrc.trans hcalm) :)
  have hrg : r.glb = x.glb := calm_eq (·.glb) hrc
  have hfuse : r.fuse = s.fuse := (calm_eq (·.fuse) (hrc.trans hcalm) :)
  obtain ⟨t, ht, hends⟩ := exec_host_ends (i := .accessSize rid .bar0 w off fb lb n v) rfl h hf hrw hact hpend
  have hz : reportsOf x.reports 0x10 = 0 := by
    rw [hraise.reports 0x10 (by decide) (by simp)]
    show reportsOf s.reports 0x10 = 0
    rw [h.reports]; rfl
  have hk := hends.reacts.keeps
  have htg : t.glb = accessGlb s.glb w (off.toNat / 4 * 4) fb.toNat lb.toNat n.toNat :=
    (hends.reacts.eq (·.glb)).trans (hrg.trans hglb)
  refine ⟨t, ht, hends.counted (by decide) (fun q hq hs => ?_) ?_ ?_, ?_, htg, fun hw => ?_, ?_, fun a ha => ?_⟩
  · rw [hrr] at hq
    rcases List.mem_append.mp hq with hq | hq
    · exact absurd hs ((reportsOf_eq_zero_iff _ _).mp hz q hq)
    · rw [List.mem_singleton.mp hq]
  · rw [hrr, reportsOf_append, hz]; rfl
  · exact (congrArg (fun ta => (mapGet (fun _ => (0 : Word)) ta (srcBase 0x10 + 8)).toNat) hrt).trans (hraise.tallies 0x10)
  · rw [hk.tallies _ rfl]
    exact (congrArg (fun ta => (mapGet (fun _ => (0 : Word)) ta 0x30).toNat) hrt).trans hcount
  · exact hk.outs.subset (hro hw)
  · rw [(hends.records hharm).calm, hrc, hcalm, htg, hglb]
  · rw [hk.reserved (by rw [reservedBase_fuse hfuse]; exact ha), rd, rd, hrd]

/-! ### O16 -/

/-- A register write of GLB or of the fault collector whose effect is on state that the end of a command does not look at. -/
theorem exec_write_host {i : Instr} {s r : State} {q : Requester} {off v : Nat} {ok : Bool}
    (hi : exec i s = .next (hostEvent s (fun s => writeBy s q off v ok))) (h : Awake s) (hf : writeBy s q off v ok = r)
    (hq : Quiet s r) (hp : r.pending = s.pending := by rfl) : exec i s = .next r :=
  exec_host_quiet hi h hf hq hp

theorem writeRefusal_lock_pcie (s : State) (pec : Bool) : writeRefusal s .pcie 0x38 (1 + 2 * b2n pec) = none := by
  have hpath : pathRefusal s .pcie 0x38 = none := by
    have hearly : earlyWrite s .pcie 0x38 = true := rfl
    simp only [pathRefusal, hearly, Bool.not_true, Bool.and_false]
    rfl
  have hdom : domainOff s 0x38 = false := domainOff_glb s (by decide)
  cases pec <;> simp only [writeRefusal, hpath, hdom] <;> rfl

theorem writeRefusal_lock_smbus (s : State) (pec : Bool) :
    writeRefusal s .smbus 0x38 (1 + 2 * b2n pec) = some .badState := by
  cases pec <;> rfl

theorem reject_valid (s : State) (q : Requester) (off : Nat) (e : Status) : (reject s q false off e).glb.errValid = true := by
  unfold reject
  split
  · next h => exact h
  · rfl

theorem reject_frame (s : State) (q : Requester) (off : Nat) (e : Status) :
    reject s q false off e = { s with glb := (reject s q false off e).glb } ∧
    (reject s q false off e).glb.writeLock = s.glb.writeLock ∧ (reject s q false off e).glb.pecReq = s.glb.pecReq := by
  unfold reject
  split <;> exact ⟨rfl, rfl, rfl⟩

/-- Settles O16: each of these writes is one change of its record; a write of FLT_PENDING_n is the same of each of its bits. -/
theorem clearingWritesAndAccessSizes : Obligations.ClearingWritesAndAccessSizes := by
  unfold Obligations.ClearingWritesAndAccessSizes
  refine ⟨fun s q h hreach => ?err, fun s q h hreach hr => ?acc, fun s q h hreach hr => ?first, fun s pec h hreach => ?lock,
    fun s pec h hreach => ?locked, fun s q n v h hreach hr => ?pending,
    fun s rid w off fb lb n v h hreach ho => exec_accessSize h hreach ho⟩
  case err =>
    exact exec_write_host (i := .glbErrClear q) rfl h (writeBy_accepted hreach rfl true) h.toSteady.quiet
  case acc =>
    exact exec_write_host (i := .glbAccessErrClear q) rfl h (writeBy_accepted hreach hr true) h.toSteady.quiet
  case first =>
    exact exec_write_host (i := .firstErrorClear q) rfl h (writeBy_accepted hreach hr true) h.toSteady.quiet
  case lock =>
    have hw : writeBy s .pcie 0x38 (1 + 2 * b2n pec) true = { s with glb := { s.glb with pecReq := pec, writeLock := true } } := by
      rw [writeBy_accepted hreach (writeRefusal_lock_pcie s pec)]
      have hor : (s.glb.writeLock || true) = true := Bool.or_true _
      cases pec <;> exact congrArg (fun b => ({ s with glb := { s.glb with pecReq := _, writeLock := b } } : State)) hor
    exact exec_write_host (i := .writeLock .pcie pec) rfl h hw h.toSteady.quiet
  case locked =>
    have hw : writeBy s .smbus 0x38 (1 + 2 * b2n pec) true = _ :=
      writeBy_refused hreach (writeRefusal_lock_smbus s pec) true
    obtain ⟨hframe, hlock, hpec⟩ := reject_frame s .smbus 0x38 .badState
    rw [hframe] at hw
    refine ⟨_, exec_write_host (i := .writeLock .smbus pec) rfl h hw h.toSteady.quiet, rfl, hlock, hpec, reject_valid _ _ _ _,
      fun he => ?_⟩
    rw [reject_first he]
    exact ⟨rfl, rfl⟩
  case pending =>
    obtain ⟨t, ht, hsp, hcalm⟩ := exec_pendingClear h hreach hr
    refine ⟨t, ht, fun i hi hb => ?_, fun i hi hb hne => ?_, hcalm⟩
    · obtain ⟨hp, hm⟩ := hsp.marks (32 * n.val + i)
      rw [hp, hm, pendingClear_src n _ s i hi, if_pos hb]
      exact clearSrc_pending _
    · rw [hsp.srcs _ (by omega), pendingClear_src n _ s i hi, if_neg (by simp [hb])]

end Sys2Proof.Machine
end


section
/-! Register writes that start something: the ST 2084 peak, a channel's target, the FSYNC mode (R211, R402, R463). -/

namespace Sys2Proof.Machine

/-- What an accepted write has passed (R132). -/
structure WritePasses (s : State) (off v : Nat) : Prop where
  present : absentAt s off = false
  limits : limitsOk s off v = true
  free : barred s off v = false

theorem writePasses_of {s : State} {q : Requester} {off v : Nat} (hc : isErrClear off v = false)
    (h : writeRefusal s q off v = none) : WritePasses s off v := by
  simp only [writeRefusal, hc, Bool.false_eq_true, if_false] at h
  split at h
  · cases h
  · split at h
    · cases h
    · next ha =>
      split at h
      · cases h
      · split at h
        · cases h
        · next hl =>
          split at h
          · cases h
          · next hb =>
            simp only [Bool.or_eq_true, not_or, Bool.not_eq_true, Bool.not_eq_true'] at ha hl hb
            exact ⟨ha.1, by simpa using hl.2, hb⟩

theorem calTarget_at {n : Nat} (h : n < 73) : calTarget (0x71004 + 32 * n) = some n := by
  unfold calTarget
  rw [if_pos (by omega)]
  congr 1
  omega

theorem blockOf_calTarget {n : Nat} (h : n < 73) : blockOf (0x71004 + 32 * n) = .cal := by
  unfold blockOf
  repeat rw [if_neg (by omega)]
  rw [if_pos (by omega)]

/-- A target that R463 refuses is refused as a write: the channel stands within the limits, is there, and no run has it. -/
theorem writeCalTarget_accepted {s : State} {q : Requester} {n v : Nat} (hn : n < 73)
    (h : writeRefusal s q (0x71004 + 32 * n) v = none) : ∃ t, writeCalTarget s n v = .ok t := by
  have hc : isErrClear (0x71004 + 32 * n) v = false := by simp [isErrClear]; omega
  obtain ⟨ha, hl, hb⟩ := writePasses_of hc h
  cases hw : writeCalTarget s n v with
  | ok t => exact ⟨t, rfl⟩
  | error e =>
    exfalso
    have hr : calRefusal s n v = some e := by rw [calRefusal, hw]
    simp only [limitsOk, barred, blockOf_calTarget hn, calTarget_at hn, hr] at hl hb
    simp only [absentAt, blockOf_calTarget hn] at ha
    have hi : (0x71004 + 32 * n - 0x71000) / 32 = n := by omega
    rw [hi] at ha
    unfold writeCalTarget at hw
    extract_lets g o at hw
    split at hw
    · cases hw; simp at hl
    · next hdef =>
      split at hw
      · next hp =>
        have hlt : 0x71000 ≤ 0x71004 + 32 * n ∧ 0x71004 + 32 * n < 0x71920 := by omega
        simp_all
      · split at hw
        · cases hw; simp at hl
        · split at hw
          · cases hw; simp at hb
          · cases hw

/-- A channel with its ramp begun. -/
def calStarted (s : State) (n v : Nat) : State := modCal (calRetarget s n (bits v 31 16) (signed 16 (bits v 15 0))) n
  (fun c => { c with result := 5 })

theorem writeCalTarget_ok {s t : State} {n v : Nat} (h : writeCalTarget s n v = .ok t) : t = calStarted s n v := by
  unfold writeCalTarget at h
  extract_lets g o at h
  repeat (split at h; · cases h)
  exact (Except.ok.inj h).symm

theorem calCh_calStarted {s : State} {n : Nat} (hn : n < 73) (v m : Nat) : calCh (calStarted s n v) m =
    if n = m then { calCh s n with
      tGain := bits v 31 16, tOff := signed 16 (bits v 15 0), fGain := (calCh s n).aGain,
      fOff := (calCh s n).aOff, step := some 0, stepAt := s.tsc, result := 5 } else calCh s m := by
  have hr : ∀ m, calCh (calRemember s n) m = calCh s m := fun _ => rfl
  unfold calStarted calRetarget
  rw [calCh_modCal, calCh_modCal, hr]
  by_cases hm : n = m
  · subst hm
    simp [hn]
  · simp [hm]

/-- Settles O17: each write is its plain write or its own start. -/
theorem writesThatStartSomething : Obligations.WritesThatStartSomething := by
  unfold Obligations.WritesThatStartSomething
  refine ⟨fun s q v h hreach hr => ?peak, fun s h hb => ?regen, fun s q n v h hreach hn hr => ?target,
    fun s q v h hreach hr => ?mode⟩
  case peak =>
    have hw : writeBy s q 0x300004 v.toNat true = { setReg s 0x300004 (plainValue s 0x300004
        ⟨0x300004, [], 0xffff, 0xffff, 0x0, 0x0, 0x0, false, 0x3e8⟩ v.toNat) with clr := { s.clr with pqBusy := true } } := by
      rw [writeBy_accepted hreach hr]
      have hp := plainWrite_row (off := 0x300004) (r := ⟨0x300004, [], 0xffff, 0xffff, 0x0, 0x0, 0x0, false, 0x3e8⟩) rfl s v.toNat
      exact congrArg (fun x : State => { x with clr := { x.clr with pqBusy := true } }) hp
    exact exec_write_host (i := .pqPeakWrite q v) rfl h hw h.toSteady.quiet
  case regen => exact exec_unit_quiet (i := .pqRegenDone) rfl h (if_pos hb) h.toSteady.quiet
  case target =>
    obtain ⟨t, hok⟩ := writeCalTarget_accepted hn hr
    have hw : writeBy s q (0x71004 + 32 * n.val) v.toNat true = calStarted s n.val v.toNat := by
      rw [writeBy_accepted hreach hr, ← writeCalTarget_ok hok]
      simp only [writeEffect, blockOf_calTarget hn, calTarget_at hn, hok]
    refine ⟨_, exec_write_host (i := .calTargetWrite q n v) rfl h hw h.toSteady.quiet, rfl, fun m hm => ?_, ?_⟩
    · rw [calCh_calStarted hn, if_neg (Ne.symm hm)]
    · rw [calCh_calStarted hn, if_pos rfl]
  case mode =>
    have hw : writeBy s q 0xD00200 v.toNat true = setReg s 0xD00200 (plainValue s 0xD00200
        ⟨0xd00200, [], 0x3, 0x0, 0x3, 0x0, 0x0, false, 0x0⟩ v.toNat) := by
      rw [writeBy_accepted hreach hr]
      exact plainWrite_row (off := 0xD00200) (r := ⟨0xd00200, [], 0x3, 0x0, 0x3, 0x0, 0x0, false, 0x0⟩) rfl s v.toNat
    exact exec_write_host (i := .syncModeWrite q v) rfl h hw h.toSteady.quiet

end Sys2Proof.Machine
end


section
/-! The management port (R111–R116). -/

namespace Sys2Proof.Machine

variable {s : State}

theorem smbBlockWrite_good {f : State → State} {pec : Pec} (h : reaches s .smbus = true) (hp : pecBad s pec = false) :
    smbBlockWrite s 4 pec f = emit (f s) (.smbus (some []) none) := by
  have hs : smbAnswers s = true := h
  simp [smbBlockWrite, hs, hp]

theorem smbBlockWrite_count {f : State → State} {pec : Pec} {n : Nat} (h : reaches s .smbus = true) (hn : n ≠ 4) :
    smbBlockWrite s n pec f = emit s (.smbus none none) := by
  have hs : smbAnswers s = true := h
  simp [smbBlockWrite, hs, hn]

/-- What a discarded transaction has put on the wire. -/
def smbNacked (s : State) (pec : Pec) : State := if pec = .bad then emit s (.smbus none none) else s

theorem smbBlockWrite_bad {f : State → State} {pec : Pec} (h : reaches s .smbus = true) (hp : pecBad s pec = true) :
    smbBlockWrite s 4 pec f = report (smbNacked s pec) { source := 0x16, master := smbAddress s, access := 0x24 } := by
  have hs : smbAnswers s = true := h
  simp [smbBlockWrite, hs, hp, smbDiscard, smbNacked]

/-- A host event whose operation reports one fault of the fixed source 0x16, after what it has sent. -/
theorem exec_smb_fault {i : Instr} {f : State → State} {x : State} {rep : Report} (hi : exec i s = .next (hostEvent s f))
    (h : Awake s) (hf : f s = report x rep) (hrep : rep.source = 0x16) (hinj : rep.injected = false)
    (has : rep.reactionAs = none) (ho : ∃ o, x = { s with outs := o }) :
    ∃ t, exec i s = .next t ∧ counted s t 0x16 ∧ calm t = calm s ∧ t.smbPtr = s.smbPtr := by
  obtain ⟨o, rfl⟩ := ho
  obtain ⟨t, ht, hends⟩ := exec_host_ends hi h hf h.waits
  have hc : counted s t 0x16 := by
    rw [← hrep]
    exact hends.counted_last (by rw [hrep]; decide) hinj (by show reportsOf s.reports _ = 0; rw [h.reports]; rfl) rfl
  have hharm : harmless (report { s with outs := o } rep) := by
    refine harmless_report (harmless_nil h.reports) ?_
    have hcfg := sourceCfg_fixed (src := rep.source) (e := (0x16, 0, 0)) (by rw [hrep]; rfl) { s with outs := o }
    simp [reactionOf, has, hcfg]
  have hcalm := (hends.records hharm).calm
  exact ⟨t, ht, hc, hcalm, calm_eq (·.smbPtr) hcalm⟩

theorem smbNacked_outs (pec : Pec) : ∃ o, smbNacked s pec = { s with outs := o } := by
  unfold smbNacked
  split
  · exact ⟨_, rfl⟩
  · exact ⟨s.outs, rfl⟩

/-- The management port's reads capture into its own shadows. -/
theorem regRead_smbus (off : Nat) : (regRead s .smbus off).2 = { s with shSmb := (regRead s .smbus off).2.shSmb } := by
  simp only [regRead]
  split <;> rfl

theorem smbStatus_eq (s : State) : smbStatus s = b2n (s.img.cfg.isSome && s.boot.stage == 9) + 2 * b2n s.lsd.safeOn
    + 4 * b2n ((List.range 256).any (fun i => (srcAt s i).mode == .fatal && (srcAt s i).pending))
    + 8 * b2n s.glb.errValid + 16 * b2n s.hmi.linkUp := by
  have h : ∀ (k : Nat) (b : Bool), fld k k (b2n b) = 2 ^ k * b2n b := by
    intro k b
    cases b <;> simp [fld, b2n]
  simp only [smbStatus, h]
  omega

/-- Settles O18: each transaction by what it leaves; the discarded ones report the fixed source 0x16. -/
theorem managementPortServesItsRegisters : Obligations.ManagementPortServesItsRegisters := by
  unfold Obligations.ManagementPortServesItsRegisters
  refine ⟨fun s v pec h hreach hp hal hlt => ?pointer, fun s v pec h hreach hp hal he => ?unaligned,
    fun s n v pec ok h hreach hn => ?count, fun s v pec ok h hreach hp => ?discard, fun s h hreach => ?read,
    fun s v pec ok r h hreach hp hr hb hrow => ?write, fun s h hreach => ?status, fun s h hreach => ?serial,
    fun s h hreach => ?alert, fun s h hreach => ?timeout⟩
  case pointer =>
    refine exec_host_quiet (i := .smbSetPointer 4 v pec) rfl h (smbBlockWrite_good hreach hp) ?_ ?_ |>.trans ?_
    all_goals rw [smbSetPointer, if_neg (by omega)]
    · exact h.toSteady.quiet
    · rfl
    · rfl
  case unaligned =>
    have hf : smbSetPointer s v.toNat = reject s .smbus false (v.toNat % 0x4000000) .outOfRange := by
      rw [smbSetPointer, if_pos (.inl hal)]
    have hw := smbBlockWrite_good (f := fun s => smbSetPointer s v.toNat) hreach hp
    rw [hf, reject_first he] at hw
    exact ⟨_, exec_host_quiet (i := .smbSetPointer 4 v pec) rfl h hw h.toSteady.quiet, rfl, rfl, rfl, rfl⟩
  case count =>
    have hn4 : n.val ≠ 4 := fun he => hn (Fin.ext he)
    exact ⟨exec_host_quiet (i := .smbSetPointer n v pec) rfl h (smbBlockWrite_count hreach hn4) h.toSteady.quiet,
      exec_host_quiet (i := .smbWriteRegister n v pec ok) rfl h (smbBlockWrite_count hreach hn4) h.toSteady.quiet⟩
  case discard =>
    have hx := smbNacked_outs (s := s) pec
    obtain ⟨t, ht, hc, hcalm, -⟩ :=
      exec_smb_fault (i := .smbSetPointer 4 v pec) rfl h (smbBlockWrite_bad hreach hp) rfl rfl rfl hx
    obtain ⟨u, hu, hd, hcalm', -⟩ :=
      exec_smb_fault (i := .smbWriteRegister 4 v pec ok) rfl h (smbBlockWrite_bad hreach hp) rfl rfl rfl hx
    exact ⟨⟨t, ht, hc, hcalm⟩, ⟨u, hu, hd, hcalm'⟩⟩
  case read =>
    have hs : smbAnswers s = true := hreach
    have hf : smbRead s = { s with
        smbPtr := (if s.smbPtr = 0x3FFFFFC then 0 else s.smbPtr + 4)
        shSmb := (regRead s .smbus s.smbPtr).2.shSmb
        outs := answerTo s .smbus (regValue s .smbus s.smbPtr) :: s.outs } := by
      simp only [smbRead, hs, Bool.not_true, Bool.false_eq_true, if_false]
      rw [regRead_smbus]
      rfl
    exact ⟨_, exec_host_quiet (i := .smbReadRegister) rfl h hf h.toSteady.quiet, rfl, rfl⟩
  case write =>
    have hw : smbWrite s v.toNat ok = smbAdvance (setReg s s.smbPtr (plainValue s s.smbPtr r v.toNat)) := by
      rw [smbWrite, regWrite, hr, writeEffect_plain hb, plainWrite_row hrow]
    exact exec_host_quiet (i := .smbWriteRegister 4 v pec ok) rfl h
      (by rw [show (4 : Fin 256).val = 4 from rfl, smbBlockWrite_good hreach hp, hw]; rfl) h.toSteady.quiet
  case status =>
    have hs : smbAnswers s = true := hreach
    exact exec_host_quiet (i := .smbReadStatus) rfl h
      (by rw [smbReply, if_pos hs, smbStatus_eq]; rfl) h.toSteady.quiet
  case serial =>
    exact exec_host_quiet (i := .smbReadSerial) rfl h (if_pos hreach) h.toSteady.quiet
  case alert =>
    have hs : smbAnswers s = true := hreach
    refine exec_host_quiet (i := .smbAlertResponse) rfl h ?_ h.toSteady.quiet
    have hsend : ∀ (b : Bool) (x y : Option (List Byte)) (p q : Option Byte),
        (if b then emit s (.smbus x p) else emit s (.smbus y q)) =
          { s with outs := .smbus (if b then x else y) (if b then p else q) :: s.outs } := by
      intro b x y p q
      cases b <;> rfl
    simp only [smbAlertResponse, hs, smbAlert, smbAddress, Bool.not_true, Bool.false_eq_true, if_false]
    exact hsend _ _ _ _ _
  case timeout =>
    exact exec_smb_fault (i := .smbSclTimeout) rfl h (if_pos hreach) rfl rfl rfl ⟨s.outs, rfl⟩

end Sys2Proof.Machine
end

section
/-! Message commands that a check of R131 refuses, or whose unit sleeps (R131, R482). -/

namespace Sys2Proof.Machine

/-- Every message row is the arrival of its command. -/
theorem exec_message {i : Instr} {op : Nat} {c : Cmd} {sh : List (Nat × Nat)} (h : messageOf i = some (op, c, sh)) (s : State) :
    exec i s = .next (hostEvent s (fun s => message s op c sh)) := by
  cases i
  all_goals first
    | cases h; rfl
    | cases h

theorem dupTag_alone {s : State} (h : s.hmi.inFlight = []) (op : Nat) (c : Cmd) : dupTag s op c = false := by
  simp [dupTag, h]

/-- A message command that only completes with its status. -/
theorem exec_refused {i : Instr} {s : State} {op : Nat} {c : Cmd} {sh : List (Nat × Nat)} {st : Status} {res : List Byte}
    (h : Awake s) (hi : messageOf i = some (op, c, sh)) (hf : canFetch s = true) (ha : s.hmi.inFlight = [])
    (hm : message s op c sh = complete (enterFlight s (arriving s op c sh)) (arriving s op c sh).id st res) :
    ∃ t, exec i s = .next t ∧ Answers s t (arriving s op c sh) st res ∧ calm t = calm s ∧
      (∀ a, a < reservedBase s → rd t a = rd s a) := by
  obtain ⟨t, ht, hr⟩ := completes_alone (op := fun s => message s op c sh) hm h.power ha (canFetch_queue hf)
    (canFetch_ring hf) h.act h.reports rfl
  obtain ⟨o, m, ta, r, fl, dr, bw, po, hfr⟩ := hr.frame
  refine ⟨t, (exec_message hi s).trans (congrArg Host.Outcome.next ht), ⟨hr.flight, hr.settled, hr.answer⟩, ?calm, fun a hlt => ?mem⟩
  case calm => rw [hfr]; rfl
  case mem => exact hr.keeps.reserved (s := enterFlight s (arriving s op c sh)) hlt

/-- A command whose unit sleeps answers OUT_OF_RANGE where its payload checks do, else BAD_STATE (R482). -/
theorem runOp_asleep {s : State} {f : InFlight} (h : (opDomains f.opcode f.cmd.unit.toNat).all (domainOn s) = false) :
    ∃ st res, runOp s f = (s, .now st res) ∧ (st = .badState ∨ st = .outOfRange) := by
  unfold runOp
  extract_lets p r
  rw [if_neg (by rw [h]; decide)]
  split
  · exact ⟨_, _, rfl, .inr rfl⟩
  · exact ⟨_, _, rfl, .inl rfl⟩

/-- Settles O19: refused before it runs, or asleep, the command completes and that is all. -/
theorem refusedMessagesChangeNothing : Obligations.RefusedMessagesChangeNothing := by
  unfold Obligations.RefusedMessagesChangeNothing
  refine ⟨fun s i op c sh st h hi hf ha hc => ?header, fun s i op c sh h hi hf ha hc hd => ?asleep⟩
  case header =>
    refine exec_refused h hi hf ha ?_
    rw [message, if_pos hf, accept]
    simp only [dupTag_alone ha, inFlightOf, Bool.false_eq_true, if_false, hc]
    rfl
  case asleep =>
    have hd' : (opDomains (arriving s op c sh).opcode (arriving s op c sh).cmd.unit.toNat).all
        (domainOn (enterFlight s (arriving s op c sh))) = false := hd
    obtain ⟨st, res, hr, hst⟩ := runOp_asleep hd'
    obtain ⟨t, ht, hans, hcalm, hmem⟩ := exec_refused (st := st) (res := res) h hi hf ha (by
      rw [message, if_pos hf, accept]
      have hw : mustWait s.hmi.inFlight (arriving s op c sh) = false := by rw [ha]; simp [mustWait]
      simp only [dupTag_alone ha, hc]
      show (if (arriving s op c sh).dup = true then _ else if mustWait s.hmi.inFlight (arriving s op c sh) = true then _ else
        startCmd (enterFlight s (arriving s op c sh)) (arriving s op c sh)) = _
      rw [hw, startCmd_alone ha rfl, hr]
      rfl)
    exact ⟨t, st, res, ht, hst, hans, hcalm, hmem⟩

end Sys2Proof.Machine
end


section
/-! A link-down whose reaction parks a port completes a command, and so counts in the host interface (R98, R496). -/

namespace Sys2Proof.Machine

/-- The link is up, and PLK_UNPARK waits on port 0; the image gives fault 0x14 the reaction that parks the arrays. -/
def unparkWaits : State :=
  { hmi := { linkUp := true
             inFlight := [{ id := 0, opcode := 0x0803, cmd := {}, waiting := false, mute := false, ver := ⟨2, 0⟩, head := 0,
                            arrival := 0, dup := false, shorts := [], done := none }] }
    flt := { map := (List.replicate 256 {}).set 0x14 { cls := 1, reaction := 4 } }
    plk := (Vector.replicate 6 {}).set 0 { mode := .parked, unparkId := some 0 } }

theorem awake_unparkWaits : Awake unparkWaits := ⟨⟨rfl, rfl, rfl⟩, by decide⟩

set_option maxRecDepth 20000 in
theorem cmdTally_unparkWaits : tally (finish unparkWaits (linkLost unparkWaits)) offCmdTally = 1 := by decide

/-- Refutes O21: the statement has every tally of the host block 0 after a link-down, but a reaction that the image gives fault
0x14 acts behind it. In `unparkWaits` it parks the arrays, the PLK_UNPARK that waits ends, and HMI_CMD_TALLY counts it. -/
theorem not_functionResetsLinkStatesAndVectors : ¬ Obligations.FunctionResetsLinkStatesAndVectors := by
  unfold Obligations.FunctionResetsLinkStatesAndVectors
  rintro ⟨-, hdown, -⟩
  obtain ⟨t, ht, -, -, -, -, -, -, -, -, -, -, -, -, htally, -⟩ := hdown unparkWaits .linkDown awake_unparkWaits (.inl rfl) (.inl rfl)
  obtain rfl : finish unparkWaits (linkLost unparkWaits) = t := Host.Outcome.next.inj ht
  have hzero := htally offCmdTally (by decide) (by decide)
  rw [cmdTally_unparkWaits] at hzero
  exact absurd hzero (by decide)

end Sys2Proof.Machine
end


section
/-! A resize of BAR2 over a register file that lists MEM_WINDOW_BASE twice (R147). -/

namespace Sys2Proof.Machine

/-- The host is up, and the register file lists the window base twice: not in canonical form. -/
def baseListedTwice : State :=
  { boot := { stage := 9 }, hmi := { linkUp := true }, regs := [(0x1F0004, 1), (0x1F0004, 1)] }

theorem awake_baseListedTwice : Awake baseListedTwice := ⟨⟨rfl, rfl, rfl⟩, by decide⟩

/-- Refutes O22: the clause of the resize has no premise that the register file is in canonical form, as the clause of the write
has for the DRAM. In `baseListedTwice`, which no run from reset reaches, the base bits below the new size clear to the reset
value, which removes one of the two entries and uncovers the other. -/
theorem not_bar2ReadsWritesAndResize : ¬ Obligations.Bar2ReadsWritesAndResize := by
  unfold Obligations.Bar2ReadsWritesAndResize
  rintro ⟨-, hresize, -⟩
  obtain ⟨t, ht, -, hbase, -, -⟩ := hresize baseListedTwice 29 awake_baseListedTwice rfl (by decide) (by decide)
  have hend := exec_host_quiet (i := .bar2Resize 29) rfl awake_baseListedTwice
    (r := { baseListedTwice with hmi := { baseListedTwice.hmi with bar2Log2 := 29 }, regs := [(0x1F0004, 1)] })
    rfl awake_baseListedTwice.toSteady.quiet
  obtain rfl := Host.Outcome.next.inj (hend.symm.trans ht)
  exact absurd hbase (by decide)

end Sys2Proof.Machine
end


section
/-! The rings and their doorbells (R93, R117–R124, R135, R140). -/

namespace Sys2Proof.Machine

variable {s : State}

/-! ### Writes of HMI_CTRL -/

theorem hmiBy_eq (s : State) (q : Requester) (off v : Nat) : hmiBy s q off v = writeBy s q off v true := by
  cases q <;> rfl

theorem hmiBy_accepted {q : Requester} {off v : Nat} (h : reaches s q = true) (hr : writeRefusal s q off v = none) :
    hmiBy s q off v = writeEffect s off v true := by
  rw [hmiBy_eq, writeBy_accepted h hr]

theorem hmiEnable_off (h : s.hmi.enabled = false) : hmiEnable s =
    { s with hmi := { ringsStop s.hmi with enabled := true }, outs := .ltr true :: s.outs } := by
  rw [hmiEnable, if_neg (by rw [h]; decide), sendLtr, if_neg (by rw [h]; exact (by decide : ¬(false == true) = true))]
  rfl

theorem hmiDisable_on (h : s.hmi.enabled = true) : hmiDisable s =
    { s with hmi := ringsStop s.hmi, outs := .ltr false :: s.outs } := by
  rw [hmiDisable, if_pos h, sendLtr, if_neg (by rw [h]; exact (by decide : ¬(true == false) = true))]
  rfl

/-- What RESET makes of the host interface before fault 0x11 ends. -/
def ringsReset (s : State) : State :=
  { s with hmi := { muteAll (ringsStop s.hmi) with ringErr := none, cmdFailed := false, cplFailed := false, evtFailed := false } }

theorem sendLtr_posts (b s : State) : Posts s (sendLtr b s) := by
  unfold sendLtr
  split
  · exact .refl _
  · exact emit_posts _ _

theorem hmiReset_eq (s : State) : hmiReset s = sendLtr s (exitHold (ringsReset s) 0x11) := rfl

theorem srcAt_posts {s t : State} (h : Posts s t) (i : Nat) : srcAt t i = srcAt s i := by
  obtain ⟨o, m, ta, r, rfl⟩ := h.frame
  rfl

/-- The exit condition of a source in FAULT leaves it. -/
theorem exitHold_leaves (s : State) {src : Nat} (h : src < 256) : (srcAt (exitHold s src) src).mode ≠ .fault := by
  unfold exitHold
  split
  · show (srcAt (recover s src 1) src).mode ≠ .fault
    unfold recover
    extract_lets s1
    rw [postRecovered, srcAt_posts (post2_posts _ _ _ _)]
    have hflt : s1.flt = (modSrc s src (fun x => { x with mode := .clear, quiet := 0 })).flt := (bump_mild _ _).flt
    rw [srcAt, hflt, ← srcAt, srcAt_modSrc, if_pos ⟨rfl, h⟩]
    exact SrcMode.noConfusion
  · next hm => simpa using hm

theorem hmiReset_records (s : State) : Records (ringsReset s) (hmiReset s) ∧ (srcAt (hmiReset s) 0x11).mode ≠ .fault := by
  have hp := sendLtr_posts s (exitHold (ringsReset s) 0x11)
  exact ⟨(exitHold_records _ _).trans hp.records, by rw [hmiReset_eq, srcAt_posts hp]; exact exitHold_leaves _ (by decide)⟩

/-- A row of the host interface that resets the rings. -/
theorem exec_reset {i : Instr} {f : State → State} (h : Awake s) (hi : exec i s = .next (hostEvent s f))
    (hf : f s = hmiReset s) : ∃ t, exec i s = .next t ∧ evtCore t.hmi = evtCore (ringsReset s).hmi ∧
      (∀ g ∈ t.hmi.inFlight, g.mute = true) ∧ (srcAt t 0x11).mode ≠ .fault ∧ calm t = calm s := by
  obtain ⟨hrec, hmode⟩ := hmiReset_records s
  have hcalm : calm (hmiReset s) = calm s := hrec.calm.trans rfl
  have hw : noWait (hmiReset s) := by
    refine hrec.keeps.waits ?_
    have hs := h.waits
    simp only [noWait, ringsReset, muteAll, ringsStop, List.all_map] at hs ⊢
    exact hs
  have hlost : onlyLost (hmiReset s) := by
    intro r hr
    rcases hrec.keeps.reports r hr with hr | rfl
    · rw [show (ringsReset s).reports = s.reports from rfl, h.reports] at hr
      cases hr
    · exact ⟨rfl, rfl⟩
  have hact : (hmiReset s).img.act = none := (calm_eq (·.img.act) hcalm).trans h.act
  have hends := finish_ends (a := s) hact hw (calm_eq (·.pending) hcalm)
  have hsp := finish_spares (a := s) hact hw hlost (calm_eq (·.plk) hcalm) (calm_eq (·.hls.mode) hcalm)
    (calm_eq (·.thm.stop) hcalm) (calm_eq (·.lsd.bank) hcalm)
  have hall := hrec.trans (hends.records (onlyLost_harmless hlost))
  refine ⟨_, by rw [hi, hostEvent_up h.power, hf], hall.events, ?mute, ?mode, hall.calm.trans rfl⟩
  case mute =>
    rw [hall.flight]
    simp [ringsReset, muteAll, ringsStop]
  case mode => rwa [hsp.srcs 0x11 (by decide)]

/-! ### Ring errors -/

/-- The one report of a state stands behind events and vectors. -/
theorem Posts.mem_report {t : State} {rep : Report} (h : Posts s t) (hu : Uncounted s t) (hs : s.reports = [rep])
    (h12 : rep.source % 256 ≠ 0x12) : rep ∈ t.reports := by
  have hone : reportsOf t.reports rep.source = 1 := by rw [hu.reports _ h12, hs]; simp [reportsOf]
  have hex : ¬ ∀ r ∈ t.reports, ¬ r.source % 256 = rep.source % 256 := by
    rw [← reportsOf_eq_zero_iff, hone]
    decide
  simp only [not_forall, not_not] at hex
  obtain ⟨q, hq, hsrc⟩ := hex
  rcases h.reports q hq with hq' | rfl
  · rw [hs, List.mem_singleton] at hq'
    exact hq' ▸ hq
  · exact absurd hsrc.symm h12

/-- The host interface after a ring error of a ring that had not failed. -/
def ringBroken (s : State) (ring reason index : Nat) : State :=
  { s with hmi := { failRing s.hmi ring with
    ringErr := some ((failRing s.hmi ring).ringErr.getD (fld 31 30 ring + fld 29 28 reason + fld 15 0 index)) } }

theorem ringError_posts {ring : Nat} (reason index : Nat) (h : ringFailed s.hmi ring = false) :
    Posts (report (ringBroken s ring reason index) { source := 0x11 }) (ringError s ring reason index) ∧
    Uncounted (report (ringBroken s ring reason index) { source := 0x11 }) (ringError s ring reason index) := by
  unfold ringError
  rw [if_neg (by rw [h]; decide)]
  exact ⟨(signal_posts _ _).trans (.ite _ (.refl _) (post_posts _ _ _ _)),
    (signal_uncounted _ _).trans (.ite _ (.refl _) (post_uncounted _ _ _ _))⟩

/-- A row of the host interface that ends in a ring error. -/
theorem exec_ringError {i : Instr} {f : State → State} {x : State} {ring reason index : Nat}
    (hi : exec i s = .next (hostEvent s f)) (h : Awake s) (hf : f s = ringError x ring reason index)
    (hx : ∃ m, x = { s with hmi := m } ∧ m.inFlight = s.hmi.inFlight)
    (hr : ringFailed x.hmi ring = false) :
    ∃ t, exec i s = .next t ∧ evtCore t.hmi = evtCore (ringBroken x ring reason index).hmi ∧ (srcAt t 0x11).pending = true ∧
      calm t = calm s ∧ (∀ a, a < reservedBase s → rd t a = rd s a) := by
  obtain ⟨m, rfl, hm⟩ := hx
  obtain ⟨hp, hu⟩ := ringError_posts reason index hr
  have hone : (report (ringBroken { s with hmi := m } ring reason index) { source := 0x11 }).reports = [{ source := 0x11 }] :=
    report_single h.reports _
  have hharm : harmless (report (ringBroken { s with hmi := m } ring reason index) { source := 0x11 }) :=
    harmless_report (harmless_nil h.reports) rfl
  have hw : noWait (report (ringBroken { s with hmi := m } ring reason index) { source := 0x11 }) := by
    have hb : (ringBroken { s with hmi := m } ring reason index).hmi.inFlight = s.hmi.inFlight := by
      refine Eq.trans ?_ hm
      unfold ringBroken failRing
      dsimp only
      split
      · rfl
      · split <;> rfl
    show List.all _ _ = true
    rw [report_hmi, hb]
    exact h.waits
  have hk := hp.records
  obtain ⟨o, m', ta, r, hfr⟩ := hp.frame
  obtain ⟨t, ht, hends⟩ := exec_host_ends hi h hf (hk.keeps.waits hw) (by rw [hfr]; rfl) (by rw [hfr]; rfl)
  have hrec := hk.trans (hends.records (hk.keeps.harmless hharm))
  refine ⟨t, ht, hrec.events, (hends.marks 0x11 (by decide) ⟨_, hp.mem_report hu hone (by decide), rfl, rfl⟩
    (by rw [sourceCfg_fixed (e := (0x11, 1, 0)) rfl]; exact Nat.one_ne_zero)).1,
    hrec.calm.trans rfl, fun a ha => hrec.keeps.reserved ha⟩

/-! ### Doorbells -/

theorem pcieBar4_reached (h : reaches s .pcie = true) (off v : Nat) : pcieBar4 s off v = bar4Write s off v := by
  obtain ⟨hreach, hlink⟩ : pcieReaches s = true ∧ s.hmi.linkUp = true := by simpa [reaches] using h
  simp [pcieBar4, pcieAccess, pcieUp, hreach, hlink]

theorem bar4Write_cmd {v : Nat} (h : v < 4096) : bar4Write s 0 v = doorbellCmd s v := by
  simp [bar4Write, Nat.not_le.mpr h]

theorem bar4Write_cpl {v : Nat} (h : v < 4096) : bar4Write s 4 v = doorbellCpl s v := by
  simp [bar4Write, Nat.not_le.mpr h]

theorem bar4Write_evt {v : Nat} (h : v < 4096) : bar4Write s 8 v = doorbellEvt s v := by
  simp [bar4Write, Nat.not_le.mpr h]

/-- A row that rings a doorbell. -/
theorem doorbell_row {i : Instr} {v : BitVec 32} (hi : i = .hmiDbCmd v ∨ i = .hmiDbCpl v ∨ i = .hmiDbEvt v) (s : State) :
    ∃ off, (off = 0 ∨ off = 4 ∨ off = 8) ∧ exec i s = .next (hostEvent s (fun s => pcieBar4 s off v.toNat)) := by
  rcases hi with rfl | rfl | rfl
  · exact ⟨0, .inl rfl, rfl⟩
  · exact ⟨4, .inr (.inl rfl), rfl⟩
  · exact ⟨8, .inr (.inr rfl), rfl⟩

theorem bar4Write_reserved {off v : Nat} (ho : off = 0 ∨ off = 4 ∨ off = 8) (h : 4096 ≤ v) :
    bar4Write s off v = reject s .pcie true off .outOfRange := by
  rw [bar4Write, if_pos ho, if_pos h]

theorem bar4Write_stopped {off v : Nat} (ho : off = 0 ∨ off = 4 ∨ off = 8) (h : v < 4096) (he : s.hmi.enabled = false) :
    bar4Write s off v = s := by
  rcases ho with rfl | rfl | rfl
  · simp [bar4Write_cmd h, doorbellCmd, he]
  · simp [bar4Write_cpl h, doorbellCpl, he]
  · simp [bar4Write_evt h, doorbellEvt, he]

theorem reject_bar4 (s : State) (off : Nat) : ∃ g, reject s .pcie true off .outOfRange = { s with glb := g } ∧
    g.errValid = true ∧ (s.glb.errValid = false → g.errCode = 3 ∧ g.errBar4 = true) := by
  unfold reject
  split
  · next h => exact ⟨_, rfl, h, fun h' => by rw [h] at h'; cases h'⟩
  · exact ⟨_, rfl, rfl, fun _ => ⟨rfl, rfl⟩⟩

theorem signal_frame (s : State) (v : Nat) : ∃ o p, signal s v = { s with outs := o, hmi := { s.hmi with msixPending := p } } := by
  unfold signal
  split
  · exact ⟨_, _, rfl⟩
  · exact ⟨_, s.hmi.msixPending, rfl⟩

/-- Signalling a written completion changes nothing of the host interface but its coalescing and pending vectors. -/
theorem coalesceCpl_frame (s : State) : ∃ o u c p, coalesceCpl s =
    { s with outs := o, hmi := { s.hmi with cplUnsig := u, cplFirst := c, msixPending := p } } := by
  unfold coalesceCpl
  split
  · dsimp only
    split
    · obtain ⟨o, p, h⟩ := signal_frame { s with hmi := { s.hmi with cplUnsig := 0 } } 0
      exact ⟨o, 0, s.hmi.cplFirst, p, h⟩
    · exact ⟨s.outs, _, _, s.hmi.msixPending, rfl⟩
  · obtain ⟨o, p, h⟩ := signal_frame s 0
    exact ⟨o, s.hmi.cplUnsig, s.hmi.cplFirst, p, h⟩

/-- One completion that waited is written when the ring takes it. -/
theorem drainCpl_one {x : State} {e : Completion} (hq : x.hmi.cplQueue = [e]) (hw : cplWritable x = true) :
    ∃ t, drainCpl 1 x = t ∧ t.hmi.cplQueue = [] ∧ t.hmi.cplHead = x.hmi.cplHead ∧
      t.hmi.cplTail = (x.hmi.cplTail + 1) % cplSize x ∧ cplWrite x e ∈ t.outs ∧ t.hmi.inFlight = x.hmi.inFlight ∧
      t = { x with hmi := t.hmi, outs := t.outs } := by
  have hd : drainCpl 1 x = writeCpl { x with hmi := { x.hmi with cplQueue := [] } } e := by
    simp only [drainCpl, hq, hw, if_true]
  obtain ⟨l, hl⟩ := writeCpl_outs { x with hmi := { x.hmi with cplQueue := [] } } e
  have hmem : cplWrite x e ∈ (drainCpl 1 x).outs := by
    rw [hd, hl]
    exact List.mem_append_right _ (List.mem_cons_self ..)
  obtain ⟨o, u, c, p, hf⟩ := coalesceCpl_frame { emit { x with hmi := { x.hmi with cplQueue := [] } } (cplWrite x e) with
    hmi := { x.hmi with
      cplQueue := []
      cplTail := (x.hmi.cplTail + 1) % cplSize x
      cplPhase := if (x.hmi.cplTail + 1) % cplSize x = 0 then !x.hmi.cplPhase else x.hmi.cplPhase } }
  refine ⟨_, hd.trans hf, rfl, rfl, rfl, ?_, rfl, rfl⟩
  rwa [hd.trans hf] at hmem

/-- Settles O23: each write of the block, each doorbell and the watchdog by what it leaves. -/
theorem ringsRunAndDoorbellsRing : Obligations.RingsRunAndDoorbellsRing := by
  unfold Obligations.RingsRunAndDoorbellsRing
  refine ⟨fun s q h hreach hr he => ?enable, fun s q h hreach hr he => ?disable, fun s q e h hreach hr => ?reset,
    fun s v h hreach he hv hsize hne => ?cmd, fun s v h hreach he hv hsize hok => ?cmdError,
    fun s v h hreach he hv hsize hok => ?cplError, fun s v h hreach he hv hsize hok => ?evtError,
    fun s v h hreach he hv hsize hq => ?cpl, fun s v e h hreach hv hsize hq hw => ?drain, fun s v h hreach he hv hsize => ?evt,
    fun s i v h hreach hv hi => ?reserved, fun s i v h hreach hv he hi => ?stopped, fun s q v h hreach hr => ?heartbeat,
    fun s h hd => ?watchdog, fun s h hd => ?early⟩
  case enable =>
    exact ⟨_, exec_host_quiet (i := .hmiEnable q true) rfl h ((hmiBy_accepted hreach hr).trans (hmiEnable_off he)) h.toSteady.quiet,
      rfl, rfl, rfl, rfl, rfl, rfl, rfl, rfl, rfl, rfl, rfl, rfl, rfl⟩
  case disable =>
    exact ⟨_, exec_host_quiet (i := .hmiEnable q false) rfl h ((hmiBy_accepted hreach hr).trans (hmiDisable_on he)) h.toSteady.quiet,
      rfl, rfl, rfl, rfl, rfl, rfl⟩
  case reset =>
    have hf : hmiBy s q 0x10000 (2 + b2n e) = hmiReset s := by
      rw [hmiBy_accepted hreach hr]
      cases e <;> rfl
    obtain ⟨t, ht, hev, hmute, hmode, hcalm⟩ := exec_reset h (i := .hmiReset q e) rfl hf
    exact ⟨t, ht, congrArg (·.enabled) hev, congrArg (·.ringErr) hev, congrArg (·.cmdFailed) hev, congrArg (·.cplFailed) hev,
      congrArg (·.evtFailed) hev, congrArg (·.version) hev, hmute, hmode, hcalm⟩
  case cmd =>
    have hf : pcieBar4 s 0 v.toNat = { s with hmi := { s.hmi with
        wdStart := some s.tsc, cmdTail := v.toNat, dbLog := s.hmi.dbLog ++ [(v.toNat, s.tsc)] } } := by
      rw [pcieBar4_reached hreach, bar4Write_cmd hv, doorbellCmd, if_neg (by simp [he])]
      exact (if_neg (Nat.not_le.mpr hsize)).trans (if_neg hne)
    exact exec_host_quiet (i := .hmiDbCmd v) rfl h hf h.toSteady.quiet
  case cmdError =>
    have hf : pcieBar4 s 0 v.toNat = ringError (wdRestart s) 0 0 v.toNat := by
      rw [pcieBar4_reached hreach, bar4Write_cmd hv, doorbellCmd, if_neg (by simp [he])]
      exact if_pos hsize
    obtain ⟨t, ht, hev, hp, hcalm, -⟩ := exec_ringError (i := .hmiDbCmd v) rfl h hf ⟨_, rfl, rfl⟩ hok
    exact ⟨t, ht, congrArg (·.cmdFailed) hev, congrArg (·.ringErr.isSome) hev, congrArg (·.cmdTail) hev, hp, hcalm⟩
  case cplError =>
    have hf : pcieBar4 s 4 v.toNat = ringError s 1 0 v.toNat := by
      rw [pcieBar4_reached hreach, bar4Write_cpl hv, doorbellCpl, if_neg (by simp [he]), if_pos hsize]
    obtain ⟨t, ht, hev, hp, hcalm, -⟩ := exec_ringError (i := .hmiDbCpl v) rfl h hf ⟨s.hmi, rfl, rfl⟩ hok
    exact ⟨t, ht, congrArg (·.cplFailed) hev, congrArg (·.ringErr.isSome) hev, congrArg (·.cplHead) hev, hp, hcalm⟩
  case evtError =>
    have hf : pcieBar4 s 8 v.toNat = ringError s 2 0 v.toNat := by
      rw [pcieBar4_reached hreach, bar4Write_evt hv, doorbellEvt, if_neg (by simp [he]), if_pos hsize]
    obtain ⟨t, ht, hev, hp, hcalm, -⟩ := exec_ringError (i := .hmiDbEvt v) rfl h hf ⟨s.hmi, rfl, rfl⟩ hok
    exact ⟨t, ht, congrArg (·.evtFailed) hev, congrArg (·.ringErr.isSome) hev, congrArg (·.evtHead) hev, hp, hcalm⟩
  case cpl =>
    have hf : pcieBar4 s 4 v.toNat = { s with hmi := { s.hmi with cplHead := v.toNat } } := by
      rw [pcieBar4_reached hreach, bar4Write_cpl hv, doorbellCpl, if_neg (by simp [he]), if_neg (Nat.not_le.mpr hsize)]
      simp [hq, drainCpl]
    exact exec_host_quiet (i := .hmiDbCpl v) rfl h hf h.toSteady.quiet
  case drain =>
    have he : s.hmi.enabled = true := by
      simp only [cplWritable, Bool.and_eq_true] at hw
      exact hw.1.1.1
    obtain ⟨t, hd, hnone, hhead, htail, hmem, hfl, hframe⟩ := drainCpl_one (x := { s with hmi := { s.hmi with cplHead := v.toNat } })
      hq hw
    have hf : pcieBar4 s 4 v.toNat = t := by
      rw [pcieBar4_reached hreach, bar4Write_cpl hv, doorbellCpl, if_neg (by simp [he]), if_neg (Nat.not_le.mpr hsize)]
      simpa [hq] using hd
    refine ⟨t, exec_host_quiet (i := .hmiDbCpl v) rfl h hf ?_ (by rw [hframe]), hnone, hhead, htail, hmem, hframe⟩
    rw [hframe]
    exact h.toSteady.quiet (hw := hfl)
  case evt =>
    have hf : pcieBar4 s 8 v.toNat = { s with hmi := { s.hmi with evtHead := v.toNat } } := by
      rw [pcieBar4_reached hreach, bar4Write_evt hv, doorbellEvt, if_neg (by simp [he]), if_neg (Nat.not_le.mpr hsize)]
    exact exec_host_quiet (i := .hmiDbEvt v) rfl h hf h.toSteady.quiet
  case reserved =>
    obtain ⟨off, ho, hi⟩ := doorbell_row hi s
    obtain ⟨g, hg, hvalid, hfirst⟩ := reject_bar4 s off
    exact ⟨_, exec_host_quiet hi h (by rw [pcieBar4_reached hreach, bar4Write_reserved ho hv, hg]) h.toSteady.quiet, rfl, hvalid, hfirst⟩
  case stopped =>
    obtain ⟨off, ho, hi⟩ := doorbell_row hi s
    exact exec_host_same hi h (by rw [pcieBar4_reached hreach, bar4Write_stopped ho hv he])
  case heartbeat =>
    exact exec_host_quiet (i := .hmiHeartbeat q v) rfl h (hmiBy_accepted hreach hr) h.toSteady.quiet
  case watchdog =>
    have hf : hostWatchdog s = report { s with hmi := { s.hmi with wdStart := none } } { source := 0x15 } := if_pos hd
    obtain ⟨t, ht, hends⟩ := exec_host_ends (i := .hostWatchdog) rfl h hf h.waits
    refine ⟨t, ht, congrArg (·.wdStart) hends.reacts.keeps.core,
      hends.counted_last (by decide) rfl (by show reportsOf s.reports _ = 0; rw [h.reports]; rfl) rfl,
      ⟨hends.reacts.pins.laser, hends.reacts.pins.shutter, hends.reacts.pins.hl, hends.reacts.pins.highZ⟩, ?_⟩
    obtain ⟨o, m, ta, r, fl, dr, bw, po, ls, pi, lp, pk, rc, hl, hfr⟩ := hends.reacts.frame
    rw [hfr]
    rfl
  case early => exact exec_host_same (i := .hostWatchdog) rfl h (if_neg (by rw [hd]; decide))

end Sys2Proof.Machine
end


section
/-! Fetched commands (R118–R120). -/

namespace Sys2Proof.Machine

variable {s : State}

/-! ### What follows a fetch -/

theorem afterFetch_same (hw : s.cmp.writes = []) (hl : s.cmp.latchWait = none) : latchResolve (forgetWrites s) = s := by
  have hf : forgetWrites s = s := by simp [forgetWrites, hw]
  rw [hf, latchResolve, hl]

/-- Where the composer is as it was, with no latch and no write waiting, nothing follows a fetch. -/
theorem afterFetch_calm {t : State} (h : calm t = calm s) (hw : s.cmp.writes = []) (hl : s.cmp.latchWait = none) :
    latchResolve (forgetWrites t) = t :=
  afterFetch_same ((calm_eq (·.cmp.writes) h).trans hw) ((calm_eq (·.cmp.latchWait) h).trans hl)

/-! ### The head moves on -/

theorem cplWritable_advanceHead (s : State) : cplWritable (advanceHead s) = cplWritable s := rfl

/-- An ECHO at the head of the ring runs as one that arrived with its doorbell. -/
theorem accept_echo {c : Cmd} {arrival : Nat} {sh : List (Nat × Nat)} (h : Serving s 0x0002 c) :
    accept (advanceHead s) 2 c arrival sh = complete (enterFlight (advanceHead s) (inFlightOf (advanceHead s) 2 c arrival sh false))
      (inFlightOf (advanceHead s) 2 c arrival sh false).id .ok (bodyOf c) := by
  have halone : (advanceHead s).hmi.inFlight = [] := h.alone
  have hd : dupTag (advanceHead s) 2 c = false := dupTag_alone halone 2 c
  have hh : headerCheck (advanceHead s) 2 c = none := h.header
  have hw : mustWait (advanceHead s).hmi.inFlight (inFlightOf (advanceHead s) 2 c arrival sh false) = false := by
    rw [halone]; simp [mustWait]
  have hr : runOp (enterFlight (advanceHead s) (inFlightOf (advanceHead s) 2 c arrival sh false))
      (inFlightOf (advanceHead s) 2 c arrival sh false) =
      (enterFlight (advanceHead s) (inFlightOf (advanceHead s) 2 c arrival sh false), .now .ok (bodyOf c)) :=
    (runOp_on (s := enterFlight (advanceHead s) (inFlightOf (advanceHead s) 2 c arrival sh false)) h.domains).trans rfl
  unfold accept
  rw [hd, hh]
  dsimp only
  rw [if_neg (by simp [inFlightOf]), hw, if_neg Bool.false_ne_true, startCmd_alone halone rfl, hr]

/-- Settles O24: a fetched ECHO runs beside the head's move; a bad entry is the ring error of its reason. -/
theorem commandFetchRunsTheEntry : Obligations.CommandFetchRunsTheEntry := by
  unfold Obligations.CommandFetchRunsTheEntry
  refine ⟨fun s b sh h hop hne hph hl hw => ?runs, fun s e cf sh h hf hne hok hl hw he => ?fails, fun s e cf sh h hn hl hw => ?none⟩
  case runs =>
    have hfetch : commandFetch s (some b) false sh = accept (advanceHead s) 2 (entryCmd b) (headStamp s) sh := by
      simp [commandFetch, h.fetch, hne, hph, hop]
    have hm : latchResolve (forgetWrites (commandFetch s (some b) false sh)) =
        complete (enterFlight (advanceHead s) (inFlightOf (advanceHead s) 2 (entryCmd b) (headStamp s) sh false))
          (inFlightOf (advanceHead s) 2 (entryCmd b) (headStamp s) sh false).id .ok (bodyOf (entryCmd b)) := by
      rw [hfetch, accept_echo h]
      exact afterFetch_calm (s := s) (calm_complete _ _ _ _) hw hl
    obtain ⟨t, ht, hr⟩ := completes_alone (e := advanceHead s)
      (op := fun s => latchResolve (forgetWrites (commandFetch s (some b) false sh))) hm
      (canFetch_host h.fetch) h.alone (canFetch_queue h.fetch) (canFetch_ring h.fetch) h.act h.reports rfl
    have hhead : t.hmi.cmdHead = (s.hmi.cmdHead + 1) % cmdSize s := congrArg (·.cmdHead) hr.keeps.core
    refine ⟨t, congrArg Host.Outcome.next ht, hhead, ?_, hr⟩
    rw [hhead]
    exact congrArg (·.cmdPhase) hr.keeps.core
  case fails =>
    obtain ⟨reason, hr⟩ : ∃ reason, commandFetch s e cf sh = ringError s 0 reason s.hmi.cmdHead := by
      rcases he with rfl | ⟨b, rfl, hb⟩
      · exact ⟨2, by simp [commandFetch, hf, hne]⟩
      · exact ⟨1, by simp [commandFetch, hf, hne, hb]⟩
    have hcalm : calm (ringError s 0 reason s.hmi.cmdHead) = calm s := (ringError_posts (s := s) (ring := 0) reason s.hmi.cmdHead hok).1.calm.trans rfl
    obtain ⟨t, ht, hev, hp, hc, hmem⟩ := exec_ringError (i := .commandFetch e cf sh) rfl h
      ((afterFetch_calm (t := commandFetch s e cf sh) (by rw [hr, hcalm]) hw hl).trans hr) ⟨s.hmi, rfl, rfl⟩ hok
    exact ⟨t, ht, congrArg (·.cmdFailed) hev, congrArg (·.ringErr.isSome) hev, congrArg (·.cmdHead) hev, hp, hc, hmem⟩
  case none =>
    have hs : commandFetch s e cf sh = s := by
      rcases hn with hn | hn
      · simp [commandFetch, hn]
      · simp [commandFetch, hn]
    exact exec_host_same (i := .commandFetch e cf sh) rfl h (by rw [hs, afterFetch_same hw hl])

end Sys2Proof.Machine
end


section
/-! Events that wait, and coalesced vectors (R105, R118–R121, R139). -/

namespace Sys2Proof.Machine

variable {s : State}

/-- What writing an event leaves: the tail moved on, the entry on the wire, the coalescing and the pending vectors. -/
structure EventWritten (s t : State) (e : Event) : Prop where
  frame : ∃ o p u c m, t = { s with outs := o, hmi := { s.hmi with
    evtTail := (s.hmi.evtTail + 1) % evtSize s, evtPhase := p, evtUnsig := u, evtFirst := c, msixPending := m } }
  wire : evtWrite s e ∈ t.outs

theorem coalesceEvt_frame (s : State) : ∃ o u c m, coalesceEvt s =
    { s with outs := o, hmi := { s.hmi with evtUnsig := u, evtFirst := c, msixPending := m } } := by
  unfold coalesceEvt
  split
  · dsimp only
    split
    · obtain ⟨o, p, h⟩ := signal_frame { s with hmi := { s.hmi with evtUnsig := 0 } } 1
      exact ⟨o, 0, s.hmi.evtFirst, p, h⟩
    · exact ⟨s.outs, _, _, s.hmi.msixPending, rfl⟩
  · obtain ⟨o, p, h⟩ := signal_frame s 1
    exact ⟨o, s.hmi.evtUnsig, s.hmi.evtFirst, p, h⟩

theorem writeEvt_written (s : State) (e : Event) : EventWritten s (writeEvt s e) e where
  frame := by
    obtain ⟨o, u, c, m, h⟩ := coalesceEvt_frame { emit s (evtWrite s e) with hmi := { s.hmi with
      evtTail := (s.hmi.evtTail + 1) % evtSize s
      evtPhase := if (s.hmi.evtTail + 1) % evtSize s = 0 then !s.hmi.evtPhase else s.hmi.evtPhase } }
    exact ⟨o, _, u, c, m, h⟩
  wire := (coalesceEvt_posts { emit s (evtWrite s e) with hmi := { s.hmi with
    evtTail := (s.hmi.evtTail + 1) % evtSize s
    evtPhase := if (s.hmi.evtTail + 1) % evtSize s = 0 then !s.hmi.evtPhase else s.hmi.evtPhase } }).outs.subset
      (List.mem_cons_self ..)

theorem writeLost_none (h : s.hmi.lost = 0) : writeLost s = s := by simp [writeLost, h]

/-- The oldest queued event is written where the ring takes it. -/
theorem writeQueued_first {e : Event} {l : List Event} (hq : s.hmi.evtQueue = e :: l) (hw : evtWritable s = true) :
    writeQueued s = writeEvt { s with hmi := { s.hmi with evtQueue := l, episode := s.hmi.episode && !l.isEmpty } } e := by
  rw [writeQueued, hq]
  exact if_pos hw

/-- What the queue's writes leave of everything but the event ring. -/
theorem writeQueued_frame (s : State) : s.outs <:+ (writeQueued s).outs ∧ (writeQueued s).hmi.lost = s.hmi.lost ∧
    (writeQueued s).hmi.inFlight = s.hmi.inFlight ∧
    writeQueued s = { s with hmi := (writeQueued s).hmi, outs := (writeQueued s).outs } := by
  unfold writeQueued
  split
  · exact ⟨List.suffix_refl _, rfl, rfl, rfl⟩
  · next e l hq =>
    split
    · have hp := writeEvt_posts { s with hmi := { s.hmi with evtQueue := l, episode := s.hmi.episode && !l.isEmpty } } e
      obtain ⟨o, p, u, c, m, hf⟩ := (writeEvt_written { s with hmi := { s.hmi with
        evtQueue := l, episode := s.hmi.episode && !l.isEmpty } } e).frame
      refine ⟨hp.outs, ?_, ?_, ?_⟩
      all_goals rw [hf]
    · exact ⟨List.suffix_refl _, rfl, rfl, rfl⟩

theorem evtWritable_ok (h : evtWritable s = true) : s.hmi.evtFailed = false := by
  simp only [evtWritable, Bool.and_eq_true, Bool.not_eq_true'] at h
  exact h.1.1.2

theorem eventPost_waiting (hq : s.hmi.evtQueue ≠ []) (hw : evtWritable s = true) (failed : Bool) : eventPost s failed =
    if failed then ringError s 2 3 s.hmi.evtTail else writeQueued (writeLost s) := by
  simp [eventPost, hq, hw]

theorem signal_now {v : Nat} (hm : (vget s.hmi.msix v {}).masked = false) (hc : canMaster s = true) : signal s v = emit s (.msix v) := by
  rw [signal, hm, hc]
  rfl

/-- Settles O25: the queue's writes and the timeouts change the event ring and the wires alone; a failed write is a ring error. -/
theorem queuedEventsAndVectors : Obligations.QueuedEventsAndVectors := by
  unfold Obligations.QueuedEventsAndVectors
  refine ⟨fun s e l h hq hw hl => ?oldest, fun s h hq hw hl hv => ?lost, fun s h hq hw => ?fails, fun s h hv hc hd hm => ?zero,
    fun s h hv hc hd hm => ?one, fun s v h hn => ?early, fun s h hq => ?none⟩
  case oldest =>
    have hf : eventPost s false = _ := (eventPost_waiting (by rw [hq]; exact List.cons_ne_nil _ _) hw false).trans
      (by rw [if_neg Bool.false_ne_true, writeLost_none hl, writeQueued_first hq hw])
    have hwr := writeEvt_written { s with hmi := { s.hmi with evtQueue := l, episode := s.hmi.episode && !l.isEmpty } } e
    obtain ⟨o, p, u, c, m, hfr⟩ := hwr.frame
    have hwire := hwr.wire
    rw [hfr] at hf hwire
    refine ⟨_, exec_host_quiet (i := .eventPost false) rfl h hf h.toSteady.quiet, rfl, rfl, fun hn => ?_, hwire, rfl⟩
    subst hn
    exact Bool.and_false _
  case lost =>
    have hlw : writeLost s = writeEvt { s with hmi := { s.hmi with lost := 0 } }
        { code := 0x0001, unit := 0, tsc := s.tsc, payload := leBytes 4 s.hmi.lost } := by
      simp [writeLost, hv, hl, hq, hw]
    have hwr := writeEvt_written { s with hmi := { s.hmi with lost := 0 } }
      { code := 0x0001, unit := 0, tsc := s.tsc, payload := leBytes 4 s.hmi.lost }
    obtain ⟨o, p, u, c, m, hfr⟩ := hwr.frame
    have hwire := hwr.wire
    rw [← hlw] at hfr hwire
    obtain ⟨houts, hlost, hflight, hframe⟩ := writeQueued_frame (writeLost s)
    have hf : eventPost s false = writeQueued (writeLost s) := eventPost_waiting hq hw false
    have hall : writeQueued (writeLost s) = { s with hmi := (writeQueued (writeLost s)).hmi, outs := (writeQueued (writeLost s)).outs } := by
      rw [hfr] at hframe ⊢
      exact hframe
    refine ⟨_, exec_host_quiet (i := .eventPost false) rfl h (hf.trans hall) (h.toSteady.quiet (hw := ?_)), ?_, houts.subset hwire, rfl⟩
    · exact hflight.trans (by rw [hfr])
    · exact hlost.trans (by rw [hfr])
  case fails =>
    obtain ⟨t, ht, hev, hp, hcalm, -⟩ := exec_ringError (i := .eventPost true) rfl h
      ((eventPost_waiting hq hw true).trans (if_pos rfl)) ⟨s.hmi, rfl, rfl⟩ (evtWritable_ok hw)
    exact ⟨t, ht, congrArg (·.evtFailed) hev, hp, hcalm⟩
  case zero =>
    have hf : coalesceTimeout s 0 = signal { s with hmi := { s.hmi with cplUnsig := 0 } } 0 := by
      simp [coalesceTimeout, hv, hd]
    exact exec_host_quiet (i := .coalesceTimeout 0) rfl h (hf.trans (signal_now hm hc)) h.toSteady.quiet
  case one =>
    have hf : coalesceTimeout s 1 = signal { s with hmi := { s.hmi with evtUnsig := 0 } } 1 := by
      simp [coalesceTimeout, hv, hd]
    exact exec_host_quiet (i := .coalesceTimeout 1) rfl h (hf.trans (signal_now hm hc)) h.toSteady.quiet
  case early =>
    refine exec_host_same (i := .coalesceTimeout v) rfl h ?_
    rcases hn with hn | hn
    · simp [coalesceTimeout, hn]
    · simp [coalesceTimeout, hn]
  case none => exact exec_host_same (i := .eventPost false) rfl h (by simp [eventPost, hq])

end Sys2Proof.Machine
end


section
/-! Message commands that answer at once and report what may have a reaction: IMG_STAGE (R72, R78, R88, R419). -/

namespace Sys2Proof.Machine

variable {s r : State} {op : Nat} {c : Cmd} {sh : List (Nat × Nat)} {st : Status} {res : List Byte}

/-- A served command that answers at once, whatever its operation reports: the reactions act behind its completion. -/
theorem exec_answers_reacts {i : Instr} (hi : exec i s = .next (hostEvent s (fun s => message s op c sh))) (h : Serving s op c)
    (hr : runOp (enterFlight s (arriving s op c sh)) (arriving s op c sh) = (r, .now st res))
    (he : evtCore r.hmi = evtCore (enterFlight s (arriving s op c sh)).hmi) (ho : s.outs <:+ r.outs)
    (hg : r.regs = s.regs := by rfl) (ht : r.tsc = s.tsc := by rfl) (ha : r.img.act = s.img.act := by rfl)
    (hq : r.pending = s.pending := by rfl) :
    ∃ t, exec i s = .next t ∧ Answers s t (arriving s op c sh) st res ∧ Reacts r t ∧ unreacted t = unreacted r ∧
      Ends (complete r (arriving s op c sh).id st res) t := by
  have hf1 : r.hmi.inFlight = [arriving s op c sh] := by
    have := congrArg Hmi.inFlight he
    simpa [evtCore, enterFlight, h.alone] using this
  have hq1 : r.hmi.cplQueue = [] := by
    have := congrArg Hmi.cplQueue he
    simpa [evtCore, enterFlight, canFetch_queue h.fetch] using this
  have ht1 : r.hmi.cplTail = s.hmi.cplTail := (congrArg Hmi.cplTail he :)
  have hp1 : r.hmi.cplPhase = s.hmi.cplPhase := (congrArg Hmi.cplPhase he :)
  have hw1 : cplWritable r = true := by
    have hs := canFetch_ring h.fetch
    rw [cplWritable_eq] at hs ⊢
    rw [he, hg]
    exact hs
  obtain ⟨hidle, hanswer⟩ := complete_alone hf1 hq1 hw1 st res
  have hm : message s op c sh = complete r (arriving s op c sh).id st res := by
    rw [message_runs h, startCmd_alone h.alone rfl, hr]
  have hk := complete_host r (arriving s op c sh).id st res
  have hpend : (complete r (arriving s op c sh).id st res).pending = r.pending := by
    obtain ⟨o, m, ta, rr, hfr⟩ := hk.frame
    rw [hfr]
  have hact : (complete r (arriving s op c sh).id st res).img.act = none := by
    obtain ⟨o, m, ta, rr, hfr⟩ := hk.frame
    rw [hfr]
    exact ha.trans h.act
  have hends := finish_ends (a := s) hact (noWait_nil hidle) (hpend.trans hq)
  have hall := hk.reacts.trans hends.reacts
  refine ⟨_, by rw [hi, hostEvent_up (canFetch_host h.fetch), hm], ⟨hends.reacts.keeps.idle hidle, hends.settled, fun hs => ?answer⟩,
    hall, hends.rest.trans (unreacted_of_calm hk.calm), hends⟩
  case answer =>
    obtain ⟨l, hl, hmem⟩ := hanswer hs
    obtain ⟨k, hko⟩ := hends.reacts.keeps.outs
    obtain ⟨j, hj⟩ := ho
    refine ⟨k ++ (l ++ j), by rw [← hko, hl, ← hj]; simp, ?_⟩
    have hx : ∀ x, cplWrite r x = cplWrite s x := fun x => by simp only [cplWrite, hostRing, regN, reg, hg, ht1, hp1]
    have hce : cplEntry r (arriving s op c sh) st.code res = cplEntry s (arriving s op c sh) st.code res := by
      simp only [cplEntry, ht]
    rw [hx, hce] at hmem
    simp only [List.mem_append]
    exact .inr (.inl hmem)

/-! ### Uncorrectable words -/

theorem readUe_clean {a n unit : Nat} (h : readHits s a n = false) : readUe s a n unit = s := by
  simp only [readHits, Bool.or_eq_false_iff, Option.isSome_eq_false_iff, Option.isNone_iff_eq_none] at h
  rw [readUe, h.1, h.2]
  rfl

theorem dramUe_outs (s : State) (addr unit : Nat) (inj : Option Injection) (co : Bool) : s.outs <:+ (dramUe s addr unit inj co).outs :=
  (bump_mild { s with mem := { s.mem with eccAddr := addr, eccUe := true, eccPoison := s.poisoned.contains (addr / 8) } } 0x100024).outs

theorem dramUe_mem (s : State) (addr unit : Nat) (inj : Option Injection) (co : Bool) : (dramUe s addr unit inj co).mem.eccUe = true :=
  (calm_eq (·.mem.eccUe) (calm_bump { s with mem := { s.mem with
    eccAddr := addr, eccUe := true, eccPoison := s.poisoned.contains (addr / 8) } } 0x100024) :)

/-- A read that meets an uncorrectable word, stored or injected, notes it in MEM's registers. -/
theorem reportUe_hit {bad : Option Nat} {inj : Option Injection} (h : (bad.isSome || inj.isSome) = true) (unit : Nat) :
    s.outs <:+ (reportUe s bad inj unit).outs ∧ (reportUe s bad inj unit).mem.eccUe = true := by
  cases bad with
  | none =>
    cases inj with
    | none => cases h
    | some i => exact ⟨dramUe_outs (disarm s 0x21) _ _ _ _, dramUe_mem _ _ _ _ _⟩
  | some x =>
    cases inj with
    | none => exact ⟨dramUe_outs _ _ _ _ _, dramUe_mem _ _ _ _ _⟩
    | some i => exact ⟨dramUe_outs (disarm s 0x21) _ _ _ _, dramUe_mem _ _ _ _ _⟩

theorem readUe_hit {a n unit : Nat} (h : readHits s a n = true) :
    s.outs <:+ (readUe s a n unit).outs ∧ (readUe s a n unit).mem.eccUe = true := reportUe_hit h unit

/-- A read changes nothing of the host interface but its events. -/
theorem readUe_events (s : State) (a n unit : Nat) : evtCore (readUe s a n unit).hmi = evtCore s.hmi :=
  (congrArg (·.hmi) (readUe_notes (L := [0x21]) s a n unit (List.mem_singleton_self _)).noted :)

/-! ### IMG_STAGE -/

/-- What IMG_STAGE leaves where its checks pass: the bytes in the slot that STAGED takes, its partition erased. -/
def staged (s : State) (a n : Nat) : State :=
  { copyRange s a (slotDram s (stageSlot s)) n with img := { s.img with
    failStep := 0, failCode := 0, failSection := 0, lastResult := 0,
    roles := { s.img.roles with staged := stageSlot s }, confRoles := { s.img.confRoles with staged := stageSlot s },
    slotVer := vset s.img.slotVer (stageSlot s) (imgVersion (fun i => rd s (a + i))),
    slotKey := vset s.img.slotKey (stageSlot s) (num (fun i => rd s (a + i)) (secOff (fun i => rd s (a + i)) 17) 1),
    flash := vset s.img.flash (stageSlot s) [], mirrorDone := false, mirroring := true } }

/-- The failed check in IMG_FAIL_INFO, with LAST_RESULT. -/
def failNoted (s : State) (f : CheckFail) : State :=
  { s with img := { s.img with lastResult := f.code.code, failStep := f.step, failCode := f.code.code, failSection := f.section_ } }

theorem wrBytes_frame (s : State) (a : Nat) (l : List Byte) : ∃ dr bw po, wrBytes s a l =
    { s with dram := dr, badWords := bw, poisoned := po } := by
  obtain ⟨dr, h⟩ := wrRaw_memory s a l
  exact ⟨dr, _, _, by rw [wrBytes, healWords, h]⟩

theorem wrBytes_img (s : State) (a : Nat) (l : List Byte) : (wrBytes s a l).img = s.img := by
  obtain ⟨dr, bw, po, h⟩ := wrBytes_frame s a l
  rw [h]

section
variable {p : List Byte} {a n : Nat} (h64 : leAt p 0 8 % 64 = 0) (hn : leAt p 8 4 = n) (hwin : leAt p 0 8 + n ≤ 2 ^ s.hmi.bar2Log2)
  (ha : bar2Base s + leAt p 0 8 = a) (hact : s.img.act = none) (hconf : s.img.confirmId = none)
  (hfence : (fenceQuery s a n).1 = 0) (huse : a + n ≤ usable s)
include h64 hn hwin ha hact hconf hfence huse

/-- Past the checks of the payload and the state, IMG_STAGE goes by its verdict. -/
theorem runStage_checked : runStage s p =
    match stageVerdict s a n with
    | some f => imgNow (noteFail (readUe s a n 2) (some f)) f.code
    | none => imgNow (staged s a n) .ok := by
  have hstop : ¬(leAt p 0 8 % 64 ≠ 0 ∨ 2 ^ s.hmi.bar2Log2 < leAt p 0 8 + n) := by omega
  have hbusy : ¬(imgBusy s || s.img.confirmId.isSome) = true := by simp [imgBusy, hact, hconf]
  have hroom : ¬((fenceQuery s a n).1 ≠ 0 ∨ usable s < a + n) := by omega
  simp only [runStage, hn, ha, if_neg hstop, if_neg hbusy, if_neg hroom]
  cases stageVerdict s a n with
  | some f => rfl
  | none =>
    dsimp only
    rw [staged, noteFail, copyRange, wrBytes_img]
    rfl

theorem runStage_passes (hclean : readHits s a n = false) (hpass : stageChecks s (fun i => rd s (a + i)) (some n) = none) :
    runStage s p = (staged s a n, .now .ok []) := by
  have hv : stageVerdict s a n = none := by rw [stageVerdict, if_neg (by rw [hclean]; decide), hpass]
  rw [runStage_checked h64 hn hwin ha hact hconf hfence huse, hv]
  rfl

theorem runStage_fails {f : CheckFail} (hclean : readHits s a n = false)
    (hfail : stageChecks s (fun i => rd s (a + i)) (some n) = some f) : runStage s p = (failNoted s f, .now f.code []) := by
  have hv : stageVerdict s a n = some f := by rw [stageVerdict, if_neg (by rw [hclean]; decide), hfail]
  rw [runStage_checked h64 hn hwin ha hact hconf hfence huse, hv]
  dsimp only
  rw [readUe_clean hclean]
  rfl

theorem runStage_hits (hhit : readHits s a n = true) : runStage s p = (failNoted (readUe s a n 2) readFail, .now .checkFail []) := by
  have hv : stageVerdict s a n = some readFail := by rw [stageVerdict, if_pos hhit]
  rw [runStage_checked h64 hn hwin ha hact hconf hfence huse, hv]
  rfl

end

/-- Staged bytes stand in their slot, and nothing else of the DRAM has changed. -/
theorem rd_staged (hw : Memory.wf s) {a n i : Nat} (hi : i < n) : rd (staged s a n) (slotDram s (stageSlot s) + i) = rd s (a + i) := by
  have hlen : i < (rdBytes s a n).length := by simpa [rdBytes] using hi
  refine (rd_wrBytes_inside hw _ _ hlen).trans ?_
  simp [rdBytes, hi]

theorem rd_staged_below (s : State) (a n : Nat) {x : Nat} (h : x < reservedBase s) : rd (staged s a n) x = rd s x :=
  rd_wrBytes_outside s _ _ (.inl (Nat.lt_of_lt_of_le h (Nat.le_add_right _ _)))

theorem staged_loose (s : State) (a n : Nat) : Loose s (staged s a n) := by
  obtain ⟨dr, bw, po, h⟩ := wrBytes_frame s (slotDram s (stageSlot s)) (rdBytes s a n)
  rw [staged, copyRange, h]
  exact .units

theorem calm_staged (s : State) (a n : Nat) : calm (staged s a n) = calm { s with img := (staged s a n).img } := by
  obtain ⟨dr, bw, po, h⟩ := wrBytes_frame s (slotDram s (stageSlot s)) (rdBytes s a n)
  simp only [staged, copyRange, h]
  rfl

/-- An image that passes its checks is no longer than its slot. -/
theorem stageChecks_length {r : Nat → Byte} {n : Nat} (h : stageChecks s r (some n) = none) : n ≤ 0x1000000 := by
  have hl : lengthOk r (some n) = true := by
    by_contra hn
    rw [stageChecks, Bool.not_eq_true _ |>.mp hn] at h
    cases h
  simp only [lengthOk, Option.elim_some, Bool.and_eq_true, decide_eq_true_eq, beq_iff_eq] at hl
  omega

theorem slot_below_log (s : State) {n i : Nat} (hk : stageSlot s < 3) (hn : n ≤ 0x1000000) (hi : i < n) :
    slotDram s (stageSlot s) + i < logBase s := by
  unfold slotDram logBase
  omega

/-- Settles O26: IMG_STAGE is its verdict; the bytes of a slot lie below the fault log's extension. -/
theorem stagingCopiesACheckedImage : Obligations.StagingCopiesACheckedImage := by
  unfold Obligations.StagingCopiesACheckedImage
  refine ⟨fun s c a n h h64 hn hwin ha hconf hfence huse hslot hw hclean => ?checked,
    fun s c a n h h64 hn hwin ha hconf hfence huse hhit => ?hit⟩
  case checked =>
    cases hv : stageChecks s (fun i => rd s (a + i)) (some n) with
    | none =>
      have hr : runOp (enterFlight s (arriving s 0x0201 c [])) (arriving s 0x0201 c []) =
          (staged (enterFlight s (arriving s 0x0201 c [])) a n, .now .ok []) :=
        (h.on []).trans (runStage_passes (s := enterFlight s (arriving s 0x0201 c [])) h64 hn.symm hwin ha.symm h.act hconf hfence
          huse hclean hv)
      have hc := calm_staged (enterFlight s (arriving s 0x0201 c [])) a n
      obtain ⟨t, ht, hans, hcalm, hk⟩ := exec_answers (i := .imgStage c) rfl h hr (staged_loose _ _ _)
        (calm_eq (·.regs) hc :) (calm_eq (·.tsc) hc :) rfl (calm_eq (·.pending) hc :)
      have himg : t.img = (staged s a n).img := (calm_eq (·.img) hcalm :)
      have hfuse : logBase (staged (enterFlight s (arriving s 0x0201 c [])) a n) = logBase s := logBase_fuse (calm_eq (·.fuse) hc :)
      have hres : reservedBase s ≤ logBase s := reservedBase_le_logBase s
      refine ⟨t, ht, ?_, fun x hx => ?_, fun _ => ⟨hans, ?_, ?_, ?_, fun i hi => ?_, ?_, ?_, ?_⟩, fun f hf => (Option.some_ne_none f hf.symm).elim⟩
      · rw [hcalm, hc, himg]
        rfl
      · rw [hk.memory x (by rw [hfuse]; omega)]
        exact rd_staged_below (enterFlight s (arriving s 0x0201 c [])) a n hx
      · rw [himg]; rfl
      · rw [himg]; rfl
      · rw [himg]; rfl
      · rw [hk.memory _ (by rw [hfuse]; exact slot_below_log s hslot (stageChecks_length hv) hi)]
        exact rd_staged (s := enterFlight s (arriving s 0x0201 c [])) hw hi
      · rw [himg]
        exact vget_vmod_same _ hslot _ _
      · rw [himg]; rfl
      · rw [himg]; rfl
    | some f =>
      have hr : runOp (enterFlight s (arriving s 0x0201 c [])) (arriving s 0x0201 c []) =
          (failNoted (enterFlight s (arriving s 0x0201 c [])) f, .now f.code []) :=
        (h.on []).trans (runStage_fails (s := enterFlight s (arriving s 0x0201 c [])) h64 hn.symm hwin ha.symm h.act hconf hfence
          huse hclean hv)
      obtain ⟨t, ht, hans, hcalm, hk⟩ := exec_answers (i := .imgStage c) rfl h hr .units
      have himg : t.img = (failNoted s f).img := (calm_eq (·.img) hcalm :)
      refine ⟨t, ht, ?_, fun x hx => hk.reserved hx, fun hn => (Option.some_ne_none f hn).elim, fun g hg => ?_⟩
      · rw [hcalm, himg]
        rfl
      · obtain rfl := Option.some.inj hg
        exact ⟨hans, himg⟩
  case hit =>
    have hr : runOp (enterFlight s (arriving s 0x0201 c [])) (arriving s 0x0201 c []) =
        (failNoted (readUe (enterFlight s (arriving s 0x0201 c [])) a n 2) readFail, .now .checkFail []) :=
      (h.on []).trans (runStage_hits (s := enterFlight s (arriving s 0x0201 c [])) h64 hn.symm hwin ha.symm h.act hconf hfence
        huse hhit)
    have hnotes := readUe_notes (L := [0x21]) (enterFlight s (arriving s 0x0201 c [])) a n 2 (List.mem_singleton_self _)
    obtain ⟨hout, hue⟩ := readUe_hit (s := enterFlight s (arriving s 0x0201 c [])) (unit := 2) hhit
    have himg : (readUe (enterFlight s (arriving s 0x0201 c [])) a n 2).img = s.img := (noted_eq (·.img) hnotes.noted :)
    obtain ⟨t, ht, hans, hre, -⟩ := exec_answers_reacts (i := .imgStage c) rfl h hr (readUe_events _ _ _ _) hout
      (noted_eq (·.regs) hnotes.noted :) (noted_eq (·.tsc) hnotes.noted :) (congrArg (·.act) himg) (noted_eq (·.pending) hnotes.noted :)
    refine ⟨t, ht, hans, ?_, (hre.eq (·.mem.eccUe)).trans hue, fun x hx => ?_⟩
    · rw [hre.eq (·.img), failNoted, himg]
      rfl
    · have hfuse : (failNoted (readUe (enterFlight s (arriving s 0x0201 c [])) a n 2) readFail).fuse = s.fuse := (noted_eq (·.fuse) hnotes.noted :)
      rw [hre.keeps.reserved (by rw [reservedBase_fuse (s := s) hfuse]; exact hx), rd]
      exact congrArg (fun d => mapGet dramDefault d x) hnotes.dram

end Sys2Proof.Machine
end


section
/-! The end of QUIESCED aborts the composer's pass, which may raise a fault of a class that the image gives (R79, R158). -/

namespace Sys2Proof.Machine

/-- QUIESCED of an activation is at work while a pass runs whose KTC tile does not decode; the image gives fault 0x2A the class
FATAL. -/
def fatalTileQuiesced : State :=
  { tsc := 1, ftgOn := true
    img := { cfg := some { topo := { videoMask := 1 } }, state := .quiesced, act := some { kind := .activate, cmdId := none, cause := 0 } }
    flt := { map := (List.replicate 256 {}).set 0x2A { cls := 2 } }
    cmp := { pass := some badTilePass } }

theorem switching_fatalTileQuiesced : Switching fatalTileQuiesced := ⟨rfl, rfl, rfl, fun _ h => by cases h⟩

set_option maxRecDepth 20000 in
theorem state_fatalTileQuiesced : (finish fatalTileQuiesced (quiescedDone fatalTileQuiesced)).img.state = .quiesced := by decide

/-- Refutes O29: QUIESCED's end stops FTG0 and with it the pass that runs; what the pass has fetched is judged, and fault 0x2A
has the class that the image gives it. In `fatalTileQuiesced` that is FATAL, which reverts the activation in the same command:
it stands in QUIESCED again, not in SWITCHED. -/
theorem not_activationsRunTheirCourse : ¬ Obligations.ActivationsRunTheirCourse := by
  unfold Obligations.ActivationsRunTheirCourse
  rintro ⟨hdone, -⟩
  obtain ⟨t, ht, hstate, -⟩ := hdone fatalTileQuiesced _ switching_fatalTileQuiesced rfl rfl
  obtain rfl : finish fatalTileQuiesced (quiescedDone fatalTileQuiesced) = t := Host.Outcome.next.inj ht
  rw [state_fatalTileQuiesced] at hstate
  exact absurd hstate (by decide)

end Sys2Proof.Machine
end


section
/-! The end of a command during an activation: what records no fatal fault leaves the activation on its way (R79). -/

namespace Sys2Proof.Machine

variable {s t a r : State}

/-! ### Classes of new records in the log -/

/-- Every record of `t`'s log that `s`'s did not hold is of no fatal fault. -/
def LogsMild (s t : State) : Prop := ∀ q ∈ t.flt.log, q ∈ s.flt.log ∨ q.cls ≠ 2

theorem LogsMild.same (h : t.flt.log = s.flt.log) : LogsMild s t := fun _ hq => .inl (h ▸ hq)

theorem LogsMild.trans {u : State} (h1 : LogsMild s t) (h2 : LogsMild t u) : LogsMild s u :=
  fun q hq => (h2 q hq).elim (h1 q) .inr

theorem Mild.logs (h : Mild s t) : LogsMild s t := .same (congrArg Flt.log h.flt)

theorem LogsMild.ite {x y : State} (c : Prop) [Decidable c] (hx : LogsMild s x) (hy : LogsMild s y) : LogsMild s (if c then x else y) := by
  split <;> assumption

theorem logRecord_logs (s : State) {rc : FaultRec} (h : rc.cls ≠ 2) : LogsMild s (logRecord s rc) := by
  unfold logRecord
  extract_lets s1 s2
  have h1 : LogsMild s s1 := fun q hq => (List.mem_cons.mp (List.mem_of_mem_take hq)).elim (fun he => .inr (he ▸ h)) .inl
  have h2 : LogsMild s1 s2 := .ite _ (bump_mild _ _).logs (.same rfl)
  split
  · have h3 : LogsMild s2 (extNote s2 rc) := .same rfl
    exact ((h1.trans h2).trans h3).trans (.same (congrArg Flt.log (wrBytes_flt (extNote s2 rc) _ _).1))
  · exact h1

theorem publish_logs (s : State) {rc : FaultRec} (h : rc.cls ≠ 2) (coal : Bool) : LogsMild s (publish s rc coal) := by
  unfold publish
  extract_lets s1
  have h1 : LogsMild s s1 := (bump_mild _ _).logs.trans (logRecord_logs _ h)
  exact .ite _ (bump_mild _ _).logs (.ite _ h1 ((h1.trans (post_mild _ _ _ _).logs).trans (signal_mild _ _).logs))

theorem countReport_logs (s : State) (q : Report) : LogsMild s (countReport s q) := by
  unfold countReport
  extract_lets s1 s2
  have h1 : LogsMild s s1 := (bump_mild _ _).logs
  have h2 : LogsMild s1 s2 := .ite _ (bump_mild _ _).logs (.same rfl)
  exact .ite _ ((h1.trans h2).trans (bump_mild _ _).logs) (h1.trans h2)

theorem noteSource_logs (s : State) (q : Report) (rc : FaultRec) (coal : Bool) : LogsMild s (noteSource s q rc coal) := by
  unfold noteSource
  exact .ite _ (.same rfl) (.same rfl)

/-- The record of a report of no fatal source. -/
theorem recordReport_logs (several : Bool) (s : State) {q : Report} (h : (sourceCfg s q.source).1 ≠ 2) :
    LogsMild s (recordReport several s q) := by
  unfold recordReport
  extract_lets rc coal
  have hc : LogsMild s (captureFirst s rc) := .ite _ (.same rfl) (.same rfl)
  exact ((hc.trans (countReport_logs _ _)).trans (noteSource_logs _ _ _ _)).trans (publish_logs _ h _)

/-- No report is of a source that the image or the device holds fatal. -/
def noFatal (s : State) : Prop := ∀ q ∈ s.reports, (sourceCfg s q.source).1 ≠ 2

theorem sourceCfg_map (h : t.flt.map = s.flt.map) (src : Nat) : sourceCfg t src = sourceCfg s src := by
  simp only [sourceCfg, h]

theorem Keeps.noFatal (k : Keeps s t) (h : Machine.noFatal s) : Machine.noFatal t := by
  intro q hq
  rw [sourceCfg_map k.map]
  rcases k.reports q hq with hq | rfl
  · exact h q hq
  · rw [sourceCfg_fixed (e := (0x12, 0, 0)) rfl]
    exact Nat.zero_ne_add_one 1

theorem foldl_logs (several : Bool) (l : List Report) (s : State) (h : ∀ q ∈ l, (sourceCfg s q.source).1 ≠ 2) :
    LogsMild s (l.foldl (recordReport several) s) := by
  induction l generalizing s with
  | nil => exact .same rfl
  | cons q l ih =>
    refine (recordReport_logs several s (h q (List.mem_cons_self ..))).trans (ih _ fun x hx => ?_)
    rw [sourceCfg_map (recordReport_records several s q).keeps.map]
    exact h x (List.mem_cons_of_mem _ hx)

theorem collectOnce_logs (hh : harmless s) (h : noFatal s) : LogsMild s (collectOnce s) := by
  have hr := records_reacts s (decide (2 ≤ (orderReports s s.reports).length)) (orderReports s s.reports)
  unfold collectOnce
  extract_lets l s1
  have hl : ∀ q ∈ l, q.reactionAs = none → reactionOf s1 q = 0 := by
    intro q hmem hn
    rw [reactionOf_map hr.keeps.map]
    exact orderReports_forall (P := fun q => q.reactionAs = none → reactionOf s q = 0) (fun _ hq => hq) s s.reports hh q hmem hn
  have hc : ∀ q ∈ l, (sourceCfg s q.source).1 ≠ 2 :=
    orderReports_forall (P := fun q => (sourceCfg s q.source).1 ≠ 2) (fun _ hq => hq) s s.reports h
  rw [applyReactions_none hl]
  exact (LogsMild.same (t := { s with reports := [] }) rfl).trans (foldl_logs _ l _ hc)

theorem collect_logs (hh : harmless s) (h : noFatal s) : LogsMild s (collect s) := by
  have many : ∀ n x, harmless x → noFatal x → LogsMild x (collectN n x) := by
    intro n
    induction n with
    | zero => exact fun x _ _ => .same rfl
    | succ k ih =>
      intro x hx hf
      have hk := (collectOnce_records hx).keeps
      unfold collectN
      exact .ite _ (.same rfl) ((collectOnce_logs hx hf).trans (ih _ (hk.harmless hx) (hk.noFatal hf)))
  exact many 4 s hh h

/-! ### The end of a command that records no fatal fault -/

/-- The units that the exit conditions look at stand as before. -/
structure UnitsSame (a s : State) : Prop where
  plk : s.plk = a.plk
  hls : s.hls.mode = a.hls.mode
  stop : s.thm.stop = a.thm.stop
  bank : s.lsd.bank = a.lsd.bank

theorem UnitsSame.of_calm (h : UnitsSame a s) (hc : calm t = calm s) : UnitsSame a t where
  plk := (calm_eq (·.plk) hc).trans h.plk
  hls := (calm_eq (·.hls.mode) hc).trans h.hls
  stop := (calm_eq (·.thm.stop) hc).trans h.stop
  bank := (calm_eq (·.lsd.bank) hc).trans h.bank

theorem settle_unfatal (hu : UnitsSame a (collect s)) (hl : ∀ q ∈ (collect s).flt.log, q.cls ≠ 2) : settle a s = collect s := by
  have hn : newFatal a (collect s) = false := by
    have hany : ((collect s).flt.log.takeWhile (fun q => q.seq != a.flt.head)).any (fun q => q.cls == 2 && !q.silent) = false := by
      rw [List.any_eq_false]
      intro q hq
      simp [hl q ((List.takeWhile_prefix _).subset hq)]
    rw [newFatal, hany, Bool.and_false]
  have hq := collect_quiet (collect_reports s)
  simp only [settle, hn, Bool.false_eq_true, if_false, exitConditions_quiet hu.plk hu.hls hu.stop (rearmed_same hu.bank), hq]

/-- The end of a command that reports no reaction and no fatal fault is the collector's work, an activation or not. -/
theorem finish_unfatal (w : noWait r) (hh : harmless r) (hf : noFatal r) (hl : ∀ q ∈ r.flt.log, q.cls ≠ 2) (hu : UnitsSame a r)
    (hq : r.pending = a.pending) : finish a r = collect r := by
  have hrec : Records r (collect r) := collect_records hh
  have hlog : ∀ q ∈ (collect r).flt.log, q.cls ≠ 2 := fun q hq => (collect_logs hh hf q hq).elim (hl q) id
  have h1 : settle a r = collect r := settle_unfatal (hu.of_calm hrec.calm) hlog
  have hc : collect (collect r) = collect r := collect_quiet (collect_reports r)
  have h2 : settle (collect r) (collect r) = collect r :=
    (settle_unfatal (by rw [hc]; exact ⟨rfl, rfl, rfl, rfl⟩) (by rwa [hc])).trans hc
  unfold finish
  rw [h1]
  dsimp only
  rw [startWaiting_quiet _ (hrec.keeps.waits w), h2, withQueue, ← hq]
  have hp : (collect r).pending = r.pending := calm_eq (·.pending) hrec.calm
  rw [← hp]

/-- What the end of a command leaves that reports no reaction and no fatal fault. -/
structure EndsMild (r t : State) : Prop where
  records : Records r t
  settled : t.reports = []
  marks : ∀ src, src < 256 → (∃ q ∈ r.reports, q.source = src ∧ q.injected = false) → (sourceCfg r src).1 ≠ 0 →
    (srcAt t src).pending = true

theorem collect_endsMild (hh : harmless r) : EndsMild r (collect r) where
  records := collect_records hh
  settled := collect_reports r
  marks _ hs hr hc := (collect_marks hs hr hc).1

variable {i : Instr} {f : State → State}

/-- An event of a running module that reports no reaction and no fatal fault, during an activation or not. -/
theorem exec_switching (hi : exec i s = .next (event s f)) (h : Switching s) (hr : f s = r) (w : noWait r) (hh : harmless r)
    (hf : noFatal r) (hl : r.flt.log = s.flt.log) (hu : UnitsSame s r) (hq : r.pending = s.pending) :
    ∃ t, exec i s = .next t ∧ EndsMild r t :=
  ⟨_, by rw [hi, event_running h.power, hr, finish_unfatal w hh hf (by rw [hl]; exact h.log) hu hq], collect_endsMild hh⟩

/-- The same of the host interface. -/
theorem exec_host_switching (hi : exec i s = .next (hostEvent s f)) (h : s.boot.power ≠ .heldInReset) (hr : f s = r) (w : noWait r)
    (hh : harmless r) (hf : noFatal r) (hl : ∀ q ∈ r.flt.log, q.cls ≠ 2) (hu : UnitsSame s r) (hq : r.pending = s.pending) :
    ∃ t, exec i s = .next t ∧ EndsMild r t :=
  ⟨_, by rw [hi, hostEvent_up h, hr, finish_unfatal w hh hf hl hu hq], collect_endsMild hh⟩

end Sys2Proof.Machine
end


section
/-! IMG_ACTIVATE (R72, R73, R76, R78), and what entering a state of the image leaves (R75, R87). -/

namespace Sys2Proof.Machine

variable {s r : State} {op : Nat} {c : Cmd} {sh : List (Nat × Nat)} {st : Status} {res : List Byte}

/-! ### Entering a state -/

/-- The image unit in a state entered with a record, before its event. -/
def imgEntered (s : State) (st : ImgState) (cause : Nat) (activating : Bool) : State :=
  { writeRecord s st cause activating with img := { (writeRecord s st cause activating).img with
      state := st, quiescedAt := if st == .quiesced then s.tsc else s.img.quiescedAt } }

theorem enterImg_posts (s : State) (st : ImgState) (cause : Nat) (activating : Bool) :
    Posts (imgEntered s st cause activating) (enterImg s st cause activating) :=
  (post_posts _ _ _ _).trans (signal_posts _ _)

/-- A message command that goes on, as the only one in flight, and reports no reaction and no fatal fault. -/
theorem exec_goes_on {i : Instr} (hi : exec i s = .next (hostEvent s (fun s => message s op c sh))) (hfetch : canFetch s = true)
    (halone : s.hmi.inFlight = []) (hhead : headerCheck s op c = none)
    (hr : runOp (enterFlight s (arriving s op c sh)) (arriving s op c sh) = (r, .later))
    (hflight : r.hmi.inFlight = [arriving s op c sh]) (hh : harmless r) (hf : noFatal r) (hl : ∀ q ∈ r.flt.log, q.cls ≠ 2)
    (hu : UnitsSame s r) (hq : r.pending = s.pending) : ∃ t, exec i s = .next t ∧ EndsMild r t := by
  refine exec_host_switching hi (canFetch_host hfetch) ?_ (by rw [noWait, hflight]; rfl) hh hf hl hu hq
  have hw : mustWait s.hmi.inFlight (arriving s op c sh) = false := by rw [halone]; simp [mustWait]
  rw [message, if_pos hfetch, accept]
  simp only [dupTag_alone halone, hhead]
  show (if (arriving s op c sh).dup = true then _ else if mustWait s.hmi.inFlight (arriving s op c sh) = true then _ else
    startCmd (enterFlight s (arriving s op c sh)) (arriving s op c sh)) = _
  rw [hw, startCmd_alone halone rfl, hr]
  rfl

/-- A message command that enters a state of the image and goes on. -/
theorem exec_enters {i : Instr} {x : State} {ims : ImgState} {cause : Nat} {activating : Bool}
    (hi : exec i s = .next (hostEvent s (fun s => message s op c sh))) (hrep : s.reports = []) (hfetch : canFetch s = true)
    (halone : s.hmi.inFlight = []) (hhead : headerCheck s op c = none)
    (hr : runOp (enterFlight s (arriving s op c sh)) (arriving s op c sh) = (enterImg x ims cause activating, .later))
    (hx : x = { enterFlight s (arriving s op c sh) with img := x.img }) (hl : ∀ q ∈ s.flt.log, q.cls ≠ 2) :
    ∃ t, exec i s = .next t ∧ t.img = (imgEntered x ims cause activating).img ∧ t.hmi.inFlight = [arriving s op c sh] ∧
      calm t = calm { s with img := t.img } := by
  have hp := enterImg_posts x ims cause activating
  have hcalm : calm (imgEntered x ims cause activating) = calm { s with img := (imgEntered x ims cause activating).img } := by
    rw [hx]; rfl
  have hflight : (enterImg x ims cause activating).hmi.inFlight = [arriving s op c sh] := by
    rw [hp.flight, hx]
    show s.hmi.inFlight ++ _ = _
    rw [halone]
    rfl
  have hnil : (imgEntered x ims cause activating).reports = [] := by rw [hx]; exact hrep
  have hlog : (enterImg x ims cause activating).flt.log = s.flt.log := by
    obtain ⟨o, m, ta, rr, hfr⟩ := hp.frame
    rw [hfr, hx]
    rfl
  have hcalm' : calm (enterImg x ims cause activating) = calm { s with img := (imgEntered x ims cause activating).img } :=
    hp.calm.trans hcalm
  obtain ⟨t, ht, hends⟩ := exec_goes_on hi hfetch halone hhead hr hflight (hp.harmless hnil)
    (hp.records.keeps.noFatal (fun q hq => by rw [hnil] at hq; cases hq)) (by rw [hlog]; exact hl)
    ⟨(calm_eq (·.plk) hcalm' :), (calm_eq (·.hls.mode) hcalm' :), (calm_eq (·.thm.stop) hcalm' :), (calm_eq (·.lsd.bank) hcalm' :)⟩
    (calm_eq (·.pending) hcalm' :)
  have hrec := hp.records.trans hends.records
  have himg : t.img = (imgEntered x ims cause activating).img := calm_eq (·.img) hrec.calm
  exact ⟨t, ht, himg, hends.records.flight.trans hflight, by rw [himg]; exact hrec.calm.trans hcalm⟩

/-! ### IMG_ACTIVATE -/

theorem failNoted_replies (s : State) (f : CheckFail) : (imgNow (noteFail s (some f)) f.code) = (failNoted s f, .now f.code []) := rfl

/-- The activation that IMG_ACTIVATE begins, before VERIFIED is entered. -/
def activating (s : State) (id ms : Nat) : State :=
  { s with img := { s.img with
    failStep := 0, failCode := 0, failSection := 0, act := some { kind := .activate, cmdId := some id, cause := 0 },
    erasing := false, trialMs := if ms = 0 then regN s 0x20010 else ms } }

section
variable {id : Nat} {p : List Byte} (hms : leAt p 0 4 = 0 ∨ (1000 ≤ leAt p 0 4 ∧ leAt p 0 4 ≤ 600000)) (hact : s.img.act = none)
  (hconf : s.img.confirmId = none) (hst : s.img.roles.staged < 3)
include hms hact hconf hst

theorem runActivate_unmirrored (hm : s.img.mirrorDone = false) : runActivate s id p = imgNow s .busy := by
  have hrange : ¬(leAt p 0 4 ≠ 0 ∧ (leAt p 0 4 < 1000 ∨ 600000 < leAt p 0 4)) := by omega
  have hbusy : ¬(imgBusy s || s.img.confirmId.isSome) = true := by simp [imgBusy, hact, hconf]
  simp only [runActivate, if_neg hrange, if_neg hbusy, if_neg (Nat.not_le.mpr hst), hm, Bool.not_false, if_true]

theorem runActivate_checked (hm : s.img.mirrorDone = true) : runActivate s id p =
    match activateVerdict s with
    | some f => imgNow (noteFail (readUe s (slotDram s s.img.roles.staged) (slotLength s s.img.roles.staged) 2) (some f)) f.code
    | none => (enterImg (activating s id (leAt p 0 4)) .verified 0 true, .later) := by
  have hrange : ¬(leAt p 0 4 ≠ 0 ∧ (leAt p 0 4 < 1000 ∨ 600000 < leAt p 0 4)) := by omega
  have hbusy : ¬(imgBusy s || s.img.confirmId.isSome) = true := by simp [imgBusy, hact, hconf]
  simp only [runActivate, if_neg hrange, if_neg hbusy, if_neg (Nat.not_le.mpr hst), hm, Bool.not_true, Bool.false_eq_true, if_false]
  cases activateVerdict s <;> rfl

theorem runActivate_begins (hm : s.img.mirrorDone = true) (hclean : slotBad s s.img.roles.staged = false)
    (hpass : fullChecks s (slotReader s s.img.roles.staged) = none) :
    runActivate s id p = (enterImg (activating s id (leAt p 0 4)) .verified 0 true, .later) := by
  have hv : activateVerdict s = none := by simp only [activateVerdict, hclean, Bool.false_eq_true, if_false, hpass]
  rw [runActivate_checked hms hact hconf hst hm, hv]

theorem runActivate_fails {f : CheckFail} (hm : s.img.mirrorDone = true) (hclean : slotBad s s.img.roles.staged = false)
    (hfail : fullChecks s (slotReader s s.img.roles.staged) = some f) : runActivate s id p = (failNoted s f, .now f.code []) := by
  have hv : activateVerdict s = some f := by simp only [activateVerdict, hclean, Bool.false_eq_true, if_false, hfail]
  rw [runActivate_checked hms hact hconf hst hm, hv]
  dsimp only
  rw [readUe_clean hclean]
  rfl

theorem runActivate_hits (hm : s.img.mirrorDone = true) (hbad : slotBad s s.img.roles.staged = true) : runActivate s id p =
    (failNoted (readUe s (slotDram s s.img.roles.staged) (slotLength s s.img.roles.staged) 2) readFail, .now .checkFail []) := by
  have hv : activateVerdict s = some readFail := by simp only [activateVerdict, hbad, if_true]
  rw [runActivate_checked hms hact hconf hst hm, hv]
  rfl

end

/-- Settles O27: IMG_ACTIVATE is its verdict; VERIFIED's event is all that follows it. -/
theorem activationBeginsWithEveryCheck : Obligations.ActivationBeginsWithEveryCheck := by
  unfold Obligations.ActivationBeginsWithEveryCheck
  refine ⟨fun s c h hms hconf hst hm => ?mirror, fun s c h hms hconf hst hm hlog hclean => ?checked,
    fun s c h hms hconf hst hm hbad => ?hit⟩
  case mirror =>
    exact exec_replies (e := { s with img := { s.img with lastResult := 5 } }) (i := .imgActivate c) rfl h
      ((h.on []).trans (runActivate_unmirrored (s := enterFlight s (arriving s 0x0202 c [])) hms h.act hconf hst hm))
  case checked =>
    cases hv : fullChecks s (slotReader s s.img.roles.staged) with
    | none =>
      obtain ⟨t, ht, himg, hflight, hcalm⟩ := exec_enters (i := .imgActivate c) rfl h.reports h.fetch h.alone h.header
        ((h.on []).trans (runActivate_begins (s := enterFlight s (arriving s 0x0202 c [])) hms h.act hconf hst hm hclean hv)) rfl hlog
      refine ⟨t, ht, hcalm, fun _ => ⟨?_, ?_, ?_, ?_, ?_, ?_, hflight⟩, fun f hf => (Option.some_ne_none f hf.symm).elim⟩
      all_goals rw [himg]
      · rfl
      · rfl
      · rfl
      · rfl
      · exact List.length_append
      · rfl
    | some f =>
      have hr := (h.on []).trans (runActivate_fails (s := enterFlight s (arriving s 0x0202 c [])) (id := s.hmi.nextId) hms h.act hconf
        hst hm hclean hv)
      obtain ⟨t, ht, hans, hcalm, hk⟩ := exec_answers (i := .imgActivate c) rfl h hr .units
      have himg : t.img = (failNoted s f).img := (calm_eq (·.img) hcalm :)
      refine ⟨t, ht, ?_, fun hn => (Option.some_ne_none f hn).elim, fun g hg => ?_⟩
      · rw [hcalm, himg]
        rfl
      · obtain rfl := Option.some.inj hg
        exact ⟨hans, himg⟩
  case hit =>
    have hr := (h.on []).trans (runActivate_hits (s := enterFlight s (arriving s 0x0202 c [])) (id := s.hmi.nextId) hms h.act hconf
      hst hm hbad)
    have hhit : readHits (enterFlight s (arriving s 0x0202 c [])) (slotDram s s.img.roles.staged) (slotLength s s.img.roles.staged) =
      true := hbad
    have hnotes := readUe_notes (L := [0x21]) (enterFlight s (arriving s 0x0202 c [])) (slotDram s s.img.roles.staged)
      (slotLength s s.img.roles.staged) 2 (List.mem_singleton_self _)
    obtain ⟨hout, hue⟩ := readUe_hit (s := enterFlight s (arriving s 0x0202 c [])) (unit := 2) hhit
    have himg : (readUe (enterFlight s (arriving s 0x0202 c [])) (slotDram s s.img.roles.staged) (slotLength s s.img.roles.staged) 2).img =
      s.img := (noted_eq (·.img) hnotes.noted :)
    obtain ⟨t, ht, hans, hre, -⟩ := exec_answers_reacts (i := .imgActivate c) rfl h hr (readUe_events _ _ _ _) hout
      (noted_eq (·.regs) hnotes.noted :) (noted_eq (·.tsc) hnotes.noted :) (congrArg (·.act) himg) (noted_eq (·.pending) hnotes.noted :)
    refine ⟨t, ht, hans, ?_, (hre.eq (·.mem.eccUe)).trans hue⟩
    rw [hre.eq (·.img)]
    exact congrArg (fun m : Img => { m with lastResult := 11, failStep := 5, failCode := 11, failSection := 0 }) himg

end Sys2Proof.Machine
end


section
/-! The journal in flash (R72, R75, R76). -/

namespace Sys2Proof.Machine

variable {s : State}

/-! ### Steps of an activation on its way -/

theorem Switching.quiet {r : State} (h : Switching s) (hr : r.reports = s.reports := by rfl) (hd : r.flt.head = s.flt.head := by rfl)
    (hp : r.plk = s.plk := by rfl) (hm : r.hls.mode = s.hls.mode := by rfl) (ht : r.thm.stop = s.thm.stop := by rfl)
    (hb : r.lsd.bank = s.lsd.bank := by rfl) (hw : r.hmi.inFlight = s.hmi.inFlight := by rfl) : Quiet s r :=
  ⟨hr.trans h.reports, hd, hp, hm, ht, rearmed_same hb, by rw [hw]; exact h.waits⟩

/-- An event during an activation that leaves alone all that the end of a command looks at. -/
theorem exec_switching_quiet {i : Instr} {f : State → State} {r : State} (hi : exec i s = .next (event s f)) (h : Switching s)
    (hf : f s = r) (q : Quiet s r) (hq : r.pending = s.pending := by rfl) : exec i s = .next r := by
  subst hf
  rw [hi, event_running h.power, finish_quiet q, ← hq]
  rfl

/-- An event during an activation that enters a state of the image. -/
theorem exec_switching_enters {i : Instr} {f : State → State} {x : State} {ims : ImgState} {cause : Nat} {activating : Bool}
    (hi : exec i s = .next (event s f)) (h : Switching s) (hf : f s = enterImg x ims cause activating)
    (hx : x.hmi.inFlight = s.hmi.inFlight) (hr : x.reports = []) (hlog : x.flt.log = s.flt.log) (hu : UnitsSame s x)
    (hq : x.pending = s.pending) : ∃ t, exec i s = .next t ∧ EndsMild (enterImg x ims cause activating) t ∧
      Records (imgEntered x ims cause activating) t := by
  have hp := enterImg_posts x ims cause activating
  have hk := hp.records.keeps
  have hl : (enterImg x ims cause activating).flt.log = s.flt.log := by
    obtain ⟨o, m, ta, rr, hfr⟩ := hp.frame
    rw [hfr, ← hlog]
    rfl
  obtain ⟨t, ht, hends⟩ := exec_switching hi h hf
    (hk.waits (by show List.all x.hmi.inFlight _ = true; rw [hx]; exact h.waits)) (hp.harmless hr)
    (hk.noFatal (fun q hq => by rw [show (imgEntered x ims cause activating).reports = x.reports from rfl, hr] at hq; cases hq)) hl
    (UnitsSame.of_calm (s := imgEntered x ims cause activating) ⟨hu.plk, hu.hls, hu.stop, hu.bank⟩ hp.calm)
    ((calm_eq (·.pending) hp.calm).trans hq)
  exact ⟨t, ht, hends, hp.records.trans hends.records⟩

/-! ### Records in flash -/

/-- The journal with a record behind the others of its active partition, the oldest append done. -/
def appended (s : State) (r : JRec) (l : List Append) : State :=
  appendFlash { s with img := { s.img with appends := l } } r

theorem appended_frame (s : State) (r : JRec) (l : List Append) :
    (∃ i, appended s r l = { s with img := i, outs := (appended s r l).outs } ∧ i.appends = l ∧ i.seq = s.img.seq ∧ i.act = s.img.act ∧
      i.roles = s.img.roles ∧ i.mirroring = s.img.mirroring) ∧
    jrnActive (appended s r l) = jrnActive s ++ [jrecBytes r] := by
  have hb : ∀ b, s.img.jrnActiveB = b → appended s r l = emit { s with img := { s.img with
      appends := l
      jrnA := if b then s.img.jrnA else s.img.jrnA ++ [jrecBytes r]
      jrnB := if b then s.img.jrnB ++ [jrecBytes r] else s.img.jrnB } }
      (.flash (jrnFlash s.img.jrnActiveB + 64 * (jrnActive { s with img := { s.img with appends := l } }).length) 1) := by
    intro b hb
    unfold appended appendFlash
    cases b
    · rw [if_neg (by rw [hb]; decide)]; rfl
    · rw [if_pos hb]; rfl
  rw [hb _ rfl]
  refine ⟨⟨_, rfl, rfl, rfl, rfl, rfl, rfl⟩, ?_⟩
  show (if s.img.jrnActiveB = true then _ else _) = (if s.img.jrnActiveB = true then _ else _) ++ _
  split
  · next hb => simp [hb]
  · next hb => simp [hb]

theorem eraseCheck_room (h : (jrnActive s).length < 768) : eraseCheck s = s := by
  unfold eraseCheck
  exact if_neg fun hc => absurd hc.1 (Nat.not_le.mpr h)

theorem eraseCheck_busy (h : s.img.act.isSome = true) : eraseCheck s = s := by
  unfold eraseCheck
  exact if_neg fun hc => by rw [hc.2.2] at h; cases h

theorem appendDone_ok {a : Append} {l : List Append} (h : s.img.appends = a :: l) :
    appendDone s true = eraseCheck (afterAppend (appended s a.record l) a.record) := by
  rw [appendDone, h]
  rfl

/-- A record that another has followed begins nothing. -/
theorem afterAppend_old {r : JRec} (hs : r.state ≠ .staged) (hq : r.seq ≠ s.img.seq) : afterAppend s r = s := by
  rw [afterAppend, if_neg hs, if_pos hq]

/-- VERIFIED's record in flash begins QUIESCED. -/
theorem afterAppend_verified {r : JRec} (hs : r.state = .verified) (hq : r.seq = s.img.seq) (ha : s.img.act.isSome = true) :
    afterAppend s r = enterImg s .quiesced 0 true := by
  obtain ⟨a, ha⟩ := Option.isSome_iff_exists.mp ha
  simp [afterAppend, hs, hq, ha]

/-- An append that has failed twice, with its report, before what follows it. -/
def appendLost (s : State) (a : Append) (l : List Append) : State :=
  report { s with img := { s.img with appends := l } } { source := 0xC2, address := a.record.seq }

theorem appendDone_lost {a : Append} {l : List Append} (h : s.img.appends = a :: l) (hr : a.retried = true) :
    appendDone s false = appendFailed (appendLost s a l) a := by
  simp only [appendDone, h, hr, Bool.false_eq_true, if_false, if_true, appendLost]

theorem appendFailed_staged {a : Append} (hs : a.record.state = .staged) (hq : a.record.seq = s.img.seq) :
    appendFailed s a = withdraw s a := by
  simp [appendFailed, hs, hq]

theorem withdraw_frame (s : State) (a : Append) : ∃ i, withdraw s a = { s with img := i } ∧ i.appends = s.img.appends ∧
    i.act = s.img.act ∧ i.aonRec = (a.before.map jrecBytes).getD [] := by
  unfold withdraw
  cases a.before with
  | some b => exact ⟨_, rfl, rfl, rfl, rfl⟩
  | none => exact ⟨_, rfl, rfl, rfl, rfl⟩

/-- The staged image's bytes stand in its flash partition. -/
def mirrorEnded (s : State) : State :=
  { s with
    outs := .flash (imgFlash s.img.roles.staged) 3 :: s.outs
    img := { s.img with
      mirroring := false
      flash := vset s.img.flash s.img.roles.staged
        (bytesOf (slotReader s s.img.roles.staged) 0 (imgLength (slotReader s s.img.roles.staged))) } }

theorem mirrorFinished_done (hm : s.img.mirroring = true) (hs : s.img.roles.staged < 3) (ha : s.img.act = none)
    (hc : s.img.confirmId = none) : mirrorFinished s = enterImg (mirrorEnded s) .staged 0 false := by
  rw [mirrorFinished, if_pos ⟨hm, hs, ha, hc⟩]
  rfl

/-- Settles O28: a record in flash is appended first, and what it begins follows. -/
theorem journalRecordsReachFlash : Obligations.JournalRecordsReachFlash := by
  unfold Obligations.JournalRecordsReachFlash
  refine ⟨fun s h hm hs hc => ?mirror, fun s a l h ha hr => ?retry, fun s a l h ha hr hst hq => ?fails,
    fun s a l h ha hq hst hlen => ?old, fun s a l h ha hq hst hact hlen => ?verified, fun s h he => ?erase⟩
  case mirror =>
    have hf := mirrorFinished_done hm hs h.act hc
    have hp := enterImg_posts (mirrorEnded s) .staged 0 false
    obtain ⟨t, ht, hrec, -⟩ := exec_records (i := .mirrorDone) rfl h hf (hp.records.keeps.waits h.waits) (hp.harmless h.reports)
      (calm_eq (·.img.act) hp.calm :) (calm_eq (·.pending) hp.calm :)
    have hall := hp.records.trans hrec
    have himg : t.img = _ := calm_eq (·.img) hall.calm
    refine ⟨t, ht, ?_, ?_, ?_, ?_, ?_, ?_, by rw [himg]; exact hall.calm.trans rfl⟩
    all_goals rw [himg]
    · rfl
    · rfl
    · rfl
    · exact vget_vmod_same _ hs _ _
    · exact List.length_append
    · rfl
  case retry =>
    exact exec_switching_quiet (i := .journalAppendDone false) rfl h (by simp only [appendDone, ha, hr, Bool.false_eq_true, if_false])
      h.quiet
  case fails =>
    obtain ⟨i, hi, happ, hact, haon⟩ := withdraw_frame (appendLost s a l) a
    have hf := (appendDone_lost ha hr).trans ((appendFailed_staged (s := appendLost s a l) hst hq).trans hi)
    have hharm : harmless (report s { source := 0xC2, address := a.record.seq }) :=
      harmless_report (harmless_nil h.reports) rfl
    obtain ⟨t, ht, hrec, -, hmark⟩ := exec_records (i := .journalAppendDone false) rfl h hf h.waits hharm hact rfl
    have himg : t.img = i := calm_eq (·.img) hrec.calm
    refine ⟨t, ht, by rw [himg, happ]; rfl, by rw [himg, haon], (hmark 0xC2 (by decide)
      ⟨{ source := 0xC2, address := a.record.seq }, List.mem_append_right _ (List.mem_singleton_self _), rfl, rfl⟩
      (by rw [sourceCfg_fixed (e := (0xC2, 1, 0)) rfl]; exact Nat.one_ne_zero)).1, by rw [himg]; exact hrec.calm.trans rfl⟩
  case old =>
    obtain ⟨⟨i, hfr, happ, hseq, hact, hroles, -⟩, hj⟩ := appended_frame s a.record l
    have hf : appendDone s true = appended s a.record l := by
      rw [appendDone_ok ha, afterAppend_old hst (by rw [hfr]; exact fun he => hq (he.trans hseq)),
        eraseCheck_room (by rw [hj, List.length_append]; exact Nat.succ_lt_succ hlen)]
    refine ⟨_, exec_switching_quiet (i := .journalAppendDone true) rfl h hf ?_ (by rw [hfr]), by rw [hfr]; exact happ, hj, ?_⟩
    · rw [hfr]; exact h.quiet
    · rw [hfr]
  case verified =>
    obtain ⟨⟨i, hfr, happ, hseq, hact', hroles, -⟩, hj⟩ := appended_frame s a.record l
    have hact1 : (appended s a.record l).img.act.isSome = true := by rw [hfr]; exact hact'.symm ▸ hact
    have hp := enterImg_posts (appended s a.record l) .quiesced 0 true
    have himg1 : (enterImg (appended s a.record l) .quiesced 0 true).img = (imgEntered (appended s a.record l) .quiesced 0 true).img :=
      calm_eq (·.img) hp.calm
    have hf : appendDone s true = enterImg (appended s a.record l) .quiesced 0 true := by
      rw [appendDone_ok ha, afterAppend_verified hst (by rw [hfr]; exact hq.trans hseq.symm) hact1,
        eraseCheck_busy (by rw [himg1]; exact hact1)]
    obtain ⟨t, ht, -, hrec⟩ := exec_switching_enters (i := .journalAppendDone true) rfl h hf (by rw [hfr]) (by rw [hfr]; exact h.reports)
      (by rw [hfr]) (by rw [hfr]; exact ⟨rfl, rfl, rfl, rfl⟩) (by rw [hfr])
    have himg : t.img = (imgEntered (appended s a.record l) .quiesced 0 true).img := calm_eq (·.img) hrec.calm
    refine ⟨t, ht, ?_, ?_, ?_, ?_, ?_, by rw [himg]; exact hrec.calm.trans (by rw [imgEntered, writeRecord, hfr]; rfl)⟩
    · rw [himg]; rfl
    · rw [himg]; exact congrArg (· + 1) ((congrArg (·.img.seq) hfr).trans hseq)
    · rw [jrnActive, himg]; exact hj
    · rw [himg]; exact (congrArg (·.img.act) hfr).trans hact'
    · rw [himg]; exact (congrArg (·.img.roles) hfr).trans hroles
  case erase =>
    have hf : ∃ i, eraseDone s = { s with img := i } ∧ i.erasing = false ∧ (if i.jrnActiveB then i.jrnB else i.jrnA) = [] ∧
        i.jrnActiveB = !s.img.jrnActiveB := by
      unfold eraseDone
      rw [if_pos he]
      cases s.img.jrnActiveB with
      | true => exact ⟨_, rfl, rfl, rfl, rfl⟩
      | false => exact ⟨_, rfl, rfl, rfl, rfl⟩
    obtain ⟨i, hf, h1, h2, h3⟩ := hf
    exact ⟨_, exec_switching_quiet (i := .journalEraseDone) rfl h hf h.quiet, h1, h2, h3, rfl⟩

end Sys2Proof.Machine
end


section
/-! IMG_CONFIRM, IMG_ROLLBACK and IMG_REVOKE_KEY (R68, R78–R81). -/

namespace Sys2Proof.Machine

variable {s r : State} {op : Nat} {c : Cmd} {sh : List (Nat × Nat)} {st : Status} {res : List Byte}

/-! ### Messages during an activation -/

/-- A message command that the module takes up: the header checks pass, and no other is in flight. -/
structure Taken (s : State) (op : Nat) (c : Cmd) : Prop where
  fetch : canFetch s = true
  alone : s.hmi.inFlight = []
  header : headerCheck s op c = none

theorem message_taken (h : Taken s op c) (sh : List (Nat × Nat)) :
    message s op c sh = startCmd (enterFlight s (arriving s op c sh)) (arriving s op c sh) := by
  have hw : mustWait s.hmi.inFlight (arriving s op c sh) = false := by rw [h.alone]; simp [mustWait]
  rw [message, if_pos h.fetch, accept]
  simp only [dupTag_alone h.alone, h.header]
  show (if (arriving s op c sh).dup = true then _ else if mustWait s.hmi.inFlight (arriving s op c sh) = true then _ else
    startCmd (enterFlight s (arriving s op c sh)) (arriving s op c sh)) = _
  rw [hw]
  rfl

/-- A command of the image unit stands in no power domain. -/
theorem runOp_image {f : InFlight} {o : Nat} (ho : f.opcode = o) (h : o / 256 = 2) : runOp s f =
    if f.opcode < 0x0800 then runLow s f (f.cmd.payload.take f.cmd.length.toNat)
    else if f.opcode < 0x0A00 then runMid s f (f.cmd.payload.take f.cmd.length.toNat)
    else runHigh s f (f.cmd.payload.take f.cmd.length.toNat) := by
  refine runOp_on ?_
  simp [opDomains, ho, h]

/-- A message command that answers at once and leaves `e`, during an activation. -/
theorem exec_answers_switching {i : Instr} {e : State} (hi : exec i s = .next (hostEvent s (fun s => message s op c sh)))
    (h : Switching s) (ht : Taken s op c)
    (hr : runOp (enterFlight s (arriving s op c sh)) (arriving s op c sh) = (enterFlight e (arriving s op c sh), .now st res))
    (he : ∃ im, e = { s with img := im }) :
    ∃ t, exec i s = .next t ∧ Answers s t (arriving s op c sh) st res ∧ calm t = calm e := by
  obtain ⟨im, rfl⟩ := he
  have hm : message s op c sh = complete (enterFlight { s with img := im } (arriving s op c sh)) (arriving s op c sh).id st res := by
    rw [message_taken ht, startCmd_alone ht.alone rfl, hr]
  obtain ⟨hidle, hanswer⟩ := complete_alone (s := enterFlight { s with img := im } (arriving s op c sh)) (f := arriving s op c sh)
    (by simp [enterFlight, ht.alone]) (canFetch_queue ht.fetch :) (canFetch_ring ht.fetch :) st res
  have hk := complete_host (enterFlight { s with img := im } (arriving s op c sh)) (arriving s op c sh).id st res
  have hcalm : calm (complete (enterFlight { s with img := im } (arriving s op c sh)) (arriving s op c sh).id st res) =
      calm { s with img := im } := hk.calm
  have hlog : (complete (enterFlight { s with img := im } (arriving s op c sh)) (arriving s op c sh).id st res).flt.log = s.flt.log := by
    obtain ⟨o, m, ta, rr, hfr⟩ := hk.frame
    rw [hfr]
    rfl
  obtain ⟨t, hte, hends⟩ := exec_host_switching hi (canFetch_host ht.fetch) hm (noWait_nil hidle) (hk.keeps.harmless_nil h.reports)
    (hk.keeps.noFatal (fun q hq => by
      rw [show (enterFlight { s with img := im } (arriving s op c sh)).reports = s.reports from rfl, h.reports] at hq; cases hq))
    (by rw [hlog]; exact h.log)
    ⟨(calm_eq (·.plk) hcalm :), (calm_eq (·.hls.mode) hcalm :), (calm_eq (·.thm.stop) hcalm :), (calm_eq (·.lsd.bank) hcalm :)⟩
    (calm_eq (·.pending) hcalm :)
  refine ⟨t, hte, ⟨hends.records.flight.trans hidle, hends.settled, fun hs => ?_⟩, hends.records.calm.trans hcalm⟩
  obtain ⟨l, hl, hmem⟩ := hanswer hs
  obtain ⟨k, hko⟩ := hends.records.keeps.outs
  exact ⟨k ++ l, by rw [← hko, hl, List.append_assoc]; rfl, List.mem_append_right _ hmem⟩

/-! ### A revert begins -/

/-- The revert on its way, its record written, before its report. -/
def reverting (s : State) (cause : Nat) (cmd : Option Nat) : State :=
  bump { s with img := { s.img with act := some { kind := .revert, cmdId := cmd, cause := cause }, erasing := false, trialEnd := none } }
    0x20028

theorem beginRevert_eq (s : State) (cause : Nat) (cmd : Option Nat) : beginRevert s cause cmd =
    imgDone (report (enterImg (reverting s cause cmd) .quiesced cause true)
      { source := 0xC1, address := (enterImg (reverting s cause cmd) .quiesced cause true).img.seq }) (s.img.act.bind (·.cmdId))
      .checkFail [] := rfl

/-- An image command's end beside the result it leaves. -/
theorem imgDone_host (x : State) (id : Option Nat) (st : Status) : ∃ k, HostOnly { x with img := { x.img with lastResult := k } } (imgDone x id st []) ∧
    Uncounted x (imgDone x id st []) := by
  cases id with
  | none => exact ⟨x.img.lastResult, .refl _, .refl _⟩
  | some i => exact ⟨st.code, complete_host _ _ _ _, (complete_uncounted _ _ _ _).after rfl⟩

/-- What the beginning of a revert leaves. -/
structure Reverts (s r : State) (cause : Nat) (cmd : Option Nat) : Prop where
  calm : Machine.calm r = Machine.calm { s with img := r.img }
  state : r.img.state = .quiesced
  act : r.img.act = some { kind := .revert, cmdId := cmd, cause := cause }
  trialEnd : r.img.trialEnd = none
  seq : r.img.seq = s.img.seq + 1
  roles : r.img.roles = s.img.roles
  counted : tally r 0x20028 = min (tally s 0x20028 + 1) tallyMax
  flt : r.flt = s.flt
  waits : noWait s → noWait r
  report : ∃ q ∈ r.reports, q.source = 0xC1 ∧ q.injected = false
  reports : ∀ q ∈ r.reports, (q.source = 0xC1 ∧ q.reactionAs = none) ∨ q = { source := 0x12 }

/-- The image unit with a revert on its way. -/
def revertImg (s : State) (cause : Nat) (cmd : Option Nat) : State :=
  { s with img := { s.img with act := some { kind := .revert, cmdId := cmd, cause := cause }, erasing := false, trialEnd := none } }

/-- The steps of a revert's beginning: its count, its record with the event, its report, the end of the command before it. -/
theorem reverts_of {b n r : State} {cause k : Nat} {cmd : Option Nat} {rep : Report} (h : s.reports = [])
    (hb : Mild (revertImg s cause cmd) b) (hbc : Machine.calm b = Machine.calm (revertImg s cause cmd))
    (hbt : tally b 0x20028 = min (tally s 0x20028 + 1) tallyMax) (hp : Posts (imgEntered b .quiesced cause true) n)
    (hsrc : rep.source = 0xC1) (hinj : rep.injected = false) (hre : rep.reactionAs = none)
    (hd : HostOnly { report n rep with img := { n.img with lastResult := k } } r) (hu : Uncounted (report n rep) r) :
    Reverts s r cause cmd := by
  have himg : b.img = (revertImg s cause cmd).img := calm_eq (·.img) hbc
  have hn : n.img = (imgEntered b .quiesced cause true).img := calm_eq (·.img) hp.calm
  have hr : r.img = { (imgEntered b .quiesced cause true).img with lastResult := k } := by
    rw [← hn]
    exact calm_eq (·.img) hd.calm
  have hlost : ∀ q ∈ n.reports, q = { source := 0x12 } := by
    intro q hq
    rcases hp.reports q hq with hq | rfl
    · rcases hb.reports q hq with hq | rfl
      · rw [show (revertImg s cause cmd).reports = s.reports from rfl, h] at hq
        cases hq
      · rfl
    · rfl
  have hreports : ∀ q ∈ r.reports, q = rep ∨ q = { source := 0x12 } := by
    intro q hq
    rcases hd.reports q hq with hq | rfl
    · rcases List.mem_append.mp hq with hq | hq
      · exact .inr (hlost q hq)
      · exact .inl (List.mem_singleton.mp hq)
    · exact .inr rfl
  have hmem : rep ∈ r.reports := by
    have hone : reportsOf r.reports 0xC1 ≠ 0 := by
      rw [hu.reports 0xC1 (by decide), report_reports, reportsOf_append]
      simp [reportsOf, hsrc]
    by_contra hno
    refine hone ((reportsOf_eq_zero_iff _ _).mpr fun q hq hs => ?_)
    rcases hreports q hq with rfl | rfl
    · exact hno hq
    · exact absurd hs (by decide)
  have hflt : r.flt = s.flt := by
    obtain ⟨_, _, _, _, hfr⟩ := hd.frame
    obtain ⟨_, _, _, _, hpf⟩ := hp.frame
    rw [hfr, report_flt, hpf]
    exact hb.flt
  have hcalm : Machine.calm r = Machine.calm { s with img := r.img } := by
    have h1 : Machine.calm n = Machine.calm { s with img := n.img } := by
      rw [hn]
      exact hp.calm.trans (calm_with_img hbc _)
    have h2 : Machine.calm r = Machine.calm { n with img := r.img } := by
      rw [hr, ← hn]
      exact hd.calm
    exact h2.trans (calm_with_img h1 r.img)
  exact
    { calm := hcalm
      state := by rw [hr]; rfl
      act := by rw [hr]; exact congrArg (·.act) himg
      trialEnd := by rw [hr]; exact congrArg (·.trialEnd) himg
      seq := by rw [hr]; exact congrArg (·.seq + 1) himg
      roles := by rw [hr]; exact congrArg (·.roles) himg
      counted := by
        rw [hd.tallies 0x20028 rfl, ← hbt]
        exact hp.tallies 0x20028 rfl
      flt := hflt
      waits := fun w => hd.waits (hp.host.waits (hb.noWait w))
      report := ⟨rep, hmem, hsrc, hinj⟩
      reports := by
        intro q hq
        rcases hreports q hq with rfl | he
        · exact .inl ⟨hsrc, hre⟩
        · exact .inr he }

theorem beginRevert_reverts (h : s.reports = []) (cause : Nat) (cmd : Option Nat) : Reverts s (beginRevert s cause cmd) cause cmd := by
  obtain ⟨k, hd, hu⟩ := imgDone_host (report (enterImg (reverting s cause cmd) .quiesced cause true)
    { source := 0xC1, address := (enterImg (reverting s cause cmd) .quiesced cause true).img.seq }) (s.img.act.bind (·.cmdId)) .checkFail
  rw [← beginRevert_eq] at hd hu
  exact reverts_of h (bump_mild _ _) (calm_bump _ _) (tally_bump _ _ rfl) (enterImg_posts _ _ _ _) rfl rfl rfl hd hu

theorem Reverts.harmless {cause : Nat} {cmd : Option Nat} (h : Reverts s r cause cmd) : Machine.harmless r := by
  intro q hq hn
  rcases h.reports q hq with ⟨hs, -⟩ | rfl
  · have hcfg := sourceCfg_fixed (src := q.source) (e := (0xC1, 1, 0)) (by rw [hs]; rfl) r
    simp [reactionOf, hn, hcfg]
  · rfl

theorem Reverts.noFatal {cause : Nat} {cmd : Option Nat} (h : Reverts s r cause cmd) : Machine.noFatal r := by
  intro q hq
  rcases h.reports q hq with ⟨hs, -⟩ | rfl
  · rw [hs, sourceCfg_fixed (e := (0xC1, 1, 0)) rfl]
    exact of_decide_eq_true rfl
  · rw [sourceCfg_fixed (e := (0x12, 0, 0)) rfl]
    exact of_decide_eq_true rfl

theorem UnitsSame.img {im : Img} (h : calm r = calm { s with img := im }) : UnitsSame s r :=
  ⟨(calm_eq (·.plk) h :), (calm_eq (·.hls.mode) h :), (calm_eq (·.thm.stop) h :), (calm_eq (·.lsd.bank) h :)⟩

/-! ### The commands -/

theorem runConfirm_inTime {id arrival e : Nat} {p : List Byte} (hs : s.img.state = .trial) (he : s.img.trialEnd = some e)
    (ha : arrival < e) (hv : leAt p 0 4 = roleVersion s s.img.roles.active) : runConfirm s id arrival p =
    (enterImg { s with img := { s.img with
      confirmId := some id, roles := { s.img.roles with staged := 3 }, confRoles := { s.img.roles with staged := 3 } } }
      .confirmed 0 false, .later) := by
  have hn : ¬ e ≤ arrival := Nat.not_le.mpr ha
  simp only [runConfirm, hs, he, Option.elim_some, hn, decide_false, Bool.false_eq_true, if_false, if_true, hv, ne_eq, not_true]
  rfl

theorem runConfirm_late {id arrival e : Nat} {p : List Byte} (hs : s.img.state = .trial) (he : s.img.trialEnd = some e)
    (ha : e ≤ arrival) : runConfirm s id arrival p = imgNow s .timeout := by
  simp only [runConfirm, hs, he, Option.elim_some, ha, decide_true, if_true]

theorem runRollback_begins {id : Nat} (hs : s.img.state ≠ .trial) (ha : s.img.act = none) (hc : s.img.confirmId = none)
    (hp : s.img.roles.previous < 3) :
    runRollback s id = (enterImg (beginAct s { kind := .rollback, cmdId := some id, cause := 2 }) .quiesced 2 true, .later) := by
  simp [runRollback, hs, imgBusy, ha, hc, Nat.not_le.mpr hp]

theorem runRollback_none {id : Nat} (hs : s.img.state ≠ .trial) (ha : s.img.act = none) (hc : s.img.confirmId = none)
    (hp : 3 ≤ s.img.roles.previous) : runRollback s id = imgNow s .badState := by
  simp [runRollback, hs, imgBusy, ha, hc, hp]

theorem runRollback_trial {id : Nat} (hs : s.img.state = .trial) : runRollback s id = (beginRevert s 2 (some id), .later) := by
  rw [runRollback, if_pos hs]

theorem runRevoke_ok {p : List Byte} {k : Nat} (hk : k = leAt p 0 1) (h4 : k < 4)
    (ha : s.img.roles.active < 3 → vget s.img.slotKey s.img.roles.active 4 ≠ k)
    (hp : s.img.roles.previous < 3 → vget s.img.slotKey s.img.roles.previous 4 ≠ k)
    (ho : ∃ j, j < 4 ∧ j ≠ k ∧ (vget s.fuse.keyHash j none).isSome = true ∧ s.fuse.revoked.getLsbD j = false) :
    runRevoke s p = imgNow { s with fuse := { s.fuse with revoked := s.fuse.revoked ||| (1#4 <<< k) } } .ok := by
  have hothers : (List.range 4).any (fun j => j != k && (vget s.fuse.keyHash j none).isSome && !s.fuse.revoked.getLsbD j) = true := by
    obtain ⟨j, hj, hne, hsome, hrev⟩ := ho
    exact List.any_eq_true.mpr ⟨j, List.mem_range.mpr hj, by simp [hne, hsome, hrev]⟩
  have hfree : ∀ role, (role < 3 → vget s.img.slotKey role 4 ≠ k) → (decide (role < 3) && vget s.img.slotKey role 4 == k) = false := by
    intro role h
    by_cases hr : role < 3
    · simp [hr, h hr]
    · simp [hr]
  simp only [runRevoke, ← hk, if_neg (Nat.not_le.mpr h4), hfree _ ha, hfree _ hp, hothers, Bool.not_true, Bool.or_self,
    Bool.false_eq_true, if_false]

/-- Settles O30: what each command leaves follows from the state that it finds and the time it arrives. -/
theorem confirmRollbackAndRevoke : Obligations.ConfirmRollbackAndRevoke := by
  unfold Obligations.ConfirmRollbackAndRevoke
  refine ⟨fun s c e h hf ha hh hs he hlt hv => ?inTime, fun s c e h hf ha hh hs he hle => ?late,
    fun s c h hs hc hp hlog => ?rollback, fun s c h hs hc hp => ?none, fun s c h hf ha hh hs => ?trial,
    fun s c k h hk h4 hact hprev ho => ?revoke⟩
  case inTime =>
    obtain ⟨t, ht, himg, hflight, hcalm⟩ := exec_enters (i := .imgConfirm c) rfl h.reports hf ha hh
      ((runOp_image (s := enterFlight s (arriving s 0x0203 c [])) (f := arriving s 0x0203 c []) (o := 0x0203) rfl rfl).trans
        (runConfirm_inTime (s := enterFlight s (arriving s 0x0203 c [])) (id := s.hmi.nextId) hs he hlt hv)) rfl h.log
    refine ⟨t, ht, ?_, ?_, ?_, ?_, ?_, hflight, hcalm⟩
    all_goals rw [himg]
    all_goals rfl
  case late =>
    exact exec_answers_switching (i := .imgConfirm c) rfl h ⟨hf, ha, hh⟩
      ((runOp_image (s := enterFlight s (arriving s 0x0203 c [])) (f := arriving s 0x0203 c []) (o := 0x0203) rfl rfl).trans
        (runConfirm_late (s := enterFlight s (arriving s 0x0203 c [])) (id := s.hmi.nextId) hs he hle)) ⟨_, rfl⟩
  case rollback =>
    obtain ⟨t, ht, himg, hflight, hcalm⟩ := exec_enters (i := .imgRollback c) rfl h.reports h.fetch h.alone h.header
      ((h.on []).trans (runRollback_begins (s := enterFlight s (arriving s 0x0204 c [])) (id := s.hmi.nextId) hs h.act hc hp)) rfl hlog
    refine ⟨t, ht, ?_, ?_, ?_, ?_, hflight, hcalm⟩
    all_goals rw [himg]
    all_goals rfl
  case none =>
    exact exec_replies (e := { s with img := { s.img with lastResult := 4 } }) (i := .imgRollback c) rfl h
      ((h.on []).trans (runRollback_none (s := enterFlight s (arriving s 0x0204 c [])) (id := s.hmi.nextId) hs h.act hc hp))
  case trial =>
    have hr := beginRevert_reverts (s := enterFlight s (arriving s 0x0204 c [])) h.reports 2 (some s.hmi.nextId)
    have hm : message s 0x0204 c [] = beginRevert (enterFlight s (arriving s 0x0204 c [])) 2 (some s.hmi.nextId) := by
      rw [message_taken ⟨hf, ha, hh⟩, startCmd_alone ha rfl, (runOp_image (s := enterFlight s (arriving s 0x0204 c [])) (f := arriving s 0x0204 c []) (o := 0x0204) rfl rfl).trans
        (runRollback_trial (s := enterFlight s (arriving s 0x0204 c [])) (id := s.hmi.nextId) hs)]
    generalize beginRevert (enterFlight s (arriving s 0x0204 c [])) 2 (some s.hmi.nextId) = r at hr hm
    have hcalm : calm r = calm { s with img := r.img } := hr.calm.trans rfl
    obtain ⟨t, ht, hends⟩ := exec_host_switching (i := .imgRollback c) rfl (canFetch_host hf) hm
      (hr.waits (by simp [noWait, enterFlight, ha, arriving, inFlightOf])) hr.harmless hr.noFatal (by rw [hr.flt]; exact h.log)
      (UnitsSame.img hcalm) (calm_eq (·.pending) hcalm :)
    have himg : t.img = r.img := calm_eq (·.img) hends.records.calm
    refine ⟨t, ht, by rw [himg]; exact hr.state, by rw [himg]; exact hr.act, by rw [himg]; exact hr.trialEnd,
      by rw [himg]; exact hr.roles, by rw [himg]; exact hr.seq, (hends.records.keeps.tallies 0x20028 rfl).trans hr.counted, ?_,
      by rw [himg]; exact hends.records.calm.trans hcalm⟩
    exact hends.marks 0xC1 (by decide) hr.report (by rw [sourceCfg_fixed (e := (0xC1, 1, 0)) rfl]; exact Nat.one_ne_zero)
  case revoke =>
    exact exec_replies (e := { s with
      img := { s.img with lastResult := 0 }
      fuse := { s.fuse with revoked := s.fuse.revoked ||| (1#4 <<< k) } }) (i := .imgRevokeKey c) rfl h
      ((h.on []).trans (runRevoke_ok (s := enterFlight s (arriving s 0x0205 c [])) hk h4 hact hprev ho))

end Sys2Proof.Machine
end


section
/-! Decision points (R33, R34, R44, R395–R400). -/

namespace Sys2Proof.Machine

variable {s : State}

/-! ### What a decision point notes -/

/-- The Reckoner's note of the frame-start conditions, and the decision. -/
def noted33 (s : State) : State :=
  { s with
    rck := { s.rck with
      condCommit := groupPending s (leadGroup s)
      condBuild := groupPending s (leadGroup s) && decide ((evaluate s).notReady &&& groupMembers s (leadGroup s) = 0) }
    ftg := { s.ftg with decided := some (evaluate s) } }

/-- A slave's decision point takes the symbols that have come since the last. -/
def symbolsTaken (s : State) (misses : Nat) : State :=
  { noted33 s with ftg := { (noted33 s).ftg with decidedArr := s.ftg.newArr, newArr := none, anySym := false, missRun := misses } }

theorem evaluate_own (h : s.ftg.mode ≠ 2) : (evaluate s).newFrame =
    ((groupPending s (leadGroup s) && decide (notReadyMask s &&& groupMembers s (leadGroup s) = 0)) || decide (s.rck.k = 15)) ∧
    (evaluate s).notReady = notReadyMask s := by
  unfold evaluate
  extract_lets nr lead last
  rw [if_neg h]
  exact ⟨rfl, rfl⟩

theorem evaluate_slave (h : s.ftg.mode = 2) : (evaluate s).newFrame = (s.ftg.newArr.isSome || decide (s.rck.k = 15)) ∧
    (evaluate s).notReady = notReadyMask s := by
  unfold evaluate
  extract_lets nr lead last
  rw [if_pos h]
  exact ⟨rfl, rfl⟩

theorem decisionPoint_free (hd : decisionDue s = true) (h : s.ftg.mode = 0) : decisionPoint s = noted33 s := by
  rw [decisionPoint, if_pos hd]
  dsimp only
  rw [if_neg (by rw [h]; decide), if_neg (by rw [h]; decide)]
  rfl

theorem decisionPoint_master (hd : decisionDue s = true) (h : s.ftg.mode = 1) :
    decisionPoint s = sendSymbol (noted33 s) (if (evaluate s).newFrame then 48 else 16) := by
  rw [decisionPoint, if_pos hd]
  dsimp only
  rw [if_pos h]
  rfl

theorem decisionPoint_symbol (hd : decisionDue s = true) (h : s.ftg.mode = 2) (ha : s.ftg.anySym = true) :
    decisionPoint s = symbolsTaken s 0 := by
  rw [decisionPoint, if_pos hd]
  dsimp only
  rw [if_neg (by rw [h]; decide), if_pos h]
  simp only [ha, Bool.not_true, Bool.false_and, Bool.false_eq_true, if_false]
  rfl

/-- A decision point without a symbol, before what the second in a row does. -/
def symbolMissed (s : State) : State := bump (symbolsTaken s (s.ftg.missRun + 1)) 0xD00374

theorem symbolMissed_ftg (s : State) : (symbolMissed s).ftg = (symbolsTaken s (s.ftg.missRun + 1)).ftg :=
  calm_eq (·.ftg) (calm_bump _ _)

theorem decisionPoint_miss (hd : decisionDue s = true) (h : s.ftg.mode = 2) (ha : s.ftg.anySym = false) :
    decisionPoint s = if s.ftg.sync = .locked ∧ 1 ≤ s.ftg.missRun then loseLock (symbolMissed s) 2 else symbolMissed s := by
  have hs : (symbolMissed s).ftg.sync = s.ftg.sync := congrArg (·.sync) (symbolMissed_ftg s)
  have hm : (symbolMissed s).ftg.missRun = s.ftg.missRun + 1 := congrArg (·.missRun) (symbolMissed_ftg s)
  have hc : (true && (symbolMissed s).ftg.sync == .locked && decide (2 ≤ (symbolMissed s).ftg.missRun)) =
      decide (s.ftg.sync = .locked ∧ 1 ≤ s.ftg.missRun) := by
    rw [hs, hm, Bool.true_and, Bool.decide_and]
    congr 1
    simp
  rw [decisionPoint, if_pos hd]
  dsimp only
  rw [if_neg (by rw [h]; decide), if_pos h]
  simp only [ha, Bool.not_false, if_true]
  refine (if_congr (Bool.eq_iff_iff.mp hc) rfl rfl).trans ?_
  simp only [decide_eq_true_eq]
  rfl

/-! ### The loss of lock -/

/-- What a slave that loses lock leaves: the genlock state, one report of 0x58, and its count. -/
structure LosesLock (s r : State) : Prop where
  ftg : r.ftg = { s.ftg with realign := false, sync := .searching }
  waits : noWait s → noWait r
  act : r.img.act = s.img.act
  queue : r.pending = s.pending
  counted : tally r 0xD00378 = min (tally s 0xD00378 + 1) tallyMax
  tallies : ∀ off, unitTally off = true → off ≠ 0xD00378 → tally r off = tally s off
  source : sourceTally r 0x58 = sourceTally s 0x58
  reports : noInjection s → noInjection r
  once : reportsOf r.reports 0x58 = reportsOf s.reports 0x58 + 1

theorem loseLock_loses (s : State) (cause : Nat) : LosesLock s (loseLock s cause) := by
  have hp : Posts { s with ftg := { s.ftg with realign := false, sync := .searching } }
    (setSync { s with ftg := { s.ftg with realign := false } } .searching cause) := post_posts _ _ _ _
  have hu : Uncounted { s with ftg := { s.ftg with realign := false, sync := .searching } }
    (setSync { s with ftg := { s.ftg with realign := false } } .searching cause) := post_uncounted _ _ _ _
  rw [loseLock, lockLost]
  generalize setSync { s with ftg := { s.ftg with realign := false } } .searching cause = n at hp hu
  have hm := bump_mild (report n { source := 0x58 }) 0xD00378
  have hc : calm (bump (report n { source := 0x58 }) 0xD00378) = calm { s with ftg := { s.ftg with realign := false, sync := .searching } } :=
    (calm_bump _ _).trans hp.calm
  have hb := bump_uncounted_outside (report n { source := 0x58 }) (off := 0xD00378) (.inr (by decide))
  exact
    { ftg := (calm_eq (·.ftg) hc :)
      waits := fun w => hm.noWait (hp.host.waits w)
      act := (calm_eq (·.img.act) hc :)
      queue := (calm_eq (·.pending) hc :)
      counted := by
        rw [tally_bump _ _ rfl, tally_report, hp.tallies _ rfl]
        rfl
      tallies := fun off hu hne => by
        rw [tally_bump_ne _ hu hne, tally_report, hp.tallies _ hu]
        rfl
      source := (hb.tallies 0x58).trans (hu.tallies 0x58)
      reports := fun h => hm.noInjection (noInjection_report (hp.mild.noInjection h) rfl)
      once := by
        rw [hb.reports 0x58 (by decide), report_reports, reportsOf_append, hu.reports 0x58 (by decide)]
        rfl }

/-- Settles O31: a decision point evaluates once; the slave's second miss in a row loses lock behind it. -/
theorem decisionPointsJudge : Obligations.DecisionPointsJudge := by
  unfold Obligations.DecisionPointsJudge
  refine ⟨fun s h hd hm => ?free, fun s h hd hm => ?master, fun s h hd hm ha => ?symbol, fun s h hd hm ha => ?miss, fun s h hd => ?none⟩
  case free =>
    obtain ⟨hn, hr⟩ := evaluate_own (s := s) (by rw [hm]; decide)
    exact ⟨_, evaluate s, exec_unit_quiet (i := .decisionPoint) rfl h (decisionPoint_free hd hm) h.toSteady.quiet, rfl, hn, hr, rfl⟩
  case master =>
    obtain ⟨hn, hr⟩ := evaluate_own (s := s) (by rw [hm]; decide)
    exact ⟨_, evaluate s, exec_unit_quiet (i := .decisionPoint) rfl h (decisionPoint_master hd hm) h.toSteady.quiet, hn, hr, rfl, rfl⟩
  case symbol =>
    obtain ⟨hn, hr⟩ := evaluate_slave hm
    exact ⟨_, evaluate s, exec_unit_quiet (i := .decisionPoint) rfl h (decisionPoint_symbol hd hm ha) h.toSteady.quiet, rfl, hn, hr,
      rfl⟩
  case miss =>
    have hftg := symbolMissed_ftg s
    have hmild := bump_mild (symbolsTaken s (s.ftg.missRun + 1)) 0xD00374
    have hcalm : calm (symbolMissed s) = calm (symbolsTaken s (s.ftg.missRun + 1)) := calm_bump _ _
    have hcount : tally (symbolMissed s) 0xD00374 = min (tally s 0xD00374 + 1) tallyMax := tally_bump _ _ rfl
    have hdec := decisionPoint_miss hd hm ha
    by_cases hl : s.ftg.sync = .locked ∧ 1 ≤ s.ftg.missRun
    · rw [if_pos hl] at hdec
      have hlose := loseLock_loses (symbolMissed s) 2
      generalize loseLock (symbolMissed s) 2 = r at hdec hlose
      obtain ⟨t, ht, hends⟩ := exec_unit_ends (i := .decisionPoint) rfl h hdec (hlose.waits (hmild.noWait h.waits))
        (hlose.act.trans (calm_eq (·.img.act) hcalm :)) (hlose.queue.trans (calm_eq (·.pending) hcalm :))
      have htf : t.ftg = { (symbolMissed s).ftg with realign := false, sync := .searching } := (hends.reacts.eq (·.ftg)).trans hlose.ftg
      have hunc : Uncounted _ (symbolMissed s) := bump_uncounted_outside (symbolsTaken s (s.ftg.missRun + 1)) (off := 0xD00374) (.inr (by decide))
      refine ⟨t, ht, by rw [htf, hftg]; rfl, by rw [htf, hftg]; rfl, ?_, fun hno => ?_, fun _ _ => ⟨by rw [htf], ?_, ?_⟩⟩
      · rw [hends.reacts.keeps.tallies _ rfl, hlose.tallies _ rfl (by decide), hcount]
      · exact absurd hno (by rintro (hno | hno); exacts [hno hl.1, absurd hno (by omega)])
      · refine hends.counted (by decide) (fun q hq _ => hlose.reports (hmild.noInjection ?_) q hq) ?_ ?_
        · intro q hq
          rw [show (symbolsTaken s (s.ftg.missRun + 1)).reports = s.reports from rfl, h.reports] at hq
          cases hq
        · rw [hlose.once, hunc.reports 0x58 (by decide), show (symbolsTaken s (s.ftg.missRun + 1)).reports = s.reports from rfl, h.reports]
          rfl
        · exact hlose.source.trans (hunc.tallies 0x58)
      · rw [hends.reacts.keeps.tallies _ rfl, hlose.counted]
        exact congrArg (fun n => min (n + 1) tallyMax) (tally_bump_ne _ rfl (by decide))
    · rw [if_neg hl] at hdec
      obtain ⟨t, ht, hends⟩ := exec_unit_ends (i := .decisionPoint) rfl h hdec (hmild.noWait h.waits)
        (calm_eq (·.img.act) hcalm :) (calm_eq (·.pending) hcalm :)
      have htf : t.ftg = (symbolsTaken s (s.ftg.missRun + 1)).ftg := (hends.reacts.eq (·.ftg)).trans hftg
      exact ⟨t, ht, by rw [htf]; rfl, by rw [htf]; rfl, (hends.reacts.keeps.tallies _ rfl).trans hcount, fun _ => by rw [htf]; rfl,
        fun hlock hrun => absurd ⟨hlock, hrun⟩ hl⟩
  case none => exact exec_unit_same (i := .decisionPoint) rfl h (by rw [decisionPoint, if_neg (by rw [hd]; decide)])

end Sys2Proof.Machine
end


section
/-! What posting, completing, counting and reporting add to an operation's own change of the units, in one summary that
composes. -/

namespace Sys2Proof.Machine

/-- `r` is `b` with what posting, completing, counting and reporting add: the list `C` holds the tallies counted (an offset, from
256 on) and the sources reported (below 256), each as often as it was; of those that `E` names no number is given. -/
structure Adds (C : List Nat) (E : Nat → Prop) (b r : State) : Prop where
  calm : Machine.calm r = Machine.calm b
  waits : noWait b → noWait r
  idle : b.hmi.inFlight = [] → r.hmi.inFlight = []
  flight : ∀ f, b.hmi.inFlight = [f] → r.hmi.inFlight = [f] ∨ r.hmi.inFlight = []
  outs : ∀ o ∈ b.outs, o ∈ r.outs
  map : r.flt.map = b.flt.map
  memory : ∀ a, a < reservedBase b → rd r a = rd b a
  source : ∀ src, sourceTally r src = sourceTally b src
  tallies : ∀ off, 256 ≤ off → unitTally off = true → ¬ E off → tally r off = min (tally b off + C.count off) tallyMax
  reports : ∀ src, src < 256 → src ≠ 0x12 → ¬ E src → reportsOf r.reports src = reportsOf b.reports src + C.count src
  news : ∀ q ∈ r.reports, q ∈ b.reports ∨ q = { source := 0x12 } ∨
    (q.source < 256 ∧ q.reactionAs = none ∧ (E q.source ∨ (q.source ∈ C ∧ q.injected = false)))

/-- Every tally and every source is counted. -/
def exactly : Nat → Prop := fun _ => False

section
variable {C K : List Nat} {E F : Nat → Prop} {a b r : State}

theorem tally_le (s : State) (off : Nat) : tally s off ≤ tallyMax := by
  have := (mapGet (fun _ => (0 : Word)) s.tallies off).isLt
  unfold tally tallyMax
  omega

theorem Adds.refl (E : Nat → Prop) (s : State) : Adds [] E s s :=
  ⟨rfl, id, id, fun _ h => .inl h, fun _ h => h, rfl, fun _ _ => rfl, fun _ => rfl,
    fun off _ _ _ => by simp [tally_le], fun _ _ _ _ => by simp, fun _ h => .inl h⟩

theorem reservedBase_calm {s t : State} (h : calm t = calm s) : reservedBase t = reservedBase s :=
  reservedBase_fuse (calm_eq (·.fuse) h :)

theorem Adds.trans (h1 : Adds C E a b) (h2 : Adds K E b r) : Adds (C ++ K) E a r where
  calm := h2.calm.trans h1.calm
  waits w := h2.waits (h1.waits w)
  idle w := h2.idle (h1.idle w)
  flight f w := (h1.flight f w).elim (h2.flight f) (fun h => .inr (h2.idle h))
  outs o ho := h2.outs o (h1.outs o ho)
  map := h2.map.trans h1.map
  memory x hx := (h2.memory x (by rwa [reservedBase_calm h1.calm])).trans (h1.memory x hx)
  source src := (h2.source src).trans (h1.source src)
  tallies off h6 hu he := by
    rw [h2.tallies off h6 hu he, h1.tallies off h6 hu he, List.count_append]
    omega
  reports src hs h12 he := by rw [h2.reports src hs h12 he, h1.reports src hs h12 he, List.count_append, Nat.add_assoc]
  news q hq := by
    rcases h2.news q hq with hq | hq | ⟨hl, hn, hc⟩
    · rcases h1.news q hq with hq | hq | ⟨hl, hn, hc⟩
      · exact .inl hq
      · exact .inr (.inl hq)
      · exact .inr (.inr ⟨hl, hn, hc.imp id (fun h => ⟨List.mem_append_left _ h.1, h.2⟩)⟩)
    · exact .inr (.inl hq)
    · exact .inr (.inr ⟨hl, hn, hc.imp id (fun h => ⟨List.mem_append_right _ h.1, h.2⟩)⟩)

/-- Less may be said of more. -/
theorem Adds.widen (h : Adds C E a b) (hf : ∀ n, E n → F n) : Adds C F a b :=
  { h with
    tallies := fun off h6 hu he => h.tallies off h6 hu (fun hn => he (hf _ hn))
    reports := fun src hs h12 he => h.reports src hs h12 (fun hn => he (hf _ hn))
    news := fun q hq => (h.news q hq).imp id (Or.imp id (fun h => ⟨h.1, h.2.1, h.2.2.imp (hf _) id⟩)) }

theorem Adds.of_exactly (h : Adds C exactly a b) : Adds C F a b := h.widen (fun _ h => h.elim)

/-- What is counted need not be said. -/
theorem Adds.drop (h : Adds C E a b) (hc : ∀ n ∈ C, E n) : Adds [] E a b :=
  { h with
    tallies := fun off h6 hu he => by
      rw [h.tallies off h6 hu he, List.count_eq_zero_of_not_mem (fun hm => he (hc _ hm))]
      rfl
    reports := fun src hs h12 he => by
      rw [h.reports src hs h12 he, List.count_eq_zero_of_not_mem (fun hm => he (hc _ hm))]
      rfl
    news := fun q hq => (h.news q hq).imp id (Or.imp id (fun h => ⟨h.1, h.2.1, .inl (h.2.2.elim id (fun h => hc _ h.1))⟩)) }

theorem Adds.ite (c : Prop) [Decidable c] (hr : Adds C E a r) (hb : Adds C E a b) : Adds C E a (if c then r else b) := by
  split <;> assumption

/-- A change of units alone, made on both sides. -/
theorem Adds.map' (u : State → State) (h : Adds C E b r)
    (hu : ∀ (s : State) o hm ta re fl dr bw po, u { s with
      outs := o, hmi := hm, tallies := ta, reports := re, flt := fl, dram := dr, badWords := bw, poisoned := po } = { u s with
      outs := o, hmi := hm, tallies := ta, reports := re, flt := fl, dram := dr, badWords := bw, poisoned := po })
    (hfuse : (u b).fuse = b.fuse) : Adds C E (u b) (u r) := by
  have own (s : State) : u s = { u s with
      outs := s.outs, hmi := s.hmi, tallies := s.tallies, reports := s.reports, flt := s.flt, dram := s.dram
      badWords := s.badWords, poisoned := s.poisoned } := hu s _ _ _ _ _ _ _ _
  have ho (s : State) : (u s).outs = s.outs := congrArg (·.outs) (own s)
  have hh (s : State) : (u s).hmi = s.hmi := congrArg (·.hmi) (own s)
  have ht (s : State) : (u s).tallies = s.tallies := congrArg (·.tallies) (own s)
  have hr (s : State) : (u s).reports = s.reports := congrArg (·.reports) (own s)
  have hf (s : State) : (u s).flt = s.flt := congrArg (·.flt) (own s)
  have hd (s : State) : (u s).dram = s.dram := congrArg (·.dram) (own s)
  have tal (s : State) (off : Nat) : tally (u s) off = tally s off := by rw [tally, ht]; rfl
  exact
    { calm := by
        obtain ⟨o, hm, ta, re, fl, dr, bw, po, he⟩ : ∃ o hm ta re fl dr bw po, r = { b with
            outs := o, hmi := hm, tallies := ta, reports := re, flt := fl, dram := dr, badWords := bw, poisoned := po } :=
          ⟨_, _, _, _, _, _, _, _, calm_frame h.calm⟩
        rw [he, hu]
        rfl
      waits := fun w => by
        rw [noWait, hh] at w ⊢
        exact h.waits w
      idle := fun w => by
        rw [hh] at w ⊢
        exact h.idle w
      flight := fun f w => by
        rw [hh] at w ⊢
        exact h.flight f w
      outs := fun o w => by
        rw [ho] at w ⊢
        exact h.outs o w
      map := by rw [hf, hf, h.map]
      memory := fun a ha => by
        rw [reservedBase_fuse hfuse] at ha
        simpa only [rd, hd] using h.memory a ha
      source := fun src => by rw [sourceTally, sourceTally, tal, tal]; exact h.source src
      tallies := fun off h6 hu' he => by rw [tal, tal, h.tallies off h6 hu' he]
      reports := fun src hs h12 he => by rw [hr, hr, h.reports src hs h12 he]
      news := fun q hq => by
        rw [hr] at hq ⊢
        exact h.news q hq }

/-! ### The operations -/

theorem HostOnly.adds (h : HostOnly b r) (hu : Uncounted b r)
    (hf : ∀ f, b.hmi.inFlight = [f] → r.hmi.inFlight = [f] ∨ r.hmi.inFlight = []) : Adds [] E b r where
  calm := h.calm
  waits := h.waits
  idle := h.idle
  flight := hf
  outs := h.outs.subset
  map := h.keeps.map
  memory := fun x hx => h.keeps.memory x (Nat.lt_of_lt_of_le hx (reservedBase_le_logBase b))
  source := hu.tallies
  tallies := fun off _ hu _ => by simp [h.tallies off hu, tally_le]
  reports := fun src hs h12 _ => by simp [hu.reports src (by omega)]
  news := fun q hq => (h.reports q hq).imp id .inl

theorem Posts.adds (h : Posts b r) (hu : Uncounted b r) : Adds [] E b r := h.host.adds hu (fun _ w => .inl (h.flight.trans w))

theorem post_adds (s : State) (c u : Nat) (p : List Byte) : Adds [] E s (post s c u p) :=
  (post_posts s c u p).adds (post_uncounted s c u p)

theorem post2_adds (s : State) (c u : Nat) (p : List Byte) : Adds [] E s (post2 s c u p) :=
  (post2_posts s c u p).adds (post2_uncounted s c u p)

theorem signal_adds (s : State) (v : Nat) : Adds [] E s (signal s v) := (signal_posts s v).adds (signal_uncounted s v)

/-- The only command in flight leaves it as it completes. -/
theorem complete_last {s : State} {f : InFlight} (h : s.hmi.inFlight = [f]) (st : Status) (res : List Byte) :
    (complete s f.id st res).hmi.inFlight = [] := by
  have hb : (bump s offCmdTally).hmi.inFlight = [f] :=
    (congrArg (f := Hmi.inFlight) (bump_mild s offCmdTally).events).trans h
  have hfind : s.hmi.inFlight.find? (fun g => g.id == f.id) = some f := by simp [h]
  have gone (c : Prop) [Decidable c] (x : Completion) :
      (if c then postCpl (withInFlight (bump s offCmdTally) []) x else withInFlight (bump s offCmdTally) []).hmi.inFlight = [] := by
    split
    · exact (postCpl_host _ _).idle rfl
    · rfl
  unfold complete
  rw [hfind]
  simp only [hb]
  split
  · simp only [List.map_cons, List.map_nil, beq_self_eq_true, if_true, List.length_singleton, flushOrdered, withInFlight]
    exact gone _ _
  · simp only [List.filter_cons, bne_self_eq_false, List.filter_nil, Bool.false_eq_true, if_false]
    exact gone _ _

theorem complete_flight (s : State) (id : Nat) (st : Status) (res : List Byte) (f : InFlight) (h : s.hmi.inFlight = [f]) :
    (complete s id st res).hmi.inFlight = [f] ∨ (complete s id st res).hmi.inFlight = [] := by
  by_cases he : f.id = id
  · rw [← he]
    exact .inr (complete_last h st res)
  · refine .inl ?_
    have hfind : s.hmi.inFlight.find? (fun g => g.id == id) = none := by simp [h, he]
    rw [complete, hfind]
    exact h

theorem complete_adds (s : State) (id : Nat) (st : Status) (res : List Byte) : Adds [] E s (complete s id st res) :=
  (complete_host s id st res).adds (complete_uncounted s id st res) (complete_flight s id st res)

theorem completeOpt_adds (s : State) (id : Option Nat) (st : Status) (res : List Byte) : Adds [] E s (completeOpt s id st res) := by
  cases id with
  | none => exact .refl E s
  | some i => exact complete_adds s i st res

theorem Adds.emit (h : Adds C E b r) (o : Output) : Adds C E (Machine.emit b o) (Machine.emit r o) :=
  { h with
    calm := h.calm
    outs := fun x hx => by
      rcases List.mem_cons.mp hx with rfl | hx
      · exact List.mem_cons_self
      · exact List.mem_cons_of_mem _ (h.outs x hx) }

theorem emit_adds (s : State) (o : Output) : Adds [] E s (Machine.emit s o) := (emit_posts s o).adds (.same (by rfl))

theorem unitTally_outside {off : Nat} (h : unitTally off = true) : off < 0x41000 ∨ 0x42000 ≤ off := by
  simp only [unitTally, Bool.and_eq_true, Bool.not_eq_true', decide_eq_false_iff_not] at h
  omega

theorem bump_adds (s : State) {off : Nat} (hu : unitTally off = true) (h6 : 256 ≤ off) : Adds [off] E s (bump s off) where
  calm := calm_bump s off
  waits := (bump_mild s off).noWait
  idle := fun w => (congrArg (f := Hmi.inFlight) (bump_mild s off).events).trans w
  flight := fun _ w => .inl ((congrArg (f := Hmi.inFlight) (bump_mild s off).events).trans w)
  outs := (bump_mild s off).outs.subset
  map := (bump_mild s off).map
  memory := fun x _ => by simp only [rd, (bump_mild s off).dram]
  source := (bump_uncounted_outside s (unitTally_outside hu)).tallies
  tallies := fun i _ hi _ => by
    by_cases he : i = off
    · rw [he, tally_bump s off hu]
      simp
    · rw [tally_bump_ne s hi he, List.count_cons_of_ne (Ne.symm he)]
      simp [tally_le]
  reports := fun src hs h12 _ => by
    rw [(bump_uncounted_outside s (unitTally_outside hu)).reports src (by omega), List.count_cons_of_ne (by omega)]
    rfl
  news := fun q hq => ((bump_mild s off).reports q hq).imp id .inl

theorem report_adds (s : State) (q : Report) (hl : q.source < 256) (hi : q.injected = false) (hn : q.reactionAs = none) :
    Adds [q.source] E s (report s q) where
  calm := rfl
  waits := id
  idle := id
  flight := fun _ h => .inl h
  outs := fun _ h => h
  map := rfl
  memory := fun _ _ => rfl
  source := fun _ => rfl
  tallies := fun off h6 _ _ => by
    rw [List.count_cons_of_ne (by omega), tally_report]
    simp [tally_le]
  reports := fun src hs h12 _ => by
    rw [report_reports, reportsOf_append]
    by_cases he : q.source = src
    · simp [reportsOf, he]
    · rw [List.count_cons_of_ne he]
      simp [reportsOf, Nat.mod_eq_of_lt hl, Nat.mod_eq_of_lt hs, he]
  news := fun x hx => by
    rcases List.mem_append.mp hx with hx | hx
    · exact .inl hx
    · rw [List.mem_singleton.mp hx]
      exact .inr (.inr ⟨hl, hn, .inr ⟨List.mem_singleton.mpr rfl, hi⟩⟩)

/-- A report of a source whose number is not told, an injection's or not. -/
theorem report_untold (s : State) (q : Report) (hl : q.source < 256) (he : E q.source) (hn : q.reactionAs = none) :
    Adds [] E s (report s q) where
  calm := rfl
  waits := id
  idle := id
  flight := fun _ h => .inl h
  outs := fun _ h => h
  map := rfl
  memory := fun _ _ => rfl
  source := fun _ => rfl
  tallies := fun off _ _ _ => by
    rw [tally_report]
    simp [tally_le]
  reports := fun src hs h12 hne => by
    have hsrc : q.source ≠ src := fun h => hne (h ▸ he)
    rw [report_reports, reportsOf_append]
    simp [reportsOf, Nat.mod_eq_of_lt hl, Nat.mod_eq_of_lt hs, hsrc]
  news := fun x hx => by
    rcases List.mem_append.mp hx with hx | hx
    · exact .inl hx
    · rw [List.mem_singleton.mp hx]
      exact .inr (.inr ⟨hl, hn, .inl he⟩)

/-- A command that was alone in flight has completed. -/
theorem Adds.completed {f : InFlight} (h : Adds C E b r) (hf : b.hmi.inFlight = [f]) (st : Status) (res : List Byte) :
    (complete r f.id st res).hmi.inFlight = [] :=
  (h.flight f hf).elim (fun w => complete_last w st res) (fun w => (complete_host r f.id st res).idle w)

/-- An injection taken leaves the units alone. -/
theorem disarm_adds (s : State) (src : Nat) : Adds [] E s (disarm s src) :=
  { Adds.refl E s with
    calm := rfl
    waits := id
    outs := fun _ h => h
    map := rfl
    memory := fun _ _ => rfl
    source := fun _ => rfl
    reports := fun _ _ _ _ => rfl }

/-! ### The end of a command -/

/-- What the end of an event of `s` leaves whose operation adds to `b`. -/
structure Leaves (C : List Nat) (E : Nat → Prop) (s b t : State) : Prop where
  rest : unreacted t = unreacted b
  pins : PinsDown b t
  outs : ∀ o ∈ b.outs, o ∈ t.outs
  settled : t.reports = []
  memory : ∀ a, a < reservedBase s → rd t a = rd s a
  tallies : ∀ off, 256 ≤ off → unitTally off = true → ¬ E off → tally t off = min (tally s off + C.count off) tallyMax
  counted : ∀ src, src < 256 → src ≠ 0x12 → ¬ E src → C.count src = 1 → Machine.counted s t src
  marks : ∀ src, src ∈ C → src < 256 → src ≠ 0x12 → ¬ E src → (sourceCfg s src).1 ≠ 0 →
    (srcAt t src).pending = true ∧ ((sourceCfg s src).1 = 2 → (srcAt t src).mode = .fatal)
  quiet : (∀ n, n < 256 → n ∈ C ∨ E n → (sourceCfg s n).2.1 = 0) → Machine.calm t = Machine.calm b

/-- The units of `b`, and what the host interface, the collector and the memory hold, come from `s`. -/
structure Begun (s b : State) : Prop where
  hmi : b.hmi = s.hmi := by rfl
  reports : b.reports = s.reports := by rfl
  map : b.flt.map = s.flt.map := by rfl
  tallies : b.tallies = s.tallies := by rfl
  act : b.img.act = s.img.act := by rfl
  pending : b.pending = s.pending := by rfl
  fuse : b.fuse = s.fuse := by rfl
  dram : b.dram = s.dram := by rfl

theorem sourceCfg_map' {s t : State} (h : t.flt.map = s.flt.map) (src : Nat) : sourceCfg t src = sourceCfg s src := by
  rw [sourceCfg, sourceCfg, h]

theorem reportsOf_mem {l : List Report} {src : Nat} (h : 0 < reportsOf l src) : ∃ q ∈ l, q.source % 256 = src % 256 := by
  obtain ⟨q, hq, he⟩ := List.countP_pos_iff.mp h
  exact ⟨q, hq, by simpa using he⟩

theorem Adds.leaves {s t : State} (ha : Adds C E b r) (hb : Begun s b) (hs : s.reports = []) (h : Ends r t) : Leaves C E s b t := by
  have hrep : b.reports = [] := hb.reports.trans hs
  have tal (off : Nat) : tally b off = tally s off := by rw [tally, hb.tallies]; rfl
  have news (q : Report) (hq : q ∈ r.reports) : q = { source := 0x12 } ∨
      (q.source < 256 ∧ q.reactionAs = none ∧ (E q.source ∨ (q.source ∈ C ∧ q.injected = false))) := by
    rcases ha.news q hq with hq | hq
    · rw [hrep] at hq; cases hq
    · exact hq
  have real (src : Nat) (hs : src < 256) (h12 : src ≠ 0x12) (he : ¬ E src) (q : Report) (hq : q ∈ r.reports)
      (hqs : q.source % 256 = src % 256) : q.source = src ∧ q.injected = false := by
    rcases news q hq with rfl | ⟨hl, -, hc⟩
    · exact absurd hqs (by simp only; omega)
    · have hqs : q.source = src := by omega
      subst hqs
      exact ⟨rfl, (hc.resolve_left he).2⟩
  have cfg (src : Nat) : sourceCfg r src = sourceCfg s src := sourceCfg_map' (ha.map.trans hb.map) src
  exact
    { rest := h.rest.trans (unreacted_of_calm ha.calm)
      pins := by
        have hp : r.pins = b.pins := (calm_eq (·.pins) ha.calm :)
        obtain ⟨h1, h2, h3, h4⟩ := h.reacts.pins
        rw [hp] at h1 h2 h3 h4
        exact ⟨h1, h2, h3, h4⟩
      outs := fun o ho => h.reacts.keeps.outs.subset (ha.outs o ho)
      settled := h.settled
      memory := fun a hlt => by
        have h1 : a < reservedBase b := by rwa [reservedBase_fuse hb.fuse]
        have h2 : a < reservedBase r := by rwa [reservedBase_calm ha.calm]
        rw [h.reacts.keeps.reserved h2, ha.memory a h1, rd, hb.dram]
        rfl
      tallies := fun off h6 hu he => by rw [h.reacts.keeps.tallies off hu, ha.tallies off h6 hu he, tal]
      counted := fun src hl h12 he hone => by
        refine h.counted (by omega) (fun q hq hqs => (real src hl h12 he q hq hqs).2) ?_ ((ha.source src).trans (tal _))
        rw [ha.reports src hl h12 he, hrep, hone]
        rfl
      marks := fun src hc hl h12 he hcl => by
        have hpos : 0 < reportsOf r.reports src := by
          rw [ha.reports src hl h12 he, hrep]
          have := List.count_pos_iff.mpr hc
          omega
        obtain ⟨q, hq, hqs⟩ := reportsOf_mem hpos
        have hm := h.marks src hl ⟨q, hq, real src hl h12 he q hq hqs⟩
        rw [cfg] at hm
        exact hm hcl
      quiet := fun hz => by
        refine (h.records (fun q hq hn => ?_)).calm.trans ha.calm
        rcases news q hq with rfl | ⟨hl, hn', hc⟩
        · rfl
        · rw [reactionOf, hn', cfg]
          dsimp only
          rw [hz q.source hl (hc.symm.imp (·.1) id)]
          simp }

variable {i : Instr} {s : State} {f : State → State}

/-- An event whose operation adds to a change of the units. -/
theorem exec_adds (hi : exec i s = .next (event s f)) (h : Live s) (ha : Adds C E b (f s)) (hb : Begun s b) :
    ∃ t, exec i s = .next t ∧ Leaves C E s b t ∧ Ends (f s) t := by
  obtain ⟨t, ht, hends⟩ := exec_unit_ends hi h rfl (ha.waits (by rw [noWait, hb.hmi]; exact h.waits))
    (((calm_eq (·.img.act) ha.calm :)).trans hb.act) (((calm_eq (·.pending) ha.calm :)).trans hb.pending)
  exact ⟨t, ht, ha.leaves hb h.reports hends, hends⟩

theorem exec_host_adds (hi : exec i s = .next (hostEvent s f)) (h : Awake s) (ha : Adds C E b (f s)) (hb : Begun s b) :
    ∃ t, exec i s = .next t ∧ Leaves C E s b t ∧ Ends (f s) t := by
  obtain ⟨t, ht, hends⟩ := exec_host_ends hi h rfl (ha.waits (by rw [noWait, hb.hmi]; exact h.waits))
    (((calm_eq (·.img.act) ha.calm :)).trans hb.act) (((calm_eq (·.pending) ha.calm :)).trans hb.pending)
  exact ⟨t, ht, ha.leaves hb h.reports hends, hends⟩

end
end Sys2Proof.Machine
end


section
/-! Refresh of the DRAM channels (R424–R428). -/

namespace Sys2Proof.Machine

theorem PinsDown.of_pins {a b t : State} (h : PinsDown b t) (e : b.pins = a.pins := by rfl) : PinsDown a t :=
  ⟨e ▸ h.laser, e ▸ h.shutter, e ▸ h.hl, e ▸ h.highZ⟩

section
variable {s : State} {c : Nat}

theorem chan_modChan_same (h : c < 16) (f : Chan → Chan) : chan (modChan s c f) c = f (chan s c) := vget_vmod_same _ h _ _
theorem chan_modChan_ne {x : Nat} (h : x ≠ c) (f : Chan → Chan) : chan (modChan s c f) x = chan s x := vget_vmod_ne _ (Ne.symm h) _ _

/-- The controller's own state and what it puts on the wires leave the end of a command nothing to do. -/
theorem Steady.quiet_mem (h : Steady s) (m : Mem) (o : List Output) : Quiet s { s with mem := m, outs := o } := h.quiet

/-! ### The debt (R424, R428) -/

/-- The debt has gone up by one now. -/
def debtUp (s : State) (c : Nat) : State := { s with mem := { s.mem with
  ch := vmod s.mem.ch c (fun x => { x with debt := x.debt + 1, dueAt := some s.tsc })
  debtMax := max s.mem.debtMax (min 15 ((chan s c).debt + 1)) } }

/-- A debt increment falls in this cycle. -/
def dueNow (s : State) (c : Nat) : Bool :=
  memServing s && decide (s.tsc % dueInterval (rateOf s c) = 0 ∧ (chan s c).dueAt ≠ some s.tsc)

theorem dueNow_false (h : memServing s = false ∨ s.tsc % dueInterval (rateOf s c) ≠ 0 ∨ (chan s c).dueAt = some s.tsc) :
    dueNow s c = false := by
  rcases h with h | h | h
  · simp [dueNow, h]
  · simp [dueNow, h]
  · simp [dueNow, h]

theorem dueNow_true (hm : memServing s = true) (ht : s.tsc % dueInterval (rateOf s c) = 0) (hd : (chan s c).dueAt ≠ some s.tsc) :
    dueNow s c = true := by simp [dueNow, hm, ht, hd]

theorem chan_debtUp (h : c < 16) : chan (debtUp s c) c = { chan s c with debt := (chan s c).debt + 1, dueAt := some s.tsc } :=
  chan_modChan_same h _

theorem refreshDue_not (h : dueNow s c = false) : refreshDue s c = s := by
  rw [refreshDue, if_neg (by rw [dueNow] at h; rw [h]; decide)]

theorem refreshDue_eq (hc : c < 16) (h : dueNow s c = true) : refreshDue s c =
    if 8 ≤ (chan s c).debt + 1 then report (bump (refpb (debtUp s c) c true) 0x100028) { source := 0x22, master := c } else debtUp s c := by
  have hd : (chan (modChan s c (fun x => { x with debt := x.debt + 1, dueAt := some s.tsc })) c).debt = (chan s c).debt + 1 := by
    rw [chan_modChan_same hc]
  rw [refreshDue, if_pos (show (memServing s && _) = true from h)]
  dsimp only
  rw [hd]
  rfl

/-- A forced REFpb (R428). -/
theorem refreshDue_forced (hc : c < 16) (h : dueNow s c = true) (h8 : 8 ≤ (chan s c).debt + 1) :
    Adds [0x100028, 0x22] exactly (refpb (debtUp s c) c true) (refreshDue s c) := by
  rw [refreshDue_eq hc h, if_pos h8]
  exact (bump_adds _ rfl (by decide)).trans (report_adds _ { source := 0x22, master := c } (show 0x22 < 256 by decide) rfl rfl)

/-! ### Opportunities (R425) -/

theorem refreshOpportunity_taken (h : memServing s = true) (ht : s.mem.trains.any (trainOpens s c) = true)
    (hd : 0 < (chan s c).debt) (ho : (chan s c).oppAt ≠ some s.tsc) (hn : refreshDue s c = s) :
    refreshOpportunity s c = refpb (modChan s c (fun x => { x with oppAt := some s.tsc })) c false := by
  rw [refreshOpportunity, hn]
  rw [if_pos (by simp [h, ht, hd, ho])]


theorem vmod_vmod {α : Type} {n : Nat} (v : Vector α n) (i : Nat) (f g : α → α) :
    vmod (vmod v i f) i g = vmod v i (fun x => g (f x)) := by
  unfold vmod
  split
  · simp
  · rfl

theorem refreshOpportunity_not (hn : refreshDue s c = s) (h : memServing s = false ∨ s.mem.trains.any (trainOpens s c) = false ∨
    (chan s c).debt = 0 ∨ (chan s c).oppAt = some s.tsc) : refreshOpportunity s c = s := by
  rw [refreshOpportunity, hn, if_neg]
  rcases h with h | h | h | h
  · simp [h]
  · simp [h]
  · simp [h]
  · simp [h]

/-! ### The controller's own slots (R427) -/

/-- The controller has opened a slot of its own. -/
def slotOpened (s : State) : State := { s with mem := { s.mem with
  trains := { own := true, chans := 0xFFFF, time := s.tsc, period := 0, count := 1 } ::
    s.mem.trains.filter (fun r => !r.own || decide (s.tsc ≤ r.time + 69)) } }

theorem ownSlotDue_iff (s : State) : ownSlotDue s = true ↔ (∃ a n, s.ftg.hold = some (a, n) ∧ (s.tsc - a) % 100 = 0) ∨
    (s.ftg.hold = none ∧ s.mem.ownSlots = true ∧ (s.tsc - s.mem.ownFrom) % 100 = 0) := by
  unfold ownSlotDue
  split <;> rename_i h <;> simp [h]

theorem ownSlotDue_not (h : (∃ a n, s.ftg.hold = some (a, n) ∧ (s.tsc - a) % 100 ≠ 0) ∨
    (s.ftg.hold = none ∧ (s.mem.ownSlots = false ∨ (s.tsc - s.mem.ownFrom) % 100 ≠ 0))) : ownSlotDue s = false := by
  rw [Bool.eq_false_iff]
  intro hd
  rw [ownSlotDue_iff] at hd
  rcases h with ⟨a, n, hh, hm⟩ | ⟨hh, hm⟩
  · simp [hh, hm] at hd
  · rcases hm with hm | hm
    · simp [hh, hm] at hd
    · simp [hh, hm] at hd

theorem trainOpens_slotOpened (hc : c < 16) : (slotOpened s).mem.trains.any (trainOpens (slotOpened s) c) = true := by
  have hb : bitAt 0xFFFF c = true := by
    have : ∀ c, c < 16 → bitAt 0xFFFF c = true := by decide
    exact this c hc
  refine List.any_eq_true.mpr ⟨_, List.mem_cons_self, ?_⟩
  simp [trainOpens, hb, slotOpened]

/-! ### MR4 (R426) -/

/-- The refresh rate of an MR4 class. -/
def classRate (k : Nat) : Nat := if k ≤ 2 then 1 else if k = 3 then 2 else 3

/-- A rate class read on a channel: a higher one counts at once, a lower one after four readings (R426). -/
def takeRate (r : Nat) (x : Chan) : Chan :=
  if x.rate < r then { x with rate := r, lower := 0 }
  else if r = x.rate then { x with lower := 0 }
  else
    let n := if x.lowerRate = r then x.lower + 1 else 1
    if 4 ≤ n then { x with rate := r, lower := 0 } else { x with lowerRate := r, lower := n }

theorem takeRate_higher {x : Chan} {r : Nat} (h : x.rate ≤ r) : (takeRate r x).rate = r ∧ (takeRate r x).lower = 0 := by
  rw [takeRate]
  split
  · exact ⟨rfl, rfl⟩
  · rw [if_pos (by omega)]
    exact ⟨by dsimp only; omega, rfl⟩

theorem takeRate_lower {x : Chan} {r : Nat} (h : r < x.rate) : takeRate r x =
    let n := if x.lowerRate = r then x.lower + 1 else 1
    if 4 ≤ n then { x with rate := r, lower := 0 } else { x with lowerRate := r, lower := n } := by
  rw [takeRate, if_neg (by omega), if_neg (by omega)]

theorem takeRate_mr4 (r : Nat) (x : Chan) : (takeRate r x).mr4 = x.mr4 ∧ (takeRate r x).mr4Ms = x.mr4Ms := by
  unfold takeRate
  extract_lets n
  split
  · exact ⟨rfl, rfl⟩
  · split
    · exact ⟨rfl, rfl⟩
    · split <;> exact ⟨rfl, rfl⟩

/-- MR4 has been read: a class, and the rate that it calls for. -/
def mr4Noted (s : State) (c k : Nat) : State :=
  modChan (modChan s c (fun x => { x with mr4 := some k, mr4Ms := some (s.tsc / msCycles) })) c (takeRate (classRate k))

theorem mr4Read_class (hc : c < 16) (h : mr4Due s c = true) (k : Nat) : mr4Read s c (some k) =
    if 5 ≤ k then report (mr4Noted s c k) { source := 0x25, master := c } else mr4Noted s c k := by
  have hv := vmod_congr (vmod s.mem.ch c (fun x => { x with mr4 := some k, mr4Ms := some (s.tsc / msCycles) })) c (fun x =>
      if (chan s c).rate < classRate k then { x with rate := classRate k, lower := 0 }
      else if classRate k = (chan s c).rate then { x with lower := 0 }
      else
        let n := if x.lowerRate = classRate k then x.lower + 1 else 1
        if 4 ≤ n then { x with rate := classRate k, lower := 0 } else { x with lowerRate := classRate k, lower := n })
    (takeRate (classRate k)) {} (by rw [vget_vmod_same _ hc]; rfl)
  have hm : modChan (modChan s c (fun x => { x with mr4 := some k, mr4Ms := some (s.tsc / msCycles) })) c _ = mr4Noted s c k :=
    congrArg (fun v => { s with mem := { s.mem with ch := v } }) hv
  rw [← hm, mr4Read, if_neg (by rw [h]; decide)]
  rfl

theorem chan_mr4Noted (hc : c < 16) (k : Nat) : chan (mr4Noted s c k) c =
    takeRate (classRate k) { chan s c with mr4 := some k, mr4Ms := some (s.tsc / msCycles) } := by
  rw [mr4Noted, chan_modChan_same hc, chan_modChan_same hc]

/-- The channel after a class read. -/
structure RateTaken (s t : State) (c k r : Nat) : Prop where
  mr4 : (chan t c).mr4 = some k
  ms : (chan t c).mr4Ms = some (s.tsc / 250000)
  higher : (chan s c).rate ≤ r → (chan t c).rate = r ∧ (chan t c).lower = 0
  again : r < (chan s c).rate → (chan s c).lowerRate = r → (chan s c).lower < 3 →
    (chan t c).rate = (chan s c).rate ∧ (chan t c).lower = (chan s c).lower + 1
  first : r < (chan s c).rate → (chan s c).lowerRate ≠ r →
    (chan t c).rate = (chan s c).rate ∧ (chan t c).lowerRate = r ∧ (chan t c).lower = 1
  fourth : r < (chan s c).rate → (chan s c).lowerRate = r → 3 ≤ (chan s c).lower → (chan t c).rate = r
  others : ∀ x, x < 16 → x ≠ c → chan t x = chan s x

theorem mr4Noted_taken (hc : c < 16) (k : Nat) : RateTaken s (mr4Noted s c k) c k (classRate k) := by
  have ht := chan_mr4Noted (s := s) hc k
  obtain ⟨hm, hms⟩ := takeRate_mr4 (classRate k) { chan s c with mr4 := some k, mr4Ms := some (s.tsc / msCycles) }
  have hlow (hlt : classRate k < (chan s c).rate) :=
    takeRate_lower (x := { chan s c with mr4 := some k, mr4Ms := some (s.tsc / msCycles) }) hlt
  exact
    { mr4 := by rw [ht, hm]
      ms := by rw [ht, hms]; rfl
      higher := fun h => by rw [ht]; exact takeRate_higher h
      again := fun h he hl => by
        rw [ht, hlow h]
        dsimp only
        rw [if_pos he, if_neg (by omega)]
        exact ⟨rfl, rfl⟩
      first := fun h hne => by
        rw [ht, hlow h]
        dsimp only
        rw [if_neg hne, if_neg (by decide)]
        exact ⟨rfl, rfl, rfl⟩
      fourth := fun h he hl => by
        rw [ht, hlow h]
        dsimp only
        rw [if_pos he, if_pos (by omega)]
      others := fun x _ hne => by rw [mr4Noted, chan_modChan_ne hne, chan_modChan_ne hne] }

theorem mr4Noted_begun (k : Nat) : Begun s (mr4Noted s c k) := {}
theorem forced_begun : Begun s (refpb (debtUp s c) c true) := {}

/-- The debt has gone up by one, and an opportunity has taken it at once. -/
def dueTaken (s : State) (c : Nat) : State := { s with
  mem := { s.mem with
    ch := vmod (vmod (vmod s.mem.ch c (fun x => { x with debt := x.debt + 1, dueAt := some s.tsc })) c
      (fun x => { x with oppAt := some s.tsc })) c (fun x => { x with debt := x.debt - 1, pair := (x.pair + 1) % 8 })
    debtMax := max s.mem.debtMax (min 15 ((chan s c).debt + 1)) }
  outs := .refresh c (b2n false) :: s.outs }

theorem refreshOpportunity_both (hc : c < 16) (hdue : dueNow s c = true) (h8 : (chan s c).debt + 1 < 8) (hm : memServing s = true)
    (htr : s.mem.trains.any (trainOpens s c) = true) (ho : (chan s c).oppAt ≠ some s.tsc) :
    refreshOpportunity s c = dueTaken s c := by
  have hr := refreshDue_eq hc hdue
  rw [if_neg (by omega)] at hr
  rw [refreshOpportunity, hr]
  have hd : (chan (debtUp s c) c).debt = (chan s c).debt + 1 := by rw [chan_debtUp hc]
  have hp : (chan (debtUp s c) c).oppAt = (chan s c).oppAt := by rw [chan_debtUp hc]
  have hcond : (memServing (debtUp s c) && (debtUp s c).mem.trains.any (trainOpens (debtUp s c) c) &&
      decide (0 < (chan (debtUp s c) c).debt ∧ (chan (debtUp s c) c).oppAt ≠ some (debtUp s c).tsc)) = true := by
    rw [hd, hp]
    have h1 : memServing (debtUp s c) = true := hm
    have h2 : (debtUp s c).mem.trains.any (trainOpens (debtUp s c) c) = true := htr
    rw [h1, h2, Bool.true_and, Bool.true_and]
    exact decide_eq_true ⟨Nat.succ_pos _, ho⟩
  rw [if_pos hcond]
  simp only [refpb, modChan, debtUp, emit, dueTaken]

end

/-- Settles O48: each row's arithmetic on its channel; a forced REFpb and a class beyond 4× report. -/
theorem refreshDebtIsKept : Obligations.RefreshDebtIsKept := by
  unfold Obligations.RefreshDebtIsKept
  refine ⟨fun s c h hn => ?notDue, fun s c h hm ht hd h8 => ?due, fun s c h hm ht hd h8 => ?forced,
    fun s c h hm hn ht hd ho => ?taken, fun s c h hm ht hd h8 htr ho => ?both, fun s c h hn ht => ?missed,
    fun s h hd => ?own, fun s h hd => ?notOwn, fun s c k h hd => ?notMr4, fun s c h hd => ?noReading,
    fun s c k r h hd hr => ?reading⟩
  case notDue => exact exec_unit_same (i := .refreshDue c) rfl h (refreshDue_not (dueNow_false hn))
  case due =>
    have hr := refreshDue_eq c.isLt (dueNow_true hm ht hd)
    rw [if_neg (by omega)] at hr
    refine ⟨debtUp s c, exec_unit_quiet (i := .refreshDue c) rfl h hr h.toSteady.quiet, chan_debtUp c.isLt,
      fun x _ hne => chan_modChan_ne hne _, rfl, rfl⟩
  case forced =>
    obtain ⟨t, ht, hl, -⟩ := exec_adds (i := .refreshDue c) rfl h (refreshDue_forced c.isLt (dueNow_true hm ht hd) h8) forced_begun
    have hq : calm t = calm (refpb (debtUp s c) c true) := hl.quiet (by
      intro n _ hn
      simp only [exactly, or_false, List.mem_cons, List.not_mem_nil] at hn
      rcases hn with rfl | rfl
      · omega
      · rfl)
    refine ⟨t, ht, ?_, hl.outs _ List.mem_cons_self, ?_, hl.counted 0x22 (by decide) (by decide) id rfl, hq.trans ?_⟩
    · have : chan t c = chan (refpb (debtUp s c) c true) c := by rw [chan, (calm_eq (·.mem) hq :)]; rfl
      rw [this]
      show (chan (modChan (debtUp s c) c _) c).debt = _
      rw [chan_modChan_same c.isLt, chan_debtUp c.isLt]
      simp
    · exact hl.tallies 0x100028 (by decide) rfl id
    · rw [(calm_eq (·.mem) hq :)]
      rfl
  case taken =>
    have hr := refreshOpportunity_taken hm ht hd ho (refreshDue_not (dueNow_false (.inr hn)))
    rw [exec_unit_quiet (i := .refreshOpportunity c) rfl h hr h.toSteady.quiet]
    exact congrArg (fun v => Host.Outcome.next { s with mem := { s.mem with ch := v }, outs := .refresh c.val 0 :: s.outs })
      (vmod_vmod s.mem.ch c.val (fun x => { x with oppAt := some s.tsc }) (fun x => { x with
        debt := x.debt - 1, pair := (x.pair + 1) % 8 }))
  case both =>
    have hr := refreshOpportunity_both c.isLt (dueNow_true hm ht hd) h8 hm htr ho
    refine ⟨_, exec_unit_quiet (i := .refreshOpportunity c) rfl h hr (h.toSteady.quiet_mem _ _), List.mem_cons_self, ?_⟩
    show vget (vmod (vmod (vmod s.mem.ch c _) c _) c _) c {} = _
    rw [vget_vmod_same _ c.isLt, vget_vmod_same _ c.isLt, vget_vmod_same _ c.isLt]
    rfl
  case missed => exact exec_unit_same (i := .refreshOpportunity c) rfl h (refreshOpportunity_not (refreshDue_not (dueNow_false hn)) ht)
  case own =>
    have hr : ownSlot s = slotOpened s := by rw [ownSlot, if_pos ((ownSlotDue_iff s).mpr hd)]; rfl
    exact ⟨slotOpened s, exec_unit_quiet (i := .ownRefreshSlot) rfl h hr h.toSteady.quiet, rfl, fun c hc => trainOpens_slotOpened hc⟩
  case notOwn => exact exec_unit_same (i := .ownRefreshSlot) rfl h (by rw [ownSlot, if_neg (by rw [ownSlotDue_not hd]; decide)])
  case notMr4 => exact exec_unit_same (i := .mr4Read c k) rfl h (by rw [mr4Read, if_pos (by rw [hd]; decide)])
  case noReading =>
    exact exec_unit_quiet (i := .mr4Read c none) rfl h (by rw [mr4Read, if_neg (by rw [hd]; decide)]; rfl) h.toSteady.quiet
  case reading =>
    subst hr
    have hrd := mr4Read_class c.isLt hd k.val
    have taken := mr4Noted_taken (s := s) c.isLt k.val
    by_cases h5 : 5 ≤ k.val
    · rw [if_pos h5] at hrd
      have hadd : Adds [0x25] exactly (mr4Noted s c k) (mr4Read s c (some k.val)) := by
        rw [hrd]
        exact report_adds _ { source := 0x25, master := c } (show 0x25 < 256 by decide) rfl rfl
      obtain ⟨t, ht, hl, -⟩ := exec_adds (i := .mr4Read c (some k)) rfl h hadd (mr4Noted_begun _)
      have hmem : t.mem = (mr4Noted s c k).mem := (congrArg (·.mem) hl.rest :)
      have hch (x : Nat) : chan t x = chan (mr4Noted s c k) x := by rw [chan, hmem]; rfl
      obtain ⟨t1, t2, t3, t4, t5, t6, t7⟩ := taken
      simp only [← hch] at t1 t2 t3 t4 t5 t6 t7
      exact ⟨t, ht, t1, t2, t3, t4, t5, t6, t7, fun hk => absurd hk (by omega),
        fun _ => ⟨hl.counted 0x25 (by decide) (by decide) id rfl, hl.pins.of_pins⟩⟩
    · rw [if_neg h5] at hrd
      obtain ⟨t1, t2, t3, t4, t5, t6, t7⟩ := taken
      exact ⟨mr4Noted s c k, exec_unit_quiet (i := .mr4Read c (some k)) rfl h hrd h.toSteady.quiet, t1, t2, t3, t4, t5, t6, t7,
        fun _ => rfl, fun hk => absurd hk h5⟩

end Sys2Proof.Machine
end


section
/-! Reports that call for the safe state, whatever came with them; and the training of the DRAM channels (R429–R433). -/

namespace Sys2Proof.Machine

/-! ### The light is out after a report that calls for the safe state -/

/-- No laser output is high, of the banks or of the scanner. -/
def Unlit (p : Pins) : Prop := p.laserEn = 0 ∧ p.hlEn = false

theorem Reacts.unlit {s t : State} (h : Reacts s t) (hd : Unlit s.pins) : Unlit t.pins :=
  ⟨h.pins.laser hd.1, h.pins.hl hd.2⟩

theorem enterSafe_unlit (s : State) (source : Nat) (shutter : Bool) : Unlit (enterSafe s source shutter).pins := by
  unfold enterSafe
  extract_lets s1
  have h : Unlit s1.pins := ⟨rfl, rfl⟩
  split
  · exact h
  · exact h

/-- The reactions of reports of which one calls for the safe state. -/
theorem applyReactions_unlit (s : State) {l : List Report} {q : Report} (hq : q ∈ l) (hn : q.reactionAs = none)
    (h0 : bitAt (reactionOf s q) 0 = true) : Unlit (applyReactions s l).pins := by
  unfold applyReactions
  extract_lets act rs has s1 s2 s3
  have hmem : (q, reactionOf s q) ∈ rs :=
    List.mem_map.mpr ⟨q, List.mem_filter.mpr ⟨hq, by simp [hn]⟩, rfl⟩
  have hs1 : Unlit s1.pins := by
    simp only [s1]
    split
    · exact enterSafe_unlit _ _ _
    · rename_i hf
      exact absurd h0 (List.find?_eq_none.mp hf _ hmem)
  have h2 : Reacts s1 s2 := ite_reacts _ (parkArrays_reacts _) (.refl _)
  have h3 : Reacts s2 s3 := ite_reacts _ (parkScanner_reacts _ _ _) (.refl _)
  refine ((h2.trans h3).trans (Reacts.foldl _ (fun s e => ?_) _ _)).unlit hs1
  exact ite_reacts _ (bankOff_reacts _ _) (.refl _)

theorem reactionOf_real {s : State} {q : Report} (hn : q.reactionAs = none) (hi : q.injected = false) :
    reactionOf s q = (sourceCfg s q.source).2.1 := by simp [reactionOf, hn, hi]

/-- The collector, where a real report of the source stands among those that bring no reaction of their own. -/
theorem collect_unlit {s : State} {src : Nat} (h : ∃ q ∈ s.reports, q.source = src ∧ q.injected = false)
    (hn : ∀ q ∈ s.reports, q.reactionAs = none) (h0 : bitAt (sourceCfg s src).2.1 0 = true) : Unlit (collect s).pins := by
  have hne : s.reports.isEmpty = false := by
    obtain ⟨q, hq, -⟩ := h
    simpa using List.ne_nil_of_mem hq
  have hc : collect s = collectN 3 (collectOnce s) := by simp [collect, collectN, hne]
  rw [hc]
  refine (collectN_reacts 3 _).unlit ?_
  obtain ⟨q, hq, rfl, hi⟩ := orderReports_exists s s.reports src h
  have hqn := orderReports_forall (P := fun q => q.reactionAs = none) (fun _ h => h) s s.reports hn q hq
  have hmap := (records_reacts s (decide (2 ≤ (orderReports s s.reports).length)) (orderReports s s.reports)).keeps.map
  exact applyReactions_unlit _ hq hqn (by rw [reactionOf_map hmap, reactionOf_real hqn hi]; exact h0)

section
variable {C : List Nat} {E : Nat → Prop} {i : Instr} {s b t : State} {f : State → State} {src : Nat}

/-- An event whose operation reports a source that calls for the safe state. -/
theorem exec_adds_unlit (hi : exec i s = .next (event s f)) (h : Live s) (ha : Adds C E b (f s)) (hb : Begun s b)
    (ht : exec i s = .next t) (hc : src ∈ C) (hl : src < 256) (h12 : src ≠ 0x12) (he : ¬ E src)
    (h0 : bitAt (sourceCfg s src).2.1 0 = true) : Unlit t.pins := by
  have hrep : b.reports = [] := hb.reports.trans h.reports
  have news (q : Report) (hq : q ∈ (f s).reports) : q = { source := 0x12 } ∨
      (q.source < 256 ∧ q.reactionAs = none ∧ (E q.source ∨ (q.source ∈ C ∧ q.injected = false))) := by
    rcases ha.news q hq with hq | hq
    · rw [hrep] at hq; cases hq
    · exact hq
  have hreal : ∃ q ∈ (f s).reports, q.source = src ∧ q.injected = false := by
    have hpos : 0 < reportsOf (f s).reports src := by
      rw [ha.reports src hl h12 he, hrep]
      have := List.count_pos_iff.mpr hc
      omega
    obtain ⟨q, hq, hqs⟩ := reportsOf_mem hpos
    refine ⟨q, hq, ?_⟩
    rcases news q hq with rfl | ⟨hlt, -, hcc⟩
    · exact absurd hqs (by simp only; omega)
    · have hqs : q.source = src := by omega
      exact ⟨hqs, (hcc.resolve_left (hqs ▸ he)).2⟩
  have hact : (f s).img.act = none := (((calm_eq (·.img.act) ha.calm :)).trans hb.act).trans h.act
  have hw : noWait (f s) := ha.waits (by rw [noWait, hb.hmi]; exact h.waits)
  have hq : (f s).pending = s.pending := ((calm_eq (·.pending) ha.calm :)).trans hb.pending
  have het : t = finish s (f s) := by
    rw [hi, event_running h.power] at ht
    exact (Host.Outcome.next.inj ht).symm
  rw [het]
  refine (finish_after_collect hact hw hq).1.unlit (collect_unlit hreal (fun q hq => ?_) ?_)
  · rcases news q hq with rfl | ⟨-, hn, -⟩
    · rfl
    · exact hn
  · rw [sourceCfg_map' (ha.map.trans hb.map)]
    exact h0

/-- Sources without reactions change no unit. -/
theorem Leaves.calm (h : Leaves C exactly s b t) (hc : ∀ n ∈ C, n < 256 → (sourceCfg s n).2.1 = 0) :
    Machine.calm t = Machine.calm b := h.quiet (fun n hl hn => hn.elim (fun hm => hc n hm hl) False.elim)

end
end Sys2Proof.Machine
end


section
/-! Training of the DRAM channels (R429–R433). -/

namespace Sys2Proof.Machine

/-- `b` is `s` but for the controller. -/
def OnlyMem (s b : State) : Prop := ∃ m, b = { s with mem := m }

section
variable {C : List Nat} {E : Nat → Prop} {s b r : State} {c : Nat} {res : StepResult}

theorem OnlyMem.refl (s : State) : OnlyMem s s := ⟨s.mem, rfl⟩

theorem OnlyMem.chan (h : OnlyMem s b) (c : Nat) (f : Chan → Chan) : OnlyMem s (modChan b c f) := by
  obtain ⟨m, rfl⟩ := h
  exact ⟨{ m with ch := vmod m.ch c f }, rfl⟩

theorem OnlyMem.begun (h : OnlyMem s b) : Begun s b := by
  obtain ⟨m, rfl⟩ := h
  exact {}

theorem OnlyMem.calm {t : State} (h : OnlyMem s b) (ht : calm t = calm b) : Machine.calm t = Machine.calm { s with mem := t.mem } := by
  obtain ⟨m, rfl⟩ := h
  have hm : t.mem = m := (calm_eq (·.mem) ht :)
  rw [hm, ht]

theorem OnlyMem.pins {t : State} (h : OnlyMem s b) (ht : PinsDown b t) : PinsDown s t := by
  obtain ⟨m, rfl⟩ := h
  exact ht.of_pins

theorem Adds.chan (h : Adds C E b r) (c : Nat) (f : Chan → Chan) : Adds C E (modChan b c f) (modChan r c f) :=
  h.map' (fun s => modChan s c f) (by intros; rfl) rfl

/-! ### What a step notes -/

/-- The tally of the uncorrectable words that a unit met, and their source. -/
def ueNoise (n : Nat) : Prop := n = 0x21 ∨ n = 0x100024

/-- What a step measured stands in its channel. -/
def stepSeen (res : StepResult) (x : Chan) : Chan :=
  { x with eye := (List.range 4).map (fun i => eyePs (res.taps.getD i 0)), drift := clampI (-128) 127 (worstShift res.shift) }

/-- MEM's ECC registers name a word. -/
def eccNoted (s : State) (e : Nat × Bool × Bool) : State :=
  { s with mem := { s.mem with
      eccAddr := e.1
      eccUe := e.2.1
      eccPoison := e.2.2 } }

theorem OnlyMem.ecc (h : OnlyMem s b) (e : Nat × Bool × Bool) : OnlyMem s (eccNoted b e) := by
  obtain ⟨m, rfl⟩ := h
  exact ⟨_, rfl⟩

theorem dramUe_adds (s : State) (addr unit : Nat) (inj : Option Injection) (co : Bool) :
    ∃ e, Adds [] ueNoise (eccNoted s e) (dramUe s addr unit inj co) := by
  refine ⟨(addr, true, s.poisoned.contains (addr / 8)), ?_⟩
  have hb := bump_adds (E := ueNoise) (eccNoted s (addr, true, s.poisoned.contains (addr / 8))) (off := 0x100024) rfl (by decide)
  refine (hb.drop ?_).trans (report_untold _ _ (show 0x21 < 256 by decide) (.inl rfl) rfl)
  intro n hn
  exact .inr (List.mem_singleton.mp hn)

theorem reportUe_adds (s : State) (bad : Option Nat) (inj : Option Injection) (unit : Nat) :
    ∃ e, Adds [] ueNoise (eccNoted s e) (reportUe s bad inj unit) := by
  have disarmed (a : Nat) (i : Option Injection) (co : Bool) :
      ∃ e, Adds [] ueNoise (eccNoted s e) (dramUe (disarm s 0x21) a unit i co) := by
    obtain ⟨e, he⟩ := dramUe_adds (disarm s 0x21) a unit i co
    exact ⟨e, ((disarm_adds s 0x21).map' (fun s => eccNoted s e) (by intros; rfl) rfl).trans he⟩
  unfold reportUe
  split
  · exact ⟨(s.mem.eccAddr, s.mem.eccUe, s.mem.eccPoison), .refl _ _⟩
  · exact dramUe_adds _ _ _ _ _
  · exact disarmed _ _ _
  · exact disarmed _ _ _

theorem noteStep_adds (s : State) (c : Nat) (res : StepResult) :
    ∃ e, Adds [] ueNoise (modChan (eccNoted s e) c (stepSeen res)) (noteStep s c res) := by
  obtain ⟨e, he⟩ := reportUe_adds s (res.ue.map (patternBase s c + ·)) (armedUe s (patternBase s c) 0x40000) 0x0D
  exact ⟨e, he.chan c (stepSeen res)⟩

theorem noteStep_clean (hue : res.ue = none) (hi : armedUe s (patternBase s c) 0x40000 = none) :
    noteStep s c res = modChan s c (stepSeen res) := by
  unfold noteStep
  rw [hue, hi]
  rfl

theorem stepFails_clean (h : stepFails s c res = false) : res.ue = none ∧ armedUe s (patternBase s c) 0x40000 = none := by
  simp only [stepFails, Bool.or_eq_false_iff, Option.isSome_eq_false_iff, Option.isNone_iff_eq_none] at h
  exact h.1

/-! ### What a step does to its channel -/

def withMode (m : TrnMode) (x : Chan) : Chan := { x with mode := m }

/-- The codes move toward the measured centres (R430). -/
def codesMoved (res : StepResult) (x : Chan) : Chan :=
  { x with codes := (List.range 4).map (fun i => x.codes.getD i 0 + clampI (-2) 2 (res.shift.getD i 0)) }

theorem setTrn_adds (s : State) (m : TrnMode) (cause : Nat) : Adds [] E (modChan s c (withMode m)) (setTrn s c m cause) := by
  rw [setTrn]
  extract_lets old
  split
  · rename_i hsame
    have hv := vmod_congr s.mem.ch c (withMode m) id {} (by
      show withMode m (chan s c) = chan s c
      rw [withMode, ← hsame])
    have hid : vmod s.mem.ch c id = s.mem.ch := by
      unfold vmod
      split <;> simp
    rw [hid] at hv
    have : modChan s c (withMode m) = s := by rw [modChan, hv]
    rw [this]
    exact .refl _ _
  · exact post_adds _ _ _ _

theorem moveCodes_adds (s : State) : Adds [0x100030] E (modChan s c (codesMoved res)) (moveCodes s c res) :=
  bump_adds (modChan s c (codesMoved res)) rfl (by decide)

theorem channelFails_adds (s : State) (cause : Nat) :
    Adds [0x24] E (modChan s c (withMode .failed)) (channelFails s c cause) :=
  (setTrn_adds s .failed cause).trans (report_adds _ { source := 0x24, master := c } (show 0x24 < 256 by decide) rfl rfl)

/-- A failed step is counted and reported (R431). -/
theorem stepFailed_adds (s : State) :
    Adds [0x10002C, 0x23] E s (report (bump s 0x10002C) { source := 0x23, master := c }) :=
  (bump_adds s rfl (by decide)).trans (report_adds _ { source := 0x23, master := c } (show 0x23 < 256 by decide) rfl rfl)

theorem chan_ecc (e : Nat × Bool × Bool) (c : Nat) : Machine.chan (eccNoted s e) c = Machine.chan s c := rfl

/-! ### The ends of a step -/

theorem periodicStep_clean (hf : stepFails s c res = false) :
    Adds [0x100030] exactly (modChan (modChan s c (stepSeen res)) c (codesMoved res)) (periodicStep s c res) := by
  obtain ⟨hu, hi⟩ := stepFails_clean hf
  simp only [periodicStep, hf, Bool.false_eq_true, if_false, noteStep_clean hu hi]
  exact moveCodes_adds _

/-- The channel falls back (R431). -/
def fallenBack (x : Chan) : Chan := { x with pauses := 0 }

theorem periodicStep_fails (hf : stepFails s c res = true) (ha : Adds [] E b (noteStep s c res)) :
    Adds [0x10002C, 0x23] E (modChan (modChan b c fallenBack) c (withMode .fallback)) (periodicStep s c res) := by
  simp only [periodicStep, hf, if_true]
  exact ((((ha.trans (stepFailed_adds _)).chan c fallenBack).chan c (withMode .fallback)).trans (setTrn_adds _ _ _) :)

/-- The channel's training by command is over. -/
def untrained (s : State) (c : Nat) : State := { s with mem := { s.mem with train := s.mem.train.filter (fun e => e.1 != c) } }

theorem OnlyMem.untrained (s : State) (c : Nat) : OnlyMem s (untrained s c) := ⟨_, rfl⟩

theorem trainingDone_step {x id : Nat} (h : s.mem.train.find? (fun e => e.1 == c) = some (x, id, 0))
    (hf : stepFails s c res = false) : trainingDone s c res =
      complete (setTrn (moveCodes (noteStep (untrained s c) c res) c res) c .ok 4) id .ok
        (leBytes 4 (eyeWord (Machine.chan (noteStep (untrained s c) c res) c).eye)) := by
  simp only [trainingDone, h, hf, if_true, Bool.false_eq_true, if_false, untrained]

theorem trainingDone_stepFails {x id : Nat} (h : s.mem.train.find? (fun e => e.1 == c) = some (x, id, 0))
    (hf : stepFails s c res = true) : trainingDone s c res =
      complete (channelFails (report (bump (noteStep (untrained s c) c res) 0x10002C) { source := 0x23, master := c }) c 4) id
        .checkFail (leBytes 4 (eyeWord (Machine.chan (noteStep (untrained s c) c res) c).eye)) := by
  simp only [trainingDone, h, hf, if_true, untrained]

theorem trainingDone_firmware {x id m : Nat} (h : s.mem.train.find? (fun e => e.1 == c) = some (x, id, m)) (hm : m ≠ 0) :
    trainingDone s c res =
      if res.firmware = some true then
        complete (setTrn (noteStep (untrained s c) c res) c .ok 4) id .ok
          (leBytes 4 (eyeWord (Machine.chan (noteStep (untrained s c) c res) c).eye))
      else
        complete (channelFails (noteStep (untrained s c) c res) c 4) id .checkFail
          (leBytes 4 (eyeWord (Machine.chan (noteStep (untrained s c) c res) c).eye)) := by
  have hg : (!(res.firmware.getD false)) = !decide (res.firmware = some true) := by
    rcases res.firmware with _ | _ | _ <;> rfl
  simp only [trainingDone, h, hm, if_false, untrained, hg, Bool.not_eq_true', decide_eq_false_iff_not, ite_not]

/-- The channel's step after a reset is done. -/
def afterResetDone (s : State) (c : Nat) : State := { s with mem := { s.mem with afterReset := s.mem.afterReset ^^^ 2 ^ c } }
/-- The channel's turn of the pause is over. -/
def turnDone (s : State) (c : Nat) : State := { s with mem := { s.mem with
  pause := s.mem.pause ^^^ 2 ^ c
  stepFrom := s.tsc } }

theorem trainingDone_afterReset (h : s.mem.train.find? (fun e => e.1 == c) = none) (ha : bitAt s.mem.afterReset c = true) :
    trainingDone s c res = periodicStep (afterResetDone s c) c res := by
  simp only [trainingDone, h, ha, if_true, afterResetDone]

theorem trainingDone_turn (h : s.mem.train.find? (fun e => e.1 == c) = none) (ha : bitAt s.mem.afterReset c = false)
    (hp : pauseTurn s c = true) (hm : (Machine.chan s c).mode ≠ .fallback) :
    trainingDone s c res = periodicStep (turnDone s c) c res := by
  have hf : (Machine.chan s c).mode ≠ .failed := by
    intro he
    simp [pauseTurn, he] at hp
  simp only [trainingDone, h, ha, hp, if_true, Bool.false_eq_true, if_false, turnDone]
  cases hmode : (Machine.chan s c).mode with
  | ok => rfl
  | untrained => rfl
  | fallback => exact absurd hmode hm
  | failed => exact absurd hmode hf

theorem trainingDone_slice (h : s.mem.train.find? (fun e => e.1 == c) = none) (ha : bitAt s.mem.afterReset c = false)
    (hp : pauseTurn s c = true) (hm : (Machine.chan s c).mode = .fallback) (hf : res.firmware = none) :
    trainingDone s c res = turnDone s c := by
  simp only [trainingDone, h, ha, hp, hm, hf, if_true, Bool.false_eq_true, if_false, turnDone]

theorem trainingDone_fallback {ok : Bool} (h : s.mem.train.find? (fun e => e.1 == c) = none)
    (ha : bitAt s.mem.afterReset c = false) (hp : pauseTurn s c = true) (hm : (Machine.chan s c).mode = .fallback)
    (hf : res.firmware = some ok) : trainingDone s c res =
      if ok then setTrn (noteStep (turnDone s c) c res) c .ok 1 else channelFails (noteStep (turnDone s c) c res) c 2 := by
  cases ok <;> simp only [trainingDone, h, ha, hp, hm, hf, if_true, Bool.false_eq_true, if_false, turnDone]

theorem trainingDone_idle (h : s.mem.train.find? (fun e => e.1 == c) = none) (ha : bitAt s.mem.afterReset c = false)
    (hp : pauseTurn s c = false) : trainingDone s c res = s := by
  simp only [trainingDone, h, ha, hp, Bool.false_eq_true, if_false]


/-! ### The row -/

/-- Where a periodic step of the channel ends: after a reset, or in its turn of the pause. -/
def stepEnded (s : State) (c : Nat) : State := if bitAt s.mem.afterReset c then afterResetDone s c else turnDone s c

/-- The step in hand is a periodic one. -/
def Periodic (s : State) (c : Nat) : Prop := s.mem.train.find? (fun e => e.1 == c) = none ∧
  (bitAt s.mem.afterReset c = true ∨ (pauseTurn s c = true ∧ (Machine.chan s c).mode ≠ .fallback))

theorem trainingDone_periodic (h : Periodic s c) : trainingDone s c res = periodicStep (stepEnded s c) c res := by
  obtain ⟨hn, hp⟩ := h
  rw [stepEnded]
  by_cases ha : bitAt s.mem.afterReset c = true
  · rw [if_pos ha]
    exact trainingDone_afterReset hn ha
  · rw [if_neg ha]
    obtain ⟨hp, hm⟩ := hp.resolve_left ha
    exact trainingDone_turn hn (Bool.eq_false_iff.mpr ha) hp hm

theorem stepEnded_mem (s : State) (c : Nat) : OnlyMem s (stepEnded s c) := by
  rw [stepEnded]
  split
  · exact ⟨_, rfl⟩
  · exact ⟨_, rfl⟩

theorem chan_stepEnded (s : State) (c : Nat) : Machine.chan (stepEnded s c) c = Machine.chan s c := by
  rw [stepEnded]
  split <;> rfl

theorem stepFails_stepEnded (s : State) (c : Nat) : stepFails (stepEnded s c) c res = stepFails s c res := by
  rw [stepEnded]
  split <;> rfl

theorem armedUe_stepEnded (s : State) (c a n : Nat) : armedUe (stepEnded s c) a n = armedUe s a n := by
  rw [stepEnded]
  split <;> rfl

theorem patternBase_stepEnded (s : State) (c : Nat) : patternBase (stepEnded s c) c = patternBase s c := by
  rw [stepEnded]
  split <;> rfl

theorem bitAt_xor_self {w : Nat} (h : bitAt w c = true) : bitAt (w ^^^ 2 ^ c) c = false := by
  rw [bitAt] at h ⊢
  rw [Nat.testBit_xor, h, Nat.testBit_two_pow_self]
  rfl

theorem pauseTurn_named (h : pauseTurn s c = true) : bitAt s.mem.pause c = true := by
  simp only [pauseTurn, Bool.and_eq_true] at h
  exact h.1.1.1.1

/-- What the row leaves where its step, or its training, changed the channel by `f` last. -/
structure Judged (C : List Nat) (E : Nat → Prop) (s b : State) (c : Nat) (f : Chan → Chan) (t : State) : Prop where
  leaves : Leaves C E s (modChan b c f) t
  chan : Machine.chan t c = f (Machine.chan b c)
  only : OnlyMem s (modChan b c f)
  failed : 0x24 ∈ C → ¬ E 0x24 → (srcAt t 0x24).mode = .fatal ∧ t.pins.laserEn = 0

theorem exec_step {c : Fin 16} {f : Chan → Chan} (h : Live s) (hb : OnlyMem s b)
    (hd : Adds C E (modChan b c f) (trainingDone s c res)) :
    ∃ t, exec (.trainingStepDone c res) s = .next t ∧ Judged C E s b c f t ∧ Ends (trainingDone s c res) t := by
  have hm := hb.chan c f
  obtain ⟨t, he, hl, hends⟩ := exec_adds (i := .trainingStepDone c res) rfl h hd hm.begun
  have hch : Machine.chan t c = _ := (congrArg (fun x : State => Machine.chan x c) hl.rest :).trans (chan_modChan_same c.isLt _)
  refine ⟨t, he, ⟨hl, hch, hm, fun hc hne => ⟨?_, ?_⟩⟩, hends⟩
  · exact (hl.marks 0x24 hc (by decide) (by decide) hne (show (1 : Nat) + 1 ≠ 0 by decide)).2 rfl
  · exact (exec_adds_unlit (i := .trainingStepDone c res) rfl h hd hm.begun he hc (by decide) (by decide) hne
      (by rw [sourceCfg_fixed (e := (0x24, 2, 5)) rfl]; rfl)).1

/-- The command that the row completes leaves the flight. -/
theorem Ends.completes {r' t : State} {id : Nat} {st : Status} {l : List Byte} (h : Ends r t) (hr : r = complete r' id st l)
    (ha : Adds C E b r') (hb : Begun s b) (f : InFlight) (hf : s.hmi.inFlight = [f]) (hid : f.id = id) : t.hmi.inFlight = [] := by
  refine h.reacts.keeps.idle ?_
  rw [hr, ← hid]
  exact ha.completed (hb.hmi ▸ hf) st l

section
variable {c : Fin 16} {x id m : Nat}

theorem exec_trained (h : Live s) (ht : s.mem.train.find? (fun e => e.1 == c.val) = some (x, id, 0))
    (hs : stepFails s c res = false) : ∃ t, exec (.trainingStepDone c res) s = .next t ∧
      Judged [0x100030] exactly s (modChan (modChan (untrained s c) c (stepSeen res)) c (codesMoved res)) c (withMode .ok) t ∧
      (∀ f, s.hmi.inFlight = [f] → f.id = id → t.hmi.inFlight = []) := by
  obtain ⟨hu, hi⟩ := stepFails_clean hs
  have hb : OnlyMem s (modChan (modChan (untrained s c) c (stepSeen res)) c (codesMoved res)) :=
    ((OnlyMem.untrained s c).chan _ _).chan _ _
  have hstep : Adds [0x100030] exactly
      (modChan (modChan (modChan (untrained s c) c (stepSeen res)) c (codesMoved res)) c (withMode .ok))
      (setTrn (moveCodes (noteStep (untrained s c) c res) c res) c .ok 4) := by
    rw [noteStep_clean (s := untrained s c) hu hi]
    exact ((moveCodes_adds _).chan c (withMode .ok)).trans (setTrn_adds _ .ok 4)
  have hrun := trainingDone_step ht hs
  obtain ⟨t, he, hj, hends⟩ := exec_step h hb (hrun ▸ hstep.trans (complete_adds _ id .ok _))
  exact ⟨t, he, hj, hends.completes hrun hstep (hb.chan _ _).begun⟩

theorem exec_untrained (h : Live s) (ht : s.mem.train.find? (fun e => e.1 == c.val) = some (x, id, 0))
    (hs : stepFails s c res = true) : ∃ t e, exec (.trainingStepDone c res) s = .next t ∧
      Judged [0x10002C, 0x23, 0x24] ueNoise s (modChan (eccNoted (untrained s c) e) c (stepSeen res)) c (withMode .failed) t ∧
      (∀ f, s.hmi.inFlight = [f] → f.id = id → t.hmi.inFlight = []) := by
  obtain ⟨e, hn⟩ := noteStep_adds (untrained s c) c res
  have hb : OnlyMem s (modChan (eccNoted (untrained s c) e) c (stepSeen res)) := ((OnlyMem.untrained s c).ecc e).chan _ _
  have hstep := ((hn.trans (stepFailed_adds (c := c) _)).chan c (withMode .failed)).trans (channelFails_adds _ 4)
  have hrun := trainingDone_stepFails ht hs
  obtain ⟨t, he, hj, hends⟩ := exec_step h hb (hrun ▸ hstep.trans (complete_adds _ id .checkFail _))
  exact ⟨t, e, he, hj, hends.completes hrun hstep (hb.chan _ _).begun⟩

theorem exec_firmware (h : Live s) (ht : s.mem.train.find? (fun e => e.1 == c.val) = some (x, id, m)) (hm : m ≠ 0) :
    ∃ t e, exec (.trainingStepDone c res) s = .next t ∧
      (if res.firmware = some true then
        Judged [] ueNoise s (modChan (eccNoted (untrained s c) e) c (stepSeen res)) c (withMode .ok) t
      else Judged [0x24] ueNoise s (modChan (eccNoted (untrained s c) e) c (stepSeen res)) c (withMode .failed) t) ∧
      (∀ f, s.hmi.inFlight = [f] → f.id = id → t.hmi.inFlight = []) := by
  obtain ⟨e, hn⟩ := noteStep_adds (untrained s c) c res
  have hb : OnlyMem s (modChan (eccNoted (untrained s c) e) c (stepSeen res)) := ((OnlyMem.untrained s c).ecc e).chan _ _
  have hrun := trainingDone_firmware (res := res) ht hm
  by_cases hok : res.firmware = some true
  · rw [if_pos hok] at hrun
    have hstep := (hn.chan c (withMode .ok)).trans (setTrn_adds (noteStep (untrained s c) c res) .ok 4)
    obtain ⟨t, he, hj, hends⟩ := exec_step h hb (hrun ▸ hstep.trans (complete_adds _ id .ok _))
    exact ⟨t, e, he, by rwa [if_pos hok], hends.completes hrun hstep (hb.chan _ _).begun⟩
  · rw [if_neg hok] at hrun
    have hstep := (hn.chan c (withMode .failed)).trans (channelFails_adds (noteStep (untrained s c) c res) 4)
    obtain ⟨t, he, hj, hends⟩ := exec_step h hb (hrun ▸ hstep.trans (complete_adds _ id .checkFail _))
    exact ⟨t, e, he, by rwa [if_neg hok], hends.completes hrun hstep (hb.chan _ _).begun⟩

theorem exec_periodic (h : Live s) (hp : Periodic s c) (hs : stepFails s c res = false) :
    ∃ t, exec (.trainingStepDone c res) s = .next t ∧
      Judged [0x100030] exactly s (modChan (stepEnded s c) c (stepSeen res)) c (codesMoved res) t := by
  have hd := periodicStep_clean (s := stepEnded s c) (c := c) (res := res) (by rw [stepFails_stepEnded]; exact hs)
  rw [← trainingDone_periodic hp] at hd
  obtain ⟨t, he, hj, -⟩ := exec_step h ((stepEnded_mem s c).chan c (stepSeen res)) hd
  exact ⟨t, he, hj⟩

theorem exec_fallsBack (h : Live s) (hp : Periodic s c) (hs : stepFails s c res = true) (hb : OnlyMem s b)
    (ha : Adds [] E b (noteStep (stepEnded s c) c res)) : ∃ t, exec (.trainingStepDone c res) s = .next t ∧
      Judged [0x10002C, 0x23] E s (modChan b c fallenBack) c (withMode .fallback) t := by
  have hd := periodicStep_fails (by rw [stepFails_stepEnded]; exact hs) ha
  rw [← trainingDone_periodic hp] at hd
  obtain ⟨t, he, hj, -⟩ := exec_step h (hb.chan c fallenBack) hd
  exact ⟨t, he, hj⟩

end
end

/-- Settles O49: what a step measured is noted, then its channel is judged; only an uncorrectable word of the pattern area adds
a report that the map may give a reaction. -/
theorem trainingStepsJudgeChannels : Obligations.TrainingStepsJudgeChannels := by
  unfold Obligations.TrainingStepsJudgeChannels
  have untold {n : Nat} (h1 : n ≠ 0x21) (h2 : n ≠ 0x100024) : ¬ ueNoise n := fun h => h.elim h1 h2
  have h24 := untold (n := 0x24) (by decide) (by decide)
  have h23 := untold (n := 0x23) (by decide) (by decide)
  have h2C := untold (n := 0x10002C) (by decide) (by decide)
  refine ⟨fun s c h hm hz hf => ?begins, fun s c h hm hz hf => ?running, fun s c h hr => ?range,
    fun s c r x id h ht hs => ?passes, fun s c r x id h ht hs => ?fails, fun s c r x id m h ht hm => ?firmware,
    fun s c r h hn hp hs => ?periodic, fun s c r h hn hp hs => ?periodicFails, fun s c r ok h hn ha hp hm hf => ?fallback,
    fun s c r h hn ha hp hm hf => ?slice, fun s c r h hn ha hp => ?idle⟩
  case begins =>
    refine exec_begins (i := .memTrain c) rfl h ((h.on []).trans (?_ : runMemTrain _ _ _ _ = _)) (.refl _)
    rw [runMemTrain, if_neg (by omega), if_neg]
    · rfl
    · simp [enterFlight, hf, h.act]
  case running =>
    refine exec_replies (i := .memTrain c) rfl h ((h.on []).trans (?_ : runMemTrain _ _ _ _ = _))
    rw [runMemTrain, if_neg (by omega), if_pos]
    simp [enterFlight, hf]
  case range =>
    refine exec_replies (i := .memTrain c) rfl h ((h.on []).trans (?_ : runMemTrain _ _ _ _ = _))
    rw [runMemTrain, if_pos hr]
  case passes =>
    obtain ⟨t, he, hj, hcpl⟩ := exec_trained h ht hs
    have hq := hj.leaves.calm (by simp)
    have hch := hj.chan
    rw [chan_modChan_same c.isLt, chan_modChan_same c.isLt] at hch
    refine ⟨t, he, by rw [hch]; rfl, by rw [hch]; rfl, fun e hm => ?_, hj.leaves.tallies _ (by decide) rfl not_false, hcpl, hj.only.calm hq⟩
    rw [(calm_eq (·.mem) hq :)] at hm
    simpa using (List.mem_filter.mp hm).2
  case fails =>
    obtain ⟨t, e, he, hj, hcpl⟩ := exec_untrained h ht hs
    obtain ⟨hfatal, hdark⟩ := hj.failed (by decide) h24
    exact ⟨t, he, by rw [hj.chan]; rfl, hj.leaves.counted 0x23 (by decide) (by decide) h23 rfl,
      hj.leaves.counted 0x24 (by decide) (by decide) h24 rfl, hfatal, hdark, hj.leaves.tallies _ (by decide) rfl h2C, hcpl,
      hj.only.pins hj.leaves.pins⟩
  case firmware =>
    obtain ⟨t, e, he, hj, hcpl⟩ := exec_firmware (res := r) h ht hm
    by_cases hok : r.firmware = some true
    · rw [if_pos hok] at hj
      exact ⟨t, he, by rw [hj.chan, if_pos hok]; rfl, fun hne => absurd hok hne, hcpl⟩
    · rw [if_neg hok] at hj
      exact ⟨t, he, by rw [hj.chan, if_neg hok]; rfl, fun _ => hj.failed (by decide) h24, hcpl⟩
  case periodic =>
    obtain ⟨t, he, hj⟩ := exec_periodic h ⟨hn, hp⟩ hs
    have hq := hj.leaves.calm (by simp)
    have hmem := (calm_eq (·.mem) hq :)
    have hch := hj.chan
    rw [chan_modChan_same c.isLt, chan_stepEnded] at hch
    refine ⟨t, he, by rw [hch]; rfl, by rw [hch]; rfl, fun ha => ?_, fun ha => ?_, hj.leaves.tallies _ (by decide) rfl not_false,
      hj.only.calm hq⟩
    · have hm : t.mem.afterReset = s.mem.afterReset ^^^ 2 ^ c.val ∧ t.mem.pause = s.mem.pause := by
        rw [hmem, stepEnded, if_pos ha]
        exact ⟨rfl, rfl⟩
      exact ⟨by rw [hm.1]; exact bitAt_xor_self ha, hm.2⟩
    · have hm : t.mem.pause = s.mem.pause ^^^ 2 ^ c.val ∧ t.mem.stepFrom = s.tsc := by
        rw [hmem, stepEnded, if_neg (by rw [ha]; decide)]
        exact ⟨rfl, rfl⟩
      obtain ⟨hturn, -⟩ := hp.resolve_left (by rw [ha]; decide)
      exact ⟨by rw [hm.1]; exact bitAt_xor_self (pauseTurn_named hturn), hm.2⟩
  case periodicFails =>
    obtain ⟨e, hnote⟩ := noteStep_adds (stepEnded s c) c r
    obtain ⟨t, he, hj⟩ := exec_fallsBack h ⟨hn, hp⟩ hs (((stepEnded_mem s c).ecc e).chan c (stepSeen r)) hnote
    have hch := hj.chan
    rw [chan_modChan_same c.isLt, chan_modChan_same c.isLt, chan_ecc, chan_stepEnded] at hch
    refine ⟨t, he, by rw [hch]; rfl, by rw [hch]; rfl, by rw [hch]; rfl,
      hj.leaves.counted 0x23 (by decide) (by decide) h23 rfl, hj.leaves.tallies _ (by decide) rfl h2C,
      hj.only.pins hj.leaves.pins, fun hue hi => ?_⟩
    have hclean : noteStep (stepEnded s c) c r = _ :=
      noteStep_clean hue (by rw [patternBase_stepEnded, armedUe_stepEnded]; exact hi)
    obtain ⟨t', he', hj'⟩ := exec_fallsBack (E := exactly) h ⟨hn, hp⟩ hs ((stepEnded_mem s c).chan c (stepSeen r)) (hclean ▸ .refl _ _)
    obtain rfl := Host.Outcome.next.inj (he'.symm.trans he)
    exact hj'.only.calm (hj'.leaves.calm (by simpa using show (sourceCfg s 0x23).2.1 = 0 from rfl))
  case fallback =>
    obtain ⟨e, hnote⟩ := noteStep_adds (turnDone s c) c r
    have hb : OnlyMem s (modChan (eccNoted (turnDone s c) e) c (stepSeen r)) := (OnlyMem.ecc ⟨_, rfl⟩ e).chan _ _
    cases ok with
    | true =>
      have hrun : trainingDone s c r = setTrn (noteStep (turnDone s c) c r) c .ok 1 := trainingDone_fallback hn ha hp hm hf
      obtain ⟨t, he, hj, -⟩ := exec_step h hb (hrun ▸ (hnote.chan c (withMode .ok)).trans (setTrn_adds (noteStep (turnDone s c) c r) .ok 1))
      exact ⟨t, he, by rw [hj.chan]; rfl, fun hne => absurd hne (by decide)⟩
    | false =>
      have hrun : trainingDone s c r = channelFails (noteStep (turnDone s c) c r) c 2 := trainingDone_fallback hn ha hp hm hf
      obtain ⟨t, he, hj, -⟩ := exec_step h hb
        (hrun ▸ (hnote.chan c (withMode .failed)).trans (channelFails_adds (noteStep (turnDone s c) c r) 2))
      exact ⟨t, he, by rw [hj.chan]; rfl, fun _ => hj.failed (by decide) h24⟩
  case slice =>
    have hrun := trainingDone_slice hn ha hp hm hf
    exact exec_unit_quiet (i := .trainingStepDone c r) rfl h hrun h.toSteady.quiet
  case idle => exact exec_unit_same (i := .trainingStepDone c r) rfl h (trainingDone_idle hn ha hp)

end Sys2Proof.Machine
end


section
/-! What a unit's DRAM reads add, whatever errors they meet (R418, R419); and the audio ports (R439–R450). -/

namespace Sys2Proof.Machine

section
variable {C : List Nat} {E : Nat → Prop} {s b r : State} {p : Nat}

/-! ### Reads of the DRAM -/

/-- The tallies and sources of corrected and uncorrectable words. -/
def dramNoise (n : Nat) : Prop := n = 0x20 ∨ n = 0x21 ∨ n = 0x100020 ∨ n = 0x100024

theorem Adds.mem (h : Adds C E b r) (m : Mem) : Adds C E { b with mem := m } { r with mem := m } :=
  h.map' (fun s => { s with mem := m }) (by intros; rfl) rfl

theorem badWords_adds (s : State) (l : List Nat) : Adds [] E s { s with badWords := l } :=
  { Adds.refl E s with
    calm := rfl
    waits := id
    outs := fun _ h => h
    map := rfl
    memory := fun _ _ => rfl
    source := fun _ => rfl
    reports := fun _ _ _ _ => rfl }

theorem dramCe_adds (s : State) (addr unit : Nat) : ∃ m, Adds [] dramNoise { s with mem := m } (dramCe s addr unit) := by
  refine ⟨{ s.mem with eccAddr := addr, eccUe := false, eccPoison := false }, ?_⟩
  refine ((bump_adds { s with mem := { s.mem with eccAddr := addr, eccUe := false, eccPoison := false } } (off := 0x100020) rfl
    (by decide)).drop (fun n hn => ?_)).trans (report_untold _ _ (show 0x20 < 256 by decide) (.inl rfl) rfl)
  exact .inr (.inr (.inl (List.mem_singleton.mp hn)))

/-- Steps that change the controller alone, one after another. -/
theorem foldl_mem_adds {β : Type} (f : State → β → State) (hf : ∀ s x, ∃ m, Adds [] E { s with mem := m } (f s x)) (l : List β)
    (s : State) : ∃ m, Adds [] E { s with mem := m } (l.foldl f s) := by
  induction l generalizing s with
  | nil => exact ⟨s.mem, .refl E s⟩
  | cons x t ih =>
    obtain ⟨m1, h1⟩ := hf s x
    obtain ⟨m2, h2⟩ := ih (f s x)
    exact ⟨m2, (h1.mem m2).trans h2⟩

theorem meetErrors_adds (s : State) (e : DramErrs) (unit : Nat) :
    ∃ m, Adds [] dramNoise { s with mem := m } (meetErrors s e unit) := by
  unfold meetErrors
  extract_lets real s1
  obtain ⟨m, h⟩ := foldl_mem_adds (fun s w => dramCe s (8 * w) unit) (fun s w => dramCe_adds s (8 * w) unit)
    (e.ce.eraseDups.filter (fun w => real w && !s1.badWords.contains w)) s1
  exact ⟨m, ((badWords_adds s _).mem m).trans h⟩

/-- What the errors of a unit's reads add; without errors nothing. -/
theorem meetErrors_noise (s : State) (e : DramErrs) (unit : Nat) : ∃ b E, OnlyMem s b ∧ Adds [] E b (meetErrors s e unit) ∧
    (∀ n, E n → dramNoise n) ∧ (e = {} → E = exactly ∧ b = s) := by
  by_cases he : e = {}
  · subst he
    exact ⟨s, exactly, .refl s, by rw [meetErrors_none]; exact .refl _ s, fun _ h => h.elim, fun _ => ⟨rfl, rfl⟩⟩
  · obtain ⟨m, h⟩ := meetErrors_adds s e unit
    exact ⟨_, dramNoise, ⟨m, rfl⟩, h, fun _ h => h, fun h => absurd h he⟩

theorem readUe_adds (s : State) (a n unit : Nat) : ∃ m, Adds [] dramNoise { s with mem := m } (readUe s a n unit) := by
  obtain ⟨e, h⟩ := reportUe_adds s (firstBad s a n) (armedUe s a n) unit
  refine ⟨(eccNoted s e).mem, h.widen (fun n hn => ?_)⟩
  rcases hn with rfl | rfl
  · exact .inr (.inl rfl)
  · exact .inr (.inr (.inr rfl))

/-! ### One port -/

@[simp] theorem audPort_modAud_same (hp : p < 5) (f : AudPort → AudPort) : audPort (modAud s p f) p = f (audPort s p) :=
  vget_vmod_same _ hp _ _
theorem audPort_modAud_ne {q : Nat} (h : q ≠ p) (f : AudPort → AudPort) : audPort (modAud s p f) q = audPort s q :=
  vget_vmod_ne _ (Ne.symm h) _ _

theorem Adds.aud (h : Adds C E b r) (p : Nat) (f : AudPort → AudPort) : Adds C E (modAud b p f) (modAud r p f) :=
  h.map' (fun s => modAud s p f) (by intros; rfl) rfl

theorem Adds.audPort (h : Adds C E b r) (q : Nat) : Machine.audPort r q = Machine.audPort b q :=
  (calm_eq (fun s => Machine.audPort s q) h.calm :)

theorem Adds.audCfg (h : Adds C E b r) (q : Nat) : Machine.audCfg r q = Machine.audCfg b q :=
  (calm_eq (fun s => Machine.audCfg s q) h.calm :)

theorem Adds.edge (h : Adds C E b r) (p : Nat) : Adds C E (maskEdge b p) (maskEdge r p) :=
  h.map' (fun s => maskEdge s p) (by intros; rfl) rfl

theorem Adds.put (h : Adds C E b r) (p l w : Nat) : Adds C E (putFrame b p l w) (putFrame r p l w) := by
  unfold putFrame
  rw [h.audPort, h.audCfg]
  exact (h.aud p (fun x => { x with tail := bitAt w 0 })).emit _

/-- The frame's stamp and count on its port. -/
def frameSent (t : Nat) (f : Nat × Nat) (x : AudPort) : AudPort := { x with last := f, sent := (x.sent + 1) % 2 ^ 64, edge := t }

theorem Adds.send (h : Adds C E b r) (p : Nat) (f : Nat × Nat) : Adds C E (sendFrameOut b p f) (sendFrameOut r p f) := by
  have ht : r.tsc = b.tsc := (calm_eq (·.tsc) h.calm :)
  unfold sendFrameOut
  rw [h.audPort, ht]
  extract_lets m
  have hw (bit w : Nat) : audWord r p m bit w = audWord b p m bit w := by rw [audWord, h.audCfg]; rfl
  rw [hw, hw]
  exact (h.aud p (frameSent b.tsc f)).put p _ _

/-- `b` is `s` but for the audio unit, the controller and the wires. -/
def OnlyAud (s b : State) : Prop := ∃ m a o, b = { s with
  mem := m
  aud := a
  outs := o }

theorem OnlyMem.aud (h : OnlyMem s b) : OnlyAud s b := by
  obtain ⟨m, rfl⟩ := h
  exact ⟨m, s.aud, s.outs, rfl⟩

theorem OnlyMem.audPort (h : OnlyMem s b) (p : Nat) : Machine.audPort b p = Machine.audPort s p := by
  obtain ⟨m, rfl⟩ := h
  rfl

theorem OnlyMem.tsc (h : OnlyMem s b) : b.tsc = s.tsc := by
  obtain ⟨m, rfl⟩ := h
  rfl

theorem OnlyAud.aud (h : OnlyAud s b) (p : Nat) (f : AudPort → AudPort) : OnlyAud s (modAud b p f) := by
  obtain ⟨m, a, o, rfl⟩ := h
  exact ⟨m, { a with port := vmod a.port p f }, o, rfl⟩

theorem OnlyAud.put (h : OnlyAud s b) (p l w : Nat) : OnlyAud s (putFrame b p l w) := by
  obtain ⟨m, a, o, hb⟩ := h.aud p (fun x => { x with tail := bitAt w 0 })
  unfold putFrame
  rw [hb]
  exact ⟨m, a, _, rfl⟩

theorem OnlyAud.send (h : OnlyAud s b) (p : Nat) (f : Nat × Nat) : OnlyAud s (sendFrameOut b p f) := (h.aud p _).put p _ _

theorem OnlyAud.begun (h : OnlyAud s b) : Begun s b := by
  obtain ⟨m, a, o, rfl⟩ := h
  exact {}

theorem OnlyAud.pins {t : State} (h : OnlyAud s b) (ht : PinsDown b t) : PinsDown s t := by
  obtain ⟨m, a, o, rfl⟩ := h
  exact ht.of_pins

theorem OnlyAud.calm {t : State} (h : OnlyAud s b) (hm : b.mem = s.mem) (ht : Machine.calm t = Machine.calm b) :
    Machine.calm t = Machine.calm { s with aud := t.aud } := by
  obtain ⟨m, a, o, rfl⟩ := h
  obtain rfl : m = s.mem := hm
  have ha : t.aud = a := (calm_eq (·.aud) ht :)
  rw [ha, ht]
  rfl

theorem OnlyAud.audCfg (h : OnlyAud s b) (p : Nat) : Machine.audCfg b p = Machine.audCfg s p := by
  obtain ⟨m, a, o, rfl⟩ := h
  rfl

/-! ### The FIFO (R442) -/

/-- Frames taken from the ring. -/
def framesIn (l : List (Nat × Nat)) (rd taken : Nat) (x : AudPort) : AudPort :=
  { x with
    fifo := x.fifo ++ l
    rd := rd
    taken := taken }

def oneIn (f : Nat × Nat) (bytes : Nat) (x : AudPort) : AudPort :=
  { x with
    fifo := x.fifo ++ [f]
    rd := (x.rd + 8) % bytes
    taken := (x.taken + 1) % 2 ^ 64 }

theorem ringWord_adds (s : State) (a : Nat) : ∃ m, Adds [] dramNoise { s with mem := m } (ringWord s a).1 := by
  unfold ringWord
  split
  · exact readUe_adds s a 4 0x0E
  · exact ⟨s.mem, .refl _ s⟩

theorem modAud_id {f : AudPort → AudPort} (h : ∀ x, x = audPort s p → f x = x) : modAud s p f = s := by
  have hv := vmod_congr s.aud.port p f id {} (h _ rfl)
  have hid : vmod s.aud.port p id = s.aud.port := by
    unfold vmod
    split <;> simp
  rw [hid] at hv
  rw [modAud, hv]

theorem audFetch_adds (p n : Nat) (s : State) : ∃ m l rd taken,
    Adds [] dramNoise (modAud { s with mem := m } p (framesIn l rd taken)) (audFetch p n s) := by
  have stay (s : State) : ∃ m l rd taken, Adds [] dramNoise (modAud { s with mem := m } p (framesIn l rd taken)) s := by
    refine ⟨s.mem, [], (audPort s p).rd, (audPort s p).taken, ?_⟩
    have hid : modAud s p (framesIn [] (audPort s p).rd (audPort s p).taken) = s := modAud_id (fun x hx => by
      rw [← hx]
      simp [framesIn])
    rw [show ({ s with mem := s.mem } : State) = s from rfl, hid]
    exact .refl _ s
  induction n generalizing s with
  | zero => exact stay s
  | succ k ih =>
    unfold audFetch
    extract_lets x
    split
    · exact stay s
    · obtain ⟨m1, h1⟩ := ringWord_adds s (ringBase s p + x.rd)
      generalize ringWord s (ringBase s p + x.rd) = w1 at h1 ⊢
      obtain ⟨s1, l⟩ := w1
      obtain ⟨m2, h2⟩ := ringWord_adds s1 (ringBase s p + x.rd + 4)
      dsimp only at h1 ⊢
      generalize ringWord s1 (ringBase s p + x.rd + 4) = w2 at h2 ⊢
      obtain ⟨s2, r⟩ := w2
      dsimp only at h2 ⊢
      obtain ⟨m3, ls, rd, taken, h3⟩ := ih (modAud s2 p (oneIn (l, r) (ringBytes s p)))
      refine ⟨m3, (l, r) :: ls, rd, taken, ?_⟩
      have h := ((((h1.mem m2).trans h2).aud p (oneIn (l, r) (ringBytes s p))).mem m3).aud p (framesIn ls rd taken)
      have he : modAud { modAud { s with mem := m2 } p (oneIn (l, r) (ringBytes s p)) with mem := m3 } p (framesIn ls rd taken) =
          modAud { s with mem := m3 } p (framesIn ((l, r) :: ls) rd taken) := by
        simp only [modAud, vmod_vmod]
        congr 3
        funext y
        simp [oneIn, framesIn]
      exact he ▸ (h.trans h3 :)


theorem audFetch_none (h : (audPort s p).rd = (audPort s p).wr) (n : Nat) : audFetch p n s = s := by
  cases n with
  | zero => rfl
  | succ k => rw [audFetch, if_pos (.inl h)]

/-! ### A left edge of an output (R443–R449) -/

/-- The port stands at a left edge that does not stop it: the mask due is in force, and it holds where its group repeats. -/
def edgeTaken (s : State) (p : Nat) : State := modAud (maskEdge s p) p (fun x => { x with holding := x.repeats })

/-- The port has stopped. -/
def stopped (x : AudPort) : AudPort :=
  { x with
    running := false
    stopIds := []
    holding := false
    underrun := false }

def maskTaken (t : Nat) (x : AudPort) : AudPort :=
  { x with
    mask := ((x.maskNext.filter (fun w => decide (w.1 < t))).getLast?.map (·.2)).getD x.mask
    maskNext := x.maskNext.filter (fun w => !decide (w.1 < t)) }

@[simp] theorem audPort_maskEdge (hp : p < 5) : audPort (maskEdge s p) p = maskTaken s.tsc (audPort s p) :=
  audPort_modAud_same hp _

@[simp] theorem audPort_edgeTaken (hp : p < 5) :
    audPort (edgeTaken s p) p = { maskTaken s.tsc (audPort s p) with holding := (audPort s p).repeats } := by
  rw [edgeTaken, audPort_modAud_same hp, audPort_maskEdge hp]
  rfl

@[simp] theorem audPort_putFrame (hp : p < 5) (l w : Nat) :
    audPort (putFrame s p l w) p = { audPort s p with tail := bitAt w 0 } := audPort_modAud_same hp _

@[simp] theorem audPort_sendFrameOut (hp : p < 5) (f : Nat × Nat) : audPort (sendFrameOut s p f) p =
    { frameSent s.tsc f (audPort s p) with tail := bitAt (audWord s p (audPort s p).mask 1 f.2) 0 } := by
  unfold sendFrameOut
  extract_lets m
  rw [audPort_putFrame hp, audPort_modAud_same hp]
  rfl

theorem putFrame_outs (s : State) (p l w : Nat) :
    Output.audio p (frameBits (audCfg s p).format (audPort s p).tail l w) ∈ (putFrame s p l w).outs := List.mem_cons_self

theorem sendFrameOut_outs (hp : p < 5) (f : Nat × Nat) : Output.audio p (frameBits (audCfg s p).format (audPort s p).tail
    (audWord s p (audPort s p).mask 0 f.1) (audWord s p (audPort s p).mask 1 f.2)) ∈ (sendFrameOut s p f).outs := by
  unfold sendFrameOut
  extract_lets m
  have h := putFrame_outs (modAud s p (frameSent s.tsc f)) p (audWord s p m 0 f.1) (audWord s p m 1 f.2)
  rw [audPort_modAud_same hp] at h
  exact h

theorem sampleOut_idle (h : (audPort s p).running = false) : sampleOut s p = s := by simp [sampleOut, h]

theorem sampleOut_stops (hp : p < 5) (hr : (audPort s p).running = true) (hs : (audPort s p).stopIds ≠ []) :
    sampleOut s p = putFrame (stopEdge (maskEdge s p) p) p 0 0 := by
  have he : (!(audPort (maskEdge s p) p).stopIds.isEmpty) = true := by simp [hp, maskTaken, hs]
  simp only [sampleOut, hr, he, Bool.not_true, Bool.false_eq_true, if_false, if_true]

theorem sampleOut_edge (hp : p < 5) (hr : (audPort s p).running = true) (hs : (audPort s p).stopIds = []) : sampleOut s p =
    if (audPort s p).repeats then bump (sendFrameOut (edgeTaken s p) p (audPort s p).last) (audBase p + 0x28)
    else
      match (audPort (audFetch p 64 (edgeTaken s p)) p).fifo with
      | f :: t => audFetch p 64 (sendFrameOut (modAud (audFetch p 64 (edgeTaken s p)) p (fun x => { x with
          fifo := t, underrun := false })) p f)
      | [] =>
        let s4 := modAud (bump (sendFrameOut (audFetch p 64 (edgeTaken s p)) p (audPort s p).last) (audBase p + 0x20)) p
          (fun x => { x with underrun := true, underSince := true })
        if (audPort s p).underrun then s4 else report s4 { source := 0xD0, master := p } := by
  have he : (!(audPort (maskEdge s p) p).stopIds.isEmpty) = false := by simp [hp, maskTaken, hs]
  have hx := audPort_edgeTaken (s := s) hp
  rw [edgeTaken] at hx
  simp only [sampleOut, hr, he, Bool.not_true, Bool.false_eq_true, if_false, edgeTaken]
  rw [hx]
  rfl

theorem Adds.edgeTaken (h : Adds C E b r) (p : Nat) : Adds C E (edgeTaken b p) (Machine.edgeTaken r p) := (h.edge p).aud p _

theorem OnlyAud.edge (h : OnlyAud s b) (p : Nat) : OnlyAud s (maskEdge b p) := h.aud p _

theorem foldl_adds {β : Type} (f : State → β → State) (hf : ∀ s x, Adds [] E s (f s x)) (l : List β) (s : State) :
    Adds [] E s (l.foldl f s) := by
  induction l generalizing s with
  | nil => exact .refl E s
  | cons x t ih => exact (hf s x).trans (ih _)

theorem Adds.stop (h : Adds C E b r) (p : Nat) : Adds C E (modAud b p stopped) (stopEdge r p) := by
  have := (h.aud p stopped).trans (foldl_adds (E := E) (fun s id => complete s id .ok []) (fun s id => complete_adds s id .ok [])
    (Machine.audPort r p).stopIds _)
  rwa [List.append_nil] at this

theorem sampleOut_stops_adds (hp : p < 5) (ha : Adds [] E b r) (hr : (audPort b p).running = true)
    (hs : (audPort b p).stopIds ≠ []) : Adds [] E (putFrame (modAud (maskEdge b p) p stopped) p 0 0) (sampleOut r p) := by
  rw [sampleOut_stops hp (by rw [ha.audPort]; exact hr) (by rw [ha.audPort]; exact hs)]
  exact ((ha.edge p).stop p).put p 0 0

theorem unitTally_aud {k : Nat} (hp : p < 5) (hk : k < 0x100) : unitTally (audBase p + k) = true := by
  have h1 : audBase p + k ≠ offEvtLost := by rw [audBase, offEvtLost]; omega
  have h2 : audBase p + k ≠ offCmdTally := by rw [audBase, offCmdTally]; omega
  have h3 : ¬ (0x40080 ≤ audBase p + k ∧ audBase p + k < 0x42000) := by rw [audBase]; omega
  simp only [unitTally, bne_iff_ne.mpr h1, bne_iff_ne.mpr h2, decide_eq_false h3]
  rfl

theorem audBase_big (p k : Nat) : 256 ≤ audBase p + k := by rw [audBase]; omega

theorem sampleOut_holds_adds (hp : p < 5) (ha : Adds [] E b r) (hr : (audPort b p).running = true)
    (hs : (audPort b p).stopIds = []) (hh : (audPort b p).repeats = true) :
    Adds [audBase p + 0x28] E (sendFrameOut (edgeTaken b p) p (audPort b p).last) (sampleOut r p) := by
  rw [sampleOut_edge hp (by rw [ha.audPort]; exact hr) (by rw [ha.audPort]; exact hs), ha.audPort, if_pos hh]
  exact ((ha.edgeTaken p).send p _).trans (bump_adds _ (unitTally_aud hp (by decide)) (audBase_big p _))

/-- The repeat of the last frame, under way. -/
def underrunning (x : AudPort) : AudPort :=
  { x with
    underrun := true
    underSince := true }

theorem sampleOut_empty_adds (hp : p < 5) (ha : Adds [] E b r) (hr : (audPort b p).running = true)
    (hs : (audPort b p).stopIds = []) (hh : (audPort b p).repeats = false) (hf : (audPort b p).fifo = [])
    (he : (audPort b p).rd = (audPort b p).wr) :
    Adds ((audBase p + 0x20) :: if (audPort b p).underrun then [] else [0xD0]) E
      (modAud (sendFrameOut (edgeTaken b p) p (audPort b p).last) p underrunning) (sampleOut r p) := by
  have hnone : audFetch p 64 (edgeTaken r p) = edgeTaken r p :=
    audFetch_none (by rw [audPort_edgeTaken hp, ha.audPort]; exact he) 64
  have hfifo : (audPort (edgeTaken r p) p).fifo = [] := by rw [audPort_edgeTaken hp, ha.audPort]; exact hf
  rw [sampleOut_edge hp (by rw [ha.audPort]; exact hr) (by rw [ha.audPort]; exact hs), ha.audPort, hh, if_neg Bool.false_ne_true,
    hnone, hfifo]
  have h := ((ha.edgeTaken p).send p (audPort b p).last).trans
    (bump_adds _ (off := audBase p + 0x20) (unitTally_aud hp (by decide)) (audBase_big p _))
  have h' := h.aud p underrunning
  dsimp only
  split
  · exact h'
  · exact h'.trans (report_adds _ { source := 0xD0, master := p } (show 0xD0 < 256 by decide) rfl rfl)

/-- The frame at the head of the FIFO is on its way. -/
def popped (l : List (Nat × Nat)) (x : AudPort) : AudPort :=
  { x with
    fifo := l
    underrun := false }

/-- What a fetch leaves: frames in the port's FIFO, and what the reads note. -/
def fetchedInto (s : State) (p : Nat) (m : Mem) (l : List (Nat × Nat)) (rd taken : Nat) : State :=
  modAud { s with mem := m } p (framesIn l rd taken)

theorem Adds.fetched (h : Adds C E b r) (p : Nat) (m : Mem) (l : List (Nat × Nat)) (rd taken : Nat) :
    Adds C E (fetchedInto b p m l rd taken) (fetchedInto r p m l rd taken) := (h.mem m).aud p _

theorem OnlyAud.fetched (h : OnlyAud s b) (p : Nat) (m : Mem) (l : List (Nat × Nat)) (rd taken : Nat) :
    OnlyAud s (fetchedInto b p m l rd taken) := by
  obtain ⟨m0, a, o, rfl⟩ := h
  exact OnlyAud.aud ⟨m, a, o, rfl⟩ p _

theorem audPort_fetchedInto (hp : p < 5) (m : Mem) (l : List (Nat × Nat)) (rd taken : Nat) :
    audPort (fetchedInto s p m l rd taken) p = framesIn l rd taken (audPort s p) := audPort_modAud_same hp _

theorem sampleOut_sends_adds {f : Nat × Nat} {l : List (Nat × Nat)} (hp : p < 5) (ha : Adds [] E b r)
    (hE : ∀ n, E n → dramNoise n) (hr : (audPort b p).running = true) (hs : (audPort b p).stopIds = [])
    (hh : (audPort b p).repeats = false) (hf : (audPort b p).fifo = f :: l) :
    ∃ m1 l1 rd1 k1 m2 l2 rd2 k2, Adds [] dramNoise
      (fetchedInto (sendFrameOut (modAud (fetchedInto (edgeTaken b p) p m1 l1 rd1 k1) p (popped (l ++ l1))) p f) p m2 l2 rd2 k2)
      (sampleOut r p) := by
  obtain ⟨m1, l1, rd1, k1, h1⟩ := audFetch_adds p 64 (edgeTaken r p)
  have hfetch := (((ha.widen hE).edgeTaken p).fetched p m1 l1 rd1 k1).trans h1
  have hfifo : (audPort (audFetch p 64 (edgeTaken r p)) p).fifo = f :: (l ++ l1) := by
    rw [hfetch.audPort, audPort_fetchedInto hp, framesIn]
    show (audPort (edgeTaken b p) p).fifo ++ l1 = _
    rw [audPort_edgeTaken hp]
    show (audPort b p).fifo ++ l1 = _
    rw [hf]
    rfl
  rw [sampleOut_edge hp (by rw [ha.audPort]; exact hr) (by rw [ha.audPort]; exact hs), ha.audPort, hh, if_neg Bool.false_ne_true, hfifo]
  obtain ⟨m2, l2, rd2, k2, h2⟩ := audFetch_adds p 64 (sendFrameOut (modAud (audFetch p 64 (edgeTaken r p)) p (popped (l ++ l1))) p f)
  refine ⟨m1, l1, rd1, k1, m2, l2, rd2, k2, ?_⟩
  exact ((((hfetch.aud p (popped (l ++ l1))).send p f).fetched p m2 l2 rd2 k2).trans h2 :)

@[simp] theorem maskEdge_mem (s : State) (p : Nat) : (maskEdge s p).mem = s.mem := rfl
@[simp] theorem edgeTaken_mem (s : State) (p : Nat) : (edgeTaken s p).mem = s.mem := rfl
@[simp] theorem putFrame_mem (s : State) (p l w : Nat) : (putFrame s p l w).mem = s.mem := rfl
@[simp] theorem sendFrameOut_mem (s : State) (p : Nat) (f : Nat × Nat) : (sendFrameOut s p f).mem = s.mem := rfl

/-! ### A frame received (R444, R448) -/

/-- The input has received a frame now. -/
def inputTaken (s : State) : State :=
  modAud (maskEdge s 4) 4 (fun x => { x with
    sent := (x.sent + 1) % 2 ^ 64
    edge := s.tsc })

/-- A frame received, as its words go into the ring. -/
def inputFrame (s : State) (l w : Nat) : Nat × Nat := (audWord s 4 (maskAt s 4) 0 l, audWord s 4 (maskAt s 4) 1 w)

/-- Frames have been lost. -/
def losing (n : Nat) (x : AudPort) : AudPort :=
  { x with
    lost := n
    overSince := true }

@[simp] theorem audPort_inputTaken : audPort (inputTaken s) 4 =
    { maskTaken s.tsc (audPort s 4) with
      sent := ((audPort s 4).sent + 1) % 2 ^ 64
      edge := s.tsc } := by
  rw [inputTaken, audPort_modAud_same (by decide), audPort_maskEdge (by decide)]
  rfl

theorem sampleIn_idle {l w : Nat} (h : (audPort s 4).running = false) : sampleIn s l w = s := by simp [sampleIn, h]

theorem sampleIn_stops {l w : Nat} (hr : (audPort s 4).running = true) (hs : (audPort s 4).stopIds ≠ []) :
    sampleIn s l w = stopEdge (maskEdge s 4) 4 := by
  have he : (!(audPort (maskEdge s 4) 4).stopIds.isEmpty) = true := by simp [maskTaken, hs]
  simp only [sampleIn, hr, he, Bool.not_true, Bool.false_eq_true, if_false, if_true]

theorem ringRoom_inputTaken : ringRoom (inputTaken s) 4 = ringRoom s 4 := by
  unfold ringRoom ringFrames
  rw [audPort_inputTaken]
  rfl

theorem sampleIn_takes {l w : Nat} (hr : (audPort s 4).running = true) (hs : (audPort s 4).stopIds = []) : sampleIn s l w =
    if 0 < (audPort s 4).lost ∨ ringRoom s 4 = 0 then
      let n := min tallyMax ((audPort s 4).lost + 1)
      let s2 := bump (modAud (inputTaken s) 4 (losing n)) (audBase 4 + 0x24)
      let s3 := if (audPort s 4).lost = 0 then report s2 { source := 0xD1, master := 4 } else s2
      if n = tallyMax ∧ (audPort s 4).lost ≠ tallyMax then report s3 { source := 0xD3, master := 4 } else s3
    else ringPut (inputTaken s) (inputFrame s l w) := by
  have he : (!(audPort (maskEdge s 4) 4).stopIds.isEmpty) = false := by simp [maskTaken, hs]
  have hx := audPort_inputTaken (s := s)
  have hroom := ringRoom_inputTaken (s := s)
  have hg : ∀ x, (inputTaken s = x) → modAud (maskEdge s 4) 4 (fun y => { y with
    sent := (y.sent + 1) % 2 ^ 64
    edge := (maskEdge s 4).tsc }) = x := fun _ h => h
  simp only [sampleIn, hr, he, Bool.not_true, Bool.false_eq_true, if_false]
  rw [hg _ rfl, hx, hroom]
  rfl

theorem sampleIn_loses {l w : Nat} (hr : (audPort s 4).running = true) (hs : (audPort s 4).stopIds = [])
    (hf : 0 < (audPort s 4).lost ∨ ringRoom s 4 = 0) (hn : (audPort s 4).lost + 1 < tallyMax) :
    Adds ((audBase 4 + 0x24) :: if (audPort s 4).lost = 0 then [0xD1] else []) exactly
      (modAud (inputTaken s) 4 (losing ((audPort s 4).lost + 1))) (sampleIn s l w) := by
  have hm : min tallyMax ((audPort s 4).lost + 1) = (audPort s 4).lost + 1 := by omega
  rw [sampleIn_takes hr hs, if_pos hf]
  dsimp only
  rw [hm, if_neg (show ¬ ((audPort s 4).lost + 1 = tallyMax ∧ _) by omega)]
  have h := bump_adds (E := exactly) (modAud (inputTaken s) 4 (losing ((audPort s 4).lost + 1))) (off := audBase 4 + 0x24)
    (unitTally_aud (by decide) (by decide)) (audBase_big 4 _)
  split
  · exact h.trans (report_adds _ { source := 0xD1, master := 4 } (show 0xD1 < 256 by decide) rfl rfl)
  · exact h

/-! ### The ring (R441, R448) -/

/-- A frame has gone into the ring of `n` bytes. -/
def ringTaken (n : Nat) (f : Nat × Nat) (x : AudPort) : AudPort :=
  { x with
    wr := if n = 0 then x.wr else (x.wr + 8) % n
    taken := (x.taken + 1) % 2 ^ 64
    last := f }

theorem ringBytes_pos (h : 0 < ringRoom s 4) : ringBytes s 4 ≠ 0 := by
  intro h0
  simp [ringRoom, h0] at h

/-- A frame stands in the ring: its bytes, and what its port says. -/
structure RingPut (s t : State) (f : Nat × Nat) (g : AudPort → AudPort) : Prop where
  frame : ∃ dr bw po, t = { modAud s 4 g with
    dram := dr
    badWords := bw
    poisoned := po }
  inside : mapWf dramDefault s.dram = true → ∀ k, k < 8 →
    rd t (ringBase s 4 + (audPort s 4).wr + k) = (leBytes 4 f.1 ++ leBytes 4 f.2).getD k 0
  outside : ∀ x, x < ringBase s 4 + (audPort s 4).wr ∨ ringBase s 4 + (audPort s 4).wr + 8 ≤ x → rd t x = rd s x

theorem ringPut_put (s : State) (f : Nat × Nat) : RingPut s (ringPut s f) f (ringTaken (ringBytes s 4) f) := by
  have hlen : (leBytes 4 f.1 ++ leBytes 4 f.2).length = 8 := by simp [leBytes]
  refine ⟨?_, fun hw k hk => ?_, fun x hx => ?_⟩
  · obtain ⟨dr, bw, po, he⟩ := wrBytes_frame s (ringBase s 4 + (audPort s 4).wr) (leBytes 4 f.1 ++ leBytes 4 f.2)
    refine ⟨dr, bw, po, ?_⟩
    rw [ringPut, he]
    rfl
  · exact rd_wrBytes_inside (s := s) hw _ _ (by rw [hlen]; exact hk)
  · exact rd_wrBytes_outside s _ _ (by rw [hlen]; exact hx)

@[simp] theorem inputTaken_mem (s : State) : (inputTaken s).mem = s.mem := rfl

theorem RingPut.audPort {s t : State} {f : Nat × Nat} {g : AudPort → AudPort} (h : RingPut s t f g) :
    Machine.audPort t 4 = g (Machine.audPort s 4) := by
  obtain ⟨dr, bw, po, rfl⟩ := h.frame
  exact audPort_modAud_same (by decide) g

theorem RingPut.mod {s t : State} {f : Nat × Nat} {g : AudPort → AudPort} (h : RingPut s t f g) (g' : AudPort → AudPort) :
    RingPut s (modAud t 4 g') f (fun x => g' (g x)) := by
  obtain ⟨dr, bw, po, he⟩ := h.frame
  refine ⟨⟨dr, bw, po, ?_⟩, h.inside, h.outside⟩
  rw [he]
  simp only [modAud, vmod_vmod]

/-- A row that puts a frame into the ring changes nothing else. -/
theorem RingPut.exec {i : Instr} {s a t : State} {fr : Nat × Nat} {g : AudPort → AudPort} {f : State → State}
    (hi : exec i s = .next (event s f)) (h : Live s) (hf : f s = t) (hp : RingPut a t fr g) (ha : ∃ au, a = { s with aud := au }) :
    exec i s = .next t ∧ calm t = calm { s with aud := t.aud } := by
  obtain ⟨au, rfl⟩ := ha
  obtain ⟨dr, bw, po, rfl⟩ := hp.frame
  exact ⟨exec_unit_quiet hi h hf h.toSteady.quiet, rfl⟩

theorem fillCopy_fills (hl : 0 < (audPort s 4).lost) (hr : 0 < ringRoom s 4)
    (ht : ∀ e, (audPort s 4).fillAt = some e → e + 32 ≤ s.tsc) :
    fillCopy s = modAud (ringPut s (audPort s 4).last) 4 (fun x => { x with lost := x.lost - 1, fillAt := some s.tsc }) := by
  have hall : (audPort s 4).fillAt.all (fun t => decide (t + 32 ≤ s.tsc)) = true := by
    cases hf : (audPort s 4).fillAt with
    | none => rfl
    | some e => simpa using ht e hf
  rw [fillCopy, if_pos ⟨hl, hr, hall⟩]

theorem fillCopy_none (h : (audPort s 4).lost = 0 ∨ ringRoom s 4 = 0 ∨ (∃ e, (audPort s 4).fillAt = some e ∧ s.tsc < e + 32)) :
    fillCopy s = s := by
  rw [fillCopy, if_neg]
  rintro ⟨hl, hr, ht⟩
  rcases h with h | h | ⟨e, he, hlt⟩
  · omega
  · omega
  · simp [he] at ht
    omega

end
end Sys2Proof.Machine
end


section
/-! Start and stop of the audio ports, and the audio PLL (R439, R443). -/

namespace Sys2Proof.Machine

section
variable {C : List Nat} {E : Nat → Prop} {s b r : State} {p : Nat}

/-- The port runs from this left edge on. -/
def running (t : Nat) (x : AudPort) : AudPort :=
  { x with
    running := true
    start := none
    edge := t
    underrun := false
    holding := false }

theorem audRunning_waits (h : (audPort s p).start = none ∨ ∃ a id, (audPort s p).start = some (a, id) ∧ s.tsc < a) :
    audRunning s p = s := by
  rcases h with h | ⟨a, id, h, ht⟩
  · rw [audRunning, h]
  · rw [audRunning, h]
    exact if_neg (by omega)

/-- The port's state at the left edge from which it runs: an output has filled its FIFO. -/
def portBegun (s : State) (p : Nat) : State := audFetch p (if p = 4 then 0 else 64) (modAud s p (running s.tsc))

theorem audRunning_runs {a id : Nat} (h : (audPort s p).start = some (a, id)) (ht : a ≤ s.tsc) :
    audRunning s p = complete (portBegun s p) id .ok (leBytes 8 s.tsc) := by
  rw [audRunning, h]
  dsimp only
  rw [if_pos ht, portBegun]
  split <;> rfl

/-! ### The audio PLL -/

/-- Every port has entered STOPPED. -/
def silenced (x : AudPort) : AudPort :=
  { x with
    running := false
    start := none
    stopIds := []
    holding := false
    repeats := false
    underrun := false
    tail := false }

/-- A change of each port in turn. -/
def modPorts (s : State) (f : AudPort → AudPort) : State :=
  { s with aud := { s.aud with port := (List.range 5).foldl (fun v p => vmod v p f) s.aud.port } }

theorem foldl_modAud (f : AudPort → AudPort) (l : List Nat) (s : State) : l.foldl (fun s p => modAud s p f) s =
    { s with aud := { s.aud with port := l.foldl (fun v p => vmod v p f) s.aud.port } } := by
  induction l generalizing s with
  | nil => rfl
  | cons p l ih => rw [List.foldl_cons, ih]; rfl

theorem audPort_modPorts (f : AudPort → AudPort) (hp : p < 5) : audPort (modPorts s f) p = f (audPort s p) := by
  have h := vget_foldl_vmod (fun _ => true) (fun _ => f) s.aud.port 5 (Nat.le_refl 5) p {}
  simp only [if_true, and_true, hp] at h
  exact h

/-- Changes made in turn on both sides. -/
theorem Adds.foldl {β : Type} (h : Adds C E b r) (g f : State → β → State)
    (hs : ∀ b r x, Adds C E b r → Adds C E (g b x) (f r x)) (l : List β) : Adds C E (l.foldl g b) (l.foldl f r) := by
  induction l generalizing b r with
  | nil => exact h
  | cons x t ih => exact ih (hs b r x h)

theorem audStopAll_adds (s : State) (st : Status) : Adds [] E (modPorts s silenced) (audStopAll s st) := by
  have h : Adds [] E ((List.range 5).foldl (fun s p => modAud s p silenced) s) (audStopAll s st) := by
    unfold audStopAll forN
    refine (Adds.refl E s).foldl (fun s p => modAud s p silenced) _ (fun b r p h => ?_) (List.range 5)
    have hc := foldl_adds (E := E) (fun s id => complete s id .ok []) (fun s id => complete_adds s id .ok []) (audPort r p).stopIds
      (modAud r p silenced)
    exact ((h.aud p silenced).trans hc).trans (completeOpt_adds _ _ st [])
  rwa [foldl_modAud] at h

/-- The audio PLL has lost its lock. -/
def pllLost (s : State) : State := { s with
  aud := { s.aud with pllLock := false }
  pins := { s.pins with audMclk := false } }

theorem pllUnlock_adds (h : s.aud.pllLock = true) : Adds [0xD2] exactly (modPorts (pllLost s) silenced) (pllUnlock s) := by
  rw [pllUnlock, if_pos h]
  exact (audStopAll_adds (pllLost s) .badState).trans (report_adds _ { source := 0xD2 } (show 0xD2 < 256 by decide) rfl rfl)

end

/-! ### A left edge of an output -/

section
variable {s : State} {p : Fin 4} {er : DramErrs}

theorem aud_of_leaves {C : List Nat} {E : Nat → Prop} {b t : State} (h : Leaves C E s b t) (q : Nat) : audPort t q = audPort b q :=
  (congrArg (fun x : State => audPort x q) h.rest :)

/-- A left edge of an output that runs, whatever errors its reads meet. -/
theorem exec_out {C : List Nat} {b : State} {E : Nat → Prop} (h : Live s) (hr : (audPort s p.val).running = true)
    (hb : OnlyAud s b) (ha : Adds C E b (sampleOut (meetErrors s er 0x0E) p.val)) :
    ∃ t, exec (.sampleFrameOut p er) s = .next t ∧ Leaves C E s b t := by
  have hi : exec (.sampleFrameOut p er) s = .next (event s (fun s =>
    sampleOut (if (audPort s p.val).running then meetErrors s er 0x0E else s) p.val)) := rfl
  have ha' : Adds C E b (sampleOut (if (audPort s p.val).running then meetErrors s er 0x0E else s) p.val) := by
    rw [if_pos hr]
    exact ha
  obtain ⟨t, he, hl, -⟩ := exec_adds hi h ha' hb.begun
  exact ⟨t, he, hl⟩

theorem sendFrameOut_shows {b : State} {q : Nat} (h : OnlyAud s b) (hq : q < 5) (hm : (audPort b q).mask = maskAt s q)
    (ht : (audPort b q).tail = (audPort s q).tail) (f : Nat × Nat) :
    Output.audio q (frameBits (audCfg s q).format (audPort s q).tail (audWord s q (maskAt s q) 0 f.1)
      (audWord s q (maskAt s q) 1 f.2)) ∈ (sendFrameOut b q f).outs := by
  have ho := sendFrameOut_outs (s := b) hq f
  have hw (bit w : Nat) : audWord b q (maskAt s q) bit w = audWord s q (maskAt s q) bit w := by
    rw [audWord, h.audCfg]
    rfl
  rwa [hm, ht, h.audCfg, hw, hw] at ho

theorem exec_out_stops (h : Live s) (hr : (audPort s p.val).running = true) (hs : (audPort s p.val).stopIds ≠ []) :
    ∃ t, exec (.sampleFrameOut p er) s = .next t ∧ (audPort t p.val).running = false ∧ (audPort t p.val).stopIds = [] ∧
      Output.audio p.val (frameBits (audCfg s p.val).format (audPort s p.val).tail 0 0) ∈ t.outs ∧
      (er = {} → calm t = calm { s with aud := t.aud }) := by
  have hp : p.val < 5 := by omega
  obtain ⟨b, E, hm, ha, hE, hclean⟩ := meetErrors_noise s er 0x0E
  have hmid : OnlyAud s (modAud (maskEdge b p) p stopped) := (hm.aud.edge p).aud p stopped
  obtain ⟨t, he, hl⟩ := exec_out (p := p) h hr (hmid.put p 0 0)
    (sampleOut_stops_adds hp ha (by rw [hm.audPort]; exact hr) (by rw [hm.audPort]; exact hs))
  have hport := aud_of_leaves hl p.val
  rw [audPort_putFrame hp, audPort_modAud_same hp] at hport
  refine ⟨t, he, by rw [hport]; rfl, by rw [hport]; rfl, ?_, fun hnil => ?_⟩
  · have ho := hl.outs _ (putFrame_outs _ _ _ _)
    rw [hmid.audCfg, audPort_modAud_same hp, audPort_maskEdge hp, hm.audPort] at ho
    exact ho
  · obtain ⟨rfl, rfl⟩ := hclean hnil
    exact (hmid.put p 0 0).calm (by simp) (hl.calm (by simp))

theorem aud_untold {E : Nat → Prop} (hE : ∀ n, E n → dramNoise n) (q k : Nat) : ¬ E (audBase q + k) := by
  intro hn
  rcases hE _ hn with h | h | h | h <;> simp only [audBase] at h <;> omega

theorem exec_out_holds (h : Live s) (hr : (audPort s p.val).running = true) (hs : (audPort s p.val).stopIds = [])
    (hh : (audPort s p.val).repeats = true) :
    ∃ t, exec (.sampleFrameOut p er) s = .next t ∧ (audPort t p.val).last = (audPort s p.val).last ∧
      (audPort t p.val).fifo = (audPort s p.val).fifo ∧ (audPort t p.val).rd = (audPort s p.val).rd ∧
      tally t (audBase p.val + 0x28) = min (tally s (audBase p.val + 0x28) + 1) tallyMax ∧
      (er = {} → calm t = calm { s with aud := t.aud }) := by
  have hp : p.val < 5 := by omega
  obtain ⟨b, E, hm, ha, hE, hclean⟩ := meetErrors_noise s er 0x0E
  have hb : OnlyAud s (sendFrameOut (edgeTaken b p) p (audPort b p.val).last) := ((hm.aud.edge p).aud p _).send p _
  obtain ⟨t, he, hl⟩ := exec_out (p := p) h hr hb (sampleOut_holds_adds hp ha (by rw [hm.audPort]; exact hr)
    (by rw [hm.audPort]; exact hs) (by rw [hm.audPort]; exact hh))
  have hport := aud_of_leaves hl p.val
  rw [audPort_sendFrameOut hp, audPort_edgeTaken hp, hm.audPort] at hport
  refine ⟨t, he, by rw [hport]; rfl, by rw [hport]; rfl, by rw [hport]; rfl, ?_, fun hnil => ?_⟩
  · have ht := hl.tallies (audBase p.val + 0x28) (audBase_big _ _) (unitTally_aud hp (by decide)) (aud_untold hE _ _)
    rwa [List.count_singleton_self] at ht
  · obtain ⟨rfl, rfl⟩ := hclean hnil
    refine hb.calm (by simp) (hl.calm (fun n hn hlt => ?_))
    have := audBase_big p.val 0x28
    rw [List.mem_singleton.mp hn] at hlt
    omega

theorem exec_out_sends {f : Nat × Nat} {l : List (Nat × Nat)} (h : Live s) (hr : (audPort s p.val).running = true)
    (hs : (audPort s p.val).stopIds = []) (hh : (audPort s p.val).repeats = false) (hf : (audPort s p.val).fifo = f :: l) :
    ∃ t, exec (.sampleFrameOut p er) s = .next t ∧ (audPort t p.val).last = f ∧
      (audPort t p.val).sent = ((audPort s p.val).sent + 1) % 2 ^ 64 ∧ (audPort t p.val).edge = s.tsc ∧
      (audPort t p.val).underrun = false ∧
      Output.audio p.val (frameBits (audCfg s p.val).format (audPort s p.val).tail
        (audWord s p.val (maskAt s p.val) 0 f.1) (audWord s p.val (maskAt s p.val) 1 f.2)) ∈ t.outs ∧
      (∀ a, a < reservedBase s → rd t a = rd s a) ∧ PinsDown s t := by
  have hp : p.val < 5 := by omega
  obtain ⟨b, E, hm, ha, hE, -⟩ := meetErrors_noise s er 0x0E
  obtain ⟨m1, l1, rd1, k1, m2, l2, rd2, k2, hsent⟩ := sampleOut_sends_adds (f := f) (l := l) hp ha hE (by rw [hm.audPort]; exact hr)
    (by rw [hm.audPort]; exact hs) (by rw [hm.audPort]; exact hh) (by rw [hm.audPort]; exact hf)
  have hmid : OnlyAud s (modAud (fetchedInto (edgeTaken b p) p m1 l1 rd1 k1) p (popped (l ++ l1))) :=
    (((hm.aud.edge p).aud p _).fetched p m1 l1 rd1 k1).aud p _
  have hx : audPort (modAud (fetchedInto (edgeTaken b p) p m1 l1 rd1 k1) p (popped (l ++ l1))) p = popped (l ++ l1)
      (framesIn l1 rd1 k1 { maskTaken s.tsc (audPort s p) with holding := (audPort s p).repeats }) := by
    rw [audPort_modAud_same hp, audPort_fetchedInto hp, audPort_edgeTaken hp, hm.audPort, hm.tsc]
  have htsc : (modAud (fetchedInto (edgeTaken b p) p m1 l1 rd1 k1) p (popped (l ++ l1))).tsc = s.tsc := by
    obtain ⟨m', a', o', he'⟩ := hmid
    rw [he']
  generalize modAud (fetchedInto (edgeTaken b p) p m1 l1 rd1 k1) p (popped (l ++ l1)) = mid at hsent hmid hx htsc
  have hb := (hmid.send p f).fetched p m2 l2 rd2 k2
  obtain ⟨t, he, hl⟩ := exec_out (p := p) h hr hb hsent
  have hport := aud_of_leaves hl p.val
  rw [audPort_fetchedInto hp, audPort_sendFrameOut hp, hx, htsc] at hport
  refine ⟨t, he, by rw [hport]; rfl, by rw [hport]; rfl, by rw [hport]; rfl, by rw [hport]; rfl, hl.outs _ ?_, hl.memory, hb.pins hl.pins⟩
  exact sendFrameOut_shows hmid hp (by rw [hx]; rfl) (by rw [hx]; rfl) f

theorem exec_out_empty (h : Live s) (hr : (audPort s p.val).running = true) (hs : (audPort s p.val).stopIds = [])
    (hh : (audPort s p.val).repeats = false) (hf : (audPort s p.val).fifo = [])
    (he : (audPort s p.val).rd = (audPort s p.val).wr) :
    ∃ t, exec (.sampleFrameOut p er) s = .next t ∧ (audPort t p.val).last = (audPort s p.val).last ∧
      (audPort t p.val).sent = ((audPort s p.val).sent + 1) % 2 ^ 64 ∧ (audPort t p.val).underrun = true ∧
      Output.audio p.val (frameBits (audCfg s p.val).format (audPort s p.val).tail
        (audWord s p.val (maskAt s p.val) 0 (audPort s p.val).last.1)
        (audWord s p.val (maskAt s p.val) 1 (audPort s p.val).last.2)) ∈ t.outs ∧
      tally t (audBase p.val + 0x20) = min (tally s (audBase p.val + 0x20) + 1) tallyMax ∧
      ((audPort s p.val).underrun = false → counted s t 0xD0) ∧ PinsDown s t := by
  have hp : p.val < 5 := by omega
  obtain ⟨b, E, hm, ha, hE, -⟩ := meetErrors_noise s er 0x0E
  have hmid : OnlyAud s (edgeTaken b p) := (hm.aud.edge p).aud p _
  have hb := (hmid.send p (audPort b p.val).last).aud p underrunning
  obtain ⟨t, hx, hl⟩ := exec_out (p := p) h hr hb (sampleOut_empty_adds hp ha (by rw [hm.audPort]; exact hr)
    (by rw [hm.audPort]; exact hs) (by rw [hm.audPort]; exact hh) (by rw [hm.audPort]; exact hf) (by rw [hm.audPort]; exact he))
  have hport := aud_of_leaves hl p.val
  rw [audPort_modAud_same hp, audPort_sendFrameOut hp, audPort_edgeTaken hp, hm.audPort] at hport
  rw [hm.audPort] at hl hb
  have hbig := audBase_big p.val 0x20
  have hedge := audPort_edgeTaken (s := b) hp
  rw [hm.audPort, hm.tsc] at hedge
  refine ⟨t, hx, by rw [hport]; rfl, by rw [hport]; rfl, by rw [hport]; rfl, hl.outs _ ?_, ?_, fun hu => ?_, hb.pins hl.pins⟩
  · exact sendFrameOut_shows hmid hp (by rw [hedge]; rfl) (by rw [hedge]; rfl) _
  · have ht := hl.tallies (audBase p.val + 0x20) hbig (unitTally_aud hp (by decide)) (aud_untold hE _ _)
    rw [ht, List.count_cons_self, List.count_eq_zero_of_not_mem]
    split
    · exact List.not_mem_nil
    · rw [List.mem_singleton]
      omega
  · refine hl.counted 0xD0 (by decide) (by decide) (fun hn => by rcases hE _ hn with h | h | h | h <;> simp at h) ?_
    rw [hu, List.count_cons_of_ne (by omega)]
    rfl

/-! ### The input, start and the PLL -/

theorem exec_begun {p : Fin 5} {a id : Nat} (h : Live s) (hs : (audPort s p.val).start = some (a, id)) (ht : a ≤ s.tsc) :
    ∃ t, exec (.audioPortRunning p) s = .next t ∧ (audPort t p.val).running = true ∧ (audPort t p.val).start = none ∧
      (audPort t p.val).edge = s.tsc ∧ (∀ f, s.hmi.inFlight = [f] → f.id = id → t.hmi.inFlight = []) ∧
      (∀ q, q < 5 → q ≠ p.val → audPort t q = audPort s q) ∧ PinsDown s t := by
  obtain ⟨m, l, rd, taken, hf⟩ := audFetch_adds p.val (if p.val = 4 then 0 else 64) (modAud s p (running s.tsc))
  have hb : OnlyAud s (fetchedInto (modAud s p (running s.tsc)) p m l rd taken) := ((OnlyMem.refl s).aud.aud p _).fetched p m l rd taken
  have hrun := audRunning_runs hs ht
  obtain ⟨t, he, hl, hends⟩ := exec_adds (i := .audioPortRunning p) rfl h (hrun ▸ hf.trans (complete_adds _ id .ok _)) hb.begun
  have hport := aud_of_leaves hl p.val
  rw [audPort_fetchedInto p.isLt, audPort_modAud_same p.isLt] at hport
  refine ⟨t, he, by rw [hport]; rfl, by rw [hport]; rfl, by rw [hport]; rfl, hends.completes hrun hf hb.begun, fun q _ hq => ?_, hb.pins hl.pins⟩
  rw [aud_of_leaves hl q]
  exact (audPort_modAud_ne hq _).trans (audPort_modAud_ne hq _)

theorem exec_unlocks (h : Live s) (hl : s.aud.pllLock = true) :
    ∃ t, exec .audioPllUnlock s = .next t ∧ t.aud.pllLock = false ∧ t.pins.audMclk = false ∧
      (∀ p, p < 5 → (audPort t p).running = false ∧ (audPort t p).start = none ∧ (audPort t p).stopIds = []) ∧
      counted s t 0xD2 ∧ calm t = calm { s with aud := t.aud, pins := { s.pins with audMclk := false } } := by
  obtain ⟨t, he, hlv, -⟩ := exec_adds (i := .audioPllUnlock) rfl h (pllUnlock_adds hl) {}
  have hq := hlv.calm (by simpa using show (sourceCfg s 0xD2).2.1 = 0 from rfl)
  have haud := (calm_eq (·.aud) hq :)
  refine ⟨t, he, by rw [haud]; rfl, by rw [(calm_eq (·.pins) hq :)]; rfl, fun p hp => ?_,
    hlv.counted 0xD2 (by decide) (by decide) not_false rfl, by rw [haud, hq]; rfl⟩
  rw [aud_of_leaves hlv p, audPort_modPorts _ hp]
  exact ⟨rfl, rfl, rfl⟩

theorem exec_in_stops {l r : BitVec 32} (h : Live s) (hr : (audPort s 4).running = true) (hs : (audPort s 4).stopIds ≠ []) :
    ∃ t, exec (.sampleFrameIn l r) s = .next t ∧ (audPort t 4).running = false ∧ (audPort t 4).stopIds = [] ∧
      (audPort t 4).wr = (audPort s 4).wr ∧ calm t = calm { s with aud := t.aud } := by
  have hb : OnlyAud s (modAud (maskEdge s 4) 4 stopped) := ((OnlyMem.refl s).aud.edge 4).aud 4 stopped
  have ha : Adds [] exactly (modAud (maskEdge s 4) 4 stopped) (sampleIn s l.toNat r.toNat) := by
    rw [sampleIn_stops hr hs]
    exact (Adds.refl exactly (maskEdge s 4)).stop 4
  obtain ⟨t, he, hl, -⟩ := exec_adds (i := .sampleFrameIn l r) rfl h ha hb.begun
  have hport := aud_of_leaves hl 4
  rw [audPort_modAud_same (by decide), audPort_maskEdge (by decide)] at hport
  exact ⟨t, he, by rw [hport]; rfl, by rw [hport]; rfl, by rw [hport]; rfl, hb.calm (by simp) (hl.calm (by simp))⟩

theorem exec_in_loses {l r : BitVec 32} (h : Live s) (hr : (audPort s 4).running = true) (hs : (audPort s 4).stopIds = [])
    (hf : 0 < (audPort s 4).lost ∨ ringRoom s 4 = 0) (hn : (audPort s 4).lost + 1 < tallyMax) :
    ∃ t, exec (.sampleFrameIn l r) s = .next t ∧ (audPort t 4).lost = (audPort s 4).lost + 1 ∧
      (audPort t 4).wr = (audPort s 4).wr ∧ tally t (audBase 4 + 0x24) = min (tally s (audBase 4 + 0x24) + 1) tallyMax ∧
      ((audPort s 4).lost = 0 → counted s t 0xD1) ∧ PinsDown s t ∧ (∀ x, x < reservedBase s → rd t x = rd s x) ∧
      ((audPort s 4).lost ≠ 0 → calm t = calm { s with aud := t.aud }) := by
  have hb : OnlyAud s (modAud (inputTaken s) 4 (losing ((audPort s 4).lost + 1))) :=
    (((OnlyMem.refl s).aud.edge 4).aud 4 _).aud 4 _
  obtain ⟨t, he, hl, -⟩ := exec_adds (i := .sampleFrameIn l r) rfl h (sampleIn_loses hr hs hf hn) hb.begun
  have hport := aud_of_leaves hl 4
  rw [audPort_modAud_same (by decide), audPort_inputTaken] at hport
  refine ⟨t, he, by rw [hport]; rfl, by rw [hport]; rfl, ?_, fun h0 => ?_, hb.pins hl.pins, hl.memory, fun hne => ?_⟩
  · have ht := hl.tallies (audBase 4 + 0x24) (audBase_big _ _) (unitTally_aud (by decide) (by decide)) not_false
    rw [ht, List.count_cons_self, List.count_eq_zero_of_not_mem]
    split
    · decide
    · exact List.not_mem_nil
  · refine hl.counted 0xD1 (by decide) (by decide) not_false ?_
    rw [if_pos h0]
    rfl
  · refine hb.calm (by simp) (hl.calm (fun n hm hlt => ?_))
    rw [if_neg hne, List.mem_singleton] at hm
    have := audBase_big 4 0x24
    omega

end

section
variable {s : State} {p id : Nat} {pl : List Byte}

/-- The port may start (R443, R450). -/
structure MayStart (s : State) (p : Nat) : Prop where
  stopped : (audPort s p).running = false
  idle : (audPort s p).start = none
  enabled : audEnabled s p = true
  locked : s.aud.pllLock = true
  image : s.img.cfg.isSome = true
  settled : inSwitch s = false

theorem runAudStart_placed (h : MayStart s p) : runAudStart s p id pl =
    if ringBase s p % 64 ≠ 0 ∨ inHostArea s (ringBase s p) (ringBase s p + ringBytes s p) = false then (s, .now .outOfRange [])
    else (modAud s p (fun x => { x with start := some (leAt pl 0 8, id) }), .later) := by
  obtain ⟨hr, hs, hen, hl, hcfg, hsw⟩ := h
  have hcfg' : s.img.cfg.isNone = false := by simpa using hcfg
  simp [runAudStart, hr, hs, hen, hl, hcfg', hsw]

theorem runAudStart_refused (h : (audPort s p).running = true ∨ s.aud.pllLock = false) :
    runAudStart s p id pl = (s, .now .badState []) := by
  rw [runAudStart, if_pos]
  rcases h with h | h
  · simp [h]
  · simp [h]

theorem exec_in_stores {l r : BitVec 32} {f : Nat × Nat} {a : Nat} (h : Live s) (hr : (audPort s 4).running = true)
    (hs : (audPort s 4).stopIds = []) (hl : (audPort s 4).lost = 0) (hroom : 0 < ringRoom s 4)
    (ha : a = ringBase s 4 + (audPort s 4).wr) (hw : mapWf dramDefault s.dram = true)
    (hf : f = (audWord s 4 (maskAt s 4) 0 l.toNat, audWord s 4 (maskAt s 4) 1 r.toNat)) :
    ∃ t, exec (.sampleFrameIn l r) s = .next t ∧ (audPort t 4).last = f ∧
      (audPort t 4).wr = ((audPort s 4).wr + 8) % ringBytes s 4 ∧ (audPort t 4).edge = s.tsc ∧ (audPort t 4).lost = 0 ∧
      (∀ k, k < 8 → rd t (a + k) = (leBytes 4 f.1 ++ leBytes 4 f.2).getD k 0) ∧
      (∀ x, x < reservedBase s → x < a ∨ a + 8 ≤ x → rd t x = rd s x) ∧ calm t = calm { s with aud := t.aud } := by
  subst ha hf
  have hput := ringPut_put (inputTaken s) (inputFrame s l.toNat r.toNat)
  have hport := hput.audPort
  rw [audPort_inputTaken] at hport
  have hbytes : ringBytes (inputTaken s) 4 = ringBytes s 4 := rfl
  have hpos := ringBytes_pos hroom
  have hrun : sampleIn s l.toNat r.toNat = ringPut (inputTaken s) (inputFrame s l.toNat r.toNat) := by
    rw [sampleIn_takes hr hs, if_neg (by omega)]
  obtain ⟨he, hc⟩ := hput.exec (i := .sampleFrameIn l r) rfl h hrun ⟨_, rfl⟩
  have hin := hput.inside
  have hout := hput.outside
  rw [audPort_inputTaken] at hin hout
  refine ⟨_, he, by rw [hport]; rfl, ?_, by rw [hport]; rfl, by rw [hport]; exact hl, fun k hk => hin hw k hk,
    fun x _ hx => hout x hx, hc⟩
  rw [hport]
  show (if ringBytes s 4 = 0 then _ else _) = _
  rw [if_neg hpos]
  rfl

theorem exec_fills {a : Nat} (h : Live s) (hl : 0 < (audPort s 4).lost) (hroom : 0 < ringRoom s 4)
    (ht : ∀ e, (audPort s 4).fillAt = some e → e + 32 ≤ s.tsc) (ha : a = ringBase s 4 + (audPort s 4).wr)
    (hw : mapWf dramDefault s.dram = true) :
    ∃ t, exec .audioFillCopy s = .next t ∧ (audPort t 4).lost = (audPort s 4).lost - 1 ∧
      (audPort t 4).wr = ((audPort s 4).wr + 8) % ringBytes s 4 ∧ (audPort t 4).last = (audPort s 4).last ∧
      (audPort t 4).fillAt = some s.tsc ∧
      (∀ k, k < 8 → rd t (a + k) = (leBytes 4 (audPort s 4).last.1 ++ leBytes 4 (audPort s 4).last.2).getD k 0) ∧
      calm t = calm { s with aud := t.aud } := by
  subst ha
  have hput := (ringPut_put s (audPort s 4).last).mod (fun x => { x with lost := x.lost - 1, fillAt := some s.tsc })
  have hport := hput.audPort
  obtain ⟨he, hc⟩ := hput.exec (i := .audioFillCopy) rfl h (fillCopy_fills hl hroom ht) ⟨s.aud, rfl⟩
  refine ⟨_, he, by rw [hport]; rfl, ?_, by rw [hport]; rfl, by rw [hport], fun k hk => hput.inside hw k hk, hc⟩
  rw [hport]
  show (if ringBytes s 4 = 0 then _ else _) = _
  rw [if_neg (ringBytes_pos hroom)]

/-! ### The commands -/

theorem Serving.high {op : Nat} {c : Cmd} (h : Serving s op c) (sh : List (Nat × Nat)) (ho : 0x0A00 ≤ op) :
    runOp (enterFlight s (arriving s op c sh)) (arriving s op c sh) =
      runHigh (enterFlight s (arriving s op c sh)) (arriving s op c sh) (bodyOf c) := by
  rw [h.on, if_neg (by omega), if_neg (by omega)]

theorem runHigh_audStart {f : InFlight} (h : f.opcode = 0x0E01) (pl : List Byte) :
    runHigh s f pl = runAudStart s f.cmd.unit.toNat f.id pl := by simp [runHigh, h]

theorem runHigh_audStop {f : InFlight} (h : f.opcode = 0x0E02) (pl : List Byte) :
    runHigh s f pl = runAudStop s f.cmd.unit.toNat f.id := by simp [runHigh, h]

end

/-- Settles O50: what each row does to its port; what DRAM reads add is kept apart from it. -/
theorem audioPortsRun : Obligations.AudioPortsRun := by
  unfold Obligations.AudioPortsRun
  refine ⟨fun s c p h hp hr hs hen hl hcfg hsw hb hin => ?starts, fun s c h hno => ?refused,
    fun s c p h hp hr hs hen hl hcfg hsw hb => ?range, fun s p h hs => ?notWaiting, fun s p a id h hs ht => exec_begun h hs ht,
    fun s p a id h hs ht => ?early, fun s c h hr => ?stop, fun s c h hr => ?notRunning, fun s p er h hr hs => exec_out_stops h hr hs,
    fun s l r h hr hs => exec_in_stops h hr hs, fun s h hl => exec_unlocks h hl, fun s h hl => ?unlocked, fun s h hen => ?locks,
    fun s h hen => ?noPort, fun s p er f l h hr hs hh hf => exec_out_sends h hr hs hh hf,
    fun s p er h hr hs hh hf he => exec_out_empty h hr hs hh hf he, fun s p er h hr hs hh => exec_out_holds h hr hs hh,
    fun s p er h hr => ?silent, fun s l r f a h hr hs hl hroom ha hle hw hf => exec_in_stores h hr hs hl hroom ha hw hf,
    fun s l r h hr hs hl hroom => ?full, fun s l r h hr hs hl hn => ?losing, fun s l r h hr => ?deaf,
    fun s a h hl hroom ht ha hle hw => exec_fills h hl hroom ht ha hw, fun s h hno => ?noFill⟩
  case starts =>
    subst hp
    have hmay : MayStart (enterFlight s (arriving s 0x0E01 c [])) c.unit.toNat := ⟨hr, hs, hen, hl, hcfg, hsw⟩
    refine exec_begins (i := .audStart c) rfl h
      ((h.high [] (by decide)).trans ((runHigh_audStart rfl _).trans ((runAudStart_placed hmay).trans (if_neg ?_)))) (.refl _)
    have hin' : inHostArea (enterFlight s (arriving s 0x0E01 c [])) (ringBase (enterFlight s (arriving s 0x0E01 c [])) c.unit.toNat)
      (ringBase (enterFlight s (arriving s 0x0E01 c [])) c.unit.toNat +
        ringBytes (enterFlight s (arriving s 0x0E01 c [])) c.unit.toNat) = true := hin
    rw [hin']
    exact fun hn => hn.elim (fun hn => hn hb) (fun hn => by cases hn)
  case refused =>
    have hrun := runAudStart_refused (s := enterFlight s (arriving s 0x0E01 c [])) (id := s.hmi.nextId) (pl := bodyOf c) hno
    exact exec_replies (i := .audStart c) rfl h ((h.high [] (by decide)).trans ((runHigh_audStart rfl _).trans hrun))
  case range =>
    subst hp
    have hmay : MayStart (enterFlight s (arriving s 0x0E01 c [])) c.unit.toNat := ⟨hr, hs, hen, hl, hcfg, hsw⟩
    exact exec_replies (i := .audStart c) rfl h
      ((h.high [] (by decide)).trans ((runHigh_audStart rfl _).trans ((runAudStart_placed hmay).trans (if_pos hb))))
  case notWaiting => exact exec_unit_same (i := .audioPortRunning p) rfl h (audRunning_waits (.inl hs))
  case early => exact exec_unit_same (i := .audioPortRunning p) rfl h (audRunning_waits (.inr ⟨a, id, hs, ht⟩))
  case stop =>
    refine exec_begins (i := .audStop c) rfl h
      ((h.high [] (by decide)).trans ((runHigh_audStop rfl _).trans ?_)) (.refl _)
    exact if_pos hr
  case notRunning =>
    refine exec_replies (i := .audStop c) rfl h
      ((h.high [] (by decide)).trans ((runHigh_audStop rfl _).trans ?_))
    refine if_neg (fun hn => ?_)
    exact absurd (hr.symm.trans hn) (by decide)
  case unlocked => exact exec_unit_same (i := .audioPllUnlock) rfl h (by rw [pllUnlock, if_neg (by rw [hl]; decide)])
  case locks => exact exec_unit_quiet (i := .audioPllLock) rfl h (by rw [pllLock, if_pos hen]) h.toSteady.quiet
  case noPort => exact exec_unit_same (i := .audioPllLock) rfl h (by rw [pllLock, if_neg (by rw [hen]; decide)])
  case silent =>
    refine exec_unit_same (i := .sampleFrameOut p er) rfl h ?_
    rw [if_neg (by rw [hr]; decide)]
    exact sampleOut_idle hr
  case full =>
    obtain ⟨t, he, h1, h2, h3, h4, h5, h6, -⟩ := exec_in_loses (l := l) (r := r) h hr hs (.inr hroom) (by rw [hl, tallyMax]; omega)
    exact ⟨t, he, by rw [h1, hl], h2, h3, h4 hl, h5, h6⟩
  case losing =>
    obtain ⟨t, he, h1, h2, h3, -, -, -, h7⟩ := exec_in_loses (l := l) (r := r) h hr hs (.inl hl) hn
    exact ⟨t, he, h1, h2, h3, h7 (by omega)⟩
  case deaf => exact exec_unit_same (i := .sampleFrameIn l r) rfl h (sampleIn_idle hr)
  case noFill => exact exec_unit_same (i := .audioFillCopy) rfl h (fillCopy_none hno)

end Sys2Proof.Machine
end


section
/-! PWR_SET after a thermal trip (R480, R484). -/

namespace Sys2Proof.Machine

theorem message_now {s r : State} {op : Nat} {c : Cmd} {sh : List (Nat × Nat)} {st : Status} {res : List Byte} (h : Serving s op c)
    (hr : runOp (enterFlight s (arriving s op c sh)) (arriving s op c sh) = (r, .now st res)) :
    message s op c sh = complete r (arriving s op c sh).id st res := by
  rw [message_runs h, startCmd_alone h.alone rfl, hr]

theorem Serving.awake {s : State} {op : Nat} {c : Cmd} (h : Serving s op c) : Awake s :=
  ⟨⟨h.reports, h.act, noWait_nil h.alone⟩, canFetch_host h.fetch⟩

theorem runHigh_pwrSet_tripped {s : State} {f : InFlight} (h : f.opcode = 0x1001) (hp : s.boot.power = .tripped) (pl : List Byte) :
    runHigh s f pl = (s, .now .badState []) := by simp [runHigh, h, hp]

/-- A module tripped by heat, its domain 34 OFF, whose host still runs the rings. -/
def trippedServing : State :=
  { boot := { stage := 9, power := .tripped }
    hmi := { enabled := true, version := some ⟨2, 3⟩, linkUp := true }
    img := {}
    pwr := { dom := vset (Vector.replicate 36 .on) 34 .off } }

/-- PWR_SET of domain 34 to OFF. -/
def turnOff34 : Cmd := { unit := 0, length := 16, payload := [0, 0, 0, 0, 4, 0, 0, 0, 0, 0, 0, 0, 0, 0, 0, 0] }

theorem serving_tripped : Serving trippedServing 0x1001 turnOff34 := ⟨rfl, rfl, by decide, rfl, by decide, by decide⟩

/-- A PWR_SET that the trip refuses counts no transition. -/
theorem exec_pwrSet_tripped : ∃ t, exec (.pwrSet turnOff34) trippedServing = .next t ∧ tally t 0x5001C = 0 := by
  have hrun := (serving_tripped.high [] (by decide)).trans
    (runHigh_pwrSet_tripped (s := enterFlight trippedServing (arriving trippedServing 0x1001 turnOff34 [])) rfl rfl _)
  have hc := complete_adds (E := exactly) (enterFlight trippedServing (arriving trippedServing 0x1001 turnOff34 []))
    (arriving trippedServing 0x1001 turnOff34 []).id .badState []
  obtain ⟨t, ht, hends⟩ := exec_host_ends (i := .pwrSet turnOff34) rfl serving_tripped.awake (message_now serving_tripped hrun)
    (noWait_nil (complete_last rfl _ _)) (calm_eq (·.img.act) hc.calm :) (calm_eq (·.pending) hc.calm :)
  refine ⟨t, ht, ?_⟩
  rw [hends.reacts.keeps.tallies _ rfl, hc.tallies 0x5001C (by decide) rfl not_false]
  decide

/-- The parents of domains stand ON in it, whatever becomes of domain 34. -/
theorem parent_on {d q : Nat} (h : domainParent d = some q) :
    (if bitAt (2 ^ 34) q then domOf 0 else vget trippedServing.pwr.dom q .off) = .on := by
  unfold domainParent at h
  split at h
  · obtain rfl := Option.some.inj h
    decide
  · split at h
    · obtain rfl := Option.some.inj h
      decide
    · cases h

/-- Refutes O54: the clause of the accepted request has no premise that the module has not tripped. In `trippedServing` the domain
named stands OFF already, no rule of R483 refuses the request, and it ends with BAD_STATE: its tally does not move. -/
theorem not_powerDomainsMove : ¬ Obligations.PowerDomainsMove := by
  unfold Obligations.PowerDomainsMove
  rintro ⟨hset, -⟩
  obtain ⟨t, ht, -, hdone⟩ := hset trippedServing turnOff34 (2 ^ 34) 0
    (fun d => if bitAt (2 ^ 34) d then .off else vget trippedServing.pwr.dom d .off) [] serving_tripped
    (by decide) (by decide) (by decide) (by decide) (by decide) (by decide) (by decide) (fun _ => rfl) (by decide)
    (fun d q _ _ hp => parent_on hp) (by decide) (by decide) (by decide)
  obtain ⟨-, -, htally⟩ := hdone rfl
  obtain ⟨t', ht', hzero⟩ := exec_pwrSet_tripped
  obtain rfl := Host.Outcome.next.inj (ht.symm.trans ht')
  rw [hzero] at htally
  exact absurd htally (by decide)

end Sys2Proof.Machine
end


section
/-! Injections and the log (R510–R513). -/

namespace Sys2Proof.Machine

section
variable {s r : State} {q : Report} {id : Nat} {p : List Byte}

/-! ### One injection, recorded at once -/

theorem orderReports_one (s : State) (hi : q.injected = true) : orderReports s [q] = [q] := by
  simp [orderReports, hi, insertReport]

/-- The collector, where an injection alone is reported. -/
theorem collect_one (hs : s.reports = []) (hi : q.injected = true) :
    collect (report s q) = collectN 3 (applyReactions (recordReport false s q) [q]) := by
  have hrep : (report s q).reports = [q] := by simp [hs]
  have hback : ({ report s q with reports := [] } : State) = s := by
    rw [← hs]
    rfl
  have hc : collect (report s q) = collectN 3 (collectOnce (report s q)) := by simp [collect, collectN]
  rw [hc, collectOnce, hrep, orderReports_one _ hi, hback]
  rfl

/-- The record of an injection without REACT: its source notes it, and stays in its state. -/
theorem recordSilent_src (hl : q.source < 256) (h12 : q.source ≠ 0x12) (hi : q.injected = true) (hr : q.react = false) :
    (srcAt (recordReport false s q) q.source).mode = (srcAt s q.source).mode := by
  have h1 := ((captureFirst_spares s (recordOf false s q)).trans (countReport_spares _ q)).srcs _ h12
  have hnote (x : State) (c : Bool) : (srcAt (noteSource x q (recordOf false s q) c) q.source).mode = (srcAt x q.source).mode := by
    simp only [noteSource, hi, hr, Bool.not_false, Bool.and_self, if_true, srcAt_modSrc, hl, and_self]
  have h3 := (publish_spares (noteSource (countReport (captureFirst s (recordOf false s q)) q) q (recordOf false s q)
    (coalesces s q.source)) (recordOf false s q) (coalesces s q.source)).srcs _ h12
  calc (srcAt (recordReport false s q) q.source).mode = _ := congrArg Src.mode h3
    _ = _ := hnote _ _
    _ = _ := congrArg Src.mode h1

/-- The record of an injection with REACT leaves its source pending. -/
theorem recordInjected_pending (hl : q.source < 256) (hr : q.react = true) (hc : (sourceCfg s q.source).1 ≠ 0) :
    (srcAt (recordReport false s q) q.source).pending = true := by
  have hnote (x : State) (c : Bool) : (srcAt (noteSource x q (recordOf false s q) c) q.source).pending = true := by
    have hcls : (recordOf false s q).cls ≠ 0 := hc
    simp [noteSource, hr, enterFault, srcAt_modSrc, hl, hcls]
  exact (publish_records (noteSource (countReport (captureFirst s (recordOf false s q)) q) q (recordOf false s q)
    (coalesces s q.source)) (recordOf false s q) (coalesces s q.source)).keeps.pending _ (hnote _ _)

/-- What the record of an injection without REACT, and of the lost events it may bring, leaves. -/
structure Silently (s t : State) (src : Nat) : Prop where
  records : Records s t
  mode : src ≠ 0x12 → (srcAt t src).mode = (srcAt s src).mode
  counts : src ≠ 0x12 → sourceTally t src = min (sourceTally s src + 1) tallyMax
  lost : onlyLost t

theorem collect_silent (hs : s.reports = []) (hl : q.source < 256) (hi : q.injected = true) (hr : q.react = false)
    (hn : q.reactionAs = none) : Silently s (collect (report s q)) q.source := by
  have hzero (x : State) : reactionOf x q = 0 := by simp [reactionOf, hn, hi, hr]
  have hc := collect_one hs hi
  rw [applyReactions_none (fun x hx _ => by rw [List.mem_singleton.mp hx]; exact hzero _)] at hc
  have hrec := recordReport_records false s q
  have hlost : onlyLost (recordReport false s q) := fun x hx => by
    rcases hrec.keeps.reports x hx with hx | rfl
    · rw [hs] at hx; cases hx
    · exact ⟨rfl, rfl⟩
  have hsp := collectN_spares 3 hlost
  have hrest : Records (recordReport false s q) (collectN 3 (recordReport false s q)) := collectN_records 3 (onlyLost_harmless hlost)
  rw [hc]
  refine ⟨hrec.trans hrest, fun h12 => ?_, fun h12 => ?_, hsp.onlyLost hlost⟩
  · rw [hsp.srcs _ h12]
    exact recordSilent_src hl h12 hi hr
  · have hz : reportsOf (recordReport false s q).reports q.source = 0 := by
      rw [reportsOf_recordReport false s q (by omega), hs]
      rfl
    rw [collectN_counts 3 (by omega) hz, sourceTally_recordReport]
    simp [reportsOf]

/-- With REACT its source is left pending, and no light output has risen. -/
theorem collect_injected (hs : s.reports = []) (hl : q.source < 256) (hi : q.injected = true) (hr : q.react = true)
    (hc : (sourceCfg s q.source).1 ≠ 0) :
    Reacts s (collect (report s q)) ∧ (srcAt (collect (report s q)) q.source).pending = true := by
  have h1 := applyReactions_reacts (recordReport false s q) [q]
  have h2 := collectN_reacts 3 (applyReactions (recordReport false s q) [q])
  rw [collect_one hs hi]
  exact ⟨((recordReport_records false s q).reacts.trans h1).trans h2,
    h2.keeps.pending _ (h1.keeps.pending _ (recordInjected_pending hl hr hc))⟩

/-! ### FLT_INJECT -/

/-- What a FLT_INJECT asks to be reported (R510). -/
def injection (p : List Byte) : Report :=
  { source := byteAt p 0, address := leAt p 8 8, master := leAt p 2 2, injected := true, react := bitAt (byteAt p 1) 0 }

/-- The command finds its payload sound and its source there. -/
structure Injects (s : State) (p : List Byte) : Prop where
  payload : injectPayloadOk p = true
  present : sourceAbsent s (byteAt p 0) = false

/-- It is allowed now (R511). -/
structure Allowed (s : State) (p : List Byte) : Prop extends Injects s p where
  enabled : bitAt (regN s 0x40004) 0 = true
  settled : inSwitch s = false
  free : (srcAt s (byteAt p 0)).armed = none

theorem runInject_shut (h : Injects s p) (he : bitAt (regN s 0x40004) 0 = false) : runInject s p = (s, .now .badState []) := by
  simp [runInject, h.payload, h.present, he]

/-- The injection that a FLT_INJECT arms. -/
def armedBy (p : List Byte) : Injection := { address := leAt p 8 8, master := leAt p 2 2, react := bitAt (byteAt p 1) 0 }

theorem runInject_arms (h : Allowed s p) (hs : byteAt p 0 = 0x21 ∨ byteAt p 0 = 0x40 ∨ byteAt p 0 = 0xA0) :
    runInject s p = (modSrc s (byteAt p 0) (fun x => { x with armed := some (armedBy p) }), .now .ok (leBytes 4 0)) := by
  have harm : (srcAt s (byteAt p 0)).armed.isSome = false := by rw [h.free]; rfl
  simp [runInject, h.payload, h.present, h.enabled, h.settled, harm, hs, armedBy]

theorem runInject_records (h : Allowed s p) (hs : byteAt p 0 ≠ 0x21) (hs' : byteAt p 0 ≠ 0x40) (hs'' : byteAt p 0 ≠ 0xA0) :
    runInject s p = (collect (report s (injection p)),
      .now .ok (leBytes 4 (srcAt (collect (report s (injection p))) (byteAt p 0)).lastSeq)) := by
  have harm : (srcAt s (byteAt p 0)).armed.isSome = false := by rw [h.free]; rfl
  simp [runInject, h.payload, h.present, h.enabled, h.settled, harm, hs, hs', hs'', injection]

theorem runReadLog_found {rec : FaultRec} (h : (s.flt.log ++ s.flt.ext).find? (fun r => r.seq == leAt p 0 4 &&
    decide (leAt p 0 4 ≠ 0)) = some rec) : runReadLog s p = (s, .now .ok (recBytes rec)) := by
  unfold runReadLog
  extract_lets n
  rw [show (s.flt.log ++ s.flt.ext).find? (fun r => r.seq == n && decide (n ≠ 0)) = some rec from h]

theorem runReadLog_none (h : ∀ r ∈ s.flt.log ++ s.flt.ext, r.seq ≠ leAt p 0 4) : runReadLog s p = (s, .now .outOfRange []) := by
  have hn : (s.flt.log ++ s.flt.ext).find? (fun r => r.seq == leAt p 0 4 && decide (leAt p 0 4 ≠ 0)) = none :=
    List.find?_eq_none.mpr (fun r hr => by simp [h r hr])
  unfold runReadLog
  extract_lets n
  rw [show (s.flt.log ++ s.flt.ext).find? (fun r => r.seq == n && decide (n ≠ 0)) = none from hn]

theorem runHigh_inject {f : InFlight} (h : f.opcode = 0x1101) (pl : List Byte) : runHigh s f pl = runInject s pl := by
  simp [runHigh, h]

theorem runHigh_readLog {f : InFlight} (h : f.opcode = 0x1102) (pl : List Byte) : runHigh s f pl = runReadLog s pl := by
  simp [runHigh, h]

/-! ### The end of a command that answers at once and leaves the units alone -/

/-- A served command that leaves the units alone and reports lost events only: its answer, and the sources as its operation left
them. -/
theorem exec_spares {i : Instr} {op : Nat} {c : Cmd} {sh : List (Nat × Nat)} {st : Status} {res : List Byte}
    (hi : exec i s = .next (hostEvent s (fun s => message s op c sh))) (h : Serving s op c)
    (hr : runOp (enterFlight s (arriving s op c sh)) (arriving s op c sh) = (r, .now st res))
    (he : Records (enterFlight s (arriving s op c sh)) r) (hl : onlyLost r) :
    ∃ t, exec i s = .next t ∧ Answers s t (arriving s op c sh) st res ∧ calm t = calm s ∧ Keeps r t ∧
      (∀ n, n ≠ 0x12 → srcAt t n = srcAt r n) ∧ (∀ n, n < 256 → n ≠ 0x12 → sourceTally t n = sourceTally r n) := by
  have hcalm := he.calm
  have hloose : Loose (enterFlight s (arriving s op c sh)) r := ⟨he.events, he.keeps.outs, he.keeps.map, he.keeps.reports⟩
  obtain ⟨t, ht, hans, hc, hk⟩ := exec_answers hi h hr hloose (calm_eq (·.regs) hcalm :) (calm_eq (·.tsc) hcalm :)
    (calm_eq (·.img.act) hcalm :) (calm_eq (·.pending) hcalm :)
  refine ⟨t, ht, hans, hc.trans (hcalm.trans rfl), hk, ?_⟩
  have hcpl := complete_host r (arriving s op c sh).id st res
  have hcu := complete_uncounted r (arriving s op c sh).id st res
  have hcc : calm (complete r (arriving s op c sh).id st res) = calm s := hcpl.calm.trans hcalm
  have hact : (complete r (arriving s op c sh).id st res).img.act = none := ((calm_eq (·.img.act) hcc :)).trans h.act
  have hwait : noWait (complete r (arriving s op c sh).id st res) := hcpl.waits (he.keeps.waits (by
    rw [noWait, show (enterFlight s (arriving s op c sh)).hmi.inFlight = [arriving s op c sh] by simp [enterFlight, h.alone]]
    rfl))
  have hlost : onlyLost (complete r (arriving s op c sh).id st res) := hcpl.spares.onlyLost hl
  have hfin : t = finish s (complete r (arriving s op c sh).id st res) := by
    rw [hi, hostEvent_up (canFetch_host h.fetch), message_now h hr] at ht
    exact (Host.Outcome.next.inj ht).symm
  have hsp := finish_spares (a := s) hact hwait hlost (calm_eq (·.plk) hcc :) (calm_eq (·.hls.mode) hcc :)
    (calm_eq (·.thm.stop) hcc :) (calm_eq (·.lsd.bank) hcc :)
  have hends := finish_ends (a := s) hact hwait (calm_eq (·.pending) hcc :)
  rw [hfin]
  refine ⟨fun n hn => (hsp.srcs n hn).trans (hcpl.spares.srcs n hn), fun n hn h12 => ?_⟩
  have hnone : ∀ x ∈ (complete r (arriving s op c sh).id st res).reports, ¬ x.source % 256 = n % 256 := fun x hx => by
    rw [(hlost x hx).1]
    omega
  rw [hends.counts n (by omega) (fun x hx hxs => absurd hxs (hnone x hx)), hcu.tallies n, (reportsOf_eq_zero_iff _ n).mpr hnone]
  exact Nat.min_eq_left (sourceTally_le r n)

end

/-- Settles O55: an injection is recorded within its command, alone; without REACT it touches its source's count and number only. -/
theorem injectionsAndTheLog : Obligations.InjectionsAndTheLog := by
  unfold Obligations.InjectionsAndTheLog
  refine ⟨fun s c src h hsrc hp ha hen hsw hf h3 => ?arms, fun s c src h hsrc hp ha hen hsw hf h1 h2 h3 hr => ?silent,
    fun s c src h hsrc hp ha hen hsw hf h1 h2 h3 hr hc => ?reacts, fun s c h hp ha hen => ?shut, fun s c r h hf => ?found,
    fun s c h hf => ?none⟩
  case arms =>
    subst hsrc
    have hall : Allowed (enterFlight s (arriving s 0x1101 c [])) (bodyOf c) := ⟨⟨hp, ha⟩, hen, hsw, hf⟩
    have hrun := (h.high [] (by decide)).trans ((runHigh_inject rfl _).trans (runInject_arms hall h3))
    have hrec := modSrc_records (enterFlight s (arriving s 0x1101 c [])) (byteAt (bodyOf c) 0)
      (fun x => { x with armed := some (armedBy (bodyOf c)) }) (fun _ h => h) id
    obtain ⟨t, ht, hans, hcalm, -, hsrcs, -⟩ := exec_spares (i := .fltInject c) rfl h hrun hrec (fun q hq => by
      have hq' : q ∈ s.reports := hq
      rw [h.reports] at hq'
      cases hq')
    have hlt : byteAt (bodyOf c) 0 < 256 := BitVec.isLt _
    have hne : byteAt (bodyOf c) 0 ≠ 0x12 := by omega
    have hx := hsrcs _ hne
    rw [srcAt_modSrc, if_pos ⟨rfl, hlt⟩] at hx
    exact ⟨t, ht, hans, by rw [hx]; rfl, by rw [hx]; rfl, hcalm⟩
  case silent =>
    subst hsrc
    have hall : Allowed (enterFlight s (arriving s 0x1101 c [])) (bodyOf c) := ⟨⟨hp, ha⟩, hen, hsw, hf⟩
    have hrun := (h.high [] (by decide)).trans ((runHigh_inject rfl _).trans (runInject_records hall h1 h2 h3))
    have hlt : byteAt (bodyOf c) 0 < 256 := BitVec.isLt _
    have hsil := collect_silent (s := enterFlight s (arriving s 0x1101 c [])) (q := injection (bodyOf c)) h.reports hlt rfl hr rfl
    obtain ⟨t, ht, hans, hcalm, hk, hsrcs, htal⟩ := exec_spares (i := .fltInject c) rfl h hrun hsil.records hsil.lost
    refine ⟨t, _, ht, hans, fun h12 => ⟨?_, ?_, ?_⟩, hcalm, fun a hlt => ?_⟩
    · exact (htal _ hlt h12).trans (hsil.counts h12)
    · rw [hsrcs _ h12]
      exact hsil.mode h12
    · rw [hsrcs _ h12]
    · have hall := hsil.records.keeps.reserved hlt
      rw [hk.reserved (by rwa [reservedBase_calm hsil.records.calm])]
      exact hall
  case reacts =>
    subst hsrc
    have hall : Allowed (enterFlight s (arriving s 0x1101 c [])) (bodyOf c) := ⟨⟨hp, ha⟩, hen, hsw, hf⟩
    have hrun := (h.high [] (by decide)).trans ((runHigh_inject rfl _).trans (runInject_records hall h1 h2 h3))
    have hlt : byteAt (bodyOf c) 0 < 256 := BitVec.isLt _
    obtain ⟨hre, hpend⟩ := collect_injected (s := enterFlight s (arriving s 0x1101 c [])) (q := injection (bodyOf c)) h.reports hlt rfl
      hr hc
    have hcpl := complete_host (collect (report (enterFlight s (arriving s 0x1101 c [])) (injection (bodyOf c))))
      (arriving s 0x1101 c []).id .ok (leBytes 4 (srcAt (collect (report (enterFlight s (arriving s 0x1101 c []))
        (injection (bodyOf c)))) (byteAt (bodyOf c) 0)).lastSeq)
    have hqueue : (collect (report (enterFlight s (arriving s 0x1101 c [])) (injection (bodyOf c)))).pending = s.pending := by
      obtain ⟨o, hm, ta, r, fl, dr, bw, po, ls, pi, lp, pk, rc, hls, hfr⟩ := hre.frame
      rw [hfr]
      rfl
    have hwait : noWait (enterFlight s (arriving s 0x1101 c [])) := by
      rw [noWait, show (enterFlight s (arriving s 0x1101 c [])).hmi.inFlight = [arriving s 0x1101 c []] by simp [enterFlight, h.alone]]
      rfl
    obtain ⟨t, ht, hends⟩ := exec_host_ends (i := .fltInject c) rfl h.awake (message_now h hrun) (hcpl.waits (hre.keeps.waits hwait))
      ((calm_eq (·.img.act) hcpl.calm :).trans (congrArg (·.act) hre.act)) ((calm_eq (·.pending) hcpl.calm :).trans hqueue)
    refine ⟨t, ht, hends.reacts.keeps.pending _ (hcpl.keeps.pending _ hpend), ?_⟩
    exact (hre.trans (hcpl.reacts.trans hends.reacts)).pins.of_pins
  case shut =>
    have hall : Injects (enterFlight s (arriving s 0x1101 c [])) (bodyOf c) := ⟨hp, ha⟩
    exact exec_replies (i := .fltInject c) rfl h ((h.high [] (by decide)).trans ((runHigh_inject rfl _).trans (runInject_shut hall hen)))
  case found =>
    have hrun := runReadLog_found (s := enterFlight s (arriving s 0x1102 c [])) hf
    exact exec_replies (i := .fltReadLog c) rfl h ((h.high [] (by decide)).trans ((runHigh_readLog rfl _).trans hrun))
  case none =>
    have hrun := runReadLog_none (s := enterFlight s (arriving s 0x1102 c [])) hf
    exact exec_replies (i := .fltReadLog c) rfl h ((h.high [] (by decide)).trans ((runHigh_readLog rfl _).trans hrun))

end Sys2Proof.Machine
end


section
/-! What survives the reactions to a fault (R496), said of any relation that the parts of a reaction respect; and one Plane
Link port: what an operation makes of it. -/

namespace Sys2Proof.Machine

/-! ### Reactions, by their parts -/

/-- A relation that recording and each kind of reaction respect. -/
structure Stable (R : State → State → Prop) : Prop where
  refl : ∀ s, R s s
  trans : ∀ {a b c}, R a b → R b c → R a c
  records : ∀ {s t}, Records s t → R s t
  safe : ∀ s src sh, R s (enterSafe s src sh)
  arrays : ∀ s, R s (parkArrays s)
  scanner : ∀ s c f, R s (parkScanner s c f)
  bank : ∀ s b, R s (bankOff s b)

section
variable {R : State → State → Prop}

theorem Stable.ite {s a b : State} (c : Prop) [Decidable c] (ha : R s a) (hb : R s b) : R s (if c then a else b) := by
  split <;> assumption

theorem Stable.foldl (h : Stable R) {β : Type} {f : State → β → State} (hf : ∀ s x, R s (f s x)) (l : List β) (s : State) :
    R s (l.foldl f s) := by
  induction l generalizing s with
  | nil => exact h.refl s
  | cons x l ih => exact h.trans (hf s x) (ih _)

theorem Stable.reactions (h : Stable R) (s : State) (l : List Report) : R s (applyReactions s l) := by
  unfold applyReactions
  extract_lets act rs has s1 s2 s3
  have h1 : R s s1 := by
    simp only [s1]
    split
    · exact h.safe _ _ _
    · exact h.refl _
  have h2 : R s1 s2 := Stable.ite _ (h.arrays _) (h.refl _)
  have h3 : R s2 s3 := Stable.ite _ (h.scanner _ _ _) (h.refl _)
  exact h.trans (h.trans (h.trans h1 h2) h3) (h.foldl (fun s e => Stable.ite _ (h.bank _ _) (h.refl _)) _ _)

theorem Stable.collectN (h : Stable R) (n : Nat) (s : State) : R s (Machine.collectN n s) := by
  induction n generalizing s with
  | zero => exact h.records (clearReports_records s)
  | succ n ih =>
    unfold Machine.collectN
    split
    · exact h.refl s
    · exact h.trans (h.trans (h.records (records_reacts s _ _)) (h.reactions _ _)) (ih _)

theorem Stable.settle (h : Stable R) {b s : State} (ha : s.img.act = none) : R s (Machine.settle b s) := by
  unfold Machine.settle
  extract_lets s1 s2
  have hs2 : s2 = s1 := by
    have hx : (collect s).img.act = none := by rw [(collect_reacts s).act]; exact ha
    simp only [s2, s1, activationFatal_none hx, collect_quiet (collect_reports s), ite_self]
  rw [hs2]
  exact h.trans (h.trans (h.collectN 4 s) (h.records (exitConditions_records b s1))) (h.collectN 4 _)

/-- The end of a command outside an activation. -/
theorem Stable.finish (h : Stable R) {a r : State} (ha : r.img.act = none) (w : noWait r) (hq : r.pending = a.pending) :
    R r (Machine.finish a r) := by
  have h1 := settle_reacts (a := a) ha
  have ha1 : (Machine.settle a r).img.act = none := by rw [h1.act]; exact ha
  have h2 := h1.trans (settle_reacts (a := Machine.settle a r) ha1)
  have hf : Machine.finish a r = Machine.settle (Machine.settle a r) (Machine.settle a r) := by
    unfold Machine.finish
    extract_lets s1
    rw [startWaiting_quiet _ (h1.keeps.waits w)]
    obtain ⟨o, hm, ta, rr, fl, dr, bw, po, ls, pi, lp, pk, rc, hl, he⟩ := h2.frame
    show withQueue (Machine.settle s1 s1) a.pending = Machine.settle s1 s1
    rw [he, ← hq]
    rfl
  rw [hf]
  exact h.trans (h.settle ha) (h.settle ha1)

/-- An event of the running module respects it. -/
theorem Stable.exec (h : Stable R) {C : List Nat} {E : Nat → Prop} {i : Instr} {s b t : State} {f : State → State}
    (hi : Machine.exec i s = .next (event s f)) (hl : Live s) (ha : Adds C E b (f s)) (hb : Begun s b)
    (ht : Machine.exec i s = .next t) : R (f s) t := by
  have het : t = Machine.finish s (f s) := by
    rw [hi, event_running hl.power] at ht
    exact (Host.Outcome.next.inj ht).symm
  rw [het]
  exact h.finish (((calm_eq (·.img.act) ha.calm :)).trans (hb.act.trans hl.act)) (ha.waits (by rw [noWait, hb.hmi]; exact hl.waits))
    (((calm_eq (·.pending) ha.calm :)).trans hb.pending)

end

/-! ### One port -/

section
variable {s : State} {p q : Nat}

@[simp] theorem port_modPort_same (h : p < 6) (f : Port → Port) : port (modPort s p f) p = f (port s p) := vget_vmod_same _ h _ _
theorem port_modPort_ne (h : q ≠ p) (f : Port → Port) : port (modPort s p f) q = port s q := vget_vmod_ne _ (Ne.symm h) _ _

/-- A port that is not DISABLED is one of the six. -/
theorem port_lt (h : (port s p).mode ≠ .disabled) : p < 6 := by
  by_contra hp
  refine h ?_
  rw [port, vget, List.getD_eq_getElem?_getD, List.getElem?_eq_none (by simp; omega)]
  rfl

theorem port_of_calm {a b : State} (h : calm a = calm b) (q : Nat) : port a q = port b q := calm_eq (fun s => port s q) h

end

/-! ### What a reaction keeps of a port -/

/-- Of a port a reaction keeps its sendings and what its array has told; a FAILED port stays as it is. -/
structure PortKept (x y : Port) : Prop where
  attempts : y.attempts = x.attempts
  state : y.stState = x.stState
  flags : y.stFlags = x.stFlags
  wait : y.statusWait = x.statusWait
  miss : y.statusMiss = x.statusMiss
  failed : x.mode = .failed → y = x

/-- Every port is kept so. -/
def PortsKept (s t : State) : Prop := ∀ q, PortKept (port s q) (port t q)

theorem PortKept.refl (x : Port) : PortKept x x := ⟨rfl, rfl, rfl, rfl, rfl, fun _ => rfl⟩

theorem PortKept.trans {x y z : Port} (h : PortKept x y) (k : PortKept y z) : PortKept x z where
  attempts := k.attempts.trans h.attempts
  state := k.state.trans h.state
  flags := k.flags.trans h.flags
  wait := k.wait.trans h.wait
  miss := k.miss.trans h.miss
  failed hx := by
    have hy := h.failed hx
    rw [k.failed (by rw [hy]; exact hx), hy]

theorem PortsKept.of_plk {s t : State} (h : t.plk = s.plk) : PortsKept s t := fun q => by
  rw [port, port, h]
  exact .refl _

theorem PortsKept.of_calm {s t : State} (h : calm t = calm s) : PortsKept s t := .of_plk (calm_eq (·.plk) h :)

theorem PortsKept.trans {a b c : State} (h : PortsKept a b) (k : PortsKept b c) : PortsKept a c := fun q => (h q).trans (k q)

theorem clearBankSlot_plk (s : State) (b : Nat) : (clearBankSlot s b).plk = s.plk := by
  unfold clearBankSlot
  split <;> rfl

theorem post_plk (s : State) (c u : Nat) (p : List Byte) : (post s c u p).plk = s.plk := (calm_eq (·.plk) (calm_post s c u p) :)

theorem setBank_plk (s : State) (b : Nat) (m : BankMode) (c : Nat) : (setBank s b m c).plk = s.plk := by
  have leave (s : State) : (bankLeave s b).plk = s.plk := by
    unfold bankLeave
    extract_lets s1
    rw [clearBankSlot_plk]
    split <;> rfl
  unfold setBank
  extract_lets s0 s1
  have h1 : s1.plk = s.plk := by
    simp only [s1]
    split <;> rfl
  rw [postBank, post_plk]
  split
  · rw [leave, h1]
  · exact h1

theorem bankOff_plk (s : State) (b : Nat) : (bankOff s b).plk = s.plk := by
  unfold bankOff
  extract_lets x s1
  have h1 : s1.plk = s.plk := setBank_plk s b .safe 3
  split
  · split <;> exact h1
  · rfl

theorem forN_plk (n : Nat) (f : State → Nat → State) (h : ∀ s b, (f s b).plk = s.plk) (s : State) : (forN n f s).plk = s.plk :=
  List.foldlRecOn _ f (motive := fun t => t.plk = s.plk) rfl (fun t ht b _ => (h t b).trans ht)

theorem safeBegin_plk (s : State) (src : Nat) (sh : Bool) : (safeBegin s src sh).plk = s.plk := by
  have drive (s : State) : (driveOthersOff s).plk = s.plk := forN_plk 12 _ (fun s b => by
    dsimp only
    split <;> rfl) s
  have noted (s : State) : (signal (postSafe s true) 14).plk = s.plk :=
    (calm_eq (·.plk) ((calm_signal _ 14).trans (calm_post _ _ _ _)) :)
  unfold safeBegin
  split
  · rfl
  · rw [drive, noted]

theorem enterSafe_plk (s : State) (src : Nat) (sh : Bool) : (enterSafe s src sh).plk = s.plk := by
  have light (s : State) (sh : Bool) : (lightOff s sh).plk = s.plk := rfl
  unfold enterSafe
  extract_lets s1
  have h1 : s1.plk = s.plk := by
    simp only [s1]
    rw [light, forN_plk 12 bankOff bankOff_plk, safeBegin_plk]
  clear_value s1
  split
  · exact h1
  · exact h1

theorem modHlsSlot_plk (s : State) (k : Nat) (f : Slot → Slot) : (modHlsSlot s k f).plk = s.plk := by
  unfold modHlsSlot
  split <;> rfl

theorem parkScanner_plk (s : State) (c : Nat) (f : Bool) : (parkScanner s c f).plk = s.plk := by
  have inc (s : State) (n t : Nat) : (setInc s n t).plk = s.plk := rfl
  have rest (s : State) : (scannerRest s c f).plk = s.plk := rfl
  have trigger (s : State) : (parkTrigger s).plk = s.plk := rfl
  have set (s : State) (m : HlsMode) : (setHls s m c).plk = s.plk := post_plk _ _ _ _
  unfold parkScanner
  extract_lets t s1
  split
  · rw [set, inc, hlsTarget, modHlsSlot_plk]
    simp only [s1]
    rw [modHlsSlot_plk, modHlsSlot_plk, rest]
    exact trigger s
  · exact trigger s

/-- A port enters a state. -/
def entered (m : PortMode) (c : Nat) (x : Port) : Port := { x with mode := m, cause := c }

theorem calm_enterPort (s : State) (p : Nat) (m : PortMode) (c : Nat) :
    calm (enterPort s p m c) = calm (modPort s p (entered m c)) := by
  unfold enterPort
  extract_lets prev s1
  split
  · rfl
  · exact (calm_signal _ _).trans (calm_post _ _ _ _)

theorem parkArray_kept (s : State) (p : Nat) : PortsKept s (parkArray s p) := by
  unfold parkArray
  extract_lets x
  split
  · rename_i hc
    intro q
    rw [port_of_calm (calm_completeOpt _ _ _ _), parkPort, port_of_calm (calm_enterPort _ _ _ _)]
    by_cases hq : q = p
    · subst hq
      by_cases hlt : q < 6
      · have hm : (port s q).mode ≠ .failed := by
          intro hf
          simp [x, hf] at hc
        rw [port_modPort_same hlt, port_modPort_same hlt]
        have : port (blocksOff (sendFrame (modPort s q (fun y => { y with
            unparkId := none, thenTrain := false, holdReady := false })) q 0x06 [parkStyle s q]) q) q = _ :=
          port_modPort_same (s := s) hlt (fun y => { y with unparkId := none, thenTrain := false, holdReady := false })
        rw [this]
        exact ⟨rfl, rfl, rfl, rfl, rfl, fun hf => absurd hf hm⟩
      · exact absurd (port_lt (s := s) (p := q) (fun hd => by simp [x, hd] at hc)) hlt
    · rw [port_modPort_ne hq, port_modPort_ne hq]
      have : port (blocksOff (sendFrame (modPort s p (fun y => { y with
          unparkId := none, thenTrain := false, holdReady := false })) p 0x06 [parkStyle s p]) p) q = _ :=
        port_modPort_ne (s := s) hq (fun y => { y with unparkId := none, thenTrain := false, holdReady := false })
      rw [this]
      exact .refl _
  · exact fun q => .refl _

/-- Every reaction keeps the ports so. -/
theorem portsKept_stable : Stable PortsKept where
  refl _ := fun _ => .refl _
  trans := .trans
  records h := .of_calm h.calm
  safe s src sh := .of_plk (enterSafe_plk s src sh)
  arrays s := List.foldlRecOn _ parkArray (motive := fun t => PortsKept s t) (fun _ => .refl _)
    (fun t ht p _ => ht.trans (parkArray_kept t p))
  scanner s c f := .of_plk (parkScanner_plk s c f)
  bank s b := .of_plk (bankOff_plk s b)

end Sys2Proof.Machine
end


section
/-! Operations on the Plane Link ports: what each makes of its port, and what it sends, counts and reports (R302–R313). -/

namespace Sys2Proof.Machine

/-- The state with these ports, blocks that they show, and waiting variant. -/
def withPlk (s : State) (k : Vector Port 6) (bl : Vector (Vector MirrorBlock 16) 6) (n : Option VarSel) : State := { s with
  plk := k
  rck := { s.rck with
    blocks := bl
    next := n } }

/-- `b` is `s` but for the ports, the blocks they show, the variant that waits, and the wires. -/
def OnlyPlk (s b : State) : Prop := ∃ k bl n o, b = { withPlk s k bl n with outs := o }

/-- The tallies of retraining (R316), whose number is not told. -/
def retrains (n : Nat) : Prop := ∃ p, n = portBase p + 0x44

/-- An operation on the ports has made `r` of `s`: the ports are now `P`, the frames `O` are sent, and the sources and tallies `C`
reported and counted. -/
structure PlkWork (C : List Nat) (O : List Output) (s : State) (P : Nat → Port) (r : State) : Prop where
  base : ∃ b, OnlyPlk s b ∧ (∀ o ∈ O, o ∈ b.outs) ∧ Adds C retrains b r
  ports : ∀ q, port r q = P q

theorem OnlyPlk.begun {s b : State} (h : OnlyPlk s b) : Begun s b := by
  obtain ⟨k, bl, n, o, rfl⟩ := h
  exact {}

section
variable {C K : List Nat} {O : List Output} {s r r' : State} {P : Nat → Port} {p : Nat} {o : Output}

theorem PlkWork.refl (s : State) : PlkWork [] [] s (port s) s :=
  ⟨⟨s, ⟨s.plk, s.rck.blocks, s.rck.next, s.outs, rfl⟩, by simp, .refl _ s⟩, fun _ => rfl⟩

theorem PlkWork.frame (h : PlkWork C O s P r) : ∃ k bl n, calm r = calm (withPlk s k bl n) := by
  obtain ⟨b, ⟨k, bl, n, o, rfl⟩, -, ha⟩ := h.base
  exact ⟨k, bl, n, ha.calm⟩

theorem PlkWork.tsc (h : PlkWork C O s P r) : r.tsc = s.tsc := by
  obtain ⟨k, bl, n, hc⟩ := h.frame
  exact (calm_eq (·.tsc) hc :)

theorem PlkWork.linkCfg (h : PlkWork C O s P r) (p : Nat) : linkCfg r p = linkCfg s p := by
  obtain ⟨k, bl, n, hc⟩ := h.frame
  exact (calm_eq (fun s => Machine.linkCfg s p) hc :)

theorem PlkWork.parkStyle (h : PlkWork C O s P r) (p : Nat) : parkStyle r p = parkStyle s p := by
  obtain ⟨k, bl, n, hc⟩ := h.frame
  exact (calm_eq (fun s => Machine.parkStyle s p) hc :)

/-- Posting, completing, counting and reporting. -/
theorem PlkWork.adds (h : PlkWork C O s P r) (ha : Adds K retrains r r') : PlkWork (C ++ K) O s P r' := by
  obtain ⟨b, hb, ho, hr⟩ := h.base
  exact ⟨⟨b, hb, ho, hr.trans ha⟩, fun q => (port_of_calm ha.calm q).trans (h.ports q)⟩

theorem PlkWork.posts (h : PlkWork C O s P r) (ha : Adds [] retrains r r') : PlkWork C O s P r' := by
  have := h.adds ha
  rwa [List.append_nil] at this

theorem PlkWork.report (h : PlkWork C O s P r) (q : Report) (hl : q.source < 256 := by exact of_decide_eq_true rfl)
    (hi : q.injected = false := by rfl) (hn : q.reactionAs = none := by rfl) :
    PlkWork (C ++ [q.source]) O s P (Machine.report r q) := h.adds (report_adds r q hl hi hn)

theorem PlkWork.mod (h : PlkWork C O s P r) (hp : p < 6) (f : Port → Port) :
    PlkWork C O s (Function.update P p (f (P p))) (modPort r p f) := by
  obtain ⟨b, ⟨k, bl, n, o, rfl⟩, ho, hr⟩ := h.base
  refine ⟨⟨_, ⟨vmod k p f, bl, n, o, rfl⟩, ho, hr.map' (fun s => modPort s p f) (by intros; rfl) rfl⟩, fun q => ?_⟩
  by_cases hq : q = p
  · subst hq
    rw [port_modPort_same hp, h.ports, Function.update_self]
  · rw [port_modPort_ne hq, h.ports, Function.update_of_ne hq]

/-- The Reckoner shows these blocks, and this variant waits. -/
def modWaiting (s : State) (f : Rck → Vector (Vector MirrorBlock 16) 6) (g : Rck → Option VarSel) : State :=
  { s with rck := { s.rck with
    blocks := f s.rck
    next := g s.rck } }

theorem PlkWork.rck (h : PlkWork C O s P r) (f : Rck → Vector (Vector MirrorBlock 16) 6) (g : Rck → Option VarSel) :
    PlkWork C O s P (modWaiting r f g) := by
  obtain ⟨b, ⟨k, bl, n, o, hb⟩, ho, hr⟩ := h.base
  refine ⟨⟨modWaiting b f g, ⟨k, f b.rck, g b.rck, o, ?_⟩, ho, hr.map' (modWaiting · f g) (by intros; rfl) rfl⟩, h.ports⟩
  rw [hb]
  rfl

theorem PlkWork.blocksOff (h : PlkWork C O s P r) (p : Nat) : PlkWork C O s P (blocksOff r p) :=
  h.rck (fun k => vmod k.blocks p (Vector.map (fun b => { b with shows := none }))) (·.next)

theorem PlkWork.drop (h : PlkWork C O s P r) (p : Nat) : PlkWork C O s P (dropSelection r p) := by
  unfold dropSelection
  split
  · split
    · exact h.rck (·.blocks) (fun _ => none)
    · exact h
  · exact h

theorem PlkWork.send (h : PlkWork C O s P r) (p op : Nat) (args : List Nat) :
    PlkWork C (.plkFrame p op args :: O) s P (sendFrame r p op args) := by
  obtain ⟨b, ⟨k, bl, n, o, rfl⟩, ho, hr⟩ := h.base
  refine ⟨⟨_, ⟨k, bl, n, .plkFrame p op args :: o, rfl⟩, fun x hx => ?_, hr.emit _⟩, h.ports⟩
  rcases List.mem_cons.mp hx with rfl | hx
  · exact List.mem_cons_self
  · exact List.mem_cons_of_mem _ (ho x hx)

/-- A frame whose reply has a limit. -/
theorem PlkWork.ask (h : PlkWork C O s P r) (hp : p < 6) (op : Nat) (args : List Nat) :
    PlkWork C (.plkFrame p op args :: O) s (Function.update P p { P p with sentAt := s.tsc }) (sendAsking r p op args) := by
  rw [← h.tsc]
  exact (h.mod hp (fun x => { x with sentAt := r.tsc })).send p op args

theorem postPortState_adds (s : State) (p : Nat) (m : PortMode) : Adds [] retrains s (postPortState s p m) :=
  (post_adds _ _ _ _).trans (signal_adds _ _)

theorem PlkWork.enter (h : PlkWork C O s P r) (hp : p < 6) (m : PortMode) (c : Nat) :
    PlkWork C O s (Function.update P p (entered m c (P p))) (enterPort r p m c) := by
  have h1 := h.mod hp (entered m c)
  unfold enterPort
  extract_lets prev s1
  split
  · exact h1
  · exact h1.posts (postPortState_adds _ _ _)

theorem PlkWork.enter' (h : PlkWork C O s (Function.update P p x) r) (hp : p < 6) (m : PortMode) (c : Nat) :
    PlkWork C O s (Function.update P p (entered m c x)) (enterPort r p m c) := by
  have := h.enter hp m c
  rwa [Function.update_self, Function.update_idem] at this

theorem PlkWork.mod' (h : PlkWork C O s (Function.update P p x) r) (hp : p < 6) (f : Port → Port) :
    PlkWork C O s (Function.update P p (f x)) (modPort r p f) := by
  have := h.mod hp f
  rwa [Function.update_self, Function.update_idem] at this

theorem PlkWork.ask' (h : PlkWork C O s (Function.update P p x) r) (hp : p < 6) (op : Nat) (args : List Nat) :
    PlkWork C (.plkFrame p op args :: O) s (Function.update P p { x with sentAt := s.tsc }) (sendAsking r p op args) := by
  have := h.ask hp op args
  rwa [Function.update_self, Function.update_idem] at this

/-! ### Failing, parking, training -/

/-- A port declared failed (R307, R313). -/
def failedPort (cause : Nat) (x : Port) : Port :=
  { x with
    mode := .failed
    cause := cause
    version := 0
    lanes := 0
    half := 0
    parkAt := none
    thenTrain := false
    holdReady := false
    unparking := false
    delivering := false
    trainedOnce := true
    statusWait := false
    statusMiss := 0
    failedHeld := true
    retrainId := none
    parkId := none
    unparkId := none
    statusId := none }

theorem PlkWork.fail (h : PlkWork C O s P r) (hp : p < 6) (cause : Nat) :
    PlkWork (C ++ [0x61]) (.plkFrame p 0x06 [Machine.parkStyle s p] :: O) s (Function.update P p (failedPort cause (P p)))
      (portFail r p cause) := by
  have h1 := ((((h.drop p).send p 0x06 [Machine.parkStyle r p]).blocksOff p).mod hp (fun y => { y with
      version := 0, lanes := 0, half := 0, parkAt := none, thenTrain := false, holdReady := false, unparking := false,
      delivering := false, trainedOnce := true, statusWait := false, statusMiss := 0, failedHeld := true,
      retrainId := none, parkId := none, unparkId := none, statusId := none })).enter' hp .failed cause
  have h2 := h1.report { source := 0x61, master := p, address := cause }
  rw [h.parkStyle] at h2
  have h3 := (((h2.posts (completeOpt_adds _ (port r p).retrainId .checkFail (causeByte cause))).posts
    (completeOpt_adds _ (port r p).parkId .timeout (causeByte cause))).posts
    (completeOpt_adds _ (port r p).unparkId .checkFail (causeByte cause))).posts (completeOpt_adds _ (port r p).statusId .timeout [])
  rw [← h.parkStyle p] at h3 ⊢
  exact h3

/-- A port that has been parked (R304, R312). -/
def parkedPort (t style cause : Nat) (x : Port) : Port :=
  { x with
    mode := .parked
    cause := cause
    parkAt := some t
    parkFrom := t
    parkSent := style
    delivering := false
    unparking := false }

theorem PlkWork.park (h : PlkWork C O s P r) (hp : p < 6) (style cause : Nat) :
    PlkWork C (.plkFrame p 0x06 [style] :: O) s (Function.update P p (parkedPort s.tsc style cause (P p)))
      (parkPort r p style cause) := by
  rw [← h.tsc]
  exact (((h.send p 0x06 [style]).blocksOff p).mod hp (fun y => { y with
    parkAt := some r.tsc, parkFrom := r.tsc, parkSent := style, delivering := false, unparking := false })).enter' hp .parked cause

theorem unitTally_port (p k : Nat) : unitTally (portBase p + k) = true := by
  have h1 : portBase p + k ≠ offEvtLost := by simp only [portBase, offEvtLost]; omega
  have h2 : portBase p + k ≠ offCmdTally := by simp only [portBase, offCmdTally]; omega
  have h3 : ¬ (0x40080 ≤ portBase p + k ∧ portBase p + k < 0x42000) := by simp only [portBase]; omega
  simp [unitTally, h1, h2, h3]

theorem countRetrain_adds (s : State) (p : Nat) : Adds [] retrains s (countRetrain s p) := by
  unfold countRetrain
  split
  · refine (bump_adds s (unitTally_port p 0x44) (by simp only [portBase]; omega)).drop (fun n hn => ?_)
    exact ⟨p, List.mem_singleton.mp hn⟩
  · exact .refl _ s

/-- A port has entered SYNC (R307). -/
def syncPort (t cause : Nat) (fullOnly : Bool) (x : Port) : Port :=
  { x with
    mode := .sync
    cause := cause
    sentAt := t
    attempts := 0
    trainTries := 0
    corrected := false
    halfWidth := false
    excluded := none
    fullOnly := fullOnly
    holdReady := false
    unparking := false
    delivering := false
    parkAt := none
    thenTrain := false
    version := 0
    lanes := 0
    half := 0
    reversed := false
    inverted := 0
    locked := 0
    statusWait := false
    statusMiss := 0 }

theorem PlkWork.sync (h : PlkWork C O s P r) (hp : p < 6) (cause : Nat) (full : Bool) :
    PlkWork C O s (Function.update P p (syncPort s.tsc cause full (P p))) (enterSync r p cause full) := by
  rw [← h.tsc]
  exact (((h.blocksOff p).mod hp (fun x => { x with
    sentAt := r.tsc, attempts := 0, trainTries := 0, corrected := false, halfWidth := false, excluded := none, fullOnly := full,
    holdReady := false, unparking := false, delivering := false, parkAt := none, thenTrain := false, version := 0, lanes := 0,
    half := 0, reversed := false, inverted := 0, locked := 0, statusWait := false, statusMiss := 0 })).enter' hp .sync cause).posts
    (countRetrain_adds _ p)

theorem PlkWork.trainFrame (h : PlkWork C O s P r) (hp : p < 6) (phase : Nat) :
    PlkWork C (.plkFrame p 0x03 [lanesInUse (P p), phase, (P p).half] :: O) s (Function.update P p { P p with sentAt := s.tsc })
      (sendTrain r p phase) := by
  have := h.ask hp 0x03 [lanesInUse (port r p), phase, (port r p).half]
  rw [h.ports] at this
  rw [sendTrain, h.ports]
  exact this

/-- A port begins TRAIN at its width. -/
def trainPort (t cause : Nat) (x : Port) : Port :=
  { x with
    mode := .train
    cause := cause
    lanes := lanesInUse x
    sentAt := t }

theorem PlkWork.train (h : PlkWork C O s P r) (hp : p < 6) (cause : Nat) :
    PlkWork C (.plkFrame p 0x03 [lanesInUse (P p), 0, (P p).half] :: O) s (Function.update P p (trainPort s.tsc cause (P p)))
      (enterTrain r p cause) := by
  have h1 := (h.mod hp (fun x => { x with lanes := lanesInUse x })).enter' hp .train cause
  have h2 : PlkWork C O s (Function.update P p (entered .train cause { P p with lanes := lanesInUse (P p) }))
      (if (port r p).mode = .train then enterPort (modPort r p (fun x => { x with lanes := lanesInUse x })) p .train cause
      else countRetrain (enterPort (modPort r p (fun x => { x with lanes := lanesInUse x })) p .train cause) p) := by
    split
    · exact h1
    · exact h1.posts (countRetrain_adds _ p)
  have h3 := h2.trainFrame hp 0
  rw [Function.update_self, Function.update_idem] at h3
  exact h3

/-! ### The end of a command -/

/-- The end of an event on a port: the port is `x`, and the frames are sent. -/
structure PortDone (C : List Nat) (O : List Output) (s r : State) (P : Nat → Port) (t : State) : Prop where
  ports : ∀ q, port t q = P q
  calm : Machine.calm t = Machine.calm r
  outs : ∀ o ∈ O, o ∈ t.outs
  counted : ∀ src, src < 256 → src ≠ 0x12 → C.count src = 1 → Machine.counted s t src
  marks : ∀ src, src ∈ C → src < 256 → src ≠ 0x12 → (sourceCfg s src).1 ≠ 0 → (srcAt t src).pending = true
  frame : ∃ k bl n, Machine.calm t = Machine.calm (withPlk s k bl n)
  memory : ∀ a, a < reservedBase s → rd t a = rd s a

theorem portBase_big (p k : Nat) : 256 ≤ portBase p + k := by
  simp only [portBase]
  omega

theorem not_retrains {n : Nat} (h : n < 256) : ¬ retrains n := by
  rintro ⟨p, rfl⟩
  have := portBase_big p 0x44
  omega

theorem Leaves.port {E : Nat → Prop} {b t : State} (h : Leaves C E s b t)
    (hq : ∀ n, n < 256 → n ∈ C ∨ E n → (sourceCfg s n).2.1 = 0) (q : Nat) : port t q = Machine.port b q :=
  port_of_calm (h.quiet hq) q

theorem PlkWork.done {b t : State} (h : PlkWork C O s P r) (hb : OnlyPlk s b) (ho : ∀ o ∈ O, o ∈ b.outs)
    (ha : Adds C retrains b r) (hl : Leaves C retrains s b t) (hc : ∀ n ∈ C, n < 256 → (sourceCfg s n).2.1 = 0) :
    PortDone C O s r P t := by
  have hq := hl.quiet (fun n hlt hn => hn.elim (fun hm => hc n hm hlt) (fun hr => absurd hr (not_retrains hlt)))
  have hcalm : Machine.calm t = Machine.calm r := hq.trans ha.calm.symm
  exact
    { ports := fun q => (port_of_calm hcalm q).trans (h.ports q)
      calm := hcalm
      outs := fun o hm => hl.outs o (ho o hm)
      counted := fun src hlt h12 => hl.counted src hlt h12 (not_retrains hlt)
      marks := fun src hm hlt h12 hcl => (hl.marks src hm hlt h12 (not_retrains hlt) hcl).1
      frame := by
        obtain ⟨k, bl, n, o, rfl⟩ := hb
        exact ⟨k, bl, n, hq⟩
      memory := hl.memory }

/-- What has changed at most is one port. -/
theorem PortDone.only {t : State} (h : PortDone C O s r P t) (p : Nat) (hP : ∀ q, q < 6 → q ≠ p → P q = port s q) : OnlyPort s t p where
  frame := by
    obtain ⟨k, bl, n, hc⟩ := h.frame
    have hk : t.plk = k := (calm_eq (·.plk) hc :)
    have hr : t.rck = { s.rck with
        blocks := bl
        next := n } := (calm_eq (·.rck) hc :)
    rw [hc, hk, hr]
    rfl
  ports q hq hne := (h.ports q).trans (hP q hq hne)
  memory := h.memory

theorem PortDone.only' {t : State} {x : Port} (h : PortDone C O s r (Function.update (port s) p x) t) : OnlyPort s t p :=
  h.only p (fun _ _ hne => Function.update_of_ne hne _ _)

theorem PortDone.port {t : State} {x : Port} (h : PortDone C O s r (Function.update P p x) t) : port t p = x := by
  rw [h.ports, Function.update_self]

/-- An event of a port that is neither DISABLED nor FAILED. -/
theorem portEvent_up {f : State → State} (hd : (port s p).mode ≠ .disabled) (hf : (port s p).mode ≠ .failed) :
    portEvent s p f = event s f := by
  unfold portEvent event
  have : ((port s p).mode == .disabled || (port s p).mode == .failed) = false := by simp [hd, hf]
  simp only [this, Bool.false_eq_true, if_false]

/-- An event of a port that is DISABLED or FAILED. -/
theorem exec_port_idle {i : Instr} {f : State → State} (hi : exec i s = .next (portEvent s p f)) (h : Live s)
    (hm : (port s p).mode = .disabled ∨ (port s p).mode = .failed) : exec i s = .next s := by
  refine exec_unit_same (f := fun s => if (port s p).mode == .disabled || (port s p).mode == .failed then s else f s) hi h ?_
  rcases hm with hm | hm
  · simp [hm]
  · simp [hm]

/-- An event of a port that changes nothing. -/
theorem exec_port_same {i : Instr} {f : State → State} (hi : exec i s = .next (portEvent s p f)) (h : Live s) (hf : f s = s) :
    exec i s = .next s := by
  refine exec_unit_same (f := fun s => if (port s p).mode == .disabled || (port s p).mode == .failed then s else f s) hi h ?_
  rw [hf, ite_self]

/-- No port has become ACTIVE. -/
def noneUp (a s : State) : Prop := ∀ q, (port s q).mode = .active → (port a q).mode = .active

theorem exitConditions_noneUp {a s : State} (hp : noneUp a s) (hh : s.hls.mode = a.hls.mode) (ht : s.thm.stop = a.thm.stop)
    (hr : rearmed a s = false) : exitConditions a s = s := by
  have h1 : (List.range 6).any (fun p => (vget a.plk p {}).mode != .active && (vget s.plk p {}).mode == .active) = false := by
    rw [List.any_eq_false]
    intro q _
    simp only [Bool.and_eq_true, bne_iff_ne, beq_iff_eq, not_and]
    exact fun hne hs => hne (hp q hs)
  have h2 : (a.hls.mode != .running && s.hls.mode == .running) = false := by
    rw [hh]; cases a.hls.mode <;> simp
  have h3 : (a.thm.stop && !s.thm.stop) = false := by rw [ht]; simp
  simp only [exitConditions, h1, h2, h3, hr, Bool.or_self, Bool.and_false, Bool.false_and, Bool.false_eq_true, if_false]

/-- An event that changes ports, of which none becomes ACTIVE, and reports nothing. -/
theorem exec_port_quiet {i : Instr} {f : State → State} (hi : exec i s = .next (event s f)) (h : Live s) (hf : f s = r)
    (hp : noneUp s r) (hr : r.reports = s.reports := by rfl) (hd : r.flt.head = s.flt.head := by rfl)
    (hm : r.hls.mode = s.hls.mode := by rfl) (ht : r.thm.stop = s.thm.stop := by rfl)
    (hb : r.lsd.bank = s.lsd.bank := by rfl) (hw : r.hmi.inFlight = s.hmi.inFlight := by rfl)
    (hq : r.pending = s.pending := by rfl) : exec i s = .next r := by
  have hrep : r.reports = [] := hr.trans h.reports
  have hwait : noWait r := by rw [noWait, hw]; exact h.waits
  have h1 : settle s r = r := by
    have hn : newFatal s r = false := by simp [newFatal, hd]
    simp only [settle, collect_quiet hrep, hn, Bool.false_eq_true, if_false, exitConditions_noneUp hp hm ht (rearmed_same hb)]
  have h2 : settle r r = r := settle_quiet ⟨hrep, rfl, rfl, rfl, rfl, rearmed_same rfl, hwait⟩
  have hfin : finish s r = withQueue r s.pending := by
    simp only [finish, h1, startWaiting_quiet _ hwait, h2]
  rw [hi, event_running h.power, hf, hfin, ← hq]
  rfl

theorem noneUp_modPort {f : Port → Port} (hf : ∀ x, (f x).mode = x.mode) : noneUp s (modPort s p f) := by
  intro q hq
  by_cases hqp : q = p
  · subst hqp
    by_cases hlt : q < 6
    · rwa [port_modPort_same hlt, hf] at hq
    · refine absurd (port_lt (s := modPort s q f) (p := q) (fun hd => ?_)) hlt
      rw [hd] at hq
      cases hq
  · rwa [port_modPort_ne hqp] at hq

theorem noneUp.trans {a b c : State} (h : noneUp a b) (k : noneUp b c) : noneUp a c := fun q hq => h q (k q hq)

/-- An event whose operation works on the ports. -/
theorem exec_plk {i : Instr} {f : State → State} (hi : exec i s = .next (event s f)) (h : Live s) (hw : PlkWork C O s P (f s))
    (hc : ∀ n ∈ C, n < 256 → (sourceCfg s n).2.1 = 0) : ∃ t, exec i s = .next t ∧ PortDone C O s (f s) P t := by
  obtain ⟨b, hb, ho, ha⟩ := hw.base
  obtain ⟨t, ht, hl, -⟩ := exec_adds hi h ha hb.begun
  exact ⟨t, ht, hw.done hb ho ha hl hc⟩

theorem exec_port {i : Instr} {f : State → State} (hi : exec i s = .next (portEvent s p f)) (h : Live s)
    (hm : (port s p).mode ≠ .disabled ∧ (port s p).mode ≠ .failed) (hw : PlkWork C O s P (f s))
    (hc : ∀ n ∈ C, n < 256 → (sourceCfg s n).2.1 = 0) : ∃ t, exec i s = .next t ∧ PortDone C O s (f s) P t :=
  exec_plk (hi.trans (congrArg _ (portEvent_up hm.1 hm.2))) h hw hc

/-- A port that its operation has declared failed. -/
theorem PortDone.failed {t : State} {cause : Nat} {x : Port} (h : PortDone (C ++ [0x61]) (.plkFrame p 0x06 [Machine.parkStyle s p] :: O) s r
    (Function.update (Machine.port s) p (failedPort cause x)) t) : PortFailed s t p cause where
  mode := by rw [h.port]; rfl
  cause := by rw [h.port]; rfl
  sent := h.outs _ List.mem_cons_self
  pending := h.marks 0x61 (by simp) (by decide) (by decide) (show (sourceCfg s 0x61).1 ≠ 0 by rw [sourceCfg_fixed (e := (0x61, 1, 0)) rfl]; decide)
  only := h.only'

end
end Sys2Proof.Machine
end


section
/-! Schedule variants load, and RCK_RESTORE brings back the nominal one (R282, R283, R285, R310). -/

namespace Sys2Proof.Machine

section
variable {C : List Nat} {O : List Output} {s r : State} {P : Nat → Port} {p : Nat} {n : VarSel}

/-! ### The variant that waits -/

theorem next_of_calm {a b : State} (h : calm a = calm b) : a.rck.next = b.rck.next := calm_eq (·.rck.next) h

theorem next_enterPort (s : State) (p : Nat) (m : PortMode) (c : Nat) : (enterPort s p m c).rck.next = s.rck.next :=
  (next_of_calm (calm_enterPort s p m c)).trans rfl

theorem next_portFail (s : State) (p c : Nat) : (portFail s p c).rck.next = (dropSelection s p).rck.next := by
  unfold portFail
  extract_lets x s1 s2 s3
  have h3 : s3.rck.next = (dropSelection s p).rck.next := next_enterPort _ _ _ _
  rw [next_of_calm (calm_completeOpt _ _ _ _), next_of_calm (calm_completeOpt _ _ _ _), next_of_calm (calm_completeOpt _ _ _ _),
    next_of_calm (calm_completeOpt _ _ _ _), h3]

theorem next_parkPort (s : State) (p style c : Nat) : (parkPort s p style c).rck.next = s.rck.next :=
  next_enterPort _ _ _ _

theorem dropSelection_own (h : s.rck.next = some n) (hc : n.cause = .degraded) :
    dropSelection s n.port = { s with rck := { s.rck with next := none } } := by
  have : (n.cause == VarCause.degraded && n.port == n.port) = true := by simp [hc]
  rw [dropSelection, h]
  exact if_pos this

/-! ### The end of a load -/

/-- A degraded variant has loaded. -/
def variantLoaded (s : State) (n : VarSel) : State := { s with rck := { s.rck with
  next := some { n with loaded := true }
  store := vset s.rck.store n.slot (some n.variant) } }

/-- The port that waits for this variant may wake. -/
def wakes (s : State) (p : Nat) : Bool := (port s p).mode == .parked && (port s p).holdReady && !(port s p).thenTrain

theorem variantLoadDone_ok (h0 : s.rck.loading0 = false) (hn : s.rck.next = some n) (hl : n.loaded = false) :
    variantLoadDone s true = if wakes s n.port then sendUnpark (variantLoaded s n) n.port else variantLoaded s n := by
  simp only [variantLoadDone, hn, h0, hl, Bool.false_eq_true, if_false, if_true, wakes, variantLoaded, port]

theorem variantLoadDone_fails (h0 : s.rck.loading0 = false) (hn : s.rck.next = some n) (hl : n.loaded = false) :
    variantLoadDone s false = portFail (report s { source := 0x53, address := 0x280000 * n.slot }) n.port 18 := by
  simp only [variantLoadDone, hn, h0, hl, Bool.false_eq_true, if_false]

theorem variantLoadDone_nominal (h0 : s.rck.loading0 = true) (ok : Bool) : variantLoadDone s ok = schedLoaded s ok := by
  unfold variantLoadDone
  split
  · rfl
  · rw [if_pos h0]

theorem variantLoadDone_none (h0 : s.rck.loading0 = false)
    (hn : s.rck.next = none ∨ ∃ n, s.rck.next = some n ∧ n.loaded = true) (ok : Bool) : variantLoadDone s ok = s := by
  rcases hn with hn | ⟨n, hn, hl⟩
  · simp only [variantLoadDone, hn, schedLoaded, h0, Bool.false_eq_true, if_false]
  · simp only [variantLoadDone, hn, h0, hl, Bool.false_eq_true, if_false, if_true]

theorem variantReady_loaded (h : s.rck.next = some n) (hl : n.loaded = true) (p : Nat) : variantReady s p = true := by
  simp [variantReady, h, hl]

theorem sendUnpark_ready (h : (port s p).halfWidth = false ∨ variantReady s p = true) : sendUnpark s p =
    sendAsking (modPort s p (fun x => { x with unparking := true, attempts := 1, holdReady := false })) p 0x07 [] := by
  rw [sendUnpark, if_neg]
  rcases h with h | h
  · simp [h]
  · simp [h]

theorem sendUnpark_holds (h : (port s p).halfWidth = true) (hv : variantReady s p = false) :
    sendUnpark s p = modPort s p (fun x => { x with holdReady := true }) := by
  rw [sendUnpark, if_pos (by simp [h, hv])]

theorem exec_variant_fails (h : Live s) (h0 : s.rck.loading0 = false) (hn : s.rck.next = some n) (hl : n.loaded = false)
    (hp : n.port < 6) (hc : n.cause = .degraded) : ∃ t, exec (.variantLoadDone false) s = .next t ∧ t.rck.next = none ∧
      PortFailed s t n.port 18 ∧ counted s t 0x53 := by
  have hrun := variantLoadDone_fails h0 hn hl
  have hw := ((PlkWork.refl s).report { source := 0x53, address := 0x280000 * n.slot }).fail hp 18
  rw [← hrun] at hw
  obtain ⟨t, ht, hd⟩ := exec_plk (i := .variantLoadDone false) (f := fun s => variantLoadDone s false) rfl h hw (fun k hk _ => by
    simp only [List.nil_append, List.mem_append, List.mem_singleton] at hk
    rcases hk with rfl | rfl <;> rfl)
  refine ⟨t, ht, ?_, PortDone.failed (C := [0x53]) hd, hd.counted 0x53 (by decide) (by decide) rfl⟩
  have hd' : dropSelection (report s { source := 0x53, address := 0x280000 * n.slot }) n.port = _ := dropSelection_own hn hc
  rw [next_of_calm hd.calm, hrun, next_portFail, hd']

/-! ### RCK_RESTORE -/

theorem Serving.low {op : Nat} {c : Cmd} (h : Serving s op c) (sh : List (Nat × Nat)) (ho : op < 0x0800) :
    runOp (enterFlight s (arriving s op c sh)) (arriving s op c sh) =
      runLow (enterFlight s (arriving s op c sh)) (arriving s op c sh) (bodyOf c) := by
  rw [h.on, if_pos (by omega)]

theorem runLow_restore {f : InFlight} (h : f.opcode = 0x0701) (pl : List Byte) : runLow s f pl = runRestore s f.id := by
  simp [runLow, h]

/-- A port of the image stands at half width. -/
def halfTrained (s : State) : Bool := (List.range 6).any (fun p =>
  portEnabled s p && (port s p).mode != .failed && (port s p).halfWidth)

theorem halfTrained_false (h : ∀ p, p < 6 → portEnabled s p = true → (port s p).mode = .failed ∨ (port s p).halfWidth = false) :
    halfTrained s = false := by
  simp only [halfTrained, List.any_eq_false, List.mem_range, Bool.and_eq_true, bne_iff_ne, not_and, Bool.not_eq_true]
  rintro p hp ⟨hen, hm⟩
  exact (h p hp hen).resolve_left hm

theorem halfTrained_true (hp : p < 6) (he : portEnabled s p = true) (hm : (port s p).mode ≠ .failed)
    (hh : (port s p).halfWidth = true) : halfTrained s = true :=
  List.any_eq_true.mpr ⟨p, List.mem_range.mpr hp, by simp [he, hm, hh]⟩

/-- What RCK_RESTORE does once its checks pass. -/
def restoring (s : State) (id : Nat) : State := { s with rck := { s.rck with
  next := some { variant := 0, slot := 0, port := 255, cause := .restore, loaded := true }
  restoreId := some id } }

theorem runRestore_eq (s : State) (id : Nat) : runRestore s id =
    if s.rck.variant = 0 ∨ halfTrained s = true then (s, .now .badState [])
    else if s.rck.next.isSome then (s, .now .busy [])
    else (restoring s id, .later) := rfl

end

/-- Settles O38: the end of a load by what loads, and the branches of RCK_RESTORE. -/
theorem variantsLoadAndRestore : Obligations.VariantsLoadAndRestore := by
  unfold Obligations.VariantsLoadAndRestore
  refine ⟨fun s n h h0 hn hl hm => ?loads, fun s n h h0 hn hl hp hm hh ht => ?wakes,
    fun s n h h0 hn hl hp hc => exec_variant_fails h h0 hn hl hp hc, fun s h h0 => ?nominal, fun s h h0 => ?nominalFails,
    fun s ok h h0 hn => exec_unit_same (i := .variantLoadDone ok) (f := fun s => variantLoadDone s ok) rfl h
      (variantLoadDone_none h0 hn ok),
    fun s c h hv hn hp => ?restores, fun s c h hv => ?refused, fun s c h hv hn hp => ?busy⟩
  case loads =>
    have hrun := variantLoadDone_ok h0 hn hl
    rw [if_neg (by rcases hm with hm | hm | hm <;> simp [wakes, hm])] at hrun
    exact exec_unit_quiet (i := .variantLoadDone true) (f := fun s => variantLoadDone s true) rfl h hrun h.toSteady.quiet
  case wakes =>
    have hrun := variantLoadDone_ok h0 hn hl
    rw [if_pos (by simp [wakes, hm, hh, ht]),
      sendUnpark_ready (.inr (variantReady_loaded (s := variantLoaded s n) (n := { n with loaded := true }) rfl rfl _))] at hrun
    have hup : noneUp s (variantLoaded s n) := fun _ hq => hq
    have hup' := (hup.trans (noneUp_modPort (p := n.port) (f := fun x => { x with
      unparking := true
      attempts := 1
      holdReady := false }) (fun _ => rfl))).trans (noneUp_modPort (p := n.port) (f := fun x => { x with sentAt := s.tsc }) (fun _ => rfl))
    refine ⟨_, exec_port_quiet (i := .variantLoadDone true) (f := fun s => variantLoadDone s true) rfl h hrun hup', rfl,
      List.mem_cons_self, ?_, ?_, fun q _ hq => ?_, rfl⟩
    · show (port (modPort (modPort (variantLoaded s n) n.port _) n.port _) n.port).unparking = true
      rw [port_modPort_same hp, port_modPort_same hp]
    · show (port (modPort (modPort (variantLoaded s n) n.port _) n.port _) n.port).holdReady = false
      rw [port_modPort_same hp, port_modPort_same hp]
    · exact (port_modPort_ne (s := modPort (variantLoaded s n) n.port _) hq _).trans (port_modPort_ne hq _)
  case nominal =>
    have hrun := variantLoadDone_nominal h0 true
    rw [schedLoaded, if_pos h0] at hrun
    exact exec_unit_quiet (i := .variantLoadDone true) (f := fun s => variantLoadDone s true) rfl h hrun h.toSteady.quiet
  case nominalFails =>
    have hrun := variantLoadDone_nominal h0 false
    rw [schedLoaded, if_pos h0] at hrun
    have ha : Adds [0x53] exactly { s with rck := { s.rck with loading0 := false } } (variantLoadDone s false) := by
      rw [hrun]
      exact report_adds _ { source := 0x53, address := 0 } (show 0x53 < 256 by decide) rfl rfl
    obtain ⟨t, ht, hl, -⟩ := exec_adds (i := .variantLoadDone false) (f := fun s => variantLoadDone s false) rfl h ha {}
    exact ⟨t, ht, hl.counted 0x53 (by decide) (by decide) not_false rfl,
      hl.calm (by simpa using show (sourceCfg s 0x53).2.1 = 0 from rfl)⟩
  case restores =>
    refine exec_begins (i := .rckRestore c) rfl h ((h.low [] (by decide)).trans ((runLow_restore rfl _).trans
      ((runRestore_eq _ _).trans ((if_neg ?_).trans (if_neg ?_))))) (.refl _)
    · rintro (hv0 | hhalf)
      · exact hv hv0
      · have : halfTrained (enterFlight s (arriving s 0x0701 c [])) = false := halfTrained_false hp
        rw [this] at hhalf
        cases hhalf
    · show ¬ s.rck.next.isSome = true
      rw [hn]
      decide
  case refused =>
    have hrun : runRestore (enterFlight s (arriving s 0x0701 c [])) s.hmi.nextId =
        (enterFlight s (arriving s 0x0701 c []), .now .badState []) :=
      (runRestore_eq _ _).trans (if_pos (hv.imp id (fun ⟨p, hp, he, hm, hh⟩ =>
        halfTrained_true (s := enterFlight s (arriving s 0x0701 c [])) hp he hm hh)))
    exact exec_replies (i := .rckRestore c) rfl h ((h.low [] (by decide)).trans ((runLow_restore rfl _).trans hrun))
  case busy =>
    have hhalf : halfTrained (enterFlight s (arriving s 0x0701 c [])) = false := halfTrained_false hp
    have hrun : runRestore (enterFlight s (arriving s 0x0701 c [])) s.hmi.nextId =
        (enterFlight s (arriving s 0x0701 c []), .now .busy []) :=
      (runRestore_eq _ _).trans ((if_neg (by
        rintro (h0 | h0)
        · exact hv h0
        · rw [hhalf] at h0; cases h0)).trans (if_pos hn))
    exact exec_replies (i := .rckRestore c) rfl h ((h.low [] (by decide)).trans ((runLow_restore rfl _).trans hrun))

end Sys2Proof.Machine
end


section
/-! A port comes up step by step (R301, R307–R310). -/

namespace Sys2Proof.Machine

section
variable {C : List Nat} {O : List Output} {s r : State} {P : Nat → Port} {p : Nat}

theorem noReaction_nil {s : State} : ∀ n ∈ ([] : List Nat), n < 256 → (sourceCfg s n).2.1 = 0 := by simp

/-- A port in a state that is neither DISABLED nor FAILED. -/
theorem port_up {m : PortMode} (h : (port s p).mode = m) (hu : m ≠ .disabled ∧ m ≠ .failed) :
    p < 6 ∧ (port s p).mode ≠ .disabled ∧ (port s p).mode ≠ .failed :=
  ⟨port_lt (by rw [h]; exact hu.1), by rw [h]; exact hu.1, by rw [h]; exact hu.2⟩

/-! ### SYNC to HELLO -/

theorem statusSync_works (hm : (port s p).mode = .sync) : PlkWork [] [.plkFrame p 0x01 [1, 2]] s
    (Function.update (port s) p { entered .hello (port s p).cause { port s p with attempts := 1 } with sentAt := s.tsc })
    (statusSync s p) := by
  have hp := (port_up hm (by decide)).1
  rw [statusSync, if_pos (by simp [hm])]
  exact (((PlkWork.refl s).mod hp (fun x => { x with attempts := 1 })).enter' hp .hello (port s p).cause).ask' hp 0x01 [1, 2]

/-! ### HELLO_ACK -/

/-- What an array tells of itself in HELLO_ACK. -/
structure Told where
  verMin : Nat
  verMax : Nat
  width : Nat
  height : Nat
  rows : Nat
  unpark : Nat
  settle : Nat
  vendor : Nat
  model : Nat
  serial : Nat

/-- HELLO_ACK with what the array tells. -/
def helloTold (s : State) (p : Nat) (a : Told) : State :=
  helloAck s p a.verMin a.verMax a.width a.height a.rows a.unpark a.settle a.vendor a.model a.serial

/-- The port has noted what its array told. -/
def withTold (a : Told) (x : Port) : Port :=
  { x with
    width := a.width
    height := a.height
    blockRows := a.rows
    unpark10us := a.unpark
    settleNs := a.settle
    vendor := a.vendor
    model := a.model
    serial := a.serial }

theorem helloTold_eq (a : Told) (hm : (port s p).mode = .hello) : helloTold s p a =
    if ¬ (a.verMin ≤ (linkCfg s p).nomVersion ∧ (linkCfg s p).nomVersion ≤ a.verMax) then portFail (modPort s p (withTold a)) p 3
    else if a.width ≠ (linkCfg s p).width ∨ a.height ≠ (linkCfg s p).height ∨ a.rows ≠ (linkCfg s p).blockRows then
      portFail (modPort s p (withTold a)) p 4
    else if (linkCfg s p).settleMaxNs < a.settle ∨ a.unpark < 1 ∨ 100 < a.unpark then portFail (modPort s p (withTold a)) p 5
    else enterTrain (modPort (modPort s p (withTold a)) p (fun x => { x with version := (linkCfg s p).nomVersion, trainTries := 0 })) p
      (port s p).cause := by
  rw [helloTold, helloAck, if_pos (by simp [hm])]
  rfl

theorem exec_hello_fails {i : Instr} {a : Told} {cause : Nat} (hi : exec i s = .next (portEvent s p (fun s => helloTold s p a)))
    (h : Live s) (hm : (port s p).mode = .hello) (hr : helloTold s p a = portFail (modPort s p (withTold a)) p cause) :
    ∃ t, exec i s = .next t ∧ PortFailed s t p cause := by
  obtain ⟨hp, hup⟩ := port_up hm (by decide)
  have hw := ((PlkWork.refl s).mod hp (withTold a)).fail hp cause
  rw [Function.update_idem, ← hr] at hw
  obtain ⟨t, ht, hd⟩ := exec_port hi h hup hw (by simp only [List.nil_append, List.mem_singleton, forall_eq]; exact fun _ => rfl)
  exact ⟨t, ht, PortDone.failed (C := []) hd⟩

theorem exec_hello_trains {i : Instr} {a : Told} (hi : exec i s = .next (portEvent s p (fun s => helloTold s p a)))
    (h : Live s) (hm : (port s p).mode = .hello)
    (hv : a.verMin ≤ (linkCfg s p).nomVersion ∧ (linkCfg s p).nomVersion ≤ a.verMax)
    (hs : ¬ (a.width ≠ (linkCfg s p).width ∨ a.height ≠ (linkCfg s p).height ∨ a.rows ≠ (linkCfg s p).blockRows))
    (ht : ¬ ((linkCfg s p).settleMaxNs < a.settle ∨ a.unpark < 1 ∨ 100 < a.unpark)) :
    ∃ t, exec i s = .next t ∧ (port t p).mode = .train ∧ (port t p).version = (linkCfg s p).nomVersion ∧
      (port t p).settleNs = a.settle ∧ (port t p).unpark10us = a.unpark ∧
      Output.plkFrame p 0x03 [(port t p).lanes, 0, (port s p).half] ∈ t.outs ∧ OnlyPort s t p := by
  obtain ⟨hp, hup⟩ := port_up hm (by decide)
  have hr := helloTold_eq a hm
  rw [if_neg (not_not.mpr hv), if_neg hs, if_neg ht] at hr
  have hw := ((((PlkWork.refl s).mod hp (withTold a)).mod' hp (fun x => { x with
    version := (linkCfg s p).nomVersion, trainTries := 0 })).train hp (port s p).cause)
  rw [Function.update_self, Function.update_idem, ← hr] at hw
  obtain ⟨t, he, hd⟩ := exec_port hi h hup hw noReaction_nil
  have hport := hd.port
  refine ⟨t, he, by rw [hport]; rfl, by rw [hport]; rfl, by rw [hport]; rfl, by rw [hport]; rfl, ?_, hd.only'⟩
  rw [hport]
  exact hd.outs _ List.mem_cons_self

/-! ### TRAIN_REPORT -/

theorem trainReport0_locked {lanes : List (Nat × Bool × Bool)}
    (hl : ∀ r, r < 16 → bitAt (laneMask (port s p)) r = true → lanes.getD r (0, false, false) = (r, true, false)) :
    ∃ m, trainReport0 s p lanes =
      sendTrain (enterPort (modPort (modPort s p (fun y => { y with locked := m })) p (fun y => { y with trainTries := 0 })) p
        .check (port s p).cause) p 1 := by
  unfold trainReport0
  extract_lets x w used lane lockedR normal reversed inv locked s1 rev invMask s2 failed
  have hw : w ≤ 16 := by simp only [w, fullLanes]; split <;> decide
  have hlane : ∀ r ∈ used, lane r = (r, true, false) := by
    intro r hr
    obtain ⟨hlt, hb⟩ := List.mem_filter.mp hr
    exact hl r (Nat.lt_of_lt_of_le (List.mem_range.mp hlt) hw) hb
  have hlock : ∀ r ∈ lockedR, lane r = (r, true, false) := fun r hr => hlane r (List.mem_filter.mp hr).1
  have hnormal : normal = true := List.all_eq_true.mpr (fun r hr => by rw [hlock r hr]; simp)
  have hinv : inv = [] := List.filter_eq_nil_iff.mpr (fun r hr => by rw [hlock r hr]; exact Bool.false_ne_true)
  have hrev : rev = false := by simp [rev, hnormal]
  have hfail : failed = 0 := by
    have hall : (List.range 16).map (fun r => used.contains r && !(lane r).2.1) = List.replicate 16 false := by
      refine List.eq_replicate_iff.mpr ⟨by simp, fun b hb => ?_⟩
      obtain ⟨r, -, rfl⟩ := List.mem_map.mp hb
      by_cases hu : r ∈ used
      · rw [hlane r hu]
        simp
      · simp [hu]
    simp only [failed, hall]
    decide
  refine ⟨locked, ?_⟩
  rw [if_neg (by simp [hnormal]), if_neg (by simp [hrev, hinv]), if_neg (by simp [hrev, hinv]), if_neg (not_not.mpr hfail)]

theorem exec_trained_lanes {i : Fin 6} {lanes : List (Nat × Bool × Bool)} {e : BitVec 32} (h : Live s)
    (hm : (port s i.val).mode = .train)
    (hl : ∀ r, r < 16 → bitAt (laneMask (port s i.val)) r = true → lanes.getD r (0, false, false) = (r, true, false)) :
    ∃ t, exec (.trainReport i lanes e) s = .next t ∧ (port t i.val).mode = .check ∧ (port t i.val).trainTries = 0 ∧
      Output.plkFrame i.val 0x03 [lanesInUse (port s i.val), 1, (port s i.val).half] ∈ t.outs ∧ OnlyPort s t i.val := by
  obtain ⟨hp, hup⟩ := port_up hm (by decide)
  obtain ⟨m, hr⟩ := trainReport0_locked hl
  have hr' : trainReport s i.val lanes e.toNat = trainReport0 s i.val lanes := by rw [trainReport, hm]
  have hw := ((((PlkWork.refl s).mod hp (fun y => { y with locked := m })).mod' hp (fun y => { y with trainTries := 0 })).enter' hp
    .check (port s i.val).cause).trainFrame hp 1
  rw [Function.update_self, Function.update_idem, ← hr, ← hr'] at hw
  obtain ⟨t, he, hd⟩ := exec_port (i := .trainReport i lanes e) (f := fun s => trainReport s i.val lanes e.toNat) rfl h hup hw
    noReaction_nil
  have hport := hd.port
  exact ⟨t, he, by rw [hport]; rfl, by rw [hport]; rfl, hd.outs _ List.mem_cons_self, hd.only'⟩

theorem exec_checked {i : Fin 6} {lanes : List (Nat × Bool × Bool)} (h : Live s) (hm : (port s i.val).mode = .check) :
    ∃ t, exec (.trainReport i lanes 0) s = .next t ∧ (port t i.val).mode = .mode ∧ (port t i.val).attempts = 1 ∧
      Output.plkFrame i.val 0x02 [(port s i.val).version, lanesInUse (port s i.val), (port s i.val).half] ∈ t.outs ∧
      OnlyPort s t i.val := by
  obtain ⟨hp, hup⟩ := port_up hm (by decide)
  have hw := (((PlkWork.refl s).mod hp (fun y => { y with attempts := 1 })).enter' hp .mode (port s i.val).cause).ask' hp 0x02
    (modeArgs (port s i.val))
  have hr : trainReport s i.val lanes 0 = sendAsking (enterPort (modPort s i.val (fun y => { y with attempts := 1 })) i.val .mode
      (port s i.val).cause) i.val 0x02 (modeArgs (port s i.val)) := by
    rw [trainReport, hm]
    show trainReport1 s i.val 0 = _
    unfold trainReport1
    extract_lets x
    exact if_pos rfl
  rw [← hr] at hw
  obtain ⟨t, he, hd⟩ := exec_port (i := .trainReport i lanes 0) (f := fun s => trainReport s i.val lanes 0) rfl h hup hw
    noReaction_nil
  have hport := hd.port
  exact ⟨t, he, by rw [hport]; rfl, by rw [hport]; rfl, hd.outs _ List.mem_cons_self, hd.only'⟩

/-! ### SET_MODE acknowledged, and READY -/

theorem plkAck_mode (hm : (port s p).mode = .mode) : plkAck s p 0x02 0 = sendUnpark (enterPort s p .parked (port s p).cause) p := by
  unfold plkAck
  extract_lets x
  rw [if_pos ⟨rfl, hm⟩, if_pos rfl]

theorem port_enterPort (hp : p < 6) (m : PortMode) (c : Nat) : port (enterPort s p m c) p = entered m c (port s p) :=
  (port_of_calm (calm_enterPort s p m c) p).trans (port_modPort_same hp _)

theorem variantReady_of_calm {a b : State} (h : calm a = calm b) (q : Nat) : variantReady a q = variantReady b q :=
  calm_eq (fun s => variantReady s q) h

theorem variantReady_enterPort (m : PortMode) (c q : Nat) : variantReady (enterPort s p m c) q = variantReady s q :=
  (variantReady_of_calm (calm_enterPort s p m c) q).trans rfl

theorem exec_accepted {i : Fin 6} (h : Live s) (hm : (port s i.val).mode = .mode)
    (hv : (port s i.val).halfWidth = false ∨ variantReady s i.val = true) :
    ∃ t, exec (.ack i 0x02 0) s = .next t ∧ (port t i.val).mode = .parked ∧ (port t i.val).unparking = true ∧
      (port t i.val).sentAt = s.tsc ∧ Output.plkFrame i.val 0x07 [] ∈ t.outs ∧ OnlyPort s t i.val := by
  obtain ⟨hp, hup⟩ := port_up hm (by decide)
  have hr := plkAck_mode hm
  rw [sendUnpark_ready (by rw [port_enterPort hp, variantReady_enterPort]; exact hv)] at hr
  have hw := (((PlkWork.refl s).enter hp .parked (port s i.val).cause).mod' hp (fun x => { x with
    unparking := true, attempts := 1, holdReady := false })).ask' hp 0x07 []
  rw [← hr] at hw
  obtain ⟨t, he, hd⟩ := exec_port (i := .ack i 0x02 0) (f := fun s => plkAck s i.val 0x02 0) rfl h hup hw noReaction_nil
  have hport := hd.port
  exact ⟨t, he, by rw [hport]; rfl, by rw [hport], by rw [hport], hd.outs _ List.mem_cons_self, hd.only'⟩

theorem exec_accepted_half {i : Fin 6} (h : Live s) (hm : (port s i.val).mode = .mode) (hh : (port s i.val).halfWidth = true)
    (hv : variantReady s i.val = false) :
    ∃ t, exec (.ack i 0x02 0) s = .next t ∧ (port t i.val).mode = .parked ∧ (port t i.val).holdReady = true ∧
      (port t i.val).unparking = (port s i.val).unparking ∧ OnlyPort s t i.val := by
  obtain ⟨hp, hup⟩ := port_up hm (by decide)
  have hr := plkAck_mode hm
  rw [sendUnpark_holds (by rw [port_enterPort hp]; exact hh) (by rw [variantReady_enterPort]; exact hv)] at hr
  have hw := ((PlkWork.refl s).enter hp .parked (port s i.val).cause).mod' hp (fun x => { x with holdReady := true })
  rw [← hr] at hw
  obtain ⟨t, he, hd⟩ := exec_port (i := .ack i 0x02 0) (f := fun s => plkAck s i.val 0x02 0) rfl h hup hw noReaction_nil
  have hport := hd.port
  exact ⟨t, he, by rw [hport]; rfl, by rw [hport], by rw [hport]; rfl, hd.only'⟩

/-- A port has taken READY. -/
def readied (x : Port) : Port :=
  entered .active (if x.cause = 13 ∨ x.cause = 19 then x.cause else 0)
    { x with
      unparking := false
      attempts := 0
      trainedOnce := true
      fullOnly := false
      failedHeld := false
      retrainId := none
      unparkId := none
      statusWait := false
      statusMiss := 0 }

theorem plkReady_works (hm : (port s p).mode = .parked) (hu : (port s p).unparking = true) :
    PlkWork [] [] s (Function.update (port s) p (readied (port s p))) (plkReady s p) := by
  have hp := (port_up hm (by decide)).1
  have hw := ((PlkWork.refl s).mod hp (fun y => { y with
    unparking := false, attempts := 0, trainedOnce := true, fullOnly := false, failedHeld := false, retrainId := none,
    unparkId := none, statusWait := false, statusMiss := 0 })).enter' hp .active
      (if (port s p).cause = 13 ∨ (port s p).cause = 19 then (port s p).cause else 0)
  unfold plkReady
  extract_lets x cause s1
  rw [if_pos ⟨hm, hu⟩]
  exact (hw.posts (completeOpt_adds _ x.retrainId .ok [])).posts (completeOpt_adds _ x.unparkId .ok [])

theorem portReady_works (hm : (port s p).mode = .parked) (hu : (port s p).unparking = true) :
    PlkWork [] [] s (Function.update (port s) p (readied (port s p))) (portReady s p) := by
  have hw := plkReady_works hm hu
  unfold portReady
  extract_lets s1
  split
  · exact hw.posts (post_adds _ _ _ _)
  · exact hw

end

/-- Settles O39: each step of the port machine, from the state that it stands in. -/
theorem portsComeUpStepByStep : Obligations.PortsComeUpStepByStep := by
  unfold Obligations.PortsComeUpStepByStep
  refine ⟨fun s p h hm => ?synchronised, fun s p h hm => ?unsynchronised,
    fun s p v1 v2 w hh rows up st ve mo sn l h hm hl h1 h2 hw hht hr hst hu1 hu2 => ?hello,
    fun s p v1 v2 w hh rows up st ve mo sn h hm hv => ?versions,
    fun s p v1 v2 w hh rows up st ve mo sn l h hm hl h1 h2 hs => ?sizes,
    fun s p v1 v2 w hh rows up st ve mo sn l h hm hl h1 h2 hw hht hr hs => ?times,
    fun s p lanes e h hm hl => exec_trained_lanes h hm hl, fun s p lanes h hm => exec_checked h hm,
    fun s p h hm hv => exec_accepted h hm hv, fun s p h hm hh hv => exec_accepted_half h hm hh hv,
    fun s p h hm hu => ?ready, fun s i p h hm hi => ?idle⟩
  case synchronised =>
    obtain ⟨-, hup⟩ := port_up hm (by decide)
    obtain ⟨t, he, hd⟩ := exec_port (i := .statusSync p) (f := fun s => statusSync s p.val) rfl h hup (statusSync_works hm) noReaction_nil
    have hport := hd.port
    exact ⟨t, he, by rw [hport]; rfl, by rw [hport]; rfl, hd.outs _ List.mem_cons_self, hd.only'⟩
  case unsynchronised =>
    exact exec_port_same (i := .statusSync p) (f := fun s => statusSync s p.val) rfl h (by rw [statusSync, if_neg (by simpa using hm)])
  case hello =>
    subst hl
    exact exec_hello_trains (i := .helloAck p v1 v2 w hh rows up st ve mo sn)
      (a := ⟨v1.toNat, v2.toNat, w.toNat, hh.toNat, rows.toNat, up.toNat, st.toNat, ve.toNat, mo.toNat, sn.toNat⟩) rfl h hm ⟨h1, h2⟩
      (by rintro (hn | hn | hn) <;> contradiction) (by dsimp only; omega)
  case versions =>
    refine exec_hello_fails (i := .helloAck p v1 v2 w hh rows up st ve mo sn)
      (a := ⟨v1.toNat, v2.toNat, w.toNat, hh.toNat, rows.toNat, up.toNat, st.toNat, ve.toNat, mo.toNat, sn.toNat⟩) rfl h hm ?_
    rw [helloTold_eq _ hm, if_pos (by dsimp only; omega)]
  case sizes =>
    subst hl
    refine exec_hello_fails (i := .helloAck p v1 v2 w hh rows up st ve mo sn)
      (a := ⟨v1.toNat, v2.toNat, w.toNat, hh.toNat, rows.toNat, up.toNat, st.toNat, ve.toNat, mo.toNat, sn.toNat⟩) rfl h hm ?_
    rw [helloTold_eq _ hm, if_neg (not_not.mpr ⟨h1, h2⟩), if_pos hs]
  case times =>
    subst hl
    refine exec_hello_fails (i := .helloAck p v1 v2 w hh rows up st ve mo sn)
      (a := ⟨v1.toNat, v2.toNat, w.toNat, hh.toNat, rows.toNat, up.toNat, st.toNat, ve.toNat, mo.toNat, sn.toNat⟩) rfl h hm ?_
    rw [helloTold_eq _ hm, if_neg (not_not.mpr ⟨h1, h2⟩), if_neg (by rintro (hn | hn | hn) <;> contradiction), if_pos hs]
  case ready =>
    obtain ⟨-, hup⟩ := port_up hm (by decide)
    obtain ⟨t, he, hd⟩ := exec_port (i := .ready p) (f := fun s => portReady s p.val) rfl h hup (portReady_works hm hu) noReaction_nil
    have hport := hd.port
    exact ⟨t, he, by rw [hport]; rfl, by rw [hport]; rfl, by rw [hport]; rfl, by rw [hport]; rfl, by rw [hport]; rfl,
      by rw [hport]; rfl, hd.only'⟩
  case idle =>
    rcases hi with hi | ⟨o, r, rfl⟩ | ⟨l, e, rfl⟩ | ⟨l, rfl⟩ | ⟨b, r, rfl⟩ | ⟨o, rfl⟩ | ⟨a, f, r, e, rfl⟩
    · simp only [List.mem_cons, List.not_mem_nil, or_false] at hi
      rcases hi with rfl | rfl | rfl | rfl | rfl | rfl | rfl | rfl <;> exact exec_port_idle rfl h hm
    all_goals exact exec_port_idle rfl h hm

end Sys2Proof.Machine
end


section
/-! A port's limits: it fails, is parked, or sends again (R283, R302, R307, R312, R313). -/

namespace Sys2Proof.Machine

section
variable {C : List Nat} {O : List Output} {s r : State} {P : Nat → Port} {p : Nat}

/-! ### Sources that the image may give a reaction -/

/-- The end of an event on a port whose sources may react. -/
structure PortNoisy (C : List Nat) (O : List Output) (s : State) (P : Nat → Port) (t : State) : Prop where
  kept : ∀ q, PortKept (P q) (port t q)
  outs : ∀ o ∈ O, o ∈ t.outs
  pins : PinsDown s t
  counted : ∀ src, src < 256 → src ≠ 0x12 → C.count src = 1 → Machine.counted s t src
  tallies : ∀ off, 256 ≤ off → unitTally off = true → ¬ retrains off → tally t off = min (tally s off + C.count off) tallyMax
  marks : ∀ src, src ∈ C → src < 256 → src ≠ 0x12 → (sourceCfg s src).1 = 2 → (srcAt t src).mode = .fatal
  unlit : ∀ src, src ∈ C → src < 256 → src ≠ 0x12 → bitAt (sourceCfg s src).2.1 0 = true → Unlit t.pins

theorem OnlyPlk.pins {s b t : State} (h : OnlyPlk s b) (ht : PinsDown b t) : PinsDown s t := by
  obtain ⟨k, bl, n, o, rfl⟩ := h
  exact ht.of_pins

theorem exec_port_noisy {i : Instr} {f : State → State} (hi : exec i s = .next (portEvent s p f)) (h : Live s)
    (hm : (port s p).mode ≠ .disabled ∧ (port s p).mode ≠ .failed) (hw : PlkWork C O s P (f s)) :
    ∃ t, exec i s = .next t ∧ PortNoisy C O s P t := by
  rw [portEvent_up hm.1 hm.2] at hi
  obtain ⟨b, hb, ho, ha⟩ := hw.base
  obtain ⟨t, ht, hl, -⟩ := exec_adds hi h ha hb.begun
  refine ⟨t, ht, fun q => ?_, fun o hm => hl.outs o (ho o hm), hb.pins hl.pins,
    fun src hlt h12 => hl.counted src hlt h12 (not_retrains hlt), hl.tallies,
    fun src hm hlt h12 hc => (hl.marks src hm hlt h12 (not_retrains hlt) (by rw [hc]; decide)).2 hc,
    fun src hm hlt h12 h0 => exec_adds_unlit hi h ha hb.begun ht hm hlt h12 (not_retrains hlt) h0⟩
  have := portsKept_stable.exec hi h ha hb.begun ht q
  rwa [hw.ports] at this

theorem portBase_apart {p k j : Nat} (h : k ≠ j) (hk : k < 0x10000) (hj : j < 0x10000) (q : Nat) : portBase p + k ≠ portBase q + j := by
  simp only [portBase]
  omega

theorem not_retrains_tally {k : Nat} (h : k ≠ 0x44) (hk : k < 0x10000) : ¬ retrains (portBase p + k) := by
  rintro ⟨q, hq⟩
  exact portBase_apart h hk (by decide) q hq

theorem PlkWork.bump (h : PlkWork C O s P r) (p k : Nat) : PlkWork (C ++ [portBase p + k]) O s P (bump r (portBase p + k)) :=
  h.adds (bump_adds r (unitTally_port p k) (portBase_big p k))

theorem frameError_works (h : PlkWork C O s P r) (p : Nat) : PlkWork (C ++ [portBase p + 0x3C] ++ [0x63]) O s P (frameError r p) :=
  (h.bump p 0x3C).report { source := 0x63, master := p }

/-! ### Failing -/

theorem exec_port_fails {i : Instr} {f : State → State} {cause : Nat} {x : Port} (hi : exec i s = .next (portEvent s p f)) (h : Live s)
    (hp : p < 6) (hm : (port s p).mode ≠ .disabled ∧ (port s p).mode ≠ .failed)
    (hw : PlkWork C O s (Function.update (port s) p x) r) (hr : f s = portFail r p cause)
    (hc : ∀ n ∈ C, n < 256 → (sourceCfg s n).2.1 = 0) : ∃ t, exec i s = .next t ∧ PortFailed s t p cause ∧
      (∀ src, src < 256 → src ≠ 0x12 → (C ++ [0x61]).count src = 1 → counted s t src) ∧ (port t p) = failedPort cause x := by
  have hf := hw.fail hp cause
  rw [Function.update_self, Function.update_idem, ← hr] at hf
  obtain ⟨t, ht, hd⟩ := exec_port hi h hm hf (fun n hn hlt => by
    rcases List.mem_append.mp hn with hn | hn
    · exact hc n hn hlt
    · rw [List.mem_singleton.mp hn]
      rfl)
  exact ⟨t, ht, hd.failed, hd.counted, hd.port⟩

theorem exec_port_fails_now {i : Instr} {f : State → State} {cause : Nat} (hi : exec i s = .next (portEvent s p f)) (h : Live s)
    (hm : (port s p).mode ≠ .disabled ∧ (port s p).mode ≠ .failed) (hr : f s = portFail s p cause) :
    ∃ t, exec i s = .next t ∧ PortFailed s t p cause := by
  have hw : PlkWork [] [] s (Function.update (port s) p (port s p)) s := by
    rw [Function.update_eq_self]
    exact .refl s
  obtain ⟨t, ht, hf, -⟩ := exec_port_fails hi h (port_lt hm.1) hm hw hr noReaction_nil
  exact ⟨t, ht, hf⟩

theorem statusLost_eq (hm : (port s p).mode = .active ∨ (port s p).mode = .parked) :
    statusLost s p = portFail (report s { source := 0x64, master := p }) p 14 := by
  unfold statusLost
  extract_lets m
  exact if_pos hm

theorem exec_statusLost {i : Instr} {f : State → State} {x : Port} (hi : exec i s = .next (portEvent s p f)) (h : Live s)
    (hm : (port s p).mode ≠ .disabled ∧ (port s p).mode ≠ .failed) (hw : PlkWork [] O s (Function.update (port s) p x) r)
    (hx : x.mode = .active ∨ x.mode = .parked) (hr : f s = statusLost r p) :
    ∃ t, exec i s = .next t ∧ PortFailed s t p 14 ∧ counted s t 0x64 := by
  rw [statusLost_eq (by rw [hw.ports, Function.update_self]; exact hx)] at hr
  obtain ⟨t, ht, hf, hc, -⟩ := exec_port_fails hi h (port_lt hm.1) hm (hw.report { source := 0x64, master := p }) hr (by
    simp only [List.nil_append, List.mem_singleton, forall_eq]
    exact fun _ => rfl)
  exact ⟨t, ht, hf, hc 0x64 (by decide) (by decide) rfl⟩

/-! ### Sending again -/

/-- A frame has been sent again. -/
def resent (t : Nat) (x : Port) : Port := { x with attempts := x.attempts + 1, sentAt := t }

theorem resend_again (op : Nat) (args : List Nat) (cause : Nat) (ha : (port s p).attempts < 4) : resend s p op args cause =
    { s with
      plk := vmod s.plk p (resent s.tsc)
      outs := .plkFrame p op args :: s.outs } := by
  rw [resend, if_pos ha]
  exact congrArg (fun v => { s with
    plk := v
    outs := .plkFrame p op args :: s.outs }) (vmod_vmod s.plk p (fun x => { x with attempts := x.attempts + 1 }) (fun x => { x with
      sentAt := s.tsc }))

theorem resend_fails (op : Nat) (args : List Nat) (cause : Nat) (ha : 4 ≤ (port s p).attempts) :
    resend s p op args cause = portFail s p cause := by rw [resend, if_neg (by omega)]

theorem PlkWork.resend (h : PlkWork C O s P r) (hp : p < 6) (op : Nat) (args : List Nat) (cause : Nat) (ha : (P p).attempts < 4) :
    PlkWork C (.plkFrame p op args :: O) s (Function.update P p (resent s.tsc (P p))) (resend r p op args cause) := by
  rw [Machine.resend, if_pos (by rw [h.ports]; exact ha)]
  exact (h.mod hp (fun x => { x with attempts := x.attempts + 1 })).ask' hp op args

theorem exec_resends {i : Instr} {f : State → State} {op cause : Nat} {args : List Nat} (hi : exec i s = .next (portEvent s p f))
    (h : Live s) (hm : (port s p).mode ≠ .disabled ∧ (port s p).mode ≠ .failed) (hf : f s = resend s p op args cause)
    (ha : (port s p).attempts < 4) : exec i s = .next { s with
      plk := vmod s.plk p (fun x => { x with attempts := x.attempts + 1, sentAt := s.tsc })
      outs := .plkFrame p op args :: s.outs } := by
  rw [portEvent_up hm.1 hm.2] at hi
  rw [resend_again op args cause ha] at hf
  have hup : noneUp s (modPort s p (resent s.tsc)) := noneUp_modPort (fun _ => rfl)
  exact exec_port_quiet hi h hf hup

theorem replyTimeout_eq (hs : (port s p).mode = .hello ∨ (port s p).mode = .mode) (hd : (port s p).sentAt + 2500 ≤ s.tsc) :
    replyTimeout s p = if (port s p).mode = .hello then resend s p 0x01 [1, 2] 2 else resend s p 0x02 (modeArgs (port s p)) 9 := by
  have hdue : replyDue s p = true := by
    rcases hs with hs | hs
    · simp [replyDue, replyLimit, hs, hd]
    · simp [replyDue, replyLimit, hs, hd]
  unfold replyTimeout
  extract_lets x
  rcases hs with hs | hs
  · simp [x, hs, hdue]
  · simp [x, hs, hdue]

theorem replyTimeout_waits (ht : s.tsc < (port s p).sentAt + replyLimit (port s p))
    (hs : (port s p).statusWait = false ∨ s.tsc < (port s p).statusAt + 1250) : replyTimeout s p = s := by
  have h1 : statusDue s p = false := by
    rcases hs with hs | hs
    · simp [statusDue, hs]
    · simp [statusDue, hs]
  have h2 : replyDue s p = false := decide_eq_false (by omega)
  unfold replyTimeout
  extract_lets x
  rw [h1, h2, Bool.and_false]
  rfl

theorem replyTimeout_missed (hm : (port s p).mode = .active) (hw : (port s p).statusWait = true)
    (ht : (port s p).statusAt + 1250 ≤ s.tsc) (h2 : 2 ≤ (port s p).statusMiss) : replyTimeout s p =
      statusLost (completeOpt (modPort s p (fun y => { y with
        statusWait := false, statusMiss := y.statusMiss + 1, statusId := none })) (port s p).statusId .timeout []) p := by
  have hdue : statusDue s p = true := by simp [statusDue, hw, ht]
  unfold replyTimeout
  extract_lets x
  rw [if_pos (by simp [x, hm, hdue])]
  unfold statusMissed
  extract_lets s1
  rw [if_pos (by simp only [x]; omega)]

/-! ### A lost lane -/

/-- A lane in use has been lost. -/
def laneGone (lane : Nat) (x : Port) : Port := { x with laneLost := x.laneLost ||| 2 ^ lane }

theorem laneGone_works (hp : p < 6) (lane : Nat) : PlkWork [0x60] [] s (Function.update (port s) p (laneGone lane (port s p)))
    (report (modPort s p (laneGone lane)) { source := 0x60, master := p, address := lane }) :=
  ((PlkWork.refl s).mod hp (laneGone lane)).report { source := 0x60, master := p, address := lane }

/-- The port goes on at half width after its park. -/
def halved (lane : Nat) (x : Port) (y : Port) : Port :=
  { y with
    thenTrain := true
    halfWidth := true
    half := if lane < fullLanes x.version / 2 then 1 else 0
    excluded := some (lane / (fullLanes x.version / 2))
    trainTries := 0
    corrected := false
    holdReady := true }

theorem laneLost_active {lane : Nat} (hm : (port s p).mode = .active) (hb : bitAt (laneMask (port s p)) lane = true) :
    laneLost s p lane =
      if (port s p).halfWidth || !halfPermitted s p then
        portFail (report (modPort s p (laneGone lane)) { source := 0x60, master := p, address := lane }) p 12
      else modPort (parkPort (selectDegraded (report (modPort s p (laneGone lane)) { source := 0x60, master := p, address := lane }) p) p
        (parkStyle s p) 13) p (halved lane (port s p)) := by
  unfold laneLost
  extract_lets x s1 n s2 s3
  have hx : x.mode = .active := hm
  rw [if_neg (by simp [x, hb])]
  split
  · rfl
  · rfl
  · rename_i hm'
    rw [hx] at hm'
    cases hm'
  · rename_i hm'
    rw [hx] at hm'
    cases hm'
  · rename_i h1 _ _ _
    exact absurd hx h1

theorem laneLost_train {lane : Nat} (hp : p < 6) (hm : (port s p).mode = .train) (hb : bitAt (laneMask (port s p)) lane = true)
    (ht : (port s p).trainTries = 0) : laneLost s p lane =
      sendTrain (modPort (report (modPort s p (laneGone lane)) { source := 0x60, master := p, address := lane }) p (fun y => { y with
        trainTries := y.trainTries + 1 })) p 0 := by
  have htries : (port (report (modPort s p (laneGone lane)) { source := 0x60, master := p, address := lane }) p).trainTries = 0 := by
    show (port (modPort s p (laneGone lane)) p).trainTries = 0
    rw [port_modPort_same hp]
    exact ht
  unfold laneLost
  extract_lets x s1 n s2 s3
  rw [if_neg (by simp [x, hb])]
  simp only [x, hm]
  unfold trainFail
  extract_lets y
  exact if_pos (by
    show (port (report (modPort s p (laneGone lane)) { source := 0x60, master := p, address := lane }) p).trainTries + 1 < 2
    omega)

theorem modPort_out (h : ¬ p < 6) (f : Port → Port) : modPort s p f = s := by
  rw [modPort, vmod, dif_neg h]

/-- A port that does not exist changes nothing but what is sent and reported of it. -/
theorem PlkWork.fail_out (h : PlkWork C O s P r) (hp : ¬ p < 6) (cause : Nat) :
    PlkWork (C ++ [0x61]) (.plkFrame p 0x06 [Machine.parkStyle r p] :: O) s P (portFail r p cause) := by
  have enter {C O P r} (h : PlkWork C O s P r) (m c) : PlkWork C O s P (enterPort r p m c) := by
    unfold enterPort
    extract_lets prev s1
    have h1 : s1 = r := modPort_out hp _
    rw [h1]
    exact h.posts (.ite _ (.refl _ _) (postPortState_adds _ _ _))
  have h1 := ((h.drop p).send p 0x06 [Machine.parkStyle r p]).blocksOff p
  unfold portFail
  extract_lets x s1 s2 s3
  have h2 : PlkWork C (.plkFrame p 0x06 [Machine.parkStyle r p] :: O) s P s2 := by
    simp only [s2]
    rw [modPort_out hp]
    exact enter h1 _ _
  have h3 := h2.report { source := 0x61, master := p, address := cause }
  exact (((h3.posts (completeOpt_adds _ x.retrainId .checkFail (causeByte cause))).posts
    (completeOpt_adds _ x.parkId .timeout (causeByte cause))).posts
    (completeOpt_adds _ x.unparkId .checkFail (causeByte cause))).posts (completeOpt_adds _ x.statusId .timeout [])

/-- The selection for a port. -/
def selection (s : State) (p : Nat) : VarSel :=
  { variant := (linkCfg s p).degradedVariant
    slot := freeStoreSlot s
    port := p
    cause := .degraded
    loaded := false
    at_ := s.tsc }

/-- The state with the port's selection waiting. -/
def selected (s a : State) (p : Nat) : State := modWaiting a (·.blocks) (fun _ => some (selection s p))

theorem selectDegraded_eq (s : State) (p : Nat) : selectDegraded s p =
    if s.rck.variant = 0 then
      selected s ((supplanted s p).elim s (fun n => portFail s n.port (if (port s n.port).cause = 13 then 12 else 11))) p
    else s := by
  unfold selectDegraded
  split
  · cases supplanted s p <;> rfl
  · rfl

/-- The cause of a port whose selection another takes (R283). -/
def supplantedCause (x : Port) : Nat := if x.cause = 13 then 12 else 11

/-- The ports after a selection, with what it reports and sends. -/
theorem PlkWork.select (h : PlkWork C O s P r) (p : Nat) : ∃ K O' Q, PlkWork (C ++ K) (O' ++ O) s Q (selectDegraded r p) ∧
    (K = [] ∨ K = [0x61]) ∧ (supplanted r p = none → Q = P) ∧
    (∀ n, supplanted r p = some n → n.port < 6 → r.rck.variant = 0 →
      Q = Function.update P n.port (failedPort (supplantedCause (P n.port)) (P n.port))) ∧
    (∀ q, q ≤ p → Q q = P q) := by
  rw [selectDegraded_eq]
  have keep {x : State} (he : x = r) : PlkWork (C ++ []) ([] ++ O) s P x := by
    rw [List.append_nil, he]
    exact h
  split
  · cases hs : supplanted r p with
    | none => exact ⟨[], [], P, (keep rfl).rck _ _, .inl rfl, fun _ => rfl, fun n hn => (by cases hn), fun _ _ => rfl⟩
    | some n =>
      have hlt : p < n.port := by
        have := (Option.filter_eq_some_iff.mp hs).2
        simp only [Bool.and_eq_true, decide_eq_true_eq] at this
        exact this.2
      by_cases hn : n.port < 6
      · have hw := h.fail hn (if (port r n.port).cause = 13 then 12 else 11)
        refine ⟨[0x61], [_], _, hw.rck _ _, .inr rfl, fun hn => (by cases hn), fun m hm _ _ => ?_, fun q hq => ?_⟩
        · cases hm
          rw [h.ports]
          rfl
        · exact Function.update_of_ne (by omega) _ _
      · refine ⟨[0x61], [_], P, (h.fail_out hn _).rck _ _, .inr rfl, fun _ => rfl, fun m hm hm6 => ?_, fun _ _ => rfl⟩
        cases hm
        exact absurd hm6 hn
  · rename_i hv
    exact ⟨[], [], P, keep rfl, .inl rfl, fun _ => rfl, fun n _ _ h0 => absurd h0 hv, fun _ _ => rfl⟩

end
end Sys2Proof.Machine
end


section
/-! The limits of a port, settled (R283, R302, R307, R312, R313). -/

namespace Sys2Proof.Machine

section
variable {s : State} {p : Fin 6}

theorem noReaction_lane : ∀ n ∈ [0x60], n < 256 → (sourceCfg s n).2.1 = 0 := by
  simp only [List.mem_singleton, forall_eq]
  exact fun _ => rfl

theorem exec_syncLate (h : Live s) (hm : (port s p.val).mode = .sync) (ht : (port s p.val).sentAt + 1250000 ≤ s.tsc) :
    ∃ t, exec (.syncTimeout p) s = .next t ∧ PortFailed s t p.val 1 := by
  have hdue : replyDue s p = true := decide_eq_true (by simpa [replyLimit, hm] using ht)
  exact exec_port_fails_now (i := .syncTimeout p) (f := fun s => syncLate s p.val) rfl h (port_up hm (by decide)).2
    (by rw [syncLate, if_pos (by simp [hm, hdue])])

theorem exec_reply_fails {cause : Nat} (h : Live s) (hm : (port s p.val).mode = .hello ∨ (port s p.val).mode = .mode)
    (hr : replyTimeout s p.val = portFail s p.val cause) :
    ∃ t, exec (.replyTimeout p) s = .next t ∧ PortFailed s t p.val cause := by
  have hup : (port s p.val).mode ≠ .disabled ∧ (port s p.val).mode ≠ .failed :=
    hm.elim (fun h => (port_up h (by decide)).2) (fun h => (port_up h (by decide)).2)
  exact exec_port_fails_now (i := .replyTimeout p) (f := fun s => replyTimeout s p.val) rfl h hup hr

theorem exec_missed (h : Live s) (hm : (port s p.val).mode = .active) (hw : (port s p.val).statusWait = true)
    (ht : (port s p.val).statusAt + 1250 ≤ s.tsc) (h2 : 2 ≤ (port s p.val).statusMiss) :
    ∃ t, exec (.replyTimeout p) s = .next t ∧ PortFailed s t p.val 14 ∧ counted s t 0x64 := by
  obtain ⟨hp, hup⟩ := port_up hm (by decide)
  have hwork := ((PlkWork.refl s).mod hp (fun y => { y with
    statusWait := false, statusMiss := y.statusMiss + 1, statusId := none })).posts
    (completeOpt_adds _ (port s p.val).statusId .timeout [])
  exact exec_statusLost (i := .replyTimeout p) (f := fun s => replyTimeout s p.val) rfl h hup hwork (.inl hm)
    (replyTimeout_missed hm hw ht h2)

theorem exec_lane_fails {l : Fin 16} (h : Live s) (hm : (port s p.val).mode = .active)
    (hb : bitAt (laneMask (port s p.val)) l.val = true) (hh : (port s p.val).halfWidth = true ∨ halfPermitted s p.val = false) :
    ∃ t, exec (.laneLost p l) s = .next t ∧ PortFailed s t p.val 12 ∧ counted s t 0x60 ∧
      (port t p.val).laneLost = (port s p.val).laneLost ||| 2 ^ l.val := by
  obtain ⟨hp, hup⟩ := port_up hm (by decide)
  have hr := laneLost_active hm hb
  rw [if_pos (by rcases hh with hh | hh <;> simp [hh])] at hr
  obtain ⟨t, ht, hf, hc, hport⟩ := exec_port_fails (i := .laneLost p l) (f := fun s => laneLost s p.val l.val) rfl h hp hup
    (laneGone_works hp l.val) hr noReaction_lane
  exact ⟨t, ht, hf, hc 0x60 (by decide) (by decide) rfl, by rw [hport]; rfl⟩

theorem exec_lane_halves {l : Fin 16} (h : Live s) (hm : (port s p.val).mode = .active)
    (hb : bitAt (laneMask (port s p.val)) l.val = true) (hh : (port s p.val).halfWidth = false)
    (hperm : halfPermitted s p.val = true) :
    ∃ t, exec (.laneLost p l) s = .next t ∧ (port t p.val).mode = .parked ∧ (port t p.val).cause = 13 ∧
      (port t p.val).thenTrain = true ∧ (port t p.val).halfWidth = true ∧ (port t p.val).parkAt = some s.tsc ∧
      (port t p.val).half = (if l.val < fullLanes (port s p.val).version / 2 then 1 else 0) ∧
      (port t p.val).laneLost = (port s p.val).laneLost ||| 2 ^ l.val ∧
      counted s t 0x60 ∧ Output.plkFrame p.val 0x06 [parkStyle s p.val] ∈ t.outs ∧
      (s.rck.variant = 0 → t.rck.next = some (selection s p.val)) ∧
      (supplanted s p.val = none → OnlyPort s t p.val) ∧
      (∀ n, supplanted s p.val = some n → n.port < 6 → s.rck.variant = 0 → (port t n.port).mode = .failed ∧
        (port t n.port).cause = supplantedCause (port s n.port)) := by
  obtain ⟨hp, hup⟩ := port_up hm (by decide)
  have hr := laneLost_active hm hb
  rw [if_neg (by simp [hh, hperm])] at hr
  obtain ⟨K, O', Q, hw, hK, hnone, hsome, hown⟩ := (laneGone_works (s := s) hp l.val).select p.val
  have hw2 := (hw.park hp (parkStyle s p.val) 13).mod' hp (halved l.val (port s p.val))
  rw [hown p.val (Nat.le_refl _), Function.update_self, ← hr] at hw2
  obtain ⟨t, ht, hd⟩ := exec_port (i := .laneLost p l) (f := fun s => laneLost s p.val l.val) rfl h hup hw2 (fun n hn _ => by
    rcases hK with rfl | rfl
    · simp only [List.append_nil, List.mem_singleton] at hn
      rw [hn]
      rfl
    · simp only [List.cons_append, List.nil_append, List.mem_cons, List.not_mem_nil, or_false] at hn
      rcases hn with rfl | rfl <;> rfl)
  have hport := hd.port
  have hcount : ([0x60] ++ K).count 0x60 = 1 := by rcases hK with rfl | rfl <;> rfl
  refine ⟨t, ht, congrArg (·.mode) hport, congrArg (·.cause) hport, congrArg (·.thenTrain) hport, congrArg (·.halfWidth) hport,
    congrArg (·.parkAt) hport, congrArg (·.half) hport, congrArg (·.laneLost) hport,
    hd.counted 0x60 (by decide) (by decide) hcount, hd.outs _ List.mem_cons_self, fun hv => ?_, fun hs => ?_, fun n hs hn hv => ?_⟩
  · have hsel := selectDegraded_eq (report (modPort s p.val (laneGone l.val)) { source := 0x60, master := p.val, address := l.val }) p.val
    rw [if_pos (show (report (modPort s p.val (laneGone l.val)) _).rck.variant = 0 from hv)] at hsel
    have hnext : (laneLost s p.val l.val).rck.next = some (selection s p.val) := by
      rw [hr]
      refine (next_parkPort _ _ _ _).trans ?_
      rw [hsel]
      rfl
    exact (next_of_calm hd.calm).trans hnext
  · have hQ := hnone hs
    subst hQ
    refine hd.only p.val (fun q _ hne => ?_)
    rw [Function.update_of_ne hne, Function.update_of_ne hne]
  · have hlt : p.val < n.port := by
      have := (Option.filter_eq_some_iff.mp hs).2
      simp only [Bool.and_eq_true, decide_eq_true_eq] at this
      exact this.2
    have hx : port t n.port = failedPort (supplantedCause (port s n.port)) (port s n.port) := by
      rw [hd.ports, Function.update_of_ne (by omega), hsome n hs hn hv, Function.update_self, Function.update_of_ne (by omega)]
    rw [hx]
    exact ⟨rfl, rfl⟩

theorem exec_lane_retrains {l : Fin 16} (h : Live s) (hm : (port s p.val).mode = .train)
    (hb : bitAt (laneMask (port s p.val)) l.val = true) (htr : (port s p.val).trainTries = 0) :
    ∃ t, exec (.laneLost p l) s = .next t ∧ (port t p.val).mode = .train ∧ (port t p.val).trainTries = 1 ∧
      Output.plkFrame p.val 0x03 [lanesInUse (port s p.val), 0, (port s p.val).half] ∈ t.outs ∧ counted s t 0x60 ∧
      OnlyPort s t p.val := by
  obtain ⟨hp, hup⟩ := port_up hm (by decide)
  have hw := ((laneGone_works (s := s) hp l.val).mod' hp (fun y => { y with trainTries := y.trainTries + 1 })).trainFrame hp 0
  rw [Function.update_self, Function.update_idem, ← laneLost_train hp hm hb htr] at hw
  obtain ⟨t, ht, hd⟩ := exec_port (i := .laneLost p l) (f := fun s => laneLost s p.val l.val) rfl h hup hw noReaction_lane
  have hport := hd.port
  refine ⟨t, ht, (congrArg (·.mode) hport).trans hm, (congrArg (·.trainTries) hport).trans ?_, hd.outs _ List.mem_cons_self,
    hd.counted 0x60 (by decide) (by decide) rfl, hd.only'⟩
  show (port s p.val).trainTries + 1 = 1
  rw [htr]

theorem exec_parkLate {a : Nat} (h : Live s) (hup : (port s p.val).mode ≠ .disabled ∧ (port s p.val).mode ≠ .failed)
    (ha : (port s p.val).parkAt = some a) (ht : a + 2500 ≤ s.tsc) :
    ∃ t, exec (.parkLate p) s = .next t ∧ (port t p.val).mode = .failed ∧ (port t p.val).cause = 20 ∧ PinsDown s t ∧
      t.pins.laserEn = 0 ∧ t.pins.hlEn = false ∧ (srcAt t 0x66).mode = .fatal ∧ counted s t 0x66 ∧ counted s t 0x61 := by
  have hw := ((PlkWork.refl s).report { source := 0x66, master := p.val }).fail p.isLt 20
  have hr : parkLate s p.val = portFail (report s { source := 0x66, master := p.val }) p.val 20 := by
    rw [parkLate, ha]
    exact if_pos ht
  rw [← hr] at hw
  obtain ⟨t, he, hd⟩ := exec_port_noisy (i := .parkLate p) (f := fun s => parkLate s p.val) rfl h hup hw
  have hk := hd.kept p.val
  rw [Function.update_self] at hk
  have hport := hk.failed rfl
  obtain ⟨hl, hhl⟩ := hd.unlit 0x66 (by simp) (by decide) (by decide) (by rw [sourceCfg_fixed (e := (0x66, 2, 1)) rfl]; rfl)
  exact ⟨t, he, congrArg (·.mode) hport, congrArg (·.cause) hport, hd.pins, hl, hhl,
    hd.marks 0x66 (by simp) (by decide) (by decide) rfl, hd.counted 0x66 (by decide) (by decide) rfl,
    hd.counted 0x61 (by decide) (by decide) rfl⟩

/-- The count of a source after a port's tally. -/
theorem count_port_source {q k src : Nat} (h : src < 256) : ([] ++ [portBase q + k] ++ [src]).count src = 1 := by
  have := portBase_big q k
  rw [List.nil_append, List.singleton_append, List.count_cons_of_ne (by omega), List.count_singleton_self]

/-- The count of a port's tally after a source. -/
theorem count_port_tally {q k src : Nat} (h : src < 256) : ([] ++ [portBase q + k] ++ [src]).count (portBase q + k) = 1 := by
  have := portBase_big q k
  rw [List.nil_append, List.singleton_append, List.count_cons_self, List.count_cons_of_ne (by omega)]
  rfl

theorem PortNoisy.noted {O : List Output} {P : Nat → Port} {t : State} {src k : Nat}
    (hd : PortNoisy ([] ++ [portBase p + k] ++ [src]) O s P t) (hs : src < 256) (h12 : src ≠ 0x12) (hk : k < 0x10000) (h44 : k ≠ 0x44) :
    Machine.counted s t src ∧ tally t (portBase p + k) = min (tally s (portBase p + k) + 1) tallyMax := by
  refine ⟨hd.counted src hs h12 (count_port_source hs), ?_⟩
  have := hd.tallies (portBase p + k) (portBase_big _ _) (unitTally_port _ _) (not_retrains_tally h44 hk)
  rwa [count_port_tally hs] at this

theorem exec_frameError {i : Instr} {f : State → State} (hi : exec i s = .next (portEvent s p f)) (h : Live s)
    (hup : (port s p.val).mode ≠ .disabled ∧ (port s p.val).mode ≠ .failed) (hf : f s = frameError s p) :
    ∃ t, exec i s = .next t ∧ counted s t 0x63 ∧
      tally t (portBase p.val + 0x3C) = min (tally s (portBase p.val + 0x3C) + 1) tallyMax ∧ PinsDown s t := by
  have hw := frameError_works (.refl s) p.val
  rw [← hf] at hw
  obtain ⟨t, he, hd⟩ := exec_port_noisy hi h hup hw
  obtain ⟨h1, h2⟩ := hd.noted (by decide) (by decide) (by decide) (by decide)
  exact ⟨t, he, h1, h2, hd.pins⟩

theorem frameErr_hello (hm : (port s p.val).mode = .hello) : frameErr s p.val 1 = resend (frameError s p.val) p.val 0x01 [1, 2] 2 := by
  unfold frameErr
  extract_lets s1 x
  exact if_pos ⟨rfl, hm⟩

theorem frameErr_active {op : Nat} (hm : (port s p.val).mode = .active) (h5 : op ≠ 5) (h6 : op ≠ 6) :
    frameErr s p.val op = frameError s p.val := by
  unfold frameErr
  extract_lets s1 x
  have hx : x.mode = .active := hm
  simp [hx, h5, h6, s1]

end

/-- Settles O40: each limit by the state that the port stands in; parking late and the errors of rows and frames may react. -/
theorem portLimitsFailOrPark : Obligations.PortLimitsFailOrPark := by
  unfold Obligations.PortLimitsFailOrPark
  refine ⟨fun s p h hm ht => exec_syncLate h hm ht, fun s p h hm => ?inTime, fun s p h hm ht ha => ?hello, fun s p h hm ht ha => ?mode,
    fun s p h hm ht ha => ?helloFails, fun s p h hm ht ha => ?modeFails, fun s p h hm hw ht h2 => exec_missed h hm hw ht h2,
    fun s p h ht hs => exec_port_same (i := .replyTimeout p) (f := fun s => replyTimeout s p.val) rfl h (replyTimeout_waits ht hs),
    fun s p l h hm hb hh => exec_lane_fails h hm hb hh, fun s p l h hm hb hh hp => exec_lane_halves h hm hb hh hp,
    fun s p l h hm hb ht => exec_lane_retrains h hm hb ht, fun s p l h hb => ?unused, fun s p h hm => ?silent,
    fun s p h ha hp => ?notSilent, fun s p a h hd hf ha ht => exec_parkLate h ⟨hd, hf⟩ ha ht, fun s p h ha => ?parked,
    fun s p bl ro h hd hf => ?row, fun s p h hd hf => ?discarded, fun s p h hm ha => ?again, fun s p op h hm h5 h6 => ?frame⟩
  case inTime =>
    refine exec_port_same (i := .syncTimeout p) (f := fun s => syncLate s p.val) rfl h ?_
    rw [syncLate, if_neg]
    rcases hm with hm | hm
    · simp [hm]
    · rintro hc
      simp only [Bool.and_eq_true, beq_iff_eq, replyDue, decide_eq_true_eq] at hc
      obtain ⟨hsync, hdue⟩ := hc
      rw [replyLimit, hsync] at hdue
      dsimp only at hdue
      omega
  case hello =>
    exact exec_resends (i := .replyTimeout p) (f := fun s => replyTimeout s p.val) (cause := 2) rfl h (port_up hm (by decide)).2
      ((replyTimeout_eq (.inl hm) ht).trans (if_pos hm)) ha
  case mode =>
    exact exec_resends (i := .replyTimeout p) (f := fun s => replyTimeout s p.val) (cause := 9) rfl h (port_up hm (by decide)).2
      ((replyTimeout_eq (.inr hm) ht).trans (if_neg (by rw [hm]; decide))) ha
  case helloFails =>
    exact exec_reply_fails h (.inl hm) (((replyTimeout_eq (.inl hm) ht).trans (if_pos hm)).trans (resend_fails _ _ _ ha))
  case modeFails =>
    exact exec_reply_fails h (.inr hm) (((replyTimeout_eq (.inr hm) ht).trans (if_neg (by rw [hm]; decide))).trans
      (resend_fails _ _ _ ha))
  case unused =>
    refine exec_port_same (i := .laneLost p l) (f := fun s => laneLost s p.val l.val) rfl h ?_
    unfold laneLost
    extract_lets x s1 n s2 s3
    exact if_pos (by simp [x, hb])
  case silent =>
    have hup : (port s p.val).mode ≠ .disabled ∧ (port s p.val).mode ≠ .failed :=
      hm.elim (fun h => (port_up h (by decide)).2) (fun h => (port_up h (by decide)).2)
    have hw : PlkWork [] [] s (Function.update (port s) p.val (port s p.val)) s := by
      rw [Function.update_eq_self]
      exact .refl s
    exact exec_statusLost (i := .statusLaneSilent p) (f := fun s => statusLost s p.val) rfl h hup hw hm rfl
  case notSilent =>
    refine exec_port_same (i := .statusLaneSilent p) (f := fun s => statusLost s p.val) rfl h ?_
    unfold statusLost
    extract_lets m
    exact if_neg (by rintro (hn | hn) <;> contradiction)
  case parked =>
    refine exec_port_same (i := .parkLate p) (f := fun s => parkLate s p.val) rfl h ?_
    rcases ha with ha | ⟨a, ha, ht⟩
    · rw [parkLate, ha]
    · rw [parkLate, ha]
      exact if_neg (by omega)
  case row =>
    have hw := ((PlkWork.refl s).bump p.val 0x38).report { source := 0x62, master := p.val, address := bl.toNat * 256 + ro.toNat }
    obtain ⟨t, he, hd⟩ := exec_port_noisy (i := .rowErr p bl ro) (f := fun s => rowError s p.val bl.toNat ro.toNat) rfl h ⟨hd, hf⟩ hw
    obtain ⟨h1, h2⟩ := hd.noted (src := 0x62) (by decide) (by decide) (by decide) (by decide)
    exact ⟨t, he, h1, h2, hd.pins⟩
  case discarded =>
    exact exec_frameError (i := .statusFrameDiscarded p) (f := fun s => frameError s p.val) rfl h ⟨hd, hf⟩ rfl
  case again =>
    obtain ⟨hp, hup⟩ := port_up hm (by decide)
    have hw := (frameError_works (.refl s) p.val).resend hp 0x01 [1, 2] 2 ha
    rw [← frameErr_hello hm] at hw
    obtain ⟨t, he, hd⟩ := exec_port_noisy (i := .frameErr p 0x01) (f := fun s => frameErr s p.val 1) rfl h hup hw
    obtain ⟨h1, h2⟩ := hd.noted (by decide) (by decide) (by decide) (by decide)
    have hk := (hd.kept p.val).attempts
    rw [Function.update_self] at hk
    exact ⟨t, he, h1, hk, h2, hd.outs _ List.mem_cons_self⟩
  case frame =>
    exact exec_frameError (i := .frameErr p op) (f := fun s => frameErr s p.val op.toNat) rfl h (port_up hm (by decide)).2 (frameErr_active hm h5 h6)

end Sys2Proof.Machine
end


section
/-! The Plane Link commands, and STATUS (R301, R304, R307, R310, R312, R314). -/

namespace Sys2Proof.Machine

section
variable {C : List Nat} {O : List Output} {s r : State} {P : Nat → Port} {p op : Nat} {c : Cmd}

/-! ### Commands that wait for their port -/

theorem Serving.mid (h : Serving s op c) (sh : List (Nat × Nat)) (h8 : 0x0800 ≤ op) (ho : op < 0x0A00) :
    runOp (enterFlight s (arriving s op c sh)) (arriving s op c sh) =
      runMid (enterFlight s (arriving s op c sh)) (arriving s op c sh) (bodyOf c) := by
  rw [h.on, if_neg (by omega), if_pos (by omega)]

theorem runMid_retrain {f : InFlight} (h : f.opcode = 0x0801) (pl : List Byte) :
    runMid s f pl = runRetrain s f.cmd.unit.toNat f.id pl := by simp [runMid, h]
theorem runMid_park {f : InFlight} (h : f.opcode = 0x0802) (pl : List Byte) :
    runMid s f pl = runPark s f.cmd.unit.toNat f.id pl := by simp [runMid, h]
theorem runMid_unpark {f : InFlight} (h : f.opcode = 0x0803) (pl : List Byte) :
    runMid s f pl = runUnpark s f.cmd.unit.toNat f.id := by simp [runMid, h]
theorem runMid_readStatus {f : InFlight} (h : f.opcode = 0x0804) (pl : List Byte) :
    runMid s f pl = runReadStatus s f.cmd.unit.toNat f.id := by simp [runMid, h]

theorem message_later {sh : List (Nat × Nat)} (h : Serving s op c)
    (hr : runOp (enterFlight s (arriving s op c sh)) (arriving s op c sh) = (r, .later)) : message s op c sh = r := by
  rw [message_runs h, startCmd_alone h.alone rfl, hr]

theorem PlkWork.harmless (h : PlkWork [] O s P r) (hs : s.reports = []) : harmless r := by
  obtain ⟨b, hb, -, ha⟩ := h.base
  intro q hq _
  rcases ha.news q hq with hq | rfl | ⟨hl, -, hc⟩
  · rw [hb.begun.reports, hs] at hq
    cases hq
  · rfl
  · exact hc.elim (fun hr => absurd hr (not_retrains hl)) (fun hm => absurd hm.1 (by simp))

/-- A command that works on its port, and waits for it. -/
theorem exec_port_command {i : Instr} {f : InFlight} (hi : exec i s = .next (hostEvent s (fun s => message s op c []))) (h : Serving s op c)
    (hf : f = arriving s op c []) (hr : runOp (enterFlight s f) f = (r, .later)) (hw : PlkWork [] O (enterFlight s f) P r)
    (hfl : r.hmi.inFlight = (enterFlight s f).hmi.inFlight) :
    ∃ t, exec i s = .next t ∧ (∀ q, port t q = P q) ∧ calm t = calm r ∧ (∀ o ∈ O, o ∈ t.outs) ∧ t.hmi.inFlight = [f] ∧
      ((∀ q, q < 6 → q ≠ p → P q = port s q) → OnlyPort s t p) := by
  subst hf
  have hflight : (enterFlight s (arriving s op c [])).hmi.inFlight = [arriving s op c []] := by simp [enterFlight, h.alone]
  obtain ⟨b, hb, ho, ha⟩ := hw.base
  obtain ⟨t, ht, hends⟩ := exec_host_ends hi h.awake (message_later h hr) (ha.waits (by
      rw [noWait, hb.begun.hmi, hflight]
      rfl))
    (((calm_eq (·.img.act) ha.calm :)).trans hb.begun.act) (((calm_eq (·.pending) ha.calm :)).trans hb.begun.pending)
  have hd := hw.done hb ho ha (ha.leaves hb.begun h.reports hends) noReaction_nil
  have hrec := hends.records (hw.harmless h.reports)
  have hin : t.hmi.inFlight = r.hmi.inFlight := (congrArg Hmi.inFlight hrec.events :)
  refine ⟨t, ht, hd.ports, hd.calm, hd.outs, hin.trans (hfl.trans hflight), fun hP => ?_⟩
  obtain ⟨hframe, hports, hmem⟩ := hd.only p hP
  exact ⟨hframe, hports, hmem⟩

theorem postPortState_flight (s : State) (p : Nat) (m : PortMode) : (postPortState s p m).hmi.inFlight = s.hmi.inFlight :=
  (signal_posts _ _).flight.trans (post_posts _ _ _ _).flight

theorem enterPort_flight (s : State) (p : Nat) (m : PortMode) (c : Nat) : (enterPort s p m c).hmi.inFlight = s.hmi.inFlight := by
  unfold enterPort
  extract_lets prev s1
  split
  · rfl
  · exact postPortState_flight _ _ _

theorem countRetrain_flight (s : State) (p : Nat) : (countRetrain s p).hmi.inFlight = s.hmi.inFlight := by
  unfold countRetrain
  split
  · exact (congrArg Hmi.inFlight (bump_mild s _).events :)
  · rfl

theorem parkPort_flight (s : State) (p style c : Nat) : (parkPort s p style c).hmi.inFlight = s.hmi.inFlight :=
  enterPort_flight _ _ _ _

theorem enterSync_flight (s : State) (p c : Nat) (full : Bool) : (enterSync s p c full).hmi.inFlight = s.hmi.inFlight := by
  rw [enterSync, countRetrain_flight, enterPort_flight]
  rfl

/-! ### PLK_RETRAIN -/

theorem runRetrain_range {id : Nat} {pl : List Byte} (h : 1 < byteAt pl 0 ∨ leAt pl 1 3 ≠ 0) :
    runRetrain s p id pl = (s, .now .outOfRange []) := if_pos h

theorem runRetrain_eq {id : Nat} {pl : List Byte} (h0 : byteAt pl 0 ≤ 1) (h1 : leAt pl 1 3 = 0) : runRetrain s p id pl =
    if plkRefused s || !portEnabled s p || (port s p).mode == .disabled then (s, .now .badState [])
    else (modPort (enterSync s p 19 (byteAt pl 0 == 0)) p (fun x => { x with retrainId := some id }), .later) :=
  if_neg (by omega)

theorem exec_retrain (h : Serving s 0x0801 c) (hp : p = c.unit.toNat) (h0 : byteAt (bodyOf c) 0 ≤ 1) (h1 : leAt (bodyOf c) 1 3 = 0)
    (href : plkRefused s = false) (hen : portEnabled s p = true) (hm : (port s p).mode ≠ .disabled) :
    ∃ t, exec (.plkRetrain c) s = .next t ∧ (port t p).mode = .sync ∧ (port t p).cause = 19 ∧
      (port t p).fullOnly = (byteAt (bodyOf c) 0 == 0) ∧ (port t p).retrainId = some s.hmi.nextId ∧
      t.hmi.inFlight = [arriving s 0x0801 c []] ∧ OnlyPort s t p := by
  subst hp
  have hp := port_lt hm
  have hno : ¬ (plkRefused (enterFlight s (arriving s 0x0801 c [])) || !portEnabled (enterFlight s (arriving s 0x0801 c []))
      c.unit.toNat || (port (enterFlight s (arriving s 0x0801 c [])) c.unit.toNat).mode == .disabled) = true := by
    have h1 : plkRefused (enterFlight s (arriving s 0x0801 c [])) = false := href
    have h2 : portEnabled (enterFlight s (arriving s 0x0801 c [])) c.unit.toNat = true := hen
    have h3 : (port (enterFlight s (arriving s 0x0801 c [])) c.unit.toNat).mode ≠ .disabled := hm
    simp [h1, h2, h3]
  have hw := (((PlkWork.refl (enterFlight s (arriving s 0x0801 c []))).sync hp 19 (byteAt (bodyOf c) 0 == 0)).mod' hp (fun x => { x with
    retrainId := some s.hmi.nextId }))
  obtain ⟨t, ht, hports, -, -, hin, honly⟩ := exec_port_command (p := c.unit.toNat) (i := .plkRetrain c) rfl h rfl
    ((h.mid [] (by decide) (by decide)).trans ((runMid_retrain rfl _).trans ((runRetrain_eq h0 h1).trans (if_neg hno)))) hw
    (enterSync_flight (enterFlight s (arriving s 0x0801 c [])) c.unit.toNat 19 (byteAt (bodyOf c) 0 == 0))
  have hport := hports c.unit.toNat
  rw [Function.update_self] at hport
  exact ⟨t, ht, congrArg (·.mode) hport, congrArg (·.cause) hport, congrArg (·.fullOnly) hport, congrArg (·.retrainId) hport, hin,
    honly (fun _ _ hne => Function.update_of_ne hne _ _)⟩

/-! ### PLK_PARK -/

theorem runPark_eq {id : Nat} {pl : List Byte} (h0 : byteAt pl 0 ≤ 1) (h1 : leAt pl 1 3 = 0) : runPark s p id pl =
    if plkRefused s || (port s p).mode != .active then (s, .now .badState [])
    else (modPort (parkPort s p (byteAt pl 0) 17) p (fun x => { x with parkId := some id }), .later) :=
  if_neg (by omega)

theorem mirror_blocksOff {b : Nat} (hp : p < 6) (hb : b < 16) : (mirror (blocksOff s p) p b).shows = none := by
  rw [mirror, show (blocksOff s p).rck.blocks = vmod s.rck.blocks p _ from rfl, vget_vmod_same _ hp]
  simp [vget, List.getD_eq_getElem?_getD, hb]

theorem exec_park (h : Serving s 0x0802 c) (hp : p = c.unit.toNat) (h0 : byteAt (bodyOf c) 0 ≤ 1) (h1 : leAt (bodyOf c) 1 3 = 0)
    (href : plkRefused s = false) (hm : (port s p).mode = .active) :
    ∃ t, exec (.plkPark c) s = .next t ∧ (port t p).mode = .parked ∧ (port t p).cause = 17 ∧
      (port t p).parkAt = some s.tsc ∧ (port t p).parkId = some s.hmi.nextId ∧ (port t p).delivering = false ∧
      Output.plkFrame p 0x06 [byteAt (bodyOf c) 0] ∈ t.outs ∧ (∀ b, b < 16 → (mirror t p b).shows = none) ∧
      t.hmi.inFlight = [arriving s 0x0802 c []] ∧ OnlyPort s t p := by
  subst hp
  have hp := (port_up hm (by decide)).1
  have hno : ¬ (plkRefused (enterFlight s (arriving s 0x0802 c [])) ||
      (port (enterFlight s (arriving s 0x0802 c [])) c.unit.toNat).mode != .active) = true := by
    have h1 : plkRefused (enterFlight s (arriving s 0x0802 c [])) = false := href
    have h3 : (port (enterFlight s (arriving s 0x0802 c [])) c.unit.toNat).mode = .active := hm
    simp [h1, h3]
  have hw := (((PlkWork.refl (enterFlight s (arriving s 0x0802 c []))).park hp (byteAt (bodyOf c) 0) 17).mod' hp (fun x => { x with
    parkId := some s.hmi.nextId }))
  obtain ⟨t, ht, hports, hcalm, houts, hin, honly⟩ := exec_port_command (p := c.unit.toNat) (i := .plkPark c) rfl h rfl
    ((h.mid [] (by decide) (by decide)).trans ((runMid_park rfl _).trans ((runPark_eq h0 h1).trans (if_neg hno)))) hw
    (parkPort_flight (enterFlight s (arriving s 0x0802 c [])) c.unit.toNat (byteAt (bodyOf c) 0) 17)
  have hport := hports c.unit.toNat
  rw [Function.update_self] at hport
  refine ⟨t, ht, congrArg (·.mode) hport, congrArg (·.cause) hport, congrArg (·.parkAt) hport, congrArg (·.parkId) hport,
    congrArg (·.delivering) hport, houts _ List.mem_cons_self, fun b hb => ?_, hin,
    honly (fun _ _ hne => Function.update_of_ne hne _ _)⟩
  have hmirror : mirror t c.unit.toNat b = mirror (blocksOff (sendFrame (enterFlight s (arriving s 0x0802 c [])) c.unit.toNat 0x06
      [byteAt (bodyOf c) 0]) c.unit.toNat) c.unit.toNat b :=
    ((calm_eq (fun s => mirror s c.unit.toNat b) hcalm :)).trans (calm_eq (fun s => mirror s c.unit.toNat b) (calm_enterPort _ _ _ _) :)
  rw [hmirror]
  exact mirror_blocksOff hp hb

/-! ### PLK_UNPARK -/

theorem runUnpark_eq (id : Nat) (hm : (port s p).mode = .parked) (hc : (port s p).cause = 16 ∨ (port s p).cause = 17)
    (href : plkRefused s = false) :
    runUnpark s p id = (modPort (sendUnpark s p) p (fun y => { y with unparkId := some id }), .later) := by
  unfold runUnpark
  extract_lets x
  refine if_neg ?_
  rcases hc with hc | hc
  · simp [x, hm, hc, href]
  · simp [x, hm, hc, href]

theorem exec_unpark (h : Serving s 0x0803 c) (hp : p = c.unit.toNat) (href : plkRefused s = false) (hm : (port s p).mode = .parked)
    (hc : (port s p).cause = 16 ∨ (port s p).cause = 17) (hv : (port s p).halfWidth = false ∨ variantReady s p = true) :
    ∃ t, exec (.plkUnpark c) s = .next t ∧ (port t p).mode = .parked ∧ (port t p).unparking = true ∧
      (port t p).unparkId = some s.hmi.nextId ∧ Output.plkFrame p 0x07 [] ∈ t.outs ∧
      t.hmi.inFlight = [arriving s 0x0803 c []] ∧ OnlyPort s t p := by
  subst hp
  have hp := (port_up hm (by decide)).1
  have hw := ((((PlkWork.refl (enterFlight s (arriving s 0x0803 c []))).mod hp (fun x => { x with
    unparking := true, attempts := 1, holdReady := false })).ask' hp 0x07 []).mod' hp (fun x => { x with
    unparkId := some s.hmi.nextId }))
  have hrun := runUnpark_eq (s := enterFlight s (arriving s 0x0803 c [])) s.hmi.nextId hm hc href
  rw [sendUnpark_ready (s := enterFlight s (arriving s 0x0803 c [])) hv] at hrun
  obtain ⟨t, ht, hports, -, houts, hin, honly⟩ := exec_port_command (p := c.unit.toNat) (i := .plkUnpark c) rfl h rfl
    ((h.mid [] (by decide) (by decide)).trans ((runMid_unpark rfl _).trans hrun)) hw rfl
  have hport := hports c.unit.toNat
  rw [Function.update_self] at hport
  exact ⟨t, ht, (congrArg (·.mode) hport).trans hm, congrArg (·.unparking) hport, congrArg (·.unparkId) hport,
    houts _ List.mem_cons_self, hin, honly (fun _ _ hne => Function.update_of_ne hne _ _)⟩

theorem exec_unpark_holds (h : Serving s 0x0803 c) (hp : p = c.unit.toNat) (href : plkRefused s = false)
    (hm : (port s p).mode = .parked) (hc : (port s p).cause = 16 ∨ (port s p).cause = 17) (hh : (port s p).halfWidth = true)
    (hv : variantReady s p = false) :
    ∃ t, exec (.plkUnpark c) s = .next t ∧ (port t p).mode = .parked ∧ (port t p).holdReady = true ∧
      (port t p).unparkId = some s.hmi.nextId ∧ t.hmi.inFlight = [arriving s 0x0803 c []] ∧ OnlyPort s t p := by
  subst hp
  have hp := (port_up hm (by decide)).1
  have hw := (((PlkWork.refl (enterFlight s (arriving s 0x0803 c []))).mod hp (fun x => { x with holdReady := true })).mod' hp
    (fun x => { x with unparkId := some s.hmi.nextId }))
  have hrun := runUnpark_eq (s := enterFlight s (arriving s 0x0803 c [])) s.hmi.nextId hm hc href
  rw [sendUnpark_holds (s := enterFlight s (arriving s 0x0803 c [])) hh hv] at hrun
  obtain ⟨t, ht, hports, -, -, hin, honly⟩ := exec_port_command (p := c.unit.toNat) (i := .plkUnpark c) rfl h rfl
    ((h.mid [] (by decide) (by decide)).trans ((runMid_unpark rfl _).trans hrun)) hw rfl
  have hport := hports c.unit.toNat
  rw [Function.update_self] at hport
  exact ⟨t, ht, (congrArg (·.mode) hport).trans hm, congrArg (·.holdReady) hport, congrArg (·.unparkId) hport, hin,
    honly (fun _ _ hne => Function.update_of_ne hne _ _)⟩

/-! ### PLK_READ_STATUS and STATUS -/

theorem exec_readStatus (h : Serving s 0x0804 c) (hp : p = c.unit.toNat) (href : plkRefused s = false)
    (hm : (port s p).mode = .parked ∨ (port s p).mode = .active) :
    ∃ t, exec (.plkReadStatus c) s = .next t ∧ (port t p).statusWait = true ∧ (port t p).statusAt = s.tsc ∧
      (port t p).statusId = some s.hmi.nextId ∧
      Output.plkFrame p 0x08 [] ∈ t.outs ∧ t.hmi.inFlight = [arriving s 0x0804 c []] ∧ OnlyPort s t p := by
  subst hp
  have hp : c.unit.toNat < 6 := hm.elim (fun h => (port_up h (by decide)).1) (fun h => (port_up h (by decide)).1)
  have hw := (((PlkWork.refl (enterFlight s (arriving s 0x0804 c []))).mod hp (fun x => { x with
    statusWait := true, statusAt := s.tsc })).send c.unit.toNat 0x08 []).mod' hp (fun x => { x with statusId := some s.hmi.nextId })
  have hrun : runReadStatus (enterFlight s (arriving s 0x0804 c [])) c.unit.toNat s.hmi.nextId =
      (modPort (readStatus (enterFlight s (arriving s 0x0804 c [])) c.unit.toNat) c.unit.toNat (fun x => { x with
        statusId := some s.hmi.nextId }), .later) := by
    have h1 : plkRefused (enterFlight s (arriving s 0x0804 c [])) = false := href
    unfold runReadStatus
    extract_lets m
    refine if_neg ?_
    have h3 : m = .parked ∨ m = .active := hm
    rcases h3 with h3 | h3
    · simp [h1, h3]
    · simp [h1, h3]
  obtain ⟨t, ht, hports, -, houts, hin, honly⟩ := exec_port_command (p := c.unit.toNat) (i := .plkReadStatus c) rfl h rfl
    ((h.mid [] (by decide) (by decide)).trans ((runMid_readStatus rfl _).trans hrun)) hw rfl
  have hport := hports c.unit.toNat
  rw [Function.update_self] at hport
  exact ⟨t, ht, congrArg (·.statusWait) hport, congrArg (·.statusAt) hport, congrArg (·.statusId) hport,
    houts _ List.mem_cons_self, hin, honly (fun _ _ hne => Function.update_of_ne hne _ _)⟩

/-- What STATUS tells is noted. -/
def statusTold (st flags : Nat) (x : Port) : Port :=
  { x with
    stState := st
    stFlags := flags
    statusWait := false
    statusMiss := 0
    statusId := none }

/-- What STATUS completes its READ_STATUS with. -/
def statusResult (st flags rowErr frameErrs : Nat) : List Byte :=
  leBytes 1 st ++ leBytes 1 flags ++ leBytes 2 0 ++ leBytes 4 rowErr ++ leBytes 4 frameErrs

theorem plkStatus_eq (st flags re fe : Nat) : plkStatus s p st flags re fe =
    completeOpt (if flags ≠ 0 then report (modPort s p (statusTold st flags)) { source := 0x65, master := p }
      else modPort s p (statusTold st flags)) (port s p).statusId .ok (statusResult st flags re fe) := rfl

end

section
variable {s : State} {p : Fin 6} {c : Cmd}

theorem exec_status {st : BitVec 8} {re fe : BitVec 32} (h : Live s) (hm : (port s p.val).mode = .active) :
    ∃ t, exec (.status p st 0 re fe) s = .next t ∧ (port t p.val).stState = st.toNat ∧ (port t p.val).stFlags = 0 ∧
      (port t p.val).statusWait = false ∧ (port t p.val).statusMiss = 0 ∧ (port t p.val).statusId = none ∧
      (port t p.val).mode = .active ∧ OnlyPort s t p.val := by
  obtain ⟨hp, hup⟩ := port_up hm (by decide)
  have hw := ((PlkWork.refl s).mod hp (statusTold st.toNat 0)).posts (completeOpt_adds _ (port s p.val).statusId .ok
    (statusResult st.toNat 0 re.toNat fe.toNat))
  have hr := plkStatus_eq (s := s) (p := p.val) st.toNat 0 re.toNat fe.toNat
  rw [if_neg (by decide)] at hr
  rw [← hr] at hw
  obtain ⟨t, ht, hd⟩ := exec_port (i := .status p st 0 re fe) (f := fun s => plkStatus s p.val st.toNat 0 re.toNat fe.toNat) rfl h hup hw
    noReaction_nil
  have hport := hd.port
  exact ⟨t, ht, congrArg (·.stState) hport, congrArg (·.stFlags) hport, congrArg (·.statusWait) hport, congrArg (·.statusMiss) hport,
    congrArg (·.statusId) hport, (congrArg (·.mode) hport).trans hm, hd.only'⟩

theorem exec_status_flags {st fl : BitVec 8} {re fe : BitVec 32} (h : Live s)
    (hup : (port s p.val).mode ≠ .disabled ∧ (port s p.val).mode ≠ .failed) (hfl : fl ≠ 0) :
    ∃ t, exec (.status p st fl re fe) s = .next t ∧ counted s t 0x65 ∧ (port t p.val).stState = st.toNat ∧
      (port t p.val).stFlags = fl.toNat ∧ (port t p.val).statusWait = false ∧ (port t p.val).statusMiss = 0 := by
  have hw := (((PlkWork.refl s).mod p.isLt (statusTold st.toNat fl.toNat)).report { source := 0x65, master := p.val }).posts
    (completeOpt_adds _ (port s p.val).statusId .ok (statusResult st.toNat fl.toNat re.toNat fe.toNat))
  have hr := plkStatus_eq (s := s) (p := p.val) st.toNat fl.toNat re.toNat fe.toNat
  have hne : fl.toNat ≠ 0 := fun hn => hfl (BitVec.eq_of_toNat_eq hn)
  rw [if_pos hne] at hr
  rw [← hr] at hw
  obtain ⟨t, ht, hd⟩ := exec_port_noisy (i := .status p st fl re fe)
    (f := fun s => plkStatus s p.val st.toNat fl.toNat re.toNat fe.toNat) rfl h hup hw
  have hk := hd.kept p.val
  rw [Function.update_self] at hk
  exact ⟨t, ht, hd.counted 0x65 (by decide) (by decide) rfl, hk.state, hk.flags, hk.wait, hk.miss⟩

theorem pollStatus_none (h : (port s p.val).mode ≠ .active ∨ (port s p.val).statusWait = true ∨
    s.tsc < (port s p.val).statusAt + bits (regN s (portBase p.val + 4)) 15 8 * 250000) : pollStatus s p.val = s := by
  unfold pollStatus
  extract_lets x due
  refine if_neg ?_
  rcases h with h | h | h
  · simp [x, h]
  · simp [x, h]
  · have : due = false := decide_eq_false (by simp only [x, msCycles]; omega)
    simp [this]

theorem pollStatus_due (hm : (port s p.val).mode = .active) (hw : (port s p.val).statusWait = false)
    (h : (port s p.val).statusAt + bits (regN s (portBase p.val + 4)) 15 8 * 250000 ≤ s.tsc) : pollStatus s p.val = readStatus s p.val := by
  unfold pollStatus
  extract_lets x due
  have hd : due = true := decide_eq_true h
  exact if_pos (by simp [x, hm, hw, hd])

end

/-- Settles O41: the commands of a port wait for it or are refused; STATUS is noted as it comes. -/
theorem portCommandsRetrainParkAndAsk : Obligations.PortCommandsRetrainParkAndAsk := by
  unfold Obligations.PortCommandsRetrainParkAndAsk
  refine ⟨fun s c p h hp h0 h1 href hen hm => exec_retrain h hp h0 h1 href hen hm,
    fun s c p h hp h0 h1 href hm => exec_park h hp h0 h1 href hm, fun s c p h hp href hm hc hv => exec_unpark h hp href hm hc hv,
    fun s c p h hp href hm hc hh hv => exec_unpark_holds h hp href hm hc hh hv,
    fun s c p h hp href hm => exec_readStatus h hp href hm, fun s c h h0 h1 hno => ?noRetrain, fun s c h h0 h1 hno => ?noPark,
    fun s c h hno => ?noUnpark, fun s c h hno => ?noStatus, fun s c h hno => ?retrainRange, fun s c h hno => ?parkRange,
    fun s p st re fe h hm => exec_status h hm, fun s p st fl re fe h hd hf hfl => exec_status_flags h ⟨hd, hf⟩ hfl,
    fun s p h hm hw ht => ?polls, fun s p h hno => exec_port_same (i := .statusPoll p) (f := fun s => pollStatus s p.val) rfl h
      (pollStatus_none hno)⟩
  case noRetrain =>
    have hrun : runRetrain (enterFlight s (arriving s 0x0801 c [])) c.unit.toNat s.hmi.nextId (bodyOf c) =
        (enterFlight s (arriving s 0x0801 c []), .now .badState []) := by
      refine (runRetrain_eq h0 h1).trans (if_pos ?_)
      have hno' : plkRefused (enterFlight s (arriving s 0x0801 c [])) = true ∨
        portEnabled (enterFlight s (arriving s 0x0801 c [])) c.unit.toNat = false ∨
        (port (enterFlight s (arriving s 0x0801 c [])) c.unit.toNat).mode = .disabled := hno
      rcases hno' with hno' | hno' | hno'
      · simp [hno']
      · simp [hno']
      · simp [hno']
    exact exec_replies (i := .plkRetrain c) rfl h ((h.mid [] (by decide) (by decide)).trans ((runMid_retrain rfl _).trans hrun))
  case noPark =>
    have hrun : runPark (enterFlight s (arriving s 0x0802 c [])) c.unit.toNat s.hmi.nextId (bodyOf c) =
        (enterFlight s (arriving s 0x0802 c []), .now .badState []) := by
      refine (runPark_eq h0 h1).trans (if_pos ?_)
      have hno' : plkRefused (enterFlight s (arriving s 0x0802 c [])) = true ∨
        (port (enterFlight s (arriving s 0x0802 c [])) c.unit.toNat).mode ≠ .active := hno
      rcases hno' with hno' | hno'
      · simp [hno']
      · simp [hno']
    exact exec_replies (i := .plkPark c) rfl h ((h.mid [] (by decide) (by decide)).trans ((runMid_park rfl _).trans hrun))
  case noUnpark =>
    have hrun : runUnpark (enterFlight s (arriving s 0x0803 c [])) c.unit.toNat s.hmi.nextId =
        (enterFlight s (arriving s 0x0803 c []), .now .badState []) := by
      unfold runUnpark
      extract_lets x
      refine if_pos ?_
      have hno' : plkRefused (enterFlight s (arriving s 0x0803 c [])) = true ∨ x.mode ≠ .parked ∨ (x.cause ≠ 16 ∧ x.cause ≠ 17) := hno
      rcases hno' with hno' | hno' | ⟨h16, h17⟩
      · simp [hno']
      · simp [hno']
      · simp [h16, h17]
    exact exec_replies (i := .plkUnpark c) rfl h ((h.mid [] (by decide) (by decide)).trans ((runMid_unpark rfl _).trans hrun))
  case noStatus =>
    have hrun : runReadStatus (enterFlight s (arriving s 0x0804 c [])) c.unit.toNat s.hmi.nextId =
        (enterFlight s (arriving s 0x0804 c []), .now .badState []) := by
      unfold runReadStatus
      extract_lets m
      refine if_pos ?_
      have hno' : plkRefused (enterFlight s (arriving s 0x0804 c [])) = true ∨ (m ≠ .parked ∧ m ≠ .active) := hno
      rcases hno' with hno' | ⟨h1, h2⟩
      · simp [hno']
      · simp [h1, h2]
    exact exec_replies (i := .plkReadStatus c) rfl h ((h.mid [] (by decide) (by decide)).trans ((runMid_readStatus rfl _).trans hrun))
  case retrainRange =>
    have hrun := runRetrain_range (s := enterFlight s (arriving s 0x0801 c [])) (p := c.unit.toNat) (id := s.hmi.nextId) hno
    exact exec_replies (i := .plkRetrain c) rfl h ((h.mid [] (by decide) (by decide)).trans ((runMid_retrain rfl _).trans hrun))
  case parkRange =>
    have hrun : runPark (enterFlight s (arriving s 0x0802 c [])) c.unit.toNat s.hmi.nextId (bodyOf c) =
        (enterFlight s (arriving s 0x0802 c []), .now .outOfRange []) := if_pos hno
    exact exec_replies (i := .plkPark c) rfl h ((h.mid [] (by decide) (by decide)).trans ((runMid_park rfl _).trans hrun))
  case polls =>
    have hi : exec (.statusPoll p) s = .next (event s (fun s => pollStatus s p.val)) :=
      congrArg Host.Outcome.next (portEvent_up (port_up hm (by decide)).2.1 (port_up hm (by decide)).2.2)
    have hup : noneUp s (modPort s p.val (fun x => { x with statusWait := true, statusAt := s.tsc })) := noneUp_modPort (fun _ => rfl)
    exact exec_port_quiet hi h (pollStatus_due hm hw ht) hup

end Sys2Proof.Machine
end


section
/-! What an operation does beside its units: a summary that composes whatever units it changes, and the end of a command in its
terms. -/

namespace Sys2Proof.Machine

/-- Beside the units, `r` is `s` with what posting, completing, counting and reporting add: the tallies and sources `C`, each as
often as it stands there; of those that `E` names no number is given. -/
structure Effects (C : List Nat) (E : Nat → Prop) (s r : State) : Prop where
  waits : noWait s → noWait r
  idle : s.hmi.inFlight = [] → r.hmi.inFlight = []
  flight : ∀ f, s.hmi.inFlight = [f] → r.hmi.inFlight = [f] ∨ r.hmi.inFlight = []
  outs : ∀ o ∈ s.outs, o ∈ r.outs
  map : r.flt.map = s.flt.map
  memory : ∀ a, a < reservedBase s → rd r a = rd s a
  source : ∀ src, sourceTally r src = sourceTally s src
  tallies : ∀ off, 256 ≤ off → unitTally off = true → ¬ E off → tally r off = min (tally s off + C.count off) tallyMax
  reports : ∀ src, src < 256 → src ≠ 0x12 → ¬ E src → reportsOf r.reports src = reportsOf s.reports src + C.count src
  news : ∀ q ∈ r.reports, q ∈ s.reports ∨ q = { source := 0x12 } ∨
    (q.source < 256 ∧ q.reactionAs = none ∧ (E q.source ∨ (q.source ∈ C ∧ q.injected = false)))
  act : r.img.act = s.img.act
  pending : r.pending = s.pending
  fuse : r.fuse = s.fuse

/-- Of `r` the units, of `s` the rest. -/
def unitsOf (s r : State) : State := { r with
  outs := s.outs
  hmi := s.hmi
  tallies := s.tallies
  reports := s.reports
  flt := s.flt
  dram := s.dram
  badWords := s.badWords
  poisoned := s.poisoned }

section
variable {C K : List Nat} {E F : Nat → Prop} {s r t : State}

theorem Adds.effects (h : Adds C E s r) : Effects C E s r where
  waits := h.waits
  idle := h.idle
  flight := h.flight
  outs := h.outs
  map := h.map
  memory := h.memory
  source := h.source
  tallies := h.tallies
  reports := h.reports
  news := h.news
  act := (calm_eq (·.img.act) h.calm :)
  pending := (calm_eq (·.pending) h.calm :)
  fuse := (calm_eq (·.fuse) h.calm :)

theorem Effects.refl (E : Nat → Prop) (s : State) : Effects [] E s s := (Adds.refl E s).effects

theorem Effects.trans (h1 : Effects C E s r) (h2 : Effects K E r t) : Effects (C ++ K) E s t where
  waits w := h2.waits (h1.waits w)
  idle w := h2.idle (h1.idle w)
  flight f w := (h1.flight f w).elim (h2.flight f) (fun h => .inr (h2.idle h))
  outs o ho := h2.outs o (h1.outs o ho)
  map := h2.map.trans h1.map
  memory x hx := (h2.memory x (by rwa [reservedBase_fuse h1.fuse])).trans (h1.memory x hx)
  source src := (h2.source src).trans (h1.source src)
  tallies off h6 hu he := by
    rw [h2.tallies off h6 hu he, h1.tallies off h6 hu he, List.count_append]
    omega
  reports src hs h12 he := by rw [h2.reports src hs h12 he, h1.reports src hs h12 he, List.count_append, Nat.add_assoc]
  news q hq := by
    rcases h2.news q hq with hq | hq | ⟨hl, hn, hc⟩
    · rcases h1.news q hq with hq | hq | ⟨hl, hn, hc⟩
      · exact .inl hq
      · exact .inr (.inl hq)
      · exact .inr (.inr ⟨hl, hn, hc.imp id (fun h => ⟨List.mem_append_left _ h.1, h.2⟩)⟩)
    · exact .inr (.inl hq)
    · exact .inr (.inr ⟨hl, hn, hc.imp id (fun h => ⟨List.mem_append_right _ h.1, h.2⟩)⟩)
  act := h2.act.trans h1.act
  pending := h2.pending.trans h1.pending
  fuse := h2.fuse.trans h1.fuse

theorem Effects.widen (h : Effects C E s r) (hf : ∀ n, E n → F n) : Effects C F s r :=
  { h with
    tallies := fun off h6 hu he => h.tallies off h6 hu (fun hn => he (hf _ hn))
    reports := fun src hs h12 he => h.reports src hs h12 (fun hn => he (hf _ hn))
    news := fun q hq => (h.news q hq).imp id (Or.imp id (fun h => ⟨h.1, h.2.1, h.2.2.imp (hf _) id⟩)) }

theorem Effects.of_exactly (h : Effects C exactly s r) : Effects C F s r := h.widen (fun _ h => h.elim)

/-- What is counted need not be said. -/
theorem Effects.drop (h : Effects C E s r) (hc : ∀ n ∈ C, E n) : Effects [] E s r :=
  { h with
    tallies := fun off h6 hu he => by
      rw [h.tallies off h6 hu he, List.count_eq_zero_of_not_mem (fun hm => he (hc _ hm))]
      rfl
    reports := fun src hs h12 he => by
      rw [h.reports src hs h12 he, List.count_eq_zero_of_not_mem (fun hm => he (hc _ hm))]
      rfl
    news := fun q hq => (h.news q hq).imp id (Or.imp id (fun h => ⟨h.1, h.2.1, .inl (h.2.2.elim id (fun h => hc _ h.1))⟩)) }

/-- A change of units alone. -/
theorem Effects.same (h : Effects C E s r) (ho : t.outs = r.outs) (hh : t.hmi = r.hmi) (ht : t.tallies = r.tallies)
    (hr : t.reports = r.reports) (hf : t.flt.map = r.flt.map) (hd : t.dram = r.dram) (ha : t.img.act = r.img.act)
    (hp : t.pending = r.pending) (hu : t.fuse = r.fuse) : Effects C E s t where
  waits w := by rw [noWait, hh]; exact h.waits w
  idle w := by rw [hh]; exact h.idle w
  flight f w := by rw [hh]; exact h.flight f w
  outs o w := by rw [ho]; exact h.outs o w
  map := hf.trans h.map
  memory a w := by simpa only [rd, hd] using h.memory a w
  source src := by simpa only [sourceTally, tally, ht] using h.source src
  tallies off h6 w he := by simpa only [tally, ht] using h.tallies off h6 w he
  reports src hs h12 he := by rw [hr]; exact h.reports src hs h12 he
  news q w := by rw [hr] at w; exact h.news q w
  act := ha.trans h.act
  pending := hp.trans h.pending
  fuse := hu.trans h.fuse

theorem Effects.units (h : Effects C E s r) (e : (t.outs, t.hmi, t.tallies, t.reports, t.flt.map, t.dram, t.img.act, t.pending, t.fuse) =
    (r.outs, r.hmi, r.tallies, r.reports, r.flt.map, r.dram, r.img.act, r.pending, r.fuse)) : Effects C E s t := by
  simp only [Prod.mk.injEq] at e
  obtain ⟨ho, hh, ht, hr, hf, hd, ha, hp, hu⟩ := e
  exact h.same ho hh ht hr hf hd ha hp hu

theorem Effects.adds (h : Effects C E s r) (ha : Adds K E r t) : Effects (C ++ K) E s t := h.trans ha.effects

theorem Effects.posts (h : Effects C E s r) (ha : Adds [] E r t) : Effects C E s t := by
  have := h.adds ha
  rwa [List.append_nil] at this

/-- An operation that counts and reports nothing. -/
theorem Effects.quiet (h : Effects C E s r) (ha : Effects [] E r t) : Effects C E s t := by
  have := h.trans ha
  rwa [List.append_nil] at this

theorem Effects.emit (h : Effects C E s r) (o : Output) : Effects C E s (Machine.emit r o) := h.posts (emit_adds r o)

theorem Effects.report (h : Effects C E s r) (q : Report) (hl : q.source < 256 := by exact of_decide_eq_true rfl)
    (hi : q.injected = false := by rfl) (hn : q.reactionAs = none := by rfl) : Effects (C ++ [q.source]) E s (Machine.report r q) :=
  h.adds (report_adds r q hl hi hn)

theorem Effects.ite (c : Prop) [Decidable c] (hr : Effects C E s r) (ht : Effects C E s t) : Effects C E s (if c then r else t) := by
  split <;> assumption

theorem Effects.foldl {β : Type} {f : State → β → State} (hf : ∀ s x, Effects [] E s (f s x)) (l : List β) (s : State) :
    Effects [] E s (l.foldl f s) := by
  induction l generalizing s with
  | nil => exact .refl E s
  | cons x l ih => exact (hf s x).quiet (ih _)

theorem Effects.forN {f : State → Nat → State} (hf : ∀ s x, Effects [] E s (f s x)) (n : Nat) (s : State) :
    Effects [] E s (Machine.forN n f s) := .foldl hf _ s

theorem Effects.forMask {f : State → Nat → State} (hf : ∀ s x, Effects [] E s (f s x)) (n m : Nat) (s : State) :
    Effects [] E s (Machine.forMask n m f s) := .forN (fun s x => .ite _ (hf s x) (.refl E s)) n s

/-- The same, said of the units of the result. -/
theorem Effects.to_adds (h : Effects C E s r) : Adds C E (unitsOf s r) r where
  calm := rfl
  waits := h.waits
  idle := h.idle
  flight := h.flight
  outs := h.outs
  map := h.map
  memory a ha := h.memory a (by rwa [← reservedBase_fuse (s := s) (t := unitsOf s r) h.fuse])
  source := h.source
  tallies := h.tallies
  reports := h.reports
  news := h.news

theorem Effects.begun (h : Effects C E s r) : Begun s (unitsOf s r) :=
  { act := h.act, pending := h.pending, fuse := h.fuse }

/-! ### The end of a command -/

/-- What the end of a command leaves whose operation has made `r` of `s`. -/
structure Done (C : List Nat) (E : Nat → Prop) (s r t : State) : Prop where
  ends : Ends r t
  rest : unreacted t = unreacted r
  pins : PinsDown r t
  outs : ∀ o ∈ r.outs, o ∈ t.outs
  memory : ∀ a, a < reservedBase s → rd t a = rd s a
  tallies : ∀ off, 256 ≤ off → unitTally off = true → ¬ E off → tally t off = min (tally s off + C.count off) tallyMax
  counted : ∀ src, src < 256 → src ≠ 0x12 → ¬ E src → C.count src = 1 → Machine.counted s t src
  marks : ∀ src, src ∈ C → src < 256 → src ≠ 0x12 → ¬ E src → (sourceCfg s src).1 ≠ 0 →
    (srcAt t src).pending = true ∧ ((sourceCfg s src).1 = 2 → (srcAt t src).mode = .fatal)
  quiet : (∀ n, n < 256 → n ∈ C ∨ E n → (sourceCfg s n).2.1 = 0) → Machine.calm t = Machine.calm r

theorem Effects.done (h : Effects C E s r) (hs : s.reports = []) (he : Ends r t) : Done C E s r t := by
  have hl := h.to_adds.leaves h.begun hs he
  exact
    { ends := he
      rest := hl.rest
      pins := hl.pins.of_pins
      outs := he.reacts.keeps.outs.subset
      memory := hl.memory
      tallies := hl.tallies
      counted := hl.counted
      marks := hl.marks
      quiet := hl.quiet }

/-- Sources without reactions change no unit. -/
theorem Done.calm (h : Done C exactly s r t) (hc : ∀ n ∈ C, n < 256 → (sourceCfg s n).2.1 = 0) : Machine.calm t = Machine.calm r :=
  h.quiet (fun n hl hn => hn.elim (fun hm => hc n hm hl) False.elim)

section
variable {i : Instr} {f : State → State}

theorem exec_done (hi : exec i s = .next (event s f)) (h : Live s) (he : Effects C E s (f s)) :
    ∃ t, exec i s = .next t ∧ Done C E s (f s) t := by
  obtain ⟨t, ht, -, hends⟩ := exec_adds hi h he.to_adds he.begun
  exact ⟨t, ht, he.done h.reports hends⟩

theorem exec_host_done (hi : exec i s = .next (hostEvent s f)) (h : Awake s) (he : Effects C E s (f s)) :
    ∃ t, exec i s = .next t ∧ Done C E s (f s) t := by
  obtain ⟨t, ht, -, hends⟩ := exec_host_adds hi h he.to_adds he.begun
  exact ⟨t, ht, he.done h.reports hends⟩

/-- What every reaction respects, the end of an event respects. -/
theorem Stable.done {R : State → State → Prop} (h : Stable R) (hi : Machine.exec i s = .next (event s f)) (hl : Live s)
    (he : Effects C E s (f s)) (ht : Machine.exec i s = .next t) : R (f s) t := h.exec hi hl he.to_adds he.begun ht

/-- An event that reports a source that calls for the safe state. -/
theorem Effects.unlit {src : Nat} (he : Effects C E s (f s)) (hi : exec i s = .next (event s f)) (h : Live s)
    (ht : exec i s = .next t) (hc : src ∈ C) (hl : src < 256) (h12 : src ≠ 0x12) (hn : ¬ E src)
    (h0 : bitAt (sourceCfg s src).2.1 0 = true) : Unlit t.pins := exec_adds_unlit hi h he.to_adds he.begun ht hc hl h12 hn h0

end

/-! ### A command that goes on -/

/-- What is left of the host interface but for events and vectors. -/
def events (s : State) : Hmi := evtCore s.hmi

theorem inFlight_of_events {a b : State} (h : events a = events b) : a.hmi.inFlight = b.hmi.inFlight := (congrArg Hmi.inFlight h :)

theorem Effects.harmless (h : Effects C E s r) (hs : s.reports = []) (hc : ∀ n, n < 256 → n ∈ C ∨ E n → (sourceCfg s n).2.1 = 0) :
    harmless r := by
  intro q hq hn
  rcases h.news q hq with hq | rfl | ⟨hl, -, hm⟩
  · rw [hs] at hq
    cases hq
  · rfl
  · rw [reactionOf, hn, sourceCfg_map' h.map]
    dsimp only
    rw [hc q.source hl (hm.symm.imp (·.1) id)]
    simp

variable {op : Nat} {c : Cmd} {sh : List (Nat × Nat)} {i : Instr}

/-- A served command that goes on, and stays in flight. -/
theorem exec_later_done (hi : exec i s = .next (hostEvent s (fun s => message s op c sh))) (h : Serving s op c)
    (hr : runOp (enterFlight s (arriving s op c sh)) (arriving s op c sh) = (r, .later))
    (he : Effects C E (enterFlight s (arriving s op c sh)) r) : ∃ t, exec i s = .next t ∧
      Done C E (enterFlight s (arriving s op c sh)) r t ∧
      (harmless r → events r = events (enterFlight s (arriving s op c sh)) → t.hmi.inFlight = [arriving s op c sh]) := by
  have hflight : (enterFlight s (arriving s op c sh)).hmi.inFlight = [arriving s op c sh] := by simp [enterFlight, h.alone]
  have hwait : noWait (enterFlight s (arriving s op c sh)) := by rw [noWait, hflight]; rfl
  obtain ⟨t, ht, hends⟩ := exec_host_ends hi h.awake (message_later h hr) (he.waits hwait) he.act he.pending
  refine ⟨t, ht, he.done h.reports hends, fun hh hev => ?_⟩
  rw [inFlight_of_events (show events t = events r from (hends.records hh).events), inFlight_of_events hev, hflight]

/-- A served command that answers at once, from an operation that completes no other. -/
theorem exec_answers_done (hi : exec i s = .next (hostEvent s (fun s => message s op c sh))) (h : Serving s op c) {st : Status}
    {res : List Byte} (hr : runOp (enterFlight s (arriving s op c sh)) (arriving s op c sh) = (r, .now st res))
    (he : Effects C E (enterFlight s (arriving s op c sh)) r) (hev : events r = events (enterFlight s (arriving s op c sh)))
    (ho : s.outs <:+ r.outs) (hg : r.regs = s.regs) (ht : r.tsc = s.tsc) :
    ∃ t, exec i s = .next t ∧ Answers s t (arriving s op c sh) st res ∧
      Done C E (enterFlight s (arriving s op c sh)) (complete r (arriving s op c sh).id st res) t := by
  obtain ⟨t, hx, hans, -, -, hends⟩ := exec_answers_reacts hi h hr hev ho hg ht he.act he.pending
  exact ⟨t, hx, hans, (he.posts (complete_adds r _ st res)).done h.reports hends⟩

end
end Sys2Proof.Machine
end


section
/-! The operations on the laser banks: what each makes of its bank, and what it leaves alone (R326–R338). -/

namespace Sys2Proof.Machine

/-! ### Loops that treat each index once -/

/-- An invariant of a loop over indices. -/
theorem forN_inv {I : Nat → State → Prop} {f : State → Nat → State} {N : Nat} {s : State} (h0 : I 0 s)
    (step : ∀ i t, i < N → I i t → I (i + 1) (f t i)) : I N (forN N f s) := by
  have upTo : ∀ n, n ≤ N → I n (forN n f s) := by
    intro n
    induction n with
    | zero => exact fun _ => h0
    | succ n ih =>
      intro hn
      have he : forN (n + 1) f s = f (forN n f s) n := by
        simp only [forN, List.range_succ, List.foldl_append, List.foldl_cons, List.foldl_nil]
      rw [he]
      exact step n _ hn (ih (by omega))
  exact upTo N (Nat.le_refl _)

/-! ### What is sent, and the commands in flight -/

/-- Of the host interface only events and vectors have changed, and nothing sent is taken back. -/
structure Sends (s r : State) : Prop where
  events : Machine.events r = Machine.events s
  outs : s.outs <:+ r.outs

theorem Sends.refl (s : State) : Sends s s := ⟨rfl, List.suffix_refl _⟩
theorem Sends.trans {a b c : State} (h : Sends a b) (k : Sends b c) : Sends a c := ⟨k.events.trans h.events, h.outs.trans k.outs⟩
theorem Sends.units {s r t : State} (h : Sends s r) (e : (t.hmi, t.outs) = (r.hmi, r.outs)) : Sends s t := by
  obtain ⟨hh, ho⟩ := Prod.mk.inj e
  exact ⟨by rw [Machine.events, hh]; exact h.events, ho ▸ h.outs⟩
theorem Sends.emit {s r : State} (h : Sends s r) (o : Output) : Sends s (Machine.emit r o) :=
  ⟨h.events, h.outs.trans (List.suffix_cons _ _)⟩
theorem Sends.post {s r : State} (h : Sends s r) (c u : Nat) (p : List Byte) : Sends s (Machine.post r c u p) :=
  h.trans ⟨(post_posts r c u p).events, (post_posts r c u p).outs⟩
theorem Sends.signal {s r : State} (h : Sends s r) (v : Nat) : Sends s (Machine.signal r v) :=
  h.trans ⟨(signal_posts r v).events, (signal_posts r v).outs⟩
theorem Sends.bump {s r : State} (h : Sends s r) (off : Nat) : Sends s (Machine.bump r off) :=
  h.trans ⟨(bump_mild r off).events, (bump_mild r off).outs⟩
theorem Sends.ite {s a b : State} (c : Prop) [Decidable c] (ha : Sends s a) (hb : Sends s b) : Sends s (if c then a else b) := by
  split <;> assumption
theorem Sends.foldl {β : Type} {f : State → β → State} (h : ∀ s x, Sends s (f s x)) (l : List β) (s : State) : Sends s (l.foldl f s) :=
  List.foldlRecOn l f (motive := fun t => Sends s t) (.refl s) (fun t ht x _ => ht.trans (h t x))
theorem Sends.forN {f : State → Nat → State} (h : ∀ s x, Sends s (f s x)) (n : Nat) (s : State) : Sends s (Machine.forN n f s) :=
  .foldl h _ s
theorem Sends.forMask {f : State → Nat → State} (h : ∀ s x, Sends s (f s x)) (n m : Nat) (s : State) :
    Sends s (Machine.forMask n m f s) := .forN (fun s x => .ite _ (h s x) (.refl s)) n s

/-! ### What the light path's operations leave alone -/

/-- A state without the light path: its units, the loop slots, the outputs, the scanner. -/
def dimmed (s : State) : State := { calm s with lsd := {}, pins := {}, lpe := {}, hls := {} }

theorem dimmed_of_calm {a b : State} (h : calm a = calm b) : dimmed a = dimmed b :=
  congrArg (fun x : State => { x with lsd := {}, pins := {}, lpe := {}, hls := {} }) h

theorem calm_of_dimmed {s t : State} (h : dimmed t = dimmed s) : calm t = calm { s with
    lsd := t.lsd
    pins := t.pins
    lpe := t.lpe
    hls := t.hls } :=
  congrArg (fun x : State => { x with lsd := t.lsd, pins := t.pins, lpe := t.lpe, hls := t.hls }) h

theorem dimmed_eq {α : Type} (g : State → α) {a b : State} (h : dimmed a = dimmed b)
    (hg : ∀ x : State, g x = g (dimmed x) := by intro _; rfl) : g a = g b := by rw [hg a, h, ← hg b]

theorem dimmed_foldl {β : Type} {f : State → β → State} (h : ∀ s x, dimmed (f s x) = dimmed s) (l : List β) (s : State) :
    dimmed (l.foldl f s) = dimmed s := List.foldlRecOn l f (motive := fun t => dimmed t = dimmed s) rfl (fun t ht x _ => (h t x).trans ht)

theorem dimmed_forN {f : State → Nat → State} (h : ∀ s x, dimmed (f s x) = dimmed s) (n : Nat) (s : State) :
    dimmed (forN n f s) = dimmed s := dimmed_foldl h _ s

theorem dimmed_forMask {f : State → Nat → State} (h : ∀ s x, dimmed (f s x) = dimmed s) (n m : Nat) (s : State) :
    dimmed (forMask n m f s) = dimmed s := dimmed_forN (fun s x => by split; exacts [h s x, rfl]) n s

/-- What the light path's operations count without its number being told: tallies, and the windows judged. -/
def lightNoise (n : Nat) : Prop := 256 ≤ n ∨ n = 0x70 ∨ n = 0x71

theorem lightNoise_quiet {s : State} (n : Nat) (hl : n < 256) (h : lightNoise n) : (sourceCfg s n).2.1 = 0 := by
  rcases h with h | rfl | rfl
  · omega
  · rfl
  · rfl

section
variable {C : List Nat} {E : Nat → Prop} {s r : State} {b q : Nat}

/-! ### One bank -/

theorem bankAt_modBank_same (h : b < 12) (f : Bank → Bank) : bankAt (modBank s b f) b = f (bankAt s b) := vget_vmod_same _ h _ _
theorem bankAt_modBank_ne (h : q ≠ b) (f : Bank → Bank) : bankAt (modBank s b f) q = bankAt s q := vget_vmod_ne _ (Ne.symm h) _ _
theorem bankAt_of_calm {a b : State} (h : calm a = calm b) (q : Nat) : bankAt a q = bankAt b q := calm_eq (fun s => bankAt s q) h
theorem bankAt_of_lsd {a b : State} (h : a.lsd.bank = b.lsd.bank) (q : Nat) : bankAt a q = bankAt b q := by rw [bankAt, h]; rfl

/-- A bank that is not DISABLED is one of the twelve. -/
theorem bank_lt (h : (bankAt s b).mode ≠ .disabled) : b < 12 := by
  by_contra hb
  refine h ?_
  rw [bankAt, vget, List.getD_eq_getElem?_getD, List.getElem?_eq_none (by simp; omega)]
  rfl

theorem modBank_effects (s : State) (b : Nat) (f : Bank → Bank) : Effects [] E s (modBank s b f) := ((Effects.refl E s).units (by rfl))

/-- What a change of a bank's drive leaves of it: all but its state, its code, its pulse and its windows. -/
def rested (x : Bank) : Bank :=
  { x with
    mode := .disabled
    cause := 0
    unverified := false
    code := 0
    codeAt := 0
    winAny := false
    winOpen := true
    winHigh := false
    ended := none
    windowAt := 0
    openRun := 0
    highRun := 0
    pulse := none }

theorem rested_eq {α : Type} (g : Bank → α) {x y : Bank} (h : rested y = rested x)
    (hg : ∀ x : Bank, g x = g (rested x) := by intro _; rfl) : g y = g x := by rw [hg y, h, ← hg x]

/-! ### A bank takes a state -/

/-- The bank with its state and cause. -/
def marked (t : Nat) (m : BankMode) (cause : Nat) (x : Bank) : Bank :=
  let leaves := x.mode == .armed && m != .armed
  let stands := x.mode == .armed && decide (x.code ≠ 0) && decide (x.codeAt + 375 ≤ t) && x.winAny
  { x with
    mode := m
    cause := cause
    code := if leaves then 0 else x.code
    codeAt := if leaves then t else x.codeAt
    pulse := if leaves then none else x.pulse
    ended := if leaves && stands then some (x.winHigh, !x.winHigh && x.winOpen) else x.ended }

theorem bankMark_eq (s : State) (b : Nat) (m : BankMode) (c : Nat) : bankMark s b m c = modBank s b (marked s.tsc m c) := rfl

theorem marked_rested (t : Nat) (m : BankMode) (c : Nat) (x : Bank) : rested (marked t m c x) = rested x := rfl

theorem clearBankSlot_units (s : State) (b : Nat) : ∃ L, clearBankSlot s b = { s with lpe := L } := by
  unfold clearBankSlot
  split
  · exact ⟨_, rfl⟩
  · exact ⟨s.lpe, rfl⟩

/-- The bank's LASER_EN is low, and its light tests have ended. -/
def bankDark (s : State) (b : Nat) : State := { s with
  pins := { s.pins with laserEn := s.pins.laserEn &&& (0xFFF ^^^ 2 ^ b) }
  lsd := { s.lsd with pulses := s.lsd.pulses.filter (fun q => q.bank != b) } }

theorem bankLeave_eq (s : State) (b : Nat) : bankLeave s b =
    clearBankSlot (if (bankAt s b).linkRun then sendDrive (bankDark s b) b 0 else bankDark s b) b := rfl

/-- A bank that leaves ARMED changes no bank. -/
theorem bankLeave_units (s : State) (b : Nat) : ∃ π u L o, bankLeave s b = { s with
    pins := π
    lsd := { s.lsd with pulses := u }
    lpe := L
    outs := o } ∧ (∀ x ∈ s.outs, x ∈ o) ∧
    ((bankAt s b).linkRun = true → Output.dlink b (dlinkFrame (bankAt s b).version 1 0 (driveFine s b)) ∈ o) := by
  rw [bankLeave_eq]
  split
  · obtain ⟨L, hL⟩ := clearBankSlot_units (sendDrive (bankDark s b) b 0) b
    exact ⟨_, _, L, _, hL, fun x hx => List.mem_cons_of_mem _ hx, fun _ => List.mem_cons_self⟩
  · rename_i hrun
    obtain ⟨L, hL⟩ := clearBankSlot_units (bankDark s b) b
    exact ⟨_, _, L, _, hL, fun x hx => hx, fun h => absurd h hrun⟩

theorem bankLeave_effects (s : State) (b : Nat) : Effects [] E s (bankLeave s b) := by
  have h1 : Effects [] E s (bankDark s b) := ((Effects.refl E s).units (by rfl))
  have h2 : Effects [] E s (if (bankAt s b).linkRun then sendDrive (bankDark s b) b 0 else bankDark s b) := .ite _ (h1.emit _) h1
  obtain ⟨L, hL⟩ := clearBankSlot_units (if (bankAt s b).linkRun then sendDrive (bankDark s b) b 0 else bankDark s b) b
  rw [bankLeave_eq, hL]
  exact (h2.units (by rfl))

theorem post_effects (s : State) (c u : Nat) (p : List Byte) : Effects [] E s (post s c u p) := (post_adds s c u p).effects

theorem setBank_effects (s : State) (b : Nat) (m : BankMode) (c : Nat) : Effects [] E s (setBank s b m c) := by
  unfold setBank
  extract_lets s0 s1
  have h0 : Effects [] E s s0 := modBank_effects s b _
  have h1 : Effects [] E s s1 := .ite _ (h0.units (by rfl)) h0
  exact (Effects.ite _ (h1.quiet (bankLeave_effects s1 b)) h1).quiet (post_effects _ _ _ _)

theorem calm_postBank (s : State) (b : Nat) (m : BankMode) : calm (postBank s b m) = calm s := calm_post _ _ _ _

theorem bankLeave_sends (s : State) (b : Nat) : Sends s (bankLeave s b) := by
  have h1 : Sends s (bankDark s b) := ((Sends.refl s).units (by rfl))
  have h2 : Sends s (if (bankAt s b).linkRun then sendDrive (bankDark s b) b 0 else bankDark s b) := .ite _ (h1.emit _) h1
  obtain ⟨L, hL⟩ := clearBankSlot_units (if (bankAt s b).linkRun then sendDrive (bankDark s b) b 0 else bankDark s b) b
  rw [bankLeave_eq, hL]
  exact (h2.units (by rfl))

theorem setBank_sends (s : State) (b : Nat) (m : BankMode) (c : Nat) : Sends s (setBank s b m c) := by
  unfold setBank
  extract_lets s0 s1
  have h0 : Sends s s0 := ((Sends.refl s).units (by rfl))
  have h1 : Sends s s1 := .ite _ (h0.units (by rfl)) h0
  exact (Sends.ite _ (h1.trans (bankLeave_sends s1 b)) h1).post _ _ _

theorem setBank_dimmed (s : State) (b : Nat) (m : BankMode) (c : Nat) : dimmed (setBank s b m c) = dimmed s := by
  unfold setBank
  extract_lets s0 s1
  have h1 : dimmed s1 = dimmed s := by
    simp only [s1]
    split <;> rfl
  refine (dimmed_of_calm (calm_postBank _ _ _)).trans ?_
  split
  · obtain ⟨π, u, L, o, hx, -⟩ := bankLeave_units s1 b
    rw [hx]
    exact h1
  · exact h1

theorem setBank_bank (s : State) (b : Nat) (m : BankMode) (c : Nat) :
    (setBank s b m c).lsd.bank = vmod s.lsd.bank b (marked s.tsc m c) := by
  unfold setBank
  extract_lets s0 s1
  have h1 : s1.lsd.bank = vmod s.lsd.bank b (marked s.tsc m c) := by
    simp only [s1]
    split <;> rfl
  refine (calm_eq (·.lsd.bank) (calm_postBank _ _ _)).trans ?_
  split
  · obtain ⟨π, u, L, o, hx, -⟩ := bankLeave_units s1 b
    rw [hx]
    exact h1
  · exact h1

theorem bankAt_setBank_same (h : b < 12) (m : BankMode) (c : Nat) : bankAt (setBank s b m c) b = marked s.tsc m c (bankAt s b) := by
  rw [bankAt_of_lsd (b := modBank s b (marked s.tsc m c)) (setBank_bank s b m c), bankAt_modBank_same h]

theorem bankAt_setBank_ne (h : q ≠ b) (m : BankMode) (c : Nat) : bankAt (setBank s b m c) q = bankAt s q := by
  rw [bankAt_of_lsd (b := modBank s b (marked s.tsc m c)) (setBank_bank s b m c), bankAt_modBank_ne h]

/-- A bank that does not leave ARMED, and does not enter SAFE: its own change is all. -/
theorem calm_setBank {m : BankMode} (h : (bankAt s b).mode ≠ .armed ∨ m = .armed) (hm : m ≠ .safe) (c : Nat) :
    calm (setBank s b m c) = calm (modBank s b (marked s.tsc m c)) := by
  have hno : ((bankAt s b).mode == .armed && m != .armed) = false := by
    rcases h with h | h
    · simp [h]
    · simp [h]
  have hs : (m == BankMode.safe) = false := by simp [hm]
  unfold setBank
  extract_lets s0 s1
  refine (calm_postBank _ _ _).trans ?_
  rw [if_neg (by rw [hno]; decide)]
  simp only [s1, hs]
  rfl

/-- A bank that was not ARMED enters SAFE. -/
theorem calm_setBank_safe (h : (bankAt s b).mode ≠ .armed) (c : Nat) :
    calm (setBank s b .safe c) = calm (hlOff (modBank s b (marked s.tsc .safe c))) := by
  have hno : ((bankAt s b).mode == .armed && BankMode.safe != .armed) = false := by simp [h]
  unfold setBank
  extract_lets s0 s1
  refine (calm_postBank _ _ _).trans ?_
  rw [if_neg (by rw [hno]; decide)]
  rfl

/-! ### The applied code -/

theorem bump_effects (s : State) (off : Nat) (h6 : 256 ≤ off) (hu : unitTally off = true) : Effects [] lightNoise s (bump s off) :=
  (bump_adds s hu h6).effects.drop (fun n hn => by rw [List.mem_singleton.mp hn]; exact .inl h6)

theorem bankBase_big (b k : Nat) : 256 ≤ bankBase b + k := by
  simp only [bankBase]
  omega

theorem unitTally_bank (b k : Nat) : unitTally (bankBase b + k) = true := by
  have h1 : bankBase b + k ≠ offEvtLost := by simp only [bankBase, offEvtLost]; omega
  have h2 : bankBase b + k ≠ offCmdTally := by simp only [bankBase, offCmdTally]; omega
  have h3 : ¬ (0x40080 ≤ bankBase b + k ∧ bankBase b + k < 0x42000) := by simp only [bankBase]; omega
  simp [unitTally, h1, h2, h3]

/-- A bank whose window has been judged. -/
def judgedBank (now : Nat) (high opn : Bool) (x : Bank) : Bank :=
  { x with
    openRun := if opn then x.openRun + 1 else 0
    highRun := if high then x.highRun + 1 else 0
    unverified := x.unverified && (opn || high)
    windowAt := now
    ended := none
    winAny := false }

/-- A window has been judged, and counted where it read high or open. -/
def judged (s : State) (b : Nat) (high opn : Bool) : State :=
  if opn || high then bump (modBank s b (judgedBank s.tsc high opn)) (bankBase b + 0x20) else modBank s b (judgedBank s.tsc high opn)

/-- An ARMED bank goes to OPEN. -/
def openBank (s : State) (b cause : Nat) : State := if (bankAt s b).mode == .armed then setBank s b .opened cause else s

theorem judgeWindow_eq (s : State) (b : Nat) (high opn : Bool) : judgeWindow s b high opn =
    if 2 ≤ (bankAt (judged s b high opn) b).openRun then report (openBank (judged s b high opn) b 4) { source := 0x70, master := b }
    else if 2 ≤ (bankAt (judged s b high opn) b).highRun then
      report (openBank (judged s b high opn) b 5) { source := 0x71, master := b }
    else judged s b high opn := rfl

theorem calm_judged (s : State) (b : Nat) (high opn : Bool) :
    calm (judged s b high opn) = calm (modBank s b (judgedBank s.tsc high opn)) := by
  unfold judged
  split
  · exact calm_bump _ _
  · rfl

theorem judged_effects (s : State) (b : Nat) (high opn : Bool) : Effects [] lightNoise s (judged s b high opn) :=
  have h1 : Effects [] lightNoise s (modBank s b (judgedBank s.tsc high opn)) := modBank_effects s b _
  .ite _ (h1.quiet (bump_effects _ _ (bankBase_big _ _) (unitTally_bank _ _))) h1

theorem judgeWindow_effects (s : State) (b : Nat) (high opn : Bool) : Effects [] lightNoise s (judgeWindow s b high opn) := by
  have h2 := judged_effects s b high opn
  have ho (c : Nat) : Effects [] lightNoise s (openBank (judged s b high opn) b c) := .ite _ (h2.quiet (setBank_effects _ _ _ _)) h2
  rw [judgeWindow_eq]
  refine .ite _ ?_ (.ite _ ?_ h2)
  · exact ((ho 4).report { source := 0x70, master := b }).drop (fun n hn => by
      rw [List.nil_append, List.mem_singleton] at hn
      exact .inr (.inl hn))
  · exact ((ho 5).report { source := 0x71, master := b }).drop (fun n hn => by
      rw [List.nil_append, List.mem_singleton] at hn
      exact .inr (.inr hn))

theorem endWindow_effects (s : State) (b : Nat) : Effects [] lightNoise s (endWindow s b) :=
  .ite _ (judgeWindow_effects _ _ _ _) (.refl _ s)

theorem applyCode_effects (s : State) (b : Nat) (force : Bool) : Effects [] lightNoise s (applyCode s b force) := by
  unfold applyCode
  refine .ite _ ?_ (.refl _ s)
  extract_lets r s1 s2
  have h1 : Effects [] lightNoise s s1 := .ite _ (bump_effects _ _ (bankBase_big _ _) (unitTally_bank _ _)) (.refl _ s)
  have h2 : Effects [] lightNoise s s2 := .ite _ h1 (h1.quiet (endWindow_effects _ _))
  exact .ite _ (.ite _ (.ite _ (h2.emit _) h2) ((h2.quiet (modBank_effects _ _ _)).emit _)) h2

theorem modBank_dimmed (s : State) (b : Nat) (f : Bank → Bank) : dimmed (modBank s b f) = dimmed s := rfl

theorem judgeWindow_sends (s : State) (b : Nat) (high opn : Bool) : Sends s (judgeWindow s b high opn) := by
  have h1 : Sends s (modBank s b (judgedBank s.tsc high opn)) := ((Sends.refl s).units (by rfl))
  have h2 : Sends s (judged s b high opn) := .ite _ (h1.bump _) h1
  have ho (c : Nat) : Sends s (openBank (judged s b high opn) b c) := .ite _ (h2.trans (setBank_sends _ _ _ _)) h2
  rw [judgeWindow_eq]
  exact .ite _ ((ho 4).units (by rfl)) (.ite _ ((ho 5).units (by rfl)) h2)

theorem judgeWindow_dimmed (s : State) (b : Nat) (high opn : Bool) : dimmed (judgeWindow s b high opn) = dimmed s := by
  have h2 : dimmed (judged s b high opn) = dimmed s := by rw [dimmed_of_calm (calm_judged s b high opn), modBank_dimmed]
  have ho (c : Nat) (q : Report) : dimmed (report (openBank (judged s b high opn) b c) q) = dimmed s := by
    rw [dimmed_of_calm (calm_report _ _), openBank]
    split
    · rw [setBank_dimmed, h2]
    · exact h2
  rw [judgeWindow_eq]
  split
  · exact ho _ _
  · split
    · exact ho _ _
    · exact h2

theorem endWindow_dimmed (s : State) (b : Nat) : dimmed (endWindow s b) = dimmed s := by
  unfold endWindow
  extract_lets x
  split
  · exact judgeWindow_dimmed _ _ _ _
  · rfl

theorem sendDrive_dimmed (s : State) (b c : Nat) : dimmed (sendDrive s b c) = dimmed s := rfl

theorem applyCode_dimmed (s : State) (b : Nat) (force : Bool) : dimmed (applyCode s b force) = dimmed s := by
  unfold applyCode
  split
  · extract_lets r s1 s2
    have h1 : dimmed s1 = dimmed s := by
      simp only [s1]
      split
      · exact dimmed_of_calm (calm_bump _ _)
      · rfl
    have h2 : dimmed s2 = dimmed s := by
      simp only [s2]
      split
      · exact h1
      · exact (endWindow_dimmed _ _).trans h1
    clear_value s2
    split
    · split
      · split
        · rw [sendDrive_dimmed, h2]
        · exact h2
      · rw [sendDrive_dimmed, modBank_dimmed, h2]
    · exact h2
  · rfl

theorem applyCode_sends (s : State) (b : Nat) (force : Bool) : Sends s (applyCode s b force) := by
  unfold applyCode
  refine .ite _ ?_ (.refl s)
  extract_lets r s1 s2
  have h1 : Sends s s1 := .ite _ ((Sends.refl s).bump _) (.refl s)
  have h2 : Sends s s2 := .ite _ h1 (h1.trans (.ite _ (judgeWindow_sends _ _ _ _) (.refl s1)))
  exact .ite _ (.ite _ (.ite _ (h2.emit _) h2) ((h2.units (t := modBank s2 b (fun x => { x with
    code := r.1, codeAt := s.tsc, winAny := false, winOpen := true, winHigh := false })) (by rfl)).emit _)) h2

/-- The bank with an applied code from now on. -/
def coded (t c : Nat) (x : Bank) : Bank :=
  { x with
    code := c
    codeAt := t
    winAny := false
    winOpen := true
    winHigh := false }

/-- The code of a bank at the level in force. -/
def codeInForce (s : State) (b : Nat) : Nat × Bool :=
  match bankLevel s b with
  | none => (0, false)
  | some l => appliedCode s b l (bankTrim s b)

/-- A bank on which no window stands takes its code, and nothing else changes. -/
theorem calm_applyCode_fresh (hb : b < 12) (hm : (bankAt s b).mode = .armed) (hw : (bankAt s b).winAny = false) (force : Bool) :
    ∃ f : Bank → Bank, calm (applyCode s b force) = calm (modBank s b f) ∧ (∀ x, rested (f x) = rested x) ∧
      (∀ x, (f x).mode = x.mode ∧ (f x).cause = x.cause) ∧ (f (bankAt s b)).code = (codeInForce s b).1 := by
  have hmod : calm (modBank s b id) = calm s := by
    have : modBank s b id = s := by
      simp only [modBank, vmod]
      split <;> simp
    rw [this]
  unfold applyCode
  rw [if_pos (by simp [hm])]
  extract_lets r s1 s2
  have hr : r = codeInForce s b := rfl
  have h1 : calm s1 = calm s := by
    simp only [s1]
    split
    · exact calm_bump _ _
    · rfl
  have hb1 : bankAt s1 b = bankAt s b := bankAt_of_calm h1 b
  have h2 : s2 = s1 := by
    simp only [s2]
    split
    · rfl
    · unfold endWindow
      extract_lets x
      refine if_neg ?_
      simp [windowStands, x, hb1, hw]
  rw [h2, if_pos (by rw [hb1]; simp [hm]), hb1]
  split
  · rename_i he
    refine ⟨id, ?_, fun _ => rfl, fun _ => ⟨rfl, rfl⟩, by rw [← hr]; exact he.symm⟩
    rw [hmod]
    split
    · exact h1
    · exact h1
  · refine ⟨coded s.tsc r.1, ?_, fun _ => rfl, fun _ => ⟨rfl, rfl⟩, by rw [← hr]; rfl⟩
    have hl : s1.lsd = s.lsd := (calm_eq (·.lsd) h1 :)
    show calm { s1 with lsd := { s1.lsd with bank := vmod s1.lsd.bank b (coded s.tsc r.1) } } = _
    rw [hl]
    exact calm_with_lsd h1 _

/-! ### Arming -/

/-- LASER_EN of a bank is high. -/
def laserOn (s : State) (b : Nat) : State := { s with pins := { s.pins with laserEn := s.pins.laserEn ||| 2 ^ b } }

/-- A bank about to be armed: its windows begin anew. -/
def anew (t : Nat) (x : Bank) : Bank :=
  { x with
    openRun := 0
    highRun := 0
    winAny := false
    winOpen := true
    winHigh := false
    ended := none
    codeAt := t
    windowAt := t }

theorem armBank_eq (s : State) (b c : Nat) :
    armBank s b c = applyCode (setBank (modBank (laserOn s b) b (anew s.tsc)) b .armed c) b true := rfl

theorem modBank_modBank (s : State) (b : Nat) (f g : Bank → Bank) : modBank (modBank s b f) b g = modBank s b (fun x => g (f x)) := by
  simp only [modBank, vmod_vmod]

theorem calm_modBank {a b : State} (h : calm a = calm b) (q : Nat) (f : Bank → Bank) : calm (modBank a q f) = calm (modBank b q f) := by
  have hl : a.lsd = b.lsd := (calm_eq (·.lsd) h :)
  unfold modBank
  rw [hl]
  exact calm_with_lsd h _

/-- A bank is armed: beside its own state only its LASER_EN changes. -/
theorem calm_armBank (hb : b < 12) (c : Nat) : ∃ f : Bank → Bank, calm (armBank s b c) = calm (modBank (laserOn s b) b f) ∧
    (f (bankAt s b)).mode = .armed ∧ rested (f (bankAt s b)) = rested (bankAt s b) := by
  have hset : calm (setBank (modBank (laserOn s b) b (anew s.tsc)) b .armed c) =
      calm (modBank (modBank (laserOn s b) b (anew s.tsc)) b (marked s.tsc .armed c)) := calm_setBank (.inr rfl) (by decide) c
  have hs2 : bankAt (modBank (laserOn s b) b (anew s.tsc)) b = anew s.tsc (bankAt s b) := bankAt_modBank_same (s := laserOn s b) hb _
  have hat : bankAt (setBank (modBank (laserOn s b) b (anew s.tsc)) b .armed c) b = marked s.tsc .armed c (anew s.tsc (bankAt s b)) := by
    rw [bankAt_setBank_same hb, hs2]
    rfl
  rw [armBank_eq]
  obtain ⟨f, hf, hr, hm, -⟩ := calm_applyCode_fresh hb (by rw [hat]; rfl) (by rw [hat]; rfl) true
  refine ⟨fun x => f (marked s.tsc .armed c (anew s.tsc x)), ?_, (hm _).1, (hr _).trans rfl⟩
  rw [hf, calm_modBank hset, modBank_modBank, modBank_modBank]

theorem armBank_effects (s : State) (b c : Nat) : Effects [] lightNoise s (armBank s b c) := by
  have h2 : Effects [] lightNoise s (modBank (laserOn s b) b (anew s.tsc)) := ((Effects.refl _ s).units (by rfl))
  rw [armBank_eq]
  exact (h2.quiet (setBank_effects _ _ _ _)).quiet (applyCode_effects _ _ _)

theorem armBank_sends (s : State) (b c : Nat) : Sends s (armBank s b c) := by
  have h2 : Sends s (modBank (laserOn s b) b (anew s.tsc)) := ((Sends.refl s).units (by rfl))
  rw [armBank_eq]
  exact (h2.trans (setBank_sends _ _ _ _)).trans (applyCode_sends _ _ _)

/-! ### Leaving the safe state -/

/-- The safe state is no longer in force. -/
def safeOver (s : State) : State := { s with lsd := { s.lsd with safeOn := false } }

/-- SAFE_STATE has been posted where it was in force. -/
def safeLeft (s : State) : State := if s.lsd.safeOn then postSafe (safeOver s) false else s

/-- The highlight lasers' arming level starts from 0. -/
def hlFromZero (s : State) (t : Nat) : State := { s with hls := { s.hls with yH := 0, yHStart := some t } }

theorem leaveSafe_eq (was : Bool) (s : State) :
    leaveSafe was s = if anySafe s then s else if was then hlFromZero (safeLeft s) s.tsc else safeLeft s := rfl

theorem calm_safeLeft (s : State) : ∃ on, calm (safeLeft s) = calm { s with lsd := { s.lsd with safeOn := on } } := by
  unfold safeLeft
  split
  · exact ⟨false, calm_post _ _ _ _⟩
  · exact ⟨s.lsd.safeOn, rfl⟩

theorem calm_leaveSafe (was : Bool) (s : State) : ∃ on h, calm (leaveSafe was s) = calm { s with
    lsd := { s.lsd with safeOn := on }
    hls := h } := by
  rw [leaveSafe_eq]
  split
  · exact ⟨s.lsd.safeOn, s.hls, rfl⟩
  · obtain ⟨on, h1⟩ := calm_safeLeft s
    split
    · exact ⟨on, _, calm_with_hls h1 _⟩
    · exact ⟨on, s.hls, h1⟩

theorem leaveSafe_effects (was : Bool) (s : State) : Effects [] E s (leaveSafe was s) := by
  have h0 : Effects [] E s (safeOver s) := ((Effects.refl E s).units (by rfl))
  have h1 : Effects [] E s (safeLeft s) := .ite _ (h0.quiet (post_effects _ _ _ _)) (.refl E s)
  rw [leaveSafe_eq]
  exact .ite _ (.refl E s) (.ite _ (h1.units (t := hlFromZero (safeLeft s) s.tsc) (by rfl)) h1)

theorem leaveSafe_sends (was : Bool) (s : State) : Sends s (leaveSafe was s) := by
  have h0 : Sends s (safeOver s) := ((Sends.refl s).units (by rfl))
  have h1 : Sends s (safeLeft s) := .ite _ (h0.post _ _ _) (.refl s)
  rw [leaveSafe_eq]
  exact .ite _ (.refl s) (.ite _ (h1.units (t := hlFromZero (safeLeft s) s.tsc) (by rfl)) h1)

theorem bankAt_leaveSafe (was : Bool) (s : State) (q : Nat) : bankAt (leaveSafe was s) q = bankAt s q := by
  obtain ⟨on, h, hc⟩ := calm_leaveSafe was s
  exact (bankAt_of_calm hc q).trans rfl

theorem leaveSafe_dimmed (was : Bool) (s : State) : dimmed (leaveSafe was s) = dimmed s := by
  obtain ⟨on, h, hc⟩ := calm_leaveSafe was s
  exact (dimmed_of_calm hc).trans rfl

end
end Sys2Proof.Machine
end


section
/-! LSD_REARM and LSD_SAFE (R326, R330, R337, R338, R340). -/

namespace Sys2Proof.Machine

section
variable {s r : State} {b q m : Nat}

/-! ### The safe state -/

/-- The state that a bank stands in once the light is off. -/
def safeMode : BankMode → BankMode
  | .starting => .safe
  | .paused => .safe
  | .armed => .safe
  | m => m

/-- A bank whose light may be on, or come on. -/
def litMode (m : BankMode) : Bool := m == .starting || m == .paused || m == .armed

theorem litMode_iff (m : BankMode) : litMode m = true ↔ m = .starting ∨ m = .paused ∨ m = .armed := by cases m <;> simp [litMode]

theorem bankOff_lit (h : litMode (bankAt s b).mode = true) : bankOff s b =
    if (bankAt s b).linkRun && (bankAt s b).mode != .armed then sendDrive (setBank s b .safe 3) b 0 else setBank s b .safe 3 :=
  if_pos h

theorem bankOff_dark (h : litMode (bankAt s b).mode = false) : bankOff s b = s := if_neg (by rw [show (_ || _) = litMode _ from rfl, h]; decide)

theorem bankAt_bankOff_same (hb : b < 12) (h : litMode (bankAt s b).mode = true) :
    bankAt (bankOff s b) b = marked s.tsc .safe 3 (bankAt s b) := by
  rw [bankOff_lit h]
  split
  · exact bankAt_setBank_same hb _ _
  · exact bankAt_setBank_same hb _ _

theorem bankAt_bankOff_ne (h : q ≠ b) : bankAt (bankOff s b) q = bankAt s q := by
  by_cases hl : litMode (bankAt s b).mode = true
  · rw [bankOff_lit hl]
    split
    · exact bankAt_setBank_ne h _ _
    · exact bankAt_setBank_ne h _ _
  · rw [bankOff_dark (by simpa using hl)]

theorem bankOff_effects {E : Nat → Prop} (s : State) (b : Nat) : Effects [] E s (bankOff s b) := by
  have h := setBank_effects (E := E) s b .safe 3
  exact .ite _ (.ite _ (h.emit _) h) (.refl E s)

theorem bankOff_sends (s : State) (b : Nat) : Sends s (bankOff s b) := by
  have h := setBank_sends s b .safe 3
  exact .ite _ (.ite _ (h.emit _) h) (.refl s)

theorem bankOff_dimmed (s : State) (b : Nat) : dimmed (bankOff s b) = dimmed s := by
  by_cases hl : litMode (bankAt s b).mode = true
  · rw [bankOff_lit hl]
    split
    · rw [sendDrive_dimmed, setBank_dimmed]
    · exact setBank_dimmed _ _ _ _
  · rw [bankOff_dark (by simpa using hl)]

theorem setBank_shutter (s : State) (b : Nat) (m : BankMode) (c : Nat) : (setBank s b m c).pins.shutterOut = s.pins.shutterOut := by
  have leave (s : State) : (bankLeave s b).pins.shutterOut = s.pins.shutterOut := by
    have h1 : (if (bankAt s b).linkRun then sendDrive (bankDark s b) b 0 else bankDark s b).pins.shutterOut = s.pins.shutterOut := by
      split <;> rfl
    obtain ⟨L, hL⟩ := clearBankSlot_units (if (bankAt s b).linkRun then sendDrive (bankDark s b) b 0 else bankDark s b) b
    rw [bankLeave_eq, hL]
    exact h1
  unfold setBank
  extract_lets s0 s1
  have h1 : s1.pins.shutterOut = s.pins.shutterOut := by
    simp only [s1]
    split <;> rfl
  refine (calm_eq (·.pins.shutterOut) (calm_postBank _ _ _) :).trans ?_
  split
  · exact (leave s1).trans h1
  · exact h1

theorem bankOff_shutter (s : State) (b : Nat) : (bankOff s b).pins.shutterOut = s.pins.shutterOut := by
  by_cases hl : litMode (bankAt s b).mode = true
  · rw [bankOff_lit hl]
    split
    · exact setBank_shutter _ _ _ _
    · exact setBank_shutter _ _ _ _
  · rw [bankOff_dark (by simpa using hl)]

/-- The frame DRIVE 0 on a bank's link now. -/
def driveZero (s : State) (b : Nat) : Output := .dlink b (dlinkFrame (bankAt s b).version 1 0 (driveFine s b))

theorem driveZero_marked {t : State} (hb : bankAt t b = bankAt s b) (ht : t.tsc = s.tsc) : driveZero t b = driveZero s b := by
  rw [driveZero, driveFine, hb, ht]
  rfl

theorem setBank_tsc (s : State) (b : Nat) (m : BankMode) (c : Nat) : (setBank s b m c).tsc = s.tsc :=
  dimmed_eq (·.tsc) (setBank_dimmed s b m c)

/-- The light of a bank that goes off is told to its driver, while its link runs. -/
theorem bankOff_drives (hb : b < 12) (hl : litMode (bankAt s b).mode = true) (hr : (bankAt s b).linkRun = true) :
    driveZero s b ∈ (bankOff s b).outs := by
  have hz (x : State) (hx : rested (bankAt x b) = rested (bankAt s b)) (ht : x.tsc = s.tsc) : driveZero x b = driveZero s b := by
    have hv : (bankAt x b).version = (bankAt s b).version := rested_eq (·.version) hx
    have hd : (bankAt x b).drvDelay = (bankAt s b).drvDelay := rested_eq (·.drvDelay) hx
    rw [driveZero, driveFine, hv, hd, ht]
    rfl
  rw [bankOff_lit hl]
  by_cases ha : (bankAt s b).mode = .armed
  · rw [if_neg (by simp [ha])]
    have hmark : bankAt (hlOff (bankMark s b .safe 3)) b = marked s.tsc .safe 3 (bankAt s b) := bankAt_modBank_same hb _
    obtain ⟨π, u, L, o, hx, -, hsent⟩ := bankLeave_units (hlOff (bankMark s b .safe 3)) b
    have hmem := hsent (by rw [hmark]; exact hr)
    have heq : setBank s b .safe 3 = postBank (bankLeave (hlOff (bankMark s b .safe 3)) b) b (bankAt s b).mode := by
      unfold setBank
      extract_lets s0 s1
      rw [if_pos (by simp [ha])]
      rfl
    rw [heq]
    refine (post_posts _ _ _ _).outs.subset ?_
    rw [hx, ← hz (hlOff (bankMark s b .safe 3)) (by rw [hmark]; rfl) rfl]
    exact hmem
  · rw [if_pos (by simp [ha, hr])]
    have hmark := bankAt_setBank_same (s := s) hb .safe 3
    rw [← hz (setBank s b .safe 3) (by rw [hmark]; rfl) (setBank_tsc _ _ _ _)]
    exact List.mem_cons_self

/-- What taking the banks off has done up to bank `i`. -/
structure Darkening (s : State) (i : Nat) (t : State) : Prop where
  done : ∀ q, q < i → (bankAt t q).mode = safeMode (bankAt s q).mode
  same : ∀ q, i ≤ q → bankAt t q = bankAt s q
  tsc : t.tsc = s.tsc
  outs : s.outs <:+ t.outs
  sent : ∀ q, q < i → litMode (bankAt s q).mode = true → (bankAt s q).linkRun = true → driveZero s q ∈ t.outs
  shutter : t.pins.shutterOut = s.pins.shutterOut

theorem banksOff (s : State) : Darkening s 12 (forN 12 bankOff s) := by
  refine forN_inv (I := Darkening s) ⟨fun q hq => absurd hq (by omega), fun _ _ => rfl, rfl, List.suffix_refl _,
    fun q hq => absurd hq (by omega), rfl⟩ (fun i t hi h => ?_)
  have hsend := bankOff_sends t i
  have hti : bankAt t i = bankAt s i := h.same i (Nat.le_refl _)
  have hown : (bankAt (bankOff t i) i).mode = safeMode (bankAt s i).mode := by
    by_cases hl : litMode (bankAt t i).mode = true
    · rw [bankAt_bankOff_same hi hl]
      rw [hti] at hl
      show BankMode.safe = _
      rcases (litMode_iff _).mp hl with hm | hm | hm <;> rw [hm] <;> rfl
    · rw [bankOff_dark (by simpa using hl), hti]
      rw [hti] at hl
      revert hl
      cases (bankAt s i).mode <;> simp [litMode, safeMode]
  refine ⟨fun q hq => ?_, fun q hq => ?_, (dimmed_eq (·.tsc) (bankOff_dimmed t i)).trans h.tsc, h.outs.trans hsend.outs,
    fun q hq hl hr => ?_, (bankOff_shutter t i).trans h.shutter⟩
  · rcases Nat.lt_succ_iff_lt_or_eq.mp hq with hlt | rfl
    · rw [bankAt_bankOff_ne (by omega)]
      exact h.done q hlt
    · exact hown
  · rw [bankAt_bankOff_ne (by omega)]
    exact h.same q (by omega)
  · rcases Nat.lt_succ_iff_lt_or_eq.mp hq with hlt | rfl
    · exact hsend.outs.subset (h.sent q hlt hl hr)
    · rw [← driveZero_marked hti h.tsc]
      rw [← hti] at hl hr
      exact bankOff_drives hi hl hr

/-- The banks that do not leave their state are told DRIVE 0. -/
def othersStep (s : State) (b : Nat) : State :=
  if (bankAt s b).linkRun && !litMode (bankAt s b).mode then sendDrive s b 0 else s

theorem driveOthersOff_eq (s : State) : driveOthersOff s = forN 12 othersStep s := rfl

/-- What telling the other banks has done up to bank `i`. -/
structure Telling (s : State) (i : Nat) (t : State) : Prop where
  calm : calm t = calm s
  sends : Sends s t
  sent : ∀ q, q < i → litMode (bankAt s q).mode = false → (bankAt s q).linkRun = true → driveZero s q ∈ t.outs

theorem othersTold (s : State) : Telling s 12 (driveOthersOff s) := by
  rw [driveOthersOff_eq]
  refine forN_inv (I := Telling s) ⟨rfl, .refl s, fun q hq => absurd hq (by omega)⟩ (fun i t _ h => ?_)
  have hti : bankAt t i = bankAt s i := bankAt_of_calm h.calm i
  have htsc : t.tsc = s.tsc := calm_eq (·.tsc) h.calm
  have hsend : Sends t (othersStep t i) := .ite _ ((Sends.refl t).emit _) (.refl t)
  refine ⟨?_, h.sends.trans hsend, fun q hq hl hr => ?_⟩
  · unfold othersStep
    split
    · exact h.calm
    · exact h.calm
  · rcases Nat.lt_succ_iff_lt_or_eq.mp hq with hlt | rfl
    · exact hsend.outs.subset (h.sent q hlt hl hr)
    · rw [← driveZero_marked hti htsc, othersStep, if_pos (by rw [hti]; simp [hl, hr])]
      exact List.mem_cons_self

/-- The safe state is marked in force. -/
def safeMarked (s : State) (source : Nat) (shutter : Bool) : State :=
  { s with lsd := { s.lsd with
    safeOn := true
    safeSource := source
    safeShutter := shutter } }

theorem safeBegin_eq (s : State) (source : Nat) (shutter : Bool) : safeBegin s source shutter =
    if s.lsd.safeOn then s else driveOthersOff (signal (postSafe (safeMarked s source shutter) true) 14) := rfl

theorem calm_safePosted (s : State) (source : Nat) (shutter : Bool) :
    calm (signal (postSafe (safeMarked s source shutter) true) 14) = calm (safeMarked s source shutter) :=
  (calm_signal _ _).trans (calm_post _ _ _ _)

/-- What the beginning of the safe state leaves: the banks and the outputs as they were. -/
structure SafeBegun (s t : State) : Prop where
  bank : t.lsd.bank = s.lsd.bank
  pins : t.pins = s.pins
  dim : dimmed t = dimmed s
  sends : Sends s t
  sent : s.lsd.safeOn = false → ∀ q, q < 12 → litMode (bankAt s q).mode = false → (bankAt s q).linkRun = true → driveZero s q ∈ t.outs

theorem safeBegun (s : State) (source : Nat) (shutter : Bool) : SafeBegun s (safeBegin s source shutter) := by
  rw [safeBegin_eq]
  split
  · rename_i hon
    exact ⟨rfl, rfl, rfl, .refl s, fun h => by rw [hon] at h; cases h⟩
  · have hc := calm_safePosted s source shutter
    obtain ⟨h1, h2, h3⟩ := othersTold (signal (postSafe (safeMarked s source shutter) true) 14)
    have hmark : Sends s (safeMarked s source shutter) := ((Sends.refl s).units (by rfl))
    have hall := h1.trans hc
    have hbank : (signal (postSafe (safeMarked s source shutter) true) 14).lsd.bank = s.lsd.bank := (calm_eq (·.lsd.bank) hc :)
    have htsc : (signal (postSafe (safeMarked s source shutter) true) 14).tsc = s.tsc := (calm_eq (·.tsc) hc :)
    refine ⟨(calm_eq (·.lsd.bank) hall :), (calm_eq (·.pins) hall :), (dimmed_of_calm hall).trans rfl,
      ((hmark.post _ _ _).signal _).trans h2, fun _ q hq hl hr => ?_⟩
    have hq' := bankAt_of_lsd hbank q
    rw [← driveZero_marked hq' htsc]
    rw [← hq'] at hl hr
    exact h3 q hq hl hr

theorem safeBegin_effects {E : Nat → Prop} (s : State) (source : Nat) (shutter : Bool) : Effects [] E s (safeBegin s source shutter) := by
  have h0 : Effects [] E s (safeMarked s source shutter) := ((Effects.refl E s).units (by rfl))
  have h1 := (h0.quiet (post_effects _ 0x0902 0 _)).posts (signal_adds (postSafe (safeMarked s source shutter) true) 14)
  rw [safeBegin_eq, driveOthersOff_eq]
  exact .ite _ (.refl E s) (h1.quiet (.forN (fun s b => .ite _ ((Effects.refl E s).emit _) (.refl E s)) 12 _))

/-- The light is off, and the safe state over where no bank is in SAFE. -/
def safeEnd (s : State) : State := if anySafe s then s else safeOver s

theorem enterSafe_eq (s : State) (source : Nat) (shutter : Bool) :
    enterSafe s source shutter = safeEnd (lightOff (forN 12 bankOff (safeBegin s source shutter)) shutter) := rfl

theorem enterSafe_effects {E : Nat → Prop} (s : State) (source : Nat) (shutter : Bool) : Effects [] E s (enterSafe s source shutter) := by
  have h1 := (safeBegin_effects (E := E) s source shutter).quiet (.forN (fun s b => bankOff_effects s b) 12 _)
  rw [enterSafe_eq]
  generalize forN 12 bankOff (safeBegin s source shutter) = z at h1
  have h2 : Effects [] E s (lightOff z shutter) := (h1.units (by rfl))
  exact .ite _ h2 (h2.units (by rfl))

/-- What the safe state leaves. -/
structure SafeEntered (s : State) (shutter : Bool) (t : State) : Prop where
  modes : ∀ q, q < 12 → (bankAt t q).mode = safeMode (bankAt s q).mode
  laser : t.pins.laserEn = 0
  hl : t.pins.hlEn = false
  shutter : t.pins.shutterOut = (s.pins.shutterOut && !shutter)
  dim : dimmed t = dimmed s
  sent : ∀ q, q < 12 → (bankAt s q).linkRun = true → s.lsd.safeOn = false ∨ litMode (bankAt s q).mode = true → driveZero s q ∈ t.outs

theorem safeEnd_keeps (s : State) : (safeEnd s).lsd.bank = s.lsd.bank ∧ (safeEnd s).pins = s.pins ∧ dimmed (safeEnd s) = dimmed s ∧
    Sends s (safeEnd s) := by
  unfold safeEnd
  split
  · exact ⟨rfl, rfl, rfl, .refl s⟩
  · exact ⟨rfl, rfl, rfl, ((Sends.refl s).units (by rfl))⟩

theorem enterSafe_sends (s : State) (source : Nat) (shutter : Bool) : Sends s (enterSafe s source shutter) := by
  have h1 := (safeBegun s source shutter).sends.trans (.forN bankOff_sends 12 _)
  rw [enterSafe_eq]
  generalize forN 12 bankOff (safeBegin s source shutter) = z at *
  have h2 : Sends s (lightOff z shutter) := (h1.units (by rfl))
  exact h2.trans (safeEnd_keeps _).2.2.2

theorem safeEntered (s : State) (source : Nat) (shutter : Bool) : SafeEntered s shutter (enterSafe s source shutter) := by
  have hbeg := safeBegun s source shutter
  have hoff := banksOff (safeBegin s source shutter)
  have hsend := Sends.forN bankOff_sends 12 (safeBegin s source shutter)
  have hdim := dimmed_forN bankOff_dimmed 12 (safeBegin s source shutter)
  have htsc : (safeBegin s source shutter).tsc = s.tsc := dimmed_eq (·.tsc) hbeg.dim
  have hb (q : Nat) : bankAt (safeBegin s source shutter) q = bankAt s q := bankAt_of_lsd hbeg.bank q
  rw [enterSafe_eq]
  generalize safeBegin s source shutter = a at *
  generalize forN 12 bankOff a = z at *
  obtain ⟨h1, h2, h3, h4⟩ := safeEnd_keeps (lightOff z shutter)
  exact
    { modes := fun q hq => by
        rw [bankAt_of_lsd h1 q, ← hb]
        exact hoff.done q hq
      laser := by rw [h2]; rfl
      hl := by rw [h2]; rfl
      shutter := by
        rw [h2]
        show (z.pins.shutterOut && !shutter) = _
        rw [hoff.shutter, hbeg.pins]
      dim := h3.trans (((show dimmed (lightOff z shutter) = dimmed z from rfl).trans hdim).trans hbeg.dim)
      sent := fun q hq hr hw => by
        refine h4.outs.subset (show driveZero s q ∈ z.outs from ?_)
        by_cases hl : litMode (bankAt s q).mode = true
        · rw [← driveZero_marked (hb q) htsc]
          rw [← hb] at hl hr
          exact hoff.sent q hq hl hr
        · have hl' : litMode (bankAt s q).mode = false := by simpa using hl
          exact hsend.outs.subset (hbeg.sent (hw.resolve_right hl) q hq hl' hr) }

/-! ### Re-arming -/

/-- A bank whose arming level starts from 0. -/
def fromZero (t : Nat) (x : Bank) : Bank := { x with y := 0, yStart := some t }

/-- One bank of a re-arm. -/
def rearmStep (s : State) (b : Nat) : State :=
  if s.ftgOn then armBank (modBank s b (fromZero s.tsc)) b 2 else setBank (modBank s b (fromZero s.tsc)) b .paused 2

/-- What follows the banks of a re-arm. -/
def rearmEnd (was : Bool) (s : State) : State :=
  { openShutter (leaveSafe was s) with
    thm := { (openShutter (leaveSafe was s)).thm with
      stop := (openShutter (leaveSafe was s)).thm.stop && (openShutter (leaveSafe was s)).thm.stopAt.isSome } }

/-- Every bank of the mask stands in SAFE or OPEN. -/
def restingAll (s : State) (m : Nat) : Prop :=
  ∀ b, b < 12 → bitAt m b = true → (bankAt s b).mode = .safe ∨ (bankAt s b).mode = .opened

theorem restingAll_any (h : restingAll s m) : (List.range 12).any (fun b => bitAt m b &&
    !((bankAt s b).mode == .safe || (bankAt s b).mode == .opened)) = false := by
  rw [List.any_eq_false]
  intro b hb
  by_cases hm : bitAt m b = true
  · rcases h b (List.mem_range.mp hb) hm with hx | hx
    · simp [hx]
    · simp [hx]
  · simp [hm]

theorem runRearm_eq {pl : List Byte} (hm : m = leAt pl 0 2) (hlt : m < 4096) (ha : banksAbsent s m = false) : runRearm s pl =
    if rearmBlocked s m || inSwitch s || (List.range 12).any (fun b => bitAt m b &&
        !((bankAt s b).mode == .safe || (bankAt s b).mode == .opened)) then (s, .now .badState [])
    else (rearmEnd (anySafe s) (forMask 12 m rearmStep s), .now .ok []) := by
  subst hm
  refine (if_neg (by omega)).trans ((if_neg (by rw [ha]; decide)).trans rfl)

/-- What re-arming has done up to bank `i`. -/
structure Rearming (s : State) (m i : Nat) (t : State) : Prop where
  done : ∀ q, q < i → bitAt m q = true → (bankAt t q).mode = (if s.ftgOn then .armed else .paused) ∧ (bankAt t q).y = 0 ∧
    (bankAt t q).yStart = some s.tsc
  same : ∀ q, i ≤ q ∨ bitAt m q = false → bankAt t q = bankAt s q
  laser : ∀ q, q < 12 → bitAt t.pins.laserEn q = (bitAt s.pins.laserEn q || (s.ftgOn && (decide (q < i) && bitAt m q)))
  frame : ∃ l π, calm t = calm { s with
    lsd := l
    pins := π }

theorem bitAt_or_pow (x b q : Nat) : bitAt (x ||| 2 ^ b) q = (bitAt x q || decide (b = q)) := by
  simp [bitAt, Nat.testBit_or, Nat.testBit_two_pow]

/-- A bank that stands in SAFE or OPEN is re-armed. -/
theorem rearmStep_calm (hb : b < 12) (hm : (bankAt s b).mode ≠ .armed) : ∃ (f : Bank → Bank) (π : Pins),
    calm (rearmStep s b) = calm (modBank { s with pins := π } b f) ∧
    (f (bankAt s b)).mode = (if s.ftgOn then .armed else .paused) ∧ (f (bankAt s b)).y = 0 ∧ (f (bankAt s b)).yStart = some s.tsc ∧
    π.laserEn = (if s.ftgOn then s.pins.laserEn ||| 2 ^ b else s.pins.laserEn) := by
  have hz : bankAt (modBank s b (fromZero s.tsc)) b = fromZero s.tsc (bankAt s b) := bankAt_modBank_same hb _
  unfold rearmStep
  by_cases hon : s.ftgOn = true
  · obtain ⟨f, hf, hmode, hrest⟩ := calm_armBank (s := modBank s b (fromZero s.tsc)) hb 2
    rw [hz] at hmode hrest
    refine ⟨fun x => f (fromZero s.tsc x), (laserOn s b).pins, ?_, ?_, rested_eq (·.y) hrest, rested_eq (·.yStart) hrest, ?_⟩
    · rw [if_pos hon, hf]
      exact congrArg calm (modBank_modBank (laserOn s b) b (fromZero s.tsc) f)
    · rw [if_pos hon]
      exact hmode
    · rw [if_pos hon]
      rfl
  · have hset := calm_setBank (s := modBank s b (fromZero s.tsc)) (b := b) (m := .paused) (.inl (by rw [hz]; exact hm)) (by decide) 2
    refine ⟨fun x => marked s.tsc .paused 2 (fromZero s.tsc x), s.pins, ?_, ?_, rfl, rfl, ?_⟩
    · rw [if_neg hon, hset, modBank_modBank]
      rfl
    · rw [if_neg hon]
      rfl
    · rw [if_neg hon]

theorem rearming (h : restingAll s m) : Rearming s m 12 (forMask 12 m rearmStep s) := by
  refine forN_inv (I := Rearming s m) ⟨fun q hq => absurd hq (by omega), fun _ _ => rfl, fun q _ => by simp, s.lsd, s.pins, rfl⟩
    (fun i t hi hr => ?_)
  obtain ⟨l, π, hc⟩ := hr.frame
  by_cases hm : bitAt m i = true
  · have hti : bankAt t i = bankAt s i := hr.same i (.inl (Nat.le_refl _))
    have hna : (bankAt t i).mode ≠ .armed := by
      rw [hti]
      rcases h i hi hm with hx | hx <;> rw [hx] <;> decide
    obtain ⟨f, π', hf, hmode, hy, hys, hlaser⟩ := rearmStep_calm hi hna
    have hon : t.ftgOn = s.ftgOn := (calm_eq (·.ftgOn) hc :)
    have htsc : t.tsc = s.tsc := (calm_eq (·.tsc) hc :)
    rw [hon] at hmode hlaser
    rw [htsc] at hys
    have hown : bankAt (rearmStep t i) i = f (bankAt t i) := by
      rw [bankAt_of_calm hf]
      exact bankAt_modBank_same (s := { t with pins := π' }) hi f
    have hother (q : Nat) (hq : q ≠ i) : bankAt (rearmStep t i) q = bankAt t q := by
      rw [bankAt_of_calm hf]
      exact bankAt_modBank_ne (s := { t with pins := π' }) hq f
    have hpins : (rearmStep t i).pins = π' := (calm_eq (·.pins) hf :)
    rw [if_pos hm]
    refine ⟨fun q hq hb => ?_, fun q hq => ?_, fun q hq12 => ?_, (rearmStep t i).lsd, π', ?_⟩
    · rcases Nat.lt_succ_iff_lt_or_eq.mp hq with hlt | rfl
      · rw [hother q (by omega)]
        exact hr.done q hlt hb
      · rw [hown]
        exact ⟨hmode, hy, hys⟩
    · have hne : q ≠ i := by
        rintro rfl
        rcases hq with hq | hq
        · omega
        · rw [hm] at hq; cases hq
      rw [hother q hne]
      exact hr.same q (hq.imp (by omega) id)
    · have hprev := hr.laser q hq12
      rw [hpins, hlaser]
      by_cases hs : s.ftgOn = true
      · rw [if_pos hs, bitAt_or_pow, hprev, hs]
        by_cases hqi : q = i
        · subst hqi
          simp [hm]
        · have h1 : decide (i = q) = false := decide_eq_false (fun h => hqi h.symm)
          have h2 : decide (q < i + 1) = decide (q < i) := by
            rw [decide_eq_decide]
            omega
          rw [h1, h2, Bool.or_false]
      · rw [if_neg hs, hprev]
        simp [hs]
    · have hl : (rearmStep t i).lsd = _ := (calm_eq (·.lsd) hf :)
      rw [hf, hl]
      exact congrArg (fun x : State => { x with lsd := (modBank { t with pins := π' } i f).lsd, pins := π' }) hc
  · rw [if_neg hm]
    refine ⟨fun q hq hb => hr.done q ?_ hb, fun q hq => hr.same q ?_, fun q hq12 => ?_, l, π, hc⟩
    · rcases Nat.lt_succ_iff_lt_or_eq.mp hq with hlt | rfl
      · exact hlt
      · exact absurd hb hm
    · rcases hq with hq | hq
      · exact .inl (by omega)
      · exact .inr hq
    · rw [hr.laser q hq12]
      by_cases hqi : q = i
      · subst hqi
        simp [hm]
      · have h2 : decide (q < i + 1) = decide (q < i) := by
          rw [decide_eq_decide]
          omega
        rw [h2]

theorem rearmStep_effects (s : State) (b : Nat) : Effects [] lightNoise s (rearmStep s b) := by
  have h : Effects [] lightNoise s (modBank s b (fromZero s.tsc)) := modBank_effects s b _
  exact .ite _ (h.quiet (armBank_effects _ _ _)) (h.quiet (setBank_effects _ _ _ _))

theorem rearmStep_sends (s : State) (b : Nat) : Sends s (rearmStep s b) := by
  have h : Sends s (modBank s b (fromZero s.tsc)) := ((Sends.refl s).units (by rfl))
  exact .ite _ (h.trans (armBank_sends _ _ _)) (h.trans (setBank_sends _ _ _ _))

theorem openShutter_units (s : State) : ∃ π, openShutter s = { s with pins := π } ∧ π.laserEn = s.pins.laserEn ∧
    (anySafe s = false → π.shutterOut = true) := by
  unfold openShutter
  split
  · rename_i h
    exact ⟨s.pins, rfl, rfl, fun hn => by rw [h] at hn; cases hn⟩
  · exact ⟨_, rfl, rfl, fun _ => rfl⟩

theorem anySafe_of_bank {a b : State} (h : a.lsd.bank = b.lsd.bank) : anySafe a = anySafe b := by rw [anySafe, h]; rfl

/-- What follows the banks of a re-arm changes none of them. -/
theorem rearmEnd_keeps (was : Bool) (s : State) : (rearmEnd was s).lsd.bank = s.lsd.bank ∧
    (rearmEnd was s).pins.laserEn = s.pins.laserEn ∧ (anySafe (rearmEnd was s) = false → (rearmEnd was s).pins.shutterOut = true) ∧
    (∃ l π h th, calm (rearmEnd was s) = calm { s with
      lsd := l
      pins := π
      hls := h
      thm := th }) ∧ Effects [] lightNoise s (rearmEnd was s) ∧ Sends s (rearmEnd was s) := by
  obtain ⟨on, h, hc⟩ := calm_leaveSafe was s
  have he := leaveSafe_effects (E := lightNoise) was s
  have hs := leaveSafe_sends was s
  unfold rearmEnd
  obtain ⟨π, hx, hlaser, hshut⟩ := openShutter_units (leaveSafe was s)
  rw [hx]
  have hbank : (leaveSafe was s).lsd.bank = s.lsd.bank := (calm_eq (·.lsd.bank) hc :)
  have hpins : (leaveSafe was s).pins = s.pins := (calm_eq (·.pins) hc :)
  generalize leaveSafe was s = z at *
  refine ⟨hbank, hlaser.trans (by rw [hpins]), fun hn => hshut hn, ⟨z.lsd, π, z.hls, { z.thm with stop := z.thm.stop && z.thm.stopAt.isSome },
    ?_⟩, (he.units (by rfl)), (hs.units (by rfl))⟩
  have hl : z.lsd = _ := (calm_eq (·.lsd) hc :)
  have hh : z.hls = h := (calm_eq (·.hls) hc :)
  have ht : z.thm = s.thm := (calm_eq (·.thm) hc :)
  exact congrArg (fun x : State => { x with
    lsd := z.lsd, pins := π, hls := z.hls, thm := { z.thm with stop := z.thm.stop && z.thm.stopAt.isSome } }) hc

/-! ### The two commands -/

variable {op : Nat} {c : Cmd}

theorem runMid_rearm {f : InFlight} (h : f.opcode = 0x0901) (pl : List Byte) : runMid s f pl = runRearm s pl := by simp [runMid, h]
theorem runMid_safe {f : InFlight} (h : f.opcode = 0x0902) (pl : List Byte) : runMid s f pl = runSafe s pl := by simp [runMid, h]

theorem byteAt_eq_leAt (l : List Byte) (i : Nat) : byteAt l i = leAt l i 1 := by
  rw [byteAt, leAt, List.getD_eq_getElem?_getD]
  cases h : l[i]? with
  | none =>
    have hn : l.drop i = [] := by simpa using h
    rw [hn]
    rfl
  | some b =>
    obtain ⟨hi, rfl⟩ := List.getElem?_eq_some_iff.mp h
    rw [List.drop_eq_getElem_cons hi]
    show l[i].toNat = leNat [l[i]]
    simp [leNat]

/-- A command of the light path that answers at once. -/
theorem exec_light_answers {i : Instr} {sh : List (Nat × Nat)} (hi : exec i s = .next (hostEvent s (fun s => message s op c sh)))
    (h : Serving s op c) {st : Status} {res : List Byte}
    (hr : runOp (enterFlight s (arriving s op c sh)) (arriving s op c sh) = (r, .now st res))
    (he : Effects [] lightNoise (enterFlight s (arriving s op c sh)) r) (hs : Sends (enterFlight s (arriving s op c sh)) r)
    (hg : r.regs = s.regs) (ht : r.tsc = s.tsc) :
    ∃ t, exec i s = .next t ∧ Answers s t (arriving s op c sh) st res ∧ calm t = calm r ∧ (∀ o ∈ r.outs, o ∈ t.outs) := by
  obtain ⟨t, hx, hans, hd⟩ := exec_answers_done hi h hr he hs.events hs.outs hg ht
  refine ⟨t, hx, hans, (hd.quiet (fun n hl hn => ?_)).trans (calm_complete _ _ _ _), fun o ho => hd.outs o ?_⟩
  · exact lightNoise_quiet n hl (hn.resolve_left (by simp))
  · exact (complete_adds (E := exactly) r _ st res).outs o ho

theorem runRearm_resting {pl : List Byte} (hm : m = leAt pl 0 2) (hlt : m < 4096) (ha : banksAbsent s m = false)
    (hb : rearmBlocked s m = false) (hsw : inSwitch s = false) (hrest : restingAll s m) :
    runRearm s pl = (rearmEnd (anySafe s) (forMask 12 m rearmStep s), .now .ok []) := by
  rw [runRearm_eq hm hlt ha, hb, hsw, restingAll_any hrest]
  rfl

theorem exec_rearm (h : Serving s 0x0901 c) (hm : m = leAt (bodyOf c) 0 2) (hlt : m < 4096) (ha : banksAbsent s m = false)
    (hb : rearmBlocked s m = false) (hsw : inSwitch s = false) (hrest : restingAll s m) :
    ∃ t, exec (.lsdRearm c) s = .next t ∧ Answers s t (arriving s 0x0901 c []) .ok [] ∧
      (∀ b, b < 12 → bitAt m b = true → (bankAt t b).mode = (if s.ftgOn then .armed else .paused) ∧
        (bankAt t b).y = 0 ∧ (bankAt t b).yStart = some s.tsc) ∧
      (∀ b, b < 12 → bitAt m b = false → bankAt t b = bankAt s b) ∧
      (∀ b, b < 12 → bitAt t.pins.laserEn b = (bitAt s.pins.laserEn b || (s.ftgOn && bitAt m b))) ∧
      (anySafe t = false → t.pins.shutterOut = true) ∧
      calm t = calm { s with lsd := t.lsd, pins := t.pins, hls := t.hls, thm := t.thm } := by
  have hentered : restingAll (enterFlight s (arriving s 0x0901 c [])) m := hrest
  have hwork := rearming hentered
  have heff := Effects.forMask rearmStep_effects 12 m (enterFlight s (arriving s 0x0901 c []))
  have hsend := Sends.forMask rearmStep_sends 12 m (enterFlight s (arriving s 0x0901 c []))
  have hrun := runRearm_resting (s := enterFlight s (arriving s 0x0901 c [])) hm hlt ha hb hsw hentered
  generalize anySafe (enterFlight s (arriving s 0x0901 c [])) = was at hrun
  generalize forMask 12 m rearmStep (enterFlight s (arriving s 0x0901 c [])) = z at *
  obtain ⟨hbank, hlaser, hshut, ⟨l, π, hl, th, hc⟩, he, hs⟩ := rearmEnd_keeps was z
  obtain ⟨l', π', hz⟩ := hwork.frame
  have hall : calm (rearmEnd was z) = calm { s with
      lsd := l
      pins := π
      hls := hl
      thm := th } :=
    hc.trans (congrArg (fun x : State => { x with lsd := l, pins := π, hls := hl, thm := th }) hz)
  obtain ⟨t, ht, hans, hcalm, -⟩ := exec_light_answers (i := .lsdRearm c) rfl h
    ((h.mid [] (by decide) (by decide)).trans ((runMid_rearm rfl _).trans hrun)) (heff.quiet he) (hsend.trans hs)
    (calm_eq (·.regs) hall :) (calm_eq (·.tsc) hall :)
  have hat (q : Nat) : bankAt t q = bankAt z q := (bankAt_of_calm hcalm q).trans (bankAt_of_lsd hbank q)
  have hpins : t.pins = (rearmEnd was z).pins := (calm_eq (·.pins) hcalm :)
  refine ⟨t, ht, hans, fun b hb hm => ?_, fun b _ hm => ?_, fun b hb => ?_, fun hn => ?_, ?_⟩
  · rw [hat]
    exact hwork.done b hb hm
  · rw [hat]
    exact hwork.same b (.inr hm)
  · rw [hpins, hlaser, hwork.laser b hb]
    simp only [hb, decide_true, Bool.true_and]
    rfl
  · rw [hpins]
    exact hshut ((anySafe_of_bank (calm_eq (·.lsd.bank) hcalm :)).symm.trans hn)
  · have h1 := hcalm.trans hall
    have e1 : t.lsd = l := (calm_eq (·.lsd) h1 :)
    have e2 : t.pins = π := (calm_eq (·.pins) h1 :)
    have e3 : t.hls = hl := (calm_eq (·.hls) h1 :)
    have e4 : t.thm = th := (calm_eq (·.thm) h1 :)
    rw [h1, e1, e2, e3, e4]

theorem exec_safe (h : Serving s 0x0902 c) (h1 : byteAt (bodyOf c) 0 ≤ 1) :
    ∃ t, exec (.lsdSafe c) s = .next t ∧ Answers s t (arriving s 0x0902 c []) .ok [] ∧
      SafeEntered s (decide (byteAt (bodyOf c) 0 = 1)) t := by
  rw [byteAt_eq_leAt] at h1 ⊢
  have hin := safeEntered (enterFlight s (arriving s 0x0902 c [])) 0xFE (decide (leAt (bodyOf c) 0 1 = 1))
  have heff := enterSafe_effects (E := lightNoise) (enterFlight s (arriving s 0x0902 c [])) 0xFE (decide (leAt (bodyOf c) 0 1 = 1))
  have hrun : runSafe (enterFlight s (arriving s 0x0902 c [])) (bodyOf c) =
      (enterSafe (enterFlight s (arriving s 0x0902 c [])) 0xFE (decide (leAt (bodyOf c) 0 1 = 1)), .now .ok []) := if_neg (by omega)
  have hsend := enterSafe_sends (enterFlight s (arriving s 0x0902 c [])) 0xFE (decide (leAt (bodyOf c) 0 1 = 1))
  generalize enterSafe (enterFlight s (arriving s 0x0902 c [])) 0xFE (decide (leAt (bodyOf c) 0 1 = 1)) = z at *
  have hreg : z.regs = s.regs := (dimmed_eq (·.regs) hin.dim :)
  have htsc : z.tsc = s.tsc := (dimmed_eq (·.tsc) hin.dim :)
  obtain ⟨t, ht, hans, hcalm, houts⟩ := exec_light_answers (i := .lsdSafe c) rfl h
    ((h.mid [] (by decide) (by decide)).trans ((runMid_safe rfl _).trans hrun)) heff hsend hreg htsc
  have hpins : t.pins = z.pins := (calm_eq (·.pins) hcalm :)
  refine ⟨t, ht, hans, ?_⟩
  exact
    { modes := fun q hq => by
        rw [bankAt_of_calm hcalm q]
        exact hin.modes q hq
      laser := by rw [hpins, hin.laser]
      hl := by rw [hpins, hin.hl]
      shutter := by rw [hpins, hin.shutter]; rfl
      dim := (dimmed_of_calm hcalm).trans (hin.dim.trans rfl)
      sent := fun q hq hr hw => houts _ (hin.sent q hq hr hw) }

theorem any_range_of {n : Nat} {f : Nat → Bool} {b : Nat} (hb : b < n) (h : f b = true) : (List.range n).any f = true :=
  List.any_eq_true.mpr ⟨b, List.mem_range.mpr hb, h⟩

theorem runRearm_refused {pl : List Byte} (hm : m = leAt pl 0 2) (hlt : m < 4096) (ha : banksAbsent s m = false)
    (hno : rearmBlocked s m = true ∨ inSwitch s = true ∨ ∃ b, b < 12 ∧ bitAt m b = true ∧ (bankAt s b).mode ≠ .safe ∧
      (bankAt s b).mode ≠ .opened) : runRearm s pl = (s, .now .badState []) := by
  rw [runRearm_eq hm hlt ha, if_pos]
  rcases hno with h | h | ⟨b, hb, hmb, hs, ho⟩
  · simp [h]
  · simp [h]
  · rw [any_range_of hb (by simp [hmb, hs, ho]), Bool.or_true]

/-- A re-arm that is refused. -/
theorem exec_rearm_refused (h : Serving s 0x0901 c) (hm : m = leAt (bodyOf c) 0 2) (hlt : m < 4096) (ha : banksAbsent s m = false)
    (hno : rearmBlocked s m = true ∨ inSwitch s = true ∨ ∃ b, b < 12 ∧ bitAt m b = true ∧ (bankAt s b).mode ≠ .safe ∧
      (bankAt s b).mode ≠ .opened) :
    ∃ t, exec (.lsdRearm c) s = .next t ∧ Replies s t (arriving s 0x0901 c []) .badState [] :=
  exec_replies (i := .lsdRearm c) (e := s) rfl h ((h.mid [] (by decide) (by decide)).trans
    ((runMid_rearm rfl _).trans (runRearm_refused hm hlt ha hno)))

theorem rearmBlocked_of_limit (h : (∃ b, b < 12 ∧ bitAt m b = true ∧ bitAt (vget s.thm.sensor (17 + b) {}).asserted 0 = true) ∨
    bitAt (vget s.thm.sensor 0 {}).asserted 3 = true) : rearmBlocked s m = true := by
  rcases h with ⟨b, hb, hm, ha⟩ | h
  · rw [rearmBlocked, any_range_of hb (by rw [hm, ha]; rfl), Bool.or_true]
  · simp [rearmBlocked, h]

/-- Settles O42: a re-arm treats each bank of its mask once, and the safe state each bank of the device; neither reports anything
but the windows it judges. -/
theorem banksRearmAndGoSafe : Obligations.BanksRearmAndGoSafe := by
  unfold Obligations.BanksRearmAndGoSafe
  refine ⟨fun s c m h hm hlt ha hb hsw hrest => exec_rearm h hm hlt ha hb hsw hrest, fun s c h h1 => ?_,
    fun s c m h hm hlt ha hl => exec_rearm_refused h hm hlt ha (.inl (rearmBlocked_of_limit hl)),
    fun s c m h hm hlt ha hno => exec_rearm_refused h hm hlt ha ?_⟩
  · obtain ⟨t, ht, hans, hin⟩ := exec_safe h h1
    refine ⟨t, ht, hans, hin.laser, hin.hl, hin.shutter, fun b hb => (hin.modes b hb).trans ?_,
      fun b hb hr hw => hin.sent b hb hr (hw.imp id (fun h => (litMode_iff _).mpr h)), calm_of_dimmed hin.dim⟩
    cases (bankAt s b).mode <;> rfl
  · rcases hno with h1 | h1 | h1 | h1
    · exact .inl (by simp [rearmBlocked, h1])
    · exact .inl (by simp [rearmBlocked, h1])
    · exact .inr (.inl h1)
    · exact .inr (.inr h1)

end
end Sys2Proof.Machine
end


section
/-! LSD_BRIGHTNESS, LSD_COLOUR_LOCK, LSD_DERATE_OVERRIDE and LSD_LINK_RESTART (R324, R330, R333, R334, R340). -/

namespace Sys2Proof.Machine

section
variable {s r : State} {b q m k l f op : Nat} {c : Cmd} {p : List Byte}

theorem runMid_brightness {i : InFlight} (h : i.opcode = 0x0903) (pl : List Byte) : runMid s i pl = runBrightness s pl := by
  simp [runMid, h]
theorem runMid_pinTest {i : InFlight} (h : i.opcode = 0x0904) (pl : List Byte) : runMid s i pl = runPinTest s i.id pl i.shorts := by
  simp [runMid, h]
theorem runMid_colourLock {i : InFlight} (h : i.opcode = 0x0905) (pl : List Byte) : runMid s i pl = runColourLock s i.id pl := by
  simp [runMid, h]
theorem runMid_derate {i : InFlight} (h : i.opcode = 0x0906) (pl : List Byte) : runMid s i pl = runDerate s i.cmd.unit.toNat pl := by
  simp [runMid, h]
theorem runMid_linkRestart {i : InFlight} (h : i.opcode = 0x0907) (pl : List Byte) :
    runMid s i pl = runLinkRestart s i.cmd.unit.toNat i.id := by simp [runMid, h]

/-! ### Brightness and colour lock -/

/-- The brightness has a target and, but during a thermal stop's ramp, a ramp to it. -/
def aimed (s : State) (l r : Nat) : State :=
  if s.thm.stopAt.isSome then { s with lsd := { s.lsd with target := l } }
  else startRamp { s with lsd := { s.lsd with target := l } } l (if r = 0 then rampCycles s else r * msCycles)

theorem aimed_sets (h : s.thm.stopAt.isSome = true) : aimed s l q = { s with lsd := { s.lsd with target := l } } := if_pos h

theorem aimed_ramps (h : s.thm.stopAt = none) : aimed s l q = { s with lsd := { s.lsd with
    target := l
    ramp := some {
      x0 := s.lsd.x
      x1 := l
      start := s.tsc
      len := if q = 0 then (cfg s).light.rampMs * msCycles else q * msCycles } } } := by
  rw [aimed, if_neg (by rw [h]; decide)]
  rfl

theorem runBrightness_aims (h : l = leAt p 0 2) (hr : q = leAt p 2 2) (hl : l ≤ 4095) (hq : q ≤ 10000) (hs : inSwitch s = false) :
    runBrightness s p = (aimed s l q, .now .ok []) := by
  subst h hr
  refine (if_neg (by omega)).trans ((if_neg (by rw [hs]; decide)).trans ?_)
  rfl

theorem runBrightness_busy (hl : leAt p 0 2 ≤ 4095) (hr : leAt p 2 2 ≤ 10000) (hs : inSwitch s = true) :
    runBrightness s p = (s, .now .busy []) := (if_neg (by omega)).trans (if_pos hs)

theorem runColourLock_later {id : Nat} (h : leAt p 0 1 ≤ 1) (hf : s.ftgOn = true) : runColourLock s id p = ({ s with lsd := { s.lsd with
    lockNext := some (decide (leAt p 0 1 = 1))
    lockIds := s.lsd.lockIds ++ [id] } }, .later) := (if_neg (by omega)).trans (if_pos hf)

theorem runColourLock_now {id : Nat} (h : leAt p 0 1 ≤ 1) (hf : s.ftgOn = false) : runColourLock s id p = ({ s with lsd := { s.lsd with
    lock := decide (leAt p 0 1 = 1) } }, .now .ok []) := (if_neg (by omega)).trans (if_neg (by rw [hf]; decide))

/-! ### The derating's override -/

/-- A primary's factor is fixed, or freed. -/
def overridden (s : State) (k : Nat) (fix : Option Nat) : State := { s with lsd := { s.lsd with
  held := s.lsd.held.set k none
  holdBy := (primBanks s k).foldl (fun m b => m &&& (0xFFF ^^^ (2 ^ b &&& m))) s.lsd.holdBy
  fixed := s.lsd.fixed.set k fix
  fNew := match fix with
    | some f => s.lsd.fNew.set k f
    | none => s.lsd.fNew } }

/-- The same, posted where it changes something. -/
def overridePosted (s : State) (k : Nat) (fix : Option Nat) : State :=
  if (s.lsd.held.getD k none).isSome ∨ s.lsd.fixed.getD k none ≠ fix then postDerate (overridden s k fix) k else overridden s k fix

theorem runDerate_fixes (hm : leAt p 0 1 = 1) (h0 : leAt p 1 3 = 0) (hf : f = leAt p 4 4) (hle : f ≤ 65536) :
    runDerate s k p = (overridePosted s k (some f), .now .ok []) := by
  subst hf
  refine (if_neg (by omega)).trans ?_
  simp only [hm, if_true]
  rfl

theorem runDerate_frees (hm : leAt p 0 1 = 0) (h0 : leAt p 1 3 = 0) (hf : leAt p 4 4 = 0) :
    runDerate s k p = (overridePosted s k none, .now .ok []) := by
  refine (if_neg (by omega)).trans ?_
  simp only [hm, if_neg (show ¬ (0 = 1) by decide)]
  rfl

theorem calm_overridePosted (s : State) (k : Nat) (fix : Option Nat) : calm (overridePosted s k fix) = calm (overridden s k fix) := by
  unfold overridePosted
  split
  · exact calm_post _ _ _ _
  · rfl

theorem overridePosted_effects (s : State) (k : Nat) (fix : Option Nat) : Effects [] lightNoise s (overridePosted s k fix) := by
  have h : Effects [] lightNoise s (overridden s k fix) := ((Effects.refl _ s).units (by rfl))
  exact .ite _ (h.quiet (post_effects _ _ _ _)) h

theorem overridePosted_sends (s : State) (k : Nat) (fix : Option Nat) : Sends s (overridePosted s k fix) := by
  have h : Sends s (overridden s k fix) := ((Sends.refl s).units (by rfl))
  exact .ite _ (h.post _ _ _) h

/-- The four bytes are 0 where their value is. -/
theorem leAt_split (p : List Byte) : leAt p 0 4 = leAt p 0 1 + 256 * leAt p 1 3 := by
  cases p with
  | nil => rfl
  | cons b t => simp [leAt, leNat]

theorem exec_override {i : Instr} (hi : exec i s = .next (hostEvent s (fun s => message s 0x0906 c []))) (h : Serving s 0x0906 c)
    (fix : Option Nat) (hrun : runDerate (enterFlight s (arriving s 0x0906 c [])) c.unit.toNat (bodyOf c) =
      (overridePosted (enterFlight s (arriving s 0x0906 c [])) c.unit.toNat fix, .now .ok [])) :
    ∃ t, exec i s = .next t ∧ Answers s t (arriving s 0x0906 c []) .ok [] ∧ calm t = calm (overridden s c.unit.toNat fix) := by
  have heff := overridePosted_effects (enterFlight s (arriving s 0x0906 c [])) c.unit.toNat fix
  have hsend := overridePosted_sends (enterFlight s (arriving s 0x0906 c [])) c.unit.toNat fix
  have hcalm := calm_overridePosted (enterFlight s (arriving s 0x0906 c [])) c.unit.toNat fix
  generalize overridePosted (enterFlight s (arriving s 0x0906 c [])) c.unit.toNat fix = z at *
  obtain ⟨t, ht, hans, hc, -⟩ := exec_light_answers hi h
    ((h.mid [] (by decide) (by decide)).trans ((runMid_derate rfl _).trans hrun)) heff hsend
    (calm_eq (·.regs) hcalm :) (calm_eq (·.tsc) hcalm :)
  exact ⟨t, ht, hans, hc.trans (hcalm.trans rfl)⟩

/-! ### A link start -/

theorem beginLink_effects {E : Nat → Prop} (s : State) (b : Nat) : Effects [] E s (beginLink s b) := (modBank_effects s b _).emit _

theorem beginLink_sends (s : State) (b : Nat) : Sends s (beginLink s b) :=
  (Sends.units (Sends.refl s) (t := modBank s b (fun x => { x with linking := true, linkRun := true, errRun := 0, drvFault := false })) (by rfl)).emit _

theorem bankAt_beginLink_same (hb : b < 12) : bankAt (beginLink s b) b =
    { bankAt s b with linking := true, linkRun := true, errRun := 0, drvFault := false } := bankAt_modBank_same hb _

theorem bankAt_beginLink_ne (h : q ≠ b) : bankAt (beginLink s b) q = bankAt s q := bankAt_modBank_ne h _

/-- A link starts, and a command waits for it. -/
def linkAwaited (s : State) (b id : Nat) : State :=
  { beginLink s b with lsd := { (beginLink s b).lsd with restarts := s.lsd.restarts ++ [(b, id)] } }

/-- A link is restarted, and its command waits for it. -/
def restarted (s : State) (b id : Nat) : State := linkAwaited (setBank s b .starting 0) b id

theorem runLinkRestart_runs {id : Nat} (h : (bankAt s b).mode = .linkFailed ∨ (bankAt s b).mode = .safe ∨ (bankAt s b).mode = .opened) :
    runLinkRestart s b id = (leaveSafe (anySafe s) (restarted s b id), .later) := if_pos (by rcases h with h | h | h <;> simp [h])

theorem runLinkRestart_refused {id : Nat} (h : (bankAt s b).mode = .armed ∨ (bankAt s b).mode = .paused ∨ (bankAt s b).mode = .starting ∨
    (bankAt s b).mode = .short ∨ (bankAt s b).mode = .disabled) : runLinkRestart s b id = (s, .now .badState []) :=
  if_neg (by rcases h with h | h | h | h | h <;> simp [h])

theorem restarted_effects {E : Nat → Prop} (s : State) (b id : Nat) : Effects [] E s (restarted s b id) :=
  (((setBank_effects s b .starting 0).quiet (beginLink_effects _ b)).units (by rfl))

theorem restarted_sends (s : State) (b id : Nat) : Sends s (restarted s b id) :=
  (((setBank_sends s b .starting 0).trans (beginLink_sends _ b)).units (by rfl))

/-- What a restart makes of its bank, and of the rest of the light path. -/
theorem restarted_bank (hb : b < 12) (id : Nat) : (bankAt (restarted s b id) b).mode = .starting ∧
    (bankAt (restarted s b id) b).linking = true ∧ (bankAt (restarted s b id) b).linkRun = true ∧
    Output.dlink b probeFrame ∈ (restarted s b id).outs := by
  have hbank : bankAt (restarted s b id) b = bankAt (beginLink (setBank s b .starting 0) b) b := bankAt_of_lsd rfl b
  rw [hbank, bankAt_beginLink_same hb, bankAt_setBank_same hb]
  exact ⟨rfl, rfl, rfl, List.mem_cons_self⟩

theorem calm_restarted (hm : (bankAt s b).mode ≠ .armed) (id : Nat) : ∃ u, calm (restarted s b id) = calm { s with lsd := u } ∧
    u.restarts = s.lsd.restarts ++ [(b, id)] := by
  have h := calm_setBank (s := s) (b := b) (m := .starting) (.inl hm) (by decide) 0
  rw [restarted]
  generalize setBank s b .starting 0 = z at h
  have hl : z.lsd = (modBank s b (marked s.tsc .starting 0)).lsd := (calm_eq (·.lsd) h :)
  refine ⟨(linkAwaited z b id).lsd, calm_with_lsd h _, congrArg (· ++ [(b, id)]) (congrArg Lsd.restarts hl :)⟩

theorem exec_linkRestart (h : Serving s 0x0907 c) (hb : b = c.unit.toNat)
    (hm : (bankAt s b).mode = .linkFailed ∨ (bankAt s b).mode = .safe ∨ (bankAt s b).mode = .opened) :
    ∃ t, exec (.lsdLinkRestart c) s = .next t ∧ (bankAt t b).mode = .starting ∧ (bankAt t b).linking = true ∧
      (bankAt t b).linkRun = true ∧ Output.dlink b probeFrame ∈ t.outs ∧
      t.lsd.restarts = s.lsd.restarts ++ [(b, s.hmi.nextId)] ∧ t.hmi.inFlight = [arriving s 0x0907 c []] ∧
      calm t = calm { s with lsd := t.lsd, hls := t.hls } := by
  have hlt : b < 12 := bank_lt (s := s) (by rcases hm with h | h | h <;> rw [h] <;> decide)
  have hna : (bankAt s b).mode ≠ .armed := by rcases hm with h | h | h <;> rw [h] <;> decide
  have hrun := runLinkRestart_runs (s := enterFlight s (arriving s 0x0907 c [])) (id := s.hmi.nextId) hm
  obtain ⟨hmode, hlinking, hlinkRun, hprobe⟩ := restarted_bank (s := enterFlight s (arriving s 0x0907 c [])) hlt s.hmi.nextId
  obtain ⟨u, hu, hres⟩ := calm_restarted (s := enterFlight s (arriving s 0x0907 c [])) hna s.hmi.nextId
  have heff := (restarted_effects (E := lightNoise) (enterFlight s (arriving s 0x0907 c [])) b s.hmi.nextId)
  have hsend := restarted_sends (enterFlight s (arriving s 0x0907 c [])) b s.hmi.nextId
  generalize anySafe (enterFlight s (arriving s 0x0907 c [])) = was at hrun
  generalize restarted (enterFlight s (arriving s 0x0907 c [])) b s.hmi.nextId = z at *
  have heff' := heff.quiet (leaveSafe_effects was z)
  obtain ⟨on, hl, hz⟩ := calm_leaveSafe was z
  have hsend' := hsend.trans (leaveSafe_sends was z)
  have hbank := bankAt_leaveSafe was z b
  have hout := (leaveSafe_sends was z).outs
  subst hb
  obtain ⟨t, ht, hd, hfl⟩ := exec_later_done (i := .lsdLinkRestart c) rfl h
    ((h.mid [] (by decide) (by decide)).trans ((runMid_linkRestart rfl _).trans hrun)) heff'
  generalize leaveSafe was z = w at *
  have hcalm : calm t = calm w := hd.quiet (fun n hl hn => lightNoise_quiet n hl (hn.resolve_left (by simp)))
  have hq : harmless w := heff'.harmless h.reports (fun n hl hn => lightNoise_quiet n hl (hn.resolve_left (by simp)))
  have hat : bankAt t c.unit.toNat = bankAt z c.unit.toNat := (bankAt_of_calm hcalm _).trans hbank
  have hzl : z.lsd = u := (calm_eq (·.lsd) hu :)
  have hwl : w.lsd = { z.lsd with safeOn := on } := (calm_eq (·.lsd) hz :)
  have htl : t.lsd = w.lsd := (calm_eq (·.lsd) hcalm :)
  have hth : t.hls = hl := (calm_eq (·.hls) hcalm :).trans (calm_eq (·.hls) hz :)
  refine ⟨t, ht, by rw [hat, hmode], by rw [hat, hlinking], by rw [hat, hlinkRun], hd.outs _ (hout.subset hprobe), ?_, hfl hq hsend'.events, ?_⟩
  · rw [htl, hwl]
    exact (congrArg Lsd.restarts hzl).trans hres
  · rw [hcalm, hz, htl, hwl, hth]
    exact congrArg (fun x : State => { x with lsd := { z.lsd with safeOn := on }, hls := hl }) hu

end
end Sys2Proof.Machine
end


section
/-! LSD_PIN_TEST (R335, R336, R340). -/

namespace Sys2Proof.Machine

section
variable {s r : State} {b q m k id : Nat} {c : Cmd} {p : List Byte}

/-! ### A loop's work on one bank -/

/-- A loop whose other turns leave a bank alone treats it in one turn, and takes nothing back that it has sent. -/
theorem forN_bank {N : Nat} {f : State → Nat → State} (hf : ∀ u i, i ≠ b → bankAt (f u i) b = bankAt u b)
    (ho : ∀ u i, ∀ o ∈ u.outs, o ∈ (f u i).outs) (hb : b < N) (s : State) : ∃ u, bankAt u b = bankAt s b ∧
      bankAt (forN N f s) b = bankAt (f u b) b ∧ ∀ o ∈ (f u b).outs, o ∈ (forN N f s).outs := by
  have h := forN_inv (s := s) (f := f) (N := N) (I := fun i t => (i ≤ b → bankAt t b = bankAt s b) ∧
      (b < i → ∃ u, bankAt u b = bankAt s b ∧ bankAt t b = bankAt (f u b) b ∧ ∀ o ∈ (f u b).outs, o ∈ t.outs))
    ⟨fun _ => rfl, fun h => absurd h (by omega)⟩ (fun i t _ ⟨hlow, hhigh⟩ => ?_)
  · exact h.2 hb
  · by_cases hi : i = b
    · subst hi
      exact ⟨fun h => absurd h (by omega), fun _ => ⟨t, hlow (Nat.le_refl _), rfl, fun o ho => ho⟩⟩
    · refine ⟨fun h => (hf t i hi).trans (hlow (by omega)), fun h => ?_⟩
      obtain ⟨u, hu, ht, hou⟩ := hhigh (by omega)
      exact ⟨u, hu, (hf t i hi).trans ht, fun o hm => ho t i o (hou o hm)⟩

/-! ### The test of the pins -/

/-- A bank whose link stands still for the test. -/
def unlinked (x : Bank) : Bank :=
  { x with
    linkRun := false
    linking := false
    version := 0 }

/-- A bank found shorted. -/
def pinShort (s : State) (b address : Nat) : State :=
  report (restartDone (if (bankAt s b).mode == .short then s else setBank s b .short 6) b .checkFail)
    { source := 0x73, master := b, address := address }

/-- The safe state is in force. -/
def safeForced (s : State) : State := if s.lsd.safeOn then s else { s with lsd := { s.lsd with safeOn := true } }

/-- What the test makes of one bank. -/
def pinStep (shorts : List (Nat × Nat)) (bad mask : Nat) (s : State) (b : Nat) : State :=
  if bitAt bad b then pinShort s b (((shorts.filter (fun e => e.1 == b)).map (·.2)).foldl min 6)
  else if bitAt mask b && (bankAt s b).mode == .short then safeForced (setBank s b .safe 11)
  else s

/-- The shorts that the test takes from the pins. -/
def realShorts (s : State) (found : List (Nat × Nat)) : List (Nat × Nat) :=
  found.filter (fun e => decide (e.1 < nBanks s ∧ e.2 ≤ 6))

/-- The banks with a short. -/
def badBanks (shorts : List (Nat × Nat)) : Nat := (shorts.map (·.1)).foldl (fun m b => m ||| 2 ^ b) 0

theorem pinTest_eq (s : State) (m : Nat) (found : List (Nat × Nat)) : pinTest s m found =
    (forN 12 (pinStep (realShorts s found) (badBanks (realShorts s found)) m) (forMask 12 m (fun s b => modBank s b unlinked) s),
      badBanks (realShorts s found)) := rfl

/-- The links that start after the test. -/
def relink (s : State) (b : Nat) : State :=
  if (bankAt s b).mode == .safe || (bankAt s b).mode == .opened then beginLink s b else s

/-- The test's command waits for its links. -/
def pinAwaited (was : Bool) (id bad : Nat) (s : State) : State :=
  { leaveSafe was s with lsd := { (leaveSafe was s).lsd with pinTest := some (id, bad) } }

/-- No bank of the mask has, or awaits, light. -/
def unlitAll (s : State) (m : Nat) : Prop :=
  ∀ x, x < 12 → bitAt m x = true → (bankAt s x).mode ≠ .armed ∧ (bankAt s x).mode ≠ .starting ∧ (bankAt s x).mode ≠ .paused

theorem runPinTest_runs (hm : m = leAt p 0 2) (hlt : m < 4096) (ha : banksAbsent s m = false) (hu : unlitAll s m)
    (shorts : List (Nat × Nat)) : runPinTest s id p shorts =
      (pinTestCheck (pinAwaited (anySafe s) id (pinTest s m shorts).2 (forMask 12 m relink (pinTest s m shorts).1)), .later) := by
  subst hm
  have hany : (List.range 12).any (fun b => bitAt (leAt p 0 2) b &&
      ((bankAt s b).mode == .armed || (bankAt s b).mode == .starting || (bankAt s b).mode == .paused)) = false := by
    rw [List.any_eq_false]
    intro b hb
    by_cases hm : bitAt (leAt p 0 2) b = true
    · obtain ⟨h1, h2, h3⟩ := hu b (List.mem_range.mp hb) hm
      simp [h1, h2, h3]
    · simp [hm]
  exact (if_neg (by omega)).trans ((if_neg (by rw [ha]; decide)).trans (if_neg (by rw [hany]; decide)))

theorem restartDone_effects {E : Nat → Prop} (s : State) (b : Nat) (st : Status) : Effects [] E s (restartDone s b st) := by
  unfold restartDone
  split
  · exact .refl E s
  · next e _ =>
    have h : Effects [] E s { s with lsd := { s.lsd with restarts := s.lsd.restarts.filter (fun e => e.1 != b) } } :=
      ((Effects.refl E s).units (by rfl))
    exact h.posts (complete_adds _ e.2 st [])

theorem bankAt_restartDone (s : State) (b : Nat) (st : Status) (q : Nat) : bankAt (restartDone s b st) q = bankAt s q := by
  unfold restartDone
  split
  · rfl
  · exact bankAt_of_calm (calm_complete _ _ _ _) q

theorem pinTestCheck_effects {E : Nat → Prop} (s : State) : Effects [] E s (pinTestCheck s) := by
  unfold pinTestCheck
  split
  · exact .refl E s
  · next id m _ =>
    have h : Effects [] E s { s with lsd := { s.lsd with pinTest := none } } := ((Effects.refl E s).units (by rfl))
    exact .ite _ (.refl E s) (h.posts (complete_adds _ id _ _))

theorem bankAt_pinTestCheck (s : State) (q : Nat) : bankAt (pinTestCheck s) q = bankAt s q := by
  unfold pinTestCheck
  split
  · rfl
  · split
    · rfl
    · exact bankAt_of_calm (calm_complete _ _ _ _) q

/-- While a link start is on its way, the command waits. -/
theorem pinTestCheck_waits (hb : b < 12) (hl : (bankAt s b).linking = true) (hm : (bankAt s b).mode ≠ .starting) : pinTestCheck s = s := by
  unfold pinTestCheck
  split
  · rfl
  · exact if_pos (any_range_of hb (by simp [hl, hm]))

theorem pinAwaited_effects {E : Nat → Prop} (was : Bool) (id bad : Nat) (s : State) : Effects [] E s (pinAwaited was id bad s) :=
  ((leaveSafe_effects was s).units (by rfl))

theorem pinAwaited_sends (was : Bool) (id bad : Nat) (s : State) : Sends s (pinAwaited was id bad s) := ((leaveSafe_sends was s).units (by rfl))

theorem bankAt_pinAwaited (was : Bool) (id bad : Nat) (s : State) (q : Nat) : bankAt (pinAwaited was id bad s) q = bankAt s q :=
  bankAt_leaveSafe was s q

theorem relink_effects {E : Nat → Prop} (s : State) (b : Nat) : Effects [] E s (relink s b) := .ite _ (beginLink_effects s b) (.refl E s)
theorem relink_sends (s : State) (b : Nat) : Sends s (relink s b) := .ite _ (beginLink_sends s b) (.refl s)
theorem bankAt_relink_ne (h : q ≠ b) : bankAt (relink s b) q = bankAt s q := by
  unfold relink
  split
  · exact bankAt_beginLink_ne h
  · rfl

theorem safeForced_effects {E : Nat → Prop} (s : State) : Effects [] E s (safeForced s) := .ite _ (.refl E s) ((Effects.refl E s).units (by rfl))
theorem safeForced_sends (s : State) : Sends s (safeForced s) := .ite _ (.refl s) ((Sends.refl s).units (by rfl))
theorem bankAt_safeForced (s : State) (q : Nat) : bankAt (safeForced s) q = bankAt s q := by
  unfold safeForced
  split <;> rfl

theorem pinShort_effects {E : Nat → Prop} (s : State) (b a : Nat) : Effects [0x73] E s (pinShort s b a) := by
  have h1 : Effects [] E s (if (bankAt s b).mode == .short then s else setBank s b .short 6) := .ite _ (.refl E s) (setBank_effects _ _ _ _)
  exact (h1.quiet (restartDone_effects _ b .checkFail)).report { source := 0x73, master := b, address := a }

theorem bankAt_pinShort_ne (h : q ≠ b) (a : Nat) : bankAt (pinShort s b a) q = bankAt s q := by
  refine (bankAt_of_calm (calm_report _ _) q).trans ((bankAt_restartDone _ _ _ q).trans ?_)
  split
  · rfl
  · exact bankAt_setBank_ne h _ _

/-- A bank found shorted is SHORT; its link stands as it stood. -/
theorem bankAt_pinShort_same (hb : b < 12) (a : Nat) : (bankAt (pinShort s b a) b).mode = .short ∧
    (bankAt (pinShort s b a) b).linkRun = (bankAt s b).linkRun := by
  have h : bankAt (pinShort s b a) b = bankAt (if (bankAt s b).mode == .short then s else setBank s b .short 6) b :=
    (bankAt_of_calm (calm_report _ _) b).trans (bankAt_restartDone _ _ _ b)
  rw [h]
  split
  · next hs => exact ⟨by simpa using hs, rfl⟩
  · rw [bankAt_setBank_same hb]
    exact ⟨rfl, rfl⟩

variable {shorts : List (Nat × Nat)} {bad : Nat}

theorem pinStep_good (h : bitAt bad b = false) : pinStep shorts bad m s b =
    if bitAt m b && (bankAt s b).mode == .short then safeForced (setBank s b .safe 11) else s := if_neg (by rw [h]; decide)

theorem pinStep_bad (h : bitAt bad b = true) : pinStep shorts bad m s b =
    pinShort s b (((shorts.filter (fun e => e.1 == b)).map (·.2)).foldl min 6) := if_pos h

theorem pinGood_effects {E : Nat → Prop} (h : bitAt bad b = false) : Effects [] E s (pinStep shorts bad m s b) := by
  rw [pinStep_good h]
  exact .ite _ ((setBank_effects _ _ _ _).quiet (safeForced_effects _)) (.refl E s)

theorem pinGood_sends (h : bitAt bad b = false) : Sends s (pinStep shorts bad m s b) := by
  rw [pinStep_good h]
  exact .ite _ ((setBank_sends _ _ _ _).trans (safeForced_sends _)) (.refl s)

theorem bankAt_pinStep_ne (h : q ≠ b) : bankAt (pinStep shorts bad m s b) q = bankAt s q := by
  unfold pinStep
  split
  · exact bankAt_pinShort_ne h _
  · split
    · rw [bankAt_safeForced, bankAt_setBank_ne h]
    · rfl

theorem unlinking_bank (hb : b < 12) (hm : bitAt m b = true) (s : State) :
    bankAt (forMask 12 m (fun s b => modBank s b unlinked) s) b = unlinked (bankAt s b) := by
  obtain ⟨u, hu, ht, -⟩ := forN_bank (N := 12) (f := fun s b => if bitAt m b then modBank s b unlinked else s) (b := b)
    (fun u i hi => by
      split
      · exact bankAt_modBank_ne (Ne.symm hi) _
      · rfl)
    (fun u i o ho => by
      split <;> exact ho) hb s
  refine ht.trans ?_
  rw [if_pos hm, bankAt_modBank_same hb, hu]

theorem relinking_bank (hb : b < 12) (hm : bitAt m b = true) (s : State) : ∃ u, bankAt u b = bankAt s b ∧
    bankAt (forMask 12 m relink s) b = bankAt (relink u b) b ∧ ∀ o ∈ (relink u b).outs, o ∈ (forMask 12 m relink s).outs := by
  obtain ⟨u, hu, ht, ho⟩ := forN_bank (N := 12) (f := fun s b => if bitAt m b then relink s b else s) (b := b)
    (fun u i hi => by
      split
      · exact bankAt_relink_ne (Ne.symm hi)
      · rfl)
    (fun u i o ho => by
      split
      · exact (relink_sends u i).outs.subset ho
      · exact ho) hb s
  rw [if_pos hm] at ht ho
  exact ⟨u, hu, ht, ho⟩

/-! ### No short found -/

theorem bitAt_zero (b : Nat) : bitAt 0 b = false := by simp [bitAt]

theorem pinTest_nil (s : State) (m : Nat) : pinTest s m [] =
    (forN 12 (pinStep [] 0 m) (forMask 12 m (fun s b => modBank s b unlinked) s), 0) := rfl

/-- Without a short, a bank in SAFE or OPEN stands as it stood, its link about to start anew. -/
theorem pinTest_clean (hb : b < 12) (hm : bitAt m b = true) (hs : (bankAt s b).mode ≠ .short) :
    bankAt (pinTest s m []).1 b = unlinked (bankAt s b) := by
  rw [pinTest_nil]
  obtain ⟨u, hu, ht, -⟩ := forN_bank (N := 12) (f := pinStep [] 0 m) (b := b)
    (fun u i hi => bankAt_pinStep_ne (Ne.symm hi)) (fun u i o ho => (pinGood_sends (bitAt_zero i)).outs.subset ho) hb
    (forMask 12 m (fun s b => modBank s b unlinked) s)
  rw [unlinking_bank hb hm] at hu
  have hns : (bankAt u b).mode ≠ .short := by rw [hu]; exact hs
  refine ht.trans ?_
  rw [pinStep_good (bitAt_zero b), if_neg (by simp [hns]), hu]

theorem pinTest_clean_effects {E : Nat → Prop} (s : State) (m : Nat) : Effects [] E s (pinTest s m []).1 := by
  have h1 : Effects [] E s (forMask 12 m (fun s b => modBank s b unlinked) s) := .forMask (fun s b => modBank_effects s b _) 12 m s
  rw [pinTest_nil]
  exact h1.quiet (.forN (fun s b => pinGood_effects (bitAt_zero b)) 12 _)

theorem pinTest_clean_sends (s : State) (m : Nat) : Sends s (pinTest s m []).1 := by
  have h1 : Sends s (forMask 12 m (fun s b => modBank s b unlinked) s) := .forMask (fun s b => ((Sends.refl s).units (by rfl))) 12 m s
  rw [pinTest_nil]
  exact h1.trans (.forN (fun s b => pinGood_sends (bitAt_zero b)) 12 _)

theorem exec_pinTest_clean (h : Serving s 0x0904 c) (hm : m = leAt (bodyOf c) 0 2) (hlt : m < 4096) (ha : banksAbsent s m = false)
    (hu : unlitAll s m) (hmb : bitAt m b = true) (hmode : (bankAt s b).mode = .safe ∨ (bankAt s b).mode = .opened) :
    ∃ t, exec (.lsdPinTest c []) s = .next t ∧ (bankAt t b).linking = true ∧ (bankAt t b).mode = (bankAt s b).mode ∧
      Output.dlink b probeFrame ∈ t.outs ∧ t.lsd.pinTest = some (s.hmi.nextId, 0) ∧
      t.hmi.inFlight = [arriving s 0x0904 c []] := by
  have hb : b < 12 := bank_lt (s := s) (by rcases hmode with h | h <;> rw [h] <;> decide)
  have hns : (bankAt s b).mode ≠ .short := by rcases hmode with h | h <;> rw [h] <;> decide
  have hrun := runPinTest_runs (s := enterFlight s (arriving s 0x0904 c [])) (id := s.hmi.nextId) hm hlt ha hu []
  have hclean := pinTest_clean (s := enterFlight s (arriving s 0x0904 c [])) hb hmb hns
  have heff := pinTest_clean_effects (E := lightNoise) (enterFlight s (arriving s 0x0904 c [])) m
  have hsend := pinTest_clean_sends (enterFlight s (arriving s 0x0904 c [])) m
  generalize anySafe (enterFlight s (arriving s 0x0904 c [])) = was at hrun
  have hbad : (pinTest (enterFlight s (arriving s 0x0904 c [])) m []).2 = 0 := rfl
  rw [hbad] at hrun
  generalize (pinTest (enterFlight s (arriving s 0x0904 c [])) m []).1 = z at *
  obtain ⟨u, hub, hrel, houts⟩ := relinking_bank hb hmb z
  have hmu : (bankAt u b).mode = (bankAt s b).mode := by rw [hub, hclean]; rfl
  have hturn : relink u b = beginLink u b := if_pos (by rw [hmu]; rcases hmode with h | h <;> rw [h] <;> decide)
  have heff2 := (heff.quiet (Effects.forMask relink_effects 12 m z)).quiet (pinAwaited_effects was s.hmi.nextId 0 _)
  have hsend1 := Sends.forMask relink_sends 12 m z
  have hsend2 := pinAwaited_sends was s.hmi.nextId 0 (forMask 12 m relink z)
  have hbank := bankAt_pinAwaited was s.hmi.nextId 0 (forMask 12 m relink z) b
  rw [hrel, hturn, bankAt_beginLink_same hb] at hbank
  rw [hturn] at houts
  have hprobe := hsend2.outs.subset (houts (.dlink b probeFrame) List.mem_cons_self)
  have hset : (pinAwaited was s.hmi.nextId 0 (forMask 12 m relink z)).lsd.pinTest = some (s.hmi.nextId, 0) := rfl
  have hall := hsend.trans (hsend1.trans hsend2)
  generalize pinAwaited was s.hmi.nextId 0 (forMask 12 m relink z) = w at *
  rw [pinTestCheck_waits hb (by rw [hbank]) (by
    rw [hbank]
    show (bankAt u b).mode ≠ _
    rw [hmu]
    rcases hmode with h | h <;> rw [h] <;> decide)] at hrun
  obtain ⟨t, ht, hd, hfl⟩ := exec_later_done (i := .lsdPinTest c []) rfl h
    ((h.mid [] (by decide) (by decide)).trans ((runMid_pinTest rfl _).trans hrun)) heff2
  have hcalm : calm t = calm w := hd.quiet (fun n hl hn => lightNoise_quiet n hl (hn.resolve_left (by simp)))
  have hq : harmless w := heff2.harmless h.reports (fun n hl hn => lightNoise_quiet n hl (hn.resolve_left (by simp)))
  have hat := bankAt_of_calm hcalm b
  refine ⟨t, ht, by rw [hat, hbank], ?_, hd.outs _ hprobe, (calm_eq (·.lsd.pinTest) hcalm :).trans hset, hfl hq hall.events⟩
  rw [hat, hbank]
  exact hmu

/-! ### A short found -/

theorem realShorts_one (hb : b < nBanks s) (hk : k ≤ 6) : realShorts s [(b, k)] = [(b, k)] := by simp [realShorts, hb, hk]

theorem bitAt_badBanks_one (b k q : Nat) : bitAt (badBanks [(b, k)]) q = decide (b = q) := by
  simp [badBanks, bitAt, Nat.testBit_two_pow]

theorem pinTest_short_effects (hb : b < nBanks s) (hb12 : b < 12) (hk : k ≤ 6) (m : Nat) :
    Effects [0x73] lightNoise s (pinTest s m [(b, k)]).1 := by
  have h1 : Effects [] lightNoise s (forMask 12 m (fun s b => modBank s b unlinked) s) :=
    .forMask (fun s b => modBank_effects s b _) 12 m s
  rw [pinTest_eq, realShorts_one hb hk]
  generalize forMask 12 m (fun s b => modBank s b unlinked) s = z at *
  have h2 := forN_inv (s := z) (N := 12) (f := pinStep [(b, k)] (badBanks [(b, k)]) m)
    (I := fun i t => Effects (if b < i then [0x73] else []) lightNoise s t) (by
      rw [if_neg (by omega)]
      exact h1)
    (fun i t _ hi => by
      by_cases hbi : b = i
      · subst hbi
        rw [if_neg (by omega)] at hi
        rw [if_pos (by omega), pinStep_bad (by rw [bitAt_badBanks_one]; simp)]
        exact hi.trans (pinShort_effects _ _ _)
      · have hg : bitAt (badBanks [(b, k)]) i = false := by rw [bitAt_badBanks_one]; simp [hbi]
        simp only [show b < i + 1 ↔ b < i by omega]
        exact hi.quiet (pinGood_effects hg))
  rwa [if_pos hb12] at h2

theorem pinStep_outs (o : Output) (ho : o ∈ s.outs) : o ∈ (pinStep shorts bad m s b).outs := by
  by_cases h : bitAt bad b = true
  · rw [pinStep_bad h]
    exact (pinShort_effects (E := exactly) s b _).outs o ho
  · exact (pinGood_sends (by simpa using h)).outs.subset ho

/-- The bank with the short is SHORT, its link stands still. -/
theorem pinTest_short (hb : b < nBanks s) (hb12 : b < 12) (hk : k ≤ 6) (hm : bitAt m b = true) :
    (bankAt (pinTest s m [(b, k)]).1 b).mode = .short ∧ (bankAt (pinTest s m [(b, k)]).1 b).linkRun = false := by
  rw [pinTest_eq, realShorts_one hb hk]
  obtain ⟨u, hu, ht, -⟩ := forN_bank (N := 12) (f := pinStep [(b, k)] (badBanks [(b, k)]) m) (b := b)
    (fun u i hi => bankAt_pinStep_ne (Ne.symm hi)) (fun u i o ho => pinStep_outs o ho) hb12
    (forMask 12 m (fun s b => modBank s b unlinked) s)
  rw [unlinking_bank hb12 hm] at hu
  dsimp only
  rw [ht, pinStep_bad (by rw [bitAt_badBanks_one]; simp)]
  obtain ⟨h1, h2⟩ := bankAt_pinShort_same (s := u) hb12 ((([(b, k)].filter (fun e => e.1 == b)).map (·.2)).foldl min 6)
  exact ⟨h1, h2.trans (by rw [hu]; rfl)⟩

theorem present_of_mask (ha : banksAbsent s m = false) (hb : b < 12) (hm : bitAt m b = true) : b < nBanks s := by
  rw [banksAbsent, List.any_eq_false] at ha
  have := ha b (List.mem_range.mpr hb)
  simp only [hm, Bool.true_and, decide_eq_true_eq] at this
  omega

theorem exec_pinTest_short (h : Serving s 0x0904 c) (hm : m = leAt (bodyOf c) 0 2) (hlt : m < 4096) (ha : banksAbsent s m = false)
    (hu : unlitAll s m) (hb : b < 12) (hmb : bitAt m b = true) (hk : k ≤ 6) :
    ∃ t, exec (.lsdPinTest c [(b, k)]) s = .next t ∧ (bankAt t b).mode = .short ∧ (bankAt t b).linkRun = false ∧ counted s t 0x73 := by
  have hpres := present_of_mask ha hb hmb
  have hrun := runPinTest_runs (s := enterFlight s (arriving s 0x0904 c [(b, k)])) (id := s.hmi.nextId) hm hlt ha hu [(b, k)]
  obtain ⟨hmode, hlink⟩ := pinTest_short (s := enterFlight s (arriving s 0x0904 c [(b, k)])) hpres hb hk hmb
  have heff := pinTest_short_effects (s := enterFlight s (arriving s 0x0904 c [(b, k)])) hpres hb hk m
  generalize anySafe (enterFlight s (arriving s 0x0904 c [(b, k)])) = was at hrun
  generalize pinTest (enterFlight s (arriving s 0x0904 c [(b, k)])) m [(b, k)] = r at *
  obtain ⟨z, bad⟩ := r
  dsimp only at *
  obtain ⟨u, hub, hrel, -⟩ := relinking_bank hb hmb z
  have hturn : relink u b = u := if_neg (by rw [hub, hmode]; decide)
  have heff2 := ((heff.quiet (Effects.forMask relink_effects 12 m z)).quiet (pinAwaited_effects was s.hmi.nextId bad _)).quiet
    (pinTestCheck_effects _)
  have hbank := (bankAt_pinTestCheck (pinAwaited was s.hmi.nextId bad (forMask 12 m relink z)) b).trans
    (bankAt_pinAwaited was s.hmi.nextId bad (forMask 12 m relink z) b)
  rw [hrel, hturn, hub] at hbank
  generalize pinTestCheck (pinAwaited was s.hmi.nextId bad (forMask 12 m relink z)) = w at *
  obtain ⟨t, ht, hd, -⟩ := exec_later_done (i := .lsdPinTest c [(b, k)]) rfl h
    ((h.mid _ (by decide) (by decide)).trans ((runMid_pinTest rfl _).trans hrun)) heff2
  have hcalm : calm t = calm w := hd.quiet (fun n hl hn => by
    rcases hn with hn | hn
    · rw [List.mem_singleton.mp hn]
      rfl
    · exact lightNoise_quiet n hl hn)
  refine ⟨t, ht, ?_, ?_, hd.counted 0x73 (by decide) (by decide) (by simp [lightNoise]) (by decide)⟩
  · rw [bankAt_of_calm hcalm b, hbank, hmode]
  · rw [bankAt_of_calm hcalm b, hbank, hlink]

end
end Sys2Proof.Machine
end


section
/-! The derating of each millisecond (R333, R334), and the light-source commands. -/

namespace Sys2Proof.Machine

section
variable {s t r : State} {c k : Nat}

/-! ### One primary -/

/-- A bank's sensor does not read. -/
def unread (s : State) (b : Nat) : Bool := (vget s.thm.sensor (17 + b) {}).failed

/-- The banks of a primary whose sensors have failed since the last millisecond. -/
def freshFailed (s : State) (c : Nat) : List Nat := (primBanks s c).filter (fun b => unread s b && !bitAt s.lsd.failedSeen b)

/-- The failed sensors seen. -/
def failedNow (s : State) (c : Nat) : Nat :=
  (primBanks s c).foldl (fun m b => if unread s b then m ||| 2 ^ b else m &&& (0xFFF ^^^ (2 ^ b &&& m))) s.lsd.failedSeen

/-- The banks that hold their primary's factor. -/
def holders (s : State) (c : Nat) : Nat :=
  (primBanks s c).foldl (fun m b => if unread s b then
      (if (freshFailed s c).contains b && (s.lsd.fixed.getD c none).isNone then m ||| 2 ^ b else m)
    else m &&& (0xFFF ^^^ (2 ^ b &&& m))) s.lsd.holdBy

/-- The factor held. -/
def heldNow (s : State) (c : Nat) : Option Nat :=
  if (primBanks s c).any (fun b => bitAt (holders s c) b) then
    (match s.lsd.held.getD c none with | some h => some h | none => some (s.lsd.fNew.getD c 65536))
  else none

/-- The hottest bank whose sensor reads. -/
def hottestBank (s : State) (c : Nat) : Option (Nat × Int) := hotBank s ((primBanks s c).filter (fun b => !unread s b))

/-- The factor that the hottest bank calls for. -/
def calledFor (s : State) (c : Nat) : Nat :=
  match hottestBank s c with
  | some (_, d) => derateFactor s d
  | none => if (primBanks s c).isEmpty then 65536 else s.lsd.fNew.getD c 65536

/-- The factor of this millisecond. -/
def factorNow (s : State) (c : Nat) : Nat :=
  match s.lsd.fixed.getD c none with
  | some v => v
  | none => match heldNow s c with
    | some h => min h (calledFor s c)
    | none => calledFor s c

/-- A primary's factor is renewed. -/
def derated (s : State) (c : Nat) : State := { s with lsd := { s.lsd with
  failedSeen := failedNow s c
  holdBy := holders s c
  held := s.lsd.held.set c (heldNow s c)
  fNew := s.lsd.fNew.set c (factorNow s c)
  hot := match hottestBank s c with | some (b, _) => s.lsd.hot.set c b | none => s.lsd.hot
  tc := match hottestBank s c with | some (_, d) => s.lsd.tc.set c d | none => s.lsd.tc } }

/-- The same, posted where it tells something new. -/
def deratePosted (s : State) (c : Nat) : State :=
  if (heldNow s c).isSome ≠ (s.lsd.held.getD c none).isSome ∨
    decide (factorNow s c = 65536) ≠ decide (s.lsd.fNew.getD c 65536 = 65536) then postDerate (derated s c) c else derated s c

theorem deratePrim_eq (s : State) (c : Nat) : deratePrim s c =
    (freshFailed s c).foldl (fun s _ => report s { source := 0x77, master := c }) (deratePosted s c) := rfl

theorem calm_deratePosted (s : State) (c : Nat) : calm (deratePosted s c) = calm (derated s c) := by
  unfold deratePosted
  split
  · exact calm_post _ _ _ _
  · rfl

theorem calm_deratePrim (s : State) (c : Nat) : calm (deratePrim s c) = calm (derated s c) := by
  rw [deratePrim_eq]
  refine Eq.trans ?_ (calm_deratePosted s c)
  generalize deratePosted s c = z
  exact List.foldlRecOn _ _ (motive := fun t => calm t = calm z) rfl (fun t ht _ _ => (calm_report _ _).trans ht)

/-- What derating reports of failed sensors. -/
def failNoise (n : Nat) : Prop := n = 0x77

theorem deratePrim_effects (s : State) (c : Nat) : Effects [] failNoise s (deratePrim s c) := by
  have h1 : Effects [] failNoise s (derated s c) := ((Effects.refl _ s).units (by rfl))
  have h2 : Effects [] failNoise s (deratePosted s c) := .ite _ (h1.quiet (post_effects _ _ _ _)) h1
  rw [deratePrim_eq]
  refine h2.quiet (.foldl (fun s _ => ?_) _ _)
  exact ((Effects.refl failNoise s).report { source := 0x77, master := c }).drop (fun n hn => List.mem_singleton.mp hn)

/-! ### The factors -/

theorem testBit_clear (m b x : Nat) (hb : b < 12) : bitAt (m &&& (0xFFF ^^^ (2 ^ b &&& m))) x =
    (bitAt m x && decide (x < 12) && !decide (b = x)) := by
  have h12 : (0xFFF : Nat) = 2 ^ 12 - 1 := rfl
  simp only [bitAt, Nat.testBit_and, Nat.testBit_xor, Nat.testBit_two_pow, h12, Nat.testBit_two_pow_sub_one]
  by_cases hx : x = b
  · subst hx
    simp [hb]
  · have hbx : ¬ b = x := fun h => hx h.symm
    simp [hbx]

theorem primBanks_lt {b : Nat} (h : b ∈ primBanks s c) : b < 12 := List.mem_range.mp (List.mem_filter.mp h).1

/-- Clearing bits leaves none that is cleared. -/
theorem foldl_clear (l : List Nat) (hl : ∀ b ∈ l, b < 12) (m : Nat) : (∀ x, bitAt m x = false →
    bitAt (l.foldl (fun m b => m &&& (0xFFF ^^^ (2 ^ b &&& m))) m) x = false) ∧
    ∀ x ∈ l, bitAt (l.foldl (fun m b => m &&& (0xFFF ^^^ (2 ^ b &&& m))) m) x = false := by
  induction l generalizing m with
  | nil => exact ⟨fun x h => h, fun x h => by cases h⟩
  | cons a l ih =>
    obtain ⟨h1, h2⟩ := ih (fun b hb => hl b (List.mem_cons_of_mem _ hb)) (m &&& (0xFFF ^^^ (2 ^ a &&& m)))
    have ha := hl a List.mem_cons_self
    refine ⟨fun x hx => h1 x ?_, fun x hx => ?_⟩
    · rw [testBit_clear m a x ha, hx]
      rfl
    · rcases List.mem_cons.mp hx with rfl | hx
      · exact h1 x (by rw [testBit_clear m x x ha]; simp)
      · exact h2 x hx

/-- While every sensor of a primary reads, its factor is not held. -/
theorem heldNow_none (h : ∀ b ∈ primBanks s c, unread s b = false) : heldNow s c = none := by
  have hh : holders s c = (primBanks s c).foldl (fun m b => m &&& (0xFFF ^^^ (2 ^ b &&& m))) s.lsd.holdBy :=
    List.foldl_ext _ _ _ (fun m b hb => by rw [if_neg (by rw [h b hb]; decide)])
  refine if_neg ?_
  rw [hh, Bool.not_eq_true, List.any_eq_false]
  intro b hb
  rw [(foldl_clear _ (fun b hb => primBanks_lt hb) _).2 b hb]
  decide

theorem hotBank_step_some (l : List Nat) (a : Nat × Int) : ∃ x, l.foldl (fun a b =>
    let r := (vget s.thm.sensor (17 + b) {}).reading
    match a with
    | none => some (b, r)
    | some (_, q) => if q < r then some (b, r) else a) (some a) = some x := by
  induction l generalizing a with
  | nil => exact ⟨a, rfl⟩
  | cons b l ih =>
    rw [List.foldl_cons]
    dsimp only
    split
    · exact ih _
    · exact ih _

theorem hotBank_none (l : List Nat) (h : hotBank s l = none) : l = [] := by
  cases l with
  | nil => rfl
  | cons b l =>
    obtain ⟨x, hx⟩ := hotBank_step_some (s := s) l (b, (vget s.thm.sensor (17 + b) {}).reading)
    exact absurd (h.symm.trans hx) (by simp)

/-- A primary whose sensors all read, and whose factor is not fixed, takes the factor of its hottest bank. -/
theorem factorNow_reads (hf : s.lsd.fixed.getD c none = none) (h : ∀ b ∈ primBanks s c, unread s b = false) :
    factorNow s c = (match hotBank s (primBanks s c) with
      | some (_, d) => derateFactor s d
      | none => 65536) := by
  have hall : (primBanks s c).filter (fun b => !unread s b) = primBanks s c :=
    List.filter_eq_self.mpr (fun b hb => by rw [h b hb]; rfl)
  rw [factorNow, hf, heldNow_none h]
  dsimp only
  rw [calledFor, hottestBank, hall]
  split
  · rfl
  · next hn => rw [hotBank_none _ hn]; rfl

/-! ### The three primaries -/

/-- A state without the derating's own. -/
def underated (s : State) : State := { calm s with lsd := { s.lsd with
  failedSeen := 0
  holdBy := 0
  held := []
  fNew := []
  hot := []
  tc := [] } }

theorem underated_of_calm {a b : State} (h : calm a = calm b) : underated a = underated b := by
  have hl : a.lsd = b.lsd := (calm_eq (·.lsd) h :)
  rw [underated, underated, h, hl]

theorem calm_of_underated {a b : State} (h : underated a = underated b) : calm a = calm { b with lsd := { b.lsd with
    failedSeen := a.lsd.failedSeen
    holdBy := a.lsd.holdBy
    held := a.lsd.held
    fNew := a.lsd.fNew
    hot := a.lsd.hot
    tc := a.lsd.tc } } :=
  congrArg (fun x : State => { x with lsd := { x.lsd with
    failedSeen := a.lsd.failedSeen
    holdBy := a.lsd.holdBy
    held := a.lsd.held
    fNew := a.lsd.fNew
    hot := a.lsd.hot
    tc := a.lsd.tc } }) h

theorem underated_eq {α : Type} (g : State → α) {a b : State} (h : underated a = underated b)
    (hg : ∀ x : State, g x = g (underated x) := by intro _; rfl) : g a = g b := by rw [hg a, h, ← hg b]

theorem underated_deratePrim (s : State) (c : Nat) : underated (deratePrim s c) = underated s :=
  (underated_of_calm (calm_deratePrim s c)).trans rfl

/-- What derating has done before primary `i`. -/
structure Derating (s : State) (i : Nat) (t : State) : Prop where
  frame : underated t = underated s
  size : t.lsd.fNew.length = s.lsd.fNew.length
  fixed : ∀ c v, c < i → c < s.lsd.fNew.length → s.lsd.fixed.getD c none = some v → t.lsd.fNew.getD c 0 = v
  reads : ∀ c, c < i → c < s.lsd.fNew.length → s.lsd.fixed.getD c none = none → (∀ b ∈ primBanks s c, unread s b = false) →
    t.lsd.fNew.getD c 0 = (match hotBank s (primBanks s c) with
      | some (_, d) => derateFactor s d
      | none => 65536) ∧ t.lsd.held.getD c none = none

theorem getD_set_same {α : Type} (l : List α) {i : Nat} (h : i < l.length) (v d : α) : (l.set i v).getD i d = v := by
  simp [List.getD_eq_getElem?_getD, h]

theorem getD_set_ne {α : Type} (l : List α) {i j : Nat} (h : j ≠ i) (v d : α) : (l.set i v).getD j d = l.getD j d := by
  simp [List.getD_eq_getElem?_getD, List.getElem?_set_ne (Ne.symm h)]

theorem getD_set_default {α : Type} (l : List α) (i : Nat) (d : α) : (l.set i d).getD i d = d := by
  by_cases h : i < l.length
  · exact getD_set_same l h d d
  · rw [List.getD_eq_getElem?_getD, List.getElem?_eq_none (by simp; omega)]
    rfl

theorem derating (s : State) : Derating s 3 (forN 3 deratePrim s) := by
  refine forN_inv (I := Derating s) ⟨rfl, rfl, fun c v hc => absurd hc (by omega), fun c hc => absurd hc (by omega)⟩
    (fun i t _ h => ?_)
  have hl : (deratePrim t i).lsd = (derated t i).lsd := (calm_eq (·.lsd) (calm_deratePrim t i) :)
  have hnew : (deratePrim t i).lsd.fNew = t.lsd.fNew.set i (factorNow t i) := by rw [hl]; rfl
  have hheld : (deratePrim t i).lsd.held = t.lsd.held.set i (heldNow t i) := by rw [hl]; rfl
  have hfix : t.lsd.fixed = s.lsd.fixed := (underated_eq (·.lsd.fixed) h.frame :)
  have hprim : primBanks t i = primBanks s i := (underated_eq (fun x => primBanks x i) h.frame :)
  have hun (b : Nat) : unread t b = unread s b := (underated_eq (fun x => unread x b) h.frame :)
  have hhot (l : List Nat) : hotBank t l = hotBank s l := (underated_eq (fun x => hotBank x l) h.frame :)
  have hder (d : Int) : derateFactor t d = derateFactor s d := (underated_eq (fun x => derateFactor x d) h.frame :)
  refine ⟨(underated_deratePrim t i).trans h.frame, ?_, fun c v hc hlen hv => ?_, fun c hc hlen hn hr => ?_⟩
  · rw [hnew, List.length_set]
    exact h.size
  · rw [hnew]
    rcases Nat.lt_succ_iff_lt_or_eq.mp hc with hlt | rfl
    · rw [getD_set_ne _ (by omega)]
      exact h.fixed c v hlt hlen hv
    · rw [getD_set_same _ (by rw [h.size]; exact hlen), factorNow, hfix, hv]
  · rw [hnew, hheld]
    rcases Nat.lt_succ_iff_lt_or_eq.mp hc with hlt | rfl
    · rw [getD_set_ne _ (by omega), getD_set_ne _ (by omega)]
      exact h.reads c hlt hlen hn hr
    · have hr' : ∀ b ∈ primBanks t c, unread t b = false := fun b hb => by
        rw [hun]
        exact hr b (by rwa [hprim] at hb)
      rw [getD_set_same _ (by rw [h.size]; exact hlen), factorNow_reads (by rw [hfix]; exact hn) hr', heldNow_none hr',
        getD_set_default, hhot, hprim]
      refine ⟨?_, rfl⟩
      split
      · rw [hder]
      · rfl

theorem derateUpdate_waits (h : s.tsc < s.lsd.derateAt + 250000) : derateUpdate s = s := if_neg (by simp only [msCycles]; omega)

/-- The derating's time is renewed. -/
def derateTimed (s : State) : State := { s with lsd := { s.lsd with derateAt := s.tsc } }

theorem derateUpdate_due (h : s.lsd.derateAt + 250000 ≤ s.tsc) : derateUpdate s = forN 3 deratePrim (derateTimed s) :=
  if_pos (by simp only [msCycles]; omega)

theorem exec_derateUpdate (h : Live s) (hd : s.lsd.derateAt + 250000 ≤ s.tsc) (hlen : s.lsd.fNew.length = 3) :
    ∃ t, exec .derateUpdate s = .next t ∧ calm t = calm { s with lsd := { s.lsd with
        failedSeen := t.lsd.failedSeen, holdBy := t.lsd.holdBy, held := t.lsd.held, fNew := t.lsd.fNew, hot := t.lsd.hot,
        tc := t.lsd.tc, derateAt := s.tsc } } ∧ (∀ a, a < reservedBase s → rd t a = rd s a) ∧
      (∀ c v, c < 3 → s.lsd.fixed.getD c none = some v → t.lsd.fNew.getD c 0 = v) ∧
      (∀ c, c < 3 → s.lsd.fixed.getD c none = none →
        (∀ b ∈ primBanks s c, (vget s.thm.sensor (17 + b) {}).failed = false) →
        t.lsd.fNew.getD c 0 = (match hotBank s (primBanks s c) with
          | some (_, d) => derateFactor s d
          | none => 65536) ∧ t.lsd.held.getD c none = none) := by
  have hrun := derateUpdate_due hd
  have h0 : Effects [] failNoise s (derateTimed s) := ((Effects.refl _ s).units (by rfl))
  have heff := h0.quiet (.forN deratePrim_effects 3 _)
  have hw := derating (derateTimed s)
  rw [← hrun] at heff hw
  obtain ⟨t, ht, hdone⟩ := exec_done (i := .derateUpdate) rfl h heff
  have hcalm : calm t = calm (derateUpdate s) := hdone.quiet (fun n hl hn => by
    rcases hn with hn | hn
    · cases hn
    · rw [show n = 0x77 from hn]
      rfl)
  have hl : t.lsd = (derateUpdate s).lsd := (calm_eq (·.lsd) hcalm :)
  have hsize (c : Nat) (hc : c < 3) : c < (derateTimed s).lsd.fNew.length := by
    show c < s.lsd.fNew.length
    omega
  refine ⟨t, ht, ?_, hdone.memory, fun c v hc hv => ?_, fun c hc hn hr => ?_⟩
  · rw [hcalm, hl]
    exact calm_of_underated hw.frame
  · rw [hl]
    exact hw.fixed c v hc (hsize c hc) hv
  · rw [hl]
    exact hw.reads c hc (hsize c hc) hn hr

/-! ### The obligation -/

/-- Settles O43: each command by what its operation makes of the light path; each millisecond's derating by an invariant of its
loop over the primaries. -/
theorem lightCommandsAndDerating : Obligations.LightCommandsAndDerating := by
  unfold Obligations.LightCommandsAndDerating
  refine ⟨fun s c l r h hl hr h4 h5 hs hst => ?aims, fun s c l h hl h5 h4 hs hst => ?sets, fun s c h hf ha hh hd h4 h5 hs => ?busy,
    fun s c h h1 hf => ?later, fun s c h h1 hf => ?now, fun s c k f h hk hf hm h0 hle => ?fixes, fun s c k h hk hm hf => ?frees,
    fun s c b h hb hm => exec_linkRestart h hb hm, fun s c b h hb hm => ?refused,
    fun s c m b h hm hlt ha hu hmb hmode => exec_pinTest_clean h hm hlt ha hu hmb hmode,
    fun s c m b k h hm hlt ha hu hb hmb hk => exec_pinTest_short h hm hlt ha hu hb hmb hk, fun s h hd => ?early,
    fun s h hd hlen => exec_derateUpdate h hd hlen⟩
  case aims =>
    have hrun := (runBrightness_aims (s := enterFlight s (arriving s 0x0903 c [])) hl hr h4 h5 hs).trans
      (by rw [aimed_ramps (s := enterFlight s (arriving s 0x0903 c [])) hst])
    exact exec_replies (i := .lsdBrightness c) (e := { s with lsd := { s.lsd with
      target := l
      ramp := some {
        x0 := s.lsd.x, x1 := l, start := s.tsc
        len := if r = 0 then (cfg s).light.rampMs * msCycles else r * msCycles } } }) rfl h
      ((h.mid [] (by decide) (by decide)).trans ((runMid_brightness rfl _).trans hrun))
  case sets =>
    have hrun := (runBrightness_aims (s := enterFlight s (arriving s 0x0903 c [])) hl rfl h4 h5 hs).trans
      (by rw [aimed_sets (s := enterFlight s (arriving s 0x0903 c [])) hst])
    exact exec_replies (i := .lsdBrightness c) (e := { s with lsd := { s.lsd with target := l } }) rfl h
      ((h.mid [] (by decide) (by decide)).trans ((runMid_brightness rfl _).trans hrun))
  case busy =>
    have hrun := runBrightness_busy (s := enterFlight s (arriving s 0x0903 c [])) (p := bodyOf c) h4 h5 hs
    have hop : runOp (enterFlight s (arriving s 0x0903 c [])) (arriving s 0x0903 c []) =
        (enterFlight s (arriving s 0x0903 c []), .now .busy []) :=
      (runOp_on (s := enterFlight s (arriving s 0x0903 c [])) (f := arriving s 0x0903 c []) hd).trans
        ((if_neg (show ¬ 0x0903 < 0x0800 by decide)).trans ((if_pos (show 0x0903 < 0x0A00 by decide)).trans
          ((runMid_brightness rfl _).trans hrun)))
    exact exec_answers_switching (i := .lsdBrightness c) (e := s) rfl h ⟨hf, ha, hh⟩ hop ⟨s.img, rfl⟩
  case later =>
    exact exec_begins (i := .lsdColourLock c) (e := { s with lsd := { s.lsd with
      lockNext := some (decide (leAt (bodyOf c) 0 1 = 1))
      lockIds := s.lsd.lockIds ++ [s.hmi.nextId] } }) rfl h ((h.mid [] (by decide) (by decide)).trans ((runMid_colourLock rfl _).trans
        (runColourLock_later (s := enterFlight s (arriving s 0x0905 c [])) h1 hf))) (.refl _)
  case now =>
    exact exec_replies (i := .lsdColourLock c) (e := { s with lsd := { s.lsd with lock := decide (leAt (bodyOf c) 0 1 = 1) } }) rfl h
      ((h.mid [] (by decide) (by decide)).trans ((runMid_colourLock rfl _).trans
        (runColourLock_now (s := enterFlight s (arriving s 0x0905 c [])) h1 hf)))
  case fixes =>
    subst hk
    obtain ⟨t, ht, hans, hc⟩ := exec_override (i := .lsdDerateOverride c) rfl h (some f)
      (runDerate_fixes (s := enterFlight s (arriving s 0x0906 c [])) hm h0 hf hle)
    refine ⟨t, ht, hans, ?_⟩
    rw [hc, (calm_eq (·.lsd.holdBy) hc :)]
    rfl
  case frees =>
    subst hk
    have hsplit := leAt_split (bodyOf c)
    obtain ⟨t, ht, hans, hc⟩ := exec_override (i := .lsdDerateOverride c) rfl h none
      (runDerate_frees (s := enterFlight s (arriving s 0x0906 c [])) (by omega) (by omega) hf)
    refine ⟨t, ht, hans, ?_⟩
    rw [hc, (calm_eq (·.lsd.holdBy) hc :)]
    rfl
  case refused =>
    subst hb
    exact exec_replies (i := .lsdLinkRestart c) (e := s) rfl h ((h.mid [] (by decide) (by decide)).trans
      ((runMid_linkRestart rfl _).trans (runLinkRestart_refused (s := enterFlight s (arriving s 0x0907 c [])) hm)))
  case early => exact exec_unit_same (i := .derateUpdate) rfl h (derateUpdate_waits hd)

end
end Sys2Proof.Machine
end


section
/-! The Driver Links: what a link start, a reply and a failed link make of their bank, and what reactions keep of the banks
(R319–R326, R331). -/

namespace Sys2Proof.Machine

/-! ### What a reaction keeps of a bank -/

/-- Of a bank a reaction keeps all but its state and its drive; a bank without light stays in its state. -/
structure BankKept (x y : Bank) : Prop where
  rested : rested y = rested x
  unverified : y.unverified = x.unverified
  dark : litMode x.mode = false → y.mode = x.mode ∧ y.cause = x.cause

/-- Every bank is kept so. -/
def BanksKept (s t : State) : Prop := ∀ q, BankKept (bankAt s q) (bankAt t q)

theorem BankKept.refl (x : Bank) : BankKept x x := ⟨rfl, rfl, fun _ => ⟨rfl, rfl⟩⟩

theorem BankKept.trans {x y z : Bank} (h : BankKept x y) (k : BankKept y z) : BankKept x z where
  rested := k.rested.trans h.rested
  unverified := k.unverified.trans h.unverified
  dark hx := by
    obtain ⟨h1, h2⟩ := h.dark hx
    obtain ⟨k1, k2⟩ := k.dark (by rw [h1]; exact hx)
    exact ⟨k1.trans h1, k2.trans h2⟩

theorem BankKept.errRun {x y : Bank} (h : BankKept x y) : y.errRun = x.errRun := rested_eq (·.errRun) h.rested
theorem BankKept.drvFault {x y : Bank} (h : BankKept x y) : y.drvFault = x.drvFault := rested_eq (·.drvFault) h.rested

theorem BanksKept.of_banks {s t : State} (h : t.lsd.bank = s.lsd.bank) : BanksKept s t := fun q => by
  rw [bankAt_of_lsd h q]
  exact .refl _

theorem BanksKept.trans {a b c : State} (h : BanksKept a b) (k : BanksKept b c) : BanksKept a c := fun q => (h q).trans (k q)

theorem bankOff_kept (s : State) (b : Nat) : BanksKept s (bankOff s b) := by
  intro q
  by_cases hq : q = b
  · subst hq
    by_cases hl : litMode (bankAt s q).mode = true
    · have hlt : q < 12 := bank_lt (s := s) (fun hd => by rw [hd] at hl; cases hl)
      rw [bankAt_bankOff_same hlt hl]
      exact ⟨rfl, rfl, fun hd => by rw [hl] at hd; cases hd⟩
    · rw [bankOff_dark (by simpa using hl)]
      exact .refl _
  · rw [bankAt_bankOff_ne hq]
    exact .refl _

theorem enterSafe_kept (s : State) (source : Nat) (shutter : Bool) : BanksKept s (enterSafe s source shutter) := by
  have h1 : BanksKept s (safeBegin s source shutter) := .of_banks (safeBegun s source shutter).bank
  have h2 : BanksKept (safeBegin s source shutter) (forN 12 bankOff (safeBegin s source shutter)) :=
    List.foldlRecOn _ bankOff (motive := fun t => BanksKept (safeBegin s source shutter) t) (fun _ => .refl _)
      (fun t ht b _ => ht.trans (bankOff_kept t b))
  rw [enterSafe_eq]
  generalize forN 12 bankOff (safeBegin s source shutter) = z at *
  exact (h1.trans h2).trans (.of_banks (safeEnd_keeps (lightOff z shutter)).1)

theorem modHlsSlot_lsd (s : State) (k : Nat) (f : Slot → Slot) : (modHlsSlot s k f).lsd = s.lsd := by
  unfold modHlsSlot
  split <;> rfl

theorem parkScanner_lsd (s : State) (c : Nat) (f : Bool) : (parkScanner s c f).lsd = s.lsd := by
  have inc (s : State) (n t : Nat) : (setInc s n t).lsd = s.lsd := rfl
  have rest (s : State) : (scannerRest s c f).lsd = s.lsd := rfl
  have trigger (s : State) : (parkTrigger s).lsd = s.lsd := rfl
  have set (s : State) (m : HlsMode) : (setHls s m c).lsd = s.lsd := (calm_eq (·.lsd) (calm_post _ _ _ _) :)
  unfold parkScanner
  extract_lets t s1
  split
  · rw [set, inc, hlsTarget, modHlsSlot_lsd]
    simp only [s1]
    rw [modHlsSlot_lsd, modHlsSlot_lsd, rest]
    exact trigger s
  · exact trigger s

theorem parkArray_lsd (s : State) (p : Nat) : (parkArray s p).lsd = s.lsd := by
  have enter (s : State) (m : PortMode) (c : Nat) : (enterPort s p m c).lsd = s.lsd := (calm_eq (·.lsd) (calm_enterPort s p m c) :)
  unfold parkArray
  extract_lets x
  split
  · refine (calm_eq (·.lsd) (calm_completeOpt _ _ _ _) :).trans ?_
    rw [parkPort, enter]
    rfl
  · rfl

/-- Every reaction keeps the banks so. -/
theorem banksKept_stable : Stable BanksKept where
  refl _ := fun _ => .refl _
  trans := .trans
  records h := .of_banks (calm_eq (·.lsd.bank) h.calm :)
  safe := enterSafe_kept
  arrays s := List.foldlRecOn _ parkArray (motive := fun t => BanksKept s t) (fun _ => .refl _)
    (fun t ht p _ => ht.trans (.of_banks (congrArg Lsd.bank (parkArray_lsd t p))))
  scanner s c f := .of_banks (congrArg Lsd.bank (parkScanner_lsd s c f))
  bank := bankOff_kept

section
variable {s t r : State} {b q c v f : Nat} {C : List Nat}

/-! ### A link fails -/

/-- A bank whose link has failed, before it takes its state. -/
def unlinkedBank (x : Bank) : Bank :=
  { x with
    linking := false
    linkRun := false
    version := 0 }

theorem linkFail_eq (s : State) (b cause : Nat) : linkFail s b cause = pinTestCheck (restartDone (leaveSafe (anySafe s)
    (report (setBank (modBank s b unlinkedBank) b .linkFailed cause) { source := 0x75, master := b })) b .checkFail) := rfl

theorem linkFail_effects {E : Nat → Prop} (s : State) (b cause : Nat) : Effects [0x75] E s (linkFail s b cause) := by
  have h1 := (modBank_effects (E := E) s b unlinkedBank).quiet (setBank_effects _ b .linkFailed cause)
  have h2 := h1.report { source := 0x75, master := b }
  rw [linkFail_eq]
  exact ((h2.quiet (leaveSafe_effects _ _)).quiet (restartDone_effects _ _ _)).quiet (pinTestCheck_effects _)

theorem bankAt_linkFail (hb : b < 12) (cause : Nat) :
    bankAt (linkFail s b cause) b = marked s.tsc .linkFailed cause (unlinkedBank (bankAt s b)) := by
  rw [linkFail_eq, bankAt_pinTestCheck, bankAt_restartDone, bankAt_leaveSafe, bankAt_of_calm (calm_report _ _), bankAt_setBank_same hb,
    bankAt_modBank_same hb]
  rfl

theorem restartDone_pins (s : State) (b : Nat) (st : Status) : (restartDone s b st).pins = s.pins := by
  unfold restartDone
  split
  · rfl
  · exact (calm_eq (·.pins) (calm_complete _ _ _ _) :)

theorem pinTestCheck_pins (s : State) : (pinTestCheck s).pins = s.pins := by
  unfold pinTestCheck
  split
  · rfl
  · split
    · rfl
    · exact (calm_eq (·.pins) (calm_complete _ _ _ _) :)

/-! ### A link start -/

/-- The first combination at which the driver was found. -/
def foundAt (r : LinkFound) : Option Nat := firstN 4 (fun i => decide (r.phases.getD i 0 % 256 ≠ 0))

/-- The versions or the delay do not suit. -/
def linkRefused (s : State) (r : LinkFound) : Bool :=
  decide (r.verMax < (cfg s).light.dlinkMinVer ∨ 40 < r.delay ∨ min 2 r.verMax < r.verMin ∨ min 2 r.verMax = 0)

/-- The frames of the start have been sent. -/
def framesSent (s : State) (b : Nat) (r : LinkFound) : State :=
  sendFrames (modBank s b (fun x => { x with diInv := r.diInv })) b
    (linkFrames (foundAt r) (if (foundAt r).isSome && !linkRefused s r then some (min 2 r.verMax) else none))

/-- What was read of the driver. -/
def driverRead (r : LinkFound) (i : Nat) (x : Bank) : Bank :=
  { x with
    ckInv := decide (i % 2 = 1)
    doInv := decide (2 ≤ i)
    diPhase := midPhase (r.phases.getD i 0)
    drvMax := r.verMax
    drvDelay := r.delay }

/-- The link runs at a version. -/
def linkAt (v : Nat) (x : Bank) : Bank := { x with linking := false, version := v }

/-- A started bank is armed, or waits for FTG0. -/
def bankUp (on : Bool) (s : State) (b : Nat) : State := if on then openShutter (armBank s b 0) else setBank s b .paused 0

/-- A driver has been found: its link starts, or fails. -/
def driverFound (s : State) (b : Nat) (r : LinkFound) (i : Nat) (m : BankMode) : State :=
  if r.verMax < (cfg s).light.dlinkMinVer then linkFail (modBank s b (driverRead r i)) b 9
  else if 40 < r.delay then linkFail (modBank s b (driverRead r i)) b 10
  else if min 2 r.verMax < r.verMin ∨ min 2 r.verMax = 0 ∨ !r.probe then linkFail (modBank s b (driverRead r i)) b 7
  else
    let s3 := fitTable (modBank (modBank s b (driverRead r i)) b (linkAt (min 2 r.verMax))) b (min 2 r.verMax)
    pinTestCheck (restartDone (if m == .starting then bankUp s.ftgOn s3 b else s3) b .ok)

theorem linkStartDone_eq (s : State) (b : Nat) (r : LinkFound) : linkStartDone s b r =
    if (bankAt s b).linking then
      (match foundAt r with
        | none => linkFail (framesSent s b r) b 7
        | some i => driverFound (framesSent s b r) b r i (bankAt s b).mode)
    else s := rfl

theorem foundAt_none {r : LinkFound} (h : ∀ i, i < 4 → r.phases.getD i 0 % 256 = 0) : foundAt r = none := by
  rw [foundAt, firstN, List.find?_eq_none]
  intro i hi
  rw [h i (List.mem_range.mp hi)]
  decide

theorem foundAt_some {r : LinkFound} {i : Nat} (hi : i < 4) (h : r.phases.getD i 0 % 256 ≠ 0) : ∃ j, foundAt r = some j := by
  rw [← Option.isSome_iff_exists, foundAt, firstN, List.find?_isSome]
  exact ⟨i, List.mem_range.mpr hi, decide_eq_true h⟩

theorem sendFrames_sent (s : State) (b : Nat) (l : List Nat) : ∃ o, sendFrames s b l = { s with outs := o } ∧ s.outs <:+ o ∧
    ∀ f ∈ l, Output.dlink b f ∈ o := by
  unfold sendFrames
  induction l generalizing s with
  | nil => exact ⟨s.outs, rfl, List.suffix_refl _, fun f hf => by cases hf⟩
  | cons f l ih =>
    obtain ⟨o, h1, h2, h3⟩ := ih (emit s (.dlink b f))
    refine ⟨o, h1, (List.suffix_cons _ _).trans h2, fun g hg => ?_⟩
    rcases List.mem_cons.mp hg with rfl | hg
    · exact h2.subset List.mem_cons_self
    · exact h3 g hg

theorem framesSent_effects {E : Nat → Prop} (s : State) (b : Nat) (r : LinkFound) : Effects [] E s (framesSent s b r) :=
  (modBank_effects s b _).quiet (.foldl (fun s _ => (Effects.refl E s).emit _) _ _)

theorem framesSent_units (s : State) (b : Nat) (r : LinkFound) : ∃ o, framesSent s b r =
    { modBank s b (fun x => { x with diInv := r.diInv }) with outs := o } ∧
    ∀ f ∈ linkFrames (foundAt r) (if (foundAt r).isSome && !linkRefused s r then some (min 2 r.verMax) else none),
      Output.dlink b f ∈ o := by
  obtain ⟨o, h1, -, h3⟩ := sendFrames_sent (modBank s b (fun x => { x with diInv := r.diInv })) b
    (linkFrames (foundAt r) (if (foundAt r).isSome && !linkRefused s r then some (min 2 r.verMax) else none))
  exact ⟨o, h1, h3⟩

/-- The table may change, of the rest of a bank nothing. -/
theorem fitTable_units (s : State) (b v : Nat) : ∃ f : Bank → Bank, fitTable s b v = modBank s b f ∧
    ∀ x, (f x).mode = x.mode ∧ (f x).linking = x.linking ∧ (f x).version = x.version ∧ (f x).drvMax = x.drvMax ∧
      (f x).drvDelay = x.drvDelay := by
  unfold fitTable
  extract_lets x
  split
  · refine ⟨id, ?_, fun _ => ⟨rfl, rfl, rfl, rfl, rfl⟩⟩
    simp only [modBank, vmod]
    split <;> simp
  · split
    · exact ⟨_, rfl, fun _ => ⟨rfl, rfl, rfl, rfl, rfl⟩⟩
    · exact ⟨_, rfl, fun _ => ⟨rfl, rfl, rfl, rfl, rfl⟩⟩

theorem openShutter_effects {E : Nat → Prop} (s : State) : Effects [] E s (openShutter s) := by
  obtain ⟨π, h, -⟩ := openShutter_units s
  rw [h]
  exact ((Effects.refl E s).units (by rfl))

theorem bankUp_effects (on : Bool) (s : State) (b : Nat) : Effects [] lightNoise s (bankUp on s b) :=
  .ite _ ((armBank_effects s b 0).quiet (openShutter_effects _)) (setBank_effects _ _ _ _)

/-- What a bank is once its link has started. -/
theorem bankUp_bank (hb : b < 12) (hm : (bankAt s b).mode ≠ .armed) (on : Bool) :
    (bankAt (bankUp on s b) b).mode = (if on then .armed else .paused) ∧ rested (bankAt (bankUp on s b) b) = rested (bankAt s b) ∧
    bitAt (bankUp on s b).pins.laserEn b = (bitAt s.pins.laserEn b || on) := by
  cases on with
  | true =>
    obtain ⟨f, hf, hmode, hrest⟩ := calm_armBank (s := s) hb 0
    obtain ⟨π, ho, hl, -⟩ := openShutter_units (armBank s b 0)
    have hx : bankUp true s b = { armBank s b 0 with pins := π } := (if_pos rfl).trans ho
    have hbank : bankAt (bankUp true s b) b = f (bankAt s b) := by
      rw [hx]
      exact (bankAt_of_calm hf b).trans (bankAt_modBank_same (s := laserOn s b) hb f)
    have hlaser : (bankUp true s b).pins.laserEn = s.pins.laserEn ||| 2 ^ b := by
      rw [hx]
      exact hl.trans (calm_eq (·.pins.laserEn) hf :)
    rw [hbank, hlaser, bitAt_or_pow]
    exact ⟨hmode, hrest, by simp⟩
  | false =>
    have hx : bankUp false s b = setBank s b .paused 0 := rfl
    have hc := calm_setBank (s := s) (b := b) (m := .paused) (.inl hm) (by decide) 0
    rw [hx, bankAt_setBank_same hb, (calm_eq (·.pins.laserEn) hc :)]
    exact ⟨rfl, rfl, by simp [modBank]⟩

/-- A driver found in good order: the bank's link runs at the highest version both know. -/
theorem driverFound_good {r : LinkFound} {i : Nat} {m : BankMode} (h1 : (cfg s).light.dlinkMinVer ≤ r.verMax) (h2 : r.delay ≤ 40)
    (h3 : r.verMin ≤ min 2 r.verMax) (h4 : 1 ≤ r.verMax) (h5 : r.probe = true) : driverFound s b r i m =
      pinTestCheck (restartDone (if m == .starting then bankUp s.ftgOn
        (fitTable (modBank (modBank s b (driverRead r i)) b (linkAt (min 2 r.verMax))) b (min 2 r.verMax)) b else
        fitTable (modBank (modBank s b (driverRead r i)) b (linkAt (min 2 r.verMax))) b (min 2 r.verMax)) b .ok) :=
  (if_neg (by omega)).trans ((if_neg (by omega)).trans (if_neg (by rw [h5]; simp only [Bool.not_true, Bool.false_eq_true, or_false]; omega)))

theorem driverFound_old {r : LinkFound} {i : Nat} {m : BankMode} (h : r.verMax < (cfg s).light.dlinkMinVer) :
    driverFound s b r i m = linkFail (modBank s b (driverRead r i)) b 9 := if_pos h

theorem driverFound_slow {r : LinkFound} {i : Nat} {m : BankMode} (h1 : (cfg s).light.dlinkMinVer ≤ r.verMax) (h2 : 40 < r.delay) :
    driverFound s b r i m = linkFail (modBank s b (driverRead r i)) b 10 := (if_neg (by omega)).trans (if_pos h2)

/-! ### A reply -/

/-- What a reply tells of a bank that stood as `y`. -/
def replied (now f : Nat) (y x : Bank) : Bank :=
  { x with
    errRun := 0
    drvFlags := replyFlags y.version f % 4
    drvFault := bitAt (replyFlags y.version f) 1
    measured := if decide (replyType f ≤ 1) then replyData y.version f else x.measured
    winAny := x.winAny || ((y.mode == .armed && decide (y.code ≠ 0) && decide (y.codeAt + 300 ≤ now)) && decide (replyType f ≤ 1))
    winOpen := x.winOpen && !((y.mode == .armed && decide (y.code ≠ 0) && decide (y.codeAt + 300 ≤ now)) && decide (replyType f ≤ 1) &&
      !decide (replyData y.version f * 10 < x.code))
    winHigh := x.winHigh || ((y.mode == .armed && decide (y.code ≠ 0) && decide (y.codeAt + 300 ≤ now)) && decide (replyType f ≤ 1) &&
      decide (y.code * 5 + (if y.version = 1 then 64 else 1024) < replyData y.version f * 4)) }

theorem driverReply_idle (h : linkInUse s b = false) : driverReply s b f = s := if_neg (by rw [h]; decide)

theorem driverReply_bad (h : linkInUse s b = true) (hf : replyOk (bankAt s b).version f = false ∨ replyType f = 7) :
    driverReply s b f = nextNop (replyError s b) b := (if_pos h).trans (if_pos (by rcases hf with h | h <;> simp [h]))

theorem driverReply_good (h : linkInUse s b = true) (hok : replyOk (bankAt s b).version f = true) (ht : replyType f ≠ 7) :
    driverReply s b f = if bitAt (replyFlags (bankAt s b).version f) 1 && !(bankAt s b).drvFault then
      report (sendLink (modBank s b (replied s.tsc f (bankAt s b))) b 5 0) { source := 0x76, master := b }
    else nextNop (modBank s b (replied s.tsc f (bankAt s b))) b := by
  have hno : ¬ (!replyOk (bankAt s b).version f || decide (replyType f = 7)) = true := by simp [hok, ht]
  rw [driverReply, if_pos h]
  exact (if_neg hno).trans rfl

theorem replyFlags_lt (v f : Nat) : replyFlags v f < 4 := by
  unfold replyFlags bits
  split <;> exact Nat.mod_lt _ (by decide)

theorem bitAt_one (hf : f < 4) : bitAt f 1 = decide (2 ≤ f) := by
  interval_cases f <;> rfl

theorem replyMissing_idle (h : linkInUse s b = false) : replyMissing s b = s := if_neg (by rw [h]; decide)
theorem replyMissing_runs (h : linkInUse s b = true) : replyMissing s b = nextNop (replyError s b) b := if_pos h

theorem nextNop_effects {E : Nat → Prop} (s : State) (b : Nat) : Effects [] E s (nextNop s b) :=
  .ite _ ((Effects.refl E s).emit _) (.refl E s)

theorem bankAt_nextNop (s : State) (b q : Nat) : bankAt (nextNop s b) q = bankAt s q := by
  unfold nextNop
  split <;> rfl

/-- One more bad reply. -/
def oneMore (x : Bank) : Bank := { x with errRun := x.errRun + 1 }

/-- A bad reply has been counted and reported. -/
def replyCounted (s : State) (b : Nat) : State :=
  report (bump (modBank s b oneMore) (bankBase b + 0x24)) { source := 0x74, master := b }

theorem replyError_eq (s : State) (b : Nat) : replyError s b =
    if 4 ≤ (bankAt (replyCounted s b) b).errRun then linkFail (replyCounted s b) b 8 else replyCounted s b := rfl

theorem replyCounted_effects {E : Nat → Prop} (s : State) (b : Nat) : Effects [bankBase b + 0x24, 0x74] E s (replyCounted s b) :=
  ((modBank_effects (E := E) s b oneMore).adds (bump_adds _ (unitTally_bank _ _) (bankBase_big _ _))).report
    { source := 0x74, master := b }

theorem calm_replyCounted (s : State) (b : Nat) : calm (replyCounted s b) = calm (modBank s b oneMore) :=
  (calm_report _ _).trans (calm_bump _ _)

theorem bankAt_replyCounted (hb : b < 12) : bankAt (replyCounted s b) b = oneMore (bankAt s b) :=
  (bankAt_of_calm (calm_replyCounted s b) b).trans (bankAt_modBank_same hb _)

end
end Sys2Proof.Machine
end


section
/-! The Driver Links (R319–R326, R331, R344). -/

namespace Sys2Proof.Machine

section
variable {s t r : State} {b : Fin 12} {v f : Nat} {C : List Nat}

/-! ### A link start -/

/-- A link fails, whatever led to it. -/
theorem exec_linkFails {i : Instr} {g : State → State} {cause : Nat} (hi : exec i s = .next (event s g)) (h : Live s)
    (hg : g s = linkFail r b.val cause) (he : Effects [] exactly s r) :
    ∃ t, exec i s = .next t ∧ (bankAt t b.val).mode = .linkFailed ∧ (bankAt t b.val).cause = cause ∧
      (bankAt t b.val).linkRun = false ∧ counted s t 0x75 := by
  have heff := he.trans (linkFail_effects r b.val cause)
  have hbank := bankAt_linkFail (s := r) b.isLt cause
  rw [← hg] at heff hbank
  obtain ⟨t, ht, hd⟩ := exec_done hi h heff
  have hcalm : calm t = calm (g s) := hd.calm (fun n hn _ => by
    rw [List.mem_singleton.mp hn]
    rfl)
  have hat := (bankAt_of_calm hcalm b.val).trans hbank
  exact ⟨t, ht, congrArg (·.mode) hat, congrArg (·.cause) hat, congrArg (·.linkRun) hat,
    hd.counted 0x75 (by decide) (by decide) id (by decide)⟩

theorem exec_linkNone {r : LinkFound} (h : Live s) (hl : (bankAt s b.val).linking = true) (hn : ∀ i, i < 4 → r.phases.getD i 0 % 256 = 0) :
    ∃ t, exec (.linkStartDone b r) s = .next t ∧ (bankAt t b.val).mode = .linkFailed ∧ (bankAt t b.val).cause = 7 ∧
      (bankAt t b.val).linkRun = false ∧ counted s t 0x75 := by
  have hrun : linkStartDone s b.val r = linkFail (framesSent s b.val r) b.val 7 := by
    rw [linkStartDone_eq, if_pos hl, foundAt_none hn]
  exact exec_linkFails (i := .linkStartDone b r) (g := fun s => linkStartDone s b.val r) rfl h hrun (framesSent_effects s b.val r)

theorem cfg_framesSent (s : State) (b : Nat) (r : LinkFound) : cfg (framesSent s b r) = cfg s := by
  obtain ⟨o, h, -⟩ := framesSent_units s b r
  rw [h]
  rfl

theorem exec_linkOld {r : LinkFound} {i : Nat} (h : Live s) (hl : (bankAt s b.val).linking = true) (hi : i < 4)
    (hp : r.phases.getD i 0 % 256 ≠ 0) (hv : r.verMax < (cfg s).light.dlinkMinVer) :
    ∃ t, exec (.linkStartDone b r) s = .next t ∧ (bankAt t b.val).mode = .linkFailed ∧ (bankAt t b.val).cause = 9 ∧
      (bankAt t b.val).linkRun = false ∧ counted s t 0x75 := by
  obtain ⟨j, hj⟩ := foundAt_some hi hp
  have hrun : linkStartDone s b.val r = linkFail (modBank (framesSent s b.val r) b.val (driverRead r j)) b.val 9 := by
    rw [linkStartDone_eq, if_pos hl, hj]
    exact driverFound_old (by rw [cfg_framesSent]; exact hv)
  exact exec_linkFails (i := .linkStartDone b r) (g := fun s => linkStartDone s b.val r) rfl h hrun
    ((framesSent_effects s b.val r).quiet (modBank_effects _ _ _))

theorem exec_linkSlow {r : LinkFound} {i : Nat} (h : Live s) (hl : (bankAt s b.val).linking = true) (hi : i < 4)
    (hp : r.phases.getD i 0 % 256 ≠ 0) (hv : (cfg s).light.dlinkMinVer ≤ r.verMax) (hd : 40 < r.delay) :
    ∃ t, exec (.linkStartDone b r) s = .next t ∧ (bankAt t b.val).mode = .linkFailed ∧ (bankAt t b.val).cause = 10 ∧
      (bankAt t b.val).linkRun = false ∧ counted s t 0x75 := by
  obtain ⟨j, hj⟩ := foundAt_some hi hp
  have hrun : linkStartDone s b.val r = linkFail (modBank (framesSent s b.val r) b.val (driverRead r j)) b.val 10 := by
    rw [linkStartDone_eq, if_pos hl, hj]
    exact driverFound_slow (by rw [cfg_framesSent]; exact hv) hd
  exact exec_linkFails (i := .linkStartDone b r) (g := fun s => linkStartDone s b.val r) rfl h hrun
    ((framesSent_effects s b.val r).quiet (modBank_effects _ _ _))

/-- The frame that sets the version is one of the start. -/
theorem setVersion_sent {r : LinkFound} {j : Nat} (hj : foundAt r = some j) (hr : linkRefused s r = false) :
    dlinkFrame 1 4 (min 2 r.verMax) 0 ∈
      linkFrames (foundAt r) (if (foundAt r).isSome && !linkRefused s r then some (min 2 r.verMax) else none) := by
  rw [hj, hr]
  simp [linkFrames]

theorem exec_linkStarts {r : LinkFound} {i : Nat} (h : Live s) (hl : (bankAt s b.val).linking = true)
    (hm : (bankAt s b.val).mode = .starting) (hi : i < 4) (hp : r.phases.getD i 0 % 256 ≠ 0)
    (h1 : (cfg s).light.dlinkMinVer ≤ r.verMax) (h2 : r.delay ≤ 40) (h3 : r.verMin ≤ min 2 r.verMax) (h4 : 1 ≤ r.verMax)
    (h5 : r.probe = true) :
    ∃ t, exec (.linkStartDone b r) s = .next t ∧ (bankAt t b.val).mode = (if s.ftgOn then .armed else .paused) ∧
      (bankAt t b.val).linking = false ∧ (bankAt t b.val).version = min 2 r.verMax ∧ (bankAt t b.val).drvMax = r.verMax ∧
      (bankAt t b.val).drvDelay = r.delay ∧ Output.dlink b.val (dlinkFrame 1 4 (min 2 r.verMax) 0) ∈ t.outs ∧
      bitAt t.pins.laserEn b.val = (bitAt s.pins.laserEn b.val || s.ftgOn) := by
  obtain ⟨j, hj⟩ := foundAt_some hi hp
  have hgood : linkRefused s r = false := decide_eq_false (by omega)
  have hframe := setVersion_sent hj hgood
  have heff0 := framesSent_effects (E := lightNoise) s b.val r
  have hcfg := cfg_framesSent s b.val r
  obtain ⟨o, ho, hout⟩ := framesSent_units s b.val r
  have hrun := (linkStartDone_eq s b.val r).trans (if_pos hl)
  rw [hj] at hrun
  dsimp only at hrun
  generalize framesSent s b.val r = z at *
  rw [driverFound_good (by rw [hcfg]; exact h1) h2 h3 h4 h5, hm, if_pos (by decide)] at hrun
  obtain ⟨g, hg, hkeep⟩ := fitTable_units (modBank (modBank z b.val (driverRead r j)) b.val (linkAt (min 2 r.verMax))) b.val (min 2 r.verMax)
  rw [hg, modBank_modBank, modBank_modBank] at hrun
  have hz : bankAt z b.val = { bankAt s b.val with diInv := r.diInv } := by
    rw [ho]
    exact bankAt_modBank_same (s := s) b.isLt _
  have hon : z.ftgOn = s.ftgOn := by rw [ho]; rfl
  have hpins : z.pins = s.pins := by rw [ho]; rfl
  have hsent : Output.dlink b.val (dlinkFrame 1 4 (min 2 r.verMax) 0) ∈ z.outs := by
    rw [ho]
    exact hout _ hframe
  obtain ⟨k1, k2, k3, k4, k5⟩ := hkeep (linkAt (min 2 r.verMax) (driverRead r j (bankAt z b.val)))
  have hw : bankAt (modBank z b.val (fun x => g (linkAt (min 2 r.verMax) (driverRead r j x)))) b.val =
      g (linkAt (min 2 r.verMax) (driverRead r j (bankAt z b.val))) := bankAt_modBank_same b.isLt _
  have hwm : (bankAt z b.val).mode ≠ .armed := by
    rw [hz]
    show (bankAt s b.val).mode ≠ _
    rw [hm]
    decide
  have hwp : (modBank z b.val (fun x => g (linkAt (min 2 r.verMax) (driverRead r j x)))).pins = z.pins := rfl
  have heff1 := heff0.quiet (modBank_effects z b.val (fun x => g (linkAt (min 2 r.verMax) (driverRead r j x))))
  have hsent1 : Output.dlink b.val (dlinkFrame 1 4 (min 2 r.verMax) 0) ∈
      (modBank z b.val (fun x => g (linkAt (min 2 r.verMax) (driverRead r j x)))).outs := hsent
  generalize modBank z b.val (fun x => g (linkAt (min 2 r.verMax) (driverRead r j x))) = w at *
  obtain ⟨u1, u2, u3⟩ := bankUp_bank (s := w) b.isLt (by rw [hw, k1]; exact hwm) z.ftgOn
  have heff2 := bankUp_effects z.ftgOn w b.val
  have heff3 := heff1.quiet heff2
  generalize bankUp z.ftgOn w b.val = y at *
  have heff4 : Effects [] lightNoise y (linkStartDone s b.val r) := by
    rw [hrun]
    exact (restartDone_effects _ _ _).quiet (pinTestCheck_effects _)
  have hbank : bankAt (linkStartDone s b.val r) b.val = bankAt y b.val := by rw [hrun, bankAt_pinTestCheck, bankAt_restartDone]
  have hlast : (linkStartDone s b.val r).pins = y.pins := by rw [hrun, pinTestCheck_pins, restartDone_pins]
  obtain ⟨t, ht, hd⟩ := exec_done (i := .linkStartDone b r) rfl h (heff3.quiet heff4)
  have hcalm : calm t = calm (linkStartDone s b.val r) := hd.quiet (fun n hl hn => lightNoise_quiet n hl (hn.resolve_left (by simp)))
  have hat := (bankAt_of_calm hcalm b.val).trans hbank
  rw [hw] at u2
  refine ⟨t, ht, ?_, ?_, ?_, ?_, ?_, hd.outs _ (heff4.outs _ (heff2.outs _ hsent1)), ?_⟩
  · rw [hat, u1, hon]
  · rw [hat]
    exact ((rested_eq (·.linking) u2).trans k2).trans rfl
  · rw [hat]
    exact ((rested_eq (·.version) u2).trans k3).trans rfl
  · rw [hat]
    exact ((rested_eq (·.drvMax) u2).trans k4).trans rfl
  · rw [hat]
    exact ((rested_eq (·.drvDelay) u2).trans k5).trans rfl
  · rw [(calm_eq (·.pins.laserEn) hcalm :), hlast, u3, hwp, hpins, hon]

/-! ### A reply -/

/-- Banks that stand in the same states: none has been re-armed. -/
theorem rearmed_modes (h : ∀ q, q < 12 → (bankAt r q).mode = (bankAt s q).mode) : rearmed s r = false := by
  rw [rearmed, List.any_eq_false]
  intro q hq
  have hm := h q (List.mem_range.mp hq)
  simp only [bankAt] at hm
  rw [hm]
  cases (vget s.lsd.bank q {}).mode <;> decide

/-- A reply without a fault leaves its bank's measurement, sends NOP, and nothing else. -/
theorem exec_reply_good {ty : BitVec 3} {da : BitVec 16} {fl : BitVec 2} {ck : BitVec 7} (h : Live s) (hu : linkInUse s b.val = true)
    (hf : f = replyFrame (bankAt s b.val).version ty.toNat da.toNat fl.toNat ck.toNat)
    (hok : replyOk (bankAt s b.val).version f = true) (ht : replyType f ≤ 1) (hn : replyFlags (bankAt s b.val).version f < 2) :
    exec (.driverReply b ty da fl ck) s = .next (emit (modBank s b.val (replied s.tsc f (bankAt s b.val)))
      (.dlink b.val (dlinkFrame (bankAt s b.val).version 0 0 0))) := by
  subst hf
  generalize hfr : replyFrame (bankAt s b.val).version ty.toNat da.toNat fl.toNat ck.toNat = f at *
  have hb : bankAt (modBank s b.val (replied s.tsc f (bankAt s b.val))) b.val = replied s.tsc f (bankAt s b.val) (bankAt s b.val) :=
    bankAt_modBank_same b.isLt _
  have huse : linkInUse (modBank s b.val (replied s.tsc f (bankAt s b.val))) b.val = true := by
    rw [linkInUse, hb]
    exact hu
  have hrun : driverReply s b.val f = emit (modBank s b.val (replied s.tsc f (bankAt s b.val)))
      (.dlink b.val (dlinkFrame (bankAt s b.val).version 0 0 0)) := by
    rw [driverReply_good hu hok (by omega), if_neg (by rw [bitAt_one (replyFlags_lt _ _), decide_eq_false (by omega), Bool.false_and]; decide), nextNop,
      if_pos huse, sendLink, hb]
    rfl
  refine exec_unit_quiet (i := .driverReply b ty da fl ck) rfl h (by rw [hfr, hrun]) ⟨h.reports, rfl, rfl, rfl, rfl, ?_, h.waits⟩
  refine rearmed_modes (fun q _ => ?_)
  by_cases hq : q = b.val
  · subst hq
    exact (congrArg (·.mode) hb :)
  · exact congrArg (·.mode) (bankAt_modBank_ne hq _)

theorem exec_reply_fault {ty : BitVec 3} {da : BitVec 16} {fl : BitVec 2} {ck : BitVec 7} (h : Live s) (hu : linkInUse s b.val = true)
    (hf : f = replyFrame (bankAt s b.val).version ty.toNat da.toNat fl.toNat ck.toNat)
    (hok : replyOk (bankAt s b.val).version f = true) (hty : replyType f ≠ 7) (hn : 2 ≤ replyFlags (bankAt s b.val).version f)
    (hno : (bankAt s b.val).drvFault = false) :
    ∃ t, exec (.driverReply b ty da fl ck) s = .next t ∧ (bankAt t b.val).drvFault = true ∧ counted s t 0x76 ∧
      Output.dlink b.val (dlinkFrame (bankAt s b.val).version 5 0 0) ∈ t.outs ∧ PinsDown s t := by
  subst hf
  generalize hfr : replyFrame (bankAt s b.val).version ty.toNat da.toNat fl.toNat ck.toNat = f at *
  have hflag : bitAt (replyFlags (bankAt s b.val).version f) 1 = true := by rw [bitAt_one (replyFlags_lt _ _), decide_eq_true hn]
  have hb : bankAt (modBank s b.val (replied s.tsc f (bankAt s b.val))) b.val = replied s.tsc f (bankAt s b.val) (bankAt s b.val) :=
    bankAt_modBank_same b.isLt _
  have hrun : driverReply s b.val (replyFrame (bankAt s b.val).version ty.toNat da.toNat fl.toNat ck.toNat) =
      report (sendLink (modBank s b.val (replied s.tsc f (bankAt s b.val))) b.val 5 0) { source := 0x76, master := b.val } := by
    rw [hfr, driverReply_good hu hok hty, if_pos (by rw [hflag, hno]; rfl)]
  have heff := ((modBank_effects (E := exactly) s b.val (replied s.tsc f (bankAt s b.val))).emit
    (.dlink b.val (dlinkFrame (bankAt (modBank s b.val (replied s.tsc f (bankAt s b.val))) b.val).version 5 0 0))).report
    { source := 0x76, master := b.val }
  change Effects _ _ s (report (sendLink (modBank s b.val (replied s.tsc f (bankAt s b.val))) b.val 5 0)
    { source := 0x76, master := b.val }) at heff
  rw [← hrun] at heff
  obtain ⟨t, ht, hd⟩ := exec_done (i := .driverReply b ty da fl ck) rfl h heff
  have hkept := banksKept_stable.done (i := .driverReply b ty da fl ck) rfl h heff ht b.val
  have hc := hd.counted 0x76 (by decide) (by decide) id rfl
  have hpins := hd.pins
  have houts := hd.outs
  rw [hrun] at hkept hpins houts
  refine ⟨t, ht, hkept.drvFault.trans ?_, hc, houts _ ?_, hpins.of_pins (calm_report _ _ |> calm_eq (·.pins) :)⟩
  · exact (congrArg Bank.drvFault hb).trans hflag
  · show _ ∈ (sendLink (modBank s b.val (replied s.tsc f (bankAt s b.val))) b.val 5 0).outs
    rw [sendLink, hb]
    exact List.mem_cons_self

/-- A bad or missing reply, by what the event makes of it. -/
theorem exec_reply_counted {i : Instr} {g : State → State} (hi : exec i s = .next (event s g)) (h : Live s)
    (hg : g s = nextNop (replyError s b.val) b.val) (he : (bankAt s b.val).errRun < 3) :
    ∃ t, exec i s = .next t ∧ (bankAt t b.val).errRun = (bankAt s b.val).errRun + 1 ∧ counted s t 0x74 ∧
      tally t (bankBase b.val + 0x24) = min (tally s (bankBase b.val + 0x24) + 1) tallyMax ∧ PinsDown s t := by
  have hrun : g s = nextNop (replyCounted s b.val) b.val := by
    rw [hg, replyError_eq, if_neg]
    rw [bankAt_replyCounted b.isLt]
    show ¬ 4 ≤ (bankAt s b.val).errRun + 1
    omega
  have heff := (replyCounted_effects (E := exactly) s b.val).quiet (nextNop_effects _ b.val)
  rw [← hrun] at heff
  have hne : bankBase b.val + 0x24 ≠ 0x74 := by have := bankBase_big b.val 0x24; omega
  obtain ⟨t, ht, hd⟩ := exec_done hi h heff
  have hkept := banksKept_stable.done hi h heff ht b.val
  have hpins := hd.pins
  rw [hrun] at hkept hpins
  refine ⟨t, ht, hkept.errRun.trans ?_, hd.counted 0x74 (by decide) (by decide) id ?_, ?_, hpins.of_pins ?_⟩
  · rw [bankAt_nextNop, bankAt_replyCounted b.isLt]
    rfl
  · rw [List.count_cons_of_ne hne]
    rfl
  · rw [hd.tallies _ (bankBase_big _ _) (unitTally_bank _ _) id, List.count_cons_self, List.count_cons_of_ne hne.symm]
    rfl
  · have hp : (replyCounted s b.val).pins = s.pins := (calm_eq (·.pins) (calm_replyCounted s b.val) :)
    unfold nextNop
    split
    · exact hp
    · exact hp

theorem nextNop_pins (s : State) (b : Nat) : (nextNop s b).pins = s.pins := by
  unfold nextNop
  split <;> rfl

/-- A failed link raises no output. -/
theorem linkFail_pinsDown (s : State) (b cause : Nat) : PinsDown s (linkFail s b cause) := by
  have h1 : PinsDown s (setBank (modBank s b unlinkedBank) b .linkFailed cause) :=
    (setBank_reacts (modBank s b unlinkedBank) b .linkFailed cause).pins.of_pins
  obtain ⟨on, hl, hc⟩ := calm_leaveSafe (anySafe s) (report (setBank (modBank s b unlinkedBank) b .linkFailed cause)
    { source := 0x75, master := b })
  refine h1.trans (.same ?_)
  rw [linkFail_eq, pinTestCheck_pins, restartDone_pins, (calm_eq (·.pins) hc :)]
  rfl

/-- The fourth bad reply in a row fails the link. -/
theorem exec_reply_fourth {i : Instr} {g : State → State} (hi : exec i s = .next (event s g)) (h : Live s)
    (hg : g s = nextNop (replyError s b.val) b.val) (he : 3 ≤ (bankAt s b.val).errRun) :
    ∃ t, exec i s = .next t ∧ (bankAt t b.val).mode = .linkFailed ∧ (bankAt t b.val).cause = 8 ∧
      counted s t 0x74 ∧ counted s t 0x75 ∧ PinsDown s t := by
  have hrun : g s = nextNop (linkFail (replyCounted s b.val) b.val 8) b.val := by
    rw [hg, replyError_eq, if_pos]
    rw [bankAt_replyCounted b.isLt]
    show 4 ≤ (bankAt s b.val).errRun + 1
    omega
  have heff := ((replyCounted_effects (E := exactly) s b.val).trans (linkFail_effects _ b.val 8)).quiet (nextNop_effects _ b.val)
  have hbank := (bankAt_nextNop (linkFail (replyCounted s b.val) b.val 8) b.val b.val).trans (bankAt_linkFail b.isLt 8)
  have hdown := linkFail_pinsDown (replyCounted s b.val) b.val 8
  rw [← hrun] at heff
  have hne : bankBase b.val + 0x24 ≠ 0x74 ∧ bankBase b.val + 0x24 ≠ 0x75 := by have := bankBase_big b.val 0x24; omega
  obtain ⟨t, ht, hd⟩ := exec_done hi h heff
  have hkept := banksKept_stable.done hi h heff ht b.val
  have hpins := hd.pins
  rw [hrun] at hkept hpins
  rw [hbank] at hkept
  obtain ⟨hmode, hcause⟩ := hkept.dark rfl
  refine ⟨t, ht, hmode, hcause, hd.counted 0x74 (by decide) (by decide) id ?_, hd.counted 0x75 (by decide) (by decide) id ?_, ?_⟩
  · rw [List.cons_append, List.count_cons_of_ne hne.1]
    rfl
  · rw [List.cons_append, List.count_cons_of_ne hne.2]
    rfl
  · have hp : (replyCounted s b.val).pins = s.pins := (calm_eq (·.pins) (calm_replyCounted s b.val) :)
    refine (hdown.of_pins hp).trans (hpins.of_pins ?_)
    exact (nextNop_pins _ _).symm ▸ rfl

/-! ### An unverified bank -/

theorem exec_unverified (h : Live s) (hm : (bankAt s b.val).mode = .armed) (hu : (bankAt s b.val).unverified = false)
    (hw : (bankAt s b.val).windowAt + 250000000 ≤ s.tsc) (hc : (bankAt s b.val).code = 0 ∨ s.tsc < (bankAt s b.val).codeAt + 375) :
    ∃ t, exec (.bankUnverified b) s = .next t ∧ (bankAt t b.val).unverified = true ∧ counted s t 0x72 ∧ PinsDown s t := by
  have hrun : bankUnverified s b.val = report (modBank s b.val (fun x => { x with unverified := true })) { source := 0x72, master := b.val } := by
    refine if_pos ?_
    have h1 : decide ((bankAt s b.val).windowAt + 1000 * msCycles ≤ s.tsc) = true := decide_eq_true (by simp only [msCycles]; omega)
    have h2 : (decide ((bankAt s b.val).code ≠ 0) && decide ((bankAt s b.val).codeAt + 375 ≤ s.tsc)) = false := by
      rcases hc with hc | hc
      · simp [hc]
      · simp [show ¬ (bankAt s b.val).codeAt + 375 ≤ s.tsc by omega]
    simp only [hm, hu, h1, h2]
    decide
  have heff := (modBank_effects (E := exactly) s b.val (fun x => { x with unverified := true })).report
    { source := 0x72, master := b.val }
  rw [← hrun] at heff
  obtain ⟨t, ht, hd⟩ := exec_done (i := .bankUnverified b) rfl h heff
  have hkept := banksKept_stable.done (i := .bankUnverified b) rfl h heff ht b.val
  have hpins := hd.pins
  rw [hrun] at hkept hpins
  have hb : bankAt (modBank s b.val (fun x => { x with unverified := true })) b.val = { bankAt s b.val with unverified := true } :=
    bankAt_modBank_same b.isLt _
  exact ⟨t, ht, hkept.unverified.trans (congrArg Bank.unverified hb), hd.counted 0x72 (by decide) (by decide) id rfl, hpins.of_pins⟩

theorem bankUnverified_waits (h : (bankAt s b.val).mode ≠ .armed ∨ (bankAt s b.val).unverified = true ∨
    s.tsc < (bankAt s b.val).windowAt + 250000000) : bankUnverified s b.val = s := by
  refine if_neg ?_
  rcases h with h | h | h
  · simp [h]
  · simp [h]
  · have h1 : decide ((bankAt s b.val).windowAt + 1000 * msCycles ≤ s.tsc) = false := decide_eq_false (by simp only [msCycles]; omega)
    simp [h1]

/-! ### The obligation -/

/-- Settles O44: a link start and a failed link by what they make of their bank, replies by what the event makes of it; what the
reactions to their faults keep of the banks is `banksKept_stable`. -/
theorem driverLinksStartAndAnswer : Obligations.DriverLinksStartAndAnswer := by
  unfold Obligations.DriverLinksStartAndAnswer
  refine ⟨fun s b r i h hl hm hi hp h1 h2 h3 h4 h5 => exec_linkStarts h hl hm hi hp h1 h2 h3 h4 h5,
    fun s b r h hl hn => exec_linkNone h hl hn, fun s b r i h hl hi hp hv => ?old, fun s b r i h hl hi hp hv hd => ?slow,
    fun s b r h hl => ?idleStart, fun s b ty da fl ck v f h hu hv hf hok ht hn => ?good,
    fun s b ty da fl ck v f h hu hv hf hok ht hn hno => ?fault, fun s b ty da fl ck v f h hu hv hf hbad he => ?bad,
    fun s b h hu he => exec_reply_counted (i := .dlinkReplyMissing b) rfl h (replyMissing_runs hu) he,
    fun s b h hu he => exec_reply_fourth (i := .dlinkReplyMissing b) rfl h (replyMissing_runs hu) he,
    fun s b ty da fl ck h hu => ⟨exec_unit_same (i := .dlinkReplyMissing b) rfl h (replyMissing_idle hu),
      exec_unit_same (i := .driverReply b ty da fl ck) rfl h (driverReply_idle hu)⟩,
    fun s b h hm hu hw hc => exec_unverified h hm hu hw hc,
    fun s b h hw => exec_unit_same (i := .bankUnverified b) rfl h (bankUnverified_waits hw)⟩
  case old =>
    obtain ⟨t, ht, hm, hc, -, hcount⟩ := exec_linkOld h hl hi hp hv
    exact ⟨t, ht, hm, hc, hcount⟩
  case slow =>
    obtain ⟨t, ht, hm, hc, -, hcount⟩ := exec_linkSlow h hl hi hp hv hd
    exact ⟨t, ht, hm, hc, hcount⟩
  case idleStart =>
    exact exec_unit_same (i := .linkStartDone b r) rfl h ((linkStartDone_eq s b.val r).trans (if_neg (by rw [hl]; decide)))
  case good =>
    subst hv
    have hb : bankAt (modBank s b.val (replied s.tsc f (bankAt s b.val))) b.val = replied s.tsc f (bankAt s b.val) (bankAt s b.val) :=
      bankAt_modBank_same b.isLt _
    refine ⟨_, exec_reply_good h hu hf hok ht hn, (congrArg Bank.measured hb).trans (if_pos (decide_eq_true ht)),
      congrArg Bank.errRun hb, (congrArg Bank.drvFlags hb).trans (Nat.mod_eq_of_lt (replyFlags_lt _ _)),
      (congrArg Bank.drvFault hb).trans ?_, (congrArg Bank.code hb :), fun x _ hx => bankAt_modBank_ne hx _, rfl⟩
    show bitAt (replyFlags (bankAt s b.val).version f) 1 = false
    rw [bitAt_one (replyFlags_lt _ _), decide_eq_false (by omega)]
  case fault =>
    subst hv
    exact exec_reply_fault h hu hf hok ht hn hno
  case bad =>
    subst hv hf
    exact exec_reply_counted (i := .driverReply b ty da fl ck) rfl h (driverReply_bad hu hbad) he

end
end Sys2Proof.Machine
end


section
/-! Quiet frames, FTG1's start of frame and stale content (R380, R388–R393, R410, R505, R506). -/

namespace Sys2Proof.Machine

section
variable {s t r : State}

/-! ### Sources that recover -/

/-- What one quiet frame makes of a source. -/
def quieted (s : State) (i : Nat) (x : Src) : Src :=
  if x.mode == .fault && !exitOnly.contains i then
    if i = 0 && interlockOpen s then { x with quiet := 0 }
    else if (sourceCfg s i).2.2.1 ≤ x.quiet + 1 then { x with mode := .clear, quiet := 0 }
    else { x with quiet := x.quiet + 1 }
  else x

theorem quieted_spared {x : Src} {i : Nat} (h : x.mode ≠ .fault ∨ exitOnly.contains i = true) : quieted s i x = x :=
  if_neg (by
    rcases h with h | h
    · simp [h]
    · rw [h]
      simp)

theorem quieted_counts {x : Src} {i : Nat} (hm : x.mode = .fault) (he : exitOnly.contains i = false) (h0 : 0 < i) : quieted s i x =
    if (sourceCfg s i).2.2.1 ≤ x.quiet + 1 then { x with mode := .clear, quiet := 0 } else { x with quiet := x.quiet + 1 } := by
  refine (if_pos (by simp only [hm, he]; decide)).trans (if_neg ?_)
  rw [decide_eq_false (by omega), Bool.false_and]
  decide

theorem quieted_pending (s : State) (i : Nat) (x : Src) : (quieted s i x).pending = x.pending := by
  unfold quieted
  split
  · split
    · rfl
    · split <;> rfl
  · rfl

/-- A source has recovered. -/
theorem recover_mild (s : State) (i c : Nat) : Mild (modSrc s i (fun x => { x with mode := .clear, quiet := 0 })) (recover s i c) :=
  (bump_mild _ _).trans (post2_mild _ _ _ _)

theorem calm_recover (s : State) (i c : Nat) : calm (recover s i c) = calm s :=
  (calm_post2 _ _ _ _).trans ((calm_bump _ _).trans rfl)

/-- What a quiet frame has done before source `i`. -/
structure Quieting (s : State) (i : Nat) (t : State) : Prop where
  calm : calm t = calm s
  loose : Loose s t
  dram : t.dram = s.dram
  quietFrom : t.flt.quietFrom = s.flt.quietFrom
  srcs : ∀ j, j < 256 → srcAt t j = if j < i then quieted s j (srcAt s j) else srcAt s j

/-- One source's turn. -/
theorem quietOne_turn {i : Nat} (hi : i < 256) (s : State) : Machine.calm (quietOne s i) = Machine.calm s ∧ Loose s (quietOne s i) ∧
    (quietOne s i).dram = s.dram ∧ (quietOne s i).flt.quietFrom = s.flt.quietFrom ∧
    ∀ j, srcAt (quietOne s i) j = if i = j then quieted s i (srcAt s j) else srcAt s j := by
  have same (j : Nat) (h : quieted s i (srcAt s i) = srcAt s i) : srcAt s j = if i = j then quieted s i (srcAt s j) else srcAt s j := by
    split
    · next hj => rw [← hj, h]
    · rfl
  have changed (j : Nat) (f : Src → Src) (h : quieted s i (srcAt s i) = f (srcAt s i)) :
      srcAt (modSrc s i f) j = if i = j then quieted s i (srcAt s j) else srcAt s j := by
    rw [srcAt_modSrc]
    by_cases hj : i = j
    · subst hj
      simp [h, hi]
    · simp [hj]
  unfold quietOne
  extract_lets x n
  by_cases hc : (x.mode == .fault && !exitOnly.contains i) = true
  · rw [if_pos hc]
    by_cases hz : (decide (i = 0) && interlockOpen s) = true
    · rw [if_pos hz]
      exact ⟨rfl, .units, rfl, rfl, fun j => changed j _ ((if_pos hc).trans (if_pos hz))⟩
    · rw [if_neg hz]
      by_cases hq : (sourceCfg s i).2.2.1 ≤ n
      · rw [if_pos hq]
        have hm := recover_mild s i (if i = 0 then 1 else 0)
        have hloose : Loose s (modSrc s i (fun x => { x with mode := .clear, quiet := 0 })) := .units
        refine ⟨calm_recover _ _ _, hloose.trans hm.toLoose, hm.dram, (congrArg Flt.quietFrom hm.flt :), fun j => ?_⟩
        rw [srcAt, hm.flt]
        exact changed j _ ((if_pos hc).trans ((if_neg hz).trans (if_pos hq)))
      · rw [if_neg hq]
        exact ⟨rfl, .units, rfl, rfl, fun j => changed j _ ((if_pos hc).trans ((if_neg hz).trans (if_neg hq)))⟩
  · rw [if_neg hc]
    exact ⟨rfl, .refl s, rfl, rfl, fun j => same j (if_neg hc)⟩

theorem quieted_of_calm {a b : State} (h : calm a = calm b) (hm : a.flt.map = b.flt.map) (i : Nat) : quieted a i = quieted b i := by
  have h1 : interlockOpen a = interlockOpen b := calm_eq (fun s => interlockOpen s) h
  have h2 : sourceCfg a i = sourceCfg b i := sourceCfg_map' hm i
  funext x
  rw [quieted, quieted, h1, h2]

theorem quieting (s : State) : Quieting s 256 (quietTick s) := by
  refine forN_inv (I := Quieting s) ⟨rfl, .refl s, rfl, rfl, fun _ _ => rfl⟩ (fun i t hi h => ?_)
  obtain ⟨h1, h2, h3, h4, h5⟩ := quietOne_turn hi t
  refine ⟨h1.trans h.calm, h.loose.trans h2, h3.trans h.dram, h4.trans h.quietFrom, fun j hj => ?_⟩
  rw [h5, h.srcs j hj, quieted_of_calm h.calm h.loose.map]
  by_cases hij : i = j
  · subst hij
    simp
  · have hlt : j < i + 1 ↔ j < i := by omega
    simp [hij, hlt]

/-- An event that reports nothing but lost events, and changes no unit. -/
theorem exec_loose {i : Instr} {f : State → State} (hi : exec i s = .next (event s f)) (h : Live s) (hc : calm (f s) = calm s)
    (hl : Loose s (f s)) : ∃ t, exec i s = .next t ∧ Records (f s) t ∧ Spares (f s) t := by
  have hact : (f s).img.act = none := ((calm_eq (·.img.act) hc :) : (f s).img.act = s.img.act).trans h.act
  have hlost : onlyLost (f s) := fun q hq => by
    rcases hl.reports q hq with hq | rfl
    · rw [h.reports] at hq; cases hq
    · exact ⟨rfl, rfl⟩
  obtain ⟨t, ht, hrec, -⟩ := event_records f h.power rfl hact (hl.noWait h.waits) (onlyLost_harmless hlost)
    ((calm_eq (·.pending) hc :) : (f s).pending = s.pending)
  have hsp : Spares (f s) (finish s (f s)) := finish_spares hact (hl.noWait h.waits) hlost (calm_eq (·.plk) hc)
    (calm_eq (·.hls.mode) hc) (calm_eq (·.thm.stop) hc) (calm_eq (·.lsd.bank) hc)
  rw [event_running h.power] at ht
  refine ⟨t, ?_, hrec, ht ▸ hsp⟩
  rw [hi, event_running h.power, ht]

/-- The next quiet frame is counted from this one. -/
def quietFromNow (s : State) : State := { s with flt := { s.flt with quietFrom := s.flt.quietFrom + quietCycles } }

theorem quietFrame_due (hf : s.ftgOn = false) (hd : s.flt.quietFrom + quietCycles ≤ s.tsc) :
    quietFrame s = quietTick (quietFromNow s) := if_pos (by rw [hf, decide_eq_true hd]; rfl)

theorem quietFrame_waits (h : s.ftgOn = true ∨ s.tsc < s.flt.quietFrom + quietCycles) : quietFrame s = s := by
  refine if_neg ?_
  rcases h with h | h
  · simp [h]
  · simp [show ¬ s.flt.quietFrom + quietCycles ≤ s.tsc by omega]

theorem exec_quietFrame (h : Live s) (hf : s.ftgOn = false) (hd : s.flt.quietFrom + quietCycles ≤ s.tsc) :
    ∃ t, exec .quietFrameTick s = .next t ∧ calm t = calm s ∧ (∀ a, a < reservedBase s → rd t a = rd s a) ∧
      t.flt.quietFrom = s.flt.quietFrom + quietCycles ∧
      (∀ i, i < 256 → (srcAt t i).mode = (quieted s i (srcAt s i)).mode ∧ (srcAt t i).quiet = (quieted s i (srcAt s i)).quiet) ∧
      (∀ i, (srcAt t i).pending = (srcAt s i).pending) := by
  have hw := quieting (quietFromNow s)
  have hrun := quietFrame_due hf hd
  rw [← hrun] at hw
  have hloose : Loose s (quietFromNow s) := .units
  obtain ⟨t, ht, hrec, hsp⟩ := exec_loose (i := .quietFrameTick) (f := quietFrame) rfl h (hw.calm.trans rfl) (hloose.trans hw.loose)
  have hsrc (i : Nat) (hi : i < 256) : srcAt (quietFrame s) i = quieted s i (srcAt s i) := by
    rw [hw.srcs i hi, if_pos hi, quieted_of_calm (a := quietFromNow s) (b := s) rfl rfl]
    rfl
  refine ⟨t, ht, hrec.calm.trans (hw.calm.trans rfl), fun a ha => ?_, hsp.quietFrom.trans (hw.quietFrom.trans rfl),
    fun i hi => ⟨?_, ?_⟩, fun i => ?_⟩
  · have hb : logBase (quietFrame s) = logBase s := calm_eq (fun s => logBase s) (hw.calm.trans rfl : calm (quietFrame s) = calm s)
    rw [hrec.keeps.memory a (by rw [hb]; exact Nat.lt_of_lt_of_le ha (reservedBase_le_logBase s)), rd, hw.dram]
    rfl
  · rw [(hsp.marks i).2, hsrc i hi]
  · rw [hsp.quiet i, hsrc i hi]
  · rw [(hsp.marks i).1]
    by_cases hi : i < 256
    · rw [hsrc i hi, quieted_pending]
    · have hout (x : State) : srcAt x i = {} := by
        rw [srcAt, vget, List.getD_eq_getElem?_getD, List.getElem?_eq_none (by simp; omega)]
        rfl
      rw [hout, hout]

/-! ### FTG1's start of frame -/

theorem postSof_effects {E : Nat → Prop} (s : State) (f n t : Nat) : Effects [] E s (postSof s f n t) :=
  .ite _ ((post_effects _ _ _ _).posts (signal_adds _ _)) (.refl E s)

theorem postSof_calm (s : State) (f n t : Nat) : calm (postSof s f n t) = calm s := by
  unfold postSof
  split
  · exact (calm_signal _ _).trans (calm_post _ _ _ _)
  · rfl

theorem lineEvents_effects {E : Nat → Prop} (s : State) (f l : Nat) : Effects [] E s (lineEvents s f l) := by
  unfold lineEvents
  extract_lets en frame sig s1
  have hsig (x : State) : Effects [] E x (sig x) := .ite _ (signal_adds _ _).effects (.refl E x)
  have h1 : Effects [] E s s1 := .ite _ ((post_effects _ _ _ _).quiet (hsig _)) (.refl E s)
  exact .ite _ ((h1.quiet (post_effects _ _ _ _)).quiet (hsig _)) h1

/-- The frame of FTG1 that ends is posted. -/
def frame1Done (s : State) : State :=
  if s.ftg.on1 then
    { post s 0x0C04 1 (leBytes 8 s.ftg.frame1 ++ leBytes 4 ((s.tsc - s.ftg.sof1) % 2 ^ 32) ++ leBytes 1 s.ftg.kEnd ++
        leBytes 1 s.ftg.repPrev ++ leBytes 2 0) with
      ftg := { (post s 0x0C04 1 (leBytes 8 s.ftg.frame1 ++ leBytes 4 ((s.tsc - s.ftg.sof1) % 2 ^ 32) ++ leBytes 1 s.ftg.kEnd ++
        leBytes 1 s.ftg.repPrev ++ leBytes 2 0)).ftg with len1 := (s.tsc - s.ftg.sof1) % 2 ^ 32 } }
  else s

/-- New content is to be shown at this SOF. -/
def showsNext (s r : State) : Bool := r.hls.showNext || (sof1Early s && (s.ftg.decided.map (scannerNew s)).getD false)

/-- FTG1's frame begins. -/
def frame1Begun (s r : State) : State := { r with
  hls := { r.hls with showNext := showsNext s r }
  ftg := { r.ftg with
    on1 := true
    frame1 := s.frame
    sof1 := s.tsc
    line1 := 0
    lineAt1 := s.tsc
    match1 := regN s 0xD00118 } }

theorem ftg1Sof_due (h : sof1Due s = true) :
    ftg1Sof s = lineEvents (postSof (hlsSof (frame1Begun s (frame1Done s))) 1 s.frame s.tsc) 1 0 := if_pos h

theorem frame1Done_effects {E : Nat → Prop} (s : State) : Effects [] E s (frame1Done s) := by
  have h := post_effects (E := E) s 0x0C04 1 (leBytes 8 s.ftg.frame1 ++ leBytes 4 ((s.tsc - s.ftg.sof1) % 2 ^ 32) ++ leBytes 1 s.ftg.kEnd ++
        leBytes 1 s.ftg.repPrev ++ leBytes 2 0)
  exact .ite _ (h.units (by rfl)) (.refl E s)

theorem calm_frame1Done (s : State) : ∃ g, calm (frame1Done s) = calm { s with ftg := g } := by
  unfold frame1Done
  split
  · have h := calm_post s 0x0C04 1 (leBytes 8 s.ftg.frame1 ++ leBytes 4 ((s.tsc - s.ftg.sof1) % 2 ^ 32) ++ leBytes 1 s.ftg.kEnd ++
        leBytes 1 s.ftg.repPrev ++ leBytes 2 0)
    generalize post s 0x0C04 1 (leBytes 8 s.ftg.frame1 ++ leBytes 4 ((s.tsc - s.ftg.sof1) % 2 ^ 32) ++ leBytes 1 s.ftg.kEnd ++
        leBytes 1 s.ftg.repPrev ++ leBytes 2 0) = z at *
    exact ⟨{ z.ftg with len1 := (s.tsc - s.ftg.sof1) % 2 ^ 32 }, congrArg (fun x : State => { x with
      ftg := { z.ftg with len1 := (s.tsc - s.ftg.sof1) % 2 ^ 32 } }) h⟩
  · exact ⟨s.ftg, rfl⟩

/-- The scanner shows the new content where there is any. -/
def hlsShown (x : Hls) : Hls := if x.showNext then { x with shown := !x.shown, showNext := false } else x

theorem hlsShown_next (x : Hls) (n : Bool) : (hlsShown { x with showNext := n }).shown = (if n then !x.shown else x.shown) ∧
    (hlsShown { x with showNext := n }).showNext = false := by cases n <;> exact ⟨rfl, rfl⟩

theorem hlsSof_eq (s : State) : hlsSof s = { s with hls := hlsShown s.hls } := by
  unfold hlsSof hlsShown
  split <;> rfl

theorem exec_ftg1Sof (h : Live s) (hd : sof1Due s = true) :
    ∃ t, exec .ftg1Sof s = .next t ∧ t.ftg.on1 = true ∧ t.ftg.frame1 = s.frame ∧ t.ftg.sof1 = s.tsc ∧ t.ftg.line1 = 0 ∧
      t.ftg.lineAt1 = s.tsc ∧
      t.hls.shown = (if s.hls.showNext || (sof1Early s && (s.ftg.decided.map (scannerNew s)).getD false) then !s.hls.shown
        else s.hls.shown) ∧ t.hls.showNext = false ∧
      calm t = calm { s with ftg := t.ftg, hls := t.hls } ∧ (∀ a, a < reservedBase s → rd t a = rd s a) := by
  have hrun := ftg1Sof_due hd
  have heff0 := frame1Done_effects (E := exactly) s
  obtain ⟨g, hg⟩ := calm_frame1Done s
  rw [hlsSof_eq] at hrun
  generalize frame1Done s = z at *
  have hzh : z.hls = s.hls := (calm_eq (·.hls) hg :)
  have heff1 : Effects [] exactly s { frame1Begun s z with hls := hlsShown (frame1Begun s z).hls } := (heff0.units (by rfl))
  have hall : calm { frame1Begun s z with hls := hlsShown (frame1Begun s z).hls } = calm { s with
      ftg := (frame1Begun s z).ftg
      hls := hlsShown (frame1Begun s z).hls } :=
    congrArg (fun x : State => { x with ftg := (frame1Begun s z).ftg, hls := hlsShown (frame1Begun s z).hls }) hg
  have hshow : (hlsShown (frame1Begun s z).hls).shown =
      (if s.hls.showNext || (sof1Early s && (s.ftg.decided.map (scannerNew s)).getD false) then !s.hls.shown else s.hls.shown) ∧
      (hlsShown (frame1Begun s z).hls).showNext = false := by
    rw [← hzh]
    exact hlsShown_next z.hls (showsNext s z)
  have hftg : (frame1Begun s z).ftg.on1 = true ∧ (frame1Begun s z).ftg.frame1 = s.frame ∧ (frame1Begun s z).ftg.sof1 = s.tsc ∧
      (frame1Begun s z).ftg.line1 = 0 ∧ (frame1Begun s z).ftg.lineAt1 = s.tsc := ⟨rfl, rfl, rfl, rfl, rfl⟩
  generalize frame1Begun s z = w at *
  have heff2 := (heff1.quiet (postSof_effects _ 1 s.frame s.tsc)).quiet (lineEvents_effects _ 1 0)
  rw [← hrun] at heff2
  have hend : calm (ftg1Sof s) = calm { w with hls := hlsShown w.hls } := by
    rw [hrun]
    exact (lineEvents_posts _ _ _).calm.trans (postSof_calm _ _ _ _)
  obtain ⟨t, ht, hdone⟩ := exec_done (i := .ftg1Sof) rfl h heff2
  have hcalm : calm t = calm { s with
      ftg := w.ftg
      hls := hlsShown w.hls } := (hdone.calm (fun n hn _ => by cases hn)).trans (hend.trans hall)
  have htf : t.ftg = w.ftg := (calm_eq (·.ftg) hcalm :)
  have hth : t.hls = hlsShown w.hls := (calm_eq (·.hls) hcalm :)
  obtain ⟨f1, f2, f3, f4, f5⟩ := hftg
  refine ⟨t, ht, by rw [htf, f1], by rw [htf, f2], by rw [htf, f3], by rw [htf, f4], by rw [htf, f5], by rw [hth, hshow.1],
    by rw [hth, hshow.2], by rw [hcalm, htf, hth], hdone.memory⟩

/-! ### Stale content -/

/-- Content is stale. -/
def staleNow (s : State) : State := { s with ver := { s.ver with stale := true } }

theorem verStale_due (hf : s.ftgOn = true) (hs : s.ver.stale = false) (hz : bits (regN s 0xD80004) 15 0 ≠ 0)
    (hd : s.ver.since + bits (regN s 0xD80004) 15 0 * msCycles ≤ s.tsc) : verStale s =
    post (bump (staleNow s) 0xD80018) 0x0C08 0 (leBytes 4 ((s.tsc - s.ver.commitAt) / msCycles) ++ leBytes 4 s.cmp.commitSeq) :=
  if_pos (by rw [hf, hs, decide_eq_true ⟨hz, hd⟩]; rfl)

theorem verStale_waits (h : s.ftgOn = false ∨ s.ver.stale = true ∨ bits (regN s 0xD80004) 15 0 = 0 ∨
    s.tsc < s.ver.since + bits (regN s 0xD80004) 15 0 * msCycles) : verStale s = s := by
  refine if_neg ?_
  rcases h with h | h | h | h
  · simp [h]
  · simp [h]
  · simp [h]
  · simp [show ¬ s.ver.since + bits (regN s 0xD80004) 15 0 * msCycles ≤ s.tsc by omega]

theorem exec_stale (h : Live s) (hf : s.ftgOn = true) (hs : s.ver.stale = false) (hz : bits (regN s 0xD80004) 15 0 ≠ 0)
    (hd : s.ver.since + bits (regN s 0xD80004) 15 0 * msCycles ≤ s.tsc) :
    ∃ t, exec .stale s = .next t ∧ t.ver = { s.ver with stale := true } ∧
      tally t 0xD80018 = min (tally s 0xD80018 + 1) tallyMax ∧ calm t = calm { s with ver := t.ver } ∧
      (∀ a, a < reservedBase s → rd t a = rd s a) := by
  have hrun := verStale_due hf hs hz hd
  have h0 : Effects [] exactly s (staleNow s) := ((Effects.refl _ s).units (by rfl))
  have heff := (h0.adds (bump_adds _ (off := 0xD80018) rfl (by decide))).quiet (post_effects _ 0x0C08 0
    (leBytes 4 ((s.tsc - s.ver.commitAt) / msCycles) ++ leBytes 4 s.cmp.commitSeq))
  rw [← hrun] at heff
  obtain ⟨t, ht, hdone⟩ := exec_done (i := .stale) rfl h heff
  have hcalm : calm t = calm (staleNow s) := (hdone.calm (fun n hn hl => by
    rw [List.mem_singleton.mp hn] at hl
    omega)).trans (by rw [hrun]; exact (calm_post _ _ _ _).trans (calm_bump _ _))
  have hv : t.ver = { s.ver with stale := true } := (calm_eq (·.ver) hcalm :)
  refine ⟨t, ht, hv, hdone.tallies _ (by decide) rfl id, ?_, hdone.memory⟩
  rw [hcalm, hv]
  rfl

/-! ### The obligation -/

/-- Settles O33: a quiet frame by an invariant of its loop over the sources, FTG1's frame and stale content by what they change. -/
theorem quietSourcesScannerFramesAndStaleContent : Obligations.QuietSourcesScannerFramesAndStaleContent := by
  unfold Obligations.QuietSourcesScannerFramesAndStaleContent
  refine ⟨fun s h hf hd => ?quiet, fun s h hw => exec_unit_same (i := .quietFrameTick) rfl h (quietFrame_waits hw),
    fun s h hd => exec_ftg1Sof h hd, fun s h hn => exec_unit_same (i := .ftg1Sof) rfl h (if_neg (by rw [hn]; decide)),
    fun s h hf hs hz hd => exec_stale h hf hs hz hd, fun s h hw => exec_unit_same (i := .stale) rfl h (verStale_waits hw)⟩
  obtain ⟨t, ht, hcalm, hmem, hfrom, hsrc, hpend⟩ := exec_quietFrame h hf hd
  refine ⟨t, ht, hcalm, hmem, hfrom, fun i h0 hi hm he hq => ?_, fun i h0 hi hm he hq => ?_, fun i hi hs => ?_, hpend⟩
  · rw [(hsrc i hi).1, quieted_counts hm he h0, if_pos hq]
  · rw [(hsrc i hi).1, (hsrc i hi).2, quieted_counts hm he h0, if_neg (by omega)]
    exact ⟨hm, rfl⟩
  · rw [(hsrc i hi).1, quieted_spared hs]

end
end Sys2Proof.Machine
end


section
/-! What the steps of a frame start, and of the end of a segment, leave alone (R32, R36, R44, R275, R276, R390). -/

namespace Sys2Proof.Machine

/-- What a frame start counts and reports without its number being told: all but the tallies of the boundaries. -/
def frameNoise (n : Nat) : Prop := n < 0x400040 ∨ 0x400080 ≤ n

/-- An operation that leaves what `π` keeps, beside what it counts, posts and reports. -/
structure Work (π : State → State) (s r : State) : Prop where
  keeps : π r = π s
  effects : Effects [] frameNoise s r

section
variable {π ρ : State → State} {s r t : State}

theorem Work.refl (s : State) : Work π s s := ⟨rfl, .refl _ s⟩
theorem Work.trans (h : Work π s r) (k : Work π r t) : Work π s t := ⟨k.keeps.trans h.keeps, h.effects.quiet k.effects⟩

theorem Work.ite (c : Prop) [Decidable c] (h : Work π s r) (k : Work π s t) : Work π s (if c then r else t) := by split <;> assumption

theorem Work.foldl {β : Type} {f : State → β → State} (h : ∀ s x, Work π s (f s x)) (l : List β) (s : State) : Work π s (l.foldl f s) :=
  List.foldlRecOn l f (motive := fun t => Work π s t) (.refl s) (fun t ht x _ => ht.trans (h t x))

theorem Work.forN {f : State → Nat → State} (h : ∀ s x, Work π s (f s x)) (n : Nat) (s : State) : Work π s (Machine.forN n f s) :=
  .foldl h _ s

theorem Work.forMask {f : State → Nat → State} (h : ∀ s x, Work π s (f s x)) (n m : Nat) (s : State) :
    Work π s (Machine.forMask n m f s) := .forN (fun s x => .ite _ (h s x) (.refl s)) n s

/-- What the one keeps, the other may keep less of. -/
theorem Work.mono (h : Work π s r) (hπ : ∀ x, ρ x = ρ (π x)) : Work ρ s r := ⟨by rw [hπ r, h.keeps, ← hπ s], h.effects⟩

/-- An operation that changes nothing but what recording changes. -/
theorem Work.calm (hπ : ∀ x, π x = π (Machine.calm x)) (hc : Machine.calm r = Machine.calm s) (he : Effects [] frameNoise s r) :
    Work π s r := ⟨by rw [hπ r, hc, ← hπ s], he⟩

/-- A change of units. -/
theorem Work.units (hπ : π r = π s) (he : Effects [] frameNoise s r) : Work π s r := ⟨hπ, he⟩

theorem Work.post (hπ : ∀ x, π x = π (Machine.calm x)) (s : State) (c u : Nat) (p : List Byte) : Work π s (Machine.post s c u p) :=
  .calm hπ (calm_post _ _ _ _) (post_effects _ _ _ _)

theorem Work.signal (hπ : ∀ x, π x = π (Machine.calm x)) (s : State) (v : Nat) : Work π s (Machine.signal s v) :=
  .calm hπ (calm_signal _ _) (signal_adds _ _).effects

theorem Work.complete (hπ : ∀ x, π x = π (Machine.calm x)) (s : State) (id : Nat) (st : Status) (res : List Byte) :
    Work π s (Machine.complete s id st res) := .calm hπ (calm_complete _ _ _ _) (complete_adds _ _ _ _).effects

theorem Work.completeOpt (hπ : ∀ x, π x = π (Machine.calm x)) (s : State) (id : Option Nat) (st : Status) (res : List Byte) :
    Work π s (Machine.completeOpt s id st res) := .calm hπ (calm_completeOpt _ _ _ _) (completeOpt_adds _ _ _ _).effects

theorem Work.bump (hπ : ∀ x, π x = π (Machine.calm x)) (s : State) {off : Nat} (h6 : 256 ≤ off) (hu : unitTally off = true)
    (hn : frameNoise off) : Work π s (Machine.bump s off) :=
  .calm hπ (calm_bump _ _) ((bump_adds s hu h6).effects.drop (fun n h => by rw [List.mem_singleton.mp h]; exact hn))

theorem Work.report (hπ : ∀ x, π x = π (Machine.calm x)) (s : State) (q : Report) (hl : q.source < 256 := by exact of_decide_eq_true rfl)
    (hi : q.injected = false := by rfl) (hn : q.reactionAs = none := by rfl) : Work π s (Machine.report s q) :=
  .calm hπ (calm_report _ _) ((report_adds s q hl hi hn).effects.drop (fun n h => by
    rw [List.mem_singleton.mp h]
    exact .inl (by omega)))

/-! ### The end of a segment -/

/-- What the end of a segment keeps: all but the light path's codes, the loop's slots, the DRAM's trains, the calibration's range. -/
def segRest (s : State) : State := { calm s with
  lsd := {}
  hls := { s.hls with yH := 0, yHStart := none }
  cal := {}
  mem := {}
  lpe := { s.lpe with slot := Vector.replicate 24 {} } }

theorem segRest_calm (x : State) : segRest x = segRest (calm x) := rfl

theorem setTrn_work (s : State) (c : Nat) (m : TrnMode) (cause : Nat) : Work segRest s (setTrn s c m cause) := by
  unfold setTrn
  extract_lets old s1
  have h1 : Work segRest s s1 := ⟨rfl, ((Effects.refl _ s).units (by rfl))⟩
  exact .ite _ (.refl s) (h1.trans (.post segRest_calm _ _ _ _))

theorem memBoundary_work (s : State) : Work segRest s (memBoundary s) := by
  unfold memBoundary
  extract_lets s1
  have h1 : Work segRest s s1 := .forN (fun s c => .ite _ ((setTrn_work s c .failed 3).trans
    (.report segRest_calm _ { source := 0x24, master := c })) (.refl s)) 16 s
  clear_value s1
  exact h1.trans ⟨rfl, ((Effects.refl _ s1).units (by rfl))⟩

/-- One slot takes its target. -/
def targetStep (s : State) (i : Nat) : State :=
  if (vget s.lpe.slot i {}).kind = 1 then modSlot s i (fun y => { y with
    tgt := (bankTarget s (vget s.lpe.slot i {}).target (bankScale s (vget s.lpe.slot i {}).target) * 65536 : Nat) })
  else s

theorem setTargets_eq (s : State) : setTargets s = forN 24 targetStep s := rfl

theorem modSlot_work (s : State) (i : Nat) (f : Slot → Slot) : Work segRest s (modSlot s i f) := ⟨rfl, ((Effects.refl _ s).units (by rfl))⟩

theorem setTargets_work (s : State) : Work segRest s (setTargets s) := by
  rw [setTargets_eq]
  exact .forN (fun s i => .ite _ (modSlot_work s i _) (.refl s)) 24 s

/-- The codes written come into use, and the scales follow. -/
theorem lsdBoundary_parts (s : State) : ∃ l y z c, lsdBoundary s = setTargets
    { s.lsd.lockIds.foldl (fun s id => complete s id .ok []) { s with lsd := l, hls := { s.hls with yH := y, yHStart := z }, cal := c } with
      lsd := { (s.lsd.lockIds.foldl (fun s id => complete s id .ok [])
          { s with lsd := l, hls := { s.hls with yH := y, yHStart := z }, cal := c }).lsd with
        k := scaleOf (s.lsd.lockIds.foldl (fun s id => complete s id .ok [])
          { s with lsd := l, hls := { s.hls with yH := y, yHStart := z }, cal := c }) } } := ⟨_, _, _, _, rfl⟩

theorem lsdBoundary_work (s : State) : Work segRest s (lsdBoundary s) := by
  obtain ⟨l, y, z, c, h⟩ := lsdBoundary_parts s
  have h1 : Work segRest s { s with lsd := l, hls := { s.hls with yH := y, yHStart := z }, cal := c } := ⟨rfl, ((Effects.refl _ s).units (by rfl))⟩
  have h2 := h1.trans (.foldl (fun s id => .complete segRest_calm s id .ok []) s.lsd.lockIds _)
  rw [h]
  generalize s.lsd.lockIds.foldl (fun s id => complete s id .ok []) _ = w at *
  have h3 : Work segRest w { w with lsd := { w.lsd with k := scaleOf w } } := ⟨rfl, ((Effects.refl _ w).units (by rfl))⟩
  exact (h2.trans h3).trans (setTargets_work _)

theorem closeWindows_work (s : State) (frame : Bool) : Work segRest s (closeWindows s frame) := ⟨rfl, ((Effects.refl _ s).units (by rfl))⟩

theorem segmentEnd_work (s : State) (frame : Bool) : Work segRest s (segmentEnd s frame) :=
  ((lsdBoundary_work s).trans (memBoundary_work _)).trans (closeWindows_work _ _)

/-- Every window is closed. -/
theorem segmentEnd_shut (s : State) (frame : Bool) {i : Nat} (hi : i < 24) :
    (vget (segmentEnd s frame).lpe.slot i {}).window = false := by
  have : (segmentEnd s frame).lpe.slot =
      (memBoundary (lsdBoundary s)).lpe.slot.map (fun x => { x with window := false, late := x.late && !frame }) := rfl
  rw [this]
  simp [vget, List.getD_eq_getElem?_getD, hi]

/-! ### What follows the start of a frame -/

/-- What follows the start of a frame keeps of a state: its frame, its segment, its time, and the units that no frame changes. -/
def frameRest (s : State) : State := { calm s with
  lsd := {}
  hls := {}
  cal := {}
  mem := {}
  lpe := { s.lpe with slot := Vector.replicate 24 {} }
  pbu := {}
  aud := {}
  plk := Vector.replicate 6 {}
  rck := { s.rck with
    newImage := false
    restoreId := none
    blocks := Vector.replicate 6 (Vector.replicate 16 {}) }
  cmp := { s.cmp with
    layers := Vector.replicate 16 {}
    pass := none } }

theorem frameRest_calm (x : State) : frameRest x = frameRest (calm x) := rfl

theorem postSof_work (s : State) (f n t : Nat) : Work frameRest s (postSof s f n t) :=
  .calm frameRest_calm (postSof_calm _ _ _ _) (postSof_effects _ _ _ _)

theorem lineEvents_work (s : State) (f l : Nat) : Work frameRest s (lineEvents s f l) :=
  .calm frameRest_calm (lineEvents_posts _ _ _).calm (lineEvents_effects _ _ _)

theorem showGains_work (s : State) (g : List Nat) : Work frameRest s (showGains s g) := by
  have h : Work segRest s { s with lsd := { s.lsd with wb := g } } := ⟨rfl, ((Effects.refl _ s).units (by rfl))⟩
  exact (h.trans (setTargets_work _)).mono (fun _ => rfl)

theorem modAud_work (s : State) (p : Nat) (f : AudPort → AudPort) : Work frameRest s (modAud s p f) := ⟨rfl, ((Effects.refl _ s).units (by rfl))⟩

/-- The planes and the scanner's field change over, and the audio ports note what repeats. -/
theorem showNew_parts (s : State) (seen : Bool) : ∃ (b : Pbu) (h : Hls) (g : State → Nat → AudPort → AudPort), showNew s seen =
    if s.ftg.newGroups = 0 then forN 5 (fun s p => modAud s p (g s p)) { s with pbu := b, hls := h }
    else match s.cmp.pass with
      | some p => showGains (forN 5 (fun s p => modAud s p (g s p)) { s with pbu := b, hls := h }) p.gains
      | none => forN 5 (fun s p => modAud s p (g s p)) { s with pbu := b, hls := h } := ⟨_, _, _, rfl⟩

theorem showNew_work (s : State) (seen : Bool) : Work frameRest s (showNew s seen) := by
  obtain ⟨b, h, g, hx⟩ := showNew_parts s seen
  have h1 : Work frameRest s { s with pbu := b, hls := h } := ⟨rfl, ((Effects.refl _ s).units (by rfl))⟩
  have h2 := h1.trans (.forN (fun s p => modAud_work s p (g s p)) 5 _)
  rw [hx]
  refine .ite _ h2 ?_
  split
  · exact h2.trans (showGains_work _ _)
  · exact h2

/-- What a frame start counts beside the boundary. -/
def otherTallies (before : State) (d : Decision) (lost : Bool) (s : State) : State :=
  let s2 := (List.range 4).foldl (fun s g => forMask 12 (groupNotReady before d g) (fun s i => bump s (0xD00340 + 4 * i)) s) s
  let s3 := if lost then bump s2 0xD00378 else s2
  if s3.ftg.repGroups = 0 then s3 else bump s3 0x400080

theorem frameTallies_some (before : State) (k : Nat) (d : Decision) (lost : Bool) (s : State) :
    frameTallies before (some k) d lost s = otherTallies before d lost (bump s (0x400040 + 4 * k)) := rfl

theorem frameTallies_none (before : State) (d : Decision) (lost : Bool) (s : State) :
    frameTallies before none d lost s = otherTallies before d lost s := rfl

theorem underrun_tally (i : Nat) (hi : i < 12) : unitTally (0xD00340 + 4 * i) = true := by
  interval_cases i <;> rfl

theorem underruns_work (s : State) (m : Nat) : Work frameRest s (forMask 12 m (fun s i => bump s (0xD00340 + 4 * i)) s) := by
  refine forN_inv (I := fun _ t => Work frameRest s t) (.refl s) (fun i t hi h => h.trans (.ite _ ?_ (.refl t)))
  exact .bump frameRest_calm t (by omega) (underrun_tally i hi) (.inr (by omega))

theorem otherTallies_work (before : State) (d : Decision) (lost : Bool) (s : State) : Work frameRest s (otherTallies before d lost s) := by
  unfold otherTallies
  extract_lets s2 s3
  have h2 : Work frameRest s s2 := .foldl (fun s g => underruns_work s _) _ s
  have h3 : Work frameRest s s3 := .ite _ (h2.trans (.bump frameRest_calm _ (by decide) rfl (.inr (by decide)))) h2
  clear_value s3
  exact .ite _ h3 (h3.trans (.bump frameRest_calm _ (by decide) rfl (.inr (by decide))))

theorem postVariant_work (s : State) (prev cause pt : Nat) : Work frameRest s (postVariant s prev cause pt) :=
  .post frameRest_calm _ _ _ _

/-- The image's first variant has been told. -/
def variantTold (s : State) : State := { s with rck := { s.rck with newImage := false } }

/-- VARIANT where it is due. -/
def variantPosted (s : State) (v : Option VarSel) (prev : Nat) : State :=
  if s.rck.newImage then variantTold (postVariant s (s.rck.lastVariant.getD 255) 2 ((v.map (·.port)).getD 255))
  else
    match v with
    | some n => postVariant s prev (match n.cause with | .degraded => 0 | .restore => 1 | .newImage => 2) n.port
    | none => s

/-- RCK_RESTORE no longer waits. -/
def restoreTaken (s : State) : State := { s with rck := { s.rck with restoreId := none } }

theorem variantEvents_eq (s : State) (v : Option VarSel) (prev : Nat) : variantEvents s v prev =
    if (variantPosted s v prev).rck.variant = 0 ∧ (variantPosted s v prev).rck.restoreId.isSome then
      completeOpt (restoreTaken (variantPosted s v prev)) (variantPosted s v prev).rck.restoreId .ok []
    else variantPosted s v prev := rfl

theorem variantPosted_work (s : State) (v : Option VarSel) (prev : Nat) : Work frameRest s (variantPosted s v prev) := by
  have told (x : State) : Work frameRest x (variantTold x) := ⟨rfl, ((Effects.refl _ x).units (by rfl))⟩
  refine .ite _ ((postVariant_work s _ _ _).trans (told _)) ?_
  split
  · exact postVariant_work _ _ _ _
  · exact .refl s

theorem variantEvents_work (s : State) (v : Option VarSel) (prev : Nat) : Work frameRest s (variantEvents s v prev) := by
  have taken (x : State) : Work frameRest x (restoreTaken x) := ⟨rfl, ((Effects.refl _ x).units (by rfl))⟩
  have h1 := variantPosted_work s v prev
  rw [variantEvents_eq]
  exact .ite _ ((h1.trans (taken _)).trans (.completeOpt frameRest_calm _ _ _ _)) h1

theorem postRetire_work (s : State) (l : Nat) (f : Surface) (flags n : Nat) : Work frameRest s (postRetire s l f flags n) :=
  (Work.bump frameRest_calm s (off := 0x1F001C) (by decide) rfl (.inl (by decide))).trans (.post frameRest_calm _ _ _ _)

/-- The buffers of a layer that retire are no longer held. -/
def layerReleased (n : Nat) (s : State) (l : Nat) : State := { s with cmp := { s.cmp with
  layers := vmod s.cmp.layers l (fun y => { y with retiring := y.retiring.filter (fun r => !retireDue n r) }) } }

/-- The buffers of a layer that retire are released. -/
def layerStep (n : Nat) (s : State) (l : Nat) : State :=
  ((vget s.cmp.layers l {}).retiring.filter (retireDue n)).foldl (fun s r => postRetire s l r.surf 0 n) (layerReleased n s l)

theorem releaseRetiring_eq (s : State) (n : Nat) : releaseRetiring s n = forN 16 (layerStep n) s := rfl

theorem layerStep_work (n : Nat) (s : State) (l : Nat) : Work frameRest s (layerStep n s l) := by
  have released : Work frameRest s (layerReleased n s l) := ⟨rfl, ((Effects.refl _ s).units (by rfl))⟩
  have posted (s : State) (r : Retiring) : Work frameRest s (postRetire s l r.surf 0 n) := postRetire_work s l r.surf 0 n
  unfold layerStep
  generalize layerReleased n s l = z at *
  exact released.trans (Work.foldl posted _ z)

theorem releaseRetiring_work (s : State) (n : Nat) : Work frameRest s (releaseRetiring s n) := by
  rw [releaseRetiring_eq]
  exact .forN (layerStep_work n) 16 s

/-- HLS_START no longer waits. -/
def startTaken (s : State) : State := { s with hls := { s.hls with startId := none } }

theorem hlsFrameStart_eq (s : State) : hlsFrameStart s =
    if s.hls.mode == .starting && s.hls.locked && slowNear s ((scanCfg s).slow.getD 0 0) then
      startTaken (completeOpt (setHls s .running 0) s.hls.startId .ok [])
    else s := rfl

theorem setHls_work (s : State) (m : HlsMode) (c : Nat) : Work frameRest s (setHls s m c) := by
  have h : Work frameRest s { s with hls := { s.hls with mode := m, cause := c } } := ⟨rfl, ((Effects.refl _ s).units (by rfl))⟩
  exact h.trans (.post frameRest_calm _ _ _ _)

theorem hlsFrameStart_work (s : State) : Work frameRest s (hlsFrameStart s) := by
  have taken (x : State) : Work frameRest x (startTaken x) := ⟨rfl, ((Effects.refl _ x).units (by rfl))⟩
  rw [hlsFrameStart_eq]
  exact .ite _ (((setHls_work s _ _).trans (.completeOpt frameRest_calm _ _ _ _)).trans (taken _)) (.refl s)

theorem audFrame_work (s : State) (p : Nat) : Work frameRest s (audFrame s p) := by
  unfold audFrame
  extract_lets x c goal n stamp sent taken flags s1
  have h1 : Work frameRest s s1 := (modAud_work s p _).trans (.post frameRest_calm _ _ _ _)
  clear_value s1
  exact .ite _ (h1.trans (.signal frameRest_calm _ _)) (.refl s)

theorem restartPass_work (s : State) (p : Pass) : Work frameRest s (restartPass s p) := ⟨rfl, ((Effects.refl _ s).units (by rfl))⟩

/-- A tally of the collector is no unit's. -/
theorem bump_collector_effects {E : Nat → Prop} (s : State) {off : Nat} (hu : unitTally off = false)
    (hs : ∀ src, srcBase src + 8 ≠ off) : Effects [] E s (bump s off) where
  waits := (bump_mild s off).noWait
  idle := fun w => (congrArg (f := Hmi.inFlight) (bump_mild s off).events).trans w
  flight := fun _ w => .inl ((congrArg (f := Hmi.inFlight) (bump_mild s off).events).trans w)
  outs := (bump_mild s off).outs.subset
  map := (bump_mild s off).map
  memory := fun x _ => by simp only [rd, (bump_mild s off).dram]
  source := (bump_uncounted s hs).tallies
  tallies := fun i _ hi _ => by
    rw [tally_bump_ne s hi (fun he => by rw [he, hu] at hi; cases hi)]
    simp [tally_le]
  reports := fun src hs12 h12 _ => by
    rw [(bump_uncounted s hs).reports src (by omega)]
    rfl
  news := fun q hq => ((bump_mild s off).reports q hq).imp id .inl
  act := (calm_eq (·.img.act) (calm_bump s off) :)
  pending := (calm_eq (·.pending) (calm_bump s off) :)
  fuse := (calm_eq (·.fuse) (calm_bump s off) :)

theorem recover_effects {E : Nat → Prop} (s : State) (i c : Nat) : Effects [] E s (recover s i c) := by
  have h1 : Effects [] E s (modSrc s i (fun x => { x with mode := .clear, quiet := 0 })) := ((Effects.refl E s).units (by rfl))
  have hu : unitTally (srcBase i + 0xC) = false := by
    have : 0x40080 ≤ srcBase i + 0xC ∧ srcBase i + 0xC < 0x42000 := by unfold srcBase; omega
    simp [unitTally, this]
  have h2 := h1.quiet (bump_collector_effects _ hu (fun src => by unfold srcBase; omega))
  exact h2.posts (post2_adds _ _ _ _)

theorem quietOne_work (s : State) (i : Nat) : Work frameRest s (quietOne s i) := by
  have mod (f : Src → Src) : Work frameRest s (modSrc s i f) := ⟨rfl, ((Effects.refl _ s).units (by rfl))⟩
  have recov (c : Nat) : Work frameRest s (recover s i c) := .calm frameRest_calm (calm_recover s i c) (recover_effects s i c)
  exact .ite _ (.ite _ (mod _) (.ite _ (recov _) (mod _))) (.refl s)

theorem quietTick_work (s : State) : Work frameRest s (quietTick s) := .forN quietOne_work 256 s

end
end Sys2Proof.Machine
end


section
/-! A frame start: what it sets, and what it leaves (R36, R276, R390). -/

namespace Sys2Proof.Machine

section
variable {s r t : State} {k : Option Nat} {d : Decision}

/-! ### Its steps -/

/-- The frame before has ended. -/
def frameEnded (s : State) (k : Option Nat) : State :=
  match k with
  | some k => frameDone s k
  | none => s

/-- The groups are about to be judged. -/
def groupsCleared (s : State) : State := { s with ftg := { s.ftg with
  repPrev := s.ftg.repGroups
  newGroups := 0
  repGroups := 0 } }

/-- The groups have been judged. -/
def groupsJudged (s : State) (k : Option Nat) (d : Decision) : State :=
  (List.range 4).foldl (groupAdvance d ((s.frame + 1) % 2 ^ 48)) (groupsCleared (frameEnded s k))

/-- The genlock mode, the phase and the hold are in force. -/
def frameTimed (s : State) (k : Option Nat) (d : Decision) : State :=
  phaseHold (takeMode (groupsJudged s k d)) (if d.bySymbol then (groupsJudged s k d).ftg.decidedArr else none)

/-- The frame's number, its SOF and its segment 0. -/
def frameSet (s : State) (k : Option Nat) (x : State) : State := { x with
  frame := (s.frame + 1) % 2 ^ 48
  ftg := { x.ftg with
    sof := s.tsc
    line := 0
    lineAt := s.tsc
    kEnd := k.getD 255
    match0 := regN s 0xD00018
    decided := none
    decidedArr := none
    hold := none
    idling := false
    realign := false
    target := none }
  rck := { x.rck with
    running := true
    k := 0
    segStart := s.tsc
    repeats := decide (x.ftg.repGroups ≠ 0)
    containPorts := 0
    containPrims := 0
    containSlots := 0 }
  cmp := { x.cmp with latchStamp := none } }

/-- The frame has begun. -/
def frameBegun (s : State) (k : Option Nat) (d : Decision) : State :=
  takeVariant (frameSet s k (frameTimed s k d)) (variantDue (frameEnded s k))

/-- What it shows is in force. -/
def frameShown (s : State) (k : Option Nat) (d : Decision) : State :=
  showNew (segmentEnd (postSof (frameBegun s k d) 0 ((s.frame + 1) % 2 ^ 48) s.tsc) true) (sof1Early s && s.ftg.decided.isSome)

/-- What it counts is counted. -/
def frameCounted (s : State) (k : Option Nat) (d : Decision) : State :=
  frameTallies (groupsCleared (frameEnded s k)) k d
    (decide ((groupsJudged s k d).ftg.sync = .locked ∧ (frameBegun s k d).ftg.sync = .searching)) (frameShown s k d)

/-- An ACTIVE port takes beads from now on. -/
def deliverStep (s : State) (p : Nat) : State :=
  if (port s p).mode == .active then modPort s p (fun x => { x with delivering := true }) else s

/-- A pass that waits for this frame begins. -/
def passResumed (s : State) : State :=
  match s.cmp.pass with
  | some p => if p.mode == .waiting then restartPass s p else s
  | none => s

/-- What follows the counts. -/
def frameFollowed (v : Option VarSel) (prev n : Nat) (s : State) : State :=
  lineEvents (quietTick (passResumed (hlsFrameStart (forN 5 audFrame (releaseRetiring
    (variantEvents (forN 6 deliverStep s) v prev) n))))) 0 0

theorem frameStart_eq (s : State) (k : Option Nat) (d : Decision) : frameStart s k d =
    frameFollowed (variantDue (frameEnded s k)) (frameEnded s k).rck.variant s.frame (frameCounted s k d) := by
  unfold frameStart
  extract_lets n s0 ended v prev f0 s1 s2 arr s3 c3 r3 f3 s4 lost s5 s6 s7 s8 s9 s10 s11
  have h4 : s4 = frameBegun s k d := rfl
  have h5 : s5 = frameShown s k d := rfl
  have h6 : s6 = frameCounted s k d := rfl
  have h7 : s7 = forN 6 deliverStep s6 := rfl
  have h11 : s11 = passResumed s10 := by
    clear_value s10
    rfl
  have h8 : s8 = variantEvents s7 (variantDue (frameEnded s k)) (frameEnded s k).rck.variant := rfl
  rw [frameFollowed, ← h6, ← h7, ← h8, h11]

/-! ### What they leave -/

theorem frameFollowed_work (v : Option VarSel) (prev n : Nat) (s : State) : Work frameRest s (frameFollowed v prev n s) := by
  have deliver (s : State) (p : Nat) : Work frameRest s (deliverStep s p) := .ite _ ⟨rfl, ((Effects.refl _ s).units (by rfl))⟩ (.refl s)
  have resume (s : State) : Work frameRest s (passResumed s) := by
    unfold passResumed
    split
    · exact .ite _ (restartPass_work _ _) (.refl s)
    · exact .refl s
  have h1 := ((Work.forN deliver 6 s).trans (variantEvents_work _ v prev)).trans (releaseRetiring_work _ n)
  exact ((((h1.trans (.forN audFrame_work 5 _)).trans (hlsFrameStart_work _)).trans (resume _)).trans (quietTick_work _)).trans
    (lineEvents_work _ 0 0)

theorem frameShown_work (s : State) (k : Option Nat) (d : Decision) : Work frameRest (frameBegun s k d) (frameShown s k d) :=
  ((postSof_work _ 0 _ s.tsc).trans ((segmentEnd_work _ true).mono (fun _ => rfl))).trans (showNew_work _ _)

/-- What the judging of the groups keeps. -/
def groupRest (s : State) : State := { calm s with ftg := { s.ftg with
  newGroups := 0
  repGroups := 0
  shownTake := [] } }

theorem groupRest_calm (x : State) : groupRest x = groupRest (calm x) := rfl

/-- A group repeats what it shows. -/
def groupKept (s : State) (g : Nat) : State := { s with ftg := { s.ftg with repGroups := s.ftg.repGroups ||| 2 ^ g } }

/-- A group shows what it has pending. -/
def groupShown (s : State) (g : Nat) : State := { s with ftg := { s.ftg with
  newGroups := s.ftg.newGroups ||| 2 ^ g
  shownTake := s.ftg.shownTake.set g s.cmp.takeNo } }

theorem groupAdvance_parts (d : Decision) (n : Nat) (s : State) (g : Nat) : ∃ p, groupAdvance d n s g =
    if groupMembers s g = 0 then s else if !groupPending s g then groupKept s g else if groupNotReady s d g = 0 then groupShown s g
    else report (groupKept (post s 0x0C05 0 p) g) { source := 0x5A, master := g } := ⟨_, rfl⟩

theorem groupKept_work (s : State) (g : Nat) : Work groupRest s (groupKept s g) := ⟨rfl, ((Effects.refl _ s).units (by rfl))⟩

theorem groupAdvance_work (d : Decision) (n : Nat) (s : State) (g : Nat) : Work groupRest s (groupAdvance d n s g) := by
  obtain ⟨p, hp⟩ := groupAdvance_parts d n s g
  rw [hp]
  refine .ite _ (.refl s) (.ite _ (groupKept_work s g) (.ite _ ⟨rfl, ((Effects.refl _ s).units (by rfl))⟩ ?_))
  exact ((Work.post groupRest_calm s _ _ p).trans (groupKept_work _ g)).trans (.report groupRest_calm _ { source := 0x5A, master := g })

/-- What the timing of a frame keeps: all that is neither the genlock's nor a group's, and the length of the frame before. -/
def timeRest (s : State) : State := { calm s with
  ftg := { len := s.ftg.len }
  pins := { (calm s).pins with fsyncOut := false } }

theorem timeRest_calm (x : State) : timeRest x = timeRest (calm x) := rfl

/-- Another genlock state. -/
def synced (s : State) (m : SyncMode) : State := { s with ftg := { s.ftg with sync := m } }

theorem setSync_parts (s : State) (m : SyncMode) (c : Nat) : ∃ p, setSync s m c = post (synced s m) 0x0C07 0 p := ⟨_, rfl⟩

theorem synced_work (s : State) (m : SyncMode) : Work timeRest s (synced s m) := ⟨rfl, ((Effects.refl _ s).units (by rfl))⟩

theorem setSync_work (s : State) (m : SyncMode) (c : Nat) : Work timeRest s (setSync s m c) := by
  obtain ⟨p, hp⟩ := setSync_parts s m c
  rw [hp]
  exact (synced_work s m).trans (.post timeRest_calm _ _ _ _)

/-- No re-alignment is on. -/
def unaligned (s : State) : State := { s with ftg := { s.ftg with realign := false } }

theorem lockLost_eq (s : State) (c : Nat) : lockLost s c = report (setSync (unaligned s) .searching c) { source := 0x58 } := rfl

theorem lockLost_work (s : State) (c : Nat) : Work timeRest s (lockLost s c) := by
  have h1 : Work timeRest s (unaligned s) := ⟨rfl, ((Effects.refl _ s).units (by rfl))⟩
  rw [lockLost_eq]
  exact (h1.trans (setSync_work _ _ _)).trans (.report timeRest_calm _ { source := 0x58 })

/-- Another genlock mode. -/
def modeTaken (s : State) (m : Nat) : State := { s with
  ftg := { s.ftg with
    mode := m
    missRun := 0
    realign := false
    target := none
    edges := if m = 0 then [] else s.ftg.edges }
  pins := { s.pins with fsyncOut := if m = 0 then false else s.pins.fsyncOut } }

theorem takeMode_eq (s : State) : takeMode s = if bits (regN s 0xD00200) 1 0 = s.ftg.mode then s else
    setSync (modeTaken s (bits (regN s 0xD00200) 1 0))
      (if bits (regN s 0xD00200) 1 0 = 1 then .master else if bits (regN s 0xD00200) 1 0 = 2 then .searching else .free) 3 := rfl

theorem takeMode_work (s : State) : Work timeRest s (takeMode s) := by
  rw [takeMode_eq]
  have h1 (m : Nat) : Work timeRest s (modeTaken s m) := ⟨rfl, ((Effects.refl _ s).units (by rfl))⟩
  exact .ite _ (.refl s) ((h1 _).trans (setSync_work _ _ _))

/-- Genlock fields. -/
def genlocked (s : State) (f : Ftg) : State := { s with ftg := f }

theorem genlocked_work (s : State) {f : Ftg} (hf : f.len = s.ftg.len) : Work timeRest s (genlocked s f) :=
  ⟨by
    unfold timeRest genlocked
    rw [hf]
    rfl, ((Effects.refl _ s).units (by rfl))⟩

theorem of_genlocked (s : State) (f : Ftg) : { s with ftg := f } = genlocked s f := rfl

theorem phaseHold_parts (s : State) (a : Option Nat) : ∃ f, f.len = s.ftg.len ∧
    (phaseHold s a = genlocked s f ∨ phaseHold s a = lockLost (genlocked s f) 1) := by
  unfold phaseHold
  dsimp only
  split
  · exact ⟨_, by exact rfl, .inl (of_genlocked s _)⟩
  · split
    · split
      · exact ⟨_, by exact rfl, .inr (congrArg (lockLost · 1) (of_genlocked s _))⟩
      · exact ⟨_, by exact rfl, .inl (of_genlocked s _)⟩
    · exact ⟨_, by exact rfl, .inl (of_genlocked s _)⟩

theorem phaseHold_work (s : State) (a : Option Nat) : Work timeRest s (phaseHold s a) := by
  obtain ⟨f, hf, h⟩ := phaseHold_parts s a
  rcases h with h | h
  · exact h ▸ genlocked_work s hf
  · exact h ▸ (genlocked_work s hf).trans (lockLost_work _ 1)

/-- The length and the last segment of the frame that ended. -/
def frameMeasured (s : State) (len k : Nat) : State := { s with
  ftg := { s.ftg with len := len }
  rck := { s.rck with lastK := k } }

theorem frameDone_parts (s : State) (k : Nat) : ∃ p, frameDone s k =
    frameMeasured (post s 0x0C04 0 p) ((s.tsc - s.ftg.sof) % 2 ^ 32) k := ⟨_, rfl⟩

theorem frameDone_effects (s : State) (k : Nat) : Effects [] frameNoise s (frameDone s k) := by
  obtain ⟨p, hp⟩ := frameDone_parts s k
  rw [hp]
  exact ((post_effects s _ _ p).units (by rfl))

theorem calm_frameDone (s : State) (k : Nat) : calm (frameDone s k) = calm (frameMeasured s ((s.tsc - s.ftg.sof) % 2 ^ 32) k) := by
  obtain ⟨p, hp⟩ := frameDone_parts s k
  rw [hp]
  exact congrArg (fun x : State => { x with
    ftg := { x.ftg with len := (s.tsc - s.ftg.sof) % 2 ^ 32 }
    rck := { x.rck with lastK := k } }) (calm_post s 0x0C04 0 p)

theorem frameEnded_effects (s : State) (k : Option Nat) : Effects [] frameNoise s (frameEnded s k) := by
  unfold frameEnded
  split
  · exact frameDone_effects s _
  · exact .refl _ s

theorem groupsJudged_work (s : State) (k : Option Nat) (d : Decision) :
    Work groupRest (groupsCleared (frameEnded s k)) (groupsJudged s k d) := .foldl (groupAdvance_work d _) _ _

theorem frameTimed_work (s : State) (k : Option Nat) (d : Decision) : Work timeRest (frameEnded s k) (frameTimed s k d) :=
  have hc : Work timeRest (frameEnded s k) (groupsCleared (frameEnded s k)) := ⟨rfl, ((Effects.refl _ (frameEnded s k)).units (by rfl))⟩
  ((hc.trans ((groupsJudged_work s k d).mono (fun _ => rfl))).trans (takeMode_work _)).trans (phaseHold_work _ _)

theorem takeVariant_effects (s : State) (v : Option VarSel) : Effects [] frameNoise s (takeVariant s v) := by
  unfold takeVariant
  split
  · exact ((Effects.refl _ s).units (by rfl))
  · exact .refl _ s

theorem frameBegun_effects (s : State) (k : Option Nat) (d : Decision) : Effects [] frameNoise s (frameBegun s k d) :=
  (((frameEnded_effects s k).quiet (frameTimed_work s k d).effects).quiet (t := frameSet s k (frameTimed s k d))
    ((Effects.refl _ (frameTimed s k d)).units (by rfl))).quiet (takeVariant_effects _ _)

/-- The tally of the boundary that ended the frame before. -/
def boundaryTally (k : Option Nat) : List Nat := (k.map (0x400040 + 4 * ·)).toList

theorem frameCounted_rest (s : State) (k : Option Nat) (d : Decision) : frameRest (frameCounted s k d) = frameRest (frameShown s k d) := by
  unfold frameCounted
  cases k with
  | none => exact (otherTallies_work _ d _ _).keeps
  | some k =>
    rw [frameTallies_some, (otherTallies_work _ d _ _).keeps, frameRest_calm (bump _ _), calm_bump, ← frameRest_calm]

theorem boundary_tally (n : Nat) : unitTally (0x400040 + 4 * n) = true := by
  simp only [unitTally, offEvtLost, offCmdTally, Bool.and_eq_true, bne_iff_ne, Bool.not_eq_true', decide_eq_false_iff_not]
  omega

theorem frameCounted_effects (s : State) (k : Option Nat) (d : Decision) :
    Effects (boundaryTally k) frameNoise (frameShown s k d) (frameCounted s k d) := by
  unfold frameCounted
  cases k with
  | none => exact (otherTallies_work _ d _ _).effects
  | some n =>
    rw [frameTallies_some]
    exact (bump_adds _ (boundary_tally n) (by omega)).effects.quiet (otherTallies_work _ d _ _).effects

/-! ### The frame start -/

/-- What a frame start begins stands, but for what its steps change of the frame's content. -/
theorem frameStart_rest (s : State) (k : Option Nat) (d : Decision) : frameRest (frameStart s k d) = frameRest (frameBegun s k d) := by
  rw [frameStart_eq, (frameFollowed_work _ _ _ _).keeps, frameCounted_rest, (frameShown_work s k d).keeps]

/-- A frame start counts its boundary once, beside tallies that are not boundaries'. -/
theorem frameStart_effects (s : State) (k : Option Nat) (d : Decision) :
    Effects (boundaryTally k) frameNoise s (frameStart s k d) := by
  rw [frameStart_eq]
  exact ((((frameBegun_effects s k d).quiet (frameShown_work s k d).effects).trans (frameCounted_effects s k d))).quiet
    (frameFollowed_work _ _ _ _).effects

theorem takeVariant_ftg (s : State) (v : Option VarSel) : (takeVariant s v).ftg = s.ftg := by
  unfold takeVariant
  split <;> rfl

/-- What a variant that takes effect leaves. -/
def variantRest (s : State) : State := { s with rck := { s.rck with
  variant := 0
  slotRun := 0
  next := none } }

theorem takeVariant_rest (s : State) (v : Option VarSel) : variantRest (takeVariant s v) = variantRest s := by
  unfold takeVariant
  split <;> rfl

/-- The frame that a frame start begins: its number, its times and its schedule, with what belongs to no frame as it was. -/
structure FrameBegun (s : State) (k : Option Nat) (t : State) : Prop where
  frame : t.frame = (s.frame + 1) % 2 ^ 48
  sof : t.ftg.sof = s.tsc
  line : t.ftg.line = 0
  lineAt : t.ftg.lineAt = s.tsc
  kEnd : t.ftg.kEnd = k.getD 255
  decided : t.ftg.decided = none
  hold : t.ftg.hold = none
  idling : t.ftg.idling = false
  target : t.ftg.target = none
  running : t.rck.running = true
  first : t.rck.k = 0
  segStart : t.rck.segStart = s.tsc
  latch : t.cmp.latchStamp = none
  len : t.ftg.len = (frameEnded s k).ftg.len
  regs : t.regs = s.regs
  img : t.img = s.img
  thm : t.thm = s.thm
  pwr : t.pwr = s.pwr
  boot : t.boot = s.boot
  glb : t.glb = s.glb
  ver : t.ver = s.ver
  on : t.ftgOn = s.ftgOn

theorem frameEnded_rest (s : State) (k : Option Nat) : timeRest (frameEnded s k) = { timeRest s with
    ftg := { len := (frameEnded s k).ftg.len }
    rck := { s.rck with lastK := k.getD s.rck.lastK } } := by
  unfold frameEnded
  cases k with
  | none => rfl
  | some k =>
    show timeRest (frameDone s k) = _
    rw [timeRest_calm, calm_frameDone]
    rfl

theorem frameRest_variant (s : State) : variantRest (frameRest s) = frameRest (variantRest s) := rfl

theorem frameStart_timed (s : State) (k : Option Nat) (d : Decision) :
    variantRest (frameRest (frameStart s k d)) = variantRest (frameRest (frameSet s k (frameTimed s k d))) := by
  rw [frameStart_rest, frameBegun]
  generalize frameSet s k (frameTimed s k d) = x
  rw [frameRest_variant, takeVariant_rest, ← frameRest_variant]

theorem FrameBegun.of_rest {x : State} (hr : variantRest (frameRest t) = variantRest (frameRest (frameSet s k x)))
    (ht : timeRest x = { timeRest s with
      ftg := { len := (frameEnded s k).ftg.len }
      rck := { s.rck with lastK := k.getD s.rck.lastK } }) : FrameBegun s k t := by
  exact {
    frame := (congrArg (·.frame) hr :)
    sof := (congrArg (·.ftg.sof) hr :)
    line := (congrArg (·.ftg.line) hr :)
    lineAt := (congrArg (·.ftg.lineAt) hr :)
    kEnd := (congrArg (·.ftg.kEnd) hr :)
    decided := (congrArg (·.ftg.decided) hr :)
    hold := (congrArg (·.ftg.hold) hr :)
    idling := (congrArg (·.ftg.idling) hr :)
    target := (congrArg (·.ftg.target) hr :)
    running := (congrArg (·.rck.running) hr :)
    first := (congrArg (·.rck.k) hr :)
    segStart := (congrArg (·.rck.segStart) hr :)
    latch := (congrArg (·.cmp.latchStamp) hr :)
    len := (congrArg (·.ftg.len) hr :).trans (congrArg (·.ftg.len) ht :)
    regs := (congrArg (·.regs) hr :).trans (congrArg (·.regs) ht :)
    img := (congrArg (·.img) hr :).trans (congrArg (·.img) ht :)
    thm := (congrArg (·.thm) hr :).trans (congrArg (·.thm) ht :)
    pwr := (congrArg (·.pwr) hr :).trans (congrArg (·.pwr) ht :)
    boot := (congrArg (·.boot) hr :).trans (congrArg (·.boot) ht :)
    glb := (congrArg (·.glb) hr :).trans (congrArg (·.glb) ht :)
    ver := (congrArg (·.ver) hr :).trans (congrArg (·.ver) ht :)
    on := (congrArg (·.ftgOn) hr :).trans (congrArg (·.ftgOn) ht :) }

theorem frameStart_begun (s : State) (k : Option Nat) (d : Decision) : FrameBegun s k (frameStart s k d) :=
  .of_rest (frameStart_timed s k d) ((frameTimed_work s k d).keeps.trans (frameEnded_rest s k))

theorem phaseHold_none_sync (s : State) : (phaseHold s none).ftg.sync = s.ftg.sync := by
  unfold phaseHold
  extract_lets nom
  split
  · rfl
  · split
    · contradiction
    · rfl

theorem sync_of_rest {x : State} (hr : variantRest (frameRest t) = variantRest (frameRest (frameSet s k x))) :
    t.ftg.sync = x.ftg.sync := (congrArg (·.ftg.sync) hr :)

theorem judged_keeps {x y : State} (h : groupRest x = groupRest (groupsCleared y)) :
    x.ftg.mode = y.ftg.mode ∧ x.ftg.decidedArr = y.ftg.decidedArr ∧ x.ftg.sync = y.ftg.sync ∧ x.regs = y.regs :=
  ⟨(congrArg (·.ftg.mode) h :), (congrArg (·.ftg.decidedArr) h :), (congrArg (·.ftg.sync) h :), (congrArg (·.regs) h :)⟩

/-- A frame start that no symbol causes, and that changes no mode, leaves the genlock as it was (R400, R402). -/
theorem frameStart_sync (s : State) (k : Option Nat) (d : Decision) (hm : bits (regN s 0xD00200) 1 0 = s.ftg.mode)
    (ha : s.ftg.decidedArr = none) : (frameStart s k d).ftg.sync = s.ftg.sync := by
  have hr := frameStart_timed s k d
  have hj := (groupsJudged_work s k d).keeps
  have he : (frameEnded s k).ftg.mode = s.ftg.mode ∧ (frameEnded s k).ftg.decidedArr = s.ftg.decidedArr ∧
      (frameEnded s k).ftg.sync = s.ftg.sync ∧ (frameEnded s k).regs = s.regs := by
    cases k with
    | none => exact ⟨rfl, rfl, rfl, rfl⟩
    | some k =>
      have hc := calm_frameDone s k
      exact ⟨(congrArg (·.ftg.mode) hc :), (congrArg (·.ftg.decidedArr) hc :), (congrArg (·.ftg.sync) hc :),
        (congrArg (·.regs) hc :)⟩
  obtain ⟨hmode, harr, hsync, hregs⟩ := he
  obtain ⟨jmode, jarr, jsync, jregs⟩ := judged_keeps hj
  rw [hmode] at jmode
  rw [harr, ha] at jarr
  rw [hsync] at jsync
  rw [hregs] at jregs
  have jm : bits (regN (groupsJudged s k d) 0xD00200) 1 0 = (groupsJudged s k d).ftg.mode := by
    rw [jmode, ← hm]
    simp only [regN, reg, jregs]
  have htake : takeMode (groupsJudged s k d) = groupsJudged s k d := by rw [takeMode_eq, if_pos jm]
  have harr : frameTimed s k d = phaseHold (groupsJudged s k d) none := by
    unfold frameTimed
    rw [htake, jarr, ite_self]
  have hx : (frameTimed s k d).ftg.sync = s.ftg.sync := by rw [harr, phaseHold_none_sync, jsync]
  exact (sync_of_rest hr).trans hx

end
end Sys2Proof.Machine
end


section
/-! The symbols of FSYNC_IN, the holds, and the end of a re-alignment (R395, R397, R399 to R401). -/

namespace Sys2Proof.Machine

section
variable {s : State} {a : Nat} {E : Nat → Prop}

/-! ### Symbols -/

/-- A high run on FSYNC_IN has ended; a slave relays its edge (R401). -/
def highEnded (s : State) : State := { s with
  ftg := { s.ftg with
    arrival := none
    edges := if s.ftg.mode = 2 then s.ftg.edges ++ [(s.tsc + 4, false)] else s.ftg.edges }
  pins := { s.pins with fsyncIn := false } }

/-- A symbol has been seen; a long one is NEW. -/
def symbolSeen (s : State) (a : Nat) : State := { highEnded s with
  ftg := { (highEnded s).ftg with
    anySym := true
    newArr := if 32 ≤ s.tsc - a then some a else s.ftg.newArr } }

/-- The running segment becomes the last. -/
def aligning (s : State) : State := { s with ftg := { s.ftg with realign := true } }

/-- The end of the idle is set. -/
def targeted (s : State) (n : Nat) : State := { s with ftg := { s.ftg with target := some n } }

theorem symbolArrival_slave (h : s.ftg.mode = 2) : symbolArrival s = { s with
    ftg := { s.ftg with
      arrival := some s.tsc
      edges := s.ftg.edges ++ [(s.tsc + 4, true)] }
    pins := { s.pins with fsyncIn := true } } := if_pos h

theorem symbolArrival_other (h : s.ftg.mode ≠ 2) : symbolArrival s = { s with
    ftg := { s.ftg with arrival := some s.tsc }
    pins := { s.pins with fsyncIn := true } } := if_neg h

theorem relayEdge_highEnded (s : State) : relayEdge { s with
    ftg := { s.ftg with arrival := none }
    pins := { s.pins with fsyncIn := false } } false = highEnded s := by
  unfold relayEdge highEnded
  by_cases h : s.ftg.mode = 2 <;> simp only [h, if_true, if_false]

theorem symbolDecoded_none (h : s.ftg.arrival = none) : symbolDecoded s = s := by
  unfold symbolDecoded
  rw [h]

theorem symbolDecoded_eq (h : s.ftg.arrival = some a) : symbolDecoded s =
    if s.tsc - a < 8 ∨ 63 < s.tsc - a then report (bump (highEnded s) 0xD00370) { source := 0x59 }
    else if s.ftg.mode = 2 ∧ s.ftgOn = true then
      if decide (32 ≤ s.tsc - a) && s.ftg.sync == .searching then
        if s.ftg.idling || s.ftg.realign then targeted (symbolSeen s a) (symbolTarget s a).toNat else aligning (symbolSeen s a)
      else symbolSeen s a
    else highEnded s := by
  unfold symbolDecoded
  rw [h]
  dsimp only
  rw [relayEdge_highEnded]
  simp only [decide_eq_true_eq]
  rfl

theorem symbolDecoded_odd (h : s.ftg.arrival = some a) (ho : s.tsc - a < 8 ∨ 63 < s.tsc - a) :
    symbolDecoded s = report (bump (highEnded s) 0xD00370) { source := 0x59 } := by rw [symbolDecoded_eq h, if_pos ho]

theorem symbolDecoded_other (h : s.ftg.arrival = some a) (h8 : 8 ≤ s.tsc - a) (h63 : s.tsc - a ≤ 63) (hm : s.ftg.mode ≠ 2) :
    symbolDecoded s = highEnded s := by rw [symbolDecoded_eq h, if_neg (by omega), if_neg (fun hn => hm hn.1)]

theorem symbolDecoded_slave (h : s.ftg.arrival = some a) (h8 : 8 ≤ s.tsc - a) (h63 : s.tsc - a ≤ 63) (hm : s.ftg.mode = 2)
    (hon : s.ftgOn = true) : symbolDecoded s =
      if decide (32 ≤ s.tsc - a) && s.ftg.sync == .searching then
        if s.ftg.idling || s.ftg.realign then targeted (symbolSeen s a) (symbolTarget s a).toNat else aligning (symbolSeen s a)
      else symbolSeen s a := by rw [symbolDecoded_eq h, if_neg (by omega), if_pos ⟨hm, hon⟩]

theorem symbolDecoded_seen (h : s.ftg.arrival = some a) (h8 : 8 ≤ s.tsc - a) (h63 : s.tsc - a ≤ 63) (hm : s.ftg.mode = 2)
    (hon : s.ftgOn = true) (hs : s.ftg.sync ≠ .searching) : symbolDecoded s = symbolSeen s a := by
  rw [symbolDecoded_slave h h8 h63 hm hon, if_neg]
  simp [hs]

theorem symbolDecoded_new (h : s.ftg.arrival = some a) (h32 : 32 ≤ s.tsc - a) (h63 : s.tsc - a ≤ 63) (hm : s.ftg.mode = 2)
    (hon : s.ftgOn = true) (hs : s.ftg.sync = .searching) : symbolDecoded s =
      if s.ftg.idling || s.ftg.realign then targeted (symbolSeen s a) (symbolTarget s a).toNat else aligning (symbolSeen s a) := by
  rw [symbolDecoded_slave h (by omega) h63 hm hon, if_pos]
  simp [hs, h32]

theorem odd_effects (s : State) : Effects [0xD00370, 0x59] exactly s (report (bump (highEnded s) 0xD00370) { source := 0x59 }) := by
  have h1 : Effects [] exactly s (highEnded s) := ((Effects.refl _ s).units (by rfl))
  exact (h1.adds (bump_adds (highEnded s) rfl (by decide))).report { source := 0x59 }

/-! ### Holds -/

/-- A hold has ended: segment time resumes, and the lines with it. -/
def held (s : State) (d : Nat) : State := { s with
  ftg := { s.ftg with
    hold := none
    lineAt := s.ftg.lineAt + d
    lineAt1 := s.ftg.lineAt1 + d }
  rck := { s.rck with segStart := s.rck.segStart + d }
  mem := { s.mem with trains := s.mem.trains.filter (fun r => !r.own || s.mem.ownSlots) } }

theorem holdEnd_due {t0 d : Nat} (h : s.ftg.hold = some (t0, d)) (hd : t0 + d = s.tsc) : holdEnd s = held s d := by
  unfold holdEnd
  rw [h]
  exact if_pos hd

theorem holdEnd_none (h : ∀ t0 d, s.ftg.hold = some (t0, d) → t0 + d ≠ s.tsc) : holdEnd s = s := by
  unfold holdEnd
  split
  · rename_i t0 d hd
    exact if_neg (h t0 d hd)
  · rfl

/-! ### The end of a re-alignment -/

/-- The errors, the misses and the symbol of the search are forgotten. -/
def alignForgotten (s : State) : State := { s with ftg := { s.ftg with
  error := 0
  drift := 0
  missRun := 0
  newArr := none } }

/-- The symbol that was judged is forgotten. -/
def symbolForgotten (s : State) : State := { s with ftg := { s.ftg with decidedArr := none } }

/-- The slave has found its master's frames. -/
def aligned (s : State) : State := symbolForgotten (setSync (alignForgotten s) .locked 0)

theorem realignStart_eq (hon : s.ftgOn = true) (hi : s.ftg.idling = true) (ht : s.ftg.target = some s.tsc) : ∃ d,
    realignStart s = frameStart (aligned s) (some s.rck.k) d := by
  have hc : (s.ftgOn && s.ftg.idling && decide (s.ftg.target = some s.tsc)) = true := by rw [hon, hi, decide_eq_true ht]; rfl
  exact ⟨{ evaluate s with
    newFrame := true
    bySymbol := true }, if_pos hc⟩

theorem realignStart_none (h : s.ftgOn = false ∨ s.ftg.idling = false ∨ s.ftg.target ≠ some s.tsc) : realignStart s = s := by
  refine if_neg (fun hc => ?_)
  simp only [Bool.and_eq_true, decide_eq_true_eq] at hc
  obtain ⟨⟨hon, hi⟩, ht⟩ := hc
  rcases h with h | h | h
  · rw [hon] at h; cases h
  · rw [hi] at h; cases h
  · exact h ht

/-- The genlock of a slave that has found its master's frames. -/
def foundGenlock (s : State) : Ftg := { s.ftg with
  error := 0
  drift := 0
  missRun := 0
  newArr := none
  sync := .locked
  decidedArr := none }

theorem symbolForgotten_synced (s : State) : symbolForgotten (synced (alignForgotten s) .locked) = genlocked s (foundGenlock s) := rfl

theorem calm_aligned (s : State) : calm (aligned s) = calm (genlocked s (foundGenlock s)) := by
  obtain ⟨p, hp⟩ := setSync_parts (alignForgotten s) .locked 0
  rw [aligned, hp, ← symbolForgotten_synced]
  exact congrArg (fun x : State => { x with ftg := { x.ftg with decidedArr := none } }) (calm_post (synced (alignForgotten s) .locked) _ _ p)

theorem aligned_effects (s : State) : Effects [] E s (aligned s) := by
  obtain ⟨p, hp⟩ := setSync_parts (alignForgotten s) .locked 0
  have h1 : Effects [] E s (synced (alignForgotten s) .locked) := ((Effects.refl E s).units (by rfl))
  have h2 : Effects [] E s (setSync (alignForgotten s) .locked 0) := hp ▸ h1.posts (post_adds _ _ _ p)
  exact (h2.units (by rfl))

/-- What the genlock is, once the slave has found its master's frames, and what stays. -/
structure Aligned (s x : State) : Prop where
  regs : x.regs = s.regs
  mode : x.ftg.mode = s.ftg.mode
  sync : x.ftg.sync = .locked
  decided : x.ftg.decidedArr = none
  frame : x.frame = s.frame
  tsc : x.tsc = s.tsc

theorem Aligned.of_calm {x : State} (hc : calm x = calm (genlocked s (foundGenlock s))) : Aligned s x where
  regs := (congrArg (·.regs) hc :)
  mode := (congrArg (·.ftg.mode) hc :)
  sync := (congrArg (·.ftg.sync) hc :)
  decided := (congrArg (·.ftg.decidedArr) hc :)
  frame := (congrArg (·.frame) hc :)
  tsc := (congrArg (·.tsc) hc :)

theorem aligned_keeps (s : State) : Aligned s (aligned s) := .of_calm (calm_aligned s)

theorem frameStart_aligned (s : State) (d : Decision) (hm : bits (regN s 0xD00200) 1 0 = s.ftg.mode) :
    (frameStart (aligned s) (some s.rck.k) d).ftg.sync = .locked := by
  have hk := aligned_keeps s
  rw [frameStart_sync (aligned s) _ d ?_ hk.decided, hk.sync]
  rw [hk.mode, ← hm]
  simp only [regN, reg, hk.regs]

theorem realignStart_begun (hon : s.ftgOn = true) (hi : s.ftg.idling = true) (ht : s.ftg.target = some s.tsc)
    (hm : bits (regN s 0xD00200) 1 0 = s.ftg.mode) : FrameBegun (aligned s) (some s.rck.k) (realignStart s) ∧
      (realignStart s).ftg.sync = .locked ∧ ∃ C, Effects C frameNoise s (realignStart s) := by
  obtain ⟨d, hd⟩ := realignStart_eq hon hi ht
  rw [hd]
  exact ⟨frameStart_begun _ _ d, frameStart_aligned s d hm, _, (aligned_effects s).trans (frameStart_effects _ _ d)⟩

end

/-- Settles O34: what a symbol, the end of a hold and the end of a re-alignment do, each by its own equation. -/
theorem symbolsAndHolds : Obligations.SymbolsAndHolds := by
  unfold Obligations.SymbolsAndHolds
  refine ⟨fun s h hm => ?arrives, fun s h hm => ?relayed, fun s h ha => ?none, fun s a h ha ho => ?odd,
    fun s a h ha h8 h63 hm => ?other, fun s a h ha h8 h63 hm hon hs => ?seen, fun s a h ha h32 h63 hm hon hs hi hr => ?aligns,
    fun s a h ha h32 h63 hm hon hs hir => ?targets, fun s t0 d h hh hd => ?held, fun s h hn => ?unheld,
    fun s h hon hi ht hm => ?realigned, fun s h hn => ?idles⟩
  case arrives => exact exec_unit_quiet (i := .symbolArrival) rfl h (symbolArrival_other hm) h.toSteady.quiet
  case relayed => exact exec_unit_quiet (i := .symbolArrival) rfl h (symbolArrival_slave hm) h.toSteady.quiet
  case none => exact exec_unit_same (i := .symbolDecoded) rfl h (symbolDecoded_none ha)
  case odd =>
    obtain ⟨t, ht, done⟩ := exec_done (i := .symbolDecoded) (f := symbolDecoded) rfl h (by rw [symbolDecoded_odd ha ho]; exact odd_effects s)
    rw [symbolDecoded_odd ha ho] at done
    have hc : calm t = calm (highEnded s) := by
      refine (done.calm fun n hn hl => ?_).trans ((calm_report _ _).trans (calm_bump _ _))
      simp only [List.mem_cons, List.not_mem_nil, or_false] at hn
      rcases hn with rfl | rfl
      · exact absurd hl (by decide)
      · rw [sourceCfg_fixed (e := (0x59, 0, 0)) rfl]
    have hf : t.ftg = (highEnded s).ftg := (congrArg (·.ftg) hc :)
    exact ⟨t, ht, hf, done.counted 0x59 (by decide) (by decide) (fun h => h) rfl,
      done.tallies 0xD00370 (by decide) rfl (fun h => h), hc.trans (by rw [hf]; rfl)⟩
  case other => exact exec_unit_quiet (i := .symbolDecoded) rfl h ((symbolDecoded_other ha h8 h63 hm).trans (by rw [highEnded, if_neg hm])) h.toSteady.quiet
  case seen => exact exec_unit_quiet (i := .symbolDecoded) rfl h ((symbolDecoded_seen ha h8 h63 hm hon hs).trans (by rw [symbolSeen, highEnded, if_pos hm])) h.toSteady.quiet
  case aligns =>
    have he := symbolDecoded_new ha h32 h63 hm hon hs
    rw [hi, hr, Bool.false_or, if_neg Bool.false_ne_true] at he
    exact ⟨_, exec_unit_quiet (i := .symbolDecoded) rfl h he h.toSteady.quiet, rfl, if_pos h32, rfl, rfl⟩
  case targets =>
    have he := symbolDecoded_new ha h32 h63 hm hon hs
    rw [if_pos (by rw [Bool.or_eq_true]; exact hir)] at he
    exact ⟨_, exec_unit_quiet (i := .symbolDecoded) rfl h he h.toSteady.quiet, rfl, rfl, rfl⟩
  case held => exact exec_unit_quiet (i := .holdEnd) rfl h (holdEnd_due hh hd) h.toSteady.quiet
  case unheld => exact exec_unit_same (i := .holdEnd) rfl h (holdEnd_none hn)
  case realigned =>
    obtain ⟨hb, hs, C, he⟩ := realignStart_begun hon hi ht hm
    obtain ⟨t, ht, done⟩ := exec_done (i := .realignmentFrameStart) (f := realignStart) rfl h he
    have hf : t.ftg = (realignStart s).ftg := (congrArg (·.ftg) done.rest :)
    have hr : t.rck.k = (realignStart s).rck.k := (congrArg (·.rck.k) done.rest :)
    have hn : t.frame = (realignStart s).frame := (congrArg (·.frame) done.rest :)
    generalize realignStart s = r at *
    have hk := aligned_keeps s
    refine ⟨t, ht, by rw [hf, hs], by rw [hf, hb.idling], by rw [hf, hb.target], ?_, ?_, by rw [hr, hb.first]⟩
    · rw [hn, hb.frame, hk.frame]
    · rw [hf, hb.sof, hk.tsc]
  case idles => exact exec_unit_same (i := .realignmentFrameStart) rfl h (realignStart_none hn)

end Sys2Proof.Machine
end


section
/-! What no reaction changes of the loop slots: what they compute apart, all that they hold (R348, R349). -/

namespace Sys2Proof.Machine

/-- A slot without what it computes at a tick and what the scanner sets. -/
def slotForm (x : Slot) : Slot := { clearSlot x with
  idle := false
  fb := 0
  tgt := 0 }

/-- The slots without what they compute, and what the registers show of them. -/
def slotForms (s : State) : Vector Slot 24 × Vector Slot 24 := (s.lpe.slot.map slotForm, s.lpe.shown)

/-- The slots are computed at most, and not shown anew. -/
def SlotsKept (s t : State) : Prop := slotForms t = slotForms s

section
variable {s t : State} {i : Nat}

theorem SlotsKept.trans {a b c : State} (h : SlotsKept a b) (k : SlotsKept b c) : SlotsKept a c := Eq.trans k h

theorem SlotsKept.of_lpe (h : t.lpe = s.lpe) : SlotsKept s t := by
  unfold SlotsKept slotForms
  rw [h]

theorem SlotsKept.of_calm (h : calm t = calm s) : SlotsKept s t := .of_lpe (calm_eq (·.lpe) h)

theorem SlotsKept.shown (h : SlotsKept s t) : t.lpe.shown = s.lpe.shown := congrArg Prod.snd h

theorem slotForms_at (s : State) (hi : i < 24) : (slotForms s).1[i] = slotForm (slotAt s i) := by
  simp [slotForms, slotAt, vget, List.getD_eq_getElem?_getD, hi]

theorem SlotsKept.form (h : SlotsKept s t) (hi : i < 24) : slotForm (slotAt t i) = slotForm (slotAt s i) := by
  have := congrArg (fun g : Vector Slot 24 × Vector Slot 24 => g.1[i]) h
  simpa only [slotForms_at _ hi] using this

theorem SlotsKept.window (h : SlotsKept s t) (hi : i < 24) : (vget t.lpe.slot i {}).window = (vget s.lpe.slot i {}).window :=
  (congrArg (fun x : Slot => x.window) (h.form hi) :)

theorem SlotsKept.late (h : SlotsKept s t) (hi : i < 24) : (vget t.lpe.slot i {}).late = (vget s.lpe.slot i {}).late :=
  (congrArg (fun x : Slot => x.late) (h.form hi) :)

theorem modSlot_forms (s : State) (i : Nat) {f : Slot → Slot} (hf : ∀ x, slotForm (f x) = slotForm x) :
    SlotsKept s (modSlot s i f) := by
  unfold SlotsKept slotForms modSlot vmod
  split
  · refine Prod.ext (Vector.ext fun j hj => ?_) rfl
    simp only [Vector.getElem_map, Vector.getElem_set]
    split
    · subst_vars
      exact hf _
    · rfl
  · rfl

theorem modHlsSlot_forms (s : State) (k : Nat) {f : Slot → Slot} (hf : ∀ x, slotForm (f x) = slotForm x) :
    SlotsKept s (modHlsSlot s k f) := by
  unfold modHlsSlot
  split
  · exact modSlot_forms s _ hf
  · rfl

theorem clearBankSlot_forms (s : State) (b : Nat) : SlotsKept s (clearBankSlot s b) := by
  unfold clearBankSlot
  split
  · exact modSlot_forms s _ (fun _ => rfl)
  · rfl

/-! ### Reactions -/

theorem bankLeave_forms (s : State) (b : Nat) : SlotsKept s (bankLeave s b) := by
  unfold bankLeave
  extract_lets z s1
  exact .trans (.of_lpe (by split <;> rfl)) (clearBankSlot_forms _ b)

theorem setBank_forms (s : State) (b : Nat) (m : BankMode) (c : Nat) : SlotsKept s (setBank s b m c) := by
  unfold setBank
  extract_lets s0 s1
  have h1 : SlotsKept s s1 := .of_lpe (by simp only [s1]; split <;> rfl)
  clear_value s1
  refine .trans ?_ (.of_calm (calm_post _ _ _ _))
  split
  · exact h1.trans (bankLeave_forms s1 b)
  · exact h1

theorem bankOff_forms (s : State) (b : Nat) : SlotsKept s (bankOff s b) := by
  unfold bankOff
  extract_lets x s1
  have h1 : SlotsKept s s1 := setBank_forms s b .safe 3
  clear_value s1
  split
  · split
    · exact h1.trans (.of_lpe rfl)
    · exact h1
  · rfl

theorem enterSafe_forms (s : State) (source : Nat) (shutter : Bool) : SlotsKept s (enterSafe s source shutter) := by
  have h1 : SlotsKept s (safeBegin s source shutter) := by
    rw [safeBegin_eq]
    split
    · rfl
    · have hc := (othersTold (signal (postSafe (safeMarked s source shutter) true) 14)).calm.trans (calm_safePosted s source shutter)
      exact .of_lpe (calm_eq (·.lpe) hc :)
  have h2 : SlotsKept (safeBegin s source shutter) (forN 12 bankOff (safeBegin s source shutter)) :=
    List.foldlRecOn _ bankOff (motive := fun t => SlotsKept (safeBegin s source shutter) t) rfl (fun t ht b _ => ht.trans (bankOff_forms t b))
  rw [enterSafe_eq]
  generalize forN 12 bankOff (safeBegin s source shutter) = z at *
  exact (h1.trans h2).trans (.of_lpe (by unfold safeEnd; split <;> rfl))

theorem parkArray_forms (s : State) (p : Nat) : SlotsKept s (parkArray s p) := by
  have enter (s : State) (m : PortMode) (c : Nat) : (enterPort s p m c).lpe = s.lpe :=
    (calm_eq (·.lpe) (calm_enterPort s p m c) :)
  unfold parkArray
  extract_lets x
  split
  · refine .of_lpe ((calm_eq (·.lpe) (calm_completeOpt _ _ _ _) :).trans ?_)
    rw [parkPort, enter]
    rfl
  · rfl

theorem parkScanner_forms (s : State) (c : Nat) (f : Bool) : SlotsKept s (parkScanner s c f) := by
  have trigger (s : State) : SlotsKept s (parkTrigger s) := .of_lpe rfl
  have rest (s : State) : SlotsKept s (scannerRest s c f) := .of_lpe rfl
  have inc (s : State) (n t : Nat) : SlotsKept s (setInc s n t) := .of_lpe rfl
  have set (s : State) (m : HlsMode) : SlotsKept s (setHls s m c) := .of_lpe (calm_eq (·.lpe) (calm_post _ _ _ _) :)
  have target (s : State) (k v : Nat) : SlotsKept s (hlsTarget s k v) := modHlsSlot_forms s k (fun _ => rfl)
  have cleared (s : State) : SlotsKept s (modHlsSlot s 2 clearSlot) := modHlsSlot_forms s 2 (fun _ => rfl)
  have forgot (s : State) : SlotsKept s (modHlsSlot s 3 forgetSlot) := modHlsSlot_forms s 3 (fun _ => rfl)
  unfold parkScanner
  extract_lets t s1
  have h1 : SlotsKept t s1 := ((rest t).trans (cleared _)).trans (forgot _)
  clear_value s1
  split
  · exact ((((trigger s).trans h1).trans (target _ _ _)).trans (inc _ _ _)).trans (set _ _)
  · exact trigger s

/-- Every reaction keeps the slots. -/
theorem slotsKept_stable : Stable SlotsKept where
  refl _ := rfl
  trans := .trans
  records h := .of_calm h.calm
  safe := enterSafe_forms
  arrays s := List.foldlRecOn _ parkArray (motive := fun t => SlotsKept s t) rfl (fun t ht p _ => ht.trans (parkArray_forms t p))
  scanner := parkScanner_forms
  bank := bankOff_forms

end
end Sys2Proof.Machine
end


section
/-! A boundary: the frame, the next segment, or the idle of a re-alignment (R32, R36, R274, R276, R277, R390, R400). -/

namespace Sys2Proof.Machine

section
variable {s t r : State} {d : Decision}

/-- The next segment is the running one. -/
def segmentNext (s r : State) : State := { r with
  rck := { r.rck with
    k := s.rck.k + 1
    segStart := s.tsc }
  ftg := { r.ftg with decided := none } }

/-- The slave idles. -/
def idleBegun (s : State) : State := { s with ftg := { s.ftg with
  idling := true
  realign := false
  decided := none } }

theorem segmentBoundary_none (h : boundaryDue s = false) : segmentBoundary s = s := if_neg (by rw [h]; decide)

theorem segmentBoundary_idles (h : boundaryDue s = true) (hr : s.ftg.realign = true) :
    segmentBoundary s = idleBegun (forN 6 blocksOff (segmentEnd s false)) := by
  rw [segmentBoundary, if_pos h]
  dsimp only
  rw [if_pos hr]
  rfl

theorem segmentBoundary_runs (h : boundaryDue s = true) (hr : s.ftg.realign = false) (hd : s.ftg.decided = some d) : segmentBoundary s =
    if d.newFrame || decide (s.rck.k = 15) then frameStart s (some s.rck.k) d else segmentNext s (segmentEnd s false) := by
  rw [segmentBoundary, if_pos h, hd, Option.getD_some]
  dsimp only
  rw [if_neg (by rw [hr]; decide)]
  rfl

theorem segmentBoundary_frame (h : boundaryDue s = true) (hr : s.ftg.realign = false) (hd : s.ftg.decided = some d)
    (hn : d.newFrame = true ∨ s.rck.k = 15) : segmentBoundary s = frameStart s (some s.rck.k) d := by
  rw [segmentBoundary_runs h hr hd, if_pos]
  rcases hn with hn | hn <;> simp [hn]

theorem segmentBoundary_segment (h : boundaryDue s = true) (hr : s.ftg.realign = false) (hd : s.ftg.decided = some d)
    (hn : d.newFrame = false) (hk : s.rck.k ≠ 15) : segmentBoundary s = segmentNext s (segmentEnd s false) := by
  rw [segmentBoundary_runs h hr hd, if_neg]
  simp [hn, hk]

theorem blocksOff_effects (E : Nat → Prop) (s : State) (p : Nat) : Effects [] E s (blocksOff s p) := ((Effects.refl E s).units (by rfl))

theorem segmentNext_effects (h : Effects [] frameNoise s r) : Effects [] frameNoise s (segmentNext s r) := (h.units (by rfl))

theorem idleBegun_effects (h : Effects [] frameNoise s r) : Effects [] frameNoise s (idleBegun (forN 6 blocksOff r)) := by
  have h1 := h.quiet (.forN (blocksOff_effects _) 6 r)
  generalize forN 6 blocksOff r = z at *
  exact (h1.units (by rfl))

/-- The frame before lasted from its SOF to this one (R390). -/
theorem frameStart_len (s : State) (k : Nat) (d : Decision) :
    (frameStart s (some k) d).ftg.len = (s.tsc - s.ftg.sof) % 2 ^ 32 := by
  rw [(frameStart_begun s (some k) d).len]
  rfl

/-- What the end of a segment without a frame leaves. -/
structure SegmentLeft (s r : State) : Prop where
  frame : r.frame = s.frame
  ftg : r.ftg = s.ftg
  rck : r.rck = s.rck
  cmp : r.cmp = s.cmp
  pins : r.pins = s.pins
  regs : r.regs = s.regs
  img : r.img = s.img

theorem SegmentLeft.of_rest (h : segRest r = segRest s) : SegmentLeft s r where
  frame := (congrArg (·.frame) h :)
  ftg := (congrArg (·.ftg) h :)
  rck := (congrArg (·.rck) h :)
  cmp := (congrArg (·.cmp) h :)
  pins := (congrArg (·.pins) h :)
  regs := (congrArg (·.regs) h :)
  img := (congrArg (·.img) h :)

theorem blocksOff_ftg (n : Nat) (s : State) : (forN n blocksOff s).ftg = s.ftg ∧ (forN n blocksOff s).frame = s.frame ∧
    (forN n blocksOff s).rck.k = s.rck.k :=
  forN_inv (I := fun _ t => t.ftg = s.ftg ∧ t.frame = s.frame ∧ t.rck.k = s.rck.k) ⟨rfl, rfl, rfl⟩ (fun _ _ _ h => h)

end

/-- Settles O32: the frame start's own times and counts, and what a segment's end leaves. -/
theorem boundariesStartFramesOrSegments : Obligations.BoundariesStartFramesOrSegments := by
  unfold Obligations.BoundariesStartFramesOrSegments
  refine ⟨fun s d h hb hr hd hn hk => ?frame, fun s d h hb hr hd hn hk => ?segment, fun s h hb hr => ?idle, fun s h hb => ?none⟩
  case frame =>
    have he := segmentBoundary_frame hb hr hd hn
    have hbeg := frameStart_begun s (some s.rck.k) d
    have hlen := frameStart_len s s.rck.k d
    have heff := frameStart_effects s (some s.rck.k) d
    rw [← he] at hbeg hlen heff
    obtain ⟨t, ht, done⟩ := exec_done (i := .segmentBoundary) (f := segmentBoundary) rfl h heff
    clear he heff
    generalize segmentBoundary s = r at *
    have hf : t.ftg = r.ftg := (congrArg (·.ftg) done.rest :)
    have hrck : t.rck.k = r.rck.k ∧ t.rck.segStart = r.rck.segStart ∧ t.rck.running = r.rck.running :=
      ⟨(congrArg (·.rck.k) done.rest :), (congrArg (·.rck.segStart) done.rest :), (congrArg (·.rck.running) done.rest :)⟩
    obtain ⟨hk0, hseg, hrun⟩ := hrck
    exact ⟨t, ht, (congrArg (·.frame) done.rest :).trans hbeg.frame, by rw [hf, hbeg.sof], by rw [hf, hbeg.line], by rw [hf, hbeg.lineAt],
      by rw [hf, hbeg.decided], by rw [hf, hbeg.kEnd, Option.getD_some], by rw [hf, hlen], by rw [hk0, hbeg.first],
      by rw [hseg, hbeg.segStart], by rw [hrun, hbeg.running], by rw [hf, hbeg.hold],
      (congrArg (·.cmp.latchStamp) done.rest :).trans hbeg.latch,
      (done.tallies _ (by omega) (boundary_tally _) (by unfold frameNoise; omega)).trans (by simp [boundaryTally]),
      (congrArg (·.regs) done.rest :).trans hbeg.regs, (congrArg (·.img) done.rest :).trans hbeg.img,
      (congrArg (·.thm) done.rest :).trans hbeg.thm, (congrArg (·.pwr) done.rest :).trans hbeg.pwr,
      (congrArg (·.boot) done.rest :).trans hbeg.boot, (congrArg (·.glb) done.rest :).trans hbeg.glb, done.memory⟩
  case segment =>
    have he := segmentBoundary_segment hb hr hd hn hk
    have heff := segmentNext_effects (segmentEnd_work s false).effects
    have hleft : SegmentLeft s (segmentEnd s false) := .of_rest (segmentEnd_work s false).keeps
    have hshut {i : Nat} (hi : i < 24) := segmentEnd_shut s false hi
    rw [← he] at heff
    obtain ⟨t, ht, done⟩ := exec_done (i := .segmentBoundary) (f := segmentBoundary) rfl h heff
    have hslots : SlotsKept (segmentBoundary s) t := slotsKept_stable.done (i := .segmentBoundary) (f := segmentBoundary) rfl h heff ht
    rw [he] at done hslots
    clear he heff
    generalize segmentEnd s false = r at *
    exact ⟨t, ht, (congrArg (·.frame) done.rest :).trans hleft.frame,
      (congrArg (·.ftg) done.rest :).trans (congrArg (fun f : Ftg => { f with decided := none }) hleft.ftg),
      (congrArg (·.rck.k) done.rest :), (congrArg (·.rck.segStart) done.rest :), done.pins.of_pins hleft.pins,
      fun i hi => (hslots.window hi).trans (hshut hi), (congrArg (·.regs) done.rest :).trans hleft.regs,
      (congrArg (·.img) done.rest :).trans hleft.img, (congrArg (·.cmp) done.rest :).trans hleft.cmp, done.memory⟩
  case idle =>
    have he := segmentBoundary_idles hb hr
    have heff := idleBegun_effects (segmentEnd_work s false).effects
    have hleft : SegmentLeft s (segmentEnd s false) := .of_rest (segmentEnd_work s false).keeps
    obtain ⟨-, hframe, hk⟩ := blocksOff_ftg 6 (segmentEnd s false)
    rw [← he] at heff
    obtain ⟨t, ht, done⟩ := exec_done (i := .segmentBoundary) (f := segmentBoundary) rfl h heff
    rw [he] at done
    clear he heff
    generalize forN 6 blocksOff (segmentEnd s false) = r at *
    generalize segmentEnd s false = x at *
    refine ⟨t, ht, (congrArg (·.ftg.idling) done.rest :), (congrArg (·.ftg.realign) done.rest :),
      ((congrArg (·.frame) done.rest :).trans hframe).trans hleft.frame, ((congrArg (·.rck.k) done.rest :).trans hk).trans ?_⟩
    exact congrArg Rck.k hleft.rck
  case none => exact exec_unit_same (i := .segmentBoundary) rfl h (segmentBoundary_none hb)

end Sys2Proof.Machine
end


section
/-! A GO of host boot over a register that holds more than its writable fields (R18, R522). -/

namespace Sys2Proof.Machine

theorem writeEffect_bootCtrl (s : State) (v : Nat) (ok : Bool) (h : bitAt v 31 = true) :
    writeEffect s 0x5C v ok = hostBootGo (plainWrite s 0x5C v) v ok := if_pos h

/-- A body of length 0 is out of range (R522). -/
theorem bodyCheck_empty (s : State) : bodyCheck s 0 = some .outOfRange := by
  unfold bodyCheck
  extract_lets r
  exact if_pos (.inl (by decide))

theorem hostBootGo_empty {s : State} {v : Nat} (h : bits v 22 0 = 0) (ok : Bool) :
    hostBootGo s v ok = { s with boot := { s.boot with result := Status.outOfRange.code } } := by
  rw [hostBootGo, h, bodyCheck_empty]

/-- The ROM waits for host boot, and GLB_BOOT_CTRL holds a bit that no write gives it. -/
def waitingRom : State :=
  { boot := { stage := 15 }
    hmi := { linkUp := true }
    regs := [(0x5C, 0x80000000)] }

theorem awake_waitingRom : Awake waitingRom := ⟨⟨rfl, rfl, noWait_nil rfl⟩, by decide⟩

/-- What the GO leaves: the bit outside the writable fields stands (R18). -/
theorem waitingRom_written : (plainWrite waitingRom 0x5C 0x80000000).regs = [(0x5C, 0x80000000)] := by decide

theorem exec_hostBootGo_waitingRom : exec (.hostBootGo .pcie 0x80000000 true) waitingRom = .next
    { plainWrite waitingRom 0x5C 0x80000000 with
      boot := { (plainWrite waitingRom 0x5C 0x80000000).boot with result := Status.outOfRange.code } } := by
  refine exec_host_quiet (i := .hostBootGo .pcie 0x80000000 true) rfl awake_waitingRom ?_ awake_waitingRom.toSteady.quiet
  have hw := writeBy_accepted (s := waitingRom) (q := .pcie) (off := 0x5C) (v := 0x80000000) (by decide) (by decide) true
  exact hw.trans ((writeEffect_bootCtrl _ _ _ (by decide)).trans (hostBootGo_empty (by decide) true))

/-- Refutes O13: its first clause gives GLB_BOOT_CTRL the written fields alone, and has no premise that the register holds 0 elsewhere.
In `waitingRom` it holds bit 31, which R18 leaves as it is, and the GO leaves it standing. -/
theorem not_hostBootAndTheFirstFrame : ¬ Obligations.HostBootAndTheFirstFrame := by
  unfold Obligations.HostBootAndTheFirstFrame
  rintro ⟨hgo, -⟩
  obtain ⟨t, ht, hregs, -⟩ := hgo waitingRom .pcie 0x80000000 true awake_waitingRom (by decide) (by decide) (by decide)
  rw [exec_hostBootGo_waitingRom] at ht
  injection ht with ht
  rw [← ht, show ({ plainWrite waitingRom 0x5C 0x80000000 with
      boot := { (plainWrite waitingRom 0x5C 0x80000000).boot with result := Status.outOfRange.code } } : State).regs =
    (plainWrite waitingRom 0x5C 0x80000000).regs from rfl, waitingRom_written] at hregs
  exact absurd hregs (by decide)

end Sys2Proof.Machine
end


section
/-! What a code applied to a bank changes, and what it leaves (R326, R328, R331). -/

namespace Sys2Proof.Machine

/-- What the drive of a bank counts and reports without its number being told: the tallies of the banks, and the windows judged. -/
def codeNoise (n : Nat) : Prop := n = 0x70 ∨ n = 0x71 ∨ (0xA00100 ≤ n ∧ n < 0xA00400)

theorem codeNoise_quiet {s : State} (n : Nat) (hl : n < 256) (h : codeNoise n) : (sourceCfg s n).2.1 = 0 := by
  rcases h with rfl | rfl | h
  · rfl
  · rfl
  · omega

/-- What the drive of a bank keeps: all but the banks, the light tests under way, the outputs and the loop slots. -/
def codeRest (s : State) : State := { calm s with
  lsd := { s.lsd with
    bank := Vector.replicate 12 {}
    pulses := [] }
  pins := {}
  lpe := { s.lpe with slot := Vector.replicate 24 {} } }

theorem codeRest_calm (x : State) : codeRest x = codeRest (calm x) := rfl

/-- A slot as it was, or the slot of bank `b`, cleared. -/
def SlotHeld (b : Nat) (x y : Slot) : Prop := y = x ∨ (x.kind = 1 ∧ x.target = b ∧ y = clearSlot x)

/-- What drives bank `b`, in steps none of which arms it. -/
structure Drives (b : Nat) (s r : State) : Prop where
  effects : Effects [] codeNoise s r
  rest : codeRest r = codeRest s
  pins : PinsDown s r
  others : ∀ q, q ≠ b → bankAt r q = bankAt s q
  rested : rested (bankAt r b) = rested (bankAt s b)
  slots : ∀ i, SlotHeld b (slotAt s i) (slotAt r i)
  armed : (bankAt r b).mode = .armed → (bankAt s b).mode = .armed ∧ r.lsd.pulses = s.lsd.pulses ∧ (bankAt r b).pulse = (bankAt s b).pulse ∧
    r.lpe = s.lpe

section
variable {s r t : State} {b q i : Nat}

theorem SlotHeld.trans {x y z : Slot} (h : SlotHeld b x y) (k : SlotHeld b y z) : SlotHeld b x z := by
  rcases h with rfl | ⟨hk, ht, rfl⟩
  · exact k
  · rcases k with rfl | ⟨-, -, rfl⟩
    · exact .inr ⟨hk, ht, rfl⟩
    · exact .inr ⟨hk, ht, rfl⟩

theorem Drives.refl (s : State) : Drives b s s where
  effects := .refl _ s
  rest := rfl
  pins := .same rfl
  others _ _ := rfl
  rested := rfl
  slots _ := .inl rfl
  armed h := ⟨h, rfl, rfl, rfl⟩

theorem Drives.trans (h : Drives b s r) (k : Drives b r t) : Drives b s t where
  effects := h.effects.quiet k.effects
  rest := k.rest.trans h.rest
  pins := h.pins.trans k.pins
  others q hq := (k.others q hq).trans (h.others q hq)
  rested := k.rested.trans h.rested
  slots i := (h.slots i).trans (k.slots i)
  armed ha := by
    obtain ⟨h1, h2, h3, h4⟩ := k.armed ha
    obtain ⟨k1, k2, k3, k4⟩ := h.armed h1
    exact ⟨k1, h2.trans k2, h3.trans k3, h4.trans k4⟩

theorem Drives.ite (c : Prop) [Decidable c] (h : Drives b s r) (k : Drives b s t) : Drives b s (if c then r else t) := by split <;> assumption

/-- A step that changes nothing but what recording changes. -/
theorem Drives.of_calm (hc : calm r = calm s) (he : Effects [] codeNoise s r) : Drives b s r where
  effects := he
  rest := by rw [codeRest_calm r, hc, ← codeRest_calm]
  pins := .same (calm_eq (·.pins) hc)
  others q _ := bankAt_of_calm hc q
  rested := by rw [bankAt_of_calm hc b]
  slots i := .inl (calm_eq (fun x => slotAt x i) hc)
  armed ha := by
    rw [bankAt_of_calm hc b] at ha ⊢
    exact ⟨ha, calm_eq (·.lsd.pulses) hc, rfl, calm_eq (·.lpe) hc⟩

theorem Drives.report (h : Drives b s r) (q : Report) (hq : q.source = 0x70 ∨ q.source = 0x71) (hi : q.injected = false := by rfl)
    (hn : q.reactionAs = none := by rfl) : Drives b s (Machine.report r q) :=
  h.trans (.of_calm (calm_report _ _) ((report_adds (E := codeNoise) r q (by omega) hi hn).effects.drop (fun n hm => by
    rw [List.mem_singleton.mp hm]
    exact hq.elim .inl (fun h => .inr (.inl h)))))

theorem Drives.bump (h : Drives b s r) (hb : b < 12) {k : Nat} (hk : k < 0x40) : Drives b s (Machine.bump r (bankBase b + k)) :=
  h.trans (.of_calm (calm_bump _ _) ((bump_adds (E := codeNoise) r (unitTally_bank b k) (bankBase_big b k)).effects.drop (fun n hm => by
    rw [List.mem_singleton.mp hm]
    exact .inr (.inr (by unfold bankBase; omega)))))

theorem Drives.emit (h : Drives b s r) (o : Output) : Drives b s (Machine.emit r o) :=
  h.trans (.of_calm (calm_emit r o) (emit_adds r o).effects)

/-- The bank alone changes, and is not armed by it. -/
theorem modBank_drives (s : State) (b : Nat) {f : Bank → Bank} (hr : ∀ x, Machine.rested (f x) = Machine.rested x)
    (hm : ∀ x, (f x).mode = .armed → x.mode = .armed ∧ (f x).pulse = x.pulse) : Drives b s (modBank s b f) where
  effects := modBank_effects s b f
  rest := rfl
  pins := .same rfl
  others _ hq := bankAt_modBank_ne hq f
  rested := by
    by_cases hb : b < 12
    · rw [bankAt_modBank_same hb, hr]
    · rw [modBank, vmod_beyond _ hb]
  slots _ := .inl rfl
  armed ha := by
    have hb : b < 12 := bank_lt (s := modBank s b f) (fun h => by rw [h] at ha; cases ha)
    rw [bankAt_modBank_same hb] at ha ⊢
    exact ⟨(hm _ ha).1, rfl, (hm _ ha).2, rfl⟩

/-! ### The bank goes to OPEN -/

theorem slotAt_modSlot (s : State) (i j : Nat) (f : Slot → Slot) :
    slotAt (modSlot s i f) j = if i = j ∧ i < 24 then f (slotAt s j) else slotAt s j := by
  unfold slotAt modSlot
  by_cases hi : i < 24
  · by_cases hj : i = j
    · subst hj
      rw [vget_vmod_same _ hi, if_pos ⟨rfl, hi⟩]
    · rw [vget_vmod_ne _ hj, if_neg (fun h => hj h.1)]
  · rw [vmod_beyond _ hi, if_neg (fun h => hi h.2)]

/-- The slot of a bank is of KIND 1, and serves it (R345). -/
theorem bankSlot_serves (h : bankSlot s b = some i) : i < 24 ∧ (slotAt s i).kind = 1 ∧ (slotAt s i).target = b := by
  unfold bankSlot firstN at h
  have hp := List.find?_some h
  simp only [Bool.and_eq_true, beq_iff_eq] at hp
  exact ⟨List.mem_range.mp (List.mem_of_find?_eq_some h), hp.1, hp.2⟩

theorem clearBankSlot_slots (s : State) (b j : Nat) : SlotHeld b (slotAt s j) (slotAt (clearBankSlot s b) j) := by
  unfold clearBankSlot
  split
  · rename_i i hi
    obtain ⟨-, hk, ht⟩ := bankSlot_serves hi
    rw [slotAt_modSlot]
    split
    · rename_i hij
      obtain ⟨rfl, -⟩ := hij
      exact .inr ⟨hk, ht, rfl⟩
    · exact .inl rfl
  · exact .inl rfl

theorem clearBankSlot_rest (s : State) (b : Nat) : codeRest (clearBankSlot s b) = codeRest s := by
  unfold clearBankSlot
  split <;> rfl

theorem bankLeave_rest (s : State) (b : Nat) : codeRest (bankLeave s b) = codeRest s := by
  rw [bankLeave_eq, clearBankSlot_rest]
  split <;> rfl

theorem bankLeave_slots (s : State) (b j : Nat) : SlotHeld b (slotAt s j) (slotAt (bankLeave s b) j) := by
  rw [bankLeave_eq]
  have h := clearBankSlot_slots (if (bankAt s b).linkRun then sendDrive (bankDark s b) b 0 else bankDark s b) b j
  have he : slotAt (if (bankAt s b).linkRun then sendDrive (bankDark s b) b 0 else bankDark s b) j = slotAt s j := by split <;> rfl
  rwa [he] at h

theorem setBank_opened (s : State) (b c : Nat) : setBank s b .opened c =
    postBank (if (bankAt s b).mode == .armed then bankLeave (bankMark s b .opened c) b else bankMark s b .opened c) b (bankAt s b).mode := by
  unfold setBank
  have hm : ((bankAt s b).mode == .armed && BankMode.opened != .armed) = ((bankAt s b).mode == .armed) := Bool.and_true _
  rw [hm]
  rfl

theorem opened_drives (s : State) (b c : Nat) : Drives b s (setBank s b .opened c) where
  effects := setBank_effects s b _ c
  rest := by
    rw [setBank_opened, codeRest_calm, calm_postBank, ← codeRest_calm]
    split
    · exact bankLeave_rest _ b
    · rfl
  pins := (setBank_reacts s b _ c).pins
  others _ hq := bankAt_setBank_ne hq _ c
  rested := by
    by_cases hb : b < 12
    · rw [bankAt_setBank_same hb, marked_rested]
    · rw [bankAt_of_lsd (b := modBank s b (marked s.tsc .opened c)) (setBank_bank s b _ c), modBank, vmod_beyond _ hb]
  slots j := by
    rw [setBank_opened, show slotAt (postBank _ b _) j = slotAt _ j from calm_eq (fun x => slotAt x j) (calm_postBank _ _ _)]
    split
    · exact bankLeave_slots _ b j
    · exact .inl rfl
  armed ha := by
    have hb : b < 12 := bank_lt (s := setBank s b .opened c) (fun h => by rw [h] at ha; cases ha)
    rw [bankAt_setBank_same hb] at ha
    cases ha

/-! ### A window ends -/

theorem judged_drives (s : State) {b : Nat} (hb : b < 12) (high opn : Bool) : Drives b s (judged s b high opn) := by
  have h1 : Drives b s (modBank s b (judgedBank s.tsc high opn)) :=
    modBank_drives s b (fun _ => rfl) (fun _ h => ⟨h, rfl⟩)
  exact .ite _ (h1.bump hb (by decide)) h1

theorem judgeWindow_drives (s : State) {b : Nat} (hb : b < 12) (high opn : Bool) : Drives b s (judgeWindow s b high opn) := by
  have h1 := judged_drives s hb high opn
  have ho (c : Nat) : Drives b s (openBank (judged s b high opn) b c) := .ite _ (h1.trans (opened_drives _ b c)) h1
  rw [judgeWindow_eq]
  exact .ite _ ((ho 4).report _ (.inl rfl)) (.ite _ ((ho 5).report _ (.inr rfl)) h1)

theorem endWindow_drives (s : State) {b : Nat} (hb : b < 12) : Drives b s (endWindow s b) :=
  .ite _ (judgeWindow_drives s hb _ _) (.refl s)

/-! ### The code -/

/-- What applying a code leaves of a bank that is ARMED. -/
theorem applyCode_drives (s : State) (b : Nat) (force : Bool) : Drives b s (applyCode s b force) := by
  unfold applyCode
  split
  · rename_i hm
    have hb : b < 12 := bank_lt (fun h => by rw [h] at hm; cases hm)
    extract_lets r s1 s2
    have h1 : Drives b s s1 := .ite _ ((Drives.refl s).bump hb (by decide)) (.refl s)
    have h2 : Drives b s s2 := .ite _ h1 (h1.trans (endWindow_drives _ hb))
    have hc : Drives b s (modBank s2 b (coded s.tsc r.1)) := h2.trans (modBank_drives s2 b (fun _ => rfl) (fun _ h => ⟨h, rfl⟩))
    exact .ite _ (.ite _ (.ite _ (h2.emit _) h2) (hc.emit _)) h2
  · exact .refl s

/-- A bank that stays ARMED carries the code in force. -/
theorem applyCode_code (force : Bool) (h : (bankAt (applyCode s b force) b).mode = .armed) :
    (bankAt (applyCode s b force) b).code = (codeInForce s b).1 := by
  have hs : (bankAt s b).mode = .armed := ((applyCode_drives s b force).armed h).1
  have hb : b < 12 := bank_lt (fun h => by rw [h] at hs; cases hs)
  unfold applyCode at h ⊢
  rw [if_pos (by rw [hs]; rfl)] at h ⊢
  extract_lets r s1 s2 at h ⊢
  have hr : r = codeInForce s b := rfl
  clear_value s2 r
  subst hr
  by_cases ha : (bankAt s2 b).mode = .armed
  · rw [if_pos (by rw [ha]; rfl)] at h ⊢
    by_cases hc : (codeInForce s b).1 = (bankAt s2 b).code
    · rw [if_pos hc] at h ⊢
      have he : bankAt (if force then sendDrive s2 b (codeInForce s b).1 else s2) b = bankAt s2 b := by split <;> rfl
      rw [he, hc]
    · rw [if_neg hc] at h ⊢
      show (bankAt (modBank s2 b _) b).code = _
      rw [bankAt_modBank_same hb]
  · rw [if_neg (by simpa using ha)] at h
    exact absurd h ha

end
end Sys2Proof.Machine
end


section
/-! A level put in force on a primary: what each of its banks carries then (R264, R328). -/

namespace Sys2Proof.Machine

section
variable {s r t : State} {b q i : Nat}

/-! ### The code in force on a bank rests on the bank, its slot and what no drive changes -/

theorem SlotHeld.kind {x y : Slot} (h : SlotHeld q x y) : y.kind = x.kind := by
  rcases h with rfl | ⟨-, -, rfl⟩ <;> rfl

theorem SlotHeld.target {x y : Slot} (h : SlotHeld q x y) : y.target = x.target := by
  rcases h with rfl | ⟨-, -, rfl⟩ <;> rfl

theorem bankSlot_of_slots (h : ∀ i, (slotAt t i).kind = (slotAt s i).kind ∧ (slotAt t i).target = (slotAt s i).target) (b : Nat) :
    bankSlot t b = bankSlot s b := by
  have hp : (fun i => (slotAt t i).kind == 1 && (slotAt t i).target == b) = fun i => (slotAt s i).kind == 1 && (slotAt s i).target == b :=
    funext fun i => by rw [(h i).1, (h i).2]
  exact congrArg (firstN 24) hp

theorem Drives.bankSlot (h : Drives q s r) (b : Nat) : bankSlot r b = bankSlot s b :=
  bankSlot_of_slots (fun i => ⟨(h.slots i).kind, (h.slots i).target⟩) b

/-- The slot of another bank is left alone. -/
theorem Drives.slot_other (h : Drives q s r) (ht : (slotAt s i).target ≠ q) : slotAt r i = slotAt s i := by
  rcases h.slots i with he | ⟨-, hq, -⟩
  · exact he
  · exact absurd hq ht

theorem Drives.trim_other (h : Drives q s r) (hb : b ≠ q) : bankTrim r b = bankTrim s b := by
  unfold bankTrim
  rw [h.bankSlot b]
  split
  · rfl
  · rename_i i hi
    obtain ⟨-, -, ht⟩ := bankSlot_serves hi
    have he := h.slot_other (by rw [ht]; exact hb)
    exact congrArg (fun x : Slot => (x.out + 32768) / 65536) he

theorem codeRest_lsd (h : codeRest t = codeRest s) : t.lsd.level = s.lsd.level ∧ t.lsd.k = s.lsd.k ∧ t.lsd.f = s.lsd.f ∧ cfg t = cfg s :=
  ⟨congrArg (·.lsd.level) h, congrArg (·.lsd.k) h, congrArg (·.lsd.f) h, (congrArg (fun x : State => cfg x) h :)⟩

theorem appliedCode_of_rest (h : codeRest t = codeRest s) (hb : bankAt t b = bankAt s b) (l : Nat) (trim : Int) :
    appliedCode t b l trim = appliedCode s b l trim := by
  obtain ⟨-, hk, hf, hc⟩ := codeRest_lsd h
  unfold appliedCode bankScale ceilingOf
  rw [hb, hk, hf, hc]

theorem codeInForce_of_rest (h : codeRest t = codeRest s) (hb : bankAt t b = bankAt s b) (ht : bankTrim t b = bankTrim s b) :
    codeInForce t b = codeInForce s b := by
  obtain ⟨hl, -⟩ := codeRest_lsd h
  simp only [codeInForce, bankLevel, hb, ht, hl, appliedCode_of_rest h hb]

theorem bankEnabled_of_rest (h : codeRest t = codeRest s) (b : Nat) : bankEnabled t b = bankEnabled s b := by
  obtain ⟨-, -, -, hc⟩ := codeRest_lsd h
  simp only [bankEnabled, hc]

/-! ### A level -/

/-- A level is in force on a primary. -/
def levelSet (s : State) (c : Nat) (l : Option Nat) : State := { s with lsd := { s.lsd with level := s.lsd.level.set c l } }

/-- An enabled bank of the primary takes its code. -/
def levelStep (c : Nat) (s : State) (b : Nat) : State := if bankEnabled s b && (bankAt s b).prim == c then applyCode s b true else s

theorem levelBead_eq (s : State) (c : Nat) (l : Option Nat) : levelBead s c l = forN 12 (levelStep c) (levelSet s c l) := rfl

/-- The first `n` banks have taken the code in force on the primary. -/
structure LevelTaken (c : Nat) (s : State) (n : Nat) (t : State) : Prop where
  effects : Effects [] codeNoise s t
  rest : codeRest t = codeRest s
  pins : PinsDown s t
  untouched : ∀ b, n ≤ b ∨ bankEnabled s b = false ∨ (bankAt s b).prim ≠ c → bankAt t b = bankAt s b
  trims : ∀ b, n ≤ b → bankTrim t b = bankTrim s b
  codes : ∀ b, b < n → bankEnabled s b = true → (bankAt s b).prim = c → (bankAt t b).mode = .armed → (bankAt t b).code = (codeInForce s b).1

theorem levelStep_drives (c : Nat) (s : State) (b : Nat) : Drives b s (levelStep c s b) := .ite _ (applyCode_drives s b true) (.refl s)

theorem LevelTaken.step {c n : Nat} (h : LevelTaken c s n t) : LevelTaken c s (n + 1) (levelStep c t n) := by
  have hd := levelStep_drives c t n
  have hbank : bankAt t n = bankAt s n := h.untouched n (.inl (Nat.le_refl n))
  have hen : bankEnabled t n = bankEnabled s n := bankEnabled_of_rest h.rest n
  refine
    { effects := h.effects.quiet hd.effects
      rest := hd.rest.trans h.rest
      pins := h.pins.trans hd.pins
      untouched := fun b hb => ?_
      trims := fun b hb => (hd.trim_other (by omega)).trans (h.trims b (by omega))
      codes := fun b hb he hp ha => ?_ }
  · by_cases hbn : b = n
    · subst hbn
      have hno : (bankEnabled t b && (bankAt t b).prim == c) = false := by
        rw [hen, hbank]
        rcases hb with hb | hb | hb
        · omega
        · rw [hb, Bool.false_and]
        · simp [hb]
      rw [levelStep, if_neg (by rw [hno]; decide), hbank]
    · rw [hd.others b hbn, h.untouched b (hb.imp_left Nat.le_of_succ_le)]
  · by_cases hbn : b = n
    · subst hbn
      have hyes : (bankEnabled t b && (bankAt t b).prim == c) = true := by rw [hen, hbank, he, hp]; simp
      rw [levelStep, if_pos hyes] at ha ⊢
      rw [applyCode_code true ha, codeInForce_of_rest h.rest hbank (h.trims b (Nat.le_refl b))]
    · rw [hd.others b hbn] at ha ⊢
      exact h.codes b (by omega) he hp ha

theorem levelBead_taken (s : State) (c : Nat) (l : Option Nat) : LevelTaken c (levelSet s c l) 12 (levelBead s c l) := by
  rw [levelBead_eq]
  refine forN_inv (I := LevelTaken c (levelSet s c l)) ?_ (fun _ _ _ h => h.step)
  exact
    { effects := .refl _ _
      rest := rfl
      pins := .same rfl
      untouched := fun _ _ => rfl
      trims := fun _ _ => rfl
      codes := fun _ hb => absurd hb (Nat.not_lt_zero _) }

theorem levelSet_effects (E : Nat → Prop) (s : State) (c : Nat) (l : Option Nat) : Effects [] E s (levelSet s c l) := ((Effects.refl E s).units (by rfl))

end
end Sys2Proof.Machine
end


section
/-! Beads: when they are issued, what a store error and a late issue make of them (R263 to R269, R288). -/

namespace Sys2Proof.Machine

section
variable {s r t : State} {i : Instr} {how : BeadCome} {b d : Bead} {late f : State → State} {p : Nat}

/-! ### The event of a bead -/

/-- What a bead does where it is issued. -/
def beadActs (s : State) (how : BeadCome) (b : Bead) (late f : State → State) : State :=
  match how with
  | .effect => f (noteIssue s .effect b)
  | .late => late (noteIssue s .late b)
  | .corrected => report s { source := 0x50, address := beadOffset s b }
  | .uncorrectable => report (noteIssue s .uncorrectable b) { source := 0x51, address := beadOffset s b }

/-- The operation of a bead's event. -/
def beadRun (how : BeadCome) (b : Bead) (late f : State → State) (s : State) : State :=
  if beadDue s how b then beadActs s how b late f else s

theorem bead_eq (s : State) (how : BeadCome) (b : Bead) (late f : State → State) :
    bead s how b late f = event s (beadRun how b late f) := by
  unfold bead
  congr 1
  funext s
  unfold beadRun beadActs
  cases how <;> rfl

theorem beadRun_due (h : beadDue s how b = true) : beadRun how b late f s = beadActs s how b late f := if_pos h

theorem beadRun_idle (h : beadDue s how b = false) : beadRun how b late f s = s := if_neg (by rw [h]; decide)

/-- What the row of a bead runs when it is late, and at its effect time, by its action. -/
structure BeadRow (i : Instr) (how : BeadCome) (b : Bead) (late f : State → State) : Prop where
  runs : ∀ s, exec i s = .next (event s (beadRun how b late f))
  port : b.action = 1 ∨ b.action = 2 → late = portBead b.target (lateBead b (fun s => containPort s b.target)) ∧ b.target < 6 ∧
    ∃ g, f = portBead b.target g
  loose : 5 ≤ b.action → b.action ≤ 9 ∧ (late = lateBead b id ∨ (b.action = 9 ∧ late = scannerBead (lateBead b id)))

theorem BeadRow.of_port (h : ∀ s, exec i s = .next (bead s how b late f))
    (hl : late = portBead b.target (lateBead b (fun s => containPort s b.target))) (ht : b.target < 6) (hf : ∃ g, f = portBead b.target g)
    (ha : b.action < 5) : BeadRow i how b late f where
  runs s := by rw [h, bead_eq]
  port _ := ⟨hl, ht, hf⟩
  loose h5 := absurd h5 (by omega)

theorem BeadRow.of_middle (h : ∀ s, exec i s = .next (bead s how b late f)) (ha : b.action = 3 ∨ b.action = 4) : BeadRow i how b late f where
  runs s := by rw [h, bead_eq]
  port h1 := absurd h1 (by omega)
  loose h5 := absurd h5 (by omega)

theorem BeadRow.of_other (h : ∀ s, exec i s = .next (bead s how b (lateBead b id) f)) (ha : 5 ≤ b.action ∧ b.action ≤ 9) :
    BeadRow i how b (lateBead b id) f where
  runs s := by rw [h, bead_eq]
  port h1 := absurd h1 (by omega)
  loose _ := ⟨ha.2, .inl rfl⟩

theorem BeadRow.of_scanner (h : ∀ s, exec i s = .next (bead s how b (scannerBead (lateBead b id)) f)) (ha : b.action = 9) :
    BeadRow i how b (scannerBead (lateBead b id)) f where
  runs s := by rw [h, bead_eq]
  port h1 := absurd h1 (by omega)
  loose _ := ⟨by omega, .inr ⟨ha, rfl⟩⟩

theorem beadRow_of (h : beadOfRow i = some (how, b)) : ∃ late f, BeadRow i how b late f := by
  unfold beadOfRow at h
  split at h
  case h_10 => cases h
  all_goals obtain ⟨rfl, rfl⟩ := Prod.mk.inj (Option.some.inj h)
  case h_1 => exact ⟨_, _, .of_port (fun _ => rfl) rfl (Fin.isLt _) ⟨_, rfl⟩ (by show 1 < 5; decide)⟩
  case h_2 => exact ⟨_, _, .of_port (fun _ => rfl) rfl (Fin.isLt _) ⟨_, rfl⟩ (by show 2 < 5; decide)⟩
  case h_3 => exact ⟨_, _, .of_middle (fun _ => rfl) (.inl rfl)⟩
  case h_4 => exact ⟨_, _, .of_middle (fun _ => rfl) (.inr rfl)⟩
  case h_5 => exact ⟨_, _, .of_other (fun _ => rfl) (by show 5 ≤ 5 ∧ 5 ≤ 9; decide)⟩
  case h_6 => exact ⟨_, _, .of_other (fun _ => rfl) (by show 5 ≤ 6 ∧ 6 ≤ 9; decide)⟩
  case h_7 => exact ⟨_, _, .of_other (fun _ => rfl) (by show 5 ≤ 7 ∧ 7 ≤ 9; decide)⟩
  case h_8 => exact ⟨_, _, .of_other (fun _ => rfl) (by show 5 ≤ 8 ∧ 8 ≤ 9; decide)⟩
  case h_9 => exact ⟨_, _, .of_scanner (fun _ => rfl) rfl⟩

/-! ### Reports that the collector has taken -/

theorem Keeps.of_report {q : Report} (h : Keeps (report s q) t) (ht : t.reports = []) : Keeps s t where
  core := h.core
  waits := h.waits
  idle := h.idle
  outs := h.outs
  pending := h.pending
  fatal := h.fatal
  map := h.map
  reports x hx := by rw [ht] at hx; cases hx
  tallies := h.tallies
  fuse := h.fuse
  memory := h.memory

theorem Reacts.of_report {q : Report} (h : Reacts (report s q) t) (ht : t.reports = []) : Reacts s t where
  frame := by
    obtain ⟨o, hm, ta, r, fl, dr, bw, po, ls, pi, lp, pk, rc, hl, rfl⟩ := h.frame
    exact ⟨o, hm, ta, r, fl, dr, bw, po, ls, pi, lp, pk, rc, hl, rfl⟩
  keeps := h.keeps.of_report ht
  pins := ⟨h.pins.laser, h.pins.shutter, h.pins.hl, h.pins.highZ⟩

theorem Records.of_report {q : Report} (h : Records (report s q) t) (ht : t.reports = []) : Records s t where
  frame := by
    obtain ⟨o, hm, ta, r, fl, dr, bw, po, rfl⟩ := h.frame
    exact ⟨o, hm, ta, r, fl, dr, bw, po, rfl⟩
  events := h.events
  keeps := h.keeps.of_report ht

/-! ### Late beads -/

theorem noteIssue_effects (E : Nat → Prop) (s : State) (how : BeadCome) (b : Bead) : Effects [] E s (noteIssue s how b) := ((Effects.refl E s).units (by rfl))

theorem beadLate_effects (E : Nat → Prop) (s : State) (rod time : Nat) : Effects [0x400088, 0x52] E s (beadLate s rod time) :=
  (bump_adds s (off := 0x400088) rfl (by decide)).effects.report { source := 0x52, master := rod, address := time }

theorem calm_beadLate (s : State) (rod time : Nat) : calm (beadLate s rod time) = calm s := (calm_report _ _).trans (calm_bump _ _)

/-! ### The mirror blocks of a port -/

/-- The RESET_BLOCK frame of a port has gone out, and is counted. -/
def resetSent (s : State) (p sh dk : Nat) (ab : Bool) : State :=
  sendFrame (bump (if ab then bump s (portBase p + 0x40) else s) (portBase p + 0x34)) p 0x05 [sh, dk]

/-- What a RESET_BLOCK makes of a block. -/
def resetMirror (now sh b : Nat) (m : MirrorBlock) : MirrorBlock :=
  if bitAt sh b then { m with shows := loadedAt m now } else { m with shows := none }

/-- What a RESET_BLOCK makes of the blocks of a port. -/
def resetMirrors (now sh dk : Nat) (v : Vector MirrorBlock 16) : Vector MirrorBlock 16 :=
  (List.range 16).foldl (fun v b => if bitAt sh b || bitAt dk b then vmod v b (resetMirror now sh b) else v) v

theorem resetBlock_eq (s : State) (p sh dk : Nat) (ab : Bool) : resetBlock s p sh dk ab = { resetSent s p sh dk ab with
    rck := { (resetSent s p sh dk ab).rck with blocks := vmod (resetSent s p sh dk ab).rck.blocks p (resetMirrors s.tsc sh dk) } } := by
  have hf : (fun v : Vector MirrorBlock 16 => (List.range 16).foldl (fun v b =>
      if bitAt sh b then vmod v b (fun m => { m with shows := loadedAt m s.tsc })
      else if bitAt dk b then vmod v b (fun m => { m with shows := none }) else v) v) = resetMirrors s.tsc sh dk := by
    funext v
    unfold resetMirrors
    congr 1
    funext v b
    by_cases h1 : bitAt sh b = true
    · have hm : resetMirror s.tsc sh b = fun m => { m with shows := loadedAt m s.tsc } := funext fun _ => if_pos h1
      simp [h1, hm]
    · have hm : resetMirror s.tsc sh b = fun m => { m with shows := none } := funext fun _ => if_neg h1
      simp [h1, hm]
  unfold resetBlock
  rw [hf]
  rfl

theorem mirror_blocks {x y : State} (h : x.rck.blocks = y.rck.blocks) (p b : Nat) : mirror x p b = mirror y p b := by
  unfold mirror
  rw [h]

theorem calm_resetSent (s : State) (p sh dk : Nat) (ab : Bool) : calm (resetSent s p sh dk ab) = calm s := by
  refine (calm_emit _ _).trans ((calm_bump _ _).trans ?_)
  split
  · exact calm_bump _ _
  · rfl

/-- What a RESET_BLOCK makes of a state, but for what recording changes. -/
theorem calm_resetBlock (s : State) (p sh dk : Nat) (ab : Bool) : calm (resetBlock s p sh dk ab) = calm { s with
    rck := { s.rck with blocks := vmod s.rck.blocks p (resetMirrors s.tsc sh dk) } } := by
  have hc := calm_resetSent s p sh dk ab
  have hr : (resetSent s p sh dk ab).rck = s.rck := (calm_eq (·.rck) hc :)
  rw [resetBlock_eq, hr]
  generalize resetSent s p sh dk ab = x at *
  exact congrArg (fun x : State => { x with rck := { s.rck with blocks := vmod s.rck.blocks p (resetMirrors s.tsc sh dk) } }) hc

theorem mirror_resetBlock (s : State) {p b : Nat} (hp : p < 6) (hb : b < 16) (sh dk : Nat) (ab : Bool) :
    mirror (resetBlock s p sh dk ab) p b = { mirror s p b with
      shows := if bitAt sh b then loadedAt (mirror s p b) s.tsc else if bitAt dk b then none else (mirror s p b).shows } := by
  have hm := calm_eq (fun x => mirror x p b) (calm_resetBlock s p sh dk ab)
  rw [hm]
  unfold mirror
  rw [vget_vmod_same _ hp]
  unfold resetMirrors
  rw [vget_foldl_vmod (fun b => bitAt sh b || bitAt dk b) (fun b => resetMirror s.tsc sh b) _ 16 (Nat.le_refl 16)]
  by_cases h1 : bitAt sh b = true
  · simp [hb, h1, resetMirror]
  · by_cases h2 : bitAt dk b = true <;> simp [hb, h1, h2, resetMirror]

theorem mirror_resetBlock_ne (s : State) {p q : Nat} (hq : q ≠ p) (b sh dk : Nat) (ab : Bool) :
    mirror (resetBlock s p sh dk ab) q b = mirror s q b := by
  rw [calm_eq (fun x => mirror x q b) (calm_resetBlock s p sh dk ab)]
  unfold mirror
  rw [vget_vmod_ne _ (Ne.symm hq)]

theorem resetBlock_effects (E : Nat → Prop) (s : State) (p sh dk : Nat) (ab : Bool) :
    Effects ((if ab then [portBase p + 0x40] else []) ++ [portBase p + 0x34]) E s (resetBlock s p sh dk ab) := by
  have h1 : Effects (if ab then [portBase p + 0x40] else []) E s (if ab then bump s (portBase p + 0x40) else s) := by
    cases ab
    · exact .refl E s
    · exact (bump_adds s (unitTally_port p 0x40) (portBase_big p 0x40)).effects
  have h2 : Effects _ E s (resetSent s p sh dk ab) := (h1.adds (bump_adds _ (unitTally_port p 0x34) (portBase_big p 0x34))).emit _
  rw [resetBlock_eq]
  generalize resetSent s p sh dk ab = x at *
  exact (h2.units (by rfl))

theorem resetBlock_sends (s : State) (p sh dk : Nat) (ab : Bool) : Output.plkFrame p 0x05 [sh, dk] ∈ (resetBlock s p sh dk ab).outs := by
  rw [resetBlock_eq]
  exact List.mem_cons_self

/-- A port is contained: every block is off, by a RESET_BLOCK. -/
def contained (s : State) (p : Nat) : State := { s with rck := { s.rck with containPorts := s.rck.containPorts ||| 2 ^ p } }

theorem containPort_eq (s : State) (p : Nat) : containPort s p = contained (resetBlock s p 0 0xFFFF false) p := rfl

theorem containPort_effects (E : Nat → Prop) (s : State) (p : Nat) : Effects [portBase p + 0x34] E s (containPort s p) := by
  have h1 : Effects [portBase p + 0x34] E s (resetBlock s p 0 0xFFFF false) := resetBlock_effects E s p 0 0xFFFF false
  rw [containPort_eq]
  generalize resetBlock s p 0 0xFFFF false = x at *
  exact (h1.units (by rfl))

theorem containPort_sends (s : State) (p : Nat) : Output.plkFrame p 0x05 [0, 0xFFFF] ∈ (containPort s p).outs :=
  resetBlock_sends s p 0 0xFFFF false

theorem containPort_contained (s : State) (p : Nat) : portContained (containPort s p) p = true := by
  show bitAt ((resetBlock s p 0 0xFFFF false).rck.containPorts ||| 2 ^ p) p = true
  rw [bitAt_or_pow, decide_eq_true rfl, Bool.or_true]

theorem containPort_off (s : State) {p b : Nat} (hp : p < 6) (hb : b < 16) : (mirror (containPort s p) p b).shows = none := by
  have hf : bitAt 0xFFFF b = true := by
    interval_cases b <;> rfl
  have hm : mirror (containPort s p) p b = mirror (resetBlock s p 0 0xFFFF false) p b := rfl
  rw [hm, mirror_resetBlock s hp hb, bitAt_zero, hf]
  rfl

theorem calm_containPort (s : State) (p : Nat) : calm (containPort s p) = calm { s with rck := (containPort s p).rck } := by
  have hc := calm_resetBlock s p 0 0xFFFF false
  rw [containPort_eq]
  generalize resetBlock s p 0 0xFFFF false = x at *
  exact congrArg (fun y : State => { y with rck := { x.rck with containPorts := x.rck.containPorts ||| 2 ^ p } }) hc

end
end Sys2Proof.Machine
end


section
/-! Beads that are due: store errors, and late ones with what they contain (R265, R269, R288). -/

namespace Sys2Proof.Machine

section
variable {s r t : State} {i : Instr} {how : BeadCome} {b d : Bead} {late f : State → State} {c p : Nat} {E : Nat → Prop}

/-! ### What stays as a bead is issued -/

theorem portBead_acts (h : takesBeads s p = true) (hc : portContained s p = false) (g : State → State) : portBead p g s = g s := by
  unfold portBead
  rw [h, hc]
  rfl

theorem portBead_contained (h : takesBeads s p = true) (hc : portContained s p = true) (g : State → State) : portBead p g s = s := by
  unfold portBead
  rw [h, hc]
  rfl

theorem portBead_discards (h : takesBeads s p = false) (g : State → State) : portBead p g s = discardBead s := by
  unfold portBead
  rw [h]
  rfl

/-- The operation of a late bead, where it is due. -/
theorem beadRun_late (h : beadDue s .late b = true) : beadRun .late b late f s = late (noteIssue s .late b) := beadRun_due h

theorem beadRun_effect (h : beadDue s .effect b = true) : beadRun .effect b late f s = f (noteIssue s .effect b) := beadRun_due h

/-- Late beads count, and are reported, once. -/
structure LateTold (s t : State) : Prop where
  discarded : tally t 0x400088 = min (tally s 0x400088 + 1) tallyMax
  told : counted s t 0x52

theorem Done.lateTold {C : List Nat} (h : Done C E s r t) (hC : C.count 0x400088 = 1) (hS : C.count 0x52 = 1) (h4 : ¬ E 0x400088) (h5 : ¬ E 0x52) :
    LateTold s t where
  discarded := by rw [h.tallies 0x400088 (by decide) rfl h4, hC]
  told := h.counted 0x52 (by decide) (by decide) h5 hS

/-! ### A late bead of a port -/

/-- A port that is late is contained. -/
theorem lateBead_effects (E : Nat → Prop) (s : State) (b : Bead) (p : Nat) :
    Effects ([0x400088, 0x52] ++ [portBase p + 0x34]) E s (lateBead b (fun s => containPort s p) s) :=
  (beadLate_effects E s b.rod b.time).trans (containPort_effects E _ p)

theorem portTally_apart (p : Nat) {n : Nat} (h : n < 0x800000) : portBase p + 0x34 ≠ n := by
  unfold portBase
  omega

theorem count_late (p : Nat) {n : Nat} (h : n < 0x800000) : ([0x400088, 0x52] ++ [portBase p + 0x34]).count n = [0x400088, 0x52].count n := by
  rw [List.count_append, List.count_cons_of_ne (portTally_apart p h), List.count_nil, Nat.add_zero]

theorem late_quiet {n : Nat} (hn : n ∈ [0x400088, 0x52] ++ [portBase p + 0x34]) (hl : n < 256) : (sourceCfg s n).2.1 = 0 := by
  simp only [List.mem_append, List.mem_cons, List.not_mem_nil, or_false] at hn
  rcases hn with (rfl | rfl) | rfl
  · omega
  · rfl
  · exact absurd hl (by unfold portBase; omega)

theorem late_told_quiet (n : Nat) (hn : n ∈ [0x400088, 0x52]) (hl : n < 256) : (sourceCfg s n).2.1 = 0 := by
  rcases List.mem_pair.mp hn with rfl | rfl
  · omega
  · rfl

/-! ### A late LEVEL -/

theorem primaryBead_acts (h : bitAt s.rck.containPrims c = false) (g : State → State) : primaryBead c g s = g s := if_neg (by rw [h]; decide)

theorem primaryBead_held (h : bitAt s.rck.containPrims c = true) (g : State → State) : primaryBead c g s = s := if_pos h

/-- A primary is contained. -/
def primaryContained (s : State) (c : Nat) : State := { s with rck := { s.rck with containPrims := s.rck.containPrims ||| 2 ^ c } }

theorem containPrimary_eq (s : State) (c : Nat) : containPrimary s c = primaryContained (levelBead s c none) c := rfl

theorem containPrimary_effects (s : State) (c : Nat) : Effects [] codeNoise s (containPrimary s c) := by
  have h1 := (levelSet_effects codeNoise s c none).quiet (levelBead_taken s c none).effects
  rw [containPrimary_eq]
  generalize levelBead s c none = x at *
  exact (h1.units (by rfl))

theorem containPrimary_level (s : State) (c : Nat) : (containPrimary s c).lsd.level = s.lsd.level.set c none := by
  obtain ⟨hl, -⟩ := codeRest_lsd (levelBead_taken s c none).rest
  exact hl

theorem containPrimary_contains (s : State) (c : Nat) : bitAt (containPrimary s c).rck.containPrims c = true := by
  show bitAt ((levelBead s c none).rck.containPrims ||| 2 ^ c) c = true
  rw [bitAt_or_pow, decide_eq_true rfl, Bool.or_true]

/-! ### A late WINDOW -/

/-- A slot holds until the next frame start. -/
def slotLate (x : Slot) : Slot :=
  { x with
    window := false
    late := true }

theorem windowLate_eq (s : State) (mask : Nat) : windowLate s mask = forMask 24 mask (fun s i => modSlot s i slotLate) s := rfl

/-- A change of some of the slots changes nothing else. -/
theorem forMask_modSlot (f : Slot → Slot) (mask : Nat) (s : State) : ∃ v, forMask 24 mask (fun s i => modSlot s i f) s =
    { s with lpe := { s.lpe with slot := v } } ∧ ∀ i, i < 24 → vget v i {} = if bitAt mask i then f (slotAt s i) else slotAt s i := by
  have h := forN_inv (N := 24) (f := fun s i => if bitAt mask i then modSlot s i f else s) (s := s) (I := fun n t => ∃ v, t =
    { s with lpe := { s.lpe with slot := v } } ∧ ∀ i, i < 24 → vget v i {} = if i < n ∧ bitAt mask i = true then f (slotAt s i) else slotAt s i)
    ⟨s.lpe.slot, rfl, fun i _ => by rw [if_neg (fun h => absurd h.1 (Nat.not_lt_zero i))]; rfl⟩ ?_
  · obtain ⟨v, hv, hi⟩ := h
    refine ⟨v, hv, fun i hl => ?_⟩
    rw [hi i hl]
    simp only [hl, true_and]
  · rintro n t hn ⟨v, rfl, hv⟩
    by_cases hb : bitAt mask n = true
    · rw [if_pos hb]
      refine ⟨vmod v n f, rfl, fun i hl => ?_⟩
      by_cases hin : n = i
      · subst hin
        rw [vget_vmod_same _ hl, hv n hl, if_neg (fun h => absurd h.1 (Nat.lt_irrefl n)), if_pos ⟨Nat.lt_succ_self n, hb⟩]
      · rw [vget_vmod_ne _ hin, hv i hl]
        have : i < n + 1 ↔ i < n := by omega
        simp only [this]
    · rw [if_neg hb]
      refine ⟨v, rfl, fun i hl => ?_⟩
      rw [hv i hl]
      by_cases hin : i = n
      · subst hin
        simp [hb]
      · have : i < n + 1 ↔ i < n := by omega
        simp only [this]

/-- Slots are contained. -/
def slotsContained (s : State) (mask : Nat) : State := { s with rck := { s.rck with containSlots := s.rck.containSlots ||| mask } }

theorem containSlots_eq (s : State) (mask : Nat) : containSlots s mask = slotsContained (windowLate s mask) mask := rfl

theorem containSlots_parts (s : State) (mask : Nat) : ∃ v, containSlots s mask = slotsContained { s with lpe := { s.lpe with slot := v } } mask ∧
    ∀ i, i < 24 → vget v i {} = if bitAt mask i then slotLate (slotAt s i) else slotAt s i := by
  obtain ⟨v, hv, hi⟩ := forMask_modSlot slotLate mask s
  exact ⟨v, by rw [containSlots_eq, windowLate_eq, hv], hi⟩

theorem containSlots_effects (E : Nat → Prop) (s : State) (mask : Nat) : Effects [] E s (containSlots s mask) := by
  obtain ⟨v, hv, -⟩ := containSlots_parts s mask
  rw [hv]
  exact ((Effects.refl E s).units (by rfl))

/-! ### The events -/

theorem exec_level (rod : Fin 64) (tm : BitVec 32) (how : BeadCome) (c : Fin 3) (l : Option (Fin 16)) (s : State) :
    exec (.level rod tm how c l) s = .next (event s (beadRun how (levelRow rod tm c l)
      (primaryBead c.val (lateBead (levelRow rod tm c l) (fun s => containPrimary s c.val)))
      (primaryBead c.val (fun s => levelBead s c.val (l.map (·.val)))))) := congrArg Host.Outcome.next (bead_eq s _ _ _ _)

theorem exec_window (rod : Fin 64) (tm : BitVec 32) (how : BeadCome) (m : BitVec 24) (o : Bool) (s : State) :
    exec (.window rod tm how m o) s = .next (event s (beadRun how (windowRow rod tm m o)
      (lateBead (windowRow rod tm m o) (fun s => containSlots s m.toNat)) (fun s => windowBead s m.toNat o))) :=
  congrArg Host.Outcome.next (bead_eq s _ _ _ _)

theorem exec_bead_corrected (row : BeadRow i .corrected b late f) (h : Live s) (hd : beadDue s .corrected b = true) :
    ∃ t, exec i s = .next t ∧ counted s t 0x50 ∧ Records s t := by
  have hr : beadRun .corrected b late f s = report s { source := 0x50, address := beadOffset s b } := beadRun_due hd
  obtain ⟨t, ht, done⟩ := exec_done (row.runs s) h (C := [0x50]) (E := exactly) (by
    rw [hr]
    exact (report_adds s { source := 0x50, address := beadOffset s b } (by exact of_decide_eq_true rfl) rfl rfl).effects)
  rw [hr] at done
  refine ⟨t, ht, done.counted 0x50 (by decide) (by decide) (fun h => h) rfl, (done.ends.records ?_).of_report done.ends.settled⟩
  intro q hq _
  rw [report, h.reports, List.nil_append, List.mem_singleton] at hq
  subst hq
  rfl

theorem exec_bead_uncorrectable (row : BeadRow i .uncorrectable b late f) (h : Live s) (hd : beadDue s .uncorrectable b = true) :
    ∃ t, exec i s = .next t ∧ counted s t 0x51 ∧ (srcAt t 0x51).mode = .fatal ∧ t.pins.laserEn = 0 ∧ t.pins.hlEn = false ∧
      t.rck.issued.contains (b.rod, s.tsc + leadOf b.action) = true ∧ Reacts (noteIssue s .uncorrectable b) t := by
  have hr : beadRun .uncorrectable b late f s = report (noteIssue s .uncorrectable b) { source := 0x51, address := beadOffset s b } :=
    beadRun_due hd
  have heff : Effects [0x51] exactly s (beadRun .uncorrectable b late f s) := by
    rw [hr]
    exact (noteIssue_effects exactly s .uncorrectable b).report { source := 0x51, address := beadOffset s b }
  obtain ⟨t, ht, done⟩ := exec_done (row.runs s) h heff
  have hdark : Unlit t.pins := heff.unlit (row.runs s) h ht (List.mem_singleton_self 0x51) (by decide) (by decide) (fun h => h)
    (by rw [sourceCfg_fixed (e := (0x51, 2, 5)) rfl]; decide)
  obtain ⟨-, hfatal⟩ := done.marks 0x51 (List.mem_singleton_self 0x51) (by decide) (by decide) (fun h => h) (by show (2 : Nat) ≠ 0; decide)
  rw [hr] at done
  have hiss : t.rck.issued = (noteIssue s .uncorrectable b).rck.issued := (congrArg (·.rck.issued) done.rest :)
  refine ⟨t, ht, done.counted 0x51 (by decide) (by decide) (fun h => h) rfl, hfatal rfl, hdark.1, hdark.2, ?_,
    done.ends.reacts.of_report done.ends.settled⟩
  rw [hiss]
  simp [noteIssue, effectAt]

theorem exec_late_port (hi : beadOfRow i = some (.late, d)) (h : Live s) (ha : d.action = 1 ∨ d.action = 2)
    (hd : beadDue s .late d = true) (htk : takesBeads s d.target = true) (hc : portContained s d.target = false) :
    ∃ t, exec i s = .next t ∧ portContained t d.target = true ∧ (∀ b, b < 16 → (mirror t d.target b).shows = none) ∧
      Output.plkFrame d.target 5 [0, 0xFFFF] ∈ t.outs ∧ LateTold s t ∧ calm t = calm { noteIssue s .late d with rck := t.rck } := by
  obtain ⟨late, f, row⟩ := beadRow_of hi
  obtain ⟨rfl, hp, -⟩ := row.port ha
  have hr : beadRun .late d (portBead d.target (lateBead d (fun s => containPort s d.target))) f s =
      lateBead d (fun s => containPort s d.target) (noteIssue s .late d) :=
    (beadRun_late hd).trans (portBead_acts (s := noteIssue s .late d) htk hc _)
  obtain ⟨t, ht, done⟩ := exec_done (row.runs s) h (E := exactly) (by
    rw [hr]
    exact (noteIssue_effects exactly s .late d).trans (lateBead_effects exactly _ d d.target))
  rw [hr, List.nil_append, lateBead] at done
  have hcalm := done.calm (fun n hn hl => late_quiet hn hl)
  have htold := done.lateTold (by rw [count_late _ (by decide)]; rfl) (by rw [count_late _ (by decide)]; rfl) (fun h => h) (fun h => h)
  have hlate := calm_beadLate (noteIssue s .late d) d.rod d.time
  have hout := done.outs _ (containPort_sends _ _)
  clear done hr row
  generalize beadLate (noteIssue s .late d) d.rod d.time = x at *
  have hrck : t.rck = (containPort x d.target).rck := (calm_eq (·.rck) hcalm :)
  refine ⟨t, ht, ?_, fun b hb => ?_, hout, htold, ?_⟩
  · rw [portContained, hrck]
    exact containPort_contained x d.target
  · rw [mirror_blocks (congrArg Rck.blocks hrck)]
    exact containPort_off x hp hb
  · rw [hrck, hcalm, calm_containPort x d.target]
    exact congrArg (fun y : State => { y with rck := (containPort x d.target).rck }) hlate

theorem exec_late_other (hi : beadOfRow i = some (.late, d)) (h : Live s) (h5 : 5 ≤ d.action) (h8 : d.action ≤ 8 ∨ s.hls.mode = .running)
    (hd : beadDue s .late d = true) : ∃ t, exec i s = .next t ∧ LateTold s t ∧ calm t = calm (noteIssue s .late d) := by
  obtain ⟨late, f, row⟩ := beadRow_of hi
  obtain ⟨h9, hl⟩ := row.loose h5
  have hr : beadRun .late d late f s = beadLate (noteIssue s .late d) d.rod d.time := by
    rw [beadRun_late hd]
    rcases hl with rfl | ⟨ha, rfl⟩
    · rfl
    · have hm : s.hls.mode = .running := h8.resolve_left (by omega)
      exact if_pos (by show (s.hls.mode == .running) = true; rw [hm]; rfl)
  obtain ⟨t, ht, done⟩ := exec_done (row.runs s) h (C := [0x400088, 0x52]) (E := exactly) (by
    rw [hr]
    exact (noteIssue_effects exactly s .late d).trans (beadLate_effects exactly _ _ _))
  rw [hr] at done
  exact ⟨t, ht, done.lateTold rfl rfl (fun h => h) (fun h => h), (done.calm late_told_quiet).trans (calm_beadLate _ _ _)⟩

theorem exec_level_late {rod : Fin 64} {tm : BitVec 32} {c : Fin 3} {l : Option (Fin 16)} (h : Live s)
    (hd : beadDue s .late (levelRow rod tm c l) = true) (hc : bitAt s.rck.containPrims c.val = false) :
    ∃ t, exec (.level rod tm .late c l) s = .next t ∧ bitAt t.rck.containPrims c.val = true ∧
      t.lsd.level = s.lsd.level.set c.val none ∧ LateTold s t := by
  have hrun : beadRun .late (levelRow rod tm c l) (primaryBead c.val (lateBead (levelRow rod tm c l) (fun s => containPrimary s c.val)))
      (primaryBead c.val (fun s => levelBead s c.val (l.map (·.val)))) s =
      containPrimary (beadLate (noteIssue s .late (levelRow rod tm c l)) (levelRow rod tm c l).rod (levelRow rod tm c l).time) c.val :=
    (beadRun_late hd).trans (primaryBead_acts (s := noteIssue s .late _) hc _)
  obtain ⟨t, ht, done⟩ := exec_done (exec_level rod tm .late c l s) h (C := [0x400088, 0x52]) (E := codeNoise) (by
    rw [hrun]
    exact ((noteIssue_effects codeNoise s .late _).trans (beadLate_effects codeNoise _ _ _)).quiet (containPrimary_effects _ _))
  rw [hrun] at done
  have htold := done.lateTold rfl rfl (by unfold codeNoise; decide) (by unfold codeNoise; decide)
  have hcalm := done.quiet (fun n hl hn => hn.elim (fun hn => late_told_quiet n hn hl) (codeNoise_quiet n hl))
  have hlate := calm_beadLate (noteIssue s .late (levelRow rod tm c l)) (levelRow rod tm c l).rod (levelRow rod tm c l).time
  clear done hrun
  generalize beadLate (noteIssue s .late (levelRow rod tm c l)) (levelRow rod tm c l).rod (levelRow rod tm c l).time = x at *
  have hrck : t.rck = (containPrimary x c.val).rck := (calm_eq (·.rck) hcalm :)
  have hlsd : t.lsd = (containPrimary x c.val).lsd := (calm_eq (·.lsd) hcalm :)
  have hlx : x.lsd = s.lsd := (calm_eq (·.lsd) hlate :)
  exact ⟨t, ht, by rw [hrck]; exact containPrimary_contains x c.val, by rw [hlsd, containPrimary_level, hlx], htold⟩

theorem exec_level_held {rod : Fin 64} {tm : BitVec 32} {c : Fin 3} {l : Option (Fin 16)} (h : Live s)
    (hhow : how = .effect ∨ how = .late) (hd : beadDue s how (levelRow rod tm c l) = true) (hc : bitAt s.rck.containPrims c.val = true) :
    exec (.level rod tm how c l) s = .next (noteIssue s how (levelRow rod tm c l)) := by
  refine exec_unit_quiet (exec_level rod tm how c l s) h ?_ h.toSteady.quiet
  rcases hhow with rfl | rfl
  · exact (beadRun_effect hd).trans (primaryBead_held (s := noteIssue s .effect _) hc _)
  · exact (beadRun_late hd).trans (primaryBead_held (s := noteIssue s .late _) hc _)

theorem exec_window_late {rod : Fin 64} {tm : BitVec 32} {m : BitVec 24} {o : Bool} (h : Live s)
    (hd : beadDue s .late (windowRow rod tm m o) = true) :
    ∃ t, exec (.window rod tm .late m o) s = .next t ∧ t.rck.containSlots = s.rck.containSlots ||| m.toNat ∧
      (∀ i, i < 24 → slotAt t i = if bitAt m.toNat i then slotLate (slotAt s i) else slotAt s i) ∧ LateTold s t := by
  have hrun : beadRun .late (windowRow rod tm m o) (lateBead (windowRow rod tm m o) (fun s => containSlots s m.toNat))
      (fun s => windowBead s m.toNat o) s =
      containSlots (beadLate (noteIssue s .late (windowRow rod tm m o)) (windowRow rod tm m o).rod (windowRow rod tm m o).time) m.toNat :=
    beadRun_late hd
  obtain ⟨t, ht, done⟩ := exec_done (exec_window rod tm .late m o s) h (C := [0x400088, 0x52]) (E := exactly) (by
    rw [hrun]
    exact ((noteIssue_effects exactly s .late _).trans (beadLate_effects exactly _ _ _)).quiet (containSlots_effects exactly _ _))
  rw [hrun] at done
  have htold := done.lateTold rfl rfl (fun h => h) (fun h => h)
  have hcalm := done.calm late_told_quiet
  have hlate := calm_beadLate (noteIssue s .late (windowRow rod tm m o)) (windowRow rod tm m o).rod (windowRow rod tm m o).time
  clear done hrun
  generalize beadLate (noteIssue s .late (windowRow rod tm m o)) (windowRow rod tm m o).rod (windowRow rod tm m o).time = x at *
  obtain ⟨v, hv, hslots⟩ := containSlots_parts x m.toNat
  rw [hv] at hcalm
  have hrck : t.rck.containSlots = x.rck.containSlots ||| m.toNat := (calm_eq (·.rck.containSlots) hcalm :)
  have hxr : x.rck.containSlots = s.rck.containSlots := (calm_eq (·.rck.containSlots) hlate :)
  refine ⟨t, ht, by rw [hrck, hxr], fun i hi => ?_, htold⟩
  have hx : slotAt x i = slotAt s i := (calm_eq (fun x => slotAt x i) hlate :)
  rw [calm_eq (fun x => slotAt x i) hcalm, ← hx]
  exact hslots i hi

end

/-- Settles O35: each clause by what its bead's event does once it is due. -/
theorem beadsDueAndLate : Obligations.BeadsDueAndLate := by
  unfold Obligations.BeadsDueAndLate
  refine ⟨fun s i how b h hi hd => ?idle, fun s i b h hi hd => ?corrected, fun s i b h hi hd => ?uncorrectable,
    fun s i d h hi ha hd htk hc => ?port, fun s rod tm c l d h hrow hd hc => ?level, fun s rod tm how c l d h hrow hhow hd hc => ?held,
    fun s rod tm m o d h hrow hd => ?window, fun s i d h hi h5 h8 hd => ?other⟩
  case idle =>
    obtain ⟨late, f, row⟩ := beadRow_of hi
    exact exec_unit_same (row.runs s) h (beadRun_idle hd)
  case corrected =>
    obtain ⟨late, f, row⟩ := beadRow_of hi
    exact exec_bead_corrected row h hd
  case uncorrectable =>
    obtain ⟨late, f, row⟩ := beadRow_of hi
    exact exec_bead_uncorrectable row h hd
  case port =>
    obtain ⟨t, ht, hcont, hoff, hout, htold, hcalm⟩ := exec_late_port hi h ha hd htk hc
    exact ⟨t, ht, hcont, hoff, hout, htold.discarded, htold.told, hcalm⟩
  case level =>
    subst hrow
    obtain ⟨t, ht, hcont, hlevel, htold⟩ := exec_level_late h hd hc
    exact ⟨t, ht, hcont, hlevel, htold.discarded, htold.told⟩
  case held =>
    subst hrow
    exact exec_level_held h hhow hd hc
  case window =>
    subst hrow
    obtain ⟨t, ht, hcont, hslot, htold⟩ := exec_window_late h hd
    exact ⟨t, ht, hcont, fun i hi hb => (hslot i hi).trans (if_pos hb), fun i hi hb => (hslot i hi).trans (if_neg (by rw [hb]; decide)),
      htold.discarded, htold.told⟩
  case other =>
    obtain ⟨t, ht, htold, hcalm⟩ := exec_late_other hi h h5 h8 hd
    exact ⟨t, ht, htold.discarded, htold.told, hcalm⟩

end Sys2Proof.Machine
end


section
/-! Beads of a port: the loads of its blocks, what they show, and what a port out of service makes of them (R264, R268 to R270,
R292 to R298). -/

namespace Sys2Proof.Machine

section
variable {s r t u : State} {i : Instr} {how : BeadCome} {b d : Bead} {late f : State → State} {p : Nat} {E : Nat → Prop}

/-! ### A load of a block -/

/-- The loads of a port go on with the next number. -/
def nextLoad (x : Port) : Port := { x with loadSeq := (x.loadSeq + 1) % 8 }

/-- What a load makes of a block's mirrors. -/
def loadMirror (now : Nat) (l : PlaneRef × Nat) (m : MirrorBlock) : MirrorBlock :=
  { m with
    memory := loadedAt m now
    loading := some l }

/-- The load that begins in a state. -/
def loadOf (s : State) (p : Nat) (r : PlaneRef) : PlaneRef × Nat := (r, s.tsc + loadCycles s p)

/-- A block's load has begun. -/
def loadBegun (s : State) (p b now : Nat) (l : PlaneRef × Nat) : State :=
  { s with rck := { s.rck with blocks := vmod s.rck.blocks p (fun v => vmod v b (loadMirror now l)) } }

theorem sendBlock_eq (s : State) (p b : Nat) (r : PlaneRef) (row : Nat → List Byte) (zeros : List Nat) : sendBlock s p b r row zeros =
    loadBegun (emit (bump (modPort s p (fun y => { y with loadSeq := ((port s p).loadSeq + 1) % 8 })) (portBase p + 0x30))
      (.plkBlock p (blockSlots s p b (((port s p).loadSeq + 1) % 8) r row zeros))) p b s.tsc (loadOf s p r) := rfl

theorem sendBlock_sends (s : State) (p b : Nat) (r : PlaneRef) (row : Nat → List Byte) (zeros : List Nat) :
    Output.plkBlock p (blockSlots s p b (((port s p).loadSeq + 1) % 8) r row zeros) ∈ (sendBlock s p b r row zeros).outs := by
  rw [sendBlock_eq]
  exact List.mem_cons_self

theorem sendBlock_effects (E : Nat → Prop) (s : State) (p b : Nat) (r : PlaneRef) (row : Nat → List Byte) (zeros : List Nat) :
    Effects [portBase p + 0x30] E s (sendBlock s p b r row zeros) := by
  have h1 : Effects [] E s (modPort s p (fun y => { y with loadSeq := ((port s p).loadSeq + 1) % 8 })) := ((Effects.refl E s).units (by rfl))
  have h2 := (h1.adds (bump_adds _ (unitTally_port p 0x30) (portBase_big p 0x30))).emit
    (.plkBlock p (blockSlots s p b (((port s p).loadSeq + 1) % 8) r row zeros))
  rw [sendBlock_eq]
  generalize emit _ _ = x at *
  exact (h2.units (by rfl))

/-- The state in which a block's load has begun, but for what recording changes. -/
def blockLoading (s : State) (p b : Nat) (r : PlaneRef) : State :=
  loadBegun (modPort s p (fun y => { y with loadSeq := ((port s p).loadSeq + 1) % 8 })) p b s.tsc (loadOf s p r)

theorem calm_loadBegun {a b : State} (h : calm a = calm b) (p k now : Nat) (l : PlaneRef × Nat) :
    calm (loadBegun a p k now l) = calm (loadBegun b p k now l) := by
  have hr : a.rck = b.rck := (calm_eq (·.rck) h :)
  unfold loadBegun
  rw [hr]
  exact congrArg (fun x : State => { x with rck := { b.rck with blocks := vmod b.rck.blocks p (fun v => vmod v k (loadMirror now l)) } }) h

theorem calm_sendBlock (s : State) (p b : Nat) (r : PlaneRef) (row : Nat → List Byte) (zeros : List Nat) :
    calm (sendBlock s p b r row zeros) = calm (blockLoading s p b r) := by
  rw [sendBlock_eq]
  exact calm_loadBegun ((calm_emit _ _).trans (calm_bump _ _)) p b s.tsc (loadOf s p r)

theorem blockLoading_port (s : State) (hp : p < 6) (b : Nat) (r : PlaneRef) :
    (port (blockLoading s p b r) p).loadSeq = ((port s p).loadSeq + 1) % 8 :=
  congrArg Port.loadSeq (port_modPort_same (s := s) hp _)

theorem blockLoading_mirror (s : State) (hp : p < 6) {k : Nat} (hk : k < 16) (r : PlaneRef) :
    mirror (blockLoading s p k r) p k = loadMirror s.tsc (loadOf s p r) (mirror s p k) := by
  show vget (vget (vmod s.rck.blocks p _) p _) k {} = _
  rw [vget_vmod_same _ hp, vget_vmod_same _ hk]
  rfl

theorem blockLoading_mirror_ne (s : State) (hp : p < 6) {k q x : Nat} (h : q ≠ p ∨ x ≠ k) (r : PlaneRef) :
    mirror (blockLoading s p k r) q x = mirror s q x := by
  show vget (vget (vmod s.rck.blocks p _) q _) x {} = _
  by_cases hq : q = p
  · subst hq
    rw [vget_vmod_same _ hp, vget_vmod_ne _ (Ne.symm (h.resolve_left (fun h => h rfl)))]
    rfl
  · rw [vget_vmod_ne _ (Ne.symm hq)]
    rfl

theorem calm_blockLoading_units (s : State) (p b : Nat) (r : PlaneRef) : calm (blockLoading s p b r) = calm { s with
    plk := (blockLoading s p b r).plk
    rck := (blockLoading s p b r).rck } := rfl

/-! ### Where the rows come from -/

/-- The cache slot that a load reads. -/
def loadSlot (s : State) (p b plane : Nat) (cached : Bool) : Option Nat :=
  if cached then liveSlot s (b2n (bitAt s.pbu.shown p)) p b plane else none

/-- The plane that a load brings. -/
def loadRef (s : State) (p plane : Nat) (cached : Bool) : PlaneRef where
  plane := plane
  set := b2n (bitAt s.pbu.shown p)
  cached := cached
  blank := false

/-- Address of the plane that a load reads, and the bytes of one of its rows. -/
def loadAddr (s : State) (p b plane : Nat) : Nat := planeAddr (cfg s) (b2n (bitAt s.pbu.shown p)) p b plane

def loadWidth (s : State) (p : Nat) : Nat := planeStride (linkCfg s p).width

/-- The end of a load: a row that was not there in time contains the port (R298). -/
def rowsMissed (s : State) (p : Nat) (missing : List Nat) : State :=
  if missing.isEmpty then s else containPort (report s { source := 0x67, master := p }) p

/-- The load of a plane from the cache. -/
def loadCached (s : State) (p b plane n : Nat) (missing : List Nat) (ce : Bool) (ue : Option Nat) : State :=
  sendBlock (cacheErrors s n ce ue) p b (loadRef s p plane true) (fun i => cacheRead s n (i * loadWidth s p) (loadWidth s p))
    (missing ++ ue.toList)

/-- The load of a plane from the plane store. -/
def loadStored (s : State) (p b plane : Nat) (missing : List Nat) : State :=
  sendBlock (readUe s (loadAddr s p b plane) (bandBytes (cfg s) p) 8) p b (loadRef s p plane false)
    (fun i => rdBytes s (loadAddr s p b plane + i * loadWidth s p) (loadWidth s p)) (missing ++ badRows s p (loadAddr s p b plane))

theorem loadBlock_cached {k plane n : Nat} {cached : Bool} (h : loadSlot s p k plane cached = some n) (missing : List Nat) (ce : Bool)
    (ue : Option Nat) : loadBlock s p k plane cached false missing ce ue = rowsMissed (loadCached s p k plane n missing ce ue) p missing := by
  unfold loadSlot at h
  unfold loadBlock
  extract_lets set addr st slot ref s1
  have hs : slot = some n := h
  clear_value slot
  subst hs
  exact if_neg Bool.false_ne_true

theorem loadBlock_stored {k plane : Nat} {cached : Bool} (h : loadSlot s p k plane cached = none) (missing : List Nat) (ce : Bool)
    (ue : Option Nat) : loadBlock s p k plane cached false missing ce ue = rowsMissed (loadStored s p k plane missing) p missing := by
  unfold loadSlot at h
  unfold loadBlock
  extract_lets set addr st slot ref s1
  have hs : slot = none := h
  clear_value slot
  subst hs
  exact if_neg Bool.false_ne_true

/-- What errors of a load's rows count and report. -/
def loadNoise (n : Nat) : Prop := n = 0x20 ∨ n = 0x21 ∨ n = 0x43 ∨ n = 0x44 ∨ n = 0x100020 ∨ n = 0x100024 ∨ n = 0x380038 ∨ n = 0x38003C

theorem dramNoise_load {n : Nat} (h : dramNoise n) : loadNoise n := by
  unfold dramNoise at h
  unfold loadNoise
  omega

theorem not_loadNoise_port (p k : Nat) : ¬ loadNoise (portBase p + k) := by
  unfold loadNoise portBase
  omega

theorem meetErrors_effects (s : State) (e : DramErrs) (unit : Nat) : Effects [] loadNoise s (meetErrors s e unit) := by
  obtain ⟨m, h⟩ := meetErrors_adds s e unit
  exact (Effects.refl loadNoise s).units (t := { s with mem := m }) (by rfl) |>.posts (h.widen fun _ => dramNoise_load)

theorem readUe_effects (s : State) (a n unit : Nat) : Effects [] loadNoise s (readUe s a n unit) := by
  obtain ⟨m, h⟩ := readUe_adds s a n unit
  exact (Effects.refl loadNoise s).units (t := { s with mem := m }) (by rfl) |>.posts (h.widen fun _ => dramNoise_load)

theorem retireSlot_effects (E : Nat → Prop) (s : State) (n : Nat) : Effects [] E s (retireSlot s n) :=
  .ite _ ((Effects.refl E s).units (by rfl)) (.refl E s)

theorem cacheErrors_effects (s : State) (n : Nat) (ce : Bool) (ue : Option Nat) : Effects [] loadNoise s (cacheErrors s n ce ue) := by
  have hce : Effects [] loadNoise s (if ce then report (bump s 0x380038) { source := 0x43, address := n } else s) :=
    .ite _ (((bump_adds s (off := 0x380038) rfl (by decide)).effects.report { source := 0x43, address := n }).drop (by
      intro k hk
      unfold loadNoise
      simp only [List.mem_append, List.mem_singleton] at hk
      omega)) (.refl _ s)
  unfold cacheErrors
  extract_lets s1
  refine hce.quiet (.ite _ (.quiet ?_ (retireSlot_effects _ _ n)) (.refl _ _))
  refine ((bump_adds s1 (off := 0x38003C) rfl (by decide)).effects.report { source := 0x44, address := n }).drop ?_
  intro k hk
  unfold loadNoise
  simp only [List.mem_append, List.mem_singleton] at hk
  omega

theorem cacheErrors_none (s : State) (n : Nat) : cacheErrors s n false none = s := rfl

end
end Sys2Proof.Machine
end


section
/-! The events of a port's beads (R264, R268 to R270, R298). -/

namespace Sys2Proof.Machine

section
variable {s r t u : State} {i : Instr} {how : BeadCome} {b d : Bead} {late f : State → State} {p : Nat} {E : Nat → Prop}
variable {rod : Fin 64} {tm : BitVec 32} {q : Fin 6} {k : Fin 16} {pl : Fin 48} {ca ce : Bool} {mi : List Nat} {ue : Option Nat} {er : DramErrs}

theorem exec_loadBlock (rod : Fin 64) (tm : BitVec 32) (how : BeadCome) (q : Fin 6) (k : Fin 16) (pl : Fin 48) (ca bl : Bool) (mi : List Nat)
    (ce : Bool) (ue : Option Nat) (er : DramErrs) (s : State) : exec (.loadBlock rod tm how q k pl ca bl mi ce ue er) s =
      .next (event s (beadRun how (loadRow rod tm q k pl ca bl)
        (portBead q.val (lateBead (loadRow rod tm q k pl ca bl) (fun s => containPort s q.val)))
        (portBead q.val (fun s => loadBlock (if ca || bl then s else meetErrors s er 8) q.val k.val pl.val ca bl mi ce ue)))) :=
  congrArg Host.Outcome.next (bead_eq s _ _ _ _)

theorem exec_resetBlock (rod : Fin 64) (tm : BitVec 32) (how : BeadCome) (q : Fin 6) (sh dk : BitVec 16) (ab : Bool) (s : State) :
    exec (.resetBlock rod tm how q sh dk ab) s = .next (event s (beadRun how (resetRow rod tm q sh dk)
      (portBead q.val (lateBead (resetRow rod tm q sh dk) (fun s => containPort s q.val)))
      (portBead q.val (fun s => resetBlock s q.val sh.toNat dk.toNat ab)))) :=
  congrArg Host.Outcome.next (bead_eq s _ _ _ _)

/-- A bead of a port that takes it. -/
theorem beadRun_port (hd : beadDue s .effect d = true) (ht : takesBeads s p = true) (hc : portContained s p = false) (g : State → State) :
    beadRun .effect d late (portBead p g) s = g (noteIssue s .effect d) :=
  (beadRun_effect hd).trans (portBead_acts (s := noteIssue s .effect d) ht hc g)

/-! ### Loads -/

/-- A load that begins and meets no error. -/
theorem exec_load_clean (h : Live s) (hi : exec i s = .next (event s (beadRun .effect d late f)))
    {r : PlaneRef} {row : Nat → List Byte} {zeros : List Nat}
    (hr : beadRun .effect d late f s = sendBlock (noteIssue s .effect d) q.val k.val r row zeros) :
    ∃ t, exec i s = .next t ∧
      Output.plkBlock q.val (blockSlots s q.val k.val (((port s q.val).loadSeq + 1) % 8) r row zeros) ∈ t.outs ∧
      (port t q.val).loadSeq = ((port s q.val).loadSeq + 1) % 8 ∧
      mirror t q.val k.val = loadMirror s.tsc (loadOf s q.val r) (mirror s q.val k.val) ∧
      (∀ x y, x ≠ q.val ∨ y ≠ k.val → mirror t x y = mirror s x y) ∧
      calm t = calm { noteIssue s .effect d with
        plk := t.plk
        rck := t.rck } := by
  have heff : Effects [portBase q.val + 0x30] exactly s (beadRun .effect d late f s) := by
    rw [hr]
    exact (noteIssue_effects exactly s .effect d).trans (sendBlock_effects exactly _ _ _ _ _ _)
  obtain ⟨t, ht, done⟩ := exec_done hi h heff
  rw [hr] at done
  have hcalm := (done.calm (fun n hn hl => absurd hl (by
    rw [List.mem_singleton.mp hn]
    have := portBase_big q.val 0x30
    omega))).trans (calm_sendBlock _ _ _ _ _ _)
  have hout := done.outs _ (sendBlock_sends (noteIssue s .effect d) _ _ _ _ _)
  have hplk : t.plk = (blockLoading (noteIssue s .effect d) q.val k.val r).plk := (calm_eq (·.plk) hcalm :)
  have hrck : t.rck = (blockLoading (noteIssue s .effect d) q.val k.val r).rck := (calm_eq (·.rck) hcalm :)
  have hmir (x y : Nat) : mirror t x y = mirror (blockLoading (noteIssue s .effect d) q.val k.val r) x y :=
    mirror_blocks (congrArg Rck.blocks hrck) x y
  refine ⟨t, ht, hout, ?_, ?_, fun x y hxy => ?_, ?_⟩
  · rw [port, hplk]
    exact blockLoading_port _ q.isLt _ _
  · rw [hmir, blockLoading_mirror _ q.isLt k.isLt]
    rfl
  · rw [hmir, blockLoading_mirror_ne _ q.isLt hxy]
    rfl
  · rw [hcalm, hplk, hrck]
    exact calm_blockLoading_units _ _ _ _

theorem beadRun_load_blank (hd : beadDue s .effect (loadRow rod tm q k pl ca true) = true) (ht : takesBeads s q.val = true)
    (hc : portContained s q.val = false) : beadRun .effect (loadRow rod tm q k pl ca true)
      (portBead q.val (lateBead (loadRow rod tm q k pl ca true) (fun s => containPort s q.val)))
      (portBead q.val (fun s => loadBlock (if ca || true then s else meetErrors s er 8) q.val k.val pl.val ca true mi ce ue)) s =
        sendBlock (noteIssue s .effect (loadRow rod tm q k pl ca true)) q.val k.val
          { plane := 0, set := b2n (bitAt s.pbu.shown q.val), cached := false, blank := true } (fun _ => []) [] := by
  rw [beadRun_port hd ht hc, Bool.or_true, if_pos rfl]
  rfl

/-- The state in which a load of a plane finds its rows. -/
def loadStart (s : State) (d : Bead) (ca : Bool) (er : DramErrs) : State :=
  if ca then noteIssue s .effect d else meetErrors (noteIssue s .effect d) er 8

theorem beadRun_load (hd : beadDue s .effect (loadRow rod tm q k pl ca false) = true) (ht : takesBeads s q.val = true)
    (hc : portContained s q.val = false) : beadRun .effect (loadRow rod tm q k pl ca false)
      (portBead q.val (lateBead (loadRow rod tm q k pl ca false) (fun s => containPort s q.val)))
      (portBead q.val (fun s => loadBlock (if ca || false then s else meetErrors s er 8) q.val k.val pl.val ca false mi ce ue)) s =
        loadBlock (loadStart s (loadRow rod tm q k pl ca false) ca er) q.val k.val pl.val ca false mi ce ue := by
  rw [beadRun_port hd ht hc, Bool.or_false]
  rfl

theorem loadStart_effects (s : State) (d : Bead) (ca : Bool) (er : DramErrs) : Effects [] loadNoise s (loadStart s d ca er) :=
  .ite _ (noteIssue_effects loadNoise s .effect d) ((noteIssue_effects loadNoise s .effect d).quiet (meetErrors_effects _ er 8))

/-- What the slots of a load are made of, beside the rows' bytes. -/
def loadFrame (s : State) : Img × Vector Port 6 × Nat := (s.img, s.plk, s.pbu.shown)

theorem loadFrame_noted {a b : State} (h : noted a = noted b) : loadFrame a = loadFrame b := noted_eq loadFrame h

theorem loadFrame_cacheErrors (s : State) (n : Nat) (ce : Bool) (ue : Option Nat) : loadFrame (cacheErrors s n ce ue) = loadFrame s := by
  have hce : loadFrame (if ce then report (bump s 0x380038) { source := 0x43, address := n } else s) = loadFrame s := by
    split
    · exact calm_eq loadFrame ((calm_report _ _).trans (calm_bump _ _))
    · rfl
  unfold cacheErrors
  extract_lets s1
  replace hce : loadFrame s1 = loadFrame s := hce
  clear_value s1
  split
  · have hr : loadFrame (report (bump s1 0x38003C) { source := 0x44, address := n }) = loadFrame s :=
      (calm_eq loadFrame ((calm_report _ _).trans (calm_bump _ _))).trans hce
    generalize report (bump s1 0x38003C) { source := 0x44, address := n } = x at *
    unfold retireSlot
    split
    · exact hr
    · exact hr
  · exact hce

theorem loadFrame_readUe (s : State) (a n unit : Nat) : loadFrame (readUe s a n unit) = loadFrame s :=
  loadFrame_noted (readUe_notes (L := [0x21]) s a n unit (List.mem_singleton_self _)).noted

theorem loadFrame_loadStart (s : State) (d : Bead) (ca : Bool) (er : DramErrs) : loadFrame (loadStart s d ca er) = loadFrame s := by
  unfold loadStart
  split
  · rfl
  · exact (loadFrame_noted (noted_meetErrors (noteIssue s .effect d) er 8)).trans rfl

/-- The slots that a load sends are those of any state with the same image and ports. -/
theorem sendBlock_sends_as {x y : State} (h : loadFrame x = loadFrame y) (p k : Nat) (r : PlaneRef) (row : Nat → List Byte) (zeros : List Nat) :
    Output.plkBlock p (blockSlots y p k (((port y p).loadSeq + 1) % 8) r row zeros) ∈ (sendBlock x p k r row zeros).outs := by
  have himg : x.img = y.img := (congrArg (·.1) h :)
  have hplk : x.plk = y.plk := (congrArg (·.2.1) h :)
  have hs := sendBlock_sends x p k r row zeros
  have hb (q : Nat) : blockSlots x p k q r row zeros = blockSlots y p k q r row zeros := by
    unfold blockSlots linkCfg cfg
    rw [himg]
  rwa [hb, port, hplk] at hs

theorem rowsMissed_effects (E : Nat → Prop) (s : State) (p : Nat) (missing : List Nat) :
    Effects (if missing = [] then [] else [0x67] ++ [portBase p + 0x34]) E s (rowsMissed s p missing) := by
  cases missing with
  | nil => exact .refl E s
  | cons m l =>
    have h1 := (report_adds (E := E) s { source := 0x67, master := p } (by exact of_decide_eq_true rfl) rfl rfl).effects
    exact h1.trans (containPort_effects E _ p)

theorem rowsMissed_outs (s : State) (p : Nat) (missing : List Nat) {o : Output} (h : o ∈ s.outs) : o ∈ (rowsMissed s p missing).outs :=
  (rowsMissed_effects exactly s p missing).outs o h

/-- The tallies and sources of a load. -/
def loadCounts (p : Nat) (missing : List Nat) : List Nat := [portBase p + 0x30] ++ if missing = [] then [] else [0x67] ++ [portBase p + 0x34]

theorem loadCounts_loads (p : Nat) (missing : List Nat) : (loadCounts p missing).count (portBase p + 0x30) = 1 := by
  have h1 : 0x67 ≠ portBase p + 0x30 := by
    unfold portBase
    omega
  unfold loadCounts
  split
  · simp
  · simp [List.count_cons_of_ne, h1]

theorem loadCounts_missed (p : Nat) {missing : List Nat} (h : missing ≠ []) : (loadCounts p missing).count 0x67 = 1 := by
  have h1 : portBase p + 0x30 ≠ 0x67 := by
    unfold portBase
    omega
  have h2 : portBase p + 0x34 ≠ 0x67 := by
    unfold portBase
    omega
  unfold loadCounts
  rw [if_neg h]
  simp [List.count_cons_of_ne, h1, h2]

/-- What a load of a plane counts, and what it sends. -/
theorem loadBlock_effects (s : State) (p k plane : Nat) (cached : Bool) (missing : List Nat) (ce : Bool) (ue : Option Nat) :
    Effects (loadCounts p missing) loadNoise s (loadBlock s p k plane cached false missing ce ue) := by
  cases hs : loadSlot s p k plane cached with
  | some n =>
    rw [loadBlock_cached hs]
    exact ((cacheErrors_effects s n ce ue).trans (sendBlock_effects loadNoise _ _ _ _ _ _)).trans (rowsMissed_effects loadNoise _ p missing)
  | none =>
    rw [loadBlock_stored hs]
    exact ((readUe_effects s _ _ _).trans (sendBlock_effects loadNoise _ _ _ _ _ _)).trans (rowsMissed_effects loadNoise _ p missing)

/-- What a load of a plane sends: the rows of its cache slot, or those of the plane store. -/
def loadSent (s : State) (p k plane seq : Nat) (missing : List Nat) (ue : Option Nat) : Option Nat → Output
  | some n => .plkBlock p (blockSlots s p k seq (loadRef s p plane true)
      (fun i => cacheRead s n (i * loadWidth s p) (loadWidth s p)) (missing ++ ue.toList))
  | none => .plkBlock p (blockSlots s p k seq (loadRef s p plane false)
      (fun i => rdBytes s (loadAddr s p k plane + i * loadWidth s p) (loadWidth s p)) (missing ++ badRows s p (loadAddr s p k plane)))

theorem loadBlock_sends (s : State) (p k plane : Nat) (cached : Bool) (missing : List Nat) (ce : Bool) (ue : Option Nat) :
    loadSent s p k plane (((port s p).loadSeq + 1) % 8) missing ue (loadSlot s p k plane cached) ∈
      (loadBlock s p k plane cached false missing ce ue).outs := by
  cases hs : loadSlot s p k plane cached with
  | some n =>
    rw [loadBlock_cached hs]
    exact rowsMissed_outs _ _ _ (sendBlock_sends_as (loadFrame_cacheErrors s n ce ue) _ _ _ _ _)
  | none =>
    rw [loadBlock_stored hs]
    exact rowsMissed_outs _ _ _ (sendBlock_sends_as (loadFrame_readUe s _ _ _) _ _ _ _ _)

theorem readHits_clean (h : dramClean s = true) (a n : Nat) : readHits s a n = false := by
  obtain ⟨hb, hi⟩ := Bool.and_eq_true_iff.mp h
  have hu : armedUe s a n = none := by
    unfold armedUe
    rw [Option.isNone_iff_eq_none.mp hi]
  have hf : firstBad s a n = none := by
    unfold firstBad
    rw [List.isEmpty_iff.mp hb]
    rfl
  rw [readHits, hu, hf]
  rfl

/-- What a load of the plane store sends, by the image and the ports that its errors leave. -/
theorem loadSent_stored (h : loadFrame u = loadFrame s) (p k plane seq : Nat) (missing : List Nat) (ue : Option Nat) :
    loadSent u p k plane seq missing ue none = .plkBlock p (blockSlots s p k seq (loadRef s p plane false)
      (fun i => rdBytes u (loadAddr s p k plane + i * loadWidth s p) (loadWidth s p)) (missing ++ badRows u p (loadAddr s p k plane))) := by
  have himg : u.img = s.img := (congrArg (·.1) h :)
  have hshown : u.pbu.shown = s.pbu.shown := (congrArg (·.2.2) h :)
  unfold loadSent loadAddr loadWidth loadRef blockSlots linkCfg cfg
  rw [himg, hshown]

/-- A load of a plane. -/
theorem exec_load (h : Live s) (hi : exec i s = .next (event s (beadRun .effect d late f)))
    (hr : beadRun .effect d late f s = loadBlock (loadStart s d ca er) q.val k.val pl.val ca false mi ce ue) :
    ∃ t, exec i s = .next t ∧ tally t (portBase q.val + 0x30) = min (tally s (portBase q.val + 0x30) + 1) tallyMax ∧
      loadSent (loadStart s d ca er) q.val k.val pl.val (((port s q.val).loadSeq + 1) % 8) mi ue
        (loadSlot (loadStart s d ca er) q.val k.val pl.val ca) ∈ t.outs ∧ (mi ≠ [] → counted s t 0x67) := by
  obtain ⟨t, ht, done⟩ := exec_done (C := loadCounts q.val mi) (E := loadNoise) hi h (by
    rw [hr]
    exact (loadStart_effects s d ca er).trans (loadBlock_effects _ _ _ _ _ _ _ _))
  rw [hr] at done
  have hsend := done.outs _ (loadBlock_sends _ _ _ _ _ _ _ _)
  have hplk : (loadStart s d ca er).plk = s.plk := (congrArg (·.2.1) (loadFrame_loadStart s d ca er) :)
  rw [port, hplk] at hsend
  refine ⟨t, ht, ?_, hsend, fun hm => done.counted 0x67 (by decide) (by decide) (by unfold loadNoise; decide) (loadCounts_missed q.val hm)⟩
  rw [done.tallies _ (portBase_big _ _) (unitTally_port _ _) (not_loadNoise_port _ _), loadCounts_loads]

/-- A bead that its port does not take. -/
theorem beadRun_outOfService (row : BeadRow i how d late f) (ha : d.action = 1 ∨ d.action = 2) (hw : how = .effect ∨ how = .late)
    (hd : beadDue s how d = true) (ht : takesBeads s d.target = false) : beadRun how d late f s = discardBead (noteIssue s how d) := by
  obtain ⟨rfl, -, g, rfl⟩ := row.port ha
  rcases hw with rfl | rfl
  · exact (beadRun_effect hd).trans (portBead_discards (s := noteIssue s .effect d) ht _)
  · exact (beadRun_late hd).trans (portBead_discards (s := noteIssue s .late d) ht _)

/-- A bead of a port that is contained. -/
theorem beadRun_contained (row : BeadRow i how d late f) (ha : d.action = 1 ∨ d.action = 2) (hw : how = .effect ∨ how = .late)
    (hd : beadDue s how d = true) (ht : takesBeads s d.target = true) (hc : portContained s d.target = true) :
    beadRun how d late f s = noteIssue s how d := by
  obtain ⟨rfl, -, g, rfl⟩ := row.port ha
  rcases hw with rfl | rfl
  · exact (beadRun_effect hd).trans (portBead_contained (s := noteIssue s .effect d) ht hc _)
  · exact (beadRun_late hd).trans (portBead_contained (s := noteIssue s .late d) ht hc _)

theorem exec_bead_outOfService (row : BeadRow i how d late f) (h : Live s) (ha : d.action = 1 ∨ d.action = 2)
    (hw : how = .effect ∨ how = .late) (hd : beadDue s how d = true) (ht : takesBeads s d.target = false) :
    ∃ t, exec i s = .next t ∧ tally t 0x400084 = min (tally s 0x400084 + 1) tallyMax ∧ calm t = calm (noteIssue s how d) := by
  have hr := beadRun_outOfService row ha hw hd ht
  obtain ⟨t, hx, done⟩ := exec_done (row.runs s) h (C := [0x400084]) (E := exactly) (by
    rw [hr]
    exact (noteIssue_effects exactly s how d).adds (bump_adds _ (off := 0x400084) rfl (by decide)))
  rw [hr] at done
  refine ⟨t, hx, done.tallies 0x400084 (by decide) rfl (fun h => h), (done.calm fun n hn hl => ?_).trans (calm_bump _ _)⟩
  rw [List.mem_singleton.mp hn] at hl
  exact absurd hl (by decide)

/-- What a RESET_BLOCK counts: itself, and the frame that it has aborted. -/
theorem resetCounts (p : Nat) (ab : Bool) : ((if ab then [portBase p + 0x40] else []) ++ [portBase p + 0x34]).count (portBase p + 0x34) = 1 ∧
    ((if ab then [portBase p + 0x40] else []) ++ [portBase p + 0x34]).count (portBase p + 0x40) = b2n ab := by
  cases ab <;> simp [b2n]

theorem calm_resetBlock_units (s : State) (p sh dk : Nat) (ab : Bool) : calm (resetBlock s p sh dk ab) = calm { s with
    rck := (resetBlock s p sh dk ab).rck } := by
  have hc := calm_resetBlock s p sh dk ab
  have hr := calm_eq (·.rck) hc
  rw [hc, hr]

theorem exec_reset_due {sh dk : BitVec 16} {ab : Bool} (h : Live s) (hd : beadDue s .effect (resetRow rod tm q sh dk) = true)
    (ht : takesBeads s q.val = true) (hc : portContained s q.val = false) :
    ∃ t, exec (.resetBlock rod tm .effect q sh dk ab) s = .next t ∧
      Done ((if ab then [portBase q.val + 0x40] else []) ++ [portBase q.val + 0x34]) exactly s
        (resetBlock (noteIssue s .effect (resetRow rod tm q sh dk)) q.val sh.toNat dk.toNat ab) t ∧
      calm t = calm (resetBlock (noteIssue s .effect (resetRow rod tm q sh dk)) q.val sh.toNat dk.toNat ab) := by
  have hr := beadRun_port (late := portBead q.val (lateBead (resetRow rod tm q sh dk) (fun s => containPort s q.val))) hd ht hc
    (fun s => resetBlock s q.val sh.toNat dk.toNat ab)
  obtain ⟨t, hx, done⟩ := exec_done (exec_resetBlock rod tm .effect q sh dk ab s) h (E := exactly) (by
    rw [hr]
    exact (noteIssue_effects exactly s .effect _).trans (resetBlock_effects exactly _ _ _ _ _))
  rw [hr, List.nil_append] at done
  refine ⟨t, hx, done, done.calm fun n hn hl => absurd hl ?_⟩
  have h34 := portBase_big q.val 0x34
  have h40 := portBase_big q.val 0x40
  rcases List.mem_append.mp hn with hn | hn
  · cases ab
    · cases hn
    · rw [List.mem_singleton.mp hn]
      omega
  · rw [List.mem_singleton.mp hn]
    omega

end

/-- Settles O36: loads by the rows they find, RESET_BLOCK by what it makes of each block's mirrors, and the beads that a port does
not take. -/
theorem portBeadsActOnBlocks : Obligations.PortBeadsActOnBlocks := by
  unfold Obligations.PortBeadsActOnBlocks
  refine ⟨fun s rod tm p b pl ca ce mi ue er d q r h hdd hd ht hc hq hrr => ?blank,
    fun s rod tm p b pl ca ce mi ue er d u q a w h hdd hd ht hc hq haa hww huu => ?load,
    fun s rod tm p b pl ca d sl r h hdd hd ht hc hsl hor hrr => ?clean,
    fun s rod tm p sh dk ab d h hdd hd ht hc => ?reset,
    fun s i how d h hi hw ha hd ht => ?service, fun s i how d h hi hw ha hd ht hc => ?contained⟩
  case blank =>
    subst hdd hq hrr
    obtain ⟨t, hx, hsend, hseq, hmir, -, hcalm⟩ := exec_load_clean h (exec_loadBlock rod tm .effect p b pl ca true mi ce ue er s)
      (beadRun_load_blank hd ht hc)
    exact ⟨t, hx, hsend, hseq, hmir, hcalm⟩
  case load =>
    subst hdd hq haa hww huu
    obtain ⟨t, hx, htal, hsend, hmiss⟩ := exec_load h (exec_loadBlock rod tm .effect p b pl ca false mi ce ue er s) (beadRun_load hd ht hc)
    refine ⟨t, hx, htal, ?_, hmiss⟩
    cases ca with
    | false =>
      have hsent := loadSent_stored (loadFrame_loadStart s (loadRow rod tm p b pl false false) false er)
        p.val b.val pl.val (((port s p.val).loadSeq + 1) % 8) mi ue
      exact hsent ▸ hsend
    | true =>
      have hslot : loadSlot (loadStart s (loadRow rod tm p b pl true false) true er) p.val b.val pl.val true =
          liveSlot s (b2n (bitAt s.pbu.shown p.val)) p.val b.val pl.val := rfl
      rw [hslot] at hsend
      rw [if_pos rfl]
      cases hl : liveSlot s (b2n (bitAt s.pbu.shown p.val)) p.val b.val pl.val with
      | none =>
        rw [hl] at hsend
        exact hsend
      | some n =>
        rw [hl] at hsend
        exact hsend
  case clean =>
    subst hdd hsl hrr
    have hrun := beadRun_load (er := {}) (mi := []) (ce := false) (ue := none) hd ht hc
    have hstart : loadStart s (loadRow rod tm p b pl ca false) ca {} = noteIssue s .effect (loadRow rod tm p b pl ca false) := by
      unfold loadStart
      rw [meetErrors_none, ite_self]
    rw [hstart] at hrun
    have hsl : loadSlot (noteIssue s .effect (loadRow rod tm p b pl ca false)) p.val b.val pl.val ca =
      if ca = true then liveSlot s (b2n (bitAt s.pbu.shown p.val)) p.val b.val pl.val else none := rfl
    rw [← hsl] at hor ⊢
    cases hl : loadSlot (noteIssue s .effect (loadRow rod tm p b pl ca false)) p.val b.val pl.val ca with
    | some n =>
      rw [loadBlock_cached hl] at hrun
      obtain ⟨t, hx, -, hseq, hmir, hne, hcalm⟩ := exec_load_clean h (exec_loadBlock rod tm .effect p b pl ca false [] false none {} s) hrun
      exact ⟨t, hx, hseq, hmir, fun x y _ _ => hne x y, hcalm⟩
    | none =>
      rw [hl] at hor
      have hclean : readHits (noteIssue s .effect (loadRow rod tm p b pl ca false))
          (loadAddr (noteIssue s .effect (loadRow rod tm p b pl ca false)) p.val b.val pl.val)
          (bandBytes (cfg (noteIssue s .effect (loadRow rod tm p b pl ca false))) p.val) = false :=
        readHits_clean (s := noteIssue s .effect _) (hor.resolve_left (by decide)) _ _
      rw [loadBlock_stored hl, loadStored, readUe_clean hclean] at hrun
      obtain ⟨t, hx, -, hseq, hmir, hne, hcalm⟩ := exec_load_clean h (exec_loadBlock rod tm .effect p b pl ca false [] false none {} s) hrun
      exact ⟨t, hx, hseq, hmir, fun x y _ _ => hne x y, hcalm⟩
  case reset =>
    subst hdd
    obtain ⟨t, hx, done, hcalm⟩ := exec_reset_due (ab := ab) h hd ht hc
    have hm (q b : Nat) : mirror t q b = _ := calm_eq (fun x => mirror x q b) hcalm
    refine ⟨t, hx, done.outs _ (resetBlock_sends _ _ _ _ _), ?_, ?_, fun b hb => ?_, fun q _ hq b => ?_, ?_⟩
    · rw [done.tallies _ (portBase_big _ _) (unitTally_port _ _) (fun h => h), (resetCounts p.val ab).1]
    · rw [done.tallies _ (portBase_big _ _) (unitTally_port _ _) (fun h => h), (resetCounts p.val ab).2]
      cases ab
      · exact min_eq_left (tally_le s _)
      · rfl
    · rw [hm]
      exact mirror_resetBlock _ p.isLt hb _ _ _
    · rw [hm]
      exact mirror_resetBlock_ne _ hq _ _ _ _
    · have hrck := calm_eq (·.rck) hcalm
      rw [hcalm, calm_resetBlock_units, hrck]
  case service =>
    obtain ⟨late, f, row⟩ := beadRow_of hi
    exact exec_bead_outOfService row h ha hw hd ht
  case contained =>
    obtain ⟨late, f, row⟩ := beadRow_of hi
    exact exec_unit_quiet (row.runs s) h (beadRun_contained row ha hw hd ht hc) h.toSteady.quiet

end Sys2Proof.Machine
end


section
/-! Light tests: the pulses that DIAG_PULSE and CAL_PAIR light, and the steps they schedule (R232, R326). -/

namespace Sys2Proof.Machine

section
variable {s r t : State} {b q i l : Nat} {steps : List PulseStep}

/-! ### The steps of other banks stay -/

/-- The steps scheduled for other banks stand. -/
def StepsKept (b : Nat) (s r : State) : Prop := ∀ x ∈ s.lsd.pulses, x.bank ≠ b → x ∈ r.lsd.pulses

theorem StepsKept.of_lsd (h : r.lsd.pulses = s.lsd.pulses) : StepsKept b s r := fun x hx _ => by rwa [h]

theorem StepsKept.of_calm (h : calm r = calm s) : StepsKept b s r := .of_lsd (calm_eq (·.lsd.pulses) h)

theorem StepsKept.trans (h : StepsKept b s r) (k : StepsKept b r t) : StepsKept b s t := fun x hx hb => k x (h x hx hb) hb

theorem StepsKept.ite (c : Prop) [Decidable c] (h : StepsKept b s r) (k : StepsKept b s t) : StepsKept b s (if c then r else t) := by
  split <;> assumption

theorem bankLeave_steps (s : State) (b : Nat) : StepsKept b s (bankLeave s b) := by
  obtain ⟨L, hL⟩ := clearBankSlot_units (if (bankAt s b).linkRun then sendDrive (bankDark s b) b 0 else bankDark s b) b
  have hp : (if (bankAt s b).linkRun then sendDrive (bankDark s b) b 0 else bankDark s b).lsd.pulses =
      s.lsd.pulses.filter (fun x => x.bank != b) := by split <;> rfl
  intro x hx hb
  rw [bankLeave_eq, hL]
  show x ∈ (if (bankAt s b).linkRun then sendDrive (bankDark s b) b 0 else bankDark s b).lsd.pulses
  rw [hp]
  exact List.mem_filter.mpr ⟨hx, by simpa using hb⟩

theorem opened_steps (s : State) (b c : Nat) : StepsKept b s (setBank s b .opened c) := by
  have hm : StepsKept b s (bankMark s b .opened c) := .of_lsd rfl
  rw [setBank_opened]
  exact (StepsKept.ite _ (hm.trans (bankLeave_steps _ b)) hm).trans (.of_calm (calm_postBank _ _ _))

theorem judged_steps (s : State) (b : Nat) (high opn : Bool) : StepsKept b s (judged s b high opn) := by
  have h1 : StepsKept b s (modBank s b (judgedBank s.tsc high opn)) := .of_lsd rfl
  exact .ite _ (h1.trans (.of_calm (calm_bump _ _))) h1

theorem judgeWindow_steps (s : State) (b : Nat) (high opn : Bool) : StepsKept b s (judgeWindow s b high opn) := by
  have h1 := judged_steps s b high opn
  have ho (c : Nat) : StepsKept b s (openBank (judged s b high opn) b c) := .ite _ (h1.trans (opened_steps _ b c)) h1
  rw [judgeWindow_eq]
  exact .ite _ ((ho 4).trans (.of_calm (calm_report _ _))) (.ite _ ((ho 5).trans (.of_calm (calm_report _ _))) h1)

theorem applyCode_steps (s : State) (b : Nat) (force : Bool) : StepsKept b s (applyCode s b force) := by
  unfold applyCode
  split
  · extract_lets r s1 s2
    have h1 : StepsKept b s s1 := .ite _ (.of_calm (calm_bump _ _)) (.of_lsd rfl)
    have h2 : StepsKept b s s2 := .ite _ h1 (h1.trans (.ite _ (judgeWindow_steps _ b _ _) (.of_lsd rfl)))
    have he (x : State) (c : Nat) : StepsKept b x (sendDrive x b c) := .of_lsd rfl
    exact .ite _ (.ite _ (.ite _ (h2.trans (he s2 r.1)) h2) ((h2.trans (.of_lsd rfl)).trans (he _ r.1))) h2
  · exact .of_lsd rfl

/-! ### One pulse -/

/-- A level of a light test is in force on a bank. -/
def pulsed (p : Option (Option Nat)) (x : Bank) : Bank := { x with pulse := p }

theorem setPulse_armed (h : (bankAt s b).mode = .armed) (p : Option (Option Nat)) :
    setPulse s b p = applyCode (modBank s b (pulsed p)) b true := if_pos (by rw [h]; rfl)

theorem setPulse_dark (h : (bankAt s b).mode ≠ .armed) (p : Option (Option Nat)) : setPulse s b p = s := if_neg (by simpa using h)

/-- A bank that is still ARMED has its steps scheduled. -/
def schedule (s : State) (b : Nat) (steps : List PulseStep) : State :=
  if (bankAt s b).mode != .armed then s else { s with lsd := { s.lsd with pulses := s.lsd.pulses ++ steps } }

/-- A pulse of a level lights on a bank, and its steps are scheduled. -/
def lightPulse (s : State) (b l : Nat) (steps : List PulseStep) : State := schedule (setPulse s b (some (some l))) b steps

theorem diagPulse_eq (s : State) (b l w : Nat) : diagPulse s b l w = lightPulse s b l [{ at_ := s.tsc + w, bank := b, what := none }] := rfl

theorem lightPulse_dark (h : (bankAt s b).mode ≠ .armed) (l : Nat) (steps : List PulseStep) : lightPulse s b l steps = s := by
  unfold lightPulse schedule
  rw [setPulse_dark h, if_pos (by simpa using h)]

/-- What a pulse changes that lights on an ARMED bank. -/
structure PulseLit (b l : Nat) (steps : List PulseStep) (s r : State) : Prop where
  effects : Effects [] codeNoise s r
  rest : codeRest r = codeRest s
  others : ∀ q, q ≠ b → bankAt r q = bankAt s q
  kept : StepsKept b s r
  lit : (bankAt r b).mode = .armed → (bankAt r b).pulse = some (some l) ∧ (bankAt r b).code = (appliedCode s b l (bankTrim s b)).1 ∧
    r.lsd.pulses = s.lsd.pulses ++ steps

theorem lightPulse_lit (h : (bankAt s b).mode = .armed) (l : Nat) (steps : List PulseStep) : PulseLit b l steps s (lightPulse s b l steps) := by
  have hb : b < 12 := bank_lt (fun hd => by rw [hd] at h; cases h)
  have hd := applyCode_drives (modBank s b (pulsed (some (some l)))) b true
  have hk := (StepsKept.of_lsd (b := b) (s := s) (r := modBank s b (pulsed (some (some l)))) rfl).trans (applyCode_steps _ b true)
  have hcode := applyCode_code (s := modBank s b (pulsed (some (some l)))) (b := b) true
  have hmod : bankAt (modBank s b (pulsed (some (some l)))) b = pulsed (some (some l)) (bankAt s b) := bankAt_modBank_same hb _
  have hforce : codeInForce (modBank s b (pulsed (some (some l)))) b = appliedCode s b l (bankTrim s b) := by
    simp only [codeInForce, bankLevel, appliedCode, bankScale, ceilingOf, hmod, pulsed]
    rfl
  have heff := (modBank_effects (E := codeNoise) s b (pulsed (some (some l)))).quiet hd.effects
  have hrest : codeRest (applyCode (modBank s b (pulsed (some (some l)))) b true) = codeRest s := hd.rest
  have hoth (q : Nat) (hq : q ≠ b) : bankAt (applyCode (modBank s b (pulsed (some (some l)))) b true) q = bankAt s q :=
    (hd.others q hq).trans (bankAt_modBank_ne hq _)
  have harm := hd.armed
  rw [lightPulse, setPulse_armed h]
  rw [hforce] at hcode
  clear hd
  generalize applyCode (modBank s b (pulsed (some (some l)))) b true = x at *
  unfold schedule
  split
  · rename_i hn
    exact ⟨heff, hrest, hoth, hk, fun ha => absurd ha (by simpa using hn)⟩
  · refine ⟨(heff.units (by rfl)), hrest, hoth, fun y hy hyb => List.mem_append_left _ (hk y hy hyb), fun ha => ?_⟩
    obtain ⟨-, h2, h3, -⟩ := harm ha
    refine ⟨?_, hcode ha, ?_⟩
    · show (bankAt x b).pulse = _
      rw [h3, hmod]
      rfl
    · show x.lsd.pulses ++ steps = _
      rw [h2]
      rfl

/-! ### The pulses of a pair -/

/-- The steps of a bank's two pulses. -/
def pairSteps (now w g l b : Nat) : List PulseStep :=
  (if g = 0 then [] else [{ at_ := now + w, bank := b, what := some none }])
    ++ [{ at_ := now + w + g, bank := b, what := some (some l) }, { at_ := now + 2 * w + g, bank := b, what := none }]

theorem pairSteps_bank {now w g l b : Nat} {x : PulseStep} (h : x ∈ pairSteps now w g l b) : x.bank = b := by
  unfold pairSteps at h
  split at h
  · rcases List.mem_pair.mp h with rfl | rfl <;> rfl
  · rcases List.mem_cons.mp h with rfl | h
    · rfl
    · rcases List.mem_pair.mp h with rfl | rfl <;> rfl

/-- An enabled bank lights the first pulse of a pair. -/
def pairPulse (l w g : Nat) (s : State) (b : Nat) : State :=
  if bankEnabled s b then lightPulse s b (l - 1) (pairSteps s.tsc w g l b) else s

/-- The pulses of a pair are on their way. -/
def pairBegun (s : State) (w g : Nat) : State := { s with lsd := { s.lsd with pairUntil := some (s.tsc + 2 * w + g) } }

theorem calPair_pair (h : 2 ≤ (cfg s).light.levelCount) (w g : Nat) :
    calPair s w g = forN 12 (pairPulse s.lsd.pairNext w g) (pairBegun s w g) := if_neg (Nat.not_lt.mpr h)

theorem calPair_none (h : (cfg s).light.levelCount < 2) (w g : Nat) : calPair s w g = s := if_pos h

/-- The first `n` banks have lit their first pulse. -/
structure PairLit (l w g : Nat) (s : State) (n : Nat) (t : State) : Prop where
  effects : Effects [] codeNoise s t
  rest : codeRest t = codeRest s
  untouched : ∀ b, n ≤ b ∨ (bankAt s b).mode ≠ .armed → bankAt t b = bankAt s b
  lit : ∀ b, b < n → bankEnabled s b = true → (bankAt t b).mode = .armed → (bankAt t b).pulse = some (some (l - 1)) ∧
    ∀ x ∈ pairSteps s.tsc w g l b, x ∈ t.lsd.pulses

theorem PairLit.step {l w g n : Nat} (h : PairLit l w g s n t) : PairLit l w g s (n + 1) (pairPulse l w g t n) := by
  have hbank : bankAt t n = bankAt s n := h.untouched n (.inl (Nat.le_refl n))
  have hen : bankEnabled t n = bankEnabled s n := bankEnabled_of_rest h.rest n
  have htsc : t.tsc = s.tsc := (congrArg (·.tsc) h.rest :)
  by_cases hact : bankEnabled t n = true ∧ (bankAt t n).mode = .armed
  · obtain ⟨he, ha⟩ := hact
    have hlit := lightPulse_lit ha (l - 1) (pairSteps t.tsc w g l n)
    rw [pairPulse, if_pos he]
    generalize lightPulse t n (l - 1) (pairSteps t.tsc w g l n) = x at *
    refine ⟨h.effects.quiet hlit.effects, hlit.rest.trans h.rest, fun b hb => ?_, fun b hb heb hab => ?_⟩
    · have hbn : b ≠ n := by
        rintro rfl
        rcases hb with hb | hb
        · omega
        · exact hb (hbank ▸ ha)
      rw [hlit.others b hbn]
      exact h.untouched b (hb.imp_left Nat.le_of_succ_le)
    · by_cases hbn : b = n
      · subst hbn
        obtain ⟨hp, -, hs⟩ := hlit.lit hab
        refine ⟨hp, fun y hy => ?_⟩
        rw [hs, htsc]
        exact List.mem_append_right _ hy
      · rw [hlit.others b hbn] at hab ⊢
        obtain ⟨hp, hs⟩ := h.lit b (by omega) heb hab
        exact ⟨hp, fun y hy => hlit.kept y (hs y hy) (by rw [pairSteps_bank hy]; exact hbn)⟩
  · have hsame : pairPulse l w g t n = t := by
      unfold pairPulse
      split
      · rename_i he
        exact lightPulse_dark (fun ha => hact ⟨he, ha⟩) _ _
      · rfl
    rw [hsame]
    refine ⟨h.effects, h.rest, fun b hb => h.untouched b (hb.imp_left Nat.le_of_succ_le), fun b hb heb hab => ?_⟩
    by_cases hbn : b = n
    · subst hbn
      exact absurd ⟨hen ▸ heb, hab⟩ hact
    · exact h.lit b (by omega) heb hab

theorem calPair_lit (h : 2 ≤ (cfg s).light.levelCount) (w g : Nat) :
    PairLit s.lsd.pairNext w g (pairBegun s w g) 12 (calPair s w g) := by
  rw [calPair_pair h]
  refine forN_inv (I := PairLit s.lsd.pairNext w g (pairBegun s w g)) ?_ (fun _ _ _ h => h.step)
  exact ⟨.refl _ _, rfl, fun _ _ => rfl, fun _ hb => absurd hb (Nat.not_lt_zero _)⟩

end
end Sys2Proof.Machine
end


section
/-! The correction of a level pair: what it makes of each bank's table (R232 to R234). -/

namespace Sys2Proof.Machine

section
variable {s r t : State} {b l : Nat} {q : PairRead}

/-- What the correction of a pair counts and reports. -/
def pairNoise (n : Nat) : Prop := n = 0x78 ∨ n = 0x30005C

/-- What the correction of a pair keeps. -/
def pairRest (s : State) : State := { calm s with
  lsd := { s.lsd with bank := Vector.replicate 12 {} }
  clr := {}
  cal := { s.cal with lastR := [] } }

theorem pairRest_calm (x : State) : pairRest x = pairRest (calm x) := rfl

theorem pairRest_of_calm (h : calm t = calm s) : pairRest t = pairRest s := by rw [pairRest_calm t, h, ← pairRest_calm]

/-! ### One bank -/

/-- The two readings of a bank's pair, of its upper level and of the one below. -/
def pairHigh (s : State) (l : Nat) (q : PairRead) : Nat := pulseMean s (pdChannel (pairInput s q.bank) (pairRange s q.bank l)) q.high

def pairLow (s : State) (l : Nat) (q : PairRead) : Nat := pulseMean s (pdChannel (pairInput s q.bank) (pairRange s q.bank l)) q.low

/-- The corrected code of a bank, and whether it changed. -/
def pairCode (s : State) (l : Nat) (q : PairRead) : Nat × Bool := correctLevel (bankAt s q.bank) l (pairHigh s l q) (pairLow s l q)

/-- A bank with a code of its table changed. -/
def retabled (l c : Nat) (x : Bank) : Bank := { x with table := x.table.set l c }

/-- The bank's code is corrected. -/
def pairCorrected (s : State) (l : Nat) (q : PairRead) : State :=
  if (pairCode s l q).2 then bump (modBank s q.bank (retabled l (pairCode s l q).1)) 0x30005C else s

theorem pairBank_parts (s : State) (l : Nat) (q : PairRead) : ∃ (v : Clr) (e : Nat × Bool) (n : Nat), pairBank s l q =
    (if n = 64 then report { pairCorrected s l q with
        clr := v
        cal := { (pairCorrected s l q).cal with
          lastR := mapSet (fun _ => none) (pairCorrected s l q).cal.lastR (16 * q.bank + l) (some e) } } { source := 0x78, master := q.bank }
      else { pairCorrected s l q with
        clr := v
        cal := { (pairCorrected s l q).cal with
          lastR := mapSet (fun _ => none) (pairCorrected s l q).cal.lastR (16 * q.bank + l) (some e) } }) := ⟨_, _, _, rfl⟩

/-- What the correction of one bank changes. -/
structure PairJudged (l : Nat) (q : PairRead) (s r : State) : Prop where
  effects : Effects [] pairNoise s r
  rest : pairRest r = pairRest s
  others : ∀ b, b ≠ q.bank → bankAt r b = bankAt s b
  table : q.bank < 12 → (bankAt r q.bank).table =
    if (pairCode s l q).2 then (bankAt s q.bank).table.set l (pairCode s l q).1 else (bankAt s q.bank).table
  ranges : ∀ b, b ≠ q.bank → pairRange r b l = pairRange s b l

theorem PairJudged.of_calm (h : PairJudged l q s r) (hc : calm t = calm r) (he : Effects [] pairNoise r t) : PairJudged l q s t where
  effects := h.effects.quiet he
  rest := (pairRest_of_calm hc).trans h.rest
  others b hb := (bankAt_of_calm hc b).trans (h.others b hb)
  table hb := by rw [bankAt_of_calm hc]; exact h.table hb
  ranges b hb := (calm_eq (fun x => pairRange x b l) hc).trans (h.ranges b hb)

theorem pairCorrected_judged (s : State) (l : Nat) (q : PairRead) : PairJudged l q s (pairCorrected s l q) := by
  unfold pairCorrected
  by_cases hc : (pairCode s l q).2 = true
  · have h1 : PairJudged l q s (modBank s q.bank (retabled l (pairCode s l q).1)) :=
      ⟨modBank_effects s _ _, rfl, fun b hb => bankAt_modBank_ne hb _,
        fun hb => by rw [if_pos hc, bankAt_modBank_same hb]; rfl, fun _ _ => rfl⟩
    rw [if_pos hc]
    exact h1.of_calm (calm_bump _ _) ((bump_adds _ (off := 0x30005C) rfl (by decide)).effects.drop (fun n hn => .inr (List.mem_singleton.mp hn)))
  · rw [if_neg hc]
    exact ⟨.refl _ s, rfl, fun _ _ => rfl, fun _ => (if_neg hc).symm, fun _ _ => rfl⟩

/-- The bank's judgement is noted. -/
def pairNoted (s : State) (v : Clr) (k : Nat) (e : Nat × Bool) : State := { s with
  clr := v
  cal := { s.cal with lastR := mapSet (fun _ => none) s.cal.lastR k (some e) } }

theorem PairJudged.noted (h : PairJudged l q s r) (v : Clr) (e : Nat × Bool) :
    PairJudged l q s (pairNoted r v (16 * q.bank + l) e) where
  effects := (h.effects.units (by rfl))
  rest := h.rest
  others := h.others
  table := h.table
  ranges b hb := by
    rw [← h.ranges b hb]
    unfold pairRange
    have hk : mapGet (fun _ => (none : Option (Nat × Bool))) (pairNoted r v (16 * q.bank + l) e).cal.lastR (16 * b + l) =
        mapGet (fun _ => none) r.cal.lastR (16 * b + l) := mapGet_mapSet_ne _ _ (by omega)
    rw [hk]

theorem pairBank_judged (s : State) (l : Nat) (q : PairRead) : PairJudged l q s (pairBank s l q) := by
  obtain ⟨v, e, n, he⟩ := pairBank_parts s l q
  have h1 : PairJudged l q s (pairNoted (pairCorrected s l q) v (16 * q.bank + l) e) := (pairCorrected_judged s l q).noted v e
  rw [he]
  split
  · exact h1.of_calm (calm_report _ _) ((report_adds _ _ (by exact of_decide_eq_true rfl) rfl rfl).effects.drop
      (fun n hn => .inl (List.mem_singleton.mp hn)))
  · exact h1

/-! ### Every enabled bank -/

/-- The reading of a bank. -/
def readOf (reads : List PairRead) (b : Nat) : PairRead := (reads.find? (fun q => q.bank == b)).getD { bank := b, high := [], low := [] }

theorem readOf_bank (reads : List PairRead) (b : Nat) : (readOf reads b).bank = b := by
  unfold readOf
  cases h : reads.find? (fun q => q.bank == b) with
  | none => rfl
  | some q => simpa using List.find?_some h

/-- An enabled bank's pair is corrected. -/
def pairStep (l : Nat) (reads : List PairRead) (s : State) (b : Nat) : State :=
  if bankEnabled s b then pairBank s l (readOf reads b) else s

/-- The pairs of the first `n` banks are corrected. -/
structure PairsJudged (l : Nat) (reads : List PairRead) (s : State) (n : Nat) (t : State) : Prop where
  effects : Effects [] pairNoise s t
  rest : pairRest t = pairRest s
  untouched : ∀ b, n ≤ b ∨ bankEnabled s b = false → bankAt t b = bankAt s b
  ranges : ∀ b, n ≤ b → pairRange t b l = pairRange s b l
  tables : ∀ b, b < n → b < 12 → bankEnabled s b = true → (bankAt t b).table =
    if (pairCode s l (readOf reads b)).2 then (bankAt s b).table.set l (pairCode s l (readOf reads b)).1 else (bankAt s b).table

theorem pairCode_of_rest (h : pairRest t = pairRest s) (hb : bankAt t q.bank = bankAt s q.bank)
    (hr : pairRange t q.bank l = pairRange s q.bank l) : pairCode t l q = pairCode s l q := by
  have hch : t.cal.ch = s.cal.ch := (congrArg (·.cal.ch) h :)
  have hlpe : t.lpe = s.lpe := (congrArg (·.lpe) h :)
  have hin : pairInput t q.bank = pairInput s q.bank := by
    unfold pairInput bankSlot
    rw [hlpe]
  have hmean (ch : Nat) (x : List Nat) : pulseMean t ch x = pulseMean s ch x := by
    unfold pulseMean
    have hc : correct t ch = correct s ch := by
      funext raw
      simp only [correct, calCh, hch]
    rw [hc]
  simp only [pairCode, pairHigh, pairLow, hb, hr, hin, hmean]

theorem PairsJudged.step {n : Nat} {reads : List PairRead} (h : PairsJudged l reads s n t) :
    PairsJudged l reads s (n + 1) (pairStep l reads t n) := by
  have hbank : bankAt t n = bankAt s n := h.untouched n (.inl (Nat.le_refl n))
  have hen : bankEnabled t n = bankEnabled s n := by
    have hc : cfg t = cfg s := (congrArg (fun x : State => cfg x) h.rest :)
    simp only [bankEnabled, hc]
  unfold pairStep
  rw [hen]
  by_cases he : bankEnabled s n = true
  · rw [if_pos he]
    have hj := pairBank_judged t l (readOf reads n)
    have hcode : pairCode t l (readOf reads n) = pairCode s l (readOf reads n) :=
      pairCode_of_rest h.rest (by rw [readOf_bank]; exact hbank) (by rw [readOf_bank]; exact h.ranges n (Nat.le_refl n))
    have hnq : (readOf reads n).bank = n := readOf_bank reads n
    refine ⟨h.effects.quiet hj.effects, hj.rest.trans h.rest, fun b hb => ?_, fun b hb => ?_, fun b hb hl heb => ?_⟩
    · have hbn : b ≠ n := by
        rintro rfl
        rcases hb with hb | hb
        · omega
        · rw [he] at hb
          cases hb
      rw [hj.others b (by rw [hnq]; exact hbn)]
      exact h.untouched b (hb.imp_left Nat.le_of_succ_le)
    · rw [hj.ranges b (by rw [hnq]; omega)]
      exact h.ranges b (by omega)
    · by_cases hbn : b = n
      · subst hbn
        have htab := hj.table (by rw [hnq]; exact hl)
        rwa [hcode, hnq, hbank] at htab
      · rw [hj.others b (by rw [hnq]; exact hbn)]
        exact h.tables b (by omega) hl heb
  · rw [if_neg he]
    refine ⟨h.effects, h.rest, fun b hb => h.untouched b (hb.imp_left Nat.le_of_succ_le), fun b hb => h.ranges b (by omega),
      fun b hb hl heb => ?_⟩
    have hbn : b ≠ n := by
      rintro rfl
      exact he heb
    exact h.tables b (by omega) hl heb

/-! ### The correction -/

/-- Every enabled bank's pair is corrected. -/
def pairsDone (s : State) (reads : List PairRead) : State := forN 12 (pairStep s.lsd.pairNext reads) s

theorem pairsDone_judged (s : State) (reads : List PairRead) : PairsJudged s.lsd.pairNext reads s 12 (pairsDone s reads) := by
  refine forN_inv (I := PairsJudged s.lsd.pairNext reads s) ?_ (fun _ _ _ h => h.step)
  exact ⟨.refl _ _, rfl, fun _ _ => rfl, fun _ _ => rfl, fun _ hb => absurd hb (Nat.not_lt_zero _)⟩

/-- The pair that follows. -/
def nextPair (s : State) : Nat := if s.lsd.pairNext + 1 < (cfg s).light.levelCount then s.lsd.pairNext + 1 else 1

/-- The correction of a pair is over. -/
def pairOver (r : State) (next : Nat) (v : Clr) : State := { r with
  clr := v
  lsd := { r.lsd with
    pairNext := next
    pairUntil := none } }

theorem levelPair_idle (h : (cfg s).light.levelCount < 2 ∨ s.lsd.pairUntil = none ∨ ∃ e, s.lsd.pairUntil = some e ∧ s.tsc < e)
    (reads : List PairRead) : levelPair s reads = s := by
  refine if_pos ?_
  rcases h with h | h | ⟨e, h, he⟩
  · rw [decide_eq_true h, Bool.true_or]
  · rw [h]
    exact Bool.or_true _
  · rw [h, show (some e).elim false (fun t => decide (t ≤ s.tsc)) = false from decide_eq_false (Nat.not_le.mpr he)]
    exact Bool.or_true _

theorem levelPair_due {e : Nat} (h : 2 ≤ (cfg s).light.levelCount) (hu : s.lsd.pairUntil = some e) (he : e ≤ s.tsc) (reads : List PairRead) :
    ∃ v : Clr, levelPair s reads = pairOver (pairsDone s reads) (nextPair s) v ∧ v.pair = s.lsd.pairNext := by
  have hc : ¬ ((decide ((cfg s).light.levelCount < 2) || !s.lsd.pairUntil.elim false (fun t => decide (t ≤ s.tsc))) = true) := by
    rw [hu]
    have h1 : 1 < (cfg s).light.levelCount := h
    simpa [he] using h1
  unfold levelPair
  extract_lets n l s1 next s2
  rw [if_neg hc]
  have hs1 : s1 = pairsDone s reads := rfl
  split
  · exact ⟨_, rfl, rfl⟩
  · exact ⟨_, rfl, rfl⟩

/-- A corrected code moves by at most 16, and stays in range. -/
theorem correctLevel_bounds (x : Bank) (l rm rl : Nat) (h : x.table.getD l 0 ≤ codeMax x) :
    (((correctLevel x l rm rl).1 : Int) - x.table.getD l 0).natAbs ≤ 16 ∧ (correctLevel x l rm rl).1 ≤ codeMax x := by
  unfold correctLevel
  extract_lets c e q step
  have hc : c = (x.table.getD l 0 : Nat) := rfl
  have hq : -16 ≤ q ∧ q ≤ 16 := by
    show -16 ≤ clampI (-16) 16 _ ∧ clampI (-16) 16 _ ≤ 16
    unfold clampI
    omega
  have hstep : -16 ≤ step ∧ step ≤ 16 := by
    show -16 ≤ (if rl = 0 then 16 else if q = 0 then (if 0 < e then -1 else 1) else q) ∧
      (if rl = 0 then 16 else if q = 0 then (if 0 < e then -1 else 1) else q) ≤ 16
    split
    · decide
    · split
      · split <;> decide
      · exact hq
  clear_value step q e c
  subst hc
  split
  · unfold clampI
    dsimp only
    omega
  · dsimp only
    omega

theorem correctLevel_kept (x : Bank) (l : Nat) {rm rl : Nat} (h : (2 * (rl : Int) - rm).natAbs * 1024 ≤ rm) :
    (correctLevel x l rm rl).2 = false := by
  unfold correctLevel
  extract_lets c e q step
  rw [if_neg]
  show ¬ ((2 * (rl : Int) - rm).natAbs : Int) * 1024 > rm
  omega

theorem correctLevel_changed (x : Bank) (l : Nat) {rm rl : Nat} (h : rm < (2 * (rl : Int) - rm).natAbs * 1024) :
    (correctLevel x l rm rl).2 = true := by
  unfold correctLevel
  extract_lets c e q step
  rw [if_pos]
  show ((2 * (rl : Int) - rm).natAbs : Int) * 1024 > rm
  omega

end
end Sys2Proof.Machine
end


section
/-! The events of the other beads, and of the correction of a level pair (R232 to R234, R264, R326, R328, R349, R377, R397, R425,
R429). -/

namespace Sys2Proof.Machine

section
variable {s r t : State} {i : Instr} {how : BeadCome} {b d : Bead} {late f : State → State}

/-! ### Where the rows stand -/

theorem exec_diagPulse (rod : Fin 64) (tm : BitVec 32) (how : BeadCome) (b : Fin 12) (l : Fin 16) (w : BitVec 16) (s : State) :
    exec (.diagPulse rod tm how b l w) s = .next (event s (beadRun how (pulseRow rod tm b l w) (lateBead (pulseRow rod tm b l w) id)
      (fun s => diagPulse s b.val l.val w.toNat))) := congrArg Host.Outcome.next (bead_eq s _ _ _ _)

theorem exec_calPair (rod : Fin 64) (tm : BitVec 32) (how : BeadCome) (w g : BitVec 16) (s : State) :
    exec (.calPair rod tm how w g) s = .next (event s (beadRun how (pairRow rod tm w g) (lateBead (pairRow rod tm w g) id)
      (fun s => calPair s w.toNat g.toNat))) := congrArg Host.Outcome.next (bead_eq s _ _ _ _)

theorem exec_dramSlot (rod : Fin 64) (tm : BitVec 32) (how : BeadCome) (tr : Bool) (ch pe co : BitVec 16) (s : State) :
    exec (.dramSlot rod tm how tr ch pe co) s = .next (event s (beadRun how (dramRow rod tm tr ch pe co)
      (lateBead (dramRow rod tm tr ch pe co) id)
      (fun s => if tr then trainingBead s ch.toNat co.toNat else refreshBead s ch.toNat pe.toNat co.toNat))) :=
  congrArg Host.Outcome.next (bead_eq s _ _ _ _)

theorem exec_darkSpan (rod : Fin 64) (tm : BitVec 32) (how : BeadCome) (le : BitVec 32) (s : State) :
    exec (.darkSpan rod tm how le) s = .next (event s (beadRun how (darkRow rod tm le) (lateBead (darkRow rod tm le) id) darkSpan)) :=
  congrArg Host.Outcome.next (bead_eq s _ _ _ _)

theorem exec_scanLine (rod : Fin 64) (tm : BitVec 32) (how : BeadCome) (f n : BitVec 16) (pe : BitVec 32) (s : State) :
    exec (.scanLine rod tm how f n pe) s = .next (event s (beadRun how (scanRow rod tm f n pe)
      (scannerBead (lateBead (scanRow rod tm f n pe) id)) (scannerBead (fun s => scanLine s f.toNat n.toNat pe.toNat)))) :=
  congrArg Host.Outcome.next (bead_eq s _ _ _ _)

theorem exec_levelPair (reads : List PairRead) (s : State) :
    exec (.levelPairCorrection reads) s = .next (event s (fun s => levelPair s reads)) := rfl

/-- A bead that does at its effect time what changes the drive alone. -/
theorem exec_bead_driven (hi : exec i s = .next (event s (beadRun .effect d late f))) (h : Live s) (hd : beadDue s .effect d = true)
    (he : Effects [] codeNoise (noteIssue s .effect d) (f (noteIssue s .effect d))) :
    ∃ t, exec i s = .next t ∧ calm t = calm (f (noteIssue s .effect d)) := by
  have hr : beadRun .effect d late f s = f (noteIssue s .effect d) := beadRun_effect hd
  obtain ⟨t, ht, done⟩ := exec_done hi h (C := []) (E := codeNoise) (by
    rw [hr]
    exact (noteIssue_effects codeNoise s .effect d).quiet he)
  rw [hr] at done
  exact ⟨t, ht, done.quiet (fun n hl hn => hn.elim (fun h => nomatch h) (codeNoise_quiet n hl))⟩

theorem calm_of_codeRest (h : codeRest t = codeRest s) : calm t = calm { s with
    lsd := t.lsd
    lpe := t.lpe
    pins := t.pins } :=
  congrArg (fun x : State => { x with
    lsd := t.lsd
    lpe := t.lpe
    pins := t.pins }) h

/-- The same, said of a state alike. -/
theorem calm_driven {x : State} (h : codeRest r = codeRest x) (hc : calm t = calm r) : calm t = calm { x with
    lsd := t.lsd
    lpe := t.lpe
    pins := t.pins } := by
  have hl : t.lsd = r.lsd := (calm_eq (·.lsd) hc :)
  have hp : t.lpe = r.lpe := (calm_eq (·.lpe) hc :)
  have hq : t.pins = r.pins := (calm_eq (·.pins) hc :)
  rw [hc, hl, hp, hq]
  exact calm_of_codeRest h

/-! ### Windows -/

theorem vmod_fixed {β : Type} {n : Nat} (v : Vector β n) (i : Nat) {f : β → β} (d : β) (h : f (vget v i d) = vget v i d) : vmod v i f = v := by
  rw [vmod_congr v i f id d h]
  unfold vmod
  split
  · simp
  · rfl

/-- A slot of KIND 1 has its window opened or closed. -/
def windowed (o : Bool) (x : Slot) : Slot := if x.kind = 1 then { x with window := o } else x

theorem windowBead_eq (s : State) (m : Nat) (o : Bool) : windowBead s m o = forMask 24 m (fun s i => modSlot s i (windowed o)) s := by
  unfold windowBead
  congr 1
  funext s i
  split
  · rename_i hk
    unfold modSlot
    rw [vmod_congr s.lpe.slot i (windowed o) (fun x => { x with window := o }) {} (if_pos hk)]
  · rename_i hk
    unfold modSlot
    rw [vmod_fixed (f := windowed o) s.lpe.slot i {} (if_neg hk)]

/-! ### Pauses -/

/-- A channel in fall-back uses one of its pauses. -/
def pauseUsed (x : Chan) : Chan := if x.mode = .fallback then { x with pauses := x.pauses + 1 } else x

/-- A pause opens. -/
def pauseOpened (s : State) (chans count : Nat) : State := { s with mem := { s.mem with
  pause := chans
  pauseEnd := s.tsc + count
  stepFrom := s.tsc } }

theorem trainingBead_eq (s : State) (m n : Nat) :
    trainingBead s m n = forMask 16 m (fun s c => modChan s c pauseUsed) (pauseOpened s m n) := by
  have he : trainingBead s m n = forMask 16 m (fun s c => if (chan s c).mode == .fallback then
      modChan s c (fun x => { x with pauses := x.pauses + 1 }) else s) (pauseOpened s m n) := rfl
  rw [he]
  congr 1
  funext s c
  by_cases hk : (chan s c).mode = .fallback
  · rw [if_pos (by rw [hk]; rfl)]
    unfold modChan
    rw [vmod_congr s.mem.ch c pauseUsed (fun x => { x with pauses := x.pauses + 1 }) {} (if_pos hk)]
  · rw [if_neg (by simpa using hk)]
    unfold modChan
    rw [vmod_fixed (f := pauseUsed) s.mem.ch c {} (if_neg hk)]

/-- A change of some of the channels changes nothing else. -/
theorem forMask_modChan (f : Chan → Chan) (mask : Nat) (s : State) : ∃ v, forMask 16 mask (fun s i => modChan s i f) s =
    { s with mem := { s.mem with ch := v } } ∧ ∀ i, vget v i {} = if i < 16 ∧ bitAt mask i = true then f (chan s i) else chan s i := by
  have hfold : ∀ (l : List Nat) (s : State), l.foldl (fun s i => if bitAt mask i then modChan s i f else s) s =
      { s with mem := { s.mem with ch := l.foldl (fun v i => if bitAt mask i then vmod v i f else v) s.mem.ch } } := by
    intro l
    induction l with
    | nil => exact fun _ => rfl
    | cons c l ih =>
      intro s
      rw [List.foldl_cons, List.foldl_cons, ih]
      split <;> rfl
  exact ⟨_, hfold (List.range 16) s, fun i => vget_foldl_vmod (bitAt mask) (fun _ => f) s.mem.ch 16 (Nat.le_refl 16) i {}⟩

/-! ### The clauses -/

theorem exec_level_due {rod : Fin 64} {tm : BitVec 32} {c : Fin 3} {l : Option (Fin 16)} (h : Live s)
    (hd : beadDue s .effect (levelRow rod tm c l) = true) (hc : bitAt s.rck.containPrims c.val = false) :
    ∃ t, exec (.level rod tm .effect c l) s = .next t ∧ calm t = calm (levelBead (noteIssue s .effect (levelRow rod tm c l)) c.val (l.map (·.val))) := by
  have hact : primaryBead c.val (fun s => levelBead s c.val (l.map (·.val))) (noteIssue s .effect (levelRow rod tm c l)) =
      levelBead (noteIssue s .effect (levelRow rod tm c l)) c.val (l.map (·.val)) :=
    primaryBead_acts (s := noteIssue s .effect (levelRow rod tm c l)) hc _
  obtain ⟨t, ht, hcalm⟩ := exec_bead_driven (exec_level rod tm .effect c l s) h hd (by
    rw [hact]
    exact (levelSet_effects codeNoise _ c.val _).quiet (levelBead_taken _ c.val _).effects)
  rw [hact] at hcalm
  exact ⟨t, ht, hcalm⟩

/-- The code that a level puts in force on a bank of its primary. -/
theorem codeInForce_levelSet {c : Nat} {q : Nat} (l : Option Nat) (hp : (bankAt s q).prim = c) (hl : c < s.lsd.level.length)
    (hn : (bankAt s q).pulse = none) : (codeInForce (levelSet s c l) q).1 =
      match l with
      | none => 0
      | some x => (appliedCode s q x (bankTrim s q)).1 := by
  have hlev : bankLevel (levelSet s c l) q = l := by
    unfold bankLevel
    have hb : bankAt (levelSet s c l) q = bankAt s q := rfl
    rw [hb, hn, hp]
    show (s.lsd.level.set c l).getD c none = l
    rw [List.getD_eq_getElem?_getD, List.getElem?_set_self hl]
    rfl
  unfold codeInForce
  rw [hlev]
  cases l <;> rfl

theorem exec_window_due {rod : Fin 64} {tm : BitVec 32} {m : BitVec 24} {o : Bool} (h : Live s)
    (hd : beadDue s .effect (windowRow rod tm m o) = true) :
    ∃ t, exec (.window rod tm .effect m o) s = .next t ∧
      (∀ i, i < 24 → slotAt t i =
        if bitAt m.toNat i = true ∧ (slotAt s i).kind = 1 then { slotAt s i with window := o } else slotAt s i) ∧
      t = { noteIssue s .effect (windowRow rod tm m o) with lpe := { s.lpe with slot := t.lpe.slot } } := by
  obtain ⟨v, hv, hs⟩ := forMask_modSlot (windowed o) m.toNat (noteIssue s .effect (windowRow rod tm m o))
  rw [← windowBead_eq] at hv
  refine ⟨_, exec_unit_quiet (exec_window rod tm .effect m o s) h ((beadRun_effect hd).trans hv) h.toSteady.quiet, fun i hi => ?_, rfl⟩
  refine (hs i hi).trans ?_
  have hx : slotAt (noteIssue s .effect (windowRow rod tm m o)) i = slotAt s i := rfl
  rw [hx]
  by_cases hb : bitAt m.toNat i = true
  · by_cases hk : (slotAt s i).kind = 1
    · rw [if_pos hb, if_pos ⟨hb, hk⟩, windowed, if_pos hk]
    · rw [if_pos hb, if_neg (fun hx => hk hx.2), windowed, if_neg hk]
  · rw [if_neg hb, if_neg (fun hx => hb hx.1)]

theorem exec_training_due {rod : Fin 64} {tm : BitVec 32} {ch pe co : BitVec 16} (h : Live s)
    (hd : beadDue s .effect (dramRow rod tm true ch pe co) = true) :
    ∃ t, exec (.dramSlot rod tm .effect true ch pe co) s = .next t ∧ t.mem.pause = ch.toNat ∧
      t.mem.pauseEnd = s.tsc + co.toNat ∧
      (∀ c, c < 16 → chan t c = if bitAt ch.toNat c = true ∧ (chan s c).mode = .fallback then
        { chan s c with pauses := (chan s c).pauses + 1 } else chan s c) ∧
      t = { noteIssue s .effect (dramRow rod tm true ch pe co) with mem := t.mem } := by
  obtain ⟨v, hv, hs⟩ := forMask_modChan pauseUsed ch.toNat (pauseOpened (noteIssue s .effect (dramRow rod tm true ch pe co)) ch.toNat co.toNat)
  rw [← trainingBead_eq] at hv
  refine ⟨_, exec_unit_quiet (exec_dramSlot rod tm .effect true ch pe co s) h ((beadRun_effect hd).trans hv) h.toSteady.quiet,
    rfl, rfl, fun c hc => ?_, rfl⟩
  refine (hs c).trans ?_
  have hx : chan (pauseOpened (noteIssue s .effect (dramRow rod tm true ch pe co)) ch.toNat co.toNat) c = chan s c := rfl
  rw [hx]
  by_cases hb : bitAt ch.toNat c = true
  · by_cases hk : (chan s c).mode = .fallback
    · rw [if_pos ⟨hc, hb⟩, if_pos ⟨hb, hk⟩, pauseUsed, if_pos hk]
    · rw [if_pos ⟨hc, hb⟩, if_neg (fun hx => hk hx.2), pauseUsed, if_neg hk]
  · rw [if_neg (fun hx => hb hx.2), if_neg (fun hx => hb hx.1)]

theorem exec_dark_due {rod : Fin 64} {tm le : BitVec 32} (h : Live s) (hd : beadDue s .effect (darkRow rod tm le) = true) :
    exec (.darkSpan rod tm .effect le) s = .next (if s.rck.k = 0 ∧ 0 < s.ftg.holdNow then
      { noteIssue s .effect (darkRow rod tm le) with ftg := { s.ftg with hold := some (s.tsc, s.ftg.holdNow) } }
      else noteIssue s .effect (darkRow rod tm le)) := by
  have hrun := beadRun_effect (late := lateBead (darkRow rod tm le) id) (f := darkSpan) hd
  have hhold : s.ftg.hold = none := by
    unfold beadDue issuing at hd
    simp only [Bool.and_eq_true, Option.isNone_iff_eq_none] at hd
    exact hd.1.1.2
  have hspan : darkSpan (noteIssue s .effect (darkRow rod tm le)) = if s.rck.k = 0 ∧ 0 < s.ftg.holdNow then
      { noteIssue s .effect (darkRow rod tm le) with ftg := { s.ftg with hold := some (s.tsc, s.ftg.holdNow) } }
      else noteIssue s .effect (darkRow rod tm le) := by
    have hc : (s.rck.k = 0 ∧ 0 < s.ftg.holdNow ∧ s.ftg.hold = none) ↔ (s.rck.k = 0 ∧ 0 < s.ftg.holdNow) := by
      simp [hhold]
    exact if_congr hc rfl rfl
  rw [hspan] at hrun
  refine exec_unit_quiet (exec_darkSpan rod tm .effect le s) h hrun ?_ ?_
  · split <;> exact h.toSteady.quiet
  · split <;> rfl

theorem exec_scan_parked {rod : Fin 64} {tm pe : BitVec 32} {f n : BitVec 16} (h : Live s) (hw : how = .effect ∨ how = .late)
    (hd : beadDue s how (scanRow rod tm f n pe) = true) (hm : s.hls.mode ≠ .running) :
    ∃ t, exec (.scanLine rod tm how f n pe) s = .next t ∧ tally t 0x400084 = min (tally s 0x400084 + 1) tallyMax ∧
      calm t = calm (noteIssue s how (scanRow rod tm f n pe)) := by
  have hp (g : State → State) : scannerBead g (noteIssue s how (scanRow rod tm f n pe)) = discardBead (noteIssue s how (scanRow rod tm f n pe)) :=
    if_neg (show ¬ (s.hls.mode == .running) = true by simpa using hm)
  have hrun : beadRun how (scanRow rod tm f n pe) (scannerBead (lateBead (scanRow rod tm f n pe) id))
      (scannerBead (fun s => scanLine s f.toNat n.toNat pe.toNat)) s = discardBead (noteIssue s how (scanRow rod tm f n pe)) := by
    rcases hw with rfl | rfl
    · exact (beadRun_effect hd).trans (hp _)
    · exact (beadRun_late hd).trans (hp _)
  obtain ⟨t, hx, done⟩ := exec_done (exec_scanLine rod tm how f n pe s) h (C := [0x400084]) (E := exactly) (by
    rw [hrun]
    exact (noteIssue_effects exactly s how _).adds (bump_adds _ (off := 0x400084) rfl (by decide)))
  rw [hrun] at done
  refine ⟨t, hx, done.tallies 0x400084 (by decide) rfl (fun h => h), (done.calm fun n hn hl => ?_).trans (calm_bump _ _)⟩
  rw [List.mem_singleton.mp hn] at hl
  exact absurd hl (by decide)

end
end Sys2Proof.Machine
end


section
/-! Light tests and level pairs at their time: the events (R232 to R234, R326). -/

namespace Sys2Proof.Machine

section
variable {s r t : State}

theorem exec_pulse_due {rod : Fin 64} {tm : BitVec 32} {b : Fin 12} {l : Fin 16} {w : BitVec 16} (h : Live s)
    (hd : beadDue s .effect (pulseRow rod tm b l w) = true) (hm : (bankAt s b.val).mode = .armed) :
    ∃ t, exec (.diagPulse rod tm .effect b l w) s = .next t ∧
      (∀ x, x < 12 → x ≠ b.val → bankAt t x = bankAt s x) ∧
      ((bankAt t b.val).mode = .armed → (bankAt t b.val).pulse = some (some l.val) ∧
        (bankAt t b.val).code = (appliedCode s b.val l.val (bankTrim s b.val)).1 ∧
        t.lsd.pulses = s.lsd.pulses ++ [{ at_ := s.tsc + w.toNat, bank := b.val, what := none }]) ∧
      calm t = calm { noteIssue s .effect (pulseRow rod tm b l w) with lsd := t.lsd, lpe := t.lpe, pins := t.pins } := by
  have hlit := lightPulse_lit (s := noteIssue s .effect (pulseRow rod tm b l w)) hm l.val
    [{ at_ := s.tsc + w.toNat, bank := b.val, what := none }]
  obtain ⟨t, ht, hcalm⟩ := exec_bead_driven (exec_diagPulse rod tm .effect b l w s) h hd hlit.effects
  replace hcalm : calm t = calm (lightPulse (noteIssue s .effect (pulseRow rod tm b l w)) b.val l.val
    [{ at_ := s.tsc + w.toNat, bank := b.val, what := none }]) := hcalm
  generalize lightPulse (noteIssue s .effect (pulseRow rod tm b l w)) b.val l.val
    [{ at_ := s.tsc + w.toNat, bank := b.val, what := none }] = r at *
  have hlsd : t.lsd = r.lsd := (calm_eq (·.lsd) hcalm :)
  have hbank (x : Nat) : bankAt t x = bankAt r x := bankAt_of_calm hcalm x
  refine ⟨t, ht, fun x _ hx => ?_, fun ha => ?_, calm_driven hlit.rest hcalm⟩
  · rw [hbank]
    exact hlit.others x hx
  · rw [hbank] at ha ⊢
    rw [hlsd]
    exact hlit.lit ha

theorem exec_pair_due {rod : Fin 64} {tm : BitVec 32} {w g : BitVec 16} (h : Live s)
    (hd : beadDue s .effect (pairRow rod tm w g) = true) (hn : 2 ≤ (cfg s).light.levelCount) :
    ∃ t, exec (.calPair rod tm .effect w g) s = .next t ∧ t.lsd.pairNext = s.lsd.pairNext ∧
      t.lsd.pairUntil = some (s.tsc + 2 * w.toNat + g.toNat) ∧
      (∀ b, b < 12 → bankEnabled s b = true → (bankAt t b).mode = .armed →
        (bankAt t b).pulse = some (some (s.lsd.pairNext - 1)) ∧
        { at_ := s.tsc + w.toNat + g.toNat, bank := b, what := some (some s.lsd.pairNext) } ∈ t.lsd.pulses ∧
        { at_ := s.tsc + 2 * w.toNat + g.toNat, bank := b, what := none } ∈ t.lsd.pulses) ∧
      (∀ b, b < 12 → (bankAt s b).mode ≠ .armed → bankAt t b = bankAt s b) ∧
      calm t = calm { noteIssue s .effect (pairRow rod tm w g) with lsd := t.lsd, lpe := t.lpe, pins := t.pins } := by
  have hlit := calPair_lit (s := noteIssue s .effect (pairRow rod tm w g)) hn w.toNat g.toNat
  obtain ⟨t, ht, hcalm⟩ := exec_bead_driven (exec_calPair rod tm .effect w g s) h hd (.quiet ((Effects.refl _ _).units (by rfl)) hlit.effects)
  generalize calPair (noteIssue s .effect (pairRow rod tm w g)) w.toNat g.toNat = r at *
  have hlsd : t.lsd = r.lsd := (calm_eq (·.lsd) hcalm :)
  have hbank (x : Nat) : bankAt t x = bankAt r x := bankAt_of_calm hcalm x
  have hnext : r.lsd.pairNext = s.lsd.pairNext := (congrArg (·.lsd.pairNext) hlit.rest :)
  have huntil : r.lsd.pairUntil = some (s.tsc + 2 * w.toNat + g.toNat) := (congrArg (·.lsd.pairUntil) hlit.rest :)
  have hdriven := calm_driven hlit.rest hcalm
  refine ⟨t, ht, by rw [hlsd, hnext], by rw [hlsd, huntil], fun b hb he ha => ?_, fun b hb hm => ?_, ?_⟩
  · rw [hbank] at ha ⊢
    obtain ⟨hp, hs⟩ := hlit.lit b hb he ha
    rw [hlsd]
    exact ⟨hp, hs _ (List.mem_append_right _ List.mem_cons_self),
      hs _ (List.mem_append_right _ (List.mem_cons_of_mem _ List.mem_cons_self))⟩
  · rw [hbank]
    exact hlit.untouched b (.inr hm)
  · exact hdriven

/-! ### The correction of a pair -/

theorem calm_of_pairRest (h : pairRest t = pairRest s) : calm t = calm { s with
    lsd := t.lsd
    clr := t.clr
    cal := t.cal } :=
  congrArg (fun x : State => { x with
    lsd := t.lsd
    clr := t.clr
    cal := t.cal }) h

/-- After reactions the rest is as it was. -/
theorem Reacts.calm_pairs (h : Reacts r t) (hr : pairRest r = pairRest { s with lsd := r.lsd }) : calm t = calm { s with
    lsd := t.lsd
    clr := t.clr
    cal := t.cal
    pins := t.pins
    lpe := t.lpe
    plk := t.plk
    rck := t.rck
    hls := t.hls } := by
  have hc := calm_of_pairRest hr
  obtain ⟨o, hm, ta, re, fl, dr, bw, po, ls, pi, lp, pk, rc, hl, rfl⟩ := h.frame
  exact congrArg (fun x : State => { x with
    lsd := ls
    pins := pi
    lpe := lp
    plk := pk
    rck := rc
    hls := hl }) hc

/-- What the correction of a pair leaves of the state. -/
theorem exec_pair_corrected (reads : List PairRead) {e : Nat} (h : Live s) (hn : 2 ≤ (cfg s).light.levelCount)
    (hu : s.lsd.pairUntil = some e) (he : e ≤ s.tsc) :
    ∃ t, exec (.levelPairCorrection reads) s = .next t ∧ t.lsd.pairNext = nextPair s ∧
      t.lsd.pairUntil = none ∧ t.clr.pair = s.lsd.pairNext ∧ PinsDown s t ∧
      (∀ b, b < 12 → bankEnabled s b = true → (bankAt t b).table =
        if (pairCode s s.lsd.pairNext (readOf reads b)).2 then
          (bankAt s b).table.set s.lsd.pairNext (pairCode s s.lsd.pairNext (readOf reads b)).1 else (bankAt s b).table) ∧
      (∀ b, b < 12 → bankEnabled s b = false → (bankAt t b).table = (bankAt s b).table) ∧
      calm t = calm { s with
        lsd := t.lsd, clr := t.clr, cal := t.cal, pins := t.pins, lpe := t.lpe, plk := t.plk, rck := t.rck, hls := t.hls } := by
  obtain ⟨v, hv, hpair⟩ := levelPair_due hn hu he reads
  have hj := pairsDone_judged s reads
  have heff : Effects [] pairNoise s (levelPair s reads) := by
    rw [hv]
    exact (hj.effects.units (by rfl))
  obtain ⟨t, ht, done⟩ := exec_done (exec_levelPair reads s) h heff
  have hkept := banksKept_stable.done (exec_levelPair reads s) h heff ht
  rw [hv] at hkept done
  have hlsd : t.lsd.pairNext = nextPair s ∧ t.lsd.pairUntil = none ∧ t.clr.pair = s.lsd.pairNext :=
    ⟨(congrArg (·.lsd.pairNext) done.rest :), (congrArg (·.lsd.pairUntil) done.rest :), (congrArg (·.clr.pair) done.rest :).trans hpair⟩
  obtain ⟨hnext, huntil, hclr⟩ := hlsd
  have htable (b : Nat) : (bankAt t b).table = (bankAt (pairsDone s reads) b).table := rested_eq (·.table) (hkept b).rested
  have hp : (pairsDone s reads).pins = s.pins := (congrArg (·.pins) hj.rest :)
  have hpins : PinsDown s t := (PinsDown.same (t := pairOver (pairsDone s reads) (nextPair s) v) hp).trans done.pins
  refine ⟨t, ht, hnext, huntil, hclr, hpins, fun b hb heb => ?_, fun b hb heb => ?_, done.ends.reacts.calm_pairs ?_⟩
  · rw [htable]
    exact hj.tables b hb hb heb
  · rw [htable, hj.untouched b (.inr heb)]
  · exact congrArg (fun x : State => { x with
      lsd := { (pairOver (pairsDone s reads) (nextPair s) v).lsd with bank := Vector.replicate 12 {} } }) hj.rest

theorem readOf_found {reads : List PairRead} {b : Nat} {q : PairRead} (h : reads.find? (fun r => r.bank == b) = some q) :
    readOf reads b = q := by
  unfold readOf
  rw [h]
  rfl

end

/-- Settles O37: each bead by what its event does, and the correction of a pair bank by bank. -/
theorem otherBeadsAndLevelPairs : Obligations.OtherBeadsAndLevelPairs := by
  unfold Obligations.OtherBeadsAndLevelPairs
  refine ⟨fun s rod tm c l d h hdd hd hc => ?level, fun s rod tm m o d h hdd hd => ?window,
    fun s rod tm b l w d h hdd hd hm => ?pulseDark, fun s rod tm b l w d h hdd hd hm => ?pulse,
    fun s rod tm w g d h hdd hd hn => ?pair, fun s rod tm w g d h hdd hd hn => ?noPair,
    fun s rod tm ch pe co d h hdd hd => ?refresh, fun s rod tm ch pe co d h hdd hd => ?training,
    fun s rod tm le d h hdd hd => ?darkSpan, fun s rod tm pe f n d h hdd hd hm => ?scan,
    fun s rod tm pe how f n d h hdd hw hd hm => ?scanParked, fun s reads h hi => ?idle, fun s reads e h hn hu he => ?correct⟩
  case level =>
    subst hdd
    obtain ⟨t, ht, hcalm⟩ := exec_level_due h hd hc
    have hj := levelBead_taken (noteIssue s .effect (levelRow rod tm c l)) c.val (l.map (·.val))
    generalize levelBead (noteIssue s .effect (levelRow rod tm c l)) c.val (l.map (·.val)) = r at *
    have hbank (x : Nat) : bankAt t x = bankAt r x := bankAt_of_calm hcalm x
    have hlevel : r.lsd.level = s.lsd.level.set c.val (l.map (·.val)) := (congrArg (·.lsd.level) hj.rest :)
    have hlsd : t.lsd = r.lsd := (calm_eq (·.lsd) hcalm :)
    refine ⟨t, ht, by rw [hlsd, hlevel], ?_, fun b hb heb hp hlen hn ha => ?_, fun b hb hor => ?_, ?_⟩
    · exact (PinsDown.same (s := s) (t := levelSet (noteIssue s .effect (levelRow rod tm c l)) c.val (l.map (·.val))) rfl).trans (hj.pins.trans (.same (calm_eq (·.pins) hcalm)))
    · rw [hbank] at ha ⊢
      rw [hj.codes b hb heb hp ha, codeInForce_levelSet (s := noteIssue s .effect (levelRow rod tm c l)) (l.map (·.val)) hp hlen hn]
      cases l <;> rfl
    · rw [hbank]
      exact hj.untouched b (.inr hor)
    · exact (calm_driven hj.rest hcalm).trans rfl
  case window => subst hdd; exact exec_window_due h hd
  case pulseDark =>
    subst hdd
    exact exec_unit_quiet (exec_diagPulse rod tm .effect b l w s) h
      ((beadRun_effect hd).trans (lightPulse_dark (s := noteIssue s .effect (pulseRow rod tm b l w)) hm _ _)) h.toSteady.quiet
  case pulse => subst hdd; exact exec_pulse_due h hd hm
  case pair => subst hdd; exact exec_pair_due h hd hn
  case noPair =>
    subst hdd
    exact exec_unit_quiet (exec_calPair rod tm .effect w g s) h
      ((beadRun_effect hd).trans (calPair_none (s := noteIssue s .effect (pairRow rod tm w g)) hn _ _)) h.toSteady.quiet
  case refresh =>
    subst hdd
    exact exec_unit_quiet (exec_dramSlot rod tm .effect false ch pe co s) h (beadRun_effect hd) h.toSteady.quiet
  case training => subst hdd; exact exec_training_due h hd
  case darkSpan => subst hdd; exact exec_dark_due h hd
  case scan =>
    subst hdd
    have hp : scannerBead (fun s => scanLine s f.toNat n.toNat pe.toNat) (noteIssue s .effect (scanRow rod tm f n pe)) =
        scanLine (noteIssue s .effect (scanRow rod tm f n pe)) f.toNat n.toNat pe.toNat :=
      if_pos (show (s.hls.mode == .running) = true by rw [hm]; rfl)
    exact exec_unit_quiet (exec_scanLine rod tm .effect f n pe s) h ((beadRun_effect hd).trans hp) h.toSteady.quiet
  case scanParked => subst hdd; exact exec_scan_parked h hw hd hm
  case idle => exact exec_unit_same (exec_levelPair reads s) h (levelPair_idle hi reads)
  case correct =>
    obtain ⟨t, ht, hnext, huntil, hclr, hpins, htab, hdis, hcalm⟩ := exec_pair_corrected reads h hn hu he
    refine ⟨t, ht, hnext, huntil, hclr, hpins, fun b q x m l hb heb hq hx hm hl => ?_, hdis, hcalm⟩
    have hread := readOf_found hq
    have hqb : q.bank = b := by simpa using List.find?_some hq
    have hcode : pairCode s s.lsd.pairNext (readOf reads b) = correctLevel (bankAt s b) s.lsd.pairNext m l := by
      subst hx hm hl hqb
      rw [hread]
      rfl
    have htable := htab b hb heb
    rw [hcode] at htable
    refine ⟨fun hle => ?_, fun hlt => ?_, correctLevel_bounds _ _ _ _⟩
    · rw [htable, correctLevel_kept _ _ hle]
      rfl
    · rw [htable, correctLevel_changed _ _ hlt]
      rfl

end Sys2Proof.Machine
end


section
/-! The scanner's states: what its start and its park change, and reactions that only ask for a park (R369, R370). -/

namespace Sys2Proof.Machine

section
variable {s r t a : State} {E : Nat → Prop}

/-! ### A trigger that finds the scanner at rest changes its stamp alone -/

/-- `t` comes from `s` by recording and by park triggers that change no state of the scanner. -/
structure Triggered (s t : State) : Prop where
  keeps : Keeps s t
  calm : ∃ v, Machine.calm t = Machine.calm { s with hls := { s.hls with parkTrigAt := v } }

/-- The scanner neither runs nor starts. -/
def scannerRests (s : State) : Prop := s.hls.mode ≠ .running ∧ s.hls.mode ≠ .starting

/-- The reports of a state ask for nothing but a park of the scanner. -/
def parksOnly (s : State) : Prop := ∀ q ∈ s.reports, q.reactionAs = none → ∀ k, k ≠ 3 → bitAt (reactionOf s q) k = false

theorem Records.triggered (h : Records s t) : Triggered s t := ⟨h.keeps, s.hls.parkTrigAt, h.calm⟩

theorem Triggered.refl (s : State) : Triggered s s := (Records.refl s).triggered

theorem Triggered.hls (h : Triggered s t) : ∃ v, t.hls = { s.hls with parkTrigAt := v } := by
  obtain ⟨v, hv⟩ := h.calm
  exact ⟨v, (calm_eq (·.hls) hv :)⟩

theorem Triggered.trans (h : Triggered s r) (k : Triggered r t) : Triggered s t := by
  obtain ⟨v, hv⟩ := h.calm
  obtain ⟨w, hw⟩ := k.calm
  have hr : r.hls = { s.hls with parkTrigAt := v } := (calm_eq (·.hls) hv :)
  refine ⟨h.keeps.trans k.keeps, w, hw.trans ?_⟩
  rw [hr]
  exact congrArg (fun x : State => { x with hls := { s.hls with parkTrigAt := w } }) hv

theorem Triggered.rests (h : Triggered s t) (hs : scannerRests s) : scannerRests t := by
  obtain ⟨v, hv⟩ := h.hls
  rw [scannerRests, hv]
  exact hs

theorem Keeps.parksOnly (k : Keeps s t) (h : Machine.parksOnly s) : Machine.parksOnly t := by
  intro q hq hn j hj
  rw [reactionOf_map k.map]
  rcases k.reports q hq with hq | rfl
  · exact h q hq hn j hj
  · exact Nat.zero_testBit j

theorem parkScanner_rests (h : scannerRests s) (c : Nat) (f : Bool) : parkScanner s c f = parkTrigger s := by
  refine if_neg ?_
  show ¬ (s.hls.mode == .running || s.hls.mode == .starting) = true
  simp [h.1, h.2]

theorem parkTrigger_triggered (s : State) : Triggered s (parkTrigger s) :=
  ⟨⟨rfl, id, id, List.suffix_refl _, fun _ h => h, fun _ h => h, rfl, fun _ h => .inl h, fun _ _ => rfl, rfl, fun _ _ => rfl⟩, some s.tsc, rfl⟩

theorem applyReactions_triggered (hs : scannerRests s) {l : List Report}
    (h : ∀ q ∈ l, q.reactionAs = none → ∀ k, k ≠ 3 → bitAt (reactionOf s q) k = false) : Triggered s (applyReactions s l) := by
  unfold applyReactions
  extract_lets act rs has s1 s2 s3
  have hz : ∀ k, k ≠ 3 → ∀ e ∈ rs, bitAt e.2 k = false := by
    intro k hk e he
    simp only [rs, act, List.mem_map, List.mem_filter] at he
    obtain ⟨q, ⟨hq, hn⟩, rfl⟩ := he
    exact h q hq (by simpa using hn) k hk
  have hs1 : s1 = s := by
    have hfind : rs.find? (fun e => bitAt e.2 0) = none :=
      List.find?_eq_none.mpr (fun e he => by rw [hz 0 (by decide) e he]; decide)
    simp only [s1, hfind]
  have hs2 : s2 = s := by
    have hany : has 2 = false := List.any_eq_false.mpr (fun e he => by rw [hz 2 (by decide) e he]; decide)
    simp only [s2, hany, hs1]
    rfl
  have hfilter : rs.filter (fun e => bitAt e.2 4) = [] :=
    List.filter_eq_nil_iff.mpr (fun e he => by rw [hz 4 (by decide) e he]; decide)
  have hs3 : Triggered s s3 := by
    simp only [s3, hs2]
    split
    · rw [parkScanner_rests hs]
      exact parkTrigger_triggered s
    · exact .refl s
  rw [hfilter]
  exact hs3

theorem collectOnce_triggered (hs : scannerRests s) (h : parksOnly s) : Triggered s (collectOnce s) := by
  have hr := records_reacts s (decide (2 ≤ (orderReports s s.reports).length)) (orderReports s s.reports)
  unfold collectOnce
  extract_lets l s1
  refine hr.triggered.trans (applyReactions_triggered (hr.triggered.rests hs) fun q hq hn k hk => ?_)
  rw [reactionOf_map hr.keeps.map]
  exact orderReports_forall (P := fun q => q.reactionAs = none → bitAt (reactionOf s q) k = false) (fun _ hq => hq) s s.reports
    (fun q hq hn => h q hq hn k hk) q hq hn

theorem collectN_triggered (n : Nat) (hs : scannerRests s) (h : parksOnly s) : Triggered s (collectN n s) := by
  induction n generalizing s with
  | zero => exact (clearReports_records s).triggered
  | succ n ih =>
    unfold collectN
    split
    · exact .refl s
    · have h1 := collectOnce_triggered hs h
      exact h1.trans (ih (h1.rests hs) (h1.keeps.parksOnly h))

theorem settle_triggered (ha : s.img.act = none) (hs : scannerRests s) (h : parksOnly s) : Triggered s (settle a s) := by
  have h1 : Triggered s (collect s) := collectN_triggered 4 hs h
  unfold settle
  extract_lets s1 s2
  have hs2 : s2 = s1 := by
    have hx : (collect s).img.act = none := by rw [(collect_reacts s).act]; exact ha
    simp only [s2, s1, activationFatal_none hx, collect_quiet (collect_reports s), ite_self]
  rw [hs2]
  have h2 : Triggered s (exitConditions a s1) := h1.trans (exitConditions_records a s1).triggered
  exact h2.trans (collectN_triggered 4 (h2.rests hs) (h2.keeps.parksOnly h))

theorem finish_triggered (ha : r.img.act = none) (w : noWait r) (hq : r.pending = a.pending) (hs : scannerRests r) (h : parksOnly r) :
    Triggered r (finish a r) := by
  have h1 := settle_reacts (a := a) ha
  have ha1 : (settle a r).img.act = none := by rw [h1.act]; exact ha
  have h2 := h1.trans (settle_reacts (a := settle a r) ha1)
  have hf : finish a r = settle (settle a r) (settle a r) := by
    unfold finish
    extract_lets s1
    rw [startWaiting_quiet _ (h1.keeps.waits w)]
    obtain ⟨o, hm, ta, rr, fl, dr, bw, po, ls, pi, lp, pk, rc, hl, he⟩ := h2.frame
    show withQueue (settle s1 s1) a.pending = settle s1 s1
    rw [he, ← hq]
    rfl
  have k1 : Triggered r (settle a r) := settle_triggered ha hs h
  rw [hf]
  exact k1.trans (settle_triggered ha1 (k1.rests hs) (k1.keeps.parksOnly h))

end
end Sys2Proof.Machine
end


section
/-! What the scanner's start, park and end of a park change (R369, R370, R373). -/

namespace Sys2Proof.Machine

section
variable {s r t a : State} {E : Nat → Prop}

/-! ### Parts -/

theorem modHlsSlot_units (s : State) (k : Nat) (f : Slot → Slot) : ∃ L, modHlsSlot s k f = { s with lpe := L } := by
  unfold modHlsSlot
  split
  · exact ⟨_, rfl⟩
  · exact ⟨s.lpe, rfl⟩

/-- The scanner's record as it parks. -/
def parkedHls (s : State) (c : Nat) (f : Bool) : Hls :=
  { s.hls with
    mode := .parking
    cause := c
    dark := true
    parkTrigAt := some s.tsc
    parkFault := f
    parkedAt := s.tsc
    locked := false
    lockRun := 0
    span := none
    lineNow := none
    motion := false
    resume := decide (c = 1)
    ncoPrev := if s.hls.nco.at_ ≤ s.tsc then s.hls.nco else s.hls.ncoPrev
    nco := { at_ := s.tsc, phase := ncoPhase s s.tsc, inc := 0 } }

/-- The outputs of the scanner as it parks. -/
def parkedPins (s : State) (d : Nat) : Pins :=
  { s.pins with
    hlEn := false
    hlDac := [0, 0, 0]
    fastDrv := d }

/-- The scanner parks. -/
def scannerParked (s : State) (c : Nat) (f : Bool) (L : Lpe) (d : Nat) : State := { s with
  pins := parkedPins s d
  lpe := L
  hls := parkedHls s c f }

/-- The oscillator stands, and the scanner parks. -/
def scannerStill (y : State) (L : Lpe) (c : Nat) : State := { y with
  lpe := L
  hls := { y.hls with
    ncoPrev := if y.hls.nco.at_ ≤ y.tsc then y.hls.nco else y.hls.ncoPrev
    nco := { at_ := y.tsc, phase := ncoPhase y y.tsc, inc := 0 }
    mode := .parking
    cause := c } }

theorem setHls_still (y : State) (L : Lpe) {n : Nat} (h : n = y.tsc) (c : Nat) :
    setHls (setInc { y with lpe := L } 0 n) .parking c = postHls (scannerStill y L c) y.hls.mode := by
  subst h
  rfl

theorem scannerRest_still (s : State) (c : Nat) (f : Bool) (L : Lpe) : scannerStill (scannerRest (parkTrigger s) c f) L c =
    scannerParked s c f L (dacCode (parkTrigger s) 67 32768) := by
  unfold scannerStill scannerRest hlOff
  rfl

theorem parkScanner_parts (h : s.hls.mode = .running ∨ s.hls.mode = .starting) (c : Nat) (f : Bool) :
    ∃ L d, parkScanner s c f = postHls (scannerParked s c f L d) s.hls.mode := by
  obtain ⟨L1, h1⟩ := modHlsSlot_units (scannerRest (parkTrigger s) c f) 2 clearSlot
  obtain ⟨L2, h2⟩ := modHlsSlot_units { scannerRest (parkTrigger s) c f with lpe := L1 } 3 forgetSlot
  obtain ⟨L3, h3⟩ := modHlsSlot_units { scannerRest (parkTrigger s) c f with lpe := L2 } 3
    (fun x => { x with tgt := (parkPos (parkTrigger s) * 65536 : Nat) })
  refine ⟨L3, dacCode (parkTrigger s) 67 32768, ?_⟩
  have hm : ((parkTrigger s).hls.mode == .running || (parkTrigger s).hls.mode == .starting) = true := by
    show (s.hls.mode == .running || s.hls.mode == .starting) = true
    rcases h with h | h <;> rw [h] <;> rfl
  unfold parkScanner
  extract_lets x x1
  have hx : x1 = { scannerRest (parkTrigger s) c f with lpe := L2 } := by
    show modHlsSlot (modHlsSlot (scannerRest (parkTrigger s) c f) 2 clearSlot) 3 forgetSlot = _
    rw [h1, h2]
  rw [if_pos hm, hx, hlsTarget, h3]
  exact (setHls_still (scannerRest (parkTrigger s) c f) L3 rfl c).trans (congrArg (fun z => postHls z s.hls.mode) (scannerRest_still s c f L3))

theorem calm_postHls (s : State) (m : HlsMode) : calm (postHls s m) = calm s := calm_post _ _ _ _

theorem postHls_effects (E : Nat → Prop) (s : State) (m : HlsMode) : Effects [] E s (postHls s m) := (post_adds s _ _ _).effects

theorem parkScanner_effects (E : Nat → Prop) (s : State) (c : Nat) (f : Bool) : Effects [] E s (parkScanner s c f) := by
  by_cases h : s.hls.mode = .running ∨ s.hls.mode = .starting
  · obtain ⟨L, d, hp⟩ := parkScanner_parts h c f
    rw [hp]
    exact ((Effects.refl E s).units (by rfl)).quiet (postHls_effects E (scannerParked s c f L d) _)
  · rw [parkScanner_rests ⟨fun hm => h (.inl hm), fun hm => h (.inr hm)⟩]
    exact ((Effects.refl E s).units (by rfl))

theorem scannerParked_rests (s : State) (c : Nat) (f : Bool) (L : Lpe) (d : Nat) : scannerRests (scannerParked s c f L d) :=
  ⟨HlsMode.noConfusion, HlsMode.noConfusion⟩

/-! ### The end of a command whose reports only ask for a park -/

/-- The effects of an operation whose sources ask for nothing but a park. -/
theorem Effects.parksOnly {C : List Nat} (h : Effects C E s r) (hs : s.reports = [])
    (hc : ∀ n, n < 256 → n ∈ C ∨ E n → ∀ k, k ≠ 3 → bitAt (sourceCfg s n).2.1 k = false) : Machine.parksOnly r := by
  intro q hq hn k hk
  rcases h.news q hq with hq | rfl | ⟨hl, -, hm⟩
  · rw [hs] at hq
    cases hq
  · exact Nat.zero_testBit k
  · rw [reactionOf, hn, sourceCfg_map' h.map]
    dsimp only
    split
    · exact Nat.zero_testBit k
    · exact hc q.source hl (hm.symm.imp (·.1) id) k hk

section
variable {C : List Nat} {i : Instr} {f : State → State} {op : Nat} {c : Cmd}

theorem exec_triggered (hi : exec i s = .next (event s f)) (h : Live s) (he : Effects C E s (f s)) (hr : scannerRests (f s))
    (hp : parksOnly (f s)) (ht : exec i s = .next t) : Triggered (f s) t := by
  rw [hi, event_running h.power] at ht
  rw [← Host.Outcome.next.inj ht]
  exact finish_triggered (he.act.trans h.act) (he.waits h.waits) he.pending hr hp

end

/-- A reaction that only parks the scanner. -/
theorem bitAt_parks {k : Nat} (h : k ≠ 3) : bitAt 8 k = false := Nat.testBit_two_pow_of_ne (n := 3) (Ne.symm h)

/-! ### The end of a park -/

/-- The slow axis is left at its park code, and its slot is clear. -/
def slowLeft (s : State) (L : Lpe) (d : Nat) : State := { s with
  pins := { s.pins with slowDrv := d }
  lpe := L }

/-- The state that a park ends in. -/
def parkEndMode (s : State) : HlsMode := if s.hls.parkFault then .failed else .parked

/-- The commands that wait for a park no longer wait. -/
def parkIdle (s : State) : State := { s with hls := { s.hls with
  startId := none
  parkId := [] } }

/-- The commands that wait for a park have ended. -/
def parkTold (s : State) : State :=
  s.hls.parkId.foldl (fun s id => complete s id .ok [])
    (completeOpt s s.hls.startId .checkFail (leBytes 1 s.hls.cause))

theorem parkEnd_parts (s : State) : ∃ L d x, parkEnd s = parkIdle x ∧ calm x = calm { slowLeft s L d with hls := { s.hls with
      mode := parkEndMode s } } ∧ Effects [] E s x := by
  obtain ⟨L, hL⟩ := modHlsSlot_units s 3 clearSlot
  refine ⟨L, dacCode { s with lpe := L } 68 (parkCode s), _, rfl, ?_, ?_⟩
  · rw [hL]
    refine (calm_foldl _ (fun s id => calm_complete s id _ _) _ _).trans ((calm_completeOpt _ _ _ _).trans ((calm_post _ _ _ _).trans ?_))
    rfl
  · rw [hL]
    have h1 : Effects [] E s (setHls (slowDrive { s with lpe := L } (parkCode s)) (if s.hls.parkFault then .failed else .parked) s.hls.cause) :=
      ((Effects.refl E s).units (by rfl)).quiet (postHls_effects E _ _)
    have h2 := h1.posts (completeOpt_adds _ s.hls.startId .checkFail (leBytes 1 s.hls.cause))
    exact h2.quiet (.foldl (fun x id => (complete_adds x id _ _).effects) _ _)

theorem parkEnd_effects (E : Nat → Prop) (s : State) : Effects [] E s (parkEnd s) := by
  obtain ⟨L, d, x, hx, -, he⟩ := parkEnd_parts (E := E) s
  rw [hx]
  exact (he.units (by rfl))

theorem parkEnd_calm (s : State) : ∃ L d, calm (parkEnd s) = calm (parkIdle { slowLeft s L d with hls := { s.hls with
    mode := parkEndMode s } }) := by
  obtain ⟨L, d, x, hx, hc, -⟩ := parkEnd_parts (E := exactly) s
  refine ⟨L, d, ?_⟩
  have hh : x.hls = { s.hls with mode := parkEndMode s } := (calm_eq (·.hls) hc :)
  rw [hx]
  unfold parkIdle
  rw [hh]
  exact congrArg (fun y : State => { y with hls := { s.hls with
    mode := parkEndMode s
    startId := none
    parkId := [] } }) hc

theorem hlsResume_none (h : s.hls.resume = false) : hlsResume s = s := if_neg (by simp [h])

end
end Sys2Proof.Machine
end


section
/-! The scanner's commands, limits and parks: the events (R369, R370, R372 to R374, R384). -/

namespace Sys2Proof.Machine

section
variable {s r t a : State} {E : Nat → Prop} {C : List Nat} {i : Instr} {f : State → State} {op : Nat} {c : Cmd}

/-! ### Parks -/

/-- A limit parks the scanner as a fault, with a cause. -/
structure ParkedBy (s t : State) (cause : Nat) : Prop where
  mode : t.hls.mode = .parking
  cause : t.hls.cause = cause
  fault : t.hls.parkFault = true
  hlEn : t.pins.hlEn = false
  laserEn : t.pins.laserEn = s.pins.laserEn
  rest : calm t = calm { s with
    hls := t.hls
    lpe := t.lpe
    pins := t.pins }

theorem calm_scannerParked {x : State} (h : calm x = calm s) (c : Nat) (f : Bool) (L : Lpe) (d : Nat) :
    calm (scannerParked x c f L d) = calm (scannerParked s c f L d) := by
  have hh : parkedHls x c f = parkedHls s c f := calm_eq (fun y => parkedHls y c f) h
  have hp : parkedPins x d = parkedPins s d := calm_eq (fun y => parkedPins y d) h
  unfold scannerParked
  rw [hh, hp]
  exact congrArg (fun y : State => { y with
    pins := parkedPins s d
    lpe := L
    hls := parkedHls s c f }) h

/-- The scanner parks in a state that reports aside is as it was. -/
theorem calm_parkScanner (h : s.hls.mode = .running ∨ s.hls.mode = .starting) {x : State} (hx : calm x = calm s) (c : Nat) (f : Bool) :
    ∃ L d, calm (parkScanner x c f) = calm (scannerParked s c f L d) := by
  have hm : x.hls.mode = s.hls.mode := (calm_eq (·.hls.mode) hx :)
  obtain ⟨L, d, hp⟩ := parkScanner_parts (s := x) (by rw [hm]; exact h) c f
  exact ⟨L, d, by rw [hp, calm_postHls, calm_scannerParked hx]⟩

/-- A report that asks for nothing but a park, and the park of a state `b` that moves. -/
theorem exec_parks {src cause : Nat} {b : State} {q : Report} (hi : exec i s = .next (event s f)) (h : Live s)
    (hb : Effects [] exactly s b) (hf : f s = parkScanner (report b q) cause true)
    (hm : b.hls.mode = .running ∨ b.hls.mode = .starting) (hq : q.source = src) (hl : src < 256) (h12 : src ≠ 0x12)
    (hj : q.injected = false) (hn : q.reactionAs = none) (hr : ∀ k, k ≠ 3 → bitAt (sourceCfg s src).2.1 k = false) :
    ∃ t, exec i s = .next t ∧ ParkedBy b t cause ∧ counted s t src := by
  obtain ⟨L, d, hc⟩ := calm_parkScanner hm (calm_report b q) cause true
  have heff : Effects [src] exactly s (f s) := by
    rw [hf, ← hq]
    exact (hb.trans (report_adds b q (by rw [hq]; exact hl) hj hn).effects).quiet (parkScanner_effects exactly _ _ _)
  obtain ⟨t, ht, done⟩ := exec_done hi h heff
  have hmode : (f s).hls.mode = .parking := by
    rw [hf]
    exact calm_eq (·.hls.mode) hc
  have htrig := exec_triggered hi h heff ⟨by rw [hmode]; decide, by rw [hmode]; decide⟩
    (heff.parksOnly h.reports fun n _ hn k hk => by
      rw [List.mem_singleton.mp (hn.resolve_right id)]
      exact hr k hk) ht
  rw [hf] at htrig
  obtain ⟨v, hv⟩ := htrig.calm
  have hrh : (parkScanner (report b q) cause true).hls = parkedHls b cause true := (calm_eq (·.hls) hc :)
  rw [hrh] at hv
  have hall : calm t = calm { scannerParked b cause true L d with hls := { parkedHls b cause true with parkTrigAt := v } } :=
    hv.trans (congrArg (fun x : State => { x with hls := { parkedHls b cause true with parkTrigAt := v } }) hc)
  have hh : t.hls = { parkedHls b cause true with parkTrigAt := v } := (calm_eq (·.hls) hall :)
  have hp : t.pins = parkedPins b d := (calm_eq (·.pins) hall :)
  have hL : t.lpe = L := (calm_eq (·.lpe) hall :)
  refine ⟨t, ht, ⟨by rw [hh]; rfl, by rw [hh]; rfl, by rw [hh]; rfl, by rw [hp]; rfl, by rw [hp]; rfl, ?_⟩,
    done.counted src hl h12 (fun h => h) (by simp)⟩
  rw [hall, hh, hp, hL]
  rfl

end
end Sys2Proof.Machine
end


section
/-! HLS_START and HLS_PARK (R369, R370, R384). -/

namespace Sys2Proof.Machine

section
variable {s r t : State} {E : Nat → Prop} {C : List Nat} {i : Instr} {op : Nat} {c : Cmd}

/-! ### The start of the motion -/

/-- The scanner's record as it starts. -/
def startedHls (s : State) : Hls :=
  { s.hls with
    mode := .starting
    cause := 0
    locked := false
    lockRun := 0
    period := none
    amplOut := false
    motion := false
    startedAt := s.tsc
    crossAt := s.tsc
    lineNow := none
    parkFault := false
    resume := false
    span := none
    dark := true
    y := bits (hlsReg s 0xC00008) 31 16
    ncoPrev := if s.hls.nco.at_ ≤ s.tsc then s.hls.nco else s.hls.ncoPrev
    nco := { at_ := s.tsc, phase := ncoPhase s s.tsc, inc := incStart s } }

/-- The scanner starts. -/
def scannerStarted (s : State) (L : Lpe) : State := { s with
  lpe := L
  hls := startedHls s }

/-- The record of a start, before its oscillator and its state. -/
def startReady (s : State) : State := { s with hls := { s.hls with
  locked := false
  lockRun := 0
  period := none
  amplOut := false
  motion := false
  startedAt := s.tsc
  crossAt := s.tsc
  lineNow := none
  parkFault := false
  resume := false
  span := none
  dark := true
  y := bits (hlsReg s 0xC00008) 31 16 } }

/-- The oscillator takes an increment, and the scanner starts. -/
def scannerMoves (y : State) (L : Lpe) (n : Nat) : State := { y with
  lpe := L
  hls := { y.hls with
    ncoPrev := if y.hls.nco.at_ ≤ y.tsc then y.hls.nco else y.hls.ncoPrev
    nco := { at_ := y.tsc, phase := ncoPhase y y.tsc, inc := n }
    mode := .starting
    cause := 0 } }

theorem setHls_moves (y : State) (L : Lpe) (n : Nat) {k : Nat} (h : k = y.tsc) :
    setHls (setInc { y with lpe := L } n k) .starting 0 = postHls (scannerMoves y L n) y.hls.mode := by
  subst h
  rfl

theorem startReady_moves (s : State) (L : Lpe) : scannerMoves (startReady s) L (incStart s) = scannerStarted s L := by
  unfold scannerMoves startReady
  rfl

theorem hlsEnter_parts (s : State) : ∃ L, hlsEnter s = postHls (scannerStarted s L) s.hls.mode := by
  obtain ⟨L1, h1⟩ := modHlsSlot_units (startReady s) 2 clearSlot
  obtain ⟨L2, h2⟩ := modHlsSlot_units { startReady s with lpe := L1 } 3 clearSlot
  obtain ⟨L3, h3⟩ := modHlsSlot_units { startReady s with lpe := L2 } 2 (fun x => { x with tgt := (bits (hlsReg s 0xC00008) 31 16 * 65536 : Nat) })
  obtain ⟨L4, h4⟩ := modHlsSlot_units { startReady s with lpe := L3 } 3 (fun x => { x with tgt := ((scanCfg s).slow.getD 0 0 * 65536 : Nat) })
  refine ⟨L4, ?_⟩
  have he : hlsEnter s = setHls (setInc (hlsTarget (hlsTarget (modHlsSlot (modHlsSlot (startReady s) 2 clearSlot) 3 clearSlot) 2
    (bits (hlsReg s 0xC00008) 31 16)) 3 ((scanCfg s).slow.getD 0 0)) (incStart s) s.tsc) .starting 0 := rfl
  rw [he, h1, h2, hlsTarget, hlsTarget, h3, h4]
  exact (setHls_moves (startReady s) L4 (incStart s) rfl).trans (congrArg (fun z => postHls z s.hls.mode) (startReady_moves s L4))

theorem hlsEnter_effects (E : Nat → Prop) (s : State) : Effects [] E s (hlsEnter s) := by
  obtain ⟨L, hL⟩ := hlsEnter_parts s
  rw [hL]
  exact ((Effects.refl E s).units (by rfl)).quiet (postHls_effects E (scannerStarted s L) _)

theorem hlsEnter_sends (s : State) : Sends s (hlsEnter s) := by
  obtain ⟨L, hL⟩ := hlsEnter_parts s
  have h : Sends s (scannerStarted s L) := ((Sends.refl s).units (by rfl))
  rw [hL]
  exact h.post _ _ _

theorem calm_hlsEnter (s : State) : ∃ L, calm (hlsEnter s) = calm (scannerStarted s L) := by
  obtain ⟨L, hL⟩ := hlsEnter_parts s
  exact ⟨L, by rw [hL, calm_postHls]⟩

theorem parkScanner_sends (s : State) (c : Nat) (f : Bool) (h : s.hls.mode = .running ∨ s.hls.mode = .starting) :
    Sends s (parkScanner s c f) := by
  obtain ⟨L, d, hp⟩ := parkScanner_parts h c f
  have hs : Sends s (scannerParked s c f L d) := ((Sends.refl s).units (by rfl))
  rw [hp]
  exact hs.post _ _ _

/-! ### The commands -/

theorem runHigh_hlsStart {f : InFlight} (h : f.opcode = 0x0B01) (pl : List Byte) : runHigh s f pl = runHlsStart s f.id := by
  simp [runHigh, h]

theorem runHigh_hlsPark {f : InFlight} (h : f.opcode = 0x0B02) (pl : List Byte) : runHigh s f pl = runHlsPark s f.id := by
  simp [runHigh, h]

/-- A command waits for the scanner's start, or for its park. -/
def startWaits (s : State) (id : Nat) : State := { s with hls := { s.hls with startId := some id } }

def parkWaits (s : State) (id : Nat) : State := { s with hls := { s.hls with parkId := s.hls.parkId ++ [id] } }

theorem runHlsStart_may (hm : s.hls.mode = .parked ∨ s.hls.mode = .failed) (ho : s.ftgOn = true) (hp : s.hls.parkTrigAt ≠ some s.tsc)
    (id : Nat) : runHlsStart s id = (startWaits (hlsBegin s) id, .later) := by
  refine if_pos ?_
  rcases hm with hm | hm <;> simp [hm, ho, hp]

theorem runHlsStart_refused (h : s.ftgOn = false ∨ (s.hls.mode ≠ .parked ∧ s.hls.mode ≠ .failed) ∨ s.hls.parkTrigAt = some s.tsc)
    (id : Nat) : runHlsStart s id = (s, .now .badState []) := by
  refine if_neg ?_
  rcases h with h | ⟨h, k⟩ | h
  · simp [h]
  · simp [h, k]
  · simp [h]

theorem runHlsPark_parks (hm : s.hls.mode = .running ∨ s.hls.mode = .starting) (id : Nat) :
    runHlsPark s id = (parkWaits (parkScanner s 2 false) id, .later) := by
  unfold runHlsPark
  rcases hm with hm | hm <;> rw [hm] <;> rfl

theorem exec_later_triggered (hi : exec i s = .next (hostEvent s (fun s => message s op c []))) (h : Serving s op c)
    (hr : runOp (enterFlight s (arriving s op c [])) (arriving s op c []) = (r, .later))
    (he : Effects C E (enterFlight s (arriving s op c [])) r) (hs : scannerRests r) (hp : parksOnly r) (ht : exec i s = .next t) :
    Triggered r t := by
  have hflight : (enterFlight s (arriving s op c [])).hmi.inFlight = [arriving s op c []] := by simp [enterFlight, h.alone]
  have hwait : noWait (enterFlight s (arriving s op c [])) := by rw [noWait, hflight]; rfl
  rw [hi, hostEvent_up h.awake.power, message_later h hr] at ht
  rw [← Host.Outcome.next.inj ht]
  exact finish_triggered (he.act.trans h.act) (he.waits hwait) he.pending hs hp

theorem Sends.startWaits (h : Sends s r) (id : Nat) : Sends s (Machine.startWaits r id) := (h.units (by rfl))

theorem Sends.parkWaits (h : Sends s r) (id : Nat) : Sends s (Machine.parkWaits r id) := (h.units (by rfl))

theorem Effects.startWaits (h : Effects C E s r) (id : Nat) : Effects C E s (Machine.startWaits r id) := (h.units (by rfl))

theorem Effects.parkWaits (h : Effects C E s r) (id : Nat) : Effects C E s (Machine.parkWaits r id) := (h.units (by rfl))

theorem calm_startWaits {a b : State} (h : calm a = calm b) (id : Nat) : calm (startWaits a id) = calm (startWaits b id) := by
  have hh : a.hls = b.hls := (calm_eq (·.hls) h :)
  unfold startWaits
  rw [hh]
  exact congrArg (fun x : State => { x with hls := { b.hls with startId := some id } }) h

theorem calm_parkWaits {a b : State} (h : calm a = calm b) (id : Nat) : calm (parkWaits a id) = calm (parkWaits b id) := by
  have hh : a.hls = b.hls := (calm_eq (·.hls) h :)
  unfold parkWaits
  rw [hh]
  exact congrArg (fun x : State => { x with hls := { b.hls with parkId := b.hls.parkId ++ [id] } }) h

/-- HLS_START with an increment in range. -/
theorem exec_hlsStart (h : Serving s 0x0B01 c) (hm : s.hls.mode = .parked ∨ s.hls.mode = .failed) (ho : s.ftgOn = true)
    (hp : s.hls.parkTrigAt ≠ some s.tsc) (hinc : incOutside s (incStart s) = false) :
    ∃ t L, exec (.hlsStart c) s = .next t ∧ calm t = calm (startWaits (scannerStarted s L) s.hmi.nextId) ∧
      t.hmi.inFlight = [arriving s 0x0B01 c []] := by
  have hb : hlsBegin (enterFlight s (arriving s 0x0B01 c [])) = hlsEnter (enterFlight s (arriving s 0x0B01 c [])) := by
    refine if_neg ?_
    show ¬ incOutside s (incStart s) = true
    rw [hinc]
    decide
  have hr : runOp (enterFlight s (arriving s 0x0B01 c [])) (arriving s 0x0B01 c []) =
      (startWaits (hlsEnter (enterFlight s (arriving s 0x0B01 c []))) s.hmi.nextId, .later) := by
    rw [h.high [] (by decide), runHigh_hlsStart rfl, runHlsStart_may (s := enterFlight s _) hm ho hp, hb]
    rfl
  have he : Effects [] exactly (enterFlight s (arriving s 0x0B01 c []))
      (startWaits (hlsEnter (enterFlight s (arriving s 0x0B01 c []))) s.hmi.nextId) := (hlsEnter_effects exactly _).startWaits _
  have hsend : Sends (enterFlight s (arriving s 0x0B01 c [])) (startWaits (hlsEnter (enterFlight s (arriving s 0x0B01 c []))) s.hmi.nextId) :=
    (hlsEnter_sends _).startWaits _
  obtain ⟨t, ht, done, hfl⟩ := exec_later_done (i := .hlsStart c) rfl h hr he
  obtain ⟨L, hL⟩ := calm_hlsEnter (enterFlight s (arriving s 0x0B01 c []))
  refine ⟨t, L, ht, ?_, hfl (he.harmless h.reports fun n _ hn => by simp [exactly] at hn) hsend.events⟩
  exact (done.calm fun n hn => nomatch hn).trans ((calm_startWaits hL _).trans rfl)

/-- HLS_START with an increment outside the image's range: the scanner parks as a fault. -/
theorem exec_hlsStart_outside (h : Serving s 0x0B01 c) (hm : s.hls.mode = .parked ∨ s.hls.mode = .failed) (ho : s.ftgOn = true)
    (hp : s.hls.parkTrigAt ≠ some s.tsc) (hinc : incOutside s (incStart s) = true) :
    ∃ t, exec (.hlsStart c) s = .next t ∧ t.hls.mode = .parking ∧ t.hls.cause = 7 ∧ t.hls.parkFault = true ∧
      t.hls.startId = some s.hmi.nextId ∧ t.pins.hlEn = false ∧ counted s t 0x92 := by
  have hb : hlsBegin (enterFlight s (arriving s 0x0B01 c [])) = parkScanner (report (hlsEnter (enterFlight s (arriving s 0x0B01 c [])))
      { source := 0x92, address := incFreq (incStart s) }) 7 true := if_pos hinc
  have hr : runOp (enterFlight s (arriving s 0x0B01 c [])) (arriving s 0x0B01 c []) =
      (startWaits (parkScanner (report (hlsEnter (enterFlight s (arriving s 0x0B01 c [])))
        { source := 0x92, address := incFreq (incStart s) }) 7 true) s.hmi.nextId, .later) := by
    rw [h.high [] (by decide), runHigh_hlsStart rfl, runHlsStart_may (s := enterFlight s _) hm ho hp, hb]
    rfl
  obtain ⟨L, hL⟩ := calm_hlsEnter (enterFlight s (arriving s 0x0B01 c []))
  have he := ((hlsEnter_effects exactly (enterFlight s (arriving s 0x0B01 c []))).report
    { source := 0x92, address := incFreq (incStart s) }).quiet (parkScanner_effects exactly _ 7 true)
  generalize hlsEnter (enterFlight s (arriving s 0x0B01 c [])) = x at *
  have hstart : x.hls.mode = .starting := (calm_eq (·.hls.mode) hL :)
  obtain ⟨K, d, hK⟩ := calm_parkScanner (.inr hstart) (calm_report x { source := 0x92, address := incFreq (incStart s) }) 7 true
  generalize parkScanner (report x { source := 0x92, address := incFreq (incStart s) }) 7 true = y at *
  have hyh : y.hls = parkedHls x 7 true := (calm_eq (·.hls) hK :)
  have hyp : y.pins.hlEn = false := (calm_eq (·.pins.hlEn) hK :)
  have he' := he.startWaits s.hmi.nextId
  obtain ⟨t, ht, done, -⟩ := exec_later_done (i := .hlsStart c) rfl h hr he'
  have hrest : scannerRests (startWaits y s.hmi.nextId) := by
    show y.hls.mode ≠ .running ∧ y.hls.mode ≠ .starting
    rw [hyh]
    exact ⟨HlsMode.noConfusion, HlsMode.noConfusion⟩
  obtain ⟨v, hv⟩ := (exec_later_triggered (i := .hlsStart c) rfl h hr he' hrest (he'.parksOnly h.reports fun n _ hn k hk => by
    rw [List.mem_singleton.mp (hn.resolve_right id), sourceCfg_fixed (e := (0x92, 1, 8)) rfl]
    exact bitAt_parks hk) ht).calm
  have hth : t.hls = { (startWaits y s.hmi.nextId).hls with parkTrigAt := v } := (calm_eq (·.hls) hv :)
  have htp : t.pins = y.pins := (calm_eq (·.pins) hv :)
  have hsh : (startWaits y s.hmi.nextId).hls = { parkedHls x 7 true with startId := some s.hmi.nextId } := by
    rw [← hyh]
    rfl
  rw [hsh] at hth
  exact ⟨t, ht, by rw [hth]; rfl, by rw [hth]; rfl, by rw [hth]; rfl, by rw [hth], by rw [htp, hyp],
    done.counted 0x92 (by decide) (by decide) (fun h => h) rfl⟩

/-- HLS_PARK of a scanner that moves. -/
theorem exec_hlsPark (h : Serving s 0x0B02 c) (hm : s.hls.mode = .running ∨ s.hls.mode = .starting) :
    ∃ t L d, exec (.hlsPark c) s = .next t ∧ calm t = calm (parkWaits (scannerParked s 2 false L d) s.hmi.nextId) ∧
      t.hmi.inFlight = [arriving s 0x0B02 c []] := by
  have hr : runOp (enterFlight s (arriving s 0x0B02 c [])) (arriving s 0x0B02 c []) =
      (parkWaits (parkScanner (enterFlight s (arriving s 0x0B02 c [])) 2 false) s.hmi.nextId, .later) := by
    rw [h.high [] (by decide), runHigh_hlsPark rfl, runHlsPark_parks (s := enterFlight s _) hm]
    rfl
  have he := (parkScanner_effects exactly (enterFlight s (arriving s 0x0B02 c [])) 2 false).parkWaits s.hmi.nextId
  have hsend := (parkScanner_sends (enterFlight s (arriving s 0x0B02 c [])) 2 false hm).parkWaits s.hmi.nextId
  obtain ⟨t, ht, done, hfl⟩ := exec_later_done (i := .hlsPark c) rfl h hr he
  obtain ⟨L, d, hL⟩ := calm_parkScanner (s := enterFlight s (arriving s 0x0B02 c [])) hm rfl 2 false
  refine ⟨t, L, d, ht, ?_, hfl (he.harmless h.reports fun n _ hn => by simp [exactly] at hn) hsend.events⟩
  exact (done.calm fun n hn => nomatch hn).trans ((calm_parkWaits hL _).trans rfl)

end
end Sys2Proof.Machine
end


section
/-! The scanner starts and parks (R369, R370, R372 to R374, R384). -/

namespace Sys2Proof.Machine

section
variable {s t : State} {c : Cmd}

theorem runHlsPark_parking (hm : s.hls.mode = .parking) (id : Nat) : runHlsPark s id = (parkWaits s id, .later) := by
  unfold runHlsPark
  rw [hm]
  rfl

theorem runHlsPark_rests (hm : s.hls.mode = .parked ∨ s.hls.mode = .failed) (id : Nat) : runHlsPark s id = (parkTrigger s, .now .ok []) := by
  unfold runHlsPark
  rcases hm with hm | hm <;> rw [hm]

theorem runHlsPark_disabled (hm : s.hls.mode = .disabled) (id : Nat) : runHlsPark s id = (s, .now .badState []) := by
  unfold runHlsPark
  rw [hm]

/-! ### The limits -/

theorem motionLost_parks (hm : s.hls.mode = .running ∨ s.hls.mode = .starting) (ht : 500000000000 ≤ (s.tsc - s.hls.crossAt) * (scanCfg s).fMin) :
    motionLost s = parkScanner (report s { source := 0x90 }) 5 true := by
  refine (if_pos ht).trans (if_pos ?_)
  rcases hm with hm | hm <;> rw [hm] <;> rfl

theorem motionLost_early (h : (s.tsc - s.hls.crossAt) * (scanCfg s).fMin < 500000000000) : motionLost s = s := if_neg (Nat.not_le.mpr h)

/-- The scanner rests, or ends its start or its run. -/
theorem motionLost_rests (h : scannerRests s) : motionLost s = s := by
  unfold motionLost
  split
  · exact if_neg (by simp [h.1, h.2])
  · rfl

theorem lockTimeout_parks (hm : s.hls.mode = .starting) (hl : s.hls.locked = false)
    (ht : s.hls.startedAt + bits (hlsReg s 0xC00014) 15 0 * 250000 ≤ s.tsc) :
    lockTimeout s = parkScanner (report s { source := 0x91 }) 6 true := if_pos (by simp [hm, hl, msCycles, ht])

theorem lockTimeout_idle (h : s.hls.mode ≠ .starting ∨ s.hls.locked = true ∨
    s.tsc < s.hls.startedAt + bits (hlsReg s 0xC00014) 15 0 * 250000) : lockTimeout s = s := by
  refine if_neg ?_
  rcases h with h | h | h
  · simp [h]
  · simp [h]
  · rw [decide_eq_false (show ¬ s.hls.startedAt + bits (hlsReg s 0xC00014) 15 0 * msCycles ≤ s.tsc from Nat.not_le.mpr h), Bool.and_false]
    decide

theorem parkReached_ends (hm : s.hls.mode = .parking) (hn : slowNear s (parkPos s) = true) : parkReached s = hlsResume (parkEnd s) :=
  if_pos (by rw [hm, hn]; rfl)

theorem parkReached_far (hn : slowNear s (parkPos s) = false) : parkReached s = s := if_neg (by rw [hn]; simp)

theorem parkReached_rests (h : s.hls.mode ≠ .parking) : parkReached s = s := if_neg (by simp [h])

theorem parkForced_ends (hm : s.hls.mode = .parking) (hn : slowNear s (parkPos s) = false) (ht : s.hls.parkedAt + 1250000 ≤ s.tsc) :
    parkForced s = hlsResume (report (parkEnd s) { source := 0x97 }) := by
  refine (if_pos (by simp [hm, msCycles, ht])).trans ?_
  show hlsResume (if slowNear s (parkPos s) = true then parkEnd s else report (parkEnd s) { source := 0x97 }) = _
  rw [hn]
  rfl

theorem parkForced_early (ht : s.tsc < s.hls.parkedAt + 1250000) : parkForced s = s := by
  refine if_neg ?_
  rw [decide_eq_false (show ¬ s.hls.parkedAt + 5 * msCycles ≤ s.tsc from Nat.not_le.mpr ht), Bool.and_false]
  decide

theorem parkForced_rests (h : s.hls.mode ≠ .parking) : parkForced s = s := if_neg (by simp [h])

/-- A park has ended: its commands wait no longer, and it leaves the state that its cause asks for. -/
structure ParkEnded (s t : State) : Prop where
  mode : t.hls.mode = if s.hls.parkFault then .failed else .parked
  cause : t.hls.cause = s.hls.cause
  startId : t.hls.startId = none
  parkId : t.hls.parkId = []
  rest : calm t = calm { s with
    hls := t.hls
    lpe := t.lpe
    pins := t.pins }

theorem ParkEnded.of_calm (h : calm t = calm (parkEnd s)) : ParkEnded s t := by
  obtain ⟨L, d, hc⟩ := parkEnd_calm s
  have hall := h.trans hc
  have hh : t.hls = (parkIdle { slowLeft s L d with hls := { s.hls with mode := parkEndMode s } }).hls := calm_eq (·.hls) hall
  have hp : t.pins = { s.pins with slowDrv := d } := calm_eq (·.pins) hall
  have hL : t.lpe = L := calm_eq (·.lpe) hall
  exact
    { mode := by rw [hh]; rfl
      cause := by rw [hh]; rfl
      startId := by rw [hh]; rfl
      parkId := by rw [hh]; rfl
      rest := by rw [hall, hh, hp, hL]; rfl }

theorem parkEnd_resume (s : State) : (parkEnd s).hls.resume = s.hls.resume := by
  obtain ⟨L, d, hc⟩ := parkEnd_calm s
  exact (calm_eq (·.hls.resume) hc :)

theorem exec_park_reached (h : Live s) (hm : s.hls.mode = .parking) (hn : slowNear s (parkPos s) = true) (hr : s.hls.resume = false) :
    ∃ t, exec .parkReached s = .next t ∧ ParkEnded s t := by
  have hrun : parkReached s = parkEnd s := by rw [parkReached_ends hm hn, hlsResume_none ((parkEnd_resume s).trans hr)]
  obtain ⟨t, ht, done⟩ := exec_done (i := .parkReached) (f := parkReached) rfl h (C := []) (E := exactly) (by
    rw [hrun]
    exact parkEnd_effects exactly s)
  rw [hrun] at done
  exact ⟨t, ht, .of_calm (done.calm fun n hn => nomatch hn)⟩

theorem exec_park_forced (h : Live s) (hm : s.hls.mode = .parking) (hn : slowNear s (parkPos s) = false) (hr : s.hls.resume = false)
    (ht : s.hls.parkedAt + 1250000 ≤ s.tsc) : ∃ t, exec .parkForced s = .next t ∧ counted s t 0x97 ∧ ParkEnded s t := by
  have hrun : parkForced s = report (parkEnd s) { source := 0x97 } := by
    rw [parkForced_ends hm hn ht, hlsResume_none (s := report (parkEnd s) { source := 0x97 }) ((parkEnd_resume s).trans hr)]
  obtain ⟨t, hx, done⟩ := exec_done (i := .parkForced) (f := parkForced) rfl h (C := [0x97]) (E := exactly) (by
    rw [hrun]
    exact (parkEnd_effects exactly s).report { source := 0x97 })
  rw [hrun] at done
  refine ⟨t, hx, done.counted 0x97 (by decide) (by decide) (fun h => h) rfl, .of_calm ((done.calm fun n hn _ => ?_).trans (calm_report _ _))⟩
  rw [List.mem_singleton.mp hn, sourceCfg_fixed (e := (0x97, 1, 0)) rfl]

end

/-- Settles O46: the commands, the limits and the ends of a park, each by the operation that its state selects. -/
theorem scannerStartsAndParks : Obligations.ScannerStartsAndParks := by
  unfold Obligations.ScannerStartsAndParks
  refine ⟨fun s c h hm ho hp hi => ?start, fun s c h hm ho hp hi => exec_hlsStart_outside h hm ho hp hi, fun s c h hor => ?startRefused,
    fun s c h hm => ?park, fun s c h hm => ?parkWaits, fun s c h hm => ?parkRests, fun s c h hm => ?parkDisabled,
    fun s h hm ht => ?motion, fun s h ht => exec_unit_same (i := .motionLost) (f := motionLost) rfl h (motionLost_early ht),
    fun s h hm hl ht => ?lock, fun s h hor => exec_unit_same (i := .lockTimeout) (f := lockTimeout) rfl h (lockTimeout_idle hor),
    fun s h hm hn hr => ?reached, fun s h hm hn => exec_unit_same (i := .parkReached) (f := parkReached) rfl h (parkReached_far hn),
    fun s h hm hn hr ht => ?forced, fun s h ht => exec_unit_same (i := .parkForced) (f := parkForced) rfl h (parkForced_early ht),
    fun s h hm => ?rests⟩
  case start =>
    obtain ⟨t, L, ht, hcalm, hfl⟩ := exec_hlsStart h hm ho hp hi
    have hh : t.hls = (startWaits (scannerStarted s L) s.hmi.nextId).hls := calm_eq (·.hls) hcalm
    have hl : t.lpe = L := calm_eq (·.lpe) hcalm
    refine ⟨t, ht, by rw [hh]; rfl, by rw [hh]; rfl, by rw [hh]; rfl, by rw [hh]; rfl, by rw [hh]; rfl, by rw [hh]; rfl, hfl, ?_⟩
    rw [hcalm, hh, hl]
    rfl
  case startRefused =>
    exact exec_replies (i := .hlsStart c) (e := s) rfl h ((h.high [] (by decide)).trans
      ((runHigh_hlsStart rfl _).trans (runHlsStart_refused (s := enterFlight s (arriving s 0x0B01 c [])) hor _)))
  case park =>
    obtain ⟨t, L, d, ht, hcalm, hfl⟩ := exec_hlsPark h hm
    have hh : t.hls = (parkWaits (scannerParked s 2 false L d) s.hmi.nextId).hls := calm_eq (·.hls) hcalm
    have hl : t.lpe = L := calm_eq (·.lpe) hcalm
    have hp : t.pins = parkedPins s d := calm_eq (·.pins) hcalm
    refine ⟨t, ht, by rw [hh]; rfl, by rw [hh]; rfl, by rw [hh]; rfl, by rw [hp]; rfl, by rw [hh]; rfl, by rw [hh]; rfl,
      by rw [hh]; rfl, by rw [hh]; rfl, by rw [hh]; rfl, hfl, ?_⟩
    rw [hcalm, hh, hl, hp]
    rfl
  case parkWaits =>
    exact exec_begins (i := .hlsPark c) rfl h ((h.high [] (by decide)).trans
      ((runHigh_hlsPark rfl _).trans (runHlsPark_parking (s := enterFlight s (arriving s 0x0B02 c [])) hm _))) (.refl _)
  case parkRests =>
    exact exec_replies (i := .hlsPark c) rfl h ((h.high [] (by decide)).trans
      ((runHigh_hlsPark rfl _).trans (runHlsPark_rests (s := enterFlight s (arriving s 0x0B02 c [])) hm _)))
  case parkDisabled =>
    exact exec_replies (i := .hlsPark c) (e := s) rfl h ((h.high [] (by decide)).trans
      ((runHigh_hlsPark rfl _).trans (runHlsPark_disabled (s := enterFlight s (arriving s 0x0B02 c [])) hm _)))
  case motion =>
    obtain ⟨t, hx, p, htold⟩ := exec_parks (i := .motionLost) (f := motionLost) rfl h (.refl _ s) (motionLost_parks hm ht) hm rfl (src := 0x90) (by decide)
      (by decide) rfl rfl (fun k hk => by rw [sourceCfg_fixed (e := (0x90, 1, 8)) rfl]; exact bitAt_parks hk)
    exact ⟨t, hx, p.mode, p.cause, p.fault, p.hlEn, p.laserEn, htold, p.rest⟩
  case lock =>
    obtain ⟨t, hx, p, htold⟩ := exec_parks (i := .lockTimeout) (f := lockTimeout) rfl h (.refl _ s) (lockTimeout_parks hm hl ht) (.inr hm) rfl (src := 0x91)
      (by decide) (by decide) rfl rfl (fun k _ => by rw [sourceCfg_fixed (e := (0x91, 1, 0)) rfl]; exact bitAt_zero k)
    exact ⟨t, hx, p.mode, p.cause, p.fault, p.hlEn, htold, p.rest⟩
  case reached =>
    obtain ⟨t, hx, p⟩ := exec_park_reached h hm hn hr
    exact ⟨t, hx, p.mode, p.cause, p.startId, p.parkId, p.rest⟩
  case forced =>
    obtain ⟨t, hx, htold, p⟩ := exec_park_forced h hm hn hr ht
    exact ⟨t, hx, p.mode, p.cause, p.parkId, htold, p.rest⟩
  case rests =>
    have hr : scannerRests s := by rcases hm with hm | hm | hm <;> simp [scannerRests, hm]
    have hp : s.hls.mode ≠ .parking := by rcases hm with hm | hm | hm <;> simp [hm]
    exact ⟨exec_unit_same (i := .motionLost) (f := motionLost) rfl h (motionLost_rests hr),
      exec_unit_same (i := .lockTimeout) (f := lockTimeout) rfl h (lockTimeout_idle (.inl hr.2)),
      exec_unit_same (i := .parkReached) (f := parkReached) rfl h (parkReached_rests hp),
      exec_unit_same (i := .parkForced) (f := parkForced) rfl h (parkForced_rests hp)⟩

end Sys2Proof.Machine
end


section
/-! Crossings of the fast axis: the motion monitor and the lock (R372 to R374). -/

namespace Sys2Proof.Machine

section
variable {s t : State} {tick idx i v w hi lo : Nat} {mx mn : Nat}

/-- The scanner moves. -/
def scannerMoving (s : State) : Prop := s.hls.mode = .running ∨ s.hls.mode = .starting

/-- The channel of the fast axis's sense input. -/
def fastChannel (s : State) (i : Nat) : Nat := adcChannel s (slotAt s i).input

/-- A crossing is seen: its time and the extremes of its period stand. -/
def crossed (s : State) (hi lo : Nat) : State := { s with hls := { s.hls with
  crossAt := s.tsc
  period := some (hi, lo) } }

/-- The motion monitor has judged a period. -/
def moves (s : State) (out : Bool) : State := { s with hls := { s.hls with
  motion := true
  amplOut := out } }

/-- The nominal amplitude, and its tolerance in percent. -/
def amplNom (s : State) : Nat := bits (hlsReg s 0xC00010) 31 16

def amplTol (s : State) : Nat := bits (hlsReg s 0xC00010) 15 8

/-- The judgement of a period that has been seen. -/
def judgedPeriod (s : State) (hi lo : Nat) : State := judgePeriod { s with hls := { s.hls with crossAt := s.tsc } } hi lo

/-- The amplitude is out of tolerance. -/
def amplOff (s : State) (pp : Nat) : Bool :=
  decide (amplNom s ≠ 0 ∧ (pp * 100 < amplNom s * (100 - amplTol s) ∨ amplNom s * (100 + amplTol s) < pp * 100))

/-- The amplitude is neither below half the nominal nor out of tolerance. -/
def amplGood (s : State) (pp : Nat) : Prop :=
  amplNom s = 0 ∨ (amplNom s ≤ 2 * pp ∧ amplNom s * (100 - amplTol s) ≤ pp * 100 ∧ pp * 100 ≤ amplNom s * (100 + amplTol s))

theorem judgedPeriod_eq (s : State) (hi lo : Nat) : judgedPeriod s hi lo =
    if amplNom s ≠ 0 ∧ 2 * (hi - lo) < amplNom s then noMotion (crossed s hi lo)
    else if amplOff s (hi - lo) && !s.hls.amplOut then report (moves (crossed s hi lo) (amplOff s (hi - lo))) { source := 0x95 }
    else moves (crossed s hi lo) (amplOff s (hi - lo)) := rfl

theorem judgedPeriod_good (h : amplGood s (hi - lo)) : judgedPeriod s hi lo = moves (crossed s hi lo) false := by
  have hlow : ¬ (amplNom s ≠ 0 ∧ 2 * (hi - lo) < amplNom s) := by
    rcases h with h | ⟨h, -⟩
    · exact fun hx => hx.1 h
    · omega
  have hbad : amplOff s (hi - lo) = false := by
    refine decide_eq_false ?_
    rcases h with h | ⟨-, h1, h2⟩
    · exact fun hx => hx.1 h
    · omega
  rw [judgedPeriod_eq, if_neg hlow, hbad]
  rfl

theorem judgedPeriod_low (hm : scannerMoving s) (h : 2 * (hi - lo) < amplNom s) :
    judgedPeriod s hi lo = parkScanner (report (crossed s hi lo) { source := 0x90 }) 5 true := by
  rw [judgedPeriod_eq, if_pos ⟨by omega, h⟩]
  refine if_pos ?_
  show (s.hls.mode == .running || s.hls.mode == .starting) = true
  rcases hm with hm | hm <;> rw [hm] <;> rfl

theorem judgedPeriod_off (h0 : amplNom s ≠ 0) (h2 : amplNom s ≤ 2 * (hi - lo)) (ho : s.hls.amplOut = false)
    (h : (hi - lo) * 100 < amplNom s * (100 - amplTol s) ∨ amplNom s * (100 + amplTol s) < (hi - lo) * 100) :
    judgedPeriod s hi lo = report (moves (crossed s hi lo) true) { source := 0x95 } := by
  have hbad : amplOff s (hi - lo) = true := decide_eq_true ⟨h0, h⟩
  rw [judgedPeriod_eq, if_neg (by omega), hbad, ho]
  rfl

/-! ### A crossing -/

/-- The cycle of a crossing between two samples, after the tick's boundary (R373). -/
def crossingAt (idx v w lev : Nat) : Nat := (idx * 125 * (2 * (w - v)) + 125 * (lev - 2 * v) + 2 * (w - v)) / (2 * (2 * (w - v)))

theorem scannerMoving_mode (h : scannerMoving s) : ¬ (!(s.hls.mode == .running || s.hls.mode == .starting)) = true := by
  rcases h with h | h <;> rw [h] <;> decide

theorem fastCrossing_still (h : (s.hls.mode ≠ .running ∧ s.hls.mode ≠ .starting) ∨ hlsSlot s 2 = none) :
    fastCrossing s tick idx v w mx mn = s := by
  unfold fastCrossing
  split
  · rfl
  · rename_i hm
    rcases h with h | h
    · exact absurd (by simp [h.1, h.2]) hm
    · rw [h]

theorem fastCrossing_first (hm : scannerMoving s) (hs : hlsSlot s 2 = some i) (hp : s.hls.period = none) :
    fastCrossing s tick idx v w mx mn = judgedPeriod s (correct s (fastChannel s i) mx) (correct s (fastChannel s i) mn) := by
  unfold fastCrossing
  rw [if_neg (scannerMoving_mode hm), hs, hp]
  rfl

theorem fastCrossing_between (hm : scannerMoving s) (hs : hlsSlot s 2 = some i) (hp : s.hls.period = some (hi, lo))
    (h1 : 2 * correct s (fastChannel s i) v < hi + lo) (h2 : hi + lo ≤ 2 * correct s (fastChannel s i) w) :
    fastCrossing s tick idx v w mx mn =
      if (judgedPeriod s (correct s (fastChannel s i) mx) (correct s (fastChannel s i) mn)).hls.mode == .parking then
        judgedPeriod s (correct s (fastChannel s i) mx) (correct s (fastChannel s i) mn)
      else lockStep (judgedPeriod s (correct s (fastChannel s i) mx) (correct s (fastChannel s i) mn))
        (phaseAt s (tick + crossingAt idx (correct s (fastChannel s i) v) (correct s (fastChannel s i) w) (hi + lo))) := by
  unfold fastCrossing
  rw [if_neg (scannerMoving_mode hm), hs, hp]
  exact if_pos ⟨h1, h2⟩

theorem fastCrossing_apart (hs : hlsSlot s 2 = some i) (hp : s.hls.period = some (hi, lo))
    (h : hi + lo ≤ 2 * correct s (fastChannel s i) v ∨ 2 * correct s (fastChannel s i) w < hi + lo) :
    fastCrossing s tick idx v w mx mn = s := by
  unfold fastCrossing
  split
  · rfl
  · rw [hs, hp]
    exact if_neg (fun hx => h.elim (Nat.not_le.mpr hx.1) (Nat.not_lt.mpr hx.2))

/-- The lock after a phase. -/
def phased (s : State) (y : Int) : State :=
  let run := if (y - (bits (hlsReg s 0xC00008) 31 16 : Int)).natAbs ≤ bits (hlsReg s 0xC00014) 31 16 then min 64 (s.hls.lockRun + 1) else 0
  { s with hls := { s.hls with
    y := y
    lockRun := run
    locked := decide (run = 64) } }

theorem lockStep_eq (s : State) (y : Int) : lockStep s y =
    if s.hls.locked && !(phased s y).hls.locked && s.hls.mode == .running then bump (phased s y) 0xC00060 else phased s y := rfl

theorem calm_lockStep (s : State) (y : Int) : calm (lockStep s y) = calm (phased s y) := by
  rw [lockStep_eq]
  split
  · exact calm_bump _ _
  · rfl

theorem lockStep_effects (E : Nat → Prop) (s : State) (y : Int) : ∃ C, Effects C E s (lockStep s y) ∧ ∀ n ∈ C, 256 ≤ n := by
  have h : Effects [] E s (phased s y) := ((Effects.refl E s).units (by rfl))
  rw [lockStep_eq]
  split
  · exact ⟨_, h.adds (bump_adds _ (off := 0xC00060) rfl (by decide)), fun n hn => by rw [List.mem_singleton.mp hn]; decide⟩
  · exact ⟨[], h, fun n hn => nomatch hn⟩

/-! ### The events -/

theorem exec_crossing_first {q : Fin 4} {a b m n : BitVec 16} {tick i : Nat} (h : Live s) (hm : scannerMoving s) (hs : hlsSlot s 2 = some i)
    (hp : s.hls.period = none) (hg : amplGood s (correct s (fastChannel s i) m.toNat - correct s (fastChannel s i) n.toNat)) :
    exec (.fastCrossing tick q a b m n) s =
      .next (moves (crossed s (correct s (fastChannel s i) m.toNat) (correct s (fastChannel s i) n.toNat)) false) :=
  exec_unit_quiet (i := .fastCrossing tick q a b m n) rfl h ((fastCrossing_first hm hs hp).trans (judgedPeriod_good hg)) h.toSteady.quiet

theorem exec_crossing_next {q : Fin 4} {a b m n : BitVec 16} {tick i hi lo : Nat} (h : Live s) (hm : scannerMoving s) (hs : hlsSlot s 2 = some i)
    (hp : s.hls.period = some (hi, lo)) (h1 : 2 * correct s (fastChannel s i) a.toNat < hi + lo)
    (h2 : hi + lo ≤ 2 * correct s (fastChannel s i) b.toNat)
    (hg : amplGood s (correct s (fastChannel s i) m.toNat - correct s (fastChannel s i) n.toNat)) :
    ∃ t, exec (.fastCrossing tick q a b m n) s = .next t ∧
      calm t = calm (phased (moves (crossed s (correct s (fastChannel s i) m.toNat) (correct s (fastChannel s i) n.toNat)) false)
        (phaseAt s (tick + crossingAt q.val (correct s (fastChannel s i) a.toNat) (correct s (fastChannel s i) b.toNat) (hi + lo)))) := by
  have hgood := judgedPeriod_good hg
  have hmode : ¬ ((moves (crossed s (correct s (fastChannel s i) m.toNat) (correct s (fastChannel s i) n.toNat)) false).hls.mode == .parking) = true := by
    show ¬ (s.hls.mode == .parking) = true
    rcases hm with hm | hm <;> rw [hm] <;> decide
  have hrun : fastCrossing s tick q.val a.toNat b.toNat m.toNat n.toNat = _ := fastCrossing_between hm hs hp h1 h2
  rw [hgood, if_neg hmode] at hrun
  have hbase : Effects [] exactly s (moves (crossed s (correct s (fastChannel s i) m.toNat) (correct s (fastChannel s i) n.toNat)) false) :=
    ((Effects.refl exactly s).units (by rfl))
  obtain ⟨C, hC, hbig⟩ := lockStep_effects exactly
    (moves (crossed s (correct s (fastChannel s i) m.toNat) (correct s (fastChannel s i) n.toNat)) false)
    (phaseAt s (tick + crossingAt q.val (correct s (fastChannel s i) a.toNat) (correct s (fastChannel s i) b.toNat) (hi + lo)))
  obtain ⟨t, ht, done⟩ := exec_done (i := .fastCrossing tick q a b m n) rfl h (C := C) (E := exactly) (by
    rw [hrun]
    exact hbase.trans hC)
  rw [hrun] at done
  exact ⟨t, ht, (done.calm fun n hn hl => absurd (hbig n hn) (Nat.not_le.mpr hl)).trans (calm_lockStep _ _)⟩

theorem exec_crossing_low {q : Fin 4} {a b m n : BitVec 16} {tick i : Nat} (h : Live s) (hm : scannerMoving s) (hs : hlsSlot s 2 = some i)
    (hbr : ∀ hi lo, s.hls.period = some (hi, lo) →
      2 * correct s (fastChannel s i) a.toNat < hi + lo ∧ hi + lo ≤ 2 * correct s (fastChannel s i) b.toNat)
    (hlow : 2 * (correct s (fastChannel s i) m.toNat - correct s (fastChannel s i) n.toNat) < amplNom s) :
    ∃ t, exec (.fastCrossing tick q a b m n) s = .next t ∧ t.hls.mode = .parking ∧ t.hls.cause = 5 ∧
      t.pins.hlEn = false ∧ counted s t 0x90 := by
  have hj := judgedPeriod_low hm hlow
  have hrun : fastCrossing s tick q.val a.toNat b.toNat m.toNat n.toNat =
      parkScanner (report (crossed s (correct s (fastChannel s i) m.toNat) (correct s (fastChannel s i) n.toNat)) { source := 0x90 }) 5 true := by
    cases hp : s.hls.period with
    | none => exact (fastCrossing_first hm hs hp).trans hj
    | some e =>
      obtain ⟨h1, h2⟩ := hbr e.1 e.2 hp
      refine (fastCrossing_between hm hs hp h1 h2).trans ?_
      rw [hj]
      refine if_pos ?_
      obtain ⟨L, d, hc⟩ := calm_parkScanner (s := crossed s (correct s (fastChannel s i) m.toNat) (correct s (fastChannel s i) n.toNat))
        hm (calm_report _ { source := 0x90 }) 5 true
      have hpark := calm_eq (·.hls.mode) hc
      rw [hpark]
      rfl
  obtain ⟨t, ht, p, htold⟩ := exec_parks (i := .fastCrossing tick q a b m n) rfl h ((Effects.refl exactly s).units (by rfl)) hrun hm rfl (src := 0x90)
    (by decide) (by decide) rfl rfl (fun k hk => by rw [sourceCfg_fixed (e := (0x90, 1, 8)) rfl]; exact bitAt_parks hk)
  exact ⟨t, ht, p.mode, p.cause, p.hlEn, htold⟩

theorem exec_crossing_off {q : Fin 4} {a b m n : BitVec 16} {tick i : Nat} (h : Live s) (hm : scannerMoving s) (hs : hlsSlot s 2 = some i)
    (hp : s.hls.period = none) (ho : s.hls.amplOut = false) (h0 : amplNom s ≠ 0)
    (h2 : amplNom s ≤ 2 * (correct s (fastChannel s i) m.toNat - correct s (fastChannel s i) n.toNat))
    (hoff : (correct s (fastChannel s i) m.toNat - correct s (fastChannel s i) n.toNat) * 100 < amplNom s * (100 - amplTol s) ∨
      amplNom s * (100 + amplTol s) < (correct s (fastChannel s i) m.toNat - correct s (fastChannel s i) n.toNat) * 100) :
    ∃ t, exec (.fastCrossing tick q a b m n) s = .next t ∧ t.hls.amplOut = true ∧ counted s t 0x95 := by
  have hrun : fastCrossing s tick q.val a.toNat b.toNat m.toNat n.toNat = _ :=
    (fastCrossing_first hm hs hp).trans (judgedPeriod_off h0 h2 ho hoff)
  have hbase : Effects [] exactly s (moves (crossed s (correct s (fastChannel s i) m.toNat) (correct s (fastChannel s i) n.toNat)) true) :=
    ((Effects.refl exactly s).units (by rfl))
  obtain ⟨t, ht, done⟩ := exec_done (i := .fastCrossing tick q a b m n) rfl h (C := [0x95]) (E := exactly) (by
    rw [hrun]
    exact hbase.report { source := 0x95 })
  rw [hrun] at done
  exact ⟨t, ht, (congrArg (·.hls.amplOut) done.rest :), done.counted 0x95 (by decide) (by decide) (fun h => h) rfl⟩

end
end Sys2Proof.Machine
end


section
/-! Lines of the scanner: their start and the end of their busy span (R375 to R378, R381). -/

namespace Sys2Proof.Machine

section
variable {s r t : State} {p : ScanSpan} {E : Nat → Prop} {line : Nat}

/-! ### What a line is made of rests on no tally -/

theorem lineValues_of {a b : State} (hd : a.dram = b.dram) (hf : a.flt = b.flt) (hb : a.badWords = b.badWords) (hi : a.img = b.img)
    (hu : a.fuse = b.fuse) (hh : a.hls = b.hls) (line : Nat) : lineValues a line = lineValues b line := by
  have hrd : rd a = rd b := by
    funext x
    simp only [rd, hd]
  have hhit : readHits a = readHits b := by
    funext x n
    simp only [readHits, firstBad, armedUe, hf, hb]
  have haddr : fieldAddr a = fieldAddr b := by
    funext set line i
    simp only [fieldAddr, fieldBase, reservedBase_fuse hu, scanCfg, cfg, hi]
  have hrn : rdN a = rdN b := by
    funext x n
    simp only [rdN, rdBytes, hrd]
  simp only [lineValues, hrn, hhit, haddr, hh, scanCfg, cfg, hi]

/-! ### A line that starts -/

/-- The line that begins, counted; and the slow axis off its place. -/
def lineCounted (s : State) (line : Nat) : State :=
  if slowOff s then report (bump (bump s 0xC00050) 0xC00054) { source := 0x93, address := line } else bump s 0xC00050

/-- An uncorrectable word of the field is met. -/
def lineRead (s : State) (line : Nat) : State :=
  if (lineValues s line).2 then
    report (readUe s (fieldAddr s s.hls.shown line 0) (8 * (scanCfg s).pixels) 0x0B) { source := 0x96 } else s

/-- The line is drawn. -/
def lineDrawn (s a : State) (p : ScanSpan) (line : Nat) (ok : Bool) (values : List (List Nat)) : State := { a with
  pins := { a.pins with hlEn := ok }
  hls := { a.hls with
    line := line
    dark := !ok
    span := some { p with started := p.started + 1 }
    lineNow := some { reverse := reverseHalf s, dark := slowOff s || !s.hls.locked || !ok, values := values } } }

/-- A half-period begins that a line of the span is drawn in. -/
def lineBegins (s : State) (p : ScanSpan) : Prop :=
  s.hls.mode = .running ∧ p.started < p.count ∧ p.t0 ≤ s.tsc ∧ halfBegins s = true ∧ halfFits s p.busyEnd = true

theorem scanLineStart_begins (hp : s.hls.span = some p) (h : lineBegins s p) : scanLineStart s =
    hlsTarget (lineDrawn s (lineRead (lineCounted s (p.first + p.started)) (p.first + p.started)) p (p.first + p.started)
      (lasersAllowed (lineCounted s (p.first + p.started))) (lineValues (lineCounted s (p.first + p.started)) (p.first + p.started)).1) 3
      ((scanCfg s).slow.getD (p.first + p.started) 0) := by
  obtain ⟨hm, hc, ht, hb, hf⟩ := h
  unfold scanLineStart
  rw [hp]
  exact if_pos (by simp [hm, hc, ht, hb, hf])

theorem scanLineStart_idle (hp : s.hls.span = some p) (h : s.hls.mode ≠ .running ∨ p.count ≤ p.started ∨
    s.tsc < p.t0 ∨ halfBegins s = false ∨ halfFits s p.busyEnd = false) : scanLineStart s = s := by
  unfold scanLineStart
  rw [hp]
  refine if_neg ?_
  rcases h with h | h | h | h | h
  · simp [h]
  · simp [Nat.not_lt.mpr h]
  · simp [Nat.not_le.mpr h]
  · simp [h]
  · simp [h]

theorem scanLineStart_none (hp : s.hls.span = none) : scanLineStart s = s := by
  unfold scanLineStart
  rw [hp]

/-- What the start of a line counts and reports. -/
def lineCounts (s : State) (line : Nat) : List Nat :=
  [0xC00050] ++ ((if slowOff s then [0xC00054, 0x93] else []) ++ if (lineValues s line).2 then [0x96] else [])

theorem lineCounted_effects (E : Nat → Prop) (s : State) (line : Nat) :
    Effects ([0xC00050] ++ if slowOff s then [0xC00054, 0x93] else []) E s (lineCounted s line) := by
  have h1 : Effects [0xC00050] E s (bump s 0xC00050) := (bump_adds s (off := 0xC00050) rfl (by decide)).effects
  unfold lineCounted
  split
  · exact (h1.adds (bump_adds _ (off := 0xC00054) rfl (by decide))).report { source := 0x93, address := line }
  · exact h1

theorem calm_lineCounted (s : State) (line : Nat) : calm (lineCounted s line) = calm s := by
  unfold lineCounted
  split
  · exact (calm_report _ _).trans ((calm_bump _ _).trans (calm_bump _ _))
  · exact calm_bump _ _

theorem lineValues_counted (s : State) (line k : Nat) : lineValues (lineCounted s line) k = lineValues s k := by
  have hb := bump_mild s 0xC00050
  have hc : calm (lineCounted s line) = calm s := calm_lineCounted s line
  have hm := bump_mild (bump s 0xC00050) 0xC00054
  refine lineValues_of ?_ ?_ ?_ (calm_eq (·.img) hc) (calm_eq (·.fuse) hc) (calm_eq (·.hls) hc) k
  · unfold lineCounted
    split
    · exact hm.dram.trans hb.dram
    · exact hb.dram
  · unfold lineCounted
    split
    · exact hm.flt.trans hb.flt
    · exact hb.flt
  · unfold lineCounted
    split
    · exact hm.badWords.trans hb.badWords
    · exact hb.badWords

theorem lasersAllowed_counted (s : State) (line : Nat) : lasersAllowed (lineCounted s line) = lasersAllowed s :=
  calm_eq lasersAllowed (calm_lineCounted s line)

theorem lineRead_effects (s : State) (line : Nat) : Effects (if (lineValues s line).2 then [0x96] else []) loadNoise s (lineRead s line) := by
  unfold lineRead
  split
  · exact (readUe_effects s _ _ _).report { source := 0x96 }
  · exact .refl _ s

theorem lineRead_hls (s : State) (line : Nat) : (lineRead s line).hls = s.hls ∧ (lineRead s line).pins = s.pins := by
  unfold lineRead
  split
  · have h := (readUe_notes (L := [0x21]) s (fieldAddr s s.hls.shown line 0) (8 * (scanCfg s).pixels) 0x0B (List.mem_singleton_self _)).noted
    exact ⟨(noted_eq (·.hls) h :), (noted_eq (·.pins) h :)⟩
  · exact ⟨rfl, rfl⟩

theorem hlsTarget_units (s : State) (k v : Nat) : ∃ L, hlsTarget s k v = { s with lpe := L } := modHlsSlot_units s k _

/-- The slot of a scanner kind is one of the 24, and takes a target. -/
theorem hlsTarget_tgt {i : Nat} (k v : Nat) (h : hlsSlot s k = some i) : (slotAt (hlsTarget s k v) i).tgt = (v * 65536 : Nat) := by
  have hi : i < 24 := by
    unfold hlsSlot firstN at h
    exact List.mem_range.mp (List.mem_of_find?_eq_some h)
  unfold hlsTarget modHlsSlot
  rw [h, slotAt_modSlot, if_pos ⟨rfl, hi⟩]

end
end Sys2Proof.Machine
end


section
/-! Crossings lock the scanner, and lines are drawn (R371 to R378, R381). -/

namespace Sys2Proof.Machine

section
variable {s r t : State} {p : ScanSpan} {E : Nat → Prop} {line : Nat}

/-- The line that a span begins next. -/
def nextLine (p : ScanSpan) : Nat := p.first + p.started

/-- The state in which the next line of a span is drawn. -/
def lineStarted (s : State) (p : ScanSpan) : State :=
  lineDrawn s (lineRead (lineCounted s (nextLine p)) (nextLine p)) p (nextLine p) (lasersAllowed s) (lineValues s (nextLine p)).1

theorem scanLineStart_started (hp : s.hls.span = some p) (h : lineBegins s p) :
    scanLineStart s = hlsTarget (lineStarted s p) 3 ((scanCfg s).slow.getD (nextLine p) 0) := by
  rw [scanLineStart_begins hp h, lasersAllowed_counted, lineValues_counted]
  rfl

theorem lineStarted_effects (s : State) (p : ScanSpan) : Effects (lineCounts s (nextLine p)) loadNoise s (lineStarted s p) := by
  have h := (lineCounted_effects loadNoise s (nextLine p)).trans (lineRead_effects (lineCounted s (nextLine p)) (nextLine p))
  rw [lineValues_counted, List.append_assoc] at h
  unfold lineStarted
  generalize lineRead (lineCounted s (nextLine p)) (nextLine p) = x at *
  exact (h.units (by rfl))

/-- The scanner's record as a line is drawn. -/
theorem lineStarted_hls (s : State) (p : ScanSpan) : (lineStarted s p).hls = { s.hls with
    line := nextLine p
    dark := !lasersAllowed s
    span := some { p with started := p.started + 1 }
    lineNow := some { reverse := reverseHalf s, dark := slowOff s || !s.hls.locked || !lasersAllowed s,
                      values := (lineValues s (nextLine p)).1 } } := by
  have hh : (lineRead (lineCounted s (nextLine p)) (nextLine p)).hls = s.hls :=
    (lineRead_hls _ _).1.trans (calm_eq (·.hls) (calm_lineCounted s _))
  unfold lineStarted lineDrawn
  rw [hh]

theorem lineStarted_pins (s : State) (p : ScanSpan) : (lineStarted s p).pins = { s.pins with hlEn := lasersAllowed s } := by
  have hh : (lineRead (lineCounted s (nextLine p)) (nextLine p)).pins = s.pins :=
    (lineRead_hls _ _).2.trans (calm_eq (·.pins) (calm_lineCounted s _))
  unfold lineStarted lineDrawn
  rw [hh]

/-! ### The events -/

theorem exec_line_clean (h : Live s) (hp : s.hls.span = some p) (hb : lineBegins s p) (ho : slowOff s = false)
    (hv : (lineValues s (nextLine p)).2 = false) :
    ∃ t, exec .scanLineStart s = .next t ∧ calm t = calm (hlsTarget (lineDrawn s (bump s 0xC00050) p (nextLine p) (lasersAllowed s)
      (lineValues s (nextLine p)).1) 3 ((scanCfg s).slow.getD (nextLine p) 0)) ∧
      tally t 0xC00050 = min (tally s 0xC00050 + 1) tallyMax := by
  have hc : lineCounted s (nextLine p) = bump s 0xC00050 := if_neg (by rw [ho]; decide)
  have hr : lineRead (bump s 0xC00050) (nextLine p) = bump s 0xC00050 := by
    rw [← hc, lineRead, lineValues_counted, hv]
    rfl
  have hs : lineStarted s p = lineDrawn s (bump s 0xC00050) p (nextLine p) (lasersAllowed s) (lineValues s (nextLine p)).1 := by
    rw [lineStarted, hc, hr]
  have hrun := scanLineStart_started hp hb
  rw [hs] at hrun
  have hbase : Effects [0xC00050] exactly s (bump s 0xC00050) := (bump_adds s (off := 0xC00050) rfl (by decide)).effects
  have heff : Effects [0xC00050] exactly s (scanLineStart s) := by
    rw [hrun]
    obtain ⟨L, hL⟩ := hlsTarget_units (lineDrawn s (bump s 0xC00050) p (nextLine p) (lasersAllowed s) (lineValues s (nextLine p)).1) 3
      ((scanCfg s).slow.getD (nextLine p) 0)
    rw [hL]
    exact (hbase.units (by rfl))
  obtain ⟨t, ht, done⟩ := exec_done (i := .scanLineStart) (f := scanLineStart) rfl h heff
  refine ⟨t, ht, ?_, done.tallies 0xC00050 (by decide) rfl (fun h => h)⟩
  rw [← hrun]
  exact done.calm fun n hn hl => absurd hl (by rw [List.mem_singleton.mp hn]; decide)

/-- The scanner's record as a line is drawn where nothing is off. -/
def cleanHls (s : State) (p : ScanSpan) : Hls :=
  { s.hls with
    line := nextLine p
    dark := !lasersAllowed s
    span := some { p with started := p.started + 1 }
    lineNow := some { reverse := reverseHalf s, dark := !s.hls.locked || !lasersAllowed s, values := (lineValues s (nextLine p)).1 } }

theorem exec_line_drawn (h : Live s) (hp : s.hls.span = some p) (hb : lineBegins s p) (ho : slowOff s = false)
    (hv : (lineValues s (nextLine p)).2 = false) :
    ∃ t, exec .scanLineStart s = .next t ∧ t.hls = cleanHls s p ∧
      t.pins.hlEn = lasersAllowed s ∧ tally t 0xC00050 = min (tally s 0xC00050 + 1) tallyMax ∧
      (∀ i, hlsSlot s 3 = some i → (slotAt t i).tgt = ((scanCfg s).slow.getD (nextLine p) 0 * 65536 : Nat)) ∧
      calm t = calm { s with hls := t.hls, lpe := t.lpe, pins := { s.pins with hlEn := lasersAllowed s } } := by
  obtain ⟨t, ht, hcalm, htal⟩ := exec_line_clean h hp hb ho hv
  have hbc : calm (bump s 0xC00050) = calm s := calm_bump s 0xC00050
  generalize bump s 0xC00050 = x at *
  have hxh : x.hls = s.hls := (calm_eq (·.hls) hbc :)
  have hxp : x.pins = s.pins := (calm_eq (·.pins) hbc :)
  have hslot : hlsSlot x 3 = hlsSlot s 3 := (calm_eq (fun y => hlsSlot y 3) hbc :)
  have htgt (i : Nat) := hlsTarget_tgt (s := lineDrawn s x p (nextLine p) (lasersAllowed s) (lineValues s (nextLine p)).1) (i := i) 3
    ((scanCfg s).slow.getD (nextLine p) 0)
  obtain ⟨L, hL⟩ := hlsTarget_units (lineDrawn s x p (nextLine p) (lasersAllowed s) (lineValues s (nextLine p)).1) 3
    ((scanCfg s).slow.getD (nextLine p) 0)
  have hdrawn : lineDrawn s x p (nextLine p) (lasersAllowed s) (lineValues s (nextLine p)).1 = { x with
      pins := { s.pins with hlEn := lasersAllowed s }
      hls := cleanHls s p } := by
    unfold lineDrawn cleanHls
    rw [ho, hxh, hxp]
    rfl
  rw [hL] at hcalm htgt
  have hat (i : Nat) : slotAt t i = _ := calm_eq (fun y => slotAt y i) hcalm
  have hall : calm t = calm { s with
      pins := { s.pins with hlEn := lasersAllowed s }
      hls := cleanHls s p
      lpe := L } := by
    rw [hcalm, hdrawn]
    exact congrArg (fun y : State => { y with
      pins := { s.pins with hlEn := lasersAllowed s }
      hls := cleanHls s p
      lpe := L }) hbc
  have hth : t.hls = cleanHls s p := calm_eq (·.hls) hall
  have htl : t.lpe = L := calm_eq (·.lpe) hall
  refine ⟨t, ht, hth, calm_eq (·.pins.hlEn) hall, htal, fun i hi => ?_, ?_⟩
  · rw [hat, ← htgt i (hslot.trans hi)]
  · rw [hall, hth, htl]

theorem exec_line (h : Live s) (hp : s.hls.span = some p) (hb : lineBegins s p) :
    ∃ t, exec .scanLineStart s = .next t ∧ t.hls.line = nextLine p ∧ (lasersAllowed s = false → t.pins.hlEn = false) ∧
      tally t 0xC00050 = min (tally s 0xC00050 + 1) tallyMax ∧
      (slowOff s = true → counted s t 0x93 ∧ tally t 0xC00054 = min (tally s 0xC00054 + 1) tallyMax) ∧
      ((lineValues s (nextLine p)).2 = true → counted s t 0x96) := by
  have hrun := scanLineStart_started hp hb
  have heff : Effects (lineCounts s (nextLine p)) loadNoise s (scanLineStart s) := by
    have hs := lineStarted_effects s p
    rw [hrun]
    obtain ⟨L, hL⟩ := hlsTarget_units (lineStarted s p) 3 ((scanCfg s).slow.getD (nextLine p) 0)
    rw [hL]
    generalize lineStarted s p = x at *
    exact (hs.units (by rfl))
  obtain ⟨t, ht, done⟩ := exec_done (i := .scanLineStart) (f := scanLineStart) rfl h heff
  have hcount (n : Nat) : (lineCounts s (nextLine p)).count n = [0xC00050].count n +
      ((if slowOff s then [0xC00054, 0x93] else []).count n + (if (lineValues s (nextLine p)).2 then [0x96] else []).count n) := by
    rw [lineCounts, List.count_append, List.count_append]
  have hline : (scanLineStart s).hls.line = nextLine p ∧ (scanLineStart s).pins.hlEn = lasersAllowed s := by
    rw [hrun]
    obtain ⟨L, hL⟩ := hlsTarget_units (lineStarted s p) 3 ((scanCfg s).slow.getD (nextLine p) 0)
    rw [hL]
    exact ⟨congrArg Hls.line (lineStarted_hls s p), congrArg Pins.hlEn (lineStarted_pins s p)⟩
  obtain ⟨hl, he⟩ := hline
  refine ⟨t, ht, (congrArg (·.hls.line) done.rest :).trans hl, fun hno => ?_, ?_, fun ho => ⟨?_, ?_⟩, fun hv => ?_⟩
  · exact done.pins.hl (he.trans hno)
  · rw [done.tallies 0xC00050 (by decide) rfl (by unfold loadNoise; decide), hcount]
    cases slowOff s <;> cases (lineValues s (nextLine p)).2 <;> rfl
  · refine done.counted 0x93 (by decide) (by decide) (by unfold loadNoise; decide) ?_
    rw [hcount, ho]
    cases (lineValues s (nextLine p)).2 <;> rfl
  · rw [done.tallies 0xC00054 (by decide) rfl (by unfold loadNoise; decide), hcount, ho]
    cases (lineValues s (nextLine p)).2 <;> rfl
  · refine done.counted 0x96 (by decide) (by decide) (by unfold loadNoise; decide) ?_
    rw [hcount, hv]
    cases slowOff s <;> rfl

/-! ### The end of a span -/

theorem bumpBy_effects (E : Nat → Prop) (s : State) {off : Nat} (n : Nat) (hu : unitTally off = true) (h6 : 256 ≤ off) :
    Effects (List.replicate n off) E s (bumpBy s off n) := by
  have h : ∀ (l : List Nat) (s : State), Effects (List.replicate l.length off) E s (l.foldl (fun s _ => bump s off) s) := by
    intro l
    induction l with
    | nil => exact fun s => .refl E s
    | cons x l ih => exact fun s => (bump_adds s hu h6).effects.trans (ih _)
  have hn := h (List.range n) s
  rwa [List.length_range] at hn

/-- The span is over. -/
def spanOver (s : State) : State := { s with hls := { s.hls with span := none } }

theorem scanLineEnd_none (hp : s.hls.span = none) : scanLineEnd s = s := by
  unfold scanLineEnd
  rw [hp]

theorem scanLineEnd_early (hp : s.hls.span = some p) (h : s.tsc < p.busyEnd) : scanLineEnd s = s := by
  unfold scanLineEnd
  rw [hp]
  exact if_pos h

theorem scanLineEnd_over (hp : s.hls.span = some p) (h : p.busyEnd ≤ s.tsc) : scanLineEnd s =
    hlsTarget (spanOver (bumpBy s 0xC00058 (p.count - p.started))) 3 ((scanCfg s).slow.getD ((p.first + p.count) % max 1 (scanCfg s).lines) 0) := by
  unfold scanLineEnd
  rw [hp]
  exact if_neg (Nat.not_lt.mpr h)

theorem exec_span_over (h : Live s) (hp : s.hls.span = some p) (hb : p.busyEnd ≤ s.tsc) :
    ∃ t, exec .scanLineEnd s = .next t ∧ t.hls = { s.hls with span := none } ∧
      tally t 0xC00058 = min (tally s 0xC00058 + (p.count - p.started)) tallyMax ∧
      (∀ i, hlsSlot s 3 = some i → (slotAt t i).tgt =
        ((scanCfg s).slow.getD ((p.first + p.count) % max 1 (scanCfg s).lines) 0 * 65536 : Nat)) ∧
      calm t = calm { s with hls := t.hls, lpe := t.lpe } := by
  have hrun := scanLineEnd_over hp hb
  have hbase := bumpBy_effects exactly s (p.count - p.started) (off := 0xC00058) rfl (by decide)
  have hbc : calm (bumpBy s 0xC00058 (p.count - p.started)) = calm s := calm_bumpBy s 0xC00058 (p.count - p.started)
  generalize bumpBy s 0xC00058 (p.count - p.started) = x at *
  have hslot : hlsSlot (spanOver x) 3 = hlsSlot s 3 := (calm_eq (fun y => hlsSlot y 3) hbc :)
  have hxh : x.hls = s.hls := (calm_eq (·.hls) hbc :)
  have htgt (i : Nat) := hlsTarget_tgt (s := spanOver x) (i := i) 3 ((scanCfg s).slow.getD ((p.first + p.count) % max 1 (scanCfg s).lines) 0)
  obtain ⟨L, hL⟩ := hlsTarget_units (spanOver x) 3 ((scanCfg s).slow.getD ((p.first + p.count) % max 1 (scanCfg s).lines) 0)
  rw [hL] at hrun htgt
  obtain ⟨t, ht, done⟩ := exec_done (i := .scanLineEnd) (f := scanLineEnd) rfl h (C := List.replicate (p.count - p.started) 0xC00058)
    (E := exactly) (by
      rw [hrun]
      exact (hbase.units (by rfl)))
  rw [hrun] at done
  have hcalm := done.calm fun n hn hl => absurd hl (by rw [List.eq_of_mem_replicate hn]; decide)
  have hth : t.hls = { s.hls with span := none } := by
    rw [← hxh]
    exact calm_eq (·.hls) hcalm
  refine ⟨t, ht, hth, ?_, fun i hi => ?_, ?_⟩
  · rw [done.tallies 0xC00058 (by decide) rfl (fun h => h), List.count_replicate_self]
  · rw [← htgt i (hslot.trans hi)]
    exact congrArg Slot.tgt (calm_eq (fun y => slotAt y i) hcalm)
  · have hl : t.lpe = L := calm_eq (·.lpe) hcalm
    rw [hcalm, hl, hth]
    show calm { x with hls := { x.hls with span := none }, lpe := L } = _
    rw [hxh]
    exact congrArg (fun y : State => { y with hls := { s.hls with span := none }, lpe := L }) hbc

end

/-- Settles O47: crossings by the judgement of their period, lines by what their start finds, and the end of a span. -/
theorem crossingsLockAndLinesAreDrawn : Obligations.CrossingsLockAndLinesAreDrawn := by
  unfold Obligations.CrossingsLockAndLinesAreDrawn
  refine ⟨fun s tick q a b mx mn i ch pp nom tol h hm hs hp hch hpp hnom htol hg => ?first,
    fun s tick q a b mx mn i ch hi lo v0 v1 pp nom tol h hm hs hp hch hv0 hv1 h1 h2 hpp hnom htol hg => ?next,
    fun s tick q a b mx mn i ch h hm hs hch hbr hlow => ?low,
    fun s tick q a b mx mn i ch pp nom tol h hm hs hp ho hch hpp hnom htol h0 h2 hoff => ?off,
    fun s tick q a b mx mn h hor => exec_unit_same (i := .fastCrossing tick q a b mx mn) rfl h (fastCrossing_still hor),
    fun s tick q a b mx mn i ch hi lo h hs hch hp hor => ?apart,
    fun s p line h hp hm hc ht hb hf hl ho hv => ?clean, fun s p h hp hm hc ht hb hf => exec_line h hp ⟨hm, hc, ht, hb, hf⟩,
    fun s p h hp hor => exec_unit_same (i := .scanLineStart) (f := scanLineStart) rfl h (scanLineStart_idle hp hor),
    fun s h hp => ⟨exec_unit_same (i := .scanLineStart) (f := scanLineStart) rfl h (scanLineStart_none hp),
      exec_unit_same (i := .scanLineEnd) (f := scanLineEnd) rfl h (scanLineEnd_none hp)⟩,
    fun s p h hp ht => exec_unit_same (i := .scanLineEnd) (f := scanLineEnd) rfl h (scanLineEnd_early hp ht),
    fun s p h hp ht => exec_span_over h hp ht⟩
  case first =>
    subst hch hpp hnom htol
    exact ⟨_, exec_crossing_first h hm hs hp hg, rfl⟩
  case next =>
    subst hch hv0 hv1 hpp hnom htol
    obtain ⟨t, ht, hcalm⟩ := exec_crossing_next (q := q) (tick := tick) h hm hs hp h1 h2 hg
    have hh := calm_eq (·.hls) hcalm
    refine ⟨t, ht, by rw [hh]; rfl, by rw [hh]; rfl, by rw [hh]; rfl, by rw [hh]; rfl, by rw [hh]; rfl, by rw [hh]; rfl,
      by rw [hh]; rfl, ?_⟩
    rw [hcalm, hh]
    rfl
  case low =>
    subst hch
    exact exec_crossing_low h hm hs hbr hlow
  case off =>
    subst hch hpp hnom htol
    exact exec_crossing_off h hm hs hp ho h0 h2 hoff
  case apart =>
    subst hch
    exact exec_unit_same (i := .fastCrossing tick q a b mx mn) rfl h (fastCrossing_apart hs hp hor)
  case clean =>
    subst hl
    exact exec_line_drawn h hp ⟨hm, hc, ht, hb, hf⟩ ho hv

end Sys2Proof.Machine
end


section
/-! Plane builders: tiles that start, are built, and fail their residues (R242 to R244, R247 to R251). -/

namespace Sys2Proof.Machine

section
variable {s t x : State} {p : Pass} {e : TileCfg} {sl : Nat}

/-! ### A tile that starts -/

theorem tileStart_starts (hp : s.cmp.pass = some p) (ht : slotTile s sl = some e) (hb : buildsPass s p = true)
    (hy : (vget s.pbu.slots sl {}).phys.isSome = true) (hr : (vget s.pbu.slots sl {}).running = false)
    (ha : (vget s.pbu.slots sl {}).abandoned = false) (hm : s.pbu.belowMin = false) (hf : firstRowIn s p e = true)
    (hn : ∀ f ∈ s.pbu.failing, f.slot ≠ sl) : tileStart s sl = { s with pbu := { s.pbu with
      slots := vmod s.pbu.slots sl (fun x => { x with running := true, start := s.tsc }) } } := by
  have hall : s.pbu.failing.all (fun f => f.slot != sl) = true := List.all_eq_true.mpr fun f hx => by simpa using hn f hx
  unfold tileStart
  rw [hp, ht]
  exact if_pos (by rw [hb, hy, hr, ha, hm, hf, hall]; rfl)

theorem tileStart_idle (hp : s.cmp.pass = some p) (ht : slotTile s sl = some e)
    (h : firstRowIn s p e = false ∨ (vget s.pbu.slots sl {}).running = true) : tileStart s sl = s := by
  unfold tileStart
  rw [hp, ht]
  refine if_neg ?_
  rcases h with h | h <;> simp [h]

/-! ### The planes of a tile -/

/-- Address of a row of a plane of a tile, in the set that its port does not show. -/
def tileRowAddr (s : State) (port band q row : Nat) : Nat :=
  planeAddr (cfg s) (if bitAt s.pbu.shown port then 0 else 1) port band q + row * planeStride (linkCfg s port).width

/-- An address lies in no row of a tile's planes. -/
def offTile (s : State) (port band a : Nat) : Prop :=
  ∀ row q, row < (linkCfg s port).blockRows → q < planesPerBand (portPrimary s port) →
    a < tileRowAddr s port band q row ∨ tileRowAddr s port band q row + planeStride (linkCfg s port).width ≤ a

/-- Rows of a tile have been written: the cache and the memory have changed, and of the latter only the tile's planes. -/
structure RowsWritten (port band : Nat) (s t : State) : Prop where
  frame : ∃ dr bw po ca, t = { s with
    dram := dr
    badWords := bw
    poisoned := po
    pbu := { s.pbu with cache := ca } }
  memory : ∀ a, offTile s port band a → rd t a = rd s a

theorem RowsWritten.refl (port band : Nat) (s : State) : RowsWritten port band s s := ⟨⟨_, _, _, _, rfl⟩, fun _ _ => rfl⟩

/-- One more row. -/
theorem RowsWritten.row {port band q row : Nat} (h : RowsWritten port band s x) (hr : row < (linkCfg s port).blockRows)
    (hq : q < planesPerBand (portPrimary s port)) (codes : List Nat) (n : Nat) :
    RowsWritten port band s (writePlaneRow x (if bitAt s.pbu.shown port then 0 else 1) port band q row
      (planeRow (planeStride (linkCfg s port).width) n codes)) := by
  obtain ⟨⟨dr, bw, po, ca, rfl⟩, hmem⟩ := h
  have hlen : (planeRow (planeStride (linkCfg s port).width) n codes).length = planeStride (linkCfg s port).width := by
    simp [planeRow]
  generalize planeRow (planeStride (linkCfg s port).width) n codes = l at *
  have hout (a : Nat) (ha : offTile s port band a) : rd (wrBytes { s with
      dram := dr
      badWords := bw
      poisoned := po
      pbu := { s.pbu with cache := ca } } (tileRowAddr s port band q row) l) a = rd s a := by
    have hx := ha row q hr hq
    rw [rd_wrBytes_outside _ _ _ (by rw [hlen]; exact hx)]
    exact hmem a ha
  obtain ⟨dr', bw', po', hw⟩ := wrBytes_frame { s with
      dram := dr
      badWords := bw
      poisoned := po
      pbu := { s.pbu with cache := ca } } (tileRowAddr s port band q row) l
  have he : writePlaneRow { s with
      dram := dr
      badWords := bw
      poisoned := po
      pbu := { s.pbu with cache := ca } } (if bitAt s.pbu.shown port then 0 else 1) port band q row l =
    match cachedIn s (if bitAt s.pbu.shown port then 0 else 1) port band q with
    | some n => cacheWrite (wrBytes { s with
        dram := dr
        badWords := bw
        poisoned := po
        pbu := { s.pbu with cache := ca } } (tileRowAddr s port band q row) l) n (row * planeStride (linkCfg s port).width) l
    | none => wrBytes { s with
        dram := dr
        badWords := bw
        poisoned := po
        pbu := { s.pbu with cache := ca } } (tileRowAddr s port band q row) l := rfl
  rw [he]
  rw [hw] at hout ⊢
  split
  · exact ⟨⟨_, _, _, _, rfl⟩, hout⟩
  · exact ⟨⟨_, _, _, _, rfl⟩, hout⟩

theorem RowsWritten.shown {port band : Nat} (h : RowsWritten port band s x) : x.pbu.shown = s.pbu.shown := by
  obtain ⟨dr, bw, po, ca, rfl⟩ := h.frame
  rfl

/-- The plane that a bit of a primary's codes stands in. -/
def tilePlane (s : State) (port c q : Nat) : Nat := if portPrimary s port = 3 then q + 16 * c else q

theorem tilePlane_lt {port c q : Nat} (hc : c ∈ portPrims s port) (hq : q < 16) : tilePlane s port c q < planesPerBand (portPrimary s port) := by
  unfold tilePlane planesPerBand
  unfold portPrims at hc
  split
  · rename_i h3
    rw [if_pos h3] at hc
    have : c < 3 := by
      simp only [List.mem_cons, List.not_mem_nil, or_false] at hc
      omega
    omega
  · exact hq

theorem writeTile_written (s : State) (ps : Pass) (port band : Nat) : RowsWritten port band s (writeTile s ps port band) := by
  unfold writeTile
  refine List.foldlRecOn _ _ (motive := RowsWritten port band s) (.refl port band s) (fun x hx row hrow => ?_)
  refine List.foldlRecOn _ _ (motive := RowsWritten port band s) hx (fun y hy c hc => ?_)
  refine List.foldlRecOn _ _ (motive := RowsWritten port band s) hy (fun z hz q hq => ?_)
  exact hz.row (q := tilePlane s port c q) (List.mem_range.mp hrow) (tilePlane_lt hc (List.mem_range.mp hq)) _ q

/-! ### A tile that is built -/

/-- Its rows written, a tile whose residues agree is done. -/
theorem RowsWritten.done (h : RowsWritten e.port e.band s x) : ∃ dr bw po pb, tileDone x p sl e = { s with
      dram := dr
      badWords := bw
      poisoned := po
      pbu := pb } ∧
    pb.built = (e.port, e.band) :: s.pbu.built ∧
    pb.slots = vmod s.pbu.slots sl (fun x => { x with running := false, seq := x.seq + 1 }) ∧
    pb.failing = s.pbu.failing ∧ pb.fenced = s.pbu.fenced ∧
    ∀ a, offTile s e.port e.band a → rd (tileDone x p sl e) a = rd s a := by
  obtain ⟨⟨dr, bw, po, ca, rfl⟩, hmem⟩ := h
  unfold tileDone
  dsimp only
  split
  · exact ⟨_, _, _, _, rfl, rfl, rfl, rfl, rfl, hmem⟩
  · exact ⟨_, _, _, _, rfl, rfl, rfl, rfl, rfl, hmem⟩

variable {b : Nat} {rs : List Nat}

theorem armedOn_written {port band : Nat} (h : RowsWritten port band s x) (src : Nat) : armedOn x src b = armedOn s src b := by
  obtain ⟨dr, bw, po, ca, rfl⟩ := h.frame
  rfl

section
variable (hp : s.cmp.pass = some p) (ht : slotTile s sl = some e) (hy : (vget s.pbu.slots sl {}).phys = some b)
  (hr : (vget s.pbu.slots sl {}).running = true) (hd : tileDue s p e (vget s.pbu.slots sl {}).start = true)
  (ha : armedOn s 0x40 b = none)
include hp ht hy hr hd ha

theorem tileBuilt_done (hq : rs = inputResidues s p e.port e.band) :
    tileBuilt s sl rs = tileDone (writeTile s p e.port e.band) p sl e := by
  have hi : armedOn (writeTile s p e.port e.band) 0x40 b = none := (armedOn_written (writeTile_written s p _ _) _).trans ha
  unfold tileBuilt
  rw [hp, ht, hy, hr]
  dsimp only
  rw [hd, hi, hq]
  exact (if_pos rfl).trans (if_pos (by simp))

/-- A tile whose residues differ waits for the end of the cycle. -/
theorem tileBuilt_fails (hq : rs ≠ inputResidues s p e.port e.band) : ∃ dr bw po ca, tileBuilt s sl rs = { s with
    dram := dr
    badWords := bw
    poisoned := po
    pbu := { s.pbu with
      cache := ca
      slots := vmod s.pbu.slots sl (fun x => { x with running := false })
      failing := s.pbu.failing ++
        [{ slot := sl, phys := b, port := e.port, band := e.band, real := true, inj := none, pass := p.no }] } } := by
  have hw := writeTile_written s p e.port e.band
  have hi : armedOn (writeTile s p e.port e.band) 0x40 b = none := (armedOn_written hw _).trans ha
  unfold tileBuilt
  rw [hp, ht, hy, hr]
  dsimp only
  rw [hd, hi, bne_iff_ne.mpr hq]
  obtain ⟨dr, bw, po, ca, he⟩ := hw.frame
  rw [he]
  exact ⟨dr, bw, po, ca, rfl⟩

end

theorem tileBuilt_idle (h : (vget s.pbu.slots sl {}).running = false ∨
    ∀ p e, s.cmp.pass = some p → slotTile s sl = some e → tileDue s p e (vget s.pbu.slots sl {}).start = false) :
    tileBuilt s sl rs = s := by
  unfold tileBuilt
  split
  · rename_i q d b hq hd hb
    refine if_neg ?_
    rcases h with h | h
    · simp [h]
    · simp [h q d hq hd]
  · rfl

/-! ### A residue that differs -/

variable {f : FailedTile}

theorem failReport_real (hf : f.inj = none) (src : Nat) : failReport f src = { source := src, master := f.phys } := by
  unfold failReport
  rw [hf]
  split <;> simp_all

/-- Residue failures handled, but for their list. -/
def unfailed (s : State) : State := { s with pbu := { s.pbu with failing := [] } }

theorem buildTick_one (hf : s.pbu.failing = [f]) (hl : f.slot < 22) : buildTick s = residueFail (unfailed s) f := by
  have hall : ∀ k < 22, (List.range 22).flatMap (fun n => if k == n then [f] else []) = [f] := by
    intro k hk
    interval_cases k <;> rfl
  unfold buildTick
  rw [hf]
  dsimp only
  have : (fun n => [f].filter (fun g => g.slot == n)) = fun n => if f.slot == n then [f] else [] := by
    funext n
    rw [List.filter_singleton]
    cases f.slot == n <;> rfl
  rw [this, hall f.slot hl]
  rfl

/-- A spare takes the slot of a failed builder and repeats its tile. -/
def spareTaken (s : State) (f : FailedTile) (sp : Nat) : State := { s with pbu := { s.pbu with
  fenced := vset s.pbu.fenced f.phys true
  slots := vmod s.pbu.slots f.slot (fun x => { x with phys := some sp, running := true, start := s.tsc }) } }

theorem spares_calm (s : State) : spares (calm s) = spares s := rfl

theorem residueFail_reissues {spare : Nat} {l : List Nat} (hr : f.real = true) (hp : s.cmp.pass = some p) (hb : buildsPass s p = true)
    (hn : f.pass = p.no) (hs : spares s = spare :: l) : residueFail s f =
      postBuilderMap (report (spareTaken (bump (bump s 0x380030) 0x380034) f spare) (failReport f 0x40))
        f.phys spare f.slot 0 f.port f.band := by
  have hagain : s.cmp.pass.elim false (fun p => buildsPass s p && p.no == f.pass) = true := by
    rw [hp, hn]
    simp [hb]
  have hspare : spares (bump s 0x380030) = spare :: l := by rw [← spares_calm, calm_bump, spares_calm, hs]
  have htsc : (bump (bump s 0x380030) 0x380034).tsc = (bump s 0x380030).tsc := calm_eq (·.tsc) (calm_bump _ _)
  unfold residueFail
  rw [hagain]
  dsimp only
  rw [hspare]
  dsimp only
  unfold reissue
  rw [if_pos rfl, hr, ← htsc]
  rfl

/-- A failed builder whose slot no spare takes. -/
def slotLost (s : State) (f : FailedTile) : State := abandonSlot { s with pbu := { s.pbu with fenced := vset s.pbu.fenced f.phys true } } f.slot

/-- With no spare left, the slot is lost; the table shrinks, or no table is left. -/
theorem residueFail_loses (hr : f.real = true) (hs : spares s = []) : ∃ n,
    residueFail s f = report { slotLost (bump s 0x380030) f with
      pbu := { (slotLost (bump s 0x380030) f).pbu with belowMin := true, mapNext := n } } (failReport f 0x42) ∨
    residueFail s f = report { slotLost (bump s 0x380030) f with
      pbu := { (slotLost (bump s 0x380030) f).pbu with mapNext := n } } (failReport f 0x41) := by
  have hspare : spares (bump s 0x380030) = [] := by rw [← spares_calm, calm_bump, spares_calm, hs]
  have he : residueFail s f = loseSlot (bump s 0x380030) f := by
    unfold residueFail
    dsimp only
    rw [hspare]
    exact if_pos hr
  rw [he]
  unfold loseSlot
  dsimp only
  split
  · exact ⟨_, .inl rfl⟩
  · exact ⟨_, .inr rfl⟩

/-! ### The cycle that handles it -/

theorem Undue.of_calm {a b : State} (h : Undue a) {v : Pbu} (he : calm b = calm { a with pbu := v }) : Undue b := by
  have hlsd : b.lsd = a.lsd := (calm_eq (·.lsd) he :)
  have hhls : b.hls = a.hls := (calm_eq (·.hls) he :)
  exact ⟨fun n hn => by rw [bankAt, hlsd]; exact h.windows n hn, by rw [hlsd]; exact h.pulses,
    (congrArg Ftg.edges (calm_eq (·.ftg) he)).trans h.edges, (congrArg Cmp.latchWait (calm_eq (·.cmp) he)).trans h.latch,
    by rw [hlsd]; exact h.ramp, (congrArg Thm.stopAt (calm_eq (·.thm) he)).trans h.stop,
    (congrArg Img.trialEnd (calm_eq (·.img) he)).trans h.trial, (congrArg Boot.warmAt (calm_eq (·.boot) he)).trans h.warm,
    by rw [hhls]; exact h.line, by rw [hhls]; exact h.scanner⟩

/-- A cycle in which one residue failure falls due. -/
theorem step_fails {C : List Nat} {v : Pbu} (hq : s.pending = []) (hp : s.boot.power = .running) (hc : s.boot.sysclkMissing = false)
    (h : NothingDue (unfailed s)) (hf : s.pbu.failing = [f]) (hl : f.slot < 22)
    (he : Effects C exactly (unfailed s) (residueFail (unfailed s) f))
    (hv : calm (residueFail (unfailed s) f) = calm { s with pbu := v }) :
    ∃ t r, step s = .next t ∧ Done C exactly (unfailed s) r t ∧ t.pbu = v := by
  have hb := buildTick_one hf hl
  have hstand : clockStands s = false := by simp [clockStands, hp, hc]
  have hu : Undue (buildTick s) := by
    rw [hb]
    exact h.undue.of_calm hv
  have he' : Effects C exactly (unfailed s) (timed (buildTick s) ((s.tsc + 1) % 2 ^ 64)) := by
    rw [hb]
    exact (he.units (by rfl))
  have hends := finish_ends (a := s) (he'.act.trans h.act) (he'.waits h.waits) he'.pending
  have hd := he'.done h.reports hends
  refine ⟨_, _, by rw [step_idle hq, tick_undue hstand hu], hd, ?_⟩
  calc _ = (timed (buildTick s) ((s.tsc + 1) % 2 ^ 64)).pbu := (congrArg (·.pbu) hd.rest :)
    _ = (residueFail (unfailed s) f).pbu := by rw [hb]; rfl
    _ = v := calm_eq (·.pbu) hv

theorem postBuilderMap_effects (s : State) (a b c d e g : Nat) : Effects [] exactly s (postBuilderMap s a b c d e g) :=
  (post_adds s _ _ _).effects

theorem reissue_effects {spare : Nat} (hf : f.inj = none) (s : State) : Effects [0x380030, 0x380034, 0x40] exactly s
    (postBuilderMap (report (spareTaken (bump (bump s 0x380030) 0x380034) f spare) (failReport f 0x40))
        f.phys spare f.slot 0 f.port f.band) := by
  have h1 := (bump_adds (E := exactly) s (off := 0x380030) rfl (by decide)).effects.adds (bump_adds (bump s 0x380030) (off := 0x380034) rfl (by decide))
  have h2 : Effects [0x380030, 0x380034] exactly s (spareTaken (bump (bump s 0x380030) 0x380034) f spare) := (h1.units (by rfl))
  rw [failReport_real hf]
  exact (h2.report { source := 0x40, master := f.phys }).quiet (postBuilderMap_effects _ ..)

theorem spareTaken_calm {spare : Nat} (s : State) : calm (spareTaken (bump (bump s 0x380030) 0x380034) f spare) = calm (spareTaken s f spare) := by
  have h : calm (bump (bump s 0x380030) 0x380034) = calm s := by rw [calm_bump, calm_bump]
  generalize bump (bump s 0x380030) 0x380034 = x at *
  have hpbu : x.pbu = s.pbu := (calm_eq (·.pbu) h :)
  have htsc : x.tsc = s.tsc := (calm_eq (·.tsc) h :)
  calc calm (spareTaken x f spare) = { calm x with pbu := (spareTaken x f spare).pbu } := rfl
    _ = { calm s with pbu := (spareTaken s f spare).pbu } := by rw [h]; unfold spareTaken; rw [hpbu, htsc]

theorem slotLost_calm {a b : State} (h : calm a = calm b) : (slotLost a f).pbu = (slotLost b f).pbu ∧
    ∀ v : Pbu, calm { slotLost a f with pbu := v } = calm { b with pbu := v } := by
  have hpbu : a.pbu = b.pbu := (calm_eq (·.pbu) h :)
  refine ⟨?_, fun v => ?_⟩
  · unfold slotLost abandonSlot
    rw [hpbu]
  · calc _ = { calm a with pbu := v } := rfl
      _ = _ := by rw [h]; rfl

/-! ### PBU_TEST -/

theorem runLow_test {g : InFlight} (h : g.opcode = 0x0601) (pl : List Byte) : runLow s g pl = runPbuTest s g.cmd.unit.toNat g.id := by
  simp [runLow, h]

/-- None is in flight, or what is has its result. -/
def finished (id : Nat) (l : List InFlight) : Bool := l.all (fun g => g.id != id || g.done.isSome)

theorem signal_flight (s : State) (v : Nat) : (signal s v).hmi.inFlight = s.hmi.inFlight := inFlight_of_events (signal_posts s v).events

theorem coalesceCpl_flight (s : State) : (coalesceCpl s).hmi.inFlight = s.hmi.inFlight := by
  unfold coalesceCpl
  dsimp only
  split
  · split
    · exact signal_flight _ _
    · rfl
  · exact signal_flight _ _

theorem writeCpl_flight (s : State) (c : Completion) : (writeCpl s c).hmi.inFlight = s.hmi.inFlight := coalesceCpl_flight _

theorem postCpl_flight (s : State) (c : Completion) : (postCpl s c).hmi.inFlight = s.hmi.inFlight := by
  unfold postCpl
  split
  · rfl
  · split
    · exact writeCpl_flight s c
    · rfl

theorem flushOrdered_finished {id : Nat} (n : Nat) {s : State} (h : finished id s.hmi.inFlight = true) :
    finished id (flushOrdered n s).hmi.inFlight = true := by
  induction n generalizing s with
  | zero => exact h
  | succ n ih =>
    unfold flushOrdered
    split
    · exact h
    · next g l hl =>
      have hrest : finished id l = true := by
        rw [hl, finished, List.all_cons, Bool.and_eq_true] at h
        exact h.2
      split
      · exact h
      · refine ih ?_
        split
        · rw [postCpl_flight]
          exact hrest
        · exact hrest

/-- A completed command is no more in flight, or waits there with its result. -/
theorem complete_finished (s : State) (id : Nat) (st : Status) (res : List Byte) : finished id (complete s id st res).hmi.inFlight = true := by
  unfold complete
  split
  · next hn =>
    rw [List.find?_eq_none] at hn
    exact List.all_eq_true.mpr fun g hg => by simpa using .inl (by simpa using hn g hg)
  · dsimp only
    split
    · refine flushOrdered_finished _ (List.all_eq_true.mpr fun g hg => ?_)
      obtain ⟨g', -, rfl⟩ := List.mem_map.mp hg
      split
      · simp
      · next hne => simpa using .inl (by simpa using hne)
    · have hrest (x : State) : finished id (x.hmi.inFlight.filter (fun g => g.id != id)) = true :=
        List.all_eq_true.mpr fun g hg => by simp [(List.mem_filter.mp hg).2]
      split
      · rw [postCpl_flight]
        exact hrest _
      · exact hrest _

/-- What a test tile's end leaves of the builders. -/
structure TestEnded (n : Nat) (pass : Bool) (s : State) (v : Pbu) : Prop where
  tests : v.tests = s.pbu.tests.filter (fun e => e.1 != n)
  fenced : v.fenced = if builderMapped s n then s.pbu.fenced else vset s.pbu.fenced n (!pass)

theorem pbuTestDone_ends {n id residue : Nat} (h : s.pbu.tests.find? (fun e => e.1 == n) = some (n, id)) :
    ∃ v st res y, TestEnded n (residue == testResidue) s v ∧ Effects [] exactly s y ∧ calm y = calm { s with pbu := v } ∧
      pbuTestDone s n residue = complete y id st res := by
  have units (v : Pbu) : Effects [] exactly s { s with pbu := v } := ((Effects.refl _ s).units (by rfl))
  have hmapped (v : List (Nat × Nat)) : builderMapped { s with pbu := { s.pbu with tests := v } } n = builderMapped s n := rfl
  unfold pbuTestDone
  rw [h]
  dsimp only
  rw [hmapped]
  have hend : ∃ v, TestEnded n (residue == testResidue) s v ∧
      (if builderMapped s n = true then { s with pbu := { s.pbu with tests := s.pbu.tests.filter (fun t => t.1 != n) } }
        else { s with pbu := { s.pbu with
          tests := s.pbu.tests.filter (fun t => t.1 != n)
          fenced := vset s.pbu.fenced n (!(residue == testResidue)) } }) = { s with pbu := v } := by
    split
    · next hm => exact ⟨{ s.pbu with tests := s.pbu.tests.filter (fun t => t.1 != n) }, ⟨rfl, (if_pos hm).symm⟩, rfl⟩
    · next hm =>
      exact ⟨{ s.pbu with
        tests := s.pbu.tests.filter (fun t => t.1 != n)
        fenced := vset s.pbu.fenced n (!(residue == testResidue)) }, ⟨rfl, (if_neg hm).symm⟩, rfl⟩
  obtain ⟨v, hv, he⟩ := hend
  rw [he]
  split
  · exact ⟨v, _, _, _, hv, units v, rfl, rfl⟩
  · split
    · exact ⟨v, _, _, _, hv, units v, rfl, rfl⟩
    · split
      · exact ⟨{ v with mapNext := v.mapNext ++ [.grow n] }, _, _, _, ⟨hv.tests, hv.fenced⟩, units _, rfl, rfl⟩
      · exact ⟨v, _, _, _, hv, (units v).quiet (postBuilderMap_effects _ ..), calm_post _ _ _ _, rfl⟩

/-! ### The obligation -/

theorem exec_tileBuilt_done {i : Fin 22} {l : List (BitVec 32)} (hl : Live s) (hp : s.cmp.pass = some p) (ht : slotTile s i.val = some e)
    (hy : (vget s.pbu.slots i.val {}).phys = some b) (hr : (vget s.pbu.slots i.val {}).running = true)
    (hd : tileDue s p e (vget s.pbu.slots i.val {}).start = true)
    (hq : l.map (·.toNat) = inputResidues s p e.port e.band) (ha : armedOn s 0x40 b = none) :
    ∃ t, exec (.tileBuilt i l) s = .next t ∧ t.reports = [] ∧ t.pbu.built = (e.port, e.band) :: s.pbu.built ∧
      vget t.pbu.slots i.val {} =
        { vget s.pbu.slots i.val {} with running := false, seq := (vget s.pbu.slots i.val {}).seq + 1 } ∧
      t.pbu.failing = s.pbu.failing ∧ t.pbu.fenced = s.pbu.fenced ∧ calm t = calm { s with pbu := t.pbu } ∧
      (∀ a, offTile s e.port e.band a → rd t a = rd s a) := by
  obtain ⟨dr, bw, po, pb, hdone, hbuilt, hslots, hfail, hfence, hmem⟩ := (writeTile_written s p e.port e.band).done (p := p) (sl := i.val)
  rw [← tileBuilt_done hp ht hy hr hd ha hq] at hdone hmem
  rw [hdone] at hmem
  refine ⟨_, exec_unit_quiet rfl hl hdone ⟨hl.reports, rfl, rfl, rfl, rfl, rearmed_same rfl, hl.waits⟩, hl.reports, hbuilt, ?_,
    hfail, hfence, rfl, hmem⟩
  rw [hslots]
  exact vget_vmod_same _ i.isLt _ _

theorem exec_tileBuilt_fails {i : Fin 22} {l : List (BitVec 32)} (hl : Live s) (hp : s.cmp.pass = some p) (ht : slotTile s i.val = some e)
    (hy : (vget s.pbu.slots i.val {}).phys = some b) (hr : (vget s.pbu.slots i.val {}).running = true)
    (hd : tileDue s p e (vget s.pbu.slots i.val {}).start = true)
    (hq : l.map (·.toNat) ≠ inputResidues s p e.port e.band) (ha : armedOn s 0x40 b = none) :
    ∃ t, exec (.tileBuilt i l) s = .next t ∧ t.reports = [] ∧ t.pbu.built = s.pbu.built ∧
      t.pbu.failing = s.pbu.failing ++
        [{ slot := i.val, phys := b, port := e.port, band := e.band, real := true, inj := none, pass := p.no }] ∧
      vget t.pbu.slots i.val {} = { vget s.pbu.slots i.val {} with running := false } ∧ calm t = calm { s with pbu := t.pbu } := by
  obtain ⟨dr, bw, po, ca, hf⟩ := tileBuilt_fails hp ht hy hr hd ha hq
  exact ⟨_, exec_unit_quiet rfl hl hf ⟨hl.reports, rfl, rfl, rfl, rfl, rearmed_same rfl, hl.waits⟩, hl.reports, rfl, rfl,
    vget_vmod_same _ i.isLt _ _, rfl⟩

theorem step_reissues {spare : Nat} {l : List Nat} (hq : s.pending = []) (hp : s.boot.power = .running) (hc : s.boot.sysclkMissing = false)
    (h : NothingDue (unfailed s)) (hf : s.pbu.failing = [f]) (hl : f.slot < 22) (hr : f.real = true) (hi : f.inj = none)
    (hps : s.cmp.pass = some p) (hb : buildsPass s p = true) (hn : f.pass = p.no) (hs : spares s = spare :: l) :
    ∃ t, step s = .next t ∧ counted s t 0x40 ∧ tally t 0x380034 = min (tally s 0x380034 + 1) tallyMax ∧
      t.pbu = { s.pbu with
        failing := [], fenced := vset s.pbu.fenced f.phys true
        slots := vmod s.pbu.slots f.slot (fun x => { x with phys := some spare, running := true, start := s.tsc }) } := by
  have hres := residueFail_reissues (s := unfailed s) hr hps hb hn hs
  obtain ⟨t, r, ht, hd, hpbu⟩ := step_fails (v := (spareTaken (unfailed s) f spare).pbu) hq hp hc h hf hl
    (by rw [hres]; exact reissue_effects hi _) (by rw [hres, postBuilderMap, calm_post, calm_report, spareTaken_calm]; rfl)
  exact ⟨t, ht, hd.counted 0x40 (by decide) (by decide) id rfl, hd.tallies 0x380034 (by decide) rfl id, hpbu⟩

theorem step_loses (hq : s.pending = []) (hp : s.boot.power = .running) (hc : s.boot.sysclkMissing = false)
    (h : NothingDue (unfailed s)) (hf : s.pbu.failing = [f]) (hl : f.slot < 22) (hr : f.real = true) (hi : f.inj = none)
    (hs : spares s = []) :
    ∃ t, step s = .next t ∧ t.pbu.failing = [] ∧ t.pbu.fenced = vset s.pbu.fenced f.phys true ∧
      t.pbu.slots = vmod s.pbu.slots f.slot (fun x => { x with abandoned := true, running := false, phys := none }) ∧
      (counted s t 0x41 ∨ (counted s t 0x42 ∧ t.pbu.belowMin = true)) := by
  obtain ⟨n, hres⟩ := residueFail_loses (s := unfailed s) hr hs
  obtain ⟨hlost, hcalm⟩ := slotLost_calm (f := f) (calm_bump (unfailed s) 0x380030)
  rw [hlost] at hres
  have heff (v : Pbu) (src : Nat) (hsrc : src < 256) : Effects [0x380030, src] exactly (unfailed s)
      (report { slotLost (bump (unfailed s) 0x380030) f with pbu := v } { source := src, master := f.phys }) := by
    have hu : Effects [0x380030] exactly (unfailed s) { slotLost (bump (unfailed s) 0x380030) f with pbu := v } :=
      ((bump_adds (E := exactly) (unfailed s) (off := 0x380030) rfl (by decide)).effects.units (by rfl))
    exact hu.report { source := src, master := f.phys } hsrc
  rw [failReport_real hi, failReport_real hi] at hres
  rcases hres with hres | hres
  · obtain ⟨t, r, ht, hd, hpbu⟩ := step_fails hq hp hc h hf hl (by rw [hres]; exact heff _ 0x42 (by decide))
      (by rw [hres, calm_report, hcalm]; rfl)
    exact ⟨t, ht, by rw [hpbu]; rfl, by rw [hpbu]; rfl, by rw [hpbu]; rfl,
      .inr ⟨hd.counted 0x42 (by decide) (by decide) id rfl, by rw [hpbu]⟩⟩
  · obtain ⟨t, r, ht, hd, hpbu⟩ := step_fails hq hp hc h hf hl (by rw [hres]; exact heff _ 0x41 (by decide))
      (by rw [hres, calm_report, hcalm]; rfl)
    exact ⟨t, ht, by rw [hpbu]; rfl, by rw [hpbu]; rfl, by rw [hpbu]; rfl, .inl (hd.counted 0x41 (by decide) (by decide) id rfl)⟩

theorem exec_pbuTestDone {n : Fin 24} {id : Nat} {residue : BitVec 32} (hl : Live s)
    (h : s.pbu.tests.find? (fun e => e.1 == n.val) = some (n.val, id)) :
    ∃ t, exec (.pbuTestDone n residue) s = .next t ∧ t.reports = [] ∧
      t.pbu.tests = s.pbu.tests.filter (fun e => e.1 != n.val) ∧
      t.pbu.fenced =
        (if builderMapped s n.val then s.pbu.fenced else vset s.pbu.fenced n.val (!(residue.toNat == testResidue))) ∧
      t.hmi.inFlight.all (fun f => f.id != id || f.done.isSome) = true ∧ calm t = calm { s with pbu := t.pbu } := by
  obtain ⟨v, st, res, y, hv, heff, hcalm, he⟩ := pbuTestDone_ends (residue := residue.toNat) h
  have heff' : Effects [] exactly s (pbuTestDone s n.val residue.toNat) := by
    rw [he]
    exact heff.posts (complete_adds y id st res)
  obtain ⟨t, ht, hd⟩ := exec_done (i := .pbuTestDone n residue) (f := fun s => pbuTestDone s n.val residue.toNat) rfl hl heff'
  have hct : calm t = calm { s with pbu := v } := by
    rw [hd.calm (fun _ hn => nomatch hn), he, calm_complete, hcalm]
  have hpbu : t.pbu = v := (calm_eq (·.pbu) hct :)
  have hflight : finished id t.hmi.inFlight = true := by
    rw [inFlight_of_events (hd.ends.records (heff'.harmless hl.reports (fun _ _ hn => hn.elim (nomatch ·) False.elim))).events, he]
    exact complete_finished y id st res
  exact ⟨t, ht, hd.ends.settled, by rw [hpbu]; exact hv.tests, by rw [hpbu]; exact hv.fenced, hflight, by rw [hpbu]; exact hct⟩

end

/-- Settles O60: a tile's rows change the planes of its own band alone; a residue failure waits for the end of the cycle, which
gives the slot a spare or takes it from the table; a test's end answers once. -/
theorem buildersWork : Obligations.BuildersWork := by
  unfold Obligations.BuildersWork
  refine ⟨fun s i p e hl hp ht hb hy hr ha hm hf hn => ?start, fun s i p e hl hp ht h => ?wait,
    fun s i p e b l hl hp ht hy hr hd hq ha => ?built, fun s i p e b l hl hp ht hy hr hd hq ha => ?fails,
    fun s i l hl h => ?none, fun s f p sp l hq hp hc h hf hl hr hi hps hb hn hs => ?spare,
    fun s f hq hp hc h hf hl hr hi hs => ?lost, fun s c hs hm hd => ?test, fun s c hs hm => ?mapped,
    fun s n id residue hl h => ?ended, fun s n residue hl h => ?absent⟩
  case start =>
    exact exec_unit_quiet rfl hl (tileStart_starts hp ht hb hy hr ha hm hf hn)
      ⟨hl.reports, rfl, rfl, rfl, rfl, rearmed_same rfl, hl.waits⟩
  case wait => exact exec_unit_same rfl hl (tileStart_idle hp ht h)
  case built =>
    obtain ⟨t, ht', hrep, hbuilt, hslot, hfail, hfence, hcalm, hmem⟩ := exec_tileBuilt_done hl hp ht hy hr hd hq ha
    exact ⟨t, ht', hrep, hbuilt, hslot, hfail, hfence, hcalm, fun a _ hoff => hmem a hoff⟩
  case fails => exact exec_tileBuilt_fails hl hp ht hy hr hd hq ha
  case none => exact exec_unit_same rfl hl (tileBuilt_idle h)
  case spare => exact step_reissues hq hp hc h hf hl hr hi hps hb hn hs
  case lost => exact step_loses hq hp hc h hf hl hr hi hs
  case test =>
    refine exec_begins (e := { s with pbu := { s.pbu with tests := s.pbu.tests ++ [(c.unit.toNat, s.hmi.nextId)] } }) rfl hs ?_ (.refl _)
    rw [hs.low [] (by decide), runLow_test rfl]
    exact if_neg (show ¬ (builderMapped s c.unit.toNat || !domainOn s (builderDomain c.unit.toNat)) = true by rw [hm, hd]; decide)
  case mapped =>
    refine exec_replies (e := s) rfl hs ?_
    rw [hs.low [] (by decide), runLow_test rfl]
    exact if_pos (show (builderMapped s c.unit.toNat || !domainOn s (builderDomain c.unit.toNat)) = true by rw [hm]; rfl)
  case ended => exact exec_pbuTestDone hl h
  case absent =>
    refine exec_unit_same rfl hl ?_
    have hn : s.pbu.tests.find? (fun e => e.1 == n.val) = none := List.find?_eq_none.mpr fun e he => by simpa using h e he
    show pbuTestDone s n.val residue.toNat = s
    unfold pbuTestDone
    rw [hn]

end Sys2Proof.Machine
end


section
/-! One slot of the Loop Engine at a tick: its boundary, its step, and the code of its bank (R345 to R361). -/

namespace Sys2Proof.Machine

/-! ### What a tick counts and reports -/

/-- What the slots and the scanner count and report at a tick, but for the updates of slot `i`. -/
def tickNoise (i n : Nat) : Prop :=
  (codeNoise n ∨ n ∈ [0x80, 0x81, 0x82, 0x92, 0x94] ∨ (0xB00100 ≤ n ∧ n < 0xB00700)) ∧ n ≠ slotBase i + 0x2C

section
variable {s r t x : State} {i j k : Nat} {C : List Nat}

theorem tickNoise_source {n : Nat} (h : n ∈ [0x80, 0x81, 0x82, 0x92, 0x94]) : tickNoise i n := by
  refine ⟨.inr (.inl h), ?_⟩
  simp only [List.mem_cons, List.not_mem_nil, or_false] at h
  unfold slotBase
  omega

theorem codeNoise_tick {n : Nat} (h : codeNoise n) : tickNoise i n := by
  refine ⟨.inl h, ?_⟩
  unfold codeNoise at h
  unfold slotBase
  omega

/-- A tally of a slot. -/
theorem tickNoise_slot (hj : j < 24) (hk : k < 0x40) (hne : j = i → k ≠ 0x2C) : tickNoise i (slotBase j + k) := by
  unfold tickNoise slotBase
  refine ⟨.inr (.inr (by omega)), ?_⟩
  rcases Nat.lt_trichotomy j i with h | h | h
  · omega
  · have := hne h
    omega
  · omega

theorem unitTally_slot (j k : Nat) : unitTally (slotBase j + k) = true := by
  have h1 : slotBase j + k ≠ offEvtLost := by simp only [slotBase, offEvtLost]; omega
  have h2 : slotBase j + k ≠ offCmdTally := by simp only [slotBase, offCmdTally]; omega
  have h3 : ¬ (0x40080 ≤ slotBase j + k ∧ slotBase j + k < 0x42000) := by simp only [slotBase]; omega
  simp [unitTally, h1, h2, h3]

theorem slotBase_big (j k : Nat) : 256 ≤ slotBase j + k := by
  simp only [slotBase]
  omega

theorem Effects.slotTally (h : Effects C (tickNoise i) s r) (hj : j < 24) (hk : k < 0x40) (hne : j = i → k ≠ 0x2C) :
    Effects C (tickNoise i) s (bump r (slotBase j + k)) :=
  h.quiet ((bump_adds r (unitTally_slot j k) (slotBase_big j k)).effects.drop (fun n hn => by
    rw [List.mem_singleton.mp hn]
    exact tickNoise_slot hj hk hne))

theorem Effects.slotSource (h : Effects C (tickNoise i) s r) (q : Report) (hq : q.source ∈ [0x80, 0x81, 0x82, 0x92, 0x94])
    (hi : q.injected = false := by rfl) (hn : q.reactionAs = none := by rfl) :
    Effects C (tickNoise i) s (Machine.report r q) :=
  h.quiet ((report_adds r q (by simp only [List.mem_cons, List.not_mem_nil, or_false] at hq; omega) hi hn).effects.drop (fun n hm => by
    rw [List.mem_singleton.mp hm]
    exact tickNoise_source hq))

theorem Effects.slot (h : Effects C (tickNoise i) s r) (j : Nat) (f : Slot → Slot) :
    Effects C (tickNoise i) s (modSlot r j f) := (h.units (by rfl))

/-! ### What the computation of a slot keeps -/

/-- All but the slots, and what recording changes. -/
def slotRest (s : State) : State := { calm s with lpe := { s.lpe with slot := Vector.replicate 24 {} } }

theorem slotRest_calm (x : State) : slotRest x = slotRest (calm x) := rfl

/-- Slot `i` has become `x`, and no other slot or unit has changed. -/
structure Computes (i : Nat) (y : Slot) (s r : State) : Prop where
  rest : slotRest r = slotRest s
  own : slotAt r i = y
  others : ∀ j, j ≠ i → slotAt r j = slotAt s j

variable {y z : Slot}

theorem Computes.refl (i : Nat) (s : State) : Computes i (slotAt s i) s s := ⟨rfl, rfl, fun _ _ => rfl⟩

theorem Computes.trans (h : Computes i y s r) (k : Computes i z r t) : Computes i z s t :=
  ⟨k.rest.trans h.rest, k.own, fun j hj => (k.others j hj).trans (h.others j hj)⟩

theorem Computes.mod (h : Computes i y s r) (hi : i < 24) (f : Slot → Slot) (hf : f y = z := by rfl) : Computes i z s (modSlot r i f) where
  rest := h.rest
  own := by rw [slotAt_modSlot, if_pos ⟨rfl, hi⟩, h.own, hf]
  others j hj := by rw [slotAt_modSlot, if_neg (fun h => hj h.1.symm), h.others j hj]

theorem Computes.of_calm (h : Computes i y s r) (hc : calm t = calm r) : Computes i y s t where
  rest := by rw [slotRest_calm t, hc, ← slotRest_calm, h.rest]
  own := (calm_eq (fun x => slotAt x i) hc).trans h.own
  others j hj := (calm_eq (fun x => slotAt x j) hc).trans (h.others j hj)

theorem Computes.bump (h : Computes i y s r) (off : Nat) : Computes i y s (Machine.bump r off) := h.of_calm (calm_bump r off)

theorem Computes.ite (c : Prop) [Decidable c] (h : Computes i y s r) (k : Computes i y s t) : Computes i y s (if c then r else t) := by
  split <;> assumption

theorem Computes.lsd (h : Computes i y s r) : r.lsd = s.lsd := (congrArg (·.lsd) h.rest :)
theorem Computes.hls (h : Computes i y s r) : r.hls = s.hls := (congrArg (·.hls) h.rest :)
theorem Computes.regs (h : Computes i y s r) : r.regs = s.regs := (congrArg (·.regs) h.rest :)
theorem Computes.active (h : Computes i y s r) : r.lpe.active = s.lpe.active := (congrArg (·.lpe.active) h.rest :)

/-! ### The boundary -/

/-- The oldest swap of a slot, taken. -/
def swapTaken (x : Slot) : Slot :=
  match x.swaps with
  | [] => x
  | w :: t =>
    let mn := match w.limits with | some l => l.1 | none => x.outMin
    let mx := match w.limits with | some l => l.2 | none => x.outMax
    let uh := x.uh.map (clampI mn mx)
    { x with swaps := t, bankB := w.bankB, outMin := mn, outMax := mx, uh := uh, sat := x.sat || decide (uh ≠ x.uh) }

/-- The resets of a slot, taken. -/
def resetTaken (x : Slot) : Slot := if x.resets.isEmpty then x else { clearSlot x with resets := [], storeErr := false }

theorem swapTaken_resets (x : Slot) : (swapTaken x).resets = x.resets := by
  unfold swapTaken
  split <;> rfl

theorem resetTaken_none {x : Slot} (h : x.resets = []) : resetTaken x = x := by simp [resetTaken, h]

theorem resetTaken_resets (x : Slot) : (resetTaken x).resets = [] := by
  unfold resetTaken
  split
  · next h => simpa using h
  · rfl

theorem calm_completes (l : List Nat) (s : State) : calm (l.foldl (fun s id => complete s id .ok []) s) = calm s :=
  calm_foldl _ (fun s id => calm_complete s id _ _) l s

theorem slotBoundary_computes (hi : i < 24) (s : State) : Computes i (resetTaken (swapTaken (slotAt s i))) s (slotBoundary s i) := by
  unfold slotBoundary
  extract_lets x s1
  have h1 : Computes i (swapTaken x) s s1 := by
    simp only [s1]
    unfold swapTaken
    cases x.swaps with
    | nil => exact .refl i s
    | cons w l => exact ((Computes.refl i s).mod hi _).of_calm (calm_complete _ _ _ _)
  clear_value s1
  unfold resetTaken
  rw [swapTaken_resets]
  split
  · exact h1
  · exact (h1.mod hi _).of_calm (calm_completes _ _)

theorem slotBoundary_none (hw : (slotAt s i).swaps = []) (hr : (slotAt s i).resets = []) : slotBoundary s i = s := by
  unfold slotBoundary
  dsimp only
  rw [hw, hr]
  rfl

theorem completes_effects (E : Nat → Prop) (l : List Nat) (s : State) : Effects [] E s (l.foldl (fun s id => complete s id .ok []) s) :=
  Effects.foldl (fun s id => (complete_adds s id _ _).effects) l s

theorem slotBoundary_effects (E : Nat → Prop) (s : State) (i : Nat) : Effects [] E s (slotBoundary s i) := by
  unfold slotBoundary
  extract_lets x s1
  have h1 : Effects [] E s s1 := by
    simp only [s1]
    split
    · exact .refl E s
    · exact (Effects.units (t := modSlot s i _) (.refl E s) (by rfl)).quiet (complete_adds _ _ _ _).effects
  clear_value s1
  split
  · exact h1
  · exact (Effects.units (t := modSlot s1 i _) h1 (by rfl)).quiet (completes_effects E _ _)

/-! ### The step -/

/-- A slot without the count of its plausibility and its detector. -/
def slotCore (x : Slot) : Slot := { x with
  resid := 0
  oscLeft := none
  oscCnt := 0
  oscSign := 0 }

theorem slotForm_of_core {y z : Slot} (h : slotCore y = slotCore z) : slotForm y = slotForm z := (congrArg slotForm h :)

/-- A slot has at most been judged. -/
def Judges (i : Nat) (y : Slot) (s r : State) : Prop := ∃ z, slotCore z = slotCore y ∧ Computes i z s r

theorem Computes.judges (h : Computes i y s r) : Judges i y s r := ⟨y, rfl, h⟩

theorem Judges.mod (h : Judges i y s r) (hi : i < 24) {f : Slot → Slot} (hf : ∀ x, slotCore (f x) = slotCore x) :
    Judges i y s (modSlot r i f) := by
  obtain ⟨z, hz, hc⟩ := h
  exact ⟨f z, (hf z).trans hz, hc.mod hi f⟩

theorem Judges.of_calm (h : Judges i y s r) (hc : calm t = calm r) : Judges i y s t := by
  obtain ⟨z, hz, hr⟩ := h
  exact ⟨z, hz, hr.of_calm hc⟩

theorem Judges.bump (h : Judges i y s r) (off : Nat) : Judges i y s (Machine.bump r off) := h.of_calm (calm_bump r off)

theorem Judges.report (h : Judges i y s r) (q : Report) : Judges i y s (Machine.report r q) := h.of_calm (calm_report r q)

theorem Judges.ite (c : Prop) [Decidable c] (h : Judges i y s r) (k : Judges i y s t) : Judges i y s (if c then r else t) := by
  split <;> assumption

theorem residStep_judges (h : Judges i y s r) (hi : i < 24) (c : LoopCfg) (d : Int) : Judges i y s (residStep r i c d) := by
  unfold residStep
  exact .ite _ h (.ite _ (.ite _ (((h.bump _).mod hi (by intro _; rfl)).report _) ((h.bump _).mod hi (by intro _; rfl))) (h.mod hi (by intro _; rfl)))

theorem oscStep_judges (h : Judges i y s r) (hi : i < 24) (c : LoopCfg) (e0 : Int) : Judges i y s (oscStep r i c e0) := by
  have h1 := h.mod hi (f := fun x => { x with oscSign := e0.sign }) (fun _ => rfl)
  unfold oscStep
  exact .ite _ (.ite _ (.ite _ (((h1.mod hi (by intro _; rfl)).bump _).report _) (h1.mod hi (by intro _; rfl))) h1) h

theorem slotCore_oscClose (x : Slot) : slotCore (oscClose x) = slotCore x := by
  unfold oscClose
  split <;> rfl

theorem residStep_effects (h : Effects C (tickNoise i) s r) (hj : j < 24) (c : LoopCfg) (d : Int) :
    Effects C (tickNoise i) s (residStep r j c d) := by
  have hb := h.slotTally (k := 0x30) hj (by decide) (fun _ => by decide)
  unfold residStep
  exact .ite _ h (.ite _ (.ite _ ((hb.slot j _).slotSource _ (by exact of_decide_eq_true rfl)) (hb.slot j _)) (h.slot j _))

theorem oscStep_effects (h : Effects C (tickNoise i) s r) (hj : j < 24) (c : LoopCfg) (e0 : Int) :
    Effects C (tickNoise i) s (oscStep r j c e0) := by
  have h1 := h.slot j (fun x => { x with oscSign := e0.sign })
  unfold oscStep
  exact .ite _ (.ite _ (.ite _ (((h1.slot j _).slotTally hj (by decide) (fun _ => by decide)).slotSource _ (by exact of_decide_eq_true rfl)) (h1.slot j _)) h1) h

/-- The slot of a tick before its output: the feedback, the limiter, the model's lag and the detector's window. -/
def slotInput (s : State) (i : Nat) (y : Int) : Slot :=
  let c := loopCfg s i
  let x1 := slewStep { slotAt s i with idle := false, fb := y } (regN s (slotBase i + 0x20))
  oscTime (oscOn s c) (if c.residTicks = 0 then x1 else { x1 with m := modelStep c x1.m (prediction s x1) })

/-- The state in which a slot has its input of the tick. -/
def slotFed (s : State) (i : Nat) (y : Int) : State :=
  if (slotInput s i y).lim then bump (modSlot s i (fun _ => slotInput s i y)) (slotBase i + 0x28) else modSlot s i (fun _ => slotInput s i y)

/-- What follows an update: its saturation, its plausibility and its detector. -/
def slotJudged (s : State) (i : Nat) (c : LoopCfg) (x : Slot) (d e0 : Int) (full : Bool) (addr : Nat) : State :=
  let s4 := if x.sat then bump s (slotBase i + 0x24) else s
  let s6 := modSlot (oscStep (residStep s4 i c d) i c e0) i oscClose
  if full then report s6 { source := 0x82, master := i, address := addr } else s6

/-- The feedback of a slot at a tick. -/
def slotFeedback (sample : Nat → Nat) (s : State) (x : Slot) : Int := if x.kind = 2 then s.hls.y * 65536 else (sample x.input * 65536 : Nat)

/-- A slot's output of the tick. -/
def slotOutput (x : Slot) (y : Int) : Slot := { clampStep x (compensate x y).1 (compensate x y).2 with updated := true }

theorem slotStep_eq (sample : Nat → Nat) (s : State) (i : Nat) : slotStep sample s i =
    let x := slotAt s i
    let y := slotFeedback sample s x
    let x2 := slotInput s i y
    let x3 := slotOutput x2 y
    if x.kind = 0 then s
    else if slotIdle s x then modSlot s i (fun x => idleSlot s x (sample x.input))
    else if !(if x.kind = 1 then x.window && !x.late else true) then modSlot (slotFed s i y) i (fun x => oscClose { x with updated := false })
    else slotJudged (bump (modSlot (slotFed s i y) i (fun _ => x3)) (slotBase i + 0x2C)) i (loopCfg s i) x3 (y - x3.m) (compensate x2 y).2
      (decide (x.tgt ≠ 0 ∧ (sample x.input = 0 ∨ sample x.input = 65535))) x.input := rfl

theorem slotJudged_judges (h : Judges i y s r) (hi : i < 24) (c : LoopCfg) (x : Slot) (d e0 : Int) (full : Bool) (a : Nat) :
    Judges i y s (slotJudged r i c x d e0 full a) := by
  have h4 : Judges i y s (if x.sat then bump r (slotBase i + 0x24) else r) := .ite _ (h.bump _) h
  have h6 := (oscStep_judges (residStep_judges h4 hi c d) hi c e0).mod hi slotCore_oscClose
  exact .ite _ (h6.report _) h6

theorem slotJudged_effects (h : Effects C (tickNoise i) s r) (hj : j < 24) (c : LoopCfg) (x : Slot) (d e0 : Int) (full : Bool) (a : Nat) :
    Effects C (tickNoise i) s (slotJudged r j c x d e0 full a) := by
  have h4 : Effects C (tickNoise i) s (if x.sat then bump r (slotBase j + 0x24) else r) := .ite _ (h.slotTally hj (by decide) (fun _ => by decide)) h
  have h6 := (oscStep_effects (residStep_effects h4 hj c d) hj c e0).slot j oscClose
  exact .ite _ (h6.slotSource _ (by exact of_decide_eq_true rfl)) h6

theorem slotFed_computes (hi : i < 24) (s : State) (f : Int) : Computes i (slotInput s i f) s (slotFed s i f) := by
  have h := (Computes.refl i s).mod hi (fun _ => slotInput s i f)
  exact .ite _ (h.bump _) h

theorem slotFed_effects (hj : j < 24) (s : State) (f : Int) : Effects [] (tickNoise i) s (slotFed s j f) := by
  have h := (Effects.refl (tickNoise i) s).slot j (fun _ => slotInput s j f)
  exact .ite _ (h.slotTally hj (by decide) (fun _ => by decide)) h

theorem slotForm_slewStep (x : Slot) (n : Nat) : slotForm (slewStep x n) = slotForm x := by
  unfold slewStep
  dsimp only
  split
  · rfl
  · split
    · rfl
    · split <;> rfl

theorem slotForm_oscTime (on : Bool) (x : Slot) : slotForm (oscTime on x) = slotForm x := by
  unfold oscTime
  split <;> rfl

theorem slotForm_input (s : State) (i : Nat) (f : Int) : slotForm (slotInput s i f) = slotForm (slotAt s i) := by
  unfold slotInput
  dsimp only
  rw [slotForm_oscTime]
  split
  · rw [slotForm_slewStep]
    rfl
  · calc _ = slotForm (slewStep { slotAt s i with
          idle := false
          fb := f } (regN s (slotBase i + 0x20))) := rfl
      _ = _ := by
        rw [slotForm_slewStep]
        rfl

theorem slotForm_clampStep (x : Slot) (v e0 : Int) : slotForm (clampStep x v e0) = slotForm x := by
  unfold clampStep
  extract_lets c dir out clamped hold x1
  by_cases h : hold = true
  · rw [if_pos h]
    rfl
  · rw [if_neg h]
    rfl

theorem slotForm_output (x : Slot) (f : Int) : slotForm (slotOutput x f) = slotForm x := slotForm_clampStep x _ _

theorem slotForm_oscClose (x : Slot) : slotForm (oscClose x) = slotForm x := slotForm_of_core (slotCore_oscClose x)

theorem slotForm_idleSlot (s : State) (x : Slot) (n : Nat) : slotForm (idleSlot s x n) = slotForm x := by
  unfold idleSlot
  dsimp only
  split <;> rfl

theorem Judges.form (h : Judges i y s r) : ∃ z, slotForm z = slotForm y ∧ Computes i z s r := by
  obtain ⟨z, hz, hc⟩ := h
  exact ⟨z, slotForm_of_core hz, hc⟩

/-- A slot that updates computes its output. -/
theorem slotStep_updates (sample : Nat → Nat) (hi : i < 24) (hk : (slotAt s i).kind ≠ 0) (hidle : slotIdle s (slotAt s i) = false)
    (hu : (slotAt s i).kind = 1 → (slotAt s i).window = true ∧ (slotAt s i).late = false) :
    Judges i (slotOutput (slotInput s i (slotFeedback sample s (slotAt s i))) (slotFeedback sample s (slotAt s i))) s (slotStep sample s i) ∧
    Effects [slotBase i + 0x2C] (tickNoise i) s (slotStep sample s i) := by
  have hupd : (if (slotAt s i).kind = 1 then (slotAt s i).window && !(slotAt s i).late else true) = true := by
    split
    · next h => simp [hu h]
    · rfl
  rw [slotStep_eq]
  dsimp only
  rw [if_neg hk, hidle, if_neg Bool.false_ne_true, hupd, if_neg (by decide)]
  refine ⟨slotJudged_judges (Computes.judges ?_) hi _ _ _ _ _ _, slotJudged_effects ?_ hi _ _ _ _ _ _⟩
  · exact ((slotFed_computes hi s _).mod hi _).bump _
  · exact ((slotFed_effects hi s _).slot i _).adds (bump_adds _ (unitTally_slot i _) (slotBase_big i _))

/-- The step of a slot, by what it finds: no slot, an idle one, one that does not update, and one that does. -/
theorem slotStep_cases {P : State → Prop} (sample : Nat → Nat) (s : State) (i : Nat) (h0 : P s)
    (hidle : P (modSlot s i (fun x => idleSlot s x (sample x.input))))
    (hwait : ∀ f, P (modSlot (slotFed s i f) i (fun x => oscClose { x with updated := false })))
    (hupd : ∀ f c d e0 full a, P (slotJudged (bump (modSlot (slotFed s i f) i (fun _ => slotOutput (slotInput s i f) f)) (slotBase i + 0x2C))
      i c (slotOutput (slotInput s i f) f) d e0 full a)) : P (slotStep sample s i) := by
  have hp (c : Prop) [Decidable c] {a b : State} (ha : P a) (hb : P b) : P (if c then a else b) := by split <;> assumption
  rw [slotStep_eq]
  dsimp only
  generalize slotFeedback sample s (slotAt s i) = f
  refine hp _ h0 (hp _ hidle (hp _ (hwait f) ?_))
  exact hupd f _ _ _ _ _

/-- A slot's step changes what it computes at most. -/
theorem slotStep_computes (sample : Nat → Nat) (hi : i < 24) (s : State) :
    ∃ z, slotForm z = slotForm (slotAt s i) ∧ Computes i z s (slotStep sample s i) := by
  refine slotStep_cases sample s i (P := fun r => ∃ z, slotForm z = slotForm (slotAt s i) ∧ Computes i z s r) ⟨_, rfl, .refl i s⟩
    ⟨_, slotForm_idleSlot _ _ _, (Computes.refl i s).mod hi _⟩ (fun f => ?_) (fun f c d e0 full a => ?_)
  · exact ⟨oscClose { slotInput s i f with updated := false }, (slotForm_oscClose _).trans (slotForm_input s i f),
      (slotFed_computes hi s f).mod hi _⟩
  · have hc := ((slotFed_computes hi s f).mod hi (fun _ => slotOutput (slotInput s i f) f)).bump (slotBase i + 0x2C)
    obtain ⟨z, hz, hz'⟩ := (slotJudged_judges hc.judges hi c _ d e0 full a).form
    exact ⟨z, hz.trans ((slotForm_output _ _).trans (slotForm_input s i f)), hz'⟩

/-- The step of another slot than `i`. -/
theorem slotStep_effects (sample : Nat → Nat) (hj : j < 24) (hne : j ≠ i) (s : State) :
    Effects [] (tickNoise i) s (slotStep sample s j) :=
  slotStep_cases sample s j (.refl _ s) ((Effects.refl _ s).slot j _) (fun f => (slotFed_effects hj s f).slot j _)
    (fun f c d e0 full a => slotJudged_effects (((slotFed_effects hj s f).slot j _).slotTally hj (by decide) (fun h => absurd h hne)) hj c _ d e0 full a)

end
end Sys2Proof.Machine
end


section
/-! A tick of the Loop Engine: the slots' turns, and the scanner's (R345 to R366, R373, R376). -/

namespace Sys2Proof.Machine

section
variable {s r t x : State} {i j : Nat} {y z : Slot} {C : List Nat} {sample : Nat → Nat}

/-! ### One slot's turn -/

/-- The KIND and the target of a slot. -/
def slotPlace (x : Slot) : Nat × Nat := (x.kind, x.target)

theorem slotPlace_of_form {y z : Slot} (h : slotForm y = slotForm z) : slotPlace y = slotPlace z := (congrArg slotPlace h :)

theorem swapTaken_place (x : Slot) : slotPlace (swapTaken x) = slotPlace x := by
  unfold swapTaken
  split <;> rfl

theorem resetTaken_place (x : Slot) : slotPlace (resetTaken x) = slotPlace x := by
  unfold resetTaken
  split <;> rfl

theorem SlotHeld.place {b : Nat} (h : SlotHeld b y z) : slotPlace z = slotPlace y := by
  rcases h with rfl | ⟨-, -, rfl⟩ <;> rfl

theorem SlotHeld.form {b : Nat} (h : SlotHeld b y z) : slotForm z = slotForm y := by
  rcases h with rfl | ⟨-, -, rfl⟩ <;> rfl

/-- A slot has had its boundary and its step. -/
def slotDone (sample : Nat → Nat) (s : State) (i : Nat) : State := slotStep sample (slotBoundary s i) i

theorem slotDone_computes (sample : Nat → Nat) (hi : i < 24) (s : State) :
    ∃ z, slotForm z = slotForm (resetTaken (swapTaken (slotAt s i))) ∧ Computes i z s (slotDone sample s i) := by
  have hb := slotBoundary_computes hi s
  obtain ⟨z, hz, hc⟩ := slotStep_computes sample hi (slotBoundary s i)
  exact ⟨z, hb.own ▸ hz, hb.trans hc⟩

theorem slotDone_effects (sample : Nat → Nat) (hj : j < 24) (hne : j ≠ i) (s : State) :
    Effects [] (tickNoise i) s (slotDone sample s j) :=
  (slotBoundary_effects _ s j).trans (slotStep_effects sample hj hne _)

theorem slotTick_cases {P : State → Prop} (sample : Nat → Nat) (s : State) (i : Nat) (h0 : P (slotDone sample s i))
    (h1 : (slotAt (slotDone sample s i) i).kind = 1 → P (applyCode (slotDone sample s i) (slotAt (slotDone sample s i) i).target false)) :
    P (slotTick sample s i) := by
  unfold slotTick
  dsimp only
  split
  · next h => exact h1 h.1
  · exact h0

theorem codeRest_of_slots (h : slotRest r = slotRest s) : codeRest r = codeRest s := (congrArg codeRest h :)

/-- What a slot's turn leaves of the other units, banks and slots. -/
structure Turn (i : Nat) (s r : State) : Prop where
  rest : codeRest r = codeRest s
  form : slotForm (slotAt r i) = slotForm (resetTaken (swapTaken (slotAt s i)))
  others : ∀ j, j ≠ i → slotAt r j = slotAt s j ∨ ((slotAt s i).kind = 1 ∧ SlotHeld (slotAt s i).target (slotAt s j) (slotAt r j))
  banks : ∀ q, ¬ ((slotAt s i).kind = 1 ∧ (slotAt s i).target = q) → bankAt r q = bankAt s q

theorem slotTick_turn (sample : Nat → Nat) (hi : i < 24) (s : State) : Turn i s (slotTick sample s i) := by
  obtain ⟨z, hz, hc⟩ := slotDone_computes sample hi s
  have hplace : slotPlace z = slotPlace (slotAt s i) :=
    (slotPlace_of_form hz).trans ((resetTaken_place _).trans (swapTaken_place _))
  have hk : z.kind = (slotAt s i).kind := congrArg Prod.fst hplace
  have ht : z.target = (slotAt s i).target := congrArg Prod.snd hplace
  have hbank (q : Nat) : bankAt (slotDone sample s i) q = bankAt s q := bankAt_of_lsd (congrArg Lsd.bank hc.lsd) q
  refine slotTick_cases sample s i ⟨codeRest_of_slots hc.rest, by rw [hc.own, hz], fun j hj => .inl (hc.others j hj), fun q _ => hbank q⟩
    (fun h1 => ?_)
  rw [hc.own] at h1 ⊢
  have hd := applyCode_drives (slotDone sample s i) z.target false
  rw [hk] at h1
  refine ⟨hd.rest.trans (codeRest_of_slots hc.rest), ?_, fun j hj => .inr ⟨h1, ?_⟩, fun q hq => ?_⟩
  · exact (hd.slots i).form.trans (by rw [hc.own, hz])
  · rw [← ht, ← hc.others j hj]
    exact hd.slots j
  · rw [hd.others q (fun h => hq ⟨h1, ht.symm.trans h.symm⟩), hbank]

/-- The turn of a slot that serves no bank ends with its step. -/
theorem slotTick_unbanked (hk : (slotAt (slotDone sample s i) i).kind ≠ 1) : slotTick sample s i = slotDone sample s i :=
  if_neg (fun h => hk h.1)

/-- The slot itself is as its step left it, or cleared as its bank was opened. -/
theorem slotTick_own (hc : slotAt (slotDone sample s i) i = z) : SlotHeld z.target z (slotAt (slotTick sample s i) i) := by
  subst hc
  exact slotTick_cases (P := fun r => SlotHeld (slotAt (slotDone sample s i) i).target (slotAt (slotDone sample s i) i) (slotAt r i))
    sample s i (.inl rfl) (fun _ => (applyCode_drives _ _ false).slots i)

theorem Effects.code (h : Effects C (tickNoise i) s r) (b : Nat) : Effects C (tickNoise i) s (applyCode r b false) :=
  h.quiet ((applyCode_drives r b false).effects.widen (fun _ => codeNoise_tick))

theorem slotTick_effects (sample : Nat → Nat) (hj : j < 24) (hne : j ≠ i) (s : State) : Effects [] (tickNoise i) s (slotTick sample s j) :=
  slotTick_cases sample s j (slotDone_effects sample hj hne s) (fun _ => (slotDone_effects sample hj hne s).code _)

/-- The turn of a slot that updates. -/
theorem slotTick_counts (hi : i < 24) (hk : (slotAt s i).kind ≠ 0) (hidle : slotIdle s (slotAt s i) = false)
    (hu : (slotAt s i).kind = 1 → (slotAt s i).window = true ∧ (slotAt s i).late = false) (hw : (slotAt s i).swaps = [])
    (hr : (slotAt s i).resets = []) : Effects [slotBase i + 0x2C] (tickNoise i) s (slotTick sample s i) := by
  have hs := slotBoundary_none hw hr
  have he : Effects [slotBase i + 0x2C] (tickNoise i) s (slotDone sample s i) := by
    unfold slotDone
    rw [hs]
    exact (slotStep_updates sample hi hk hidle hu).2
  exact slotTick_cases sample s i he (fun _ => he.code _)

/-! ### All the turns -/

theorem forN_at {P Q : State → Prop} {f : State → Nat → State} {N : Nat} (hi : i < N) (h0 : P s)
    (before : ∀ x j, j < i → P x → P (f x j)) (turn : ∀ x, P x → Q (f x i)) (after : ∀ x j, j < N → i < j → Q x → Q (f x j)) :
    Q (forN N f s) := by
  have h := forN_inv (I := fun n x => (n ≤ i → P x) ∧ (i < n → Q x)) (f := f) (N := N) (s := s) ⟨fun _ => h0, fun h => by omega⟩
    (fun j x hj hx => by
      obtain ⟨hp, hq⟩ := hx
      refine ⟨fun hn => before x j (by omega) (hp (by omega)), fun hn => ?_⟩
      rcases Nat.lt_or_ge i j with h | h
      · exact after x j hj h (hq h)
      · obtain rfl : j = i := by omega
        exact turn x (hp (Nat.le_refl _)))
  exact h.2 hi

/-- What all the turns leave. -/
structure Ticking (s x : State) : Prop where
  rest : codeRest x = codeRest s
  places : ∀ j, slotPlace (slotAt x j) = slotPlace (slotAt s j)

theorem Ticking.refl (s : State) : Ticking s s := ⟨rfl, fun _ => rfl⟩

theorem Turn.held (h : Turn i s r) (hj : j ≠ i) : SlotHeld (slotAt s i).target (slotAt s j) (slotAt r j) :=
  (h.others j hj).elim .inl (·.2)

theorem Turn.ticking (h : Turn j x r) (hx : Ticking s x) : Ticking s r where
  rest := h.rest.trans hx.rest
  places k := by
    rw [← hx.places k]
    by_cases hk : k = j
    · rw [hk]
      exact (slotPlace_of_form h.form).trans ((resetTaken_place _).trans (swapTaken_place _))
    · exact (h.held hk).place

/-- Another slot, whose target is not shared, stands as it was. -/
theorem Turn.apart (h : Turn j x r) (hne : i ≠ j) (ht : (slotAt x i).kind = 1 → (slotAt x j).kind = 1 → (slotAt x j).target ≠ (slotAt x i).target) :
    slotAt r i = slotAt x i := by
  rcases h.others i hne with h | ⟨hk, h | ⟨hk', ht', -⟩⟩
  · exact h
  · exact h
  · exact absurd ht'.symm (ht hk' hk)

theorem ticks_ticking (sample : Nat → Nat) (s : State) : Ticking s (forN 24 (slotTick sample) s) :=
  forN_inv (I := fun _ x => Ticking s x) (.refl s) (fun _ x hj hx => (slotTick_turn sample hj x).ticking hx)

theorem ticks_effects (sample : Nat → Nat) (s : State) : Effects [] (tickNoise 24) s (forN 24 (slotTick sample) s) :=
  forN_inv (I := fun _ x => Effects [] (tickNoise 24) s x) (.refl _ s)
    (fun j x hj hx => hx.quiet (slotTick_effects sample hj (by omega) x))

end
end Sys2Proof.Machine
end


section
/-! The whole tick of the Loop Engine, and its commands (R30, R348 to R366). -/

namespace Sys2Proof.Machine

section
variable {s r t x : State} {i j k : Nat} {y z : Slot} {C : List Nat} {E : Nat → Prop} {l : List Nat} {st : List (Nat × StoreError)}

/-! ### Before and after the slots -/

/-- The corrected sample of an input at a tick. -/
def loopSample (s : State) (l : List Nat) (i : Nat) : Nat := correct s (adcChannel s i) (l.getD i 0)

/-- The slots' stores have been read. -/
def storesRead (s : State) (st : List (Nat × StoreError)) : State := st.foldl slotStore (hlsForce s)

/-- The scanner's target of the tick is set. -/
def tickAim (s : State) : State := if scannerRuns s 2 then hlsTarget s 2 (bits (hlsReg s 0xC00008) 31 16) else s

/-- All slots have had their turn. -/
def slotsTicked (s : State) (l : List Nat) (st : List (Nat × StoreError)) : State :=
  forN 24 (slotTick (loopSample (storesRead s st) l)) (tickAim (storesRead s st))

/-- The registers show the tick. -/
def tickShown (s : State) (n : Nat) : State := { s with lpe := { s.lpe with
  shown := s.lpe.slot
  lastTick := some n } }

theorem loopTick_eq (h0 : s.tsc % 250 = 0) (hn : s.lpe.lastTick ≠ some s.tsc) :
    loopTick s l st = hlsTick (tickShown (slotsTicked s l st) s.tsc) := by
  unfold loopTick slotsTicked
  generalize 24 = n
  exact if_neg (by rintro (h | h) <;> contradiction)

theorem loopTick_undue (h : s.tsc % 250 ≠ 0 ∨ s.lpe.lastTick = some s.tsc) : loopTick s l st = s := if_pos h

theorem tickAim_units (s : State) : ∃ L, tickAim s = { s with lpe := L } := by
  unfold tickAim
  split
  · exact hlsTarget_units s _ _
  · exact ⟨_, rfl⟩

theorem tickAim_effects (E : Nat → Prop) (s : State) : Effects [] E s (tickAim s) := by
  obtain ⟨L, h⟩ := tickAim_units s
  rw [h]
  exact ((Effects.refl E s).units (by rfl))

theorem hlsSlot_kind (h : hlsSlot s k = some i) : i < 24 ∧ (slotAt s i).kind = k := by
  unfold hlsSlot firstN at h
  have hp := List.find?_some h
  exact ⟨List.mem_range.mp (List.mem_of_find?_eq_some h), eq_of_beq hp⟩

/-- A slot that is not the scanner's KIND 2 keeps its target. -/
theorem slotAt_tickAim (h : (slotAt s i).kind ≠ 2) : slotAt (tickAim s) i = slotAt s i := by
  unfold tickAim hlsTarget modHlsSlot
  split
  · split
    · next q hq =>
      rw [slotAt_modSlot, if_neg]
      rintro ⟨rfl, -⟩
      exact h (hlsSlot_kind hq).2
    · rfl
  · rfl

theorem slotForm_tickAim (s : State) (i : Nat) : slotForm (slotAt (tickAim s) i) = slotForm (slotAt s i) := by
  unfold tickAim hlsTarget modHlsSlot
  split
  · split
    · rw [slotAt_modSlot]
      split <;> rfl
    · rfl
  · rfl

theorem slowTick_units (s : State) : ∃ p, slowTick s = { s with pins := p } := by
  unfold slowTick
  split
  · split
    · exact ⟨_, rfl⟩
    · exact ⟨_, rfl⟩
  · split
    · exact ⟨_, rfl⟩
    · exact ⟨_, rfl⟩

/-- What the scanner's tick does keeps the slots but for what they compute. -/
theorem hlsTick_cases {P : State → Prop} (s : State) (h0 : P (slowTick s)) (hp : ∀ x q c, q.source ∈ [0x92, 0x94] → q.injected = false →
    q.reactionAs = none → P x → P (parkScanner (report x q) c true)) (hi : ∀ x n m, P x → P (setInc x n m)) : P (hlsTick s) := by
  unfold hlsTick
  extract_lets s1 rd s2
  have h2 : P s2 := by
    simp only [s2]
    split
    · exact hp _ _ _ (by decide) rfl rfl h0
    · exact h0
  clear_value s2
  split
  · split
    · extract_lets inc
      split
      · exact hp _ _ _ (by exact of_decide_eq_true rfl) rfl rfl h2
      · split
        · exact h2
        · exact hi _ _ _ h2
    · exact h2
  · exact h0

theorem hlsTick_forms (s : State) : SlotsKept s (hlsTick s) := by
  refine hlsTick_cases s ?_ (fun x q c _ _ _ h => ?_) (fun x n m h => h.trans (.of_lpe rfl))
  · obtain ⟨p, hp⟩ := slowTick_units s
    rw [hp]
    exact .of_lpe rfl
  · exact (h.trans (.of_calm (calm_report x q))).trans (parkScanner_forms _ c true)

theorem hlsTick_effects (i : Nat) (s : State) : Effects [] (tickNoise i) s (hlsTick s) := by
  refine hlsTick_cases s ?_ (fun x q c hq hi hn h => ?_) (fun x n m h => (h.units (by rfl)))
  · obtain ⟨p, hp⟩ := slowTick_units s
    rw [hp]
    exact ((Effects.refl _ s).units (by rfl))
  · refine (h.slotSource q ?_ hi hn).quiet (parkScanner_effects _ _ c true)
    simp only [List.mem_cons, List.not_mem_nil, or_false] at hq ⊢
    omega

/-! ### The end of the tick -/

/-- What the end of a tick leaves of the slots, and of what the registers show. -/
structure TickLeft (u t : State) : Prop where
  forms : ∀ i, i < 24 → slotForm (slotAt t i) = slotForm (slotAt u i)
  shown : t.lpe.shown = u.lpe.slot

theorem tickShown_effects (h : Effects C E s x) (n : Nat) : Effects C E s (tickShown x n) := (h.units (by rfl))

theorem SlotsKept.left {u : State} {n : Nat} (h : SlotsKept (tickShown u n) t) : TickLeft u t := ⟨fun _ hi => h.form hi, h.shown⟩

theorem exec_loopTick (hl : Live s) (h0 : s.tsc % 250 = 0) (hn : s.lpe.lastTick ≠ some s.tsc)
    (he : Effects C E s (slotsTicked s l st)) (hE : ∀ n, tickNoise k n → E n) :
    ∃ t, exec (.loopTick l st) s = .next t ∧ Done C E s (loopTick s l st) t ∧ TickLeft (slotsTicked s l st) t := by
  have heff : Effects C E s (loopTick s l st) := by
    rw [loopTick_eq h0 hn]
    exact (tickShown_effects he _).quiet ((hlsTick_effects k _).widen hE)
  obtain ⟨t, ht, hd⟩ := exec_done (i := .loopTick l st) (f := fun s => loopTick s l st) rfl hl heff
  have hkept : SlotsKept (loopTick s l st) t := slotsKept_stable.done (i := .loopTick l st) (f := fun s => loopTick s l st) rfl hl heff ht
  rw [loopTick_eq h0 hn] at hkept
  exact ⟨t, ht, hd, ((hlsTick_forms _).trans hkept).left⟩

/-! ### What the stores meet -/

/-- A slot's form, its store error apart. -/
def slotQueue (x : Slot) : Slot := { slotForm x with storeErr := false }

theorem slotQueue_of_form {y z : Slot} (h : slotForm y = slotForm z) : slotQueue y = slotQueue z := (congrArg slotQueue h :)

theorem slotStore_queue (s : State) (e : Nat × StoreError) (i : Nat) : slotQueue (slotAt (slotStore s e) i) = slotQueue (slotAt s i) := by
  unfold slotStore
  split
  · rfl
  · split
    · rfl
    · rfl
    · show slotQueue (slotAt (modSlot s e.1 _) i) = _
      rw [slotAt_modSlot]
      split <;> rfl

/-- What is told by the stores, whatever they meet. -/
def anything : Nat → Prop := fun _ => True

theorem Effects.told (h : Effects C E s r) (q : Report) (hq : q.source < 256) (hi : q.injected = false) (hn : q.reactionAs = none)
    (he : E q.source) : Effects C E s (Machine.report r q) :=
  h.quiet ((report_adds r q hq hi hn).effects.drop (fun n hm => by rw [List.mem_singleton.mp hm]; exact he))

theorem slotStore_effects (s : State) (e : Nat × StoreError) : Effects [] anything s (slotStore s e) := by
  have h (f : Slot → Slot) : Effects [] anything s (modSlot s e.1 f) := ((Effects.refl _ s).units (by rfl))
  unfold slotStore
  split
  · exact .refl _ s
  · split
    · exact .refl _ s
    · exact (Effects.refl _ s).told _ (by exact of_decide_eq_true rfl) rfl rfl trivial
    · exact (h _).told _ (by exact of_decide_eq_true rfl) rfl rfl trivial

theorem storesRead_queue (s : State) (st : List (Nat × StoreError)) (i : Nat) : slotQueue (slotAt (storesRead s st) i) = slotQueue (slotAt s i) :=
  List.foldlRecOn st slotStore (motive := fun r => slotQueue (slotAt r i) = slotQueue (slotAt s i)) rfl
    (fun r hr e _ => (slotStore_queue r e i).trans hr)

theorem storesRead_effects (s : State) (st : List (Nat × StoreError)) : Effects [] anything s (storesRead s st) := by
  have h : Effects [] anything s (hlsForce s) := ((Effects.refl _ s).units (by rfl))
  exact h.trans (Effects.foldl slotStore_effects st _)

theorem tickStart_effects (s : State) (st : List (Nat × StoreError)) : Effects [] anything s (tickAim (storesRead s st)) :=
  (storesRead_effects s st).trans (tickAim_effects _ _)

end
end Sys2Proof.Machine
end


section
/-! What a tick makes of a slot (R348 to R366). -/

namespace Sys2Proof.Machine

section
variable {s r t x : State} {i j k : Nat} {y z : Slot} {C : List Nat} {E : Nat → Prop} {l : List Nat} {st : List (Nat × StoreError)}

theorem Ticking.active (h : Ticking s x) : x.lpe.active = s.lpe.active := (congrArg (·.lpe.active) h.rest :)
theorem Ticking.hls (h : Ticking s x) : x.hls = s.hls := (congrArg (·.hls) h.rest :)
theorem Ticking.regN (h : Ticking s x) (off : Nat) : regN x off = regN s off := (congrArg (fun v => Machine.regN v off) h.rest :)

/-- The values written are in force, and the scanner's target is set. -/
def tickBegun (s : State) : State := tickAim (hlsForce s)

theorem tickBegun_units (s : State) : ∃ L f, tickBegun s = { s with
    lpe := { s.lpe with slot := L }
    hls := { s.hls with force := f } } := by
  unfold tickBegun tickAim hlsTarget modHlsSlot
  split
  · split
    · exact ⟨_, _, rfl⟩
    · exact ⟨_, _, rfl⟩
  · exact ⟨_, _, rfl⟩

theorem tickBegun_effects (E : Nat → Prop) (s : State) : Effects [] E s (tickBegun s) := by
  have h : Effects [] E s (hlsForce s) := ((Effects.refl E s).units (by rfl))
  exact h.trans (tickAim_effects E _)

theorem slotIdle_congr {a b : State} (ha : a.lpe.active = b.lpe.active) (hm : a.hls.mode = b.hls.mode)
    (hb : y.kind = 1 → bankAt a y.target = bankAt b y.target) : slotIdle a y = slotIdle b y := by
  unfold slotIdle scannerRuns
  rw [ha, hm]
  by_cases hk : y.kind = 1
  · rw [hb hk]
  · rw [if_neg hk, if_neg hk]

/-- A slot on its way to its turn. -/
structure Awaits (s : State) (i : Nat) (x : State) : Prop where
  ticking : Ticking (tickBegun s) x
  slot : slotAt x i = slotAt s i
  bank : (slotAt s i).kind = 1 → bankAt x (slotAt s i).target = bankAt s (slotAt s i).target
  effects : Effects [] (tickNoise i) s x

theorem Awaits.begun (hk : (slotAt s i).kind ≠ 2) : Awaits s i (tickBegun s) where
  ticking := .refl _
  slot := slotAt_tickAim hk
  bank _ := by
    obtain ⟨L, f, h⟩ := tickBegun_units s
    rw [h]
    rfl
  effects := tickBegun_effects _ s

theorem Awaits.place (h : Awaits s i x) (j : Nat) : slotPlace (slotAt x j) = slotPlace (slotAt s j) :=
  (h.ticking.places j).trans (slotPlace_of_form (slotForm_tickAim (hlsForce s) j))

theorem Awaits.idle (h : Awaits s i x) : slotIdle x (slotAt x i) = slotIdle s (slotAt s i) := by
  obtain ⟨L, f, he⟩ := tickBegun_units s
  rw [h.slot]
  exact slotIdle_congr (h.ticking.active.trans (by rw [he])) (by rw [h.ticking.hls, he]) h.bank

theorem Awaits.step {sample : Nat → Nat} (h : Awaits s i x) (hj : j < 24) (hne : j ≠ i)
    (ht : (slotAt s i).kind = 1 → (slotAt s j).kind = 1 → (slotAt s j).target ≠ (slotAt s i).target) : Awaits s i (slotTick sample x j) := by
  have hturn := slotTick_turn sample hj x
  have hkj : (slotAt x j).kind = (slotAt s j).kind := congrArg Prod.fst (h.place j)
  have htj : (slotAt x j).target = (slotAt s j).target := congrArg Prod.snd (h.place j)
  refine ⟨hturn.ticking h.ticking, ?_, fun hk => ?_, h.effects.quiet (slotTick_effects sample hj hne x)⟩
  · rw [hturn.apart (Ne.symm hne) (by rw [h.slot, hkj, htj]; exact ht), h.slot]
  · rw [hturn.banks _ (by rw [hkj, htj]; exact fun hb => ht hk hb.1 hb.2), h.bank hk]

/-! ### A slot that updates -/

/-- A slot without its model's state, its count of plausibility and its detector. -/
def timeless (x : Slot) : Slot := { slotCore x with m := 0 }

theorem timeless_of_core {y z : Slot} (h : slotCore y = slotCore z) : timeless y = timeless z := (congrArg timeless h :)

theorem timeless_input (s : State) (i : Nat) (f : Int) :
    timeless (slotInput s i f) = timeless (slewStep { slotAt s i with
      idle := false
      fb := f } (regN s (slotBase i + 0x20))) := by
  have hosc (on : Bool) (x : Slot) : timeless (oscTime on x) = timeless x := by
    unfold oscTime
    split <;> rfl
  unfold slotInput
  dsimp only
  rw [hosc]
  split <;> rfl

theorem timeless_output (x : Slot) (f : Int) : timeless (slotOutput x f) = timeless (slotOutput (timeless x) f) := by
  have hclamp (v e : Int) : timeless (clampStep x v e) = timeless (clampStep (timeless x) v e) := by
    unfold clampStep
    refine (apply_ite timeless _ _ _).trans (Eq.symm ?_)
    refine (apply_ite timeless _ _ _).trans ?_
    rfl
  exact congrArg (fun z : Slot => { z with updated := true }) (hclamp _ _)

/-- The output of a slot, from what its limiter gives. -/
theorem timeless_output_of {a b : Slot} (h : timeless a = timeless b) (f : Int) : timeless (slotOutput a f) = timeless (slotOutput b f) := by
  rw [timeless_output a, timeless_output b, h]

/-- A slot of the scanner that runs computes its output, and the registers show it. -/
theorem loopTick_output {f : Int} (hi : i < 24) (hk : (slotAt s i).kind = 3) (hidle : slotIdle s (slotAt s i) = false)
    (hw : (slotAt s i).swaps = []) (hr : (slotAt s i).resets = []) (hf : f = (loopSample s l (slotAt s i).input * 65536 : Nat)) :
    timeless (slotAt (slotsTicked s l []) i) = timeless (slotOutput (slewStep { slotAt s i with
      idle := false
      fb := f } (regN s (slotBase i + 0x20))) f) := by
  have hk1 (h : (slotAt s i).kind = 1) : False := by omega
  refine forN_at (P := Awaits s i) (Q := fun x => (slotAt x i).kind = 3 ∧ timeless (slotAt x i) = timeless (slotOutput (slewStep { slotAt s i with
      idle := false
      fb := f } (regN s (slotBase i + 0x20))) f)) hi (.begun (by omega)) (fun x j hj h => h.step (by omega) (by omega) (fun h => (hk1 h).elim))
    (fun x h => ?_) (fun x j hj hij h => ?_) |>.2
  · have hsame : slotBoundary x i = x := slotBoundary_none (h.slot ▸ hw) (h.slot ▸ hr)
    have hfeed : slotFeedback (loopSample (storesRead s []) l) x (slotAt x i) = f := by
      rw [h.slot, hf]
      exact if_neg (by omega)
    obtain ⟨⟨z, hz, hc⟩, -⟩ := slotStep_updates (s := x) (loopSample (storesRead s []) l) hi (by rw [h.slot]; omega) (h.idle.trans hidle)
      (by rw [h.slot]; exact fun h => (hk1 h).elim)
    rw [hfeed] at hz
    have hdone : slotAt (slotDone (loopSample (storesRead s []) l) x i) i = z := by
      unfold slotDone
      rw [hsame]
      exact hc.own
    have hreg : regN x (slotBase i + 0x20) = regN s (slotBase i + 0x20) := by
      obtain ⟨L, g, he⟩ := tickBegun_units s
      rw [h.ticking.regN, he]
      rfl
    have hkind : (slotAt (slotTick (loopSample (storesRead s []) l) x i) i).kind = 3 := by
      have := ((slotTick_turn (loopSample (storesRead s []) l) hi x).ticking h.ticking).places i
      exact (congrArg Prod.fst (this.trans (slotPlace_of_form (slotForm_tickAim (hlsForce s) i))) :).trans hk
    refine ⟨hkind, ?_⟩
    have hkz : z.kind = 3 := by
      rw [← hkind]
      exact congrArg Prod.fst (slotTick_own hdone).place.symm
    rw [slotTick_unbanked (by rw [hdone, hkz]; decide), hdone, timeless_of_core hz]
    refine timeless_output_of ?_ f
    rw [timeless_input, hreg, h.slot]
  · rw [(slotTick_turn _ hj x).apart (by omega) (by rw [h.1]; exact fun h => absurd h (by decide))]
    exact h

/-- A slot of a bank that updates is counted. -/
theorem loopTick_counts (hi : i < 24) (hk : (slotAt s i).kind = 1) (hidle : slotIdle s (slotAt s i) = false)
    (hw : (slotAt s i).swaps = []) (hr : (slotAt s i).resets = []) (hwin : (slotAt s i).window = true) (hlate : (slotAt s i).late = false)
    (ht : ∀ j, j < 24 → j ≠ i → (slotAt s j).kind = 1 → (slotAt s j).target ≠ (slotAt s i).target) :
    Effects [slotBase i + 0x2C] (tickNoise i) s (slotsTicked s l []) := by
  refine forN_at (P := Awaits s i) (Q := fun x => Effects [slotBase i + 0x2C] (tickNoise i) s x) hi (.begun (by omega))
    (fun x j hj h => h.step (by omega) (by omega) (fun _ => ht j (by omega) (by omega))) (fun x h => ?_)
    (fun x j hj hij h => h.quiet (slotTick_effects _ hj (by omega) x))
  refine h.effects.trans (slotTick_counts hi ?_ (h.idle.trans hidle) ?_ ?_ ?_)
  · rw [h.slot, hk]
    decide
  · rw [h.slot]
    exact fun _ => ⟨hwin, hlate⟩
  · rw [h.slot, hw]
  · rw [h.slot, hr]

end
end Sys2Proof.Machine
end


section
/-! Swaps, store errors and idle ticks of the Loop Engine, and its commands (R348, R358, R363, R365). -/

namespace Sys2Proof.Machine

section
variable {s r t x : State} {i j k : Nat} {y z : Slot} {C : List Nat} {E : Nat → Prop} {l : List Nat} {st : List (Nat × StoreError)}

/-! ### A swap -/

/-- A swap has been taken from a slot, and none of its resets waits. -/
structure SwapTaken (w : Swap) (q : List Swap) (y : Slot) : Prop where
  bank : y.bankB = w.bankB
  swaps : y.swaps = q
  resets : y.resets = []
  limits : ∀ lo hi, w.limits = some (lo, hi) → y.outMin = lo ∧ y.outMax = hi

theorem SwapTaken.form {w : Swap} {q : List Swap} (h : SwapTaken w q y) (hf : slotForm z = slotForm y) : SwapTaken w q z where
  bank := (congrArg (fun x : Slot => x.bankB) hf :).trans h.bank
  swaps := (congrArg (fun x : Slot => x.swaps) hf :).trans h.swaps
  resets := (congrArg (fun x : Slot => x.resets) hf :).trans h.resets
  limits lo hi hw := ⟨(congrArg (fun x : Slot => x.outMin) hf :).trans (h.limits lo hi hw).1,
    (congrArg (fun x : Slot => x.outMax) hf :).trans (h.limits lo hi hw).2⟩

theorem boundary_swapTaken {w : Swap} {q : List Swap} (h : y.swaps = w :: q) : SwapTaken w q (resetTaken (swapTaken y)) := by
  have hs : (swapTaken y).bankB = w.bankB ∧ (swapTaken y).swaps = q ∧
      ∀ lo hi, w.limits = some (lo, hi) → (swapTaken y).outMin = lo ∧ (swapTaken y).outMax = hi := by
    unfold swapTaken
    rw [h]
    refine ⟨rfl, rfl, fun lo hi hw => ?_⟩
    dsimp only
    rw [hw]
    exact ⟨rfl, rfl⟩
  obtain ⟨hb, hq, hl⟩ := hs
  refine ⟨?_, ?_, resetTaken_resets _, fun lo hi hw => ?_⟩
  · unfold resetTaken
    split <;> exact hb
  · unfold resetTaken
    split <;> exact hq
  · unfold resetTaken
    split <;> exact hl lo hi hw

/-- The command of a swap that is taken completes. -/
theorem slotBoundary_flight {w : Swap} {q : List Swap} {f : InFlight} (h : (slotAt s i).swaps = w :: q)
    (hf : s.hmi.inFlight = [f] ∨ s.hmi.inFlight = []) (hid : f.id = w.id) : (slotBoundary s i).hmi.inFlight = [] := by
  have hgone (g : Slot → Slot) (res : List Byte) : (complete (modSlot s i g) w.id .ok res).hmi.inFlight = [] := by
    rcases hf with hf | hf
    · rw [← hid]
      exact complete_last (s := modSlot s i g) hf _ _
    · exact (complete_host (modSlot s i g) w.id .ok res).idle hf
  unfold slotBoundary
  dsimp only
  rw [h]
  dsimp only
  split
  · exact hgone _ _
  · exact (completes_effects anything _ (modSlot _ i _)).idle (hgone _ _)

/-- The oldest swap of slot `i` has been taken, and its command answered. -/
structure SwapDone (w : Swap) (q : List Swap) (i : Nat) (s x : State) : Prop where
  taken : SwapTaken w q (slotAt x i)
  effects : Effects [] anything s x
  flight : ∀ f, s.hmi.inFlight = [f] → f.id = w.id → x.hmi.inFlight = []

section
variable {w : Swap} {q : List Swap} {sample : Nat → Nat}

theorem swaps_of_queue {y z : Slot} (h : slotQueue y = slotQueue z) : y.swaps = z.swaps := (congrArg (fun x : Slot => x.swaps) h :)

/-- A slot's swaps wait for its turn. -/
structure SwapWaits (w : Swap) (q : List Swap) (i : Nat) (s x : State) : Prop where
  effects : Effects [] anything s x
  swaps : (slotAt x i).swaps = w :: q

theorem slotTick_noise (hj : j < 24) (x : State) : Effects [] anything x (slotTick sample x j) :=
  (slotTick_effects (i := 24) _ hj (by omega) x).widen (fun _ _ => trivial)

theorem slotTick_flight (hi : i < 24) (h : (slotBoundary x i).hmi.inFlight = []) : (slotTick sample x i).hmi.inFlight = [] := by
  have hdone : (slotDone sample x i).hmi.inFlight = [] := (slotStep_effects (i := 24) sample hi (by omega) (slotBoundary x i)).idle h
  exact slotTick_cases (P := fun r => r.hmi.inFlight = []) sample x i hdone (fun _ => (applyCode_drives _ _ false).effects.idle hdone)

theorem slotTick_swapDone (hi : i < 24) (he : Effects [] anything s x) (hs : (slotAt x i).swaps = w :: q) :
    SwapDone w q i s (slotTick sample x i) where
  taken := (boundary_swapTaken hs).form (slotTick_turn sample hi x).form
  effects := he.quiet (slotTick_noise hi x)
  flight f hf hid := slotTick_flight hi (slotBoundary_flight hs (he.flight f hf) hid)

theorem SwapDone.step (h : SwapDone w q i s x) (hj : j < 24) (hne : i ≠ j) : SwapDone w q i s (slotTick sample x j) where
  taken := h.taken.form ((slotTick_turn sample hj x).held hne).form
  effects := h.effects.quiet (slotTick_noise hj x)
  flight f hf hid := (slotTick_noise hj x).idle (h.flight f hf hid)

theorem SwapWaits.step (h : SwapWaits w q i s x) (hj : j < 24) (hne : i ≠ j) : SwapWaits w q i s (slotTick sample x j) where
  effects := h.effects.quiet (slotTick_noise hj x)
  swaps := (swaps_of_queue (slotQueue_of_form ((slotTick_turn sample hj x).held hne).form)).trans h.swaps

/-- The slots' turns take the oldest swap of a slot. -/
theorem ticks_swaps (hi : i < 24) (h : SwapWaits w q i s x) : SwapDone w q i s (forN 24 (slotTick sample) x) :=
  forN_at (P := SwapWaits w q i s) (Q := SwapDone w q i s) hi h (fun x j hj hx => hx.step (by omega) (by omega))
    (fun x hx => slotTick_swapDone hi hx.effects hx.swaps) (fun x j hj hij hx => hx.step hj (by omega))

end

/-- A tick takes the oldest swap of a slot. -/
theorem slotsTicked_swaps {w : Swap} {q : List Swap} (hi : i < 24) (h : (slotAt s i).swaps = w :: q) :
    SwapDone w q i s (slotsTicked s l st) := by
  have hq := (slotQueue_of_form (slotForm_tickAim (storesRead s st) i)).trans (storesRead_queue s st i)
  exact ticks_swaps hi ⟨tickStart_effects s st, (swaps_of_queue hq).trans h⟩

/-! ### A store error -/

theorem slotStep_idle {sample : Nat → Nat} (hk : (slotAt s i).kind ≠ 0) (h : slotIdle s (slotAt s i) = true) :
    slotStep sample s i = modSlot s i (fun x => idleSlot s x (sample x.input)) := by
  rw [slotStep_eq]
  exact (if_neg hk).trans (if_pos h)

theorem slotIdle_stored (h : y.storeErr = true) : slotIdle s y = true := by simp [slotIdle, h]

/-- A slot stands idle, held by its store. -/
structure HeldByStore (y : Slot) : Prop where
  idle : y.idle = true
  updated : y.updated = false
  stored : y.storeErr = true

theorem HeldByStore.held {b : Nat} (h : HeldByStore y) (hz : SlotHeld b y z) : HeldByStore z := by
  rcases hz with rfl | ⟨-, -, rfl⟩
  · exact h
  · exact ⟨h.idle, rfl, h.stored⟩

theorem idleSlot_held (s : State) (h : y.storeErr = true) (n : Nat) : HeldByStore (idleSlot s y n) := by
  unfold idleSlot
  dsimp only
  split
  · exact ⟨rfl, rfl, h⟩
  · exact ⟨rfl, rfl, h⟩

/-- A slot with a store error waits for its turn. -/
structure Stored (y : Slot) : Prop where
  stored : y.storeErr = true
  resets : y.resets = []
  kind : y.kind ≠ 0

theorem Stored.form (h : Stored y) (hf : slotForm z = slotForm y) : Stored z where
  stored := (congrArg (fun x : Slot => x.storeErr) hf :).trans h.stored
  resets := (congrArg (fun x : Slot => x.resets) hf :).trans h.resets
  kind := (congrArg (fun x : Slot => x.kind) hf :) ▸ h.kind

theorem Stored.boundary (h : Stored y) : Stored (resetTaken (swapTaken y)) := by
  have hr : (swapTaken y).resets = [] := (swapTaken_resets y).trans h.resets
  rw [resetTaken_none hr]
  have hk : (swapTaken y).kind = y.kind := congrArg Prod.fst (swapTaken_place y)
  refine ⟨?_, hr, by rw [hk]; exact h.kind⟩
  unfold swapTaken
  split <;> exact h.stored

theorem slotTick_holds {sample : Nat → Nat} (hi : i < 24) (h : Stored (slotAt s i)) : HeldByStore (slotAt (slotTick sample s i) i) := by
  have hb := slotBoundary_computes hi s
  have hstored : Stored (slotAt (slotBoundary s i) i) := by
    rw [hb.own]
    exact h.boundary
  have hdone : slotDone sample s i =
      modSlot (slotBoundary s i) i (fun x => idleSlot (slotBoundary s i) x (sample x.input)) :=
    slotStep_idle hstored.kind (slotIdle_stored hstored.stored)
  have hheld : HeldByStore (slotAt (slotDone sample s i) i) := by
    rw [hdone, slotAt_modSlot, if_pos ⟨rfl, hi⟩]
    exact idleSlot_held _ hstored.stored _
  exact hheld.held (slotTick_own rfl)

theorem slotsTicked_holds (hi : i < 24) (h : Stored (slotAt (storesRead s st) i)) : HeldByStore (slotAt (slotsTicked s l st) i) :=
  forN_at (P := fun x => Stored (slotAt x i)) (Q := fun x => HeldByStore (slotAt x i)) hi (h.form (slotForm_tickAim _ i))
    (fun x j hj hx => hx.form ((slotTick_turn _ (by omega) x).held (by omega)).form) (fun x hx => slotTick_holds hi hx)
    (fun x j hj hij hx => hx.held ((slotTick_turn _ hj x).held (by omega)))

/-- One store read with an error. -/
theorem storesRead_one (hk : (slotAt s i).kind ≠ 0) : storesRead s [(i, .corrected)] = report (hlsForce s) { source := 0x84, master := i } ∧
    storesRead s [(i, .uncorrectable)] = report (modSlot (hlsForce s) i (fun x => { x with storeErr := true })) { source := 0x83, master := i } :=
  ⟨if_neg hk, if_neg hk⟩

theorem tickNoise_not (h : i < 256) (hn : ¬ codeNoise i) (hs : i ∉ [0x80, 0x81, 0x82, 0x92, 0x94]) : ¬ tickNoise k i := by
  rintro ⟨h1 | h1 | h1, -⟩
  · exact hn h1
  · exact hs h1
  · omega

theorem slotsTicked_effects (h : Effects C (tickNoise 24) s (storesRead s st)) : Effects C (tickNoise 24) s (slotsTicked s l st) :=
  (h.quiet (tickAim_effects _ _)).quiet (ticks_effects _ _)

end
end Sys2Proof.Machine
end


section
/-! A tick of a Loop Engine that does not run, and the Loop Engine's commands (R348, R358, R365, R373). -/

namespace Sys2Proof.Machine

section
variable {s r t x u : State} {i j n : Nat} {y z : Slot} {l : List Nat} {sample : Nat → Nat}

/-! ### A tick in which no slot runs -/

/-- A slot that does not run clears and follows its input (R348). -/
def slotFollows (sample : Nat → Nat) (y : Slot) : Slot :=
  if y.kind = 0 then y else { clearSlot y with
    idle := true
    fb := (sample y.input * 65536 : Nat) }

/-- No slot runs, and none has a swap or a reset. -/
structure Unlooped (s : State) : Prop where
  active : s.lpe.active = false
  banks : ∀ b, b < 12 → (bankAt s b).mode ≠ .armed
  waits : ∀ i, i < 24 → (slotAt s i).swaps = [] ∧ (slotAt s i).resets = []

theorem applyCode_unarmed (h : ∀ b, b < 12 → (bankAt s b).mode ≠ .armed) (b : Nat) (force : Bool) : applyCode s b force = s := by
  refine if_neg (fun hm => ?_)
  have hb : b < 12 := bank_lt (fun h => by rw [h] at hm; cases hm)
  exact h b hb (eq_of_beq hm)

theorem slotTick_absent (hw : (slotAt s i).swaps = []) (hr : (slotAt s i).resets = []) (hk : (slotAt s i).kind = 0) :
    slotTick sample s i = s := by
  have hstep : slotStep sample s i = s := by
    rw [slotStep_eq]
    exact if_pos hk
  unfold slotTick
  rw [slotBoundary_none hw hr, hstep]
  exact if_neg (fun hc => hc.2 rfl)

theorem slotTick_clears (ha : s.lpe.active = false) (hb : ∀ b, b < 12 → (bankAt s b).mode ≠ .armed) (hw : (slotAt s i).swaps = [])
    (hr : (slotAt s i).resets = []) (hk : (slotAt s i).kind ≠ 0) :
    slotTick sample s i = modSlot s i (fun x => idleSlot s x (sample x.input)) := by
  unfold slotTick
  rw [slotBoundary_none hw hr, slotStep_idle hk (by simp [slotIdle, ha])]
  dsimp only
  rw [applyCode_unarmed (by exact hb)]
  exact ite_self _

theorem idleSlot_follows (ha : s.lpe.active = false) (hk : y.kind ≠ 0) : idleSlot s y (sample y.input) = slotFollows sample y := by
  rw [slotFollows, if_neg hk]
  simp [idleSlot, ha]

/-- The slots before `n` have followed their inputs. -/
structure Followed (sample : Nat → Nat) (u : State) (n : Nat) (x : State) : Prop where
  frame : ∃ L, x = { u with lpe := { u.lpe with slot := L } }
  slots : ∀ i, slotAt x i = if i < n then slotFollows sample (slotAt u i) else slotAt u i

theorem slotTick_follows (h : Unlooped u) (hn : n < 24) (hx : Followed sample u n x) : Followed sample u (n + 1) (slotTick sample x n) := by
  obtain ⟨hframe, hs⟩ := hx
  have hown : slotAt x n = slotAt u n := (hs n).trans (if_neg (by omega))
  have hlater (i : Nat) (hi : i ≠ n) : slotAt x i = if i < n + 1 then slotFollows sample (slotAt u i) else slotAt u i := by
    rw [hs i]
    by_cases hin : i < n
    · rw [if_pos hin, if_pos (by omega)]
    · rw [if_neg hin, if_neg (by omega)]
  obtain ⟨hw, hr⟩ := h.waits n hn
  rw [← hown] at hw hr
  have ha : x.lpe.active = false := by
    obtain ⟨L, rfl⟩ := hframe
    exact h.active
  have hb (b : Nat) (hb : b < 12) : (bankAt x b).mode ≠ .armed := by
    obtain ⟨L, rfl⟩ := hframe
    exact h.banks b hb
  by_cases hk : (slotAt x n).kind = 0
  · rw [slotTick_absent hw hr hk]
    refine ⟨hframe, fun i => ?_⟩
    by_cases hi : i = n
    · subst hi
      rw [if_pos (by omega), hown, slotFollows, if_pos (hown ▸ hk)]
    · exact hlater i hi
  · rw [slotTick_clears ha hb hw hr hk]
    refine ⟨?_, fun i => ?_⟩
    · obtain ⟨L, rfl⟩ := hframe
      exact ⟨_, rfl⟩
    · rw [slotAt_modSlot]
      by_cases hi : i = n
      · subst hi
        rw [if_pos ⟨rfl, hn⟩, if_pos (by omega), idleSlot_follows ha hk, hown]
      · rw [if_neg (fun hc => hi hc.1.symm)]
        exact hlater i hi

theorem ticks_follow (h : Unlooped u) (sample : Nat → Nat) : Followed sample u 24 (forN 24 (slotTick sample) u) :=
  forN_inv (I := fun n x => Followed sample u n x) ⟨⟨_, rfl⟩, fun i => (if_neg (by omega)).symm⟩ (fun _ _ hn hx => slotTick_follows h hn hx)

/-! ### The scanner rests -/

/-- The scanner is at rest. -/
def scannerStands (s : State) : Prop := s.hls.mode = .disabled ∨ s.hls.mode = .parked ∨ s.hls.mode = .failed

theorem tickAim_stands (h : scannerStands s) : tickAim s = s := by
  refine if_neg ?_
  rcases h with h | h | h <;> simp [scannerRuns, h]

/-- A scanner at rest drives its park code. -/
theorem hlsTick_stands (h : scannerStands s) : hlsTick s = if hasHls s && domainOn s 32 then slowDrive s (parkCode s) else s := by
  have hslow : slowTick s = if hasHls s && domainOn s 32 then slowDrive s (parkCode s) else s := by
    refine if_neg ?_
    rcases h with h | h | h <;> simp [h]
  rw [← hslow]
  refine if_neg ?_
  rcases h with h | h | h <;> simp [h]

theorem parkCode_force (s : State) : parkCode (hlsForce s) = bits (regN s 0xC00020) 31 16 := rfl

/-- The pins of a tick at which the scanner stands. -/
def standingPins (s : State) : Pins := { s.pins with
  slowDrv := if hasHls s && domainOn s 32 then dacCode s 68 (bits (regN s 0xC00020) 31 16) else s.pins.slowDrv }

theorem tickStands_pins {L : Vector Slot 24} (h : scannerStands s) :
    hlsTick (tickShown { hlsForce s with lpe := { s.lpe with slot := L } } s.tsc) = { s with
      lpe := { s.lpe with
        slot := L
        shown := L
        lastTick := some s.tsc }
      hls := { s.hls with force := hlsOffsets.map (regN s) }
      pins := standingPins s } := by
  have hstands : scannerStands (tickShown { hlsForce s with lpe := { s.lpe with slot := L } } s.tsc) := h
  rw [hlsTick_stands hstands]
  unfold standingPins
  by_cases hc : (hasHls s && domainOn s 32) = true
  · rw [if_pos hc]
    exact if_pos hc
  · rw [if_neg hc]
    exact if_neg hc

/-- A tick of a Loop Engine that does not run only clears its slots. -/
theorem exec_loopTick_still (hl : Live s) (h0 : s.tsc % 250 = 0) (hn : s.lpe.lastTick ≠ some s.tsc) (hu : Unlooped s) (hs : scannerStands s) :
    ∃ t, exec (.loopTick l []) s = .next t ∧ t = { s with
      lpe := { s.lpe with slot := t.lpe.slot, shown := t.lpe.slot, lastTick := some s.tsc }
      hls := { s.hls with force := hlsOffsets.map (regN s) }
      pins := standingPins s } ∧ ∀ i, slotAt t i = slotFollows (loopSample s l) (slotAt s i) := by
  have hf := ticks_follow (u := hlsForce s) ⟨hu.active, hu.banks, hu.waits⟩ (loopSample s l)
  have hticked : slotsTicked s l [] = forN 24 (slotTick (loopSample s l)) (hlsForce s) := by
    show forN 24 (slotTick (loopSample s l)) (tickAim (hlsForce s)) = _
    rw [tickAim_stands (show scannerStands (hlsForce s) from hs)]
  rw [← hticked] at hf
  obtain ⟨⟨L, hframe⟩, hslots⟩ := hf
  have hend : loopTick s l [] = { s with
      lpe := { s.lpe with
        slot := L
        shown := L
        lastTick := some s.tsc }
      hls := { s.hls with force := hlsOffsets.map (regN s) }
      pins := standingPins s } := by
    rw [loopTick_eq h0 hn, hframe]
    exact tickStands_pins hs
  refine ⟨_, exec_unit_quiet (i := .loopTick l []) (f := fun s => loopTick s l []) rfl hl hend
    ⟨hl.reports, rfl, rfl, rfl, rfl, rearmed_same rfl, hl.waits⟩, rfl, fun i => ?_⟩
  have hi := hslots i
  rw [hframe] at hi
  refine (show slotAt _ i = _ from hi).trans ?_
  by_cases h24 : i < 24
  · exact if_pos h24
  · rw [if_neg h24]
    have hd : slotAt s i = {} := by
      unfold slotAt vget
      rw [List.getD_eq_getElem?_getD, List.getElem?_eq_none (by simpa using h24)]
      rfl
    show slotAt s i = _
    rw [hd]
    rfl

/-! ### The commands -/

theorem runHigh_lpeSwap {f : InFlight} (h : f.opcode = 0x0A01) (pl : List Byte) : runHigh s f pl = runLpeSwap s f.cmd.unit.toNat f.id pl := by
  simp [runHigh, h]

theorem runHigh_slotReset {f : InFlight} (h : f.opcode = 0x0A02) (pl : List Byte) : runHigh s f pl = runSlotReset s f.cmd.unit.toNat f.id := by
  simp [runHigh, h]

theorem leNat_zero {l : List Byte} (h : leNat l = 0) : ∀ b ∈ l, b = 0 := by
  induction l with
  | nil => simp
  | cons b l ih =>
    rw [leNat] at h
    intro c hc
    rcases List.mem_cons.mp hc with rfl | hc
    · exact BitVec.eq_of_toNat_eq (by simpa using (by omega : c.toNat = 0))
    · exact ih (by omega) c hc

theorem leNat_of_zero {l : List Byte} (h : ∀ b ∈ l, b = 0) : leNat l = 0 := by
  induction l with
  | nil => rfl
  | cons b l ih =>
    rw [leNat, h b List.mem_cons_self, ih (fun c hc => h c (List.mem_cons_of_mem _ hc))]
    rfl

/-- A field of bytes that are all 0 is 0. -/
theorem leAt_zero {p : List Byte} {i n j m : Nat} (h : leAt p i n = 0) (hj : i ≤ j) (hm : j + m ≤ i + n) : leAt p j m = 0 := by
  refine leNat_of_zero (fun b hb => leNat_zero h b ?_)
  rw [List.mem_iff_getElem?] at hb ⊢
  obtain ⟨q, hq⟩ := hb
  rw [List.getElem?_take, List.getElem?_drop] at hq
  by_cases hqm : q < m
  · rw [if_pos hqm] at hq
    refine ⟨j - i + q, ?_⟩
    rw [List.getElem?_take, List.getElem?_drop, if_pos (by omega), ← hq]
    congr 1
    omega
  · rw [if_neg hqm] at hq
    cases hq

/-- A swap with its limits. -/
theorem runLpeSwap_limits {p : List Byte} {mn mx id : Nat} (hb : leAt p 0 1 ≤ 1) (hf : leAt p 1 1 = 1) (hr : leAt p 2 2 = 0)
    (hmn : mn = leAt p 4 4) (hmx : mx = leAt p 8 4) (hlt : signed 32 mn < signed 32 mx) (hok : lpeRefused s i = false) :
    runLpeSwap s i id p = (modSlot s i (fun x => { x with swaps := x.swaps ++ [{
      id := id
      bankB := decide (leAt p 0 1 = 1)
      limits := some (signed 32 mn, signed 32 mx) }] }), .later) := by
  subst hmn hmx
  unfold runLpeSwap
  dsimp only
  rw [if_neg (by omega), hok, if_neg Bool.false_ne_true, if_pos hf]

/-- A swap that keeps its limits. -/
theorem swapChecks_plain {p : List Byte} (hb : leAt p 0 1 ≤ 1) (hz : leAt p 1 11 = 0) :
    ¬ (1 < leAt p 0 1 ∨ 1 < leAt p 1 1 ∨ leAt p 2 2 ≠ 0 ∨ (leAt p 1 1 = 0 ∧ (signed 32 (leAt p 4 4) ≠ 0 ∨ signed 32 (leAt p 8 4) ≠ 0)) ∨
      (leAt p 1 1 = 1 ∧ signed 32 (leAt p 8 4) ≤ signed 32 (leAt p 4 4))) := by
  have h1 : leAt p 1 1 = 0 := leAt_zero hz (by decide) (by decide)
  have h2 : leAt p 2 2 = 0 := leAt_zero hz (by decide) (by decide)
  have h4 : leAt p 4 4 = 0 := leAt_zero hz (by decide) (by decide)
  have h8 : leAt p 8 4 = 0 := leAt_zero hz (by decide) (by decide)
  have hs : signed 32 0 = 0 := by decide
  rw [h1, h2, h4, h8, hs]
  omega

theorem runLpeSwap_plain {p : List Byte} {id : Nat} (hb : leAt p 0 1 ≤ 1) (hz : leAt p 1 11 = 0) (hok : lpeRefused s i = false) :
    runLpeSwap s i id p = (modSlot s i (fun x => { x with swaps := x.swaps ++ [{
      id := id
      bankB := decide (leAt p 0 1 = 1)
      limits := none }] }), .later) := by
  have h1 : leAt p 1 1 = 0 := leAt_zero hz (by decide) (by decide)
  unfold runLpeSwap
  dsimp only
  rw [if_neg (swapChecks_plain hb hz), hok, if_neg Bool.false_ne_true, h1, if_neg (by decide)]

theorem runLpeSwap_refused {p : List Byte} {id : Nat} (hb : leAt p 0 1 ≤ 1) (hz : leAt p 1 11 = 0) (hno : lpeRefused s i = true) :
    runLpeSwap s i id p = (s, .now .badState []) := by
  unfold runLpeSwap
  dsimp only
  rw [if_neg (swapChecks_plain hb hz), if_pos hno]

theorem runLpeSwap_outside {p : List Byte} {id : Nat} (h : 1 < leAt p 0 1 ∨ 1 < leAt p 1 1 ∨ leAt p 2 2 ≠ 0) :
    runLpeSwap s i id p = (s, .now .outOfRange []) := if_pos (by omega)

end

section
variable {s : State} {i : Nat} {l : List Nat}

theorem slewStep_fb (x : Slot) (n : Nat) : (slewStep x n).fb = x.fb := by
  unfold slewStep
  dsimp only
  split
  · rfl
  · split
    · rfl
    · split <;> rfl

/-- Clamping keeps the limiter's output and the feedback. -/
theorem clampStep_input (x : Slot) (v e0 : Int) : (clampStep x v e0).r = x.r ∧ (clampStep x v e0).fb = x.fb := by
  unfold clampStep
  extract_lets c dir out clamped hold x1
  by_cases h : hold = true
  · rw [if_pos h]
    exact ⟨rfl, rfl⟩
  · rw [if_neg h]
    exact ⟨rfl, rfl⟩

theorem fields_of_timeless {y z : Slot} (h : timeless y = timeless z) :
    y.fb = z.fb ∧ y.r = z.r ∧ y.out = z.out ∧ y.eh = z.eh ∧ y.updated = z.updated :=
  ⟨(congrArg (·.fb) h :), (congrArg (·.r) h :), (congrArg (·.out) h :), (congrArg (·.eh) h :), (congrArg (·.updated) h :)⟩

theorem storeErr_of_form {y z : Slot} (h : slotForm y = slotForm z) : y.storeErr = z.storeErr := (congrArg (fun x : Slot => x.storeErr) h :)

theorem output_fields {x y : Slot} {f : Int} (h : timeless y = timeless (slotOutput x f)) (hf : x.fb = f) : y.fb = f ∧ y.r = x.r ∧
    y.out = (clampStep x (compensate x f).1 (compensate x f).2).out ∧ y.eh = (clampStep x (compensate x f).1 (compensate x f).2).eh ∧
    y.updated = true := by
  obtain ⟨hr, hb⟩ := clampStep_input x (compensate x f).1 (compensate x f).2
  obtain ⟨h1, h2, h3, h4, h5⟩ := fields_of_timeless h
  exact ⟨h1.trans (hb.trans hf), h2.trans hr, h3, h4, h5⟩

theorem TickLeft.shown_at {u t : State} (h : TickLeft u t) (i : Nat) : vget t.lpe.shown i {} = slotAt u i := by
  rw [h.shown]
  rfl

theorem tickShown_flight (u : State) (n : Nat) : (tickShown u n).hmi.inFlight = u.hmi.inFlight := rfl

theorem exec_loopTick_output {y : Int} {x : Slot} (hl : Live s) (h0 : s.tsc % 250 = 0) (hn : s.lpe.lastTick ≠ some s.tsc)
    (hi : i < 24) (hs : hlsSlot s 3 = some i) (hm : s.hls.mode = .starting ∨ s.hls.mode = .running) (ha : s.lpe.active = true)
    (he : (slotAt s i).storeErr = false) (hw : (slotAt s i).swaps = []) (hr : (slotAt s i).resets = [])
    (hy : y = (loopSample s l (slotAt s i).input * 65536 : Nat))
    (hx : x = slewStep { slotAt s i with idle := false, fb := y } (regN s (slotBase i + 0x20))) :
    ∃ t, exec (.loopTick l []) s = .next t ∧ (vget t.lpe.shown i {}).fb = y ∧ (vget t.lpe.shown i {}).r = x.r ∧
      (vget t.lpe.shown i {}).out = (clampStep x (compensate x y).1 (compensate x y).2).out ∧
      (vget t.lpe.shown i {}).eh = (clampStep x (compensate x y).1 (compensate x y).2).eh ∧
      (vget t.lpe.shown i {}).updated = true := by
  obtain ⟨-, hk⟩ := hlsSlot_kind hs
  have hidle : slotIdle s (slotAt s i) = false := by rcases hm with hm | hm <;> simp [slotIdle, scannerRuns, he, ha, hk, hm]
  have hnoise : Effects [] (tickNoise 24) s (slotsTicked s l []) := slotsTicked_effects (by exact ((Effects.refl _ s).units (by rfl)))
  obtain ⟨t, ht, -, hleft⟩ := exec_loopTick hl h0 hn hnoise (fun _ h => h)
  have hout := loopTick_output (l := l) hi hk hidle hw hr hy
  rw [← hx] at hout
  have hshown := hleft.shown_at i
  generalize slotAt (slotsTicked s l []) i = z at hout hshown
  refine ⟨t, ht, ?_⟩
  rw [hshown]
  exact output_fields hout (by rw [hx, slewStep_fb])

theorem exec_loopTick_stores (hl : Live s) (h0 : s.tsc % 250 = 0) (hn : s.lpe.lastTick ≠ some s.tsc) (hk : (slotAt s i).kind ≠ 0)
    (hr : (slotAt s i).resets = []) (hi : i < 24) :
    ∃ t, exec (.loopTick l [(i, .uncorrectable)]) s = .next t ∧ counted s t 0x83 ∧ (slotAt t i).storeErr = true ∧
      (vget t.lpe.shown i {}).idle = true ∧ (vget t.lpe.shown i {}).updated = false := by
  have hread := (storesRead_one hk).2
  have hnot : ¬ tickNoise 24 0x83 := tickNoise_not (by decide) (by unfold codeNoise; omega) (by decide)
  have he : Effects [0x83] (tickNoise 24) s (storesRead s [(i, .uncorrectable)]) := by
    rw [hread]
    have hu : Effects [] (tickNoise 24) s (modSlot (hlsForce s) i (fun x => { x with storeErr := true })) := ((Effects.refl _ s).units (by rfl))
    exact hu.report { source := 0x83, master := i }
  obtain ⟨t, ht, hd, hleft⟩ := exec_loopTick (l := l) hl h0 hn (slotsTicked_effects he) (fun _ h => h)
  have hown : slotAt (storesRead s [(i, .uncorrectable)]) i = { slotAt s i with storeErr := true } := by
    rw [hread]
    show slotAt (modSlot (hlsForce s) i _) i = _
    rw [slotAt_modSlot, if_pos ⟨rfl, hi⟩]
    rfl
  have hheld := slotsTicked_holds (l := l) hi (show Stored (slotAt (storesRead s [(i, .uncorrectable)]) i) by rw [hown]; exact ⟨rfl, hr, hk⟩)
  refine ⟨t, ht, hd.counted 0x83 (by decide) (by decide) hnot rfl, ?_, ?_⟩
  · exact (storeErr_of_form (hleft.forms i hi)).trans hheld.stored
  · rw [hleft.shown_at]
    exact ⟨hheld.idle, hheld.updated⟩

end

/-- Settles O45: each slot's turn touches its own slot and bank alone, and what follows the slots touches no result of theirs. -/
theorem loopTicksComputeSlots : Obligations.LoopTicksComputeSlots := by
  unfold Obligations.LoopTicksComputeSlots
  refine ⟨fun s l st hl h => ?undue, fun s l hl h0 hn ha hs hb hw => ?still, fun s l i hl h0 hn hi hk hidle hw hr hwin hlate ht => ?counts,
    fun s l i y x hl h0 hn hi hs hm ha he hw hr hy hx => ?output, fun s l st i w r hl h0 hn hi hw => ?swap,
    fun s l i hl h0 hn hi hk hr => ?uncorrectable, fun s l i hl h0 hn hi hk => ?corrected,
    fun s c i mn mx hs hc hb hf hr hmn hmx hlt hok => ?limits, fun s c i hs hc hb hz hok => ?plain,
    fun s c hs hb hz hno => ?refused, fun s c hs h => ?outside, fun s c i hs hc hok => ?reset, fun s c hs hno => ?resetRefused⟩
  case undue => exact exec_unit_same rfl hl (loopTick_undue h)
  case still =>
    obtain ⟨t, ht, he, hslots⟩ := exec_loopTick_still hl h0 hn ⟨ha, hb, hw⟩ hs
    exact ⟨t, ht, he, fun i _ => hslots i⟩
  case counts =>
    obtain ⟨t, htt, hd, -⟩ := exec_loopTick hl h0 hn (loopTick_counts (l := l) hi hk hidle hw hr hwin hlate ht) (fun _ h => h)
    exact ⟨t, htt, (hd.tallies _ (slotBase_big i 0x2C) (unitTally_slot i 0x2C) (fun h => h.2 rfl)).trans (by simp)⟩
  case output => exact exec_loopTick_output hl h0 hn hi hs hm ha he hw hr hy hx
  case swap =>
    have hd := slotsTicked_swaps (l := l) (st := st) hi hw
    obtain ⟨t, ht, hdone, hleft⟩ := exec_loopTick hl h0 hn hd.effects (k := 24) (fun _ _ => trivial)
    have htaken := hd.taken.form (hleft.forms i hi)
    refine ⟨t, ht, htaken.bank, htaken.swaps, htaken.resets, htaken.limits, fun f hf hid => ?_⟩
    exact hdone.ends.reacts.keeps.idle (by
      rw [loopTick_eq h0 hn]
      exact (hlsTick_effects 24 _).idle ((tickShown_flight _ _).trans (hd.flight f hf hid)))
  case uncorrectable => exact exec_loopTick_stores hl h0 hn hk hr hi
  case corrected =>
    have he : Effects [0x84] (tickNoise 24) s (storesRead s [(i, .corrected)]) := by
      rw [(storesRead_one hk).1]
      have hu : Effects [] (tickNoise 24) s (hlsForce s) := ((Effects.refl _ s).units (by rfl))
      exact hu.report { source := 0x84, master := i }
    obtain ⟨t, ht, hd, -⟩ := exec_loopTick (l := l) hl h0 hn (slotsTicked_effects he) (fun _ h => h)
    exact ⟨t, ht, hd.counted 0x84 (by decide) (by decide) (tickNoise_not (by decide) (by unfold codeNoise; omega) (by decide)) rfl⟩
  case limits =>
    subst hc
    refine exec_begins rfl hs ?_ (.refl _)
    rw [hs.high [] (by decide), runHigh_lpeSwap rfl]
    exact runLpeSwap_limits hb hf hr hmn hmx hlt hok
  case plain =>
    subst hc
    refine exec_begins rfl hs ?_ (.refl _)
    rw [hs.high [] (by decide), runHigh_lpeSwap rfl]
    exact runLpeSwap_plain hb hz hok
  case refused =>
    refine exec_replies (e := s) rfl hs ?_
    rw [hs.high [] (by decide), runHigh_lpeSwap rfl]
    exact runLpeSwap_refused hb hz hno
  case outside =>
    refine exec_replies (e := s) rfl hs ?_
    rw [hs.high [] (by decide), runHigh_lpeSwap rfl]
    exact runLpeSwap_outside h
  case reset =>
    subst hc
    refine exec_begins rfl hs ?_ (.refl _)
    rw [hs.high [] (by decide), runHigh_slotReset rfl]
    exact if_neg (show ¬ lpeRefused s c.unit.toNat = true by rw [hok]; decide)
  case resetRefused =>
    refine exec_replies (e := s) rfl hs ?_
    rw [hs.high [] (by decide), runHigh_slotReset rfl]
    exact if_pos hno

end Sys2Proof.Machine
end


section
/-! What the work of SWITCHED keeps at a start-up: the stage, the image, the activation, and the calibration run (R76, R523). -/

namespace Sys2Proof.Machine

/-- What the work of SWITCHED keeps. -/
def startRest (s : State) : Boot × Option ImageCfg × Option Activation × Option CalRun × List Instr :=
  (s.boot, s.img.cfg, s.img.act, s.cal.run, s.pending)

/-- A part of that work. -/
structure Starts (s r : State) : Prop where
  rest : startRest r = startRest s
  waits : noWait s → noWait r

section
variable {s r t : State}

theorem Starts.refl (s : State) : Starts s s := ⟨rfl, id⟩
theorem Starts.trans (h : Starts s r) (k : Starts r t) : Starts s t := ⟨k.rest.trans h.rest, k.waits ∘ h.waits⟩

theorem Starts.ite (c : Prop) [Decidable c] (h : Starts s r) (k : Starts s t) : Starts s (if c then r else t) := by split <;> assumption

theorem Starts.foldl {β : Type} {f : State → β → State} (h : ∀ s x, Starts s (f s x)) (l : List β) (s : State) : Starts s (l.foldl f s) :=
  List.foldlRecOn l f (motive := fun t => Starts s t) (.refl s) (fun t ht x _ => ht.trans (h t x))

theorem Starts.forN {f : State → Nat → State} (h : ∀ s x, Starts s (f s x)) (n : Nat) (s : State) : Starts s (Machine.forN n f s) :=
  .foldl h _ s

/-- The parts of two lists of five parts that agree. -/
theorem parts {α β γ δ ε : Type} {a a' : α} {b b' : β} {c c' : γ} {d d' : δ} {e e' : ε} (h : (a, b, c, d, e) = (a', b', c', d', e')) :
    a = a' ∧ b = b' ∧ c = c' ∧ d = d' ∧ e = e' := by simpa using h

/-- A step of the units alone. -/
theorem Starts.units (h : Starts s r)
    (e : (t.boot, t.img, t.cal.run, t.pending, t.hmi) = (r.boot, r.img, r.cal.run, r.pending, r.hmi)) : Starts s t where
  rest := by
    obtain ⟨hb, hi, hc, hp, -⟩ := parts e
    rw [← h.rest]
    unfold startRest
    rw [hb, hi, hc, hp]
  waits w := by
    obtain ⟨-, -, -, -, hm⟩ := parts e
    have := h.waits w
    unfold noWait at this ⊢
    rw [hm]
    exact this

theorem startRest_calm (x : State) : startRest x = startRest (calm x) := rfl

/-- A step of the host interface, which adds no command that waits. -/
theorem Starts.adds {E : Nat → Prop} {C : List Nat} (h : Starts s r) (ha : Adds C E r t) : Starts s t :=
  h.trans ⟨by rw [startRest_calm t, ha.calm, ← startRest_calm], ha.waits⟩

theorem Starts.complete (h : Starts s r) (id : Nat) (st : Status) (res : List Byte) : Starts s (Machine.complete r id st res) :=
  h.adds (complete_adds (E := exactly) r id st res)

theorem Starts.completeOpt (h : Starts s r) (id : Option Nat) (st : Status) (res : List Byte) : Starts s (Machine.completeOpt r id st res) :=
  h.adds (completeOpt_adds (E := exactly) r id st res)

theorem Starts.post (h : Starts s r) (c u : Nat) (p : List Byte) : Starts s (Machine.post r c u p) := h.adds (post_adds (E := exactly) r c u p)

theorem Starts.bump (h : Starts s r) (off : Nat) : Starts s (Machine.bump r off) :=
  h.trans ⟨by rw [startRest_calm (Machine.bump r off), calm_bump, ← startRest_calm], (bump_mild r off).noWait⟩

theorem Starts.report (h : Starts s r) (q : Report) : Starts s (Machine.report r q) := h.units (by rfl)

theorem Starts.emit (h : Starts s r) (o : Output) : Starts s (Machine.emit r o) := h.units (by rfl)

/-! ### Memory -/

theorem wrBytes_starts (s : State) (a : Nat) (l : List Byte) : Starts s (wrBytes s a l) := by
  obtain ⟨dr, bw, po, h⟩ := wrBytes_frame s a l
  rw [h]
  exact (Starts.refl s).units (by rfl)

theorem zeroRange_starts (s : State) (a n : Nat) : Starts s (zeroRange s a n) := (Starts.refl s).units rfl

/-! ### The units of the picture -/

theorem postRetire_starts (s : State) (l : Nat) (f : Surface) (g n : Nat) : Starts s (postRetire s l f g n) :=
  ((Starts.refl s).bump _).post _ _ _

theorem switchLayers_starts (s : State) : Starts s (switchLayers s) := by
  unfold switchLayers
  extract_lets s1 cmp
  have h1 : Starts s s1 := by
    refine .forN (fun s l => ?_) 16 s
    extract_lets x bufs cmp s'
    have h : Starts s s' := (Starts.refl s).units rfl
    clear_value s' bufs
    have hf (s : State) (b : Surface × Nat) : Starts s (postRetire s l b.1 b.2 s.frame) := postRetire_starts s l b.1 b.2 s.frame
    exact h.trans (.foldl hf bufs s')
  clear_value s1
  exact h1.units (by rfl)

theorem pbuSwitched_starts (s : State) (c : ImageCfg) : Starts s (pbuSwitched s c) := by
  unfold pbuSwitched
  extract_lets n pbu s2
  have h2 : Starts s s2 := (Starts.refl s).units rfl
  exact h2.trans (zeroRange_starts s2 _ _)

theorem fillCarry_starts (s : State) : Starts s (fillCarry s) := by
  unfold fillCarry
  extract_lets v clr s1
  have h1 : Starts s s1 := (Starts.refl s).units rfl
  clear_value s1
  exact .ite _ (h1.trans (.foldl (fun s y => (wrBytes_starts s _ _).trans (wrBytes_starts _ _ _)) _ _)) h1

theorem initRegions_starts (s : State) : Starts s (initRegions s) :=
  Starts.trans (.foldl (fun s _ => zeroRange_starts s _ _) _ s) (fillCarry_starts _)

theorem setReg_starts (s : State) (off v : Nat) : Starts s (setReg s off v) := (Starts.refl s).units rfl

theorem loadTables_starts (s : State) : Starts s (loadTables s) :=
  Starts.trans ((Starts.refl s).units (by rfl)) (.foldl (fun s b => setReg_starts s _ _) _ _)

theorem loadSchedule_starts (s : State) : Starts s (loadSchedule s) := ((Starts.refl s).completeOpt _ _ _).units (by rfl)

/-! ### Ports, banks, slots, the scanner, audio and verification -/

theorem modPort_starts (s : State) (p : Nat) (f : Port → Port) : Starts s (modPort s p f) := (Starts.refl s).units rfl

theorem blocksOff_starts (s : State) (p : Nat) : Starts s (blocksOff s p) := (Starts.refl s).units rfl

theorem enterPort_starts (s : State) (p : Nat) (m : PortMode) (c : Nat) : Starts s (enterPort s p m c) := by
  unfold enterPort
  exact .ite _ (modPort_starts s p _) (((modPort_starts s p _).post _ _ _).adds (signal_adds (E := exactly) _ _))

theorem enterSync_starts (s : State) (p c : Nat) (full : Bool) : Starts s (enterSync s p c full) := by
  have h := ((blocksOff_starts s p).trans (modPort_starts _ p (fun x => { x with
    sentAt := s.tsc, attempts := 0, trainTries := 0, corrected := false, halfWidth := false, excluded := none, fullOnly := full,
    holdReady := false, unparking := false, delivering := false, parkAt := none, thenTrain := false, version := 0, lanes := 0,
    half := 0, reversed := false, inverted := 0, locked := 0, statusWait := false, statusMiss := 0 }))).trans (enterPort_starts _ p .sync c)
  exact .ite _ (h.bump _) h

theorem trainPorts_starts (s : State) : Starts s (trainPorts s) :=
  .forN (fun s p => by
    have h := ((modPort_starts s p (fun y => { y with
      unparkId := none, retrainId := none, parkId := none, statusId := none })).completeOpt (port s p).parkId .badState []).completeOpt
        (port s p).statusId .badState []
    exact .ite _ (h.trans (enterSync_starts _ p 0 false)) (.ite _ h
      (((h.trans (blocksOff_starts _ p)).trans (modPort_starts _ p _)).trans (enterPort_starts _ p .disabled 0)))) 6 s

theorem modBank_starts (s : State) (b : Nat) (f : Bank → Bank) : Starts s (modBank s b f) := (Starts.refl s).units rfl

theorem bankLeave_starts (s : State) (b : Nat) : Starts s (bankLeave s b) := by
  obtain ⟨π, u, L, o, h, -⟩ := bankLeave_units s b
  rw [h]
  exact (Starts.refl s).units (by rfl)

theorem setBank_starts (s : State) (b : Nat) (m : BankMode) (c : Nat) : Starts s (setBank s b m c) := by
  unfold setBank
  extract_lets s0 s1
  have h1 : Starts s s1 := .ite _ ((Starts.refl s).units (by rfl)) (modBank_starts s b _)
  clear_value s1
  exact Starts.post (.ite _ (h1.trans (bankLeave_starts s1 b)) h1) _ _ _

theorem beginLink_starts (s : State) (b : Nat) : Starts s (beginLink s b) := (modBank_starts s b _).emit _

theorem restartDone_starts (s : State) (b : Nat) (st : Status) : Starts s (restartDone s b st) := by
  unfold restartDone
  split
  · exact .refl s
  · exact Starts.complete ((Starts.refl s).units (by rfl)) _ _ _

theorem leaveSafe_starts (was : Bool) (s : State) : Starts s (leaveSafe was s) := by
  unfold leaveSafe
  extract_lets lsd s1 hls
  have h1 : Starts s s1 := .ite _ (Starts.post ((Starts.refl s).units (by rfl)) _ _ _) (.refl s)
  clear_value s1
  exact .ite _ (.refl s) (.ite _ (h1.units (by rfl)) h1)

theorem completes_starts (s : State) (l : List Nat) (st : Status) : Starts s (l.foldl (fun s id => complete s id st []) s) :=
  .foldl (fun s id => (Starts.refl s).complete id st []) l s

/-- One bank at the start of SWITCHED. -/
theorem bankSwitched_starts (s : State) (b prim : Nat) (kept : Bool) : Starts s (
    if bankEnabled s b then
      let s1 := if kept then s else fillTable 0 (modBank s b (fun x => { x with prim := prim })) b
      if (bankAt s b).mode == .short || (bankAt s b).mode == .linkFailed then s1
      else if (bankAt s b).mode == .safe || (bankAt s b).mode == .opened then beginLink s1 b
      else beginLink (setBank s1 b .starting 1) b
    else
      let s1 := modBank s b (fun x => { x with linkRun := false, linking := false, version := 0 })
      restartDone (if (bankAt s b).mode == .disabled then s1 else setBank s1 b .disabled 1) b .badState) := by
  have h1 : Starts s (if kept then s else fillTable 0 (modBank s b (fun x => { x with prim := prim })) b) :=
    .ite _ (.refl s) ((modBank_starts s b _).trans (modBank_starts _ b _))
  have h2 : Starts s (modBank s b (fun x => { x with linkRun := false, linking := false, version := 0 })) := modBank_starts s b _
  exact .ite _ (.ite _ h1 (.ite _ (h1.trans (beginLink_starts _ b)) ((h1.trans (setBank_starts _ b .starting 1)).trans (beginLink_starts _ b))))
    (Starts.trans (.ite _ h2 (h2.trans (setBank_starts _ b .disabled 1))) (restartDone_starts _ b .badState))

theorem lsdSwitched_starts (s : State) : Starts s (lsdSwitched s) := by
  unfold lsdSwitched
  extract_lets keep clr lsd cal s1 lsd' s1' s2 s3 lsd''
  have h1 : Starts s s1 := (Starts.refl s).units rfl
  have h1' : Starts s s1' := Starts.trans (h1.units (by rfl)) (completes_starts _ _ _)
  have h2 : Starts s s2 := h1'.trans (.forN (fun s b => bankSwitched_starts s b _ _) 12 s1')
  exact (h2.trans (leaveSafe_starts _ s2)).units (by rfl)

theorem lpeSwitched_starts (s : State) : Starts s (lpeSwitched s) := by
  unfold lpeSwitched
  extract_lets ids load lpe s1 s2
  have h1 : Starts s s1 := (Starts.refl s).units rfl
  have h2 : Starts s s2 := h1.trans (.forN (fun s i => setReg_starts s _ _) 24 s1)
  exact h2.trans (completes_starts s2 ids .badState)

theorem parkEnd_starts (s : State) : Starts s (parkEnd s) := by
  obtain ⟨L, d, h⟩ := parkEnd_calm s
  refine ⟨?_, (parkEnd_effects exactly s).waits⟩
  rw [startRest_calm, h]
  rfl

theorem hlsSwitched_starts (s : State) : Starts s (hlsSwitched s) := by
  unfold hlsSwitched
  extract_lets s1 hls s2 s3 hls'
  have h1 : Starts s s1 := zeroRange_starts s _ _
  have h2 : Starts s s2 := h1.units (by rfl)
  have h3 : Starts s s3 := .ite _ (h2.trans (parkEnd_starts s2)) h2
  clear_value s2 s3
  exact .ite _ h2 (.ite _ h2 (Starts.post (h3.units (by rfl)) _ _ _))

theorem audStopAll_starts (s : State) (st : Status) : Starts s (audStopAll s st) :=
  .forN (fun s p => Starts.completeOpt (Starts.trans ((Starts.refl s).units (by rfl)) (.foldl (fun s id => (Starts.refl s).complete id .ok []) _ _)) _ _ _) 5 s

theorem audSwitched_starts (s : State) : Starts s (audSwitched s) := by
  unfold audSwitched
  extract_lets s1 s2 aud
  have h1 : Starts s s1 := audStopAll_starts s .badState
  have h2 : Starts s s2 := h1.trans (.forN (fun s p => Starts.trans ((Starts.refl s).units (by rfl)) (setReg_starts _ _ _)) 5 s1)
  clear_value s2
  exact h2.units (by rfl)

theorem modRegion_starts (s : State) (o r : Nat) (f : Region → Region) : Starts s (modRegion s o r f) := by
  unfold modRegion
  exact (Starts.refl s).units (by rfl)

theorem verSwitched_starts (s : State) : Starts s (verSwitched s) := by
  unfold verSwitched
  extract_lets s1 ver
  have h1 : Starts s s1 := .forN (fun s i => setReg_starts s _ _) 112 s
  clear_value s1
  have h2 : Starts s { s1 with ver := { ver with mismatch := 0, withheld := 0 } } := h1.units (by rfl)
  exact h2.trans (.forN (fun s i => modRegion_starts s _ _ _) 112 _)

/-! ### The whole work -/

/-- What the work of SWITCHED leaves: the image is the one switched to. -/
theorem switchWork_starts (s : State) (c : Option ImageCfg) (keepOld : Bool) :
    Starts { s with img := { s.img with cfg := c } } (switchWork s c keepOld) := by
  unfold switchWork
  extract_lets img0 s1 flt img s2 s3
  have h1 : Starts s s1 := switchLayers_starts s
  have h2 : Starts { s with img := { s.img with cfg := c } } s2 := by
    clear_value s1
    refine ⟨?_, fun w => h1.waits w⟩
    exact congrArg (fun x : Boot × Option ImageCfg × Option Activation × Option CalRun × List Instr => (x.1, c, x.2.2)) h1.rest
  have h3 : Starts { s with img := { s.img with cfg := c } } s3 :=
    (((h2.trans (pbuSwitched_starts s2 _)).trans (initRegions_starts _)).trans (loadTables_starts _)).trans (loadSchedule_starts _)
  exact (((((h3.trans (trainPorts_starts s3)).trans (lsdSwitched_starts _)).trans (lpeSwitched_starts _)).trans
    (hlsSwitched_starts _)).trans (audSwitched_starts _)).trans (verSwitched_starts _)

end
end Sys2Proof.Machine
end


section
/-! The stages of a start-up that load an image (R83 to R85, R457 to R460, R523). -/

namespace Sys2Proof.Machine

section
variable {s r t : State}

/-! ### The load -/

/-- What the beginning of the load leaves. -/
structure LoadBegun (s r : State) : Prop where
  stage : r.boot.stage = if s.img.cfg.isSome then 8 else 9
  image : r.img.cfg = s.img.cfg
  act : r.img.act = s.img.act
  run : r.cal.run = s.cal.run
  pending : r.pending = s.pending
  waits : noWait s → noWait r

theorem Starts.boot (h : Starts s r) : r.boot = s.boot := congrArg (·.1) h.rest
theorem Starts.image (h : Starts s r) : r.img.cfg = s.img.cfg := congrArg (·.2.1) h.rest
theorem Starts.act (h : Starts s r) : r.img.act = s.img.act := congrArg (·.2.2.1) h.rest
theorem Starts.run (h : Starts s r) : r.cal.run = s.cal.run := congrArg (·.2.2.2.1) h.rest
theorem Starts.pending (h : Starts s r) : r.pending = s.pending := congrArg (·.2.2.2.2) h.rest

theorem enterLoad_begun (s : State) : LoadBegun s (enterLoad s) := by
  unfold enterLoad
  cases hc : s.img.cfg with
  | some c =>
    have h := switchWork_starts (setStage s 8) (some c) false
    dsimp only
    exact ⟨by rw [h.boot, hc]; rfl, by rw [h.image, hc], h.act, h.run, h.pending, h.waits⟩
  | none =>
    dsimp only
    unfold enterRunning
    dsimp only
    rw [hc]
    exact ⟨by rw [hc]; rfl, rfl, rfl, rfl, rfl, id⟩

/-! ### The calibration run of a start-up -/

/-- No calibration run is under way. -/
def unrun (s : State) : State := { s with cal := { s.cal with run := none } }

theorem modCal_starts (s : State) (n : Nat) (f : CalCh → CalCh) : Starts s (modCal s n f) := (Starts.refl s).units rfl

theorem calFail_starts (s : State) (n k : Nat) : Starts s (calFail s n k) := (modCal_starts s n _).bump _

theorem calRetarget_starts (s : State) (n g : Nat) (o : Int) : Starts s (calRetarget s n g o) := (Starts.refl s).units rfl

theorem calJudge_starts (meas : List CalMeas) (ok : Bool) (a : State × List Nat) (n : Nat) : Starts a.1 (calJudge meas ok a n).1 := by
  have hfail (x : State) : Starts x (report (calFail x n 2) { source := 0xC4, address := n }) := (calFail_starts x n 2).report _
  unfold calJudge
  dsimp only
  split
  · exact hfail a.1
  · split
    · exact hfail a.1
    · next g o res _ =>
      have h1 := modCal_starts a.1 n (fun c => { c with mGain := g, mOff := o, resid := res })
      split
      · exact (h1.trans (calRetarget_starts _ n g o)).trans (modCal_starts _ n _)
      · exact h1.trans (hfail _)

theorem calRunDone_starts (s : State) (v : Nat) (meas : List CalMeas) : Starts (unrun s) (calRunDone s v meas) := by
  unfold calRunDone
  cases hr : s.cal.run with
  | none =>
    have h : unrun s = s := by
      unfold unrun
      rw [← hr]
    rw [h]
    exact .refl s
  | some r =>
    obtain ⟨th, hth⟩ := calSuspend_frame s r.chans false
    dsimp only
    rw [hth]
    have h1 : Starts (unrun s) { s with thm := th, cal := { s.cal with
        run := none, vrefBad := decide (v < 2450000 ∨ 2550000 < v), vrefUv := v } } := (Starts.refl (unrun s)).units rfl
    generalize ({ s with thm := th, cal := { s.cal with
        run := none, vrefBad := decide (v < 2450000 ∨ 2550000 < v), vrefUv := v } } : State) = s1 at h1
    have h2 : Starts (unrun s) (if decide (v < 2450000 ∨ 2550000 < v) = true then
        (report (r.chans.foldl (fun s n => calFail s n 3) s1) { source := 0xC3 }, [])
      else (calOrder r.chans).foldl (fun a n => calJudge meas (!r.chans.contains 72 || a.2.contains 72) a n) (s1, ([] : List Nat))).1 := by
      split
      · exact h1.trans (Starts.report (.foldl (fun s n => calFail_starts s n 3) _ s1) _)
      · exact List.foldlRecOn (calOrder r.chans) _ (motive := fun a : State × List Nat => Starts (unrun s) a.1) h1
          (fun a ha n _ => ha.trans (calJudge_starts meas _ a n))
    exact ((h2.bump _).post _ _ _).completeOpt _ _ _

theorem calLoad_starts (s : State) : Starts (unrun s) (calLoad s) := by
  unfold calLoad
  extract_lets va vb sa sb useB any recs start cal s1
  have h1 : Starts (unrun s) s1 := (Starts.refl (unrun s)).units rfl
  clear_value s1
  exact .ite _ (h1.report _) (.ite _ h1 (h1.report _))

theorem calStart_starts (s : State) (id : Option Nat) (l : List Nat) : Starts (unrun s) (unrun (calStart s id l)) := by
  unfold calStart
  obtain ⟨th, hth⟩ := calSuspend_frame { s with cal := { s.cal with run := some { cmdId := id, chans := l } } } l true
  rw [hth]
  exact (Starts.refl (unrun s)).units (by rfl)

/-- Stage 7: the snapshot is loaded and its run judged. -/
theorem stageCal_begun (s : State) (r : StageResult) : LoadBegun (unrun s) (stageCal s r) := by
  unfold stageCal
  extract_lets s1 s2 failed
  have h1 : Starts (unrun s) (unrun s1) := by
    have h := calLoad_starts s
    exact ⟨by
      unfold startRest unrun
      rw [h.boot, h.image, h.act, h.pending]
      rfl, h.waits⟩
  have h2 : Starts (unrun s) s2 := (h1.trans (calStart_starts s1 none _)).trans (calRunDone_starts _ _ _)
  have hg (x : State) (m : Nat) (on : Bool) : (gather x m on).img = x.img ∧ (gather x m on).cal = x.cal ∧ (gather x m on).pending = x.pending ∧
      (gather x m on).hmi = x.hmi := by
    unfold gather
    split <;> exact ⟨rfl, rfl, rfl, rfl⟩
  obtain ⟨hi, hc, hp, hm⟩ := hg s2 (2 ^ 14) failed
  obtain ⟨hi', hc', hp', hm'⟩ := hg (gather s2 (2 ^ 14) failed) (2 ^ 15) (s1.cal.source == 0)
  have hb := enterLoad_begun (gather (gather s2 (2 ^ 14) failed) (2 ^ 15) (s1.cal.source == 0))
  refine ⟨?_, ?_, ?_, ?_, ?_, fun w => hb.waits ?_⟩
  · rw [hb.stage, hi', hi, h2.image]
  · rw [hb.image, hi', hi, h2.image]
  · rw [hb.act, hi', hi, h2.act]
  · rw [hb.run, hc', hc, h2.run]
  · rw [hb.pending, hp', hp, h2.pending]
  · unfold noWait
    rw [hm', hm]
    exact h2.waits w

/-! ### The image is selected -/

/-- What the selection of an image keeps. -/
structure Chooses (s r : State) : Prop where
  stage : r.boot.stage = s.boot.stage
  kind : r.boot.kind = s.boot.kind
  act : r.img.act = s.img.act
  pending : r.pending = s.pending
  hmi : r.hmi = s.hmi

theorem Chooses.refl (s : State) : Chooses s s := ⟨rfl, rfl, rfl, rfl, rfl⟩

theorem Chooses.trans (h : Chooses s r) (k : Chooses r t) : Chooses s t :=
  ⟨k.stage.trans h.stage, k.kind.trans h.kind, k.act.trans h.act, k.pending.trans h.pending, k.hmi.trans h.hmi⟩

/-- A step of the image unit and of what a start-up gathers. -/
theorem Chooses.units (h : Chooses s r) (e : (t.boot.stage, t.boot.kind, t.img.act, t.pending, t.hmi) =
    (r.boot.stage, r.boot.kind, r.img.act, r.pending, r.hmi)) : Chooses s t := by
  obtain ⟨hs, hk, ha, hp, hm⟩ := parts e
  exact h.trans ⟨hs, hk, ha, hp, hm⟩

theorem loadSlots_chooses (s : State) : Chooses s (loadSlots s) :=
  List.foldlRecOn _ _ (motive := fun x => Chooses s x) (.refl s) (fun x hx k _ => by
    dsimp only
    split
    · exact hx
    · obtain ⟨dr, bw, po, h⟩ := wrBytes_frame (zeroRange x (slotDram x k) 0x1000000) (slotDram x k) (vget x.img.flash k [])
      rw [h]
      exact hx.units (by rfl))

theorem writeRecord_chooses (s : State) (st : ImgState) (c : Nat) (a : Bool) : Chooses s (writeRecord s st c a) := (Chooses.refl s).units rfl

theorem selectRoles_chooses (s : State) : Chooses s (selectRoles s) := by
  unfold selectRoles
  split
  · exact (Chooses.refl s).units (by rfl)
  · next j hj =>
    extract_lets fseq img s1 img'
    have h1 : Chooses s s1 := (Chooses.refl s).units rfl
    clear_value s1
    split
    · exact h1.units (by rfl)
    · exact Chooses.trans (h1.units (by rfl)) (writeRecord_chooses _ _ _ _)

theorem noteFail_chooses (s : State) (f : Option CheckFail) : Chooses s (noteFail s f) := by
  unfold noteFail
  split
  · exact (Chooses.refl s).units (by rfl)
  · exact (Chooses.refl s).units (by rfl)

/-- No activation goes on at a start-up. -/
def unacted (s : State) : State := { s with img := { s.img with act := none } }

theorem selectImage_chooses (s : State) : Chooses (unacted s) (selectImage s) := by
  unfold selectImage
  extract_lets img1 s1 img2 s2 r
  have h1 : Chooses (unacted s) s1 := (((Chooses.refl (unacted s)).units (by rfl)).trans (loadSlots_chooses _)).trans (selectRoles_chooses _)
  clear_value s1
  have h2 : Chooses (unacted s) s2 := h1.units (by rfl)
  clear_value s2
  split
  · exact h2.units (by rfl)
  · split
    · exact (h2.trans (noteFail_chooses s2 none)).units (by rfl)
    · next f hf =>
      extract_lets s3
      have h3 : Chooses (unacted s) s3 := (h2.trans (noteFail_chooses s2 (some f))).units (by rfl)
      clear_value s3
      split
      · exact Chooses.trans (h3.units (by rfl)) (writeRecord_chooses _ _ _ _)
      · next g hg =>
        have h4 : Chooses (unacted s) (if r.previous < 3 then noteFail s3 (some g) else s3) := by
          split
          · exact h3.trans (noteFail_chooses s3 (some g))
          · exact h3
        exact h4.units (by rfl)

theorem stageImage_warm (h : warmStart s = true) : stageImage s = enterLoad (selectImage s) := if_pos h

theorem stageImage_cold (h : warmStart s = false) : stageImage s = setStage (selectImage s) 7 := if_neg (by rw [h]; decide)

end
end Sys2Proof.Machine
end


section
/-! The stages of a start-up that train, test and load (R307, R335, R432, R523). -/

namespace Sys2Proof.Machine

section
variable {s r t x : State} {C : List Nat} {E : Nat → Prop} {c q n : Nat}

theorem startRest_of_calm {a b : State} (h : calm a = calm b) : startRest a = startRest b := by rw [startRest_calm a, h, ← startRest_calm]

/-! ### Stage 3 -/

theorem modChan_starts (s : State) (c : Nat) (f : Chan → Chan) : Starts s (modChan s c f) := (Starts.refl s).units rfl

/-- A step of one channel leaves the others. -/
structure StepsChan (c : Nat) (s x : State) : Prop where
  starts : Starts s x
  others : ∀ q, q ≠ c → chan x q = chan s q

theorem StepsChan.mod (h : StepsChan c s x) (f : Chan → Chan) : StepsChan c s (modChan x c f) where
  starts := h.starts.trans (modChan_starts x c f)
  others q hq := (chan_modChan_ne hq f).trans (h.others q hq)

theorem StepsChan.adds (h : StepsChan c s x) (ha : Adds C E x r) : StepsChan c s r where
  starts := h.starts.adds ha
  others q hq := (calm_eq (fun y => chan y q) ha.calm :).trans (h.others q hq)

theorem StepsChan.refl (c : Nat) (s : State) : StepsChan c s s := ⟨.refl s, fun _ _ => rfl⟩

theorem periodicStep_steps (s : State) (c : Nat) (res : StepResult) : StepsChan c s (periodicStep s c res) := by
  by_cases hf : stepFails s c res = true
  · obtain ⟨e, he⟩ := noteStep_adds s c res
    have hecc : StepsChan c s (eccNoted s e) := ⟨(Starts.refl s).units (by rfl), fun _ _ => rfl⟩
    exact (((hecc.mod _).mod _).mod _).adds (periodicStep_fails hf he)
  · exact (((StepsChan.refl c s).mod _).mod _).adds (periodicStep_clean (by simpa using hf))

/-- A channel that is trained in full at this start. -/
def trainsCold (s : State) (c : Nat) : Bool := !warmStart s || bitAt s.boot.warmOff (c / 2)

/-- One channel at stage 3. -/
def chanStart (s0 : State) (res : StageResult) (s : State) (c : Nat) : State :=
  if trainsCold s0 c then modChan s c (fun x => { x with mode := if bitAt res.failedChannels c then .failed else .ok })
  else
    match res.steps.find? (fun e => e.1 == c) with
    | some e => periodicStep s c e.2
    | none => s

/-- The channels that failed. -/
def failedCold (s : State) (res : StageResult) : List Nat :=
  (List.range 16).filter (fun c => trainsCold s c && bitAt res.failedChannels c)

/-- The channels have been trained, and their failures reported. -/
def chansStarted (s : State) (res : StageResult) : State :=
  (failedCold s res).foldl (fun s c => report s { source := 0x24, master := c })
    { forN 16 (chanStart s res) s with mem := { (forN 16 (chanStart s res) s).mem with ready := true, afterReset := 0 } }

theorem stageDram_eq (s : State) (res : StageResult) : stageDram s res = setStage
    (if (failedCold s res).isEmpty then gather (chansStarted s res) (2 ^ 12) (!(failedCold s res).isEmpty)
      else { gather (chansStarted s res) (2 ^ 12) (!(failedCold s res).isEmpty) with
        boot := { (gather (chansStarted s res) (2 ^ 12) (!(failedCold s res).isEmpty)).boot with noImage := true } })
    (if warmStart s then 5 else 4) := by
  unfold stageDram chansStarted failedCold
  generalize 16 = k
  rfl

theorem chanStart_steps (s0 : State) (res : StageResult) (s : State) (c : Nat) : StepsChan c s (chanStart s0 res s c) := by
  unfold chanStart
  split
  · exact (StepsChan.refl c s).mod _
  · split
    · exact periodicStep_steps s c _
    · exact .refl c s

theorem chanStart_cold {s0 : State} {res : StageResult} (hc : c < 16) (h : trainsCold s0 c = true) :
    (chan (chanStart s0 res s c) c).mode = if bitAt res.failedChannels c then .failed else .ok := by
  unfold chanStart
  rw [if_pos h, chan_modChan_same hc]

/-- The channels after their training. -/
structure ChansTrained (s : State) (res : StageResult) (x : State) : Prop where
  starts : Starts s x
  modes : ∀ c, c < 16 → trainsCold s c = true → (chan x c).mode = if bitAt res.failedChannels c then .failed else .ok

theorem forN_chanStart (s : State) (res : StageResult) : ChansTrained s res (forN 16 (chanStart s res) s) := by
  have h := forN_inv (I := fun n x => Starts s x ∧ ∀ c, c < n → trainsCold s c = true →
      (chan x c).mode = if bitAt res.failedChannels c then .failed else .ok) (f := chanStart s res) (N := 16) (s := s)
    ⟨.refl s, fun c hc => by omega⟩ (fun n x hn hx => by
      obtain ⟨hs, hm⟩ := hx
      have hstep := chanStart_steps s res x n
      refine ⟨hs.trans hstep.starts, fun c hc hcold => ?_⟩
      by_cases hcn : c = n
      · rw [hcn] at hcold ⊢
        exact chanStart_cold hn hcold
      · rw [hstep.others c hcn]
        exact hm c (by omega) hcold)
  exact ⟨h.1, h.2⟩

/-- The stage that follows is entered. -/
structure Enters (s r : State) (n : Nat) : Prop where
  stage : r.boot.stage = n
  act : r.img.act = s.img.act
  pending : r.pending = s.pending
  waits : noWait s → noWait r

theorem Starts.enters (h : Starts s x) (hn : r.boot.stage = n) (hi : r.img = x.img) (hp : r.pending = x.pending)
    (hm : r.hmi = x.hmi) : Enters s r n where
  stage := hn
  act := (congrArg Img.act hi).trans h.act
  pending := hp.trans h.pending
  waits w := by
    have := h.waits w
    unfold noWait at this ⊢
    rw [hm]
    exact this

theorem foldl_report_units (l : List Nat) (f : Nat → Report) (s : State) :
    l.foldl (fun s c => report s (f c)) s = { s with reports := s.reports ++ l.map f } := by
  induction l generalizing s with
  | nil => simp
  | cons c l ih =>
    rw [List.foldl_cons, ih]
    simp [report]

/-- The report of a channel that fails at a start-up. -/
def chanFailure (c : Nat) : Report := { source := 0x24, master := c }

theorem chansStarted_eq (s : State) (res : StageResult) : chansStarted s res = { forN 16 (chanStart s res) s with
    mem := { (forN 16 (chanStart s res) s).mem with ready := true, afterReset := 0 }
    reports := (forN 16 (chanStart s res) s).reports ++ (failedCold s res).map chanFailure } :=
  foldl_report_units (failedCold s res) chanFailure _

/-- What stage 3 leaves. -/
structure DramStarted (s : State) (res : StageResult) (r : State) : Prop where
  enters : Enters s r (if warmStart s then 5 else 4)
  ready : r.mem.ready = true
  modes : ∀ c, c < 16 → trainsCold s c = true → (chan r c).mode = if bitAt res.failedChannels c then .failed else .ok
  failures : ∀ c ∈ failedCold s res, chanFailure c ∈ r.reports
  noImage : failedCold s res ≠ [] → r.boot.noImage = true

theorem gather_units (x : State) (m : Nat) (on : Bool) : ∃ g, gather x m on = { x with boot := { x.boot with gather := g } } := by
  unfold gather
  split <;> exact ⟨_, rfl⟩

theorem stageDram_started (s : State) (res : StageResult) : DramStarted s res (stageDram s res) := by
  obtain ⟨hs, hm⟩ := forN_chanStart s res
  rw [stageDram_eq, chansStarted_eq]
  generalize forN 16 (chanStart s res) s = x at *
  obtain ⟨g, hg⟩ := gather_units { x with
    mem := { x.mem with ready := true, afterReset := 0 }
    reports := x.reports ++ (failedCold s res).map chanFailure } (2 ^ 12) (!(failedCold s res).isEmpty)
  rw [hg]
  split
  · next he => exact ⟨hs.enters rfl rfl rfl rfl, rfl, hm, fun c hc => List.mem_append_right _ (List.mem_map_of_mem hc), fun h => absurd (by simpa using he) h⟩
  · exact ⟨hs.enters rfl rfl rfl rfl, rfl, hm, fun c hc => List.mem_append_right _ (List.mem_map_of_mem hc), fun _ => rfl⟩

/-! ### Stage 5 -/

theorem pinShort_starts (s : State) (b a : Nat) : Starts s (pinShort s b a) := by
  refine Starts.report (Starts.trans ?_ (restartDone_starts _ b .checkFail)) _
  exact .ite _ (.refl s) (setBank_starts s b .short 6)

theorem safeForced_starts (s : State) : Starts s (safeForced s) := .ite _ (.refl s) ((Starts.refl s).units (by rfl))

theorem pinStep_starts (shorts : List (Nat × Nat)) (bad m : Nat) (s : State) (b : Nat) : Starts s (pinStep shorts bad m s b) :=
  .ite _ (pinShort_starts s b _) (.ite _ ((setBank_starts s b .safe 11).trans (safeForced_starts _)) (.refl s))

theorem pinTest_starts (s : State) (m : Nat) (found : List (Nat × Nat)) : Starts s (pinTest s m found).1 := by
  rw [pinTest_eq]
  exact (Starts.forN (fun s b => .ite _ (modBank_starts s b _) (.refl s)) 12 s).trans (.forN (fun s b => pinStep_starts _ _ _ s b) 12 _)

theorem testBit_foldl_or (l : List Nat) (m q : Nat) :
    (l.foldl (fun m b => m ||| 2 ^ b) m).testBit q = (m.testBit q || decide (q ∈ l)) := by
  induction l generalizing m with
  | nil => simp
  | cons b l ih =>
    rw [List.foldl_cons, ih, Nat.testBit_or, Nat.testBit_two_pow]
    by_cases h : b = q
    · simp [h]
    · simp [h, Ne.symm h]

theorem bitAt_badBanks (shorts : List (Nat × Nat)) {b k : Nat} (h : (b, k) ∈ shorts) : bitAt (badBanks shorts) b = true := by
  unfold bitAt badBanks
  rw [testBit_foldl_or]
  simp only [Nat.zero_testBit, Bool.false_or, decide_eq_true_eq, List.mem_map]
  exact ⟨(b, k), h, rfl⟩

/-- The banks below `n` with a short have been found so. -/
structure ShortsFound (bad n : Nat) (s x : State) : Prop where
  effects : ∃ C, Effects C lightNoise s x ∧ ∀ b, b < n → bitAt bad b = true → 0x73 ∈ C
  banks : ∀ b, b < n → bitAt bad b = true → (bankAt x b).mode = .short

theorem ShortsFound.step {shorts : List (Nat × Nat)} {bad m n : Nat} (hn : n < 12) (h : ShortsFound bad n s x) :
    ShortsFound bad (n + 1) s (pinStep shorts bad m x n) := by
  obtain ⟨C, hC, htold⟩ := h.effects
  have hlow (b : Nat) (hb : b < n + 1) (hne : b ≠ n) (hbad : bitAt bad b = true) : (bankAt (pinStep shorts bad m x n) b).mode = .short := by
    rw [bankAt_pinStep_ne hne]
    exact h.banks b (by omega) hbad
  by_cases hbad : bitAt bad n = true
  · refine ⟨⟨C ++ [0x73], ?_, fun _ _ _ => by simp⟩, fun b hb hbb => ?_⟩
    · rw [pinStep_bad hbad]
      exact hC.trans (pinShort_effects _ _ _)
    · by_cases hbn : b = n
      · rw [hbn, pinStep_bad hbad]
        exact (bankAt_pinShort_same hn _).1
      · exact hlow b hb hbn hbb
  · have hgood : bitAt bad n = false := by simpa using hbad
    have hne (b : Nat) (hbb : bitAt bad b = true) : b ≠ n := fun hbn => hbad (hbn ▸ hbb)
    exact ⟨⟨C, hC.quiet (pinGood_effects hgood), fun b hb hbb => htold b (by have := hne b hbb; omega) hbb⟩,
      fun b hb hbb => hlow b hb (hne b hbb) hbb⟩

/-- The pin test finds every short of a present bank. -/
theorem pinTest_shorts (s : State) (m : Nat) (found : List (Nat × Nat)) :
    ShortsFound (badBanks (realShorts s found)) 12 s (pinTest s m found).1 := by
  have h1 : Effects [] lightNoise s (forMask 12 m (fun s b => modBank s b unlinked) s) := .forMask (fun s b => modBank_effects s b _) 12 m s
  rw [pinTest_eq]
  exact forN_inv (I := fun n x => ShortsFound (badBanks (realShorts s found)) n s x) ⟨⟨[], h1, fun b hb => by omega⟩, fun b hb => by omega⟩
    (fun n x hn hx => hx.step hn)

theorem found_bad {shorts : List (Nat × Nat)} {b k : Nat} (hb : b < nBanks s) (hm : (b, k) ∈ shorts) (hk : k ≤ 6) :
    bitAt (badBanks (realShorts s shorts)) b = true :=
  bitAt_badBanks (realShorts s shorts) (k := k) (by simp [realShorts, hm, hb, hk])

/-! ### A stage in progress -/

theorem exec_stage (s : State) (res : StageResult) : exec (.bootStageDone res) s = .next (event s (fun s => bootStageDone s res)) := rfl

/-- What the work of a stage leaves, and what the end of its command keeps of it. -/
theorem exec_stage_enters {res : StageResult} (hl : Live s) (hr : bootStageDone s res = r) (he : Enters s r n) :
    ∃ t, exec (.bootStageDone res) s = .next t ∧ Ends r t ∧ t.boot.stage = n ∧ ∀ {R}, Stable R → R r t := by
  have hact : r.img.act = none := he.act.trans hl.act
  have hends := finish_ends (a := s) hact (he.waits hl.waits) he.pending
  refine ⟨finish s r, ?_, hends, (congrArg (·.boot.stage) hends.rest).trans he.stage, fun h => h.finish hact (he.waits hl.waits) he.pending⟩
  rw [exec_stage, event_running hl.power, hr]

end
end Sys2Proof.Machine
end


section
/-! The stages of a start-up follow one another (R523): ports at the end of the load, and each stage's end. -/

namespace Sys2Proof.Machine

section
variable {s r t x : State} {C : List Nat} {O : List Output} {P : Nat → Port} {res : StageResult}

/-! ### Ports at the end of the load -/

/-- A port that the end of training leaves as it is. -/
def settledPort (x : Port) : Prop := x.mode = .active ∨ x.mode = .failed ∨ (x.mode = .parked ∧ x.cause = 16)

/-- Such ports stay such ports. -/
def PortsSettled (s t : State) : Prop := ∀ q, settledPort (port s q) → settledPort (port t q)

theorem PortsSettled.trans {a b c : State} (h : PortsSettled a b) (k : PortsSettled b c) : PortsSettled a c := fun q hq => k q (h q hq)

theorem PortsSettled.of_plk (h : t.plk = s.plk) : PortsSettled s t := fun q hq => by rwa [port, h]

theorem parkArray_settled (s : State) (p : Nat) : PortsSettled s (parkArray s p) := by
  unfold parkArray
  extract_lets x
  split
  · intro q hq
    rw [port_of_calm (calm_completeOpt _ _ _ _), parkPort, port_of_calm (calm_enterPort _ _ _ _)]
    by_cases hqp : q = p
    · subst hqp
      have hlt : q < 6 := port_lt (s := s) (fun hd => by
        rcases hq with h | h | ⟨h, -⟩
        · exact absurd (hd.symm.trans h) (by decide)
        · exact absurd (hd.symm.trans h) (by decide)
        · exact absurd (hd.symm.trans h) (by decide))
      rw [port_modPort_same hlt]
      exact .inr (.inr ⟨rfl, rfl⟩)
    · rw [port_modPort_ne hqp, port_modPort_ne hqp]
      exact (port_modPort_ne (s := s) hqp (fun y => { y with unparkId := none, thenTrain := false, holdReady := false })) ▸ hq
  · exact fun q hq => hq

theorem portsSettled_stable : Stable PortsSettled where
  refl _ := fun _ h => h
  trans := .trans
  records h := .of_plk (calm_eq (·.plk) h.calm :)
  safe s src sh := .of_plk (enterSafe_plk s src sh)
  arrays s := List.foldlRecOn _ parkArray (motive := fun t => PortsSettled s t) (fun _ h => h) (fun t ht p _ => ht.trans (parkArray_settled t p))
  scanner s c f := .of_plk (parkScanner_plk s c f)
  bank s b := .of_plk (bankOff_plk s b)

theorem OnlyPlk.starts {b : State} (h : OnlyPlk s b) : Starts s b := by
  obtain ⟨k, bl, n, o, rfl⟩ := h
  exact (Starts.refl s).units (by rfl)

theorem PlkWork.starts (h : PlkWork C O s P r) : Starts s r := by
  obtain ⟨b, hb, -, ha⟩ := h.base
  exact hb.starts.adds ha

theorem PlkWork.enabled (h : PlkWork C O s P r) (p : Nat) : portEnabled r p = portEnabled s p := by
  obtain ⟨k, bl, n, hc⟩ := h.frame
  exact (calm_eq (fun x => portEnabled x p) hc :)

/-- The end of training leaves every enabled port settled. -/
structure Trained (n : Nat) (s x : State) : Prop where
  work : ∃ C O P, PlkWork C O s P x
  ports : ∀ q, q < n → portEnabled s q = true → settledPort (port x q)

theorem settled_of_false {y : Port} (h : ¬ (!(y.mode == .active || y.mode == .failed || (y.mode == .parked && y.cause == 16))) = true) :
    settledPort y := by
  unfold settledPort
  rw [or_iff_not_imp_left, or_iff_not_imp_left]
  simpa using h

theorem Trained.step {n : Nat} (hn : n < 6) (h : Trained n s x) : Trained (n + 1) s
    (if portEnabled x n && !((port x n).mode == .active || (port x n).mode == .failed || ((port x n).mode == .parked && (port x n).cause == 16))
      then portFail x n 6 else x) := by
  obtain ⟨C, O, P, hw⟩ := h.work
  split
  · have hf := hw.fail hn 6
    refine ⟨⟨_, _, _, hf⟩, fun q hq he => ?_⟩
    rw [hf.ports]
    by_cases hqn : q = n
    · rw [hqn, Function.update_self]
      exact .inr (.inl rfl)
    · rw [Function.update_of_ne hqn, ← hw.ports]
      exact h.ports q (by omega) he
  · next hc =>
    refine ⟨h.work, fun q hq he => ?_⟩
    by_cases hqn : q = n
    · rw [hqn] at he ⊢
      rw [hw.enabled, he, Bool.true_and] at hc
      exact settled_of_false hc
    · exact h.ports q (by omega) he

theorem trainingLimit_trained (s : State) : Trained 6 s (trainingLimit s) :=
  forN_inv (I := fun n x => Trained n s x) ⟨⟨_, _, _, .refl s⟩, fun q hq => by omega⟩ (fun n x hn hx => hx.step hn)

theorem schedLoaded_starts (s : State) : Starts s (schedLoaded s true) := .ite _ ((Starts.refl s).units (by rfl)) (.refl s)

/-- The load has ended. -/
def loadEnded (s : State) : State := trainingLimit (schedLoaded s true)

theorem loadEnded_starts (s : State) : Starts s (loadEnded s) := by
  obtain ⟨C, O, P, hw⟩ := (trainingLimit_trained (schedLoaded s true)).work
  exact (schedLoaded_starts s).trans hw.starts

theorem loadEnded_tsc (s : State) : (loadEnded s).tsc = s.tsc := by
  obtain ⟨C, O, P, hw⟩ := (trainingLimit_trained (schedLoaded s true)).work
  refine hw.tsc.trans ?_
  unfold schedLoaded
  split <;> rfl

theorem portEnabled_schedLoaded (s : State) (p : Nat) : portEnabled (schedLoaded s true) p = portEnabled s p := by
  unfold schedLoaded
  split <;> rfl

theorem loadEnded_ports {q : Nat} (hq : q < 6) (he : portEnabled s q = true) : settledPort (port (loadEnded s) q) :=
  (trainingLimit_trained (schedLoaded s true)).ports q hq (by rw [portEnabled_schedLoaded, he])

/-- What the beginning of stage 9 changes. -/
theorem enterRunning_units (s : State) : ∃ g st, enterRunning s = { s with boot := { s.boot with
    stage := 9, bootMs := (s.tsc - s.boot.startTsc) / msCycles, gather := g, status := st } } := by
  unfold enterRunning
  extract_lets s1
  split
  · exact ⟨_, _, rfl⟩
  · exact ⟨_, _, rfl⟩

/-! ### Each stage's end -/

variable {k : Nat}

theorem bootStageDone_at (hw : s.boot.warmAt = none) (hk : s.boot.stage = k) : bootStageDone s res =
    if k = 0 then (if res.safePathOk then setStage { s with pins := { s.pins with highZ := false } } 1 else
      report (gather (setStage { s with pins := { s.pins with highZ := false } } 1) (2 ^ 16) true) { source := 0x02 })
    else if k = 1 then setStage { s with hmi := { s.hmi with linkUp := true } } (if s.boot.hostBoot then 15 else 2)
    else if k = 2 then stageFirmware s
    else if k = 3 then stageDram s res
    else if k = 4 then stageSelfTest s res
    else if k = 5 then stagePinTest s res
    else if k = 6 then stageImage s
    else if k = 7 then stageCal s res
    else if k = 8 then enterRunning (loadEnded s)
    else s := by
  unfold bootStageDone loadEnded
  rw [hw, hk]
  rfl

/-- Stage 0 with a safe path that fails its test. -/
theorem safePathFails (hl : Live s) (hw : s.boot.warmAt = none) (hk : s.boot.stage = 0) (hp : res.safePathOk = false) :
    ∃ t, exec (.bootStageDone res) s = .next t ∧ t.boot.stage = 1 ∧ dark t.pins ∧ (srcAt t 0x02).pending = true ∧
      (srcAt t 0x02).mode = .fatal ∧ t.pins.highZ = false := by
  have hr := bootStageDone_at (res := res) hw hk
  rw [if_pos rfl, if_neg (by rw [hp]; decide)] at hr
  obtain ⟨t, ht, hends, hstage, -⟩ := exec_stage_enters (n := 1) hl hr ⟨rfl, rfl, rfl, id⟩
  have hcfg (y : State) : sourceCfg y 0x02 = (2, 3, 64, true) := sourceCfg_fixed (e := (0x02, 2, 3)) rfl y
  have hrep : (report (gather (setStage { s with pins := { s.pins with highZ := false } } 1) (2 ^ 16) true) { source := 0x02 }).reports =
      [{ source := 0x02 }] := congrArg (· ++ _) hl.reports
  have hm := hends.marks 0x02 (by decide) ⟨_, by rw [hrep]; exact List.mem_singleton_self _, rfl, rfl⟩ (by rw [hcfg]; decide)
  exact ⟨t, ht, hstage, hends.shuts _ hrep rfl rfl (by rw [reactionOf_real rfl rfl, hcfg]; decide) (by rw [reactionOf_real rfl rfl, hcfg]; decide),
    hm.1, hm.2 (by rw [hcfg]), (congrArg (·.pins.highZ) hends.rest :)⟩

/-- A stage whose work is small, and reports nothing. -/
theorem exec_stage_quiet (hl : Live s) (hr : bootStageDone s res = r) (q : Quiet s r) (hp : r.pending = s.pending := by rfl) :
    exec (.bootStageDone res) s = .next r := exec_unit_quiet (exec_stage s res) hl hr q hp

theorem safePathGood (hl : Live s) (hw : s.boot.warmAt = none) (hk : s.boot.stage = 0) (hp : res.safePathOk = true) :
    exec (.bootStageDone res) s = .next { s with pins := { s.pins with highZ := false }, boot := { s.boot with stage := 1 } } := by
  have hr := bootStageDone_at (res := res) hw hk
  rw [if_pos rfl, if_pos hp] at hr
  exact exec_stage_quiet hl hr hl.toSteady.quiet

theorem linkComesUp (hl : Live s) (hw : s.boot.warmAt = none) (hk : s.boot.stage = 1) :
    exec (.bootStageDone res) s = .next { s with
      hmi := { s.hmi with linkUp := true }, boot := { s.boot with stage := if s.boot.hostBoot then 15 else 2 } } :=
  exec_stage_quiet hl (bootStageDone_at (res := res) hw hk) hl.toSteady.quiet

/-- Beside the start-up nothing changes. -/
theorem stageFirmware_units (s : State) : ∃ b, stageFirmware s = { s with boot := b } ∧
    b.stage = if s.pins.bootSrc = 1 ∨ (s.boot.fwA.valid = false ∧ s.boot.fwB.valid = false) then 15 else 3 := by
  have hg (x : State) (m : Nat) (on : Bool) : ∃ g, gather x m on = { x with boot := { x.boot with gather := g } } := gather_units x m on
  have hc : (s.pins.bootSrc = 1 ∨ (!s.boot.fwA.valid && !s.boot.fwB.valid) = true) ↔
      (s.pins.bootSrc = 1 ∨ (s.boot.fwA.valid = false ∧ s.boot.fwB.valid = false)) := by simp
  unfold stageFirmware
  extract_lets a b useB s1
  by_cases h : s.pins.bootSrc = 1 ∨ (s.boot.fwA.valid = false ∧ s.boot.fwB.valid = false)
  · rw [if_pos (hc.mpr h), if_pos h]
    exact ⟨_, rfl, rfl⟩
  · rw [if_neg (fun k => h (hc.mp k)), if_neg h]
    obtain ⟨g1, h1⟩ := hg s (2 ^ 8) useB
    obtain ⟨g2, h2⟩ := hg (gather s (2 ^ 8) useB) (2 ^ 10) (a.valid != b.valid)
    have hs1 : s1 = { s with boot := { s.boot with gather := g2 } } := by
      simp only [s1]
      rw [h2, h1]
    rw [hs1]
    exact ⟨_, rfl, rfl⟩

theorem firmwareSelected (hl : Live s) (hw : s.boot.warmAt = none) (hk : s.boot.stage = 2) :
    ∃ t, exec (.bootStageDone res) s = .next t ∧
      t.boot.stage = (if s.pins.bootSrc = 1 ∨ (s.boot.fwA.valid = false ∧ s.boot.fwB.valid = false) then 15 else 3) ∧
      t = { s with boot := t.boot } := by
  obtain ⟨b, hb, hstage⟩ := stageFirmware_units s
  exact ⟨_, exec_stage_quiet hl ((bootStageDone_at (res := res) hw hk).trans hb) hl.toSteady.quiet, hstage, rfl⟩

theorem mem_failedCold {c : Nat} : c ∈ failedCold s res ↔ c < 16 ∧ trainsCold s c = true ∧ bitAt res.failedChannels c = true := by
  simp [failedCold]

/-- What stage 3 leaves at the end of its command. -/
theorem dramTrained (hl : Live s) (hw : s.boot.warmAt = none) (hk : s.boot.stage = 3) :
    ∃ t, exec (.bootStageDone res) s = .next t ∧ t.boot.stage = (if warmStart s then 5 else 4) ∧ t.mem.ready = true ∧
      (∀ c, c < 16 → trainsCold s c = true → (chan t c).mode = if bitAt res.failedChannels c then .failed else .ok) ∧
      ∀ c ∈ failedCold s res, t.boot.noImage = true ∧ (srcAt t 0x24).pending = true := by
  have hd := stageDram_started s res
  obtain ⟨t, ht, hends, hstage, -⟩ := exec_stage_enters hl (bootStageDone_at (res := res) hw hk) hd.enters
  have hcfg (y : State) : sourceCfg y 0x24 = (2, 5, 64, true) := sourceCfg_fixed (e := (0x24, 2, 5)) rfl y
  refine ⟨t, ht, hstage, (congrArg (·.mem.ready) hends.rest).trans hd.ready, fun c hc hcold => ?_, fun c hc => ⟨?_, ?_⟩⟩
  · exact (congrArg (fun y => (chan y c).mode) hends.rest).trans (hd.modes c hc hcold)
  · exact (congrArg (·.boot.noImage) hends.rest).trans (hd.noImage (List.ne_nil_of_mem hc))
  · exact (hends.marks 0x24 (by decide) ⟨_, hd.failures c hc, rfl, rfl⟩ (by rw [hcfg]; decide)).1

theorem gather_setStage (s : State) (m : Nat) (on : Bool) (n : Nat) :
    ∃ g, setStage (gather s m on) n = { s with boot := { s.boot with gather := g, stage := n } } := by
  obtain ⟨g, hg⟩ := gather_units s m on
  exact ⟨g, congrArg (setStage · n) hg⟩

theorem vget_ofFn_bits {n : Nat} (f : Nat) (hn : n < 24) : vget (Vector.ofFn (fun (i : Fin 24) => bitAt f i.val)) n false = bitAt f n := by
  simp [vget, hn]

theorem bitAt_low24 {n : Nat} (x : Nat) (hn : n < 24) : bitAt (x % 2 ^ 24) n = bitAt x n :=
  (Nat.testBit_mod_two_pow _ 24 n).trans (by rw [decide_eq_true hn, Bool.true_and]; rfl)

/-- The builders that fail are fenced. -/
theorem stageSelfTest_units (s : State) (res : StageResult) : ∃ v g, (∀ n, n < 24 → vget v n false = bitAt res.failedBuilders n) ∧
    stageSelfTest s res = { s with pbu := { s.pbu with fenced := v }, boot := { s.boot with gather := g, stage := 5 } } := by
  unfold stageSelfTest
  extract_lets f
  have hv : ∀ n, n < 24 → vget (Vector.ofFn (fun (i : Fin 24) => bitAt f i.val)) n false = bitAt res.failedBuilders n :=
    fun n hn => (vget_ofFn_bits f hn).trans (bitAt_low24 _ hn)
  generalize Vector.ofFn (fun (i : Fin 24) => bitAt f i.val) = v at *
  obtain ⟨g, hg⟩ := gather_setStage { s with pbu := { s.pbu with fenced := v } } (2 ^ 11) (decide (f ≠ 0)) 5
  exact ⟨v, g, hv, hg⟩

theorem buildersTested (hl : Live s) (hw : s.boot.warmAt = none) (hk : s.boot.stage = 4) :
    ∃ t, exec (.bootStageDone res) s = .next t ∧ t.boot.stage = 5 ∧
      (∀ n, n < 24 → vget t.pbu.fenced n false = bitAt res.failedBuilders n) ∧ t = { s with boot := t.boot, pbu := t.pbu } := by
  obtain ⟨v, g, hv, hg⟩ := stageSelfTest_units s res
  exact ⟨_, exec_stage_quiet hl ((bootStageDone_at (res := res) hw hk).trans hg) hl.toSteady.quiet, rfl, hv, rfl⟩

/-- What stage 5 leaves. -/
theorem stagePinTest_begun (s : State) (res : StageResult) : ∃ bt, stagePinTest s res =
    { (pinTest s (2 ^ nBanks s - 1) res.shorts).1 with boot := bt } ∧ bt.stage = if s.boot.noImage then 9 else 6 := by
  unfold stagePinTest
  extract_lets p s1
  obtain ⟨g, hg⟩ := gather_units p.1 (2 ^ 13) (decide (p.2 ≠ 0))
  have hs1 : s1 = { p.1 with boot := { p.1.boot with gather := g } } := hg
  have hno : s1.boot.noImage = s.boot.noImage := by
    rw [hs1]
    exact (congrArg Boot.noImage (pinTest_starts s (2 ^ nBanks s - 1) res.shorts).boot :)
  rw [hno, hs1]
  split
  · obtain ⟨g', st, he⟩ := enterRunning_units { p.1 with boot := { p.1.boot with gather := g } }
    exact ⟨_, he, rfl⟩
  · exact ⟨_, rfl, rfl⟩

theorem shortsFound (hl : Live s) (hw : s.boot.warmAt = none) (hk : s.boot.stage = 5) :
    ∃ t, exec (.bootStageDone res) s = .next t ∧ t.boot.stage = (if s.boot.noImage then 9 else 6) ∧
      (∀ b c, b < nBanks s → (b, c) ∈ res.shorts → c ≤ 6 → (bankAt t b).mode = .short ∧ (srcAt t 0x73).pending = true) := by
  obtain ⟨bt, hr, hstage⟩ := stagePinTest_begun s res
  have hr' := (bootStageDone_at (res := res) hw hk).trans hr
  obtain ⟨⟨C, hC, htold⟩, hbanks⟩ := pinTest_shorts s (2 ^ nBanks s - 1) res.shorts
  have he : Effects C lightNoise s (bootStageDone s res) := by
    rw [hr']
    exact hC.units (by rfl)
  obtain ⟨t, ht, hd⟩ := exec_done (exec_stage s res) hl he
  have hkept := banksKept_stable.done (exec_stage s res) hl he ht
  have hb12 (b : Nat) (h : b < nBanks s) : b < 12 := by
    unfold nBanks at h
    split at h <;> omega
  refine ⟨t, ht, ?_, fun b c hb hm hc => ⟨?_, ?_⟩⟩
  · refine (congrArg (·.boot.stage) hd.rest).trans ?_
    show (bootStageDone s res).boot.stage = _
    rw [hr', ← hstage]
  · have hshort : (bankAt (bootStageDone s res) b).mode = .short := by
      rw [hr']
      exact hbanks b (hb12 b hb) (found_bad hb hm hc)
    exact ((hkept b).dark (by rw [hshort]; rfl)).1.trans hshort
  · have hcfg : sourceCfg s 0x73 = (1, 0, 64, true) := sourceCfg_fixed (e := (0x73, 1, 0)) rfl s
    exact (hd.marks 0x73 (htold b (hb12 b hb) (found_bad hb hm hc)) (by decide) (by decide) (by simp [lightNoise]) (by rw [hcfg]; decide)).1

/-- Stage 6 leaves the image that it selects. -/
theorem imageSelected (hl : Live s) (hw : s.boot.warmAt = none) (hk : s.boot.stage = 6) :
    ∃ t, exec (.bootStageDone res) s = .next t ∧ t.boot.stage = (if warmStart s then (if t.img.cfg.isSome then 8 else 9) else 7) := by
  have hc := selectImage_chooses s
  have hact : (selectImage s).img.act = s.img.act := hc.act.trans hl.act.symm
  have hwait : noWait s → noWait (selectImage s) := fun w => by
    unfold noWait at w ⊢
    rw [hc.hmi]
    exact w
  have hr := bootStageDone_at (res := res) hw hk
  by_cases hwarm : warmStart s = true
  · have hb := enterLoad_begun (selectImage s)
    have hr' : bootStageDone s res = enterLoad (selectImage s) := hr.trans (stageImage_warm hwarm)
    obtain ⟨t, ht, hends, hstage, -⟩ := exec_stage_enters (n := if (selectImage s).img.cfg.isSome then 8 else 9) hl hr'
      ⟨hb.stage, hb.act.trans hact, hb.pending.trans hc.pending, fun w => hb.waits (hwait w)⟩
    have himg : t.img.cfg = (selectImage s).img.cfg := (congrArg (·.img.cfg) hends.rest).trans hb.image
    exact ⟨t, ht, by rw [if_pos hwarm, hstage, himg]⟩
  · have hr' : bootStageDone s res = setStage (selectImage s) 7 := hr.trans (stageImage_cold (by simpa using hwarm))
    generalize selectImage s = y at hact hwait hc hr'
    obtain ⟨t, ht, -, hstage, -⟩ := exec_stage_enters (n := 7) hl hr' ⟨rfl, hact, hc.pending, hwait⟩
    exact ⟨t, ht, by rw [if_neg hwarm, hstage]⟩

theorem snapshotLoaded (hl : Live s) (hw : s.boot.warmAt = none) (hk : s.boot.stage = 7) :
    ∃ t, exec (.bootStageDone res) s = .next t ∧ t.boot.stage = (if s.img.cfg.isSome then 8 else 9) ∧ t.cal.run = none := by
  have hb := stageCal_begun s res
  obtain ⟨t, ht, hends, hstage, -⟩ := exec_stage_enters hl (bootStageDone_at (res := res) hw hk) ⟨hb.stage, hb.act, hb.pending, hb.waits⟩
  exact ⟨t, ht, hstage, (congrArg (·.cal.run) hends.rest).trans hb.run⟩

theorem trainingEnds (hl : Live s) (hw : s.boot.warmAt = none) (hk : s.boot.stage = 8) :
    ∃ t, exec (.bootStageDone res) s = .next t ∧ t.boot.stage = 9 ∧ t.boot.bootMs = (s.tsc - s.boot.startTsc) / msCycles ∧
      (∀ p, p < 6 → portEnabled s p = true →
        (port t p).mode = .active ∨ (port t p).mode = .failed ∨ ((port t p).mode = .parked ∧ (port t p).cause = 16)) := by
  have hs := loadEnded_starts s
  obtain ⟨g, st, he⟩ := enterRunning_units (loadEnded s)
  obtain ⟨t, ht, hends, hstage, hstable⟩ := exec_stage_enters (n := 9) hl ((bootStageDone_at (res := res) hw hk).trans he) (hs.enters rfl rfl rfl rfl)
  refine ⟨t, ht, hstage, ?_, fun p hp hen => hstable portsSettled_stable p (loadEnded_ports hp hen)⟩
  refine (congrArg (·.boot.bootMs) hends.rest).trans ?_
  show ((loadEnded s).tsc - (loadEnded s).boot.startTsc) / msCycles = _
  rw [loadEnded_tsc, hs.boot]

theorem noStage (hl : Live s) (h : s.boot.warmAt.isSome = true ∨ 9 ≤ s.boot.stage) : exec (.bootStageDone res) s = .next s := by
  refine exec_unit_same (exec_stage s res) hl ?_
  by_cases hw : s.boot.warmAt.isSome = true
  · exact if_pos hw
  · have h9 : 9 ≤ s.boot.stage := h.resolve_left hw
    refine (bootStageDone_at (by simpa using hw) rfl).trans ?_
    repeat rw [if_neg (by omega)]

end

/-- Settles O12: each stage's end by the lemma of that stage. -/
theorem startStagesFollow : Obligations.StartStagesFollow := by
  unfold Obligations.StartStagesFollow
  refine ⟨fun s r => safePathGood, fun s r => safePathFails, fun s r => linkComesUp, fun s r => firmwareSelected, fun s r hl hw hk hwarm => ?_,
    fun s r hl hw hk hwarm => ?_, fun s r => buildersTested, fun s r => shortsFound, fun s r => imageSelected, fun s r => snapshotLoaded,
    fun s r => trainingEnds, fun s r => noStage⟩
  · have hcold (c : Nat) : trainsCold s c = true := by simp [trainsCold, hwarm]
    obtain ⟨t, ht, hstage, hready, hmodes, hfail⟩ := dramTrained (res := r) hl hw hk
    exact ⟨t, ht, by rw [hstage, hwarm]; rfl, hready, fun c hc => hmodes c hc (hcold c),
      fun ⟨c, hc, hb⟩ => hfail c (mem_failedCold.mpr ⟨hc, hcold c, hb⟩)⟩
  · obtain ⟨t, ht, hstage, hready, hmodes, -⟩ := dramTrained (res := r) hl hw hk
    exact ⟨t, ht, by rw [hstage, hwarm]; rfl, hready, fun c hc hoff => hmodes c hc (by simp [trainsCold, hoff])⟩

end Sys2Proof.Machine
end


section
/-! Operations that leave the contents of DRAM alone, each with the equation that says so:
the host interface, the picture and Plane Link. -/

namespace Sys2Proof.Machine

/-! ### Branches and loops -/

@[simp] theorem dram_ite (c : Prop) [Decidable c] (a b : State) : (if c then a else b).dram = if c then a.dram else b.dram :=
  apply_ite State.dram c a b

@[simp] theorem dram_ite_fst {β : Type} (c : Prop) [Decidable c] (a b : State × β) :
    (if c then a else b).1.dram = if c then a.1.dram else b.1.dram := apply_ite (fun x : State × β => x.1.dram) c a b

@[simp] theorem dram_ite_snd {β : Type} (c : Prop) [Decidable c] (a b : β × State) :
    (if c then a else b).2.dram = if c then a.2.dram else b.2.dram := apply_ite (fun x : β × State => x.2.dram) c a b

theorem dram_of_ite {c : Prop} [Decidable c] {a b : State} {d : List (Nat × Byte)} (ha : a.dram = d) (hb : b.dram = d) :
    (if c then a else b).dram = d := by split <;> assumption

@[simp] theorem foldl_dram {β : Type} {f : State → β → State} (h : ∀ s x, (f s x).dram = s.dram) (l : List β) (s : State) :
    (l.foldl f s).dram = s.dram :=
  List.foldlRecOn l f (motive := fun t => t.dram = s.dram) rfl (fun t ht x _ => (h t x).trans ht)

@[simp] theorem forN_dram {f : State → Nat → State} (h : ∀ s x, (f s x).dram = s.dram) (n : Nat) (s : State) :
    (forN n f s).dram = s.dram := foldl_dram h _ s

@[simp] theorem forMask_dram {f : State → Nat → State} (h : ∀ s x, (f s x).dram = s.dram) (n m : Nat) (s : State) :
    (forMask n m f s).dram = s.dram := forN_dram (fun s x => by simp [h]) n s

/-! ### Registers, events, completions and reports -/

@[simp] theorem bumpRaw_dram (s : State) (off : Nat) : (bumpRaw s off).1.dram = s.dram := by simp [bumpRaw]
@[simp] theorem signal_dram (s : State) (v : Nat) : (signal s v).dram = s.dram := by simp [signal]
@[simp] theorem flushVectors_dram (s : State) : (flushVectors s).dram = s.dram := by simp [flushVectors]
@[simp] theorem coalesceEvt_dram (s : State) : (coalesceEvt s).dram = s.dram := by simp [coalesceEvt]
@[simp] theorem coalesceCpl_dram (s : State) : (coalesceCpl s).dram = s.dram := by simp [coalesceCpl]
@[simp] theorem writeEvt_dram (s : State) (e : Event) : (writeEvt s e).dram = s.dram := by simp [writeEvt]

@[simp] theorem storeReport_dram (s : State) (e : StoreError) (ce ue : Nat) : (storeReport s e ce ue).dram = s.dram := by
  unfold storeReport
  split <;> simp

@[simp] theorem dropEvt_dram (s : State) : (dropEvt s).dram = s.dram := by simp [dropEvt]
@[simp] theorem pushEvt_dram (s : State) (e : Event) : (pushEvt s e).dram = s.dram := by simp [pushEvt]
@[simp] theorem post_dram (s : State) (code unit : Nat) (payload : List Byte) : (post s code unit payload).dram = s.dram := by simp [post]
@[simp] theorem post2_dram (s : State) (code unit : Nat) (payload : List Byte) : (post2 s code unit payload).dram = s.dram :=
  by simp [post2]
@[simp] theorem bump_dram (s : State) (off : Nat) : (bump s off).dram = s.dram := by simp [bump]
@[simp] theorem bumpBy_dram (s : State) (off n : Nat) : (bumpBy s off n).dram = s.dram := by simp [bumpBy]
@[simp] theorem writeCpl_dram (s : State) (c : Completion) : (writeCpl s c).dram = s.dram := by simp [writeCpl]
@[simp] theorem postCpl_dram (s : State) (c : Completion) : (postCpl s c).dram = s.dram := by simp [postCpl]

@[simp] theorem drainCpl_dram (n : Nat) (s : State) : (drainCpl n s).dram = s.dram := by
  induction n generalizing s with
  | zero => rfl
  | succ n ih =>
    unfold drainCpl
    split
    · rfl
    · simp [ih]

@[simp] theorem withInFlight_dram (s : State) (l : List InFlight) : (withInFlight s l).dram = s.dram := rfl

@[simp] theorem flushOrdered_dram (n : Nat) (s : State) : (flushOrdered n s).dram = s.dram := by
  induction n generalizing s with
  | zero => rfl
  | succ n ih =>
    unfold flushOrdered
    split
    · rfl
    · split
      · rfl
      · simp [ih]

@[simp] theorem complete_dram (s : State) (id : Nat) (st : Status) (res : List Byte) : (complete s id st res).dram = s.dram := by
  unfold complete
  split <;> simp

@[simp] theorem completeOpt_dram (s : State) (id : Option Nat) (st : Status) (res : List Byte) :
    (completeOpt s id st res).dram = s.dram := by
  unfold completeOpt
  split <;> simp

@[simp] theorem free_dram (s : State) : (free s).2.dram = s.dram := rfl

/-! ### What memory reports -/

@[simp] theorem dramCe_dram (s : State) (addr unit : Nat) : (dramCe s addr unit).dram = s.dram := by simp [dramCe]
@[simp] theorem dramUe_dram (s : State) (addr unit : Nat) (inj : Option Injection) (coincident : Bool) :
    (dramUe s addr unit inj coincident).dram = s.dram := by simp [dramUe]
@[simp] theorem meetErrors_dram (s : State) (e : DramErrs) (unit : Nat) : (meetErrors s e unit).dram = s.dram := by simp [meetErrors]
@[simp] theorem disarm_dram (s : State) (src : Nat) : (disarm s src).dram = s.dram := rfl

@[simp] theorem reportUe_dram (s : State) (bad : Option Nat) (inj : Option Injection) (unit : Nat) :
    (reportUe s bad inj unit).dram = s.dram := by
  unfold reportUe
  split <;> simp

@[simp] theorem readUe_dram (s : State) (a n unit : Nat) : (readUe s a n unit).dram = s.dram := by simp [readUe]
@[simp] theorem postRetire_dram (s : State) (layer : Nat) (f : Surface) (flags frame : Nat) :
    (postRetire s layer f flags frame).dram = s.dram := by simp [postRetire]

/-! ### Pixels -/

@[simp] theorem holdFetched_dram (s : State) : (holdFetched s).dram = s.dram := by
  unfold holdFetched
  split <;> simp

/-! ### Plane builders -/

@[simp] theorem cacheWrite_dram (s : State) (slot off : Nat) (l : List Byte) : (cacheWrite s slot off l).dram = s.dram := rfl
@[simp] theorem postBuilderMap_dram (s : State) (failed repl slot cause port band : Nat) :
    (postBuilderMap s failed repl slot cause port band).dram = s.dram := by simp [postBuilderMap]

@[simp] theorem applyChange_dram (s : State) (c : MapChange) : (applyChange s c).dram = s.dram := by
  unfold applyChange
  split <;> simp

@[simp] theorem applyTable_dram (s : State) : (applyTable s).dram = s.dram := by simp [applyTable]
@[simp] theorem beginBuild_dram (s : State) (no : Nat) : (beginBuild s no).dram = s.dram := rfl
@[simp] theorem pbuTake_dram (s : State) (no : Nat) : (pbuTake s no).dram = s.dram := by simp [pbuTake]
@[simp] theorem abandonSlot_dram (s : State) (sl : Nat) : (abandonSlot s sl).dram = s.dram := rfl

@[simp] theorem tileStart_dram (s : State) (sl : Nat) : (tileStart s sl).dram = s.dram := by
  unfold tileStart
  split <;> simp

@[simp] theorem tileDone_dram (s : State) (ps : Pass) (sl : Nat) (e : TileCfg) : (tileDone s ps sl e).dram = s.dram := by simp [tileDone]
@[simp] theorem reissue_dram (s : State) (f : FailedTile) (sp : Nat) (again : Bool) : (reissue s f sp again).dram = s.dram :=
  by simp [reissue]
@[simp] theorem repeatTile_dram (s : State) (f : FailedTile) (again : Bool) : (repeatTile s f again).dram = s.dram := by simp [repeatTile]
@[simp] theorem loseSlot_dram (s : State) (f : FailedTile) : (loseSlot s f).dram = s.dram := by simp [loseSlot]

@[simp] theorem residueFail_dram (s : State) (f : FailedTile) : (residueFail s f).dram = s.dram := by
  simp only [residueFail]
  split <;> simp

@[simp] theorem buildTick_dram (s : State) : (buildTick s).dram = s.dram := by simp [buildTick]
@[simp] theorem runPbuTest_dram (s : State) (n id : Nat) : (runPbuTest s n id).1.dram = s.dram := by simp [runPbuTest]

@[simp] theorem pbuTestDone_dram (s : State) (n residue : Nat) : (pbuTestDone s n residue).dram = s.dram := by
  unfold pbuTestDone
  split <;> simp

/-! ### The composer -/

@[simp] theorem setShadow_dram (s : State) (l : Nat) (st : LayerSt) : (setShadow s l st).dram = s.dram := rfl
@[simp] theorem runLayerSurface_dram (s : State) (l : Nat) (p : List Byte) : (runLayerSurface s l p).1.dram = s.dram :=
  by simp [runLayerSurface]
@[simp] theorem runLayerGeom_dram (s : State) (l : Nat) (p : List Byte) : (runLayerGeom s l p).1.dram = s.dram := by simp [runLayerGeom]

@[simp] theorem runLayerReady_dram (s : State) (l arrival : Nat) (p : List Byte) : (runLayerReady s l arrival p).1.dram = s.dram := by
  unfold runLayerReady
  split
  · simp
  · split <;> simp

@[simp] theorem releaseReplaced_dram (old : Vector Layer 16) (s : State) (l : Nat) : (releaseReplaced old s l).dram = s.dram := by
  unfold releaseReplaced
  split <;> simp

@[simp] theorem rejectCommit_dram (s : State) (st : Status) (reason layer fetch : Nat) :
    (rejectCommit s st reason layer fetch).1.dram = s.dram := rfl
@[simp] theorem acceptCommit_dram (s : State) (mask wait arrival fetch : Nat) (changed : List Nat) :
    (acceptCommit s mask wait arrival fetch changed).dram = s.dram := by simp [acceptCommit]
@[simp] theorem postPassRestart_dram (s : State) (p : Pass) (outcome layer : Nat) : (postPassRestart s p outcome layer).dram = s.dram :=
  by simp [postPassRestart]
@[simp] theorem countKtc_dram (s : State) (p : Pass) (lines : Nat) : (countKtc s p lines).dram = s.dram := by simp [countKtc]
@[simp] theorem cutPass_dram (s : State) (p : Pass) : (cutPass s p).1.dram = s.dram := by simp [cutPass]
@[simp] theorem setPass_dram (s : State) (p : Option Pass) : (setPass s p).dram = s.dram := rfl

@[simp] theorem abortPass_dram (s : State) : (abortPass s).dram = s.dram := by
  unfold abortPass
  split <;> simp

@[simp] theorem startPass_dram (s : State) (frame start takenSeq skipped cover : Nat) (changed : List Nat) :
    (startPass s frame start takenSeq skipped cover changed).dram = s.dram := by simp [startPass]
@[simp] theorem postLayerLate_dram (frame : Nat) (s : State) (l : Nat) (q : PendSt) : (postLayerLate frame s l q).dram = s.dram :=
  by simp [postLayerLate]

@[simp] theorem latch_dram (s : State) (stamp frame start : Nat) : (latch s stamp frame start).dram = s.dram := by
  unfold latch
  extract_lets old lateMask takenMask skip s1 commits takenPend take layers _ s2 seq aborted changed _ s3 s4 cover
  have h1 : s1.dram = s.dram := forMask_dram (fun s l => by
    split <;> simp) 16 lateMask s
  have h2 : s2.dram = s.dram := h1
  have h4 : s4.dram = s.dram := (post_dram s3 _ _ _).trans h1
  split
  · exact h2
  · simp [h4]

@[simp] theorem restartPass_dram (s : State) (p : Pass) : (restartPass s p).dram = s.dram := rfl

@[simp] theorem composerDry_dram (s : State) (layer line deadline : Nat) : (composerDry s layer line deadline).dram = s.dram := by
  unfold composerDry
  split <;> simp

@[simp] theorem stopPass_dram (s : State) : (stopPass s).dram = s.dram := by
  unfold stopPass
  split <;> simp

@[simp] theorem switchLayers_dram (s : State) : (switchLayers s).dram = s.dram := by simp [switchLayers]
@[simp] theorem releaseRetiring_dram (s : State) (n : Nat) : (releaseRetiring s n).dram = s.dram := by simp [releaseRetiring]
@[simp] theorem passUes_dram (s : State) (p : Pass) : (passUes s p).dram = s.dram := by simp [passUes]
@[simp] theorem fetchFill_dram (s0 : State) (l fillKb : Nat) (errs : DramErrs) : (fetchFill s0 l fillKb errs).dram = s0.dram :=
  by simp [fetchFill]

/-! ### Plane Link -/

@[simp] theorem postPortState_dram (s : State) (p : Nat) (prev : PortMode) : (postPortState s p prev).dram = s.dram :=
  by simp [postPortState]
@[simp] theorem enterPort_dram (s : State) (p : Nat) (m : PortMode) (cause : Nat) : (enterPort s p m cause).dram = s.dram :=
  by simp [enterPort]
@[simp] theorem blocksOff_dram (s : State) (p : Nat) : (blocksOff s p).dram = s.dram := rfl
@[simp] theorem sendFrame_dram (s : State) (p op : Nat) (args : List Nat) : (sendFrame s p op args).dram = s.dram := rfl
@[simp] theorem sendAsking_dram (s : State) (p op : Nat) (args : List Nat) : (sendAsking s p op args).dram = s.dram := rfl

@[simp] theorem dropSelection_dram (s : State) (p : Nat) : (dropSelection s p).dram = s.dram := by
  unfold dropSelection
  split <;> simp

@[simp] theorem portFail_dram (s : State) (p cause : Nat) : (portFail s p cause).dram = s.dram := by simp [portFail]
@[simp] theorem parkPort_dram (s : State) (p style cause : Nat) : (parkPort s p style cause).dram = s.dram := by simp [parkPort]
@[simp] theorem parkArray_dram (s : State) (p : Nat) : (parkArray s p).dram = s.dram := by simp [parkArray]
@[simp] theorem parkArrays_dram (s : State) : (parkArrays s).dram = s.dram := by simp [parkArrays]
@[simp] theorem countRetrain_dram (s : State) (p : Nat) : (countRetrain s p).dram = s.dram := by simp [countRetrain]
@[simp] theorem enterSync_dram (s : State) (p cause : Nat) (fullOnly : Bool) : (enterSync s p cause fullOnly).dram = s.dram :=
  by simp [enterSync]
@[simp] theorem sendTrain_dram (s : State) (p phase : Nat) : (sendTrain s p phase).dram = s.dram := rfl
@[simp] theorem enterTrain_dram (s : State) (p cause : Nat) : (enterTrain s p cause).dram = s.dram := by simp [enterTrain]

@[simp] theorem selectDegraded_dram (s : State) (p : Nat) : (selectDegraded s p).dram = s.dram := by
  unfold selectDegraded
  split
  · split <;> simp
  · simp

@[simp] theorem trainHalf_dram (s : State) (p half cause : Nat) : (trainHalf s p half cause).dram = s.dram := by simp [trainHalf]
@[simp] theorem trainFail_dram (s : State) (p failed failCause : Nat) (phase : Nat) :
    (trainFail s p failed failCause phase).dram = s.dram := by simp [trainFail]
@[simp] theorem sendUnpark_dram (s : State) (p : Nat) : (sendUnpark s p).dram = s.dram := by simp [sendUnpark]
@[simp] theorem resend_dram (s : State) (p op : Nat) (args : List Nat) (cause : Nat) : (resend s p op args cause).dram = s.dram :=
  by simp [resend]
@[simp] theorem statusSync_dram (s : State) (p : Nat) : (statusSync s p).dram = s.dram := by simp [statusSync]
@[simp] theorem helloAck_dram (s : State) (p verMin verMax width height rows unpark settle vendor model serial : Nat) :
    (helloAck s p verMin verMax width height rows unpark settle vendor model serial).dram = s.dram := by simp [helloAck]
@[simp] theorem trainReport0_dram (s : State) (p : Nat) (lanes : List (Nat × Bool × Bool)) : (trainReport0 s p lanes).dram = s.dram :=
  by simp [trainReport0]
@[simp] theorem trainReport1_dram (s : State) (p errors : Nat) : (trainReport1 s p errors).dram = s.dram := by simp [trainReport1]

@[simp] theorem trainReport_dram (s : State) (p : Nat) (lanes : List (Nat × Bool × Bool)) (errors : Nat) :
    (trainReport s p lanes errors).dram = s.dram := by
  unfold trainReport
  split <;> simp

@[simp] theorem parkAcked_dram (s : State) (p : Nat) : (parkAcked s p).dram = s.dram := by
  simp only [parkAcked]
  split <;> simp

@[simp] theorem plkAck_dram (s : State) (p op result : Nat) : (plkAck s p op result).dram = s.dram := by simp [plkAck]
@[simp] theorem plkReady_dram (s : State) (p : Nat) : (plkReady s p).dram = s.dram := by simp [plkReady]

@[simp] theorem laneLost_dram (s : State) (p lane : Nat) : (laneLost s p lane).dram = s.dram := by
  simp only [laneLost]
  repeat' split
  all_goals simp

@[simp] theorem statusLost_dram (s : State) (p : Nat) : (statusLost s p).dram = s.dram := by simp [statusLost]
@[simp] theorem frameError_dram (s : State) (p : Nat) : (frameError s p).dram = s.dram := by simp [frameError]

@[simp] theorem frameErr_dram (s : State) (p op : Nat) : (frameErr s p op).dram = s.dram := by
  simp only [frameErr]
  repeat' split
  all_goals simp

@[simp] theorem statusMissed_dram (s : State) (p : Nat) : (statusMissed s p).dram = s.dram := by simp [statusMissed]

@[simp] theorem replyTimeout_dram (s : State) (p : Nat) : (replyTimeout s p).dram = s.dram := by
  simp only [replyTimeout]
  repeat' split
  all_goals simp

@[simp] theorem parkLate_dram (s : State) (p : Nat) : (parkLate s p).dram = s.dram := by
  unfold parkLate
  split <;> simp

@[simp] theorem plkStatus_dram (s : State) (p st flags rowErr frameErrs : Nat) : (plkStatus s p st flags rowErr frameErrs).dram = s.dram :=
  by simp [plkStatus]
@[simp] theorem readStatus_dram (s : State) (p : Nat) : (readStatus s p).dram = s.dram := rfl
@[simp] theorem runRetrain_dram (s : State) (p id : Nat) (pl : List Byte) : (runRetrain s p id pl).1.dram = s.dram := by simp [runRetrain]
@[simp] theorem runPark_dram (s : State) (p id : Nat) (pl : List Byte) : (runPark s p id pl).1.dram = s.dram := by simp [runPark]
@[simp] theorem runUnpark_dram (s : State) (p id : Nat) : (runUnpark s p id).1.dram = s.dram := by simp [runUnpark]
@[simp] theorem runReadStatus_dram (s : State) (p id : Nat) : (runReadStatus s p id).1.dram = s.dram := by simp [runReadStatus]
@[simp] theorem runRestore_dram (s : State) (id : Nat) : (runRestore s id).1.dram = s.dram := by simp [runRestore]
@[simp] theorem schedLoaded_dram (s : State) (ok : Bool) : (schedLoaded s ok).dram = s.dram := by simp [schedLoaded]

@[simp] theorem variantLoadDone_dram (s : State) (ok : Bool) : (variantLoadDone s ok).dram = s.dram := by
  unfold variantLoadDone
  split <;> simp

@[simp] theorem discardBead_dram (s : State) : (discardBead s).dram = s.dram := by simp [discardBead]
@[simp] theorem beadLate_dram (s : State) (rod time : Nat) : (beadLate s rod time).dram = s.dram := by simp [beadLate]
@[simp] theorem sendBlock_dram (s : State) (p b : Nat) (r : PlaneRef) (row : Nat → List Byte) (zeros : List Nat) :
    (sendBlock s p b r row zeros).dram = s.dram := by simp [sendBlock]
@[simp] theorem retireSlot_dram (s : State) (n : Nat) : (retireSlot s n).dram = s.dram := by simp [retireSlot]
@[simp] theorem cacheErrors_dram (s : State) (n : Nat) (ce : Bool) (ue : Option Nat) : (cacheErrors s n ce ue).dram = s.dram :=
  by simp [cacheErrors]
@[simp] theorem resetBlock_dram (s : State) (p showMask darkMask : Nat) (aborts : Bool) :
    (resetBlock s p showMask darkMask aborts).dram = s.dram := by simp [resetBlock]
@[simp] theorem containPort_dram (s : State) (p : Nat) : (containPort s p).dram = s.dram := by simp [containPort]

@[simp] theorem loadBlock_dram (s : State) (p b plane : Nat) (cached blank : Bool) (missing : List Nat) (cacheCe : Bool) (cacheUe : Option Nat) :
    (loadBlock s p b plane cached blank missing cacheCe cacheUe).dram = s.dram := by
  simp only [loadBlock]
  repeat' split
  all_goals simp

end Sys2Proof.Machine
end


section
/-! Operations that leave the contents of DRAM alone, each with the equation that says so:
calibration, light, the scanner, the loops and the DRAM controller. -/

namespace Sys2Proof.Machine

/-! ### Calibration -/

@[simp] theorem calRemember_dram (s : State) (n : Nat) : (calRemember s n).dram = s.dram := rfl
@[simp] theorem calRetarget_dram (s : State) (n gain : Nat) (off : Int) : (calRetarget s n gain off).dram = s.dram := rfl
@[simp] theorem calRampStep_dram (s : State) : (calRampStep s).dram = s.dram := by simp [calRampStep]

@[simp] theorem calSuspend_dram (s : State) (chans : List Nat) (on : Bool) :
    (calSuspend s chans on).dram = s.dram := foldl_dram (fun s n => by
  dsimp only
  split <;> rfl) chans s

@[simp] theorem calStart_dram (s : State) (cmdId : Option Nat) (chans : List Nat) : (calStart s cmdId chans).dram = s.dram :=
  by simp [calStart]
@[simp] theorem runCalRun_dram (s : State) (id : Nat) (p : List Byte) : (runCalRun s id p).1.dram = s.dram := by simp [runCalRun]
@[simp] theorem calFail_dram (s : State) (n result : Nat) : (calFail s n result).dram = s.dram := by simp [calFail]
@[simp] theorem calJudge_dram (meas : List CalMeas) (ok : Bool) (a : State × List Nat) (n : Nat) :
    (calJudge meas ok a n).1.dram = a.1.dram := by
  unfold calJudge
  dsimp only
  split
  · simp
  · split
    · simp
    · split <;> simp

@[simp] theorem calRunDone_dram (s0 : State) (vrefUv : Nat) (meas : List CalMeas) : (calRunDone s0 vrefUv meas).dram = s0.dram := by
  unfold calRunDone
  split
  · rfl
  · extract_lets s bad _ s1 res m s2
    have h1 : s1.dram = s0.dram := calSuspend_dram s0 _ false
    have h2 : res.1.dram = s0.dram := by
      simp only [res]
      split
      · simp [h1]
      · exact List.foldlRecOn _ _ (motive := fun a : State × List Nat => a.1.dram = s0.dram) h1
          (fun a ha n _ => (calJudge_dram meas _ a n).trans ha)
    simp [s2, h2]

@[simp] theorem calLoad_dram (s : State) : (calLoad s).dram = s.dram := by simp [calLoad]
@[simp] theorem runCalStore_dram (s : State) (id arrival : Nat) : (runCalStore s id arrival).1.dram = s.dram := by simp [runCalStore]

@[simp] theorem calStoreDone_dram (s : State) (ok : Bool) : (calStoreDone s ok).dram = s.dram := by
  unfold calStoreDone
  split <;> simp

/-! ### Light-source drive -/

@[simp] theorem postBank_dram (s : State) (b : Nat) (prev : BankMode) : (postBank s b prev).dram = s.dram := by simp [postBank]
@[simp] theorem startRamp_dram (s : State) (x1 len : Nat) : (startRamp s x1 len).dram = s.dram := rfl
@[simp] theorem setTargets_dram (s : State) : (setTargets s).dram = s.dram := by simp [setTargets]
@[simp] theorem sendLink_dram (s : State) (b cmd code : Nat) : (sendLink s b cmd code).dram = s.dram := rfl
@[simp] theorem sendDrive_dram (s : State) (b code : Nat) : (sendDrive s b code).dram = s.dram := rfl
@[simp] theorem bankMark_dram (s : State) (b : Nat) (m : BankMode) (cause : Nat) : (bankMark s b m cause).dram = s.dram := rfl

@[simp] theorem clearBankSlot_dram (s : State) (b : Nat) : (clearBankSlot s b).dram = s.dram := by
  unfold clearBankSlot
  split <;> simp

@[simp] theorem bankLeave_dram (s : State) (b : Nat) : (bankLeave s b).dram = s.dram := by simp [bankLeave]
@[simp] theorem hlOff_dram (s : State) : (hlOff s).dram = s.dram := rfl
@[simp] theorem setBank_dram (s : State) (b : Nat) (m : BankMode) (cause : Nat) : (setBank s b m cause).dram = s.dram := by simp [setBank]
@[simp] theorem judgeWindow_dram (s : State) (b : Nat) (high opn : Bool) : (judgeWindow s b high opn).dram = s.dram := by simp [judgeWindow]
@[simp] theorem endWindow_dram (s : State) (b : Nat) : (endWindow s b).dram = s.dram := by simp [endWindow]

@[simp] theorem windowTick_dram (s : State) : (windowTick s).dram = s.dram := forN_dram (fun s b => by
  split <;> simp) 12 s

@[simp] theorem applyCode_dram (s : State) (b : Nat) (force : Bool) : (applyCode s b force).dram = s.dram := by simp [applyCode]
@[simp] theorem armBank_dram (s : State) (b cause : Nat) : (armBank s b cause).dram = s.dram := by simp [armBank]
@[simp] theorem postSafe_dram (s : State) (entered : Bool) : (postSafe s entered).dram = s.dram := by simp [postSafe]
@[simp] theorem bankOff_dram (s : State) (b : Nat) : (bankOff s b).dram = s.dram := by simp [bankOff]
@[simp] theorem driveOthersOff_dram (s : State) : (driveOthersOff s).dram = s.dram := by simp [driveOthersOff]
@[simp] theorem safeBegin_dram (s : State) (source : Nat) (shutter : Bool) : (safeBegin s source shutter).dram = s.dram :=
  by simp [safeBegin]
@[simp] theorem lightOff_dram (s : State) (shutter : Bool) : (lightOff s shutter).dram = s.dram := rfl
@[simp] theorem enterSafe_dram (s : State) (source : Nat) (shutter : Bool) : (enterSafe s source shutter).dram = s.dram :=
  by simp [enterSafe]
@[simp] theorem leaveSafe_dram (was : Bool) (s : State) : (leaveSafe was s).dram = s.dram := by simp [leaveSafe]
@[simp] theorem openShutter_dram (s : State) : (openShutter s).dram = s.dram := by simp [openShutter]
@[simp] theorem runRearm_dram (s : State) (p : List Byte) : (runRearm s p).1.dram = s.dram := by simp [runRearm]
@[simp] theorem setPulse_dram (s : State) (b : Nat) (p : Option (Option Nat)) : (setPulse s b p).dram = s.dram := by simp [setPulse]
@[simp] theorem pulseTick_dram (s : State) : (pulseTick s).dram = s.dram := by simp [pulseTick]
@[simp] theorem levelBead_dram (s : State) (c : Nat) (l : Option Nat) : (levelBead s c l).dram = s.dram := by simp [levelBead]
@[simp] theorem diagPulse_dram (s : State) (b l width : Nat) : (diagPulse s b l width).dram = s.dram := by simp [diagPulse]
@[simp] theorem calPair_dram (s : State) (width gap : Nat) : (calPair s width gap).dram = s.dram := by simp [calPair]
@[simp] theorem pairBank_dram (s : State) (l : Nat) (q : PairRead) : (pairBank s l q).dram = s.dram := by simp [pairBank]
@[simp] theorem levelPair_dram (s : State) (reads : List PairRead) : (levelPair s reads).dram = s.dram := by simp [levelPair]
@[simp] theorem lsdBoundary_dram (s : State) : (lsdBoundary s).dram = s.dram := by simp [lsdBoundary]
@[simp] theorem showGains_dram (s : State) (gains : List Nat) : (showGains s gains).dram = s.dram := by simp [showGains]
@[simp] theorem lsdQuiesced_dram (s : State) : (lsdQuiesced s).dram = s.dram := by simp [lsdQuiesced]
@[simp] theorem lsdRampStart_dram (s : State) : (lsdRampStart s).dram = s.dram := rfl
@[simp] theorem lsdStart_dram (s1 : State) (first : Bool) : (lsdStart s1 first).dram = s1.dram := by simp [lsdStart]
@[simp] theorem beginLink_dram (s : State) (b : Nat) : (beginLink s b).dram = s.dram := rfl
@[simp] theorem sendFrames_dram (s : State) (b : Nat) (l : List Nat) : (sendFrames s b l).dram = s.dram := foldl_dram (by intros; rfl) l s
@[simp] theorem fillTable_dram (version : Nat) (s : State) (b : Nat) : (fillTable version s b).dram = s.dram := rfl
@[simp] theorem fitTable_dram (s : State) (b v : Nat) : (fitTable s b v).dram = s.dram := by simp [fitTable]

@[simp] theorem restartDone_dram (s : State) (b : Nat) (st : Status) : (restartDone s b st).dram = s.dram := by
  unfold restartDone
  split <;> simp

@[simp] theorem lsdSwitched_dram (s : State) : (lsdSwitched s).dram = s.dram := by simp [lsdSwitched]

@[simp] theorem pinTestCheck_dram (s : State) : (pinTestCheck s).dram = s.dram := by
  unfold pinTestCheck
  split <;> simp

@[simp] theorem linkFail_dram (s : State) (b cause : Nat) : (linkFail s b cause).dram = s.dram := by simp [linkFail]

@[simp] theorem linkStartDone_dram (s : State) (b : Nat) (r : LinkFound) : (linkStartDone s b r).dram = s.dram := by
  simp only [linkStartDone]
  repeat' split
  all_goals simp

@[simp] theorem replyError_dram (s : State) (b : Nat) : (replyError s b).dram = s.dram := by simp [replyError]
@[simp] theorem nextNop_dram (s : State) (b : Nat) : (nextNop s b).dram = s.dram := by simp [nextNop]
@[simp] theorem driverReply_dram (s : State) (b f : Nat) : (driverReply s b f).dram = s.dram := by simp [driverReply]
@[simp] theorem replyMissing_dram (s : State) (b : Nat) : (replyMissing s b).dram = s.dram := by simp [replyMissing]
@[simp] theorem bankUnverified_dram (s : State) (b : Nat) : (bankUnverified s b).dram = s.dram := by simp [bankUnverified]

@[simp] theorem pinTest_dram (s : State) (mask : Nat) (found : List (Nat × Nat)) : (pinTest s mask found).1.dram = s.dram := by
  unfold pinTest
  extract_lets shorts bad s1 s2
  have h1 : s1.dram = s.dram := forMask_dram (by intros; rfl) 12 mask s
  exact (forN_dram (fun s b => by simp) 12 s1).trans h1

@[simp] theorem runPinTest_dram (s : State) (id : Nat) (p : List Byte) (shorts : List (Nat × Nat)) :
    (runPinTest s id p shorts).1.dram = s.dram := by simp [runPinTest]
@[simp] theorem postDerate_dram (s : State) (c : Nat) : (postDerate s c).dram = s.dram := by simp [postDerate]

@[simp] theorem deratePrim_dram (s : State) (c : Nat) : (deratePrim s c).dram = s.dram := by
  unfold deratePrim
  extract_lets _ failing fresh _ _ _ _ _ held _ _ _ _ s1 s2
  have h2 : s2.dram = s.dram := by
    simp only [s2]
    split
    · exact postDerate_dram s1 c
    · rfl
  exact (foldl_dram (by intros; rfl) fresh s2).trans h2

@[simp] theorem derateUpdate_dram (s : State) : (derateUpdate s).dram = s.dram := by simp [derateUpdate]
@[simp] theorem runDerate_dram (s : State) (c : Nat) (p : List Byte) : (runDerate s c p).1.dram = s.dram := by simp [runDerate]
@[simp] theorem runSafe_dram (s : State) (p : List Byte) : (runSafe s p).1.dram = s.dram := by simp [runSafe]
@[simp] theorem runBrightness_dram (s : State) (p : List Byte) : (runBrightness s p).1.dram = s.dram := by simp [runBrightness]
@[simp] theorem runColourLock_dram (s : State) (id : Nat) (p : List Byte) : (runColourLock s id p).1.dram = s.dram :=
  by simp [runColourLock]
@[simp] theorem runLinkRestart_dram (s : State) (b id : Nat) : (runLinkRestart s b id).1.dram = s.dram := by simp [runLinkRestart]
@[simp] theorem interlockPins_dram (s : State) (aHigh bHigh : Bool) : (interlockPins s aHigh bHigh).dram = s.dram := rfl

/-! ### The highlight scanner -/

@[simp] theorem hlsForce_dram (s : State) : (hlsForce s).dram = s.dram := rfl

@[simp] theorem modHlsSlot_dram (s : State) (kind : Nat) (f : Slot → Slot) : (modHlsSlot s kind f).dram = s.dram := by
  unfold modHlsSlot
  split <;> simp

@[simp] theorem hlsTarget_dram (s : State) (kind : Nat) (v : Nat) : (hlsTarget s kind v).dram = s.dram := by simp [hlsTarget]
@[simp] theorem setInc_dram (s : State) (inc t : Nat) : (setInc s inc t).dram = s.dram := rfl
@[simp] theorem postHls_dram (s : State) (prev : HlsMode) : (postHls s prev).dram = s.dram := by simp [postHls]
@[simp] theorem setHls_dram (s : State) (m : HlsMode) (cause : Nat) : (setHls s m cause).dram = s.dram := by simp [setHls]
@[simp] theorem slowDrive_dram (s : State) (code : Nat) : (slowDrive s code).dram = s.dram := rfl
@[simp] theorem hlsEnter_dram (s : State) : (hlsEnter s).dram = s.dram := by simp [hlsEnter]
@[simp] theorem scannerRest_dram (s : State) (cause : Nat) (fault : Bool) : (scannerRest s cause fault).dram = s.dram := rfl
@[simp] theorem parkTrigger_dram (s : State) : (parkTrigger s).dram = s.dram := rfl
@[simp] theorem parkScanner_dram (s0 : State) (cause : Nat) (fault : Bool) : (parkScanner s0 cause fault).dram = s0.dram :=
  by simp [parkScanner]
@[simp] theorem hlsBegin_dram (s : State) : (hlsBegin s).dram = s.dram := by simp [hlsBegin]
@[simp] theorem parkEnd_dram (s : State) : (parkEnd s).dram = s.dram := by simp [parkEnd]
@[simp] theorem hlsResume_dram (s : State) : (hlsResume s).dram = s.dram := by simp [hlsResume]
@[simp] theorem parkReached_dram (s : State) : (parkReached s).dram = s.dram := by simp [parkReached]
@[simp] theorem parkForced_dram (s : State) : (parkForced s).dram = s.dram := by simp [parkForced]
@[simp] theorem lockTimeout_dram (s : State) : (lockTimeout s).dram = s.dram := by simp [lockTimeout]
@[simp] theorem noMotion_dram (s : State) : (noMotion s).dram = s.dram := by simp [noMotion]
@[simp] theorem motionLost_dram (s : State) : (motionLost s).dram = s.dram := by simp [motionLost]
@[simp] theorem judgePeriod_dram (s : State) (hi lo : Nat) : (judgePeriod s hi lo).dram = s.dram := by simp [judgePeriod]
@[simp] theorem lockStep_dram (s : State) (y : Int) : (lockStep s y).dram = s.dram := by simp [lockStep]

@[simp] theorem fastCrossing_dram (s : State) (tick idx before after pMax pMin : Nat) :
    (fastCrossing s tick idx before after pMax pMin).dram = s.dram := by
  simp only [fastCrossing]
  repeat' split
  all_goals simp

@[simp] theorem fastDrive_dram (s : State) : (fastDrive s).dram = s.dram := by simp [fastDrive]

@[simp] theorem slowTick_dram (s : State) : (slowTick s).dram = s.dram := by
  unfold slowTick
  split
  · split <;> simp
  · simp

@[simp] theorem hlsTick_dram (s : State) : (hlsTick s).dram = s.dram := by
  simp only [hlsTick]
  repeat' split
  all_goals simp

@[simp] theorem hlsFrameStart_dram (s : State) : (hlsFrameStart s).dram = s.dram := by simp [hlsFrameStart]
@[simp] theorem hlsTrialStart_dram (s : State) : (hlsTrialStart s).dram = s.dram := by simp [hlsTrialStart]
@[simp] theorem hlsSof_dram (s : State) : (hlsSof s).dram = s.dram := by simp [hlsSof]
@[simp] theorem hlsTake_dram (s : State) (no : Nat) (layer : Option LayerSt) (pqPeak : Nat) : (hlsTake s no layer pqPeak).dram = s.dram :=
  by simp [hlsTake]

@[simp] theorem hlPassUes_dram (s : State) (p : HlPass) (bad : List Nat) : (hlPassUes s p bad).dram = s.dram := by
  unfold hlPassUes
  split <;> simp

@[simp] theorem scanLine_dram (s : State) (first count period : Nat) : (scanLine s first count period).dram = s.dram := rfl

@[simp] theorem scanLineStart_dram (s : State) : (scanLineStart s).dram = s.dram := by
  unfold scanLineStart
  split <;> simp

@[simp] theorem scanTick_dram (s : State) : (scanTick s).dram = s.dram := by
  unfold scanTick
  split <;> simp

@[simp] theorem scanLineEnd_dram (s : State) : (scanLineEnd s).dram = s.dram := by
  unfold scanLineEnd
  split <;> simp

@[simp] theorem runHlsStart_dram (s : State) (id : Nat) : (runHlsStart s id).1.dram = s.dram := by
  have key (t : State) (h : t.dram = s.dram) : (if (s.hls.mode == .parked || s.hls.mode == .failed) && s.ftgOn &&
      s.hls.parkTrigAt != some s.tsc then ({ t with hls := { t.hls with startId := some id } }, Reply.later)
      else (s, .now .badState [])).1.dram = s.dram := by
    split
    · exact h
    · rfl
  exact key _ (hlsBegin_dram s)

@[simp] theorem runHlsPark_dram (s : State) (id : Nat) : (runHlsPark s id).1.dram = s.dram := by
  unfold runHlsPark
  split <;> simp

/-! ### The Loop Engine -/

@[simp] theorem residStep_dram (s : State) (i : Nat) (c : LoopCfg) (diff : Int) : (residStep s i c diff).dram = s.dram :=
  by simp [residStep]
@[simp] theorem oscStep_dram (s : State) (i : Nat) (c : LoopCfg) (e0 : Int) : (oscStep s i c e0).dram = s.dram := by simp [oscStep]

@[simp] theorem slotBoundary_dram (s : State) (i : Nat) : (slotBoundary s i).dram = s.dram := by
  simp only [slotBoundary]
  repeat' split
  all_goals simp

@[simp] theorem slotStore_dram (s : State) (e : Nat × StoreError) : (slotStore s e).dram = s.dram := by
  unfold slotStore
  split
  · simp
  · split <;> simp

@[simp] theorem slotStep_dram (sample : Nat → Nat) (s : State) (i : Nat) : (slotStep sample s i).dram = s.dram := by simp [slotStep]
@[simp] theorem slotTick_dram (sample : Nat → Nat) (s : State) (i : Nat) : (slotTick sample s i).dram = s.dram := by simp [slotTick]
@[simp] theorem loopTick_dram (s : State) (samples : List Nat) (store : List (Nat × StoreError)) :
    (loopTick s samples store).dram = s.dram := by simp [loopTick]
@[simp] theorem windowBead_dram (s : State) (mask : Nat) (opens : Bool) : (windowBead s mask opens).dram = s.dram := by simp [windowBead]
@[simp] theorem windowLate_dram (s : State) (mask : Nat) : (windowLate s mask).dram = s.dram := forMask_dram (by intros; rfl) 24 mask s
@[simp] theorem closeWindows_dram (s : State) (frame : Bool) : (closeWindows s frame).dram = s.dram := rfl

@[simp] theorem lpeSwitched_dram (s : State) : (lpeSwitched s).dram = s.dram := by
  unfold lpeSwitched
  extract_lets ids load _ s1 s2
  have h2 : s2.dram = s.dram := forN_dram (by intros; rfl) 24 s1
  exact (foldl_dram (fun s id => by simp) ids s2).trans h2

@[simp] theorem runLpeSwap_dram (s : State) (i id : Nat) (p : List Byte) : (runLpeSwap s i id p).1.dram = s.dram := by simp [runLpeSwap]
@[simp] theorem runSlotReset_dram (s : State) (i id : Nat) : (runSlotReset s i id).1.dram = s.dram := by simp [runSlotReset]

/-! ### The DRAM controller -/

@[simp] theorem setTrn_dram (s : State) (c : Nat) (m : TrnMode) (cause : Nat) : (setTrn s c m cause).dram = s.dram := by simp [setTrn]
@[simp] theorem refpb_dram (s : State) (c : Nat) (forced : Bool) : (refpb s c forced).dram = s.dram := rfl
@[simp] theorem refreshDue_dram (s : State) (c : Nat) : (refreshDue s c).dram = s.dram := by simp [refreshDue]
@[simp] theorem refreshOpportunity_dram (s : State) (c : Nat) : (refreshOpportunity s c).dram = s.dram := by simp [refreshOpportunity]
@[simp] theorem ownSlot_dram (s : State) : (ownSlot s).dram = s.dram := by simp [ownSlot]
@[simp] theorem refreshBead_dram (s : State) (chans period count : Nat) : (refreshBead s chans period count).dram = s.dram := rfl

@[simp] theorem mr4Read_dram (s : State) (c : Nat) (cls : Option Nat) : (mr4Read s c cls).dram = s.dram := by
  unfold mr4Read
  split
  · simp
  · split <;> simp

@[simp] theorem noteStep_dram (s : State) (c : Nat) (r : StepResult) : (noteStep s c r).dram = s.dram := by simp [noteStep]
@[simp] theorem moveCodes_dram (s : State) (c : Nat) (r : StepResult) : (moveCodes s c r).dram = s.dram := by simp [moveCodes]
@[simp] theorem periodicStep_dram (s : State) (c : Nat) (r : StepResult) : (periodicStep s c r).dram = s.dram := by simp [periodicStep]
@[simp] theorem channelFails_dram (s : State) (c cause : Nat) : (channelFails s c cause).dram = s.dram := by simp [channelFails]

@[simp] theorem trainingDone_dram (s : State) (c : Nat) (r : StepResult) : (trainingDone s c r).dram = s.dram := by
  simp only [trainingDone]
  repeat' split
  all_goals simp

@[simp] theorem trainingBead_dram (s : State) (chans count : Nat) : (trainingBead s chans count).dram = s.dram := by simp [trainingBead]
@[simp] theorem memBoundary_dram (s : State) : (memBoundary s).dram = s.dram := by simp [memBoundary]
@[simp] theorem runMemTrain_dram (s : State) (c id : Nat) (p : List Byte) : (runMemTrain s c id p).1.dram = s.dram := by simp [runMemTrain]

end Sys2Proof.Machine
end


section
/-! Operations that leave the contents of DRAM alone, each with the equation that says so:
audio, power, verification, faults, frames and images. -/

namespace Sys2Proof.Machine

/-! ### Audio ports -/

@[simp] theorem ringWord_dram (s : State) (a : Nat) : (ringWord s a).1.dram = s.dram := by simp [ringWord]

@[simp] theorem audFetch_dram (p : Nat) (n : Nat) (s : State) : (audFetch p n s).dram = s.dram := by
  induction n generalizing s with
  | zero => rfl
  | succ n ih =>
    unfold audFetch
    dsimp only
    split
    · rfl
    · rw [ih]
      simp

@[simp] theorem maskEdge_dram (s : State) (p : Nat) : (maskEdge s p).dram = s.dram := rfl
@[simp] theorem stopEdge_dram (s : State) (p : Nat) : (stopEdge s p).dram = s.dram := by simp [stopEdge]
@[simp] theorem putFrame_dram (s : State) (p left right : Nat) : (putFrame s p left right).dram = s.dram := rfl
@[simp] theorem sendFrameOut_dram (s : State) (p : Nat) (f : Nat × Nat) : (sendFrameOut s p f).dram = s.dram := rfl

@[simp] theorem sampleOut_dram (s0 : State) (p : Nat) : (sampleOut s0 p).dram = s0.dram := by
  simp only [sampleOut]
  repeat' split
  all_goals simp

@[simp] theorem runAudStart_dram (s : State) (p id : Nat) (pl : List Byte) : (runAudStart s p id pl).1.dram = s.dram :=
  by simp [runAudStart]

@[simp] theorem audRunning_dram (s : State) (p : Nat) : (audRunning s p).dram = s.dram := by
  unfold audRunning
  split <;> simp

@[simp] theorem runAudStop_dram (s : State) (p id : Nat) : (runAudStop s p id).1.dram = s.dram := by simp [runAudStop]
@[simp] theorem audStopAll_dram (s : State) (st : Status) : (audStopAll s st).dram = s.dram := by simp [audStopAll]
@[simp] theorem pllUnlock_dram (s : State) : (pllUnlock s).dram = s.dram := by simp [pllUnlock]
@[simp] theorem pllLock_dram (s : State) : (pllLock s).dram = s.dram := by simp [pllLock]

@[simp] theorem audSwitched_dram (s : State) : (audSwitched s).dram = s.dram := by
  unfold audSwitched
  extract_lets s1 s2
  have h1 : s1.dram = s.dram := audStopAll_dram s .badState
  have h2 : s2.dram = s1.dram := forN_dram (by intros; rfl) 5 s1
  clear_value s1 s2
  exact h2.trans h1

@[simp] theorem audFrame_dram (s : State) (p : Nat) : (audFrame s p).dram = s.dram := by simp [audFrame]

/-! ### Thermal and power -/

@[simp] theorem postThresh_dram (s : State) (i k : Nat) (on : Bool) (level : Int) : (postThresh s i k on level).dram = s.dram :=
  by simp [postThresh]
@[simp] theorem stopBegin_dram (s : State) : (stopBegin s).dram = s.dram := rfl
@[simp] theorem stopEnd_dram (s : State) : (stopEnd s).dram = s.dram := by simp [stopEnd]
@[simp] theorem stopRampEnd_dram (s : State) : (stopRampEnd s).dram = s.dram := by simp [stopRampEnd]
@[simp] theorem stopTick_dram (s : State) : (stopTick s).dram = s.dram := by simp [stopTick]
@[simp] theorem threshAssert_dram (s : State) (i k : Nat) : (threshAssert s i k).dram = s.dram := by simp [threshAssert]
@[simp] theorem threshStep_dram (i : Nat) (v : Int) (s : State) (k : Nat) : (threshStep i v s k).dram = s.dram := by simp [threshStep]

@[simp] theorem sampleSensor_dram (r : Nat → Option Int) (s : State) (i : Nat) : (sampleSensor r s i).dram = s.dram := by
  unfold sampleSensor
  split <;> simp

@[simp] theorem sampleAll_dram (s : State) (die : Option Int) (ntc : List Nat) : (sampleAll s die ntc).dram = s.dram := by simp [sampleAll]
@[simp] theorem sampleTripped_dram (s : State) (die : Option Int) : (sampleTripped s die).dram = s.dram := by simp [sampleTripped]
@[simp] theorem runClearMinMax_dram (s : State) (i : Nat) : (runClearMinMax s i).1.dram = s.dram := rfl
@[simp] theorem postPwr_dram (s : State) (mask st cause : Nat) : (postPwr s mask st cause).dram = s.dram := by simp [postPwr]
@[simp] theorem clearBlocks_dram (s : State) (d : Nat) : (clearBlocks s d).dram = s.dram := rfl

@[simp] theorem domainFresh_dram (s : State) (d : Nat) : (domainFresh s d).dram = s.dram := by
  unfold domainFresh
  extract_lets s1 _ s2 l _ _ s30
  have h1 : s1.dram = s.dram := clearBlocks_dram s d
  have h30 : s30.dram = s.dram := (lpeSwitched_dram s1).trans h1
  have h33 : (audSwitched s1).dram = s.dram := (audSwitched_dram s1).trans h1
  have h31 : (forN 12 (fun s b => fillTable (bankAt s b).version s b) s1).dram = s.dram := (forN_dram (by intros; rfl) 12 s1).trans h1
  have hf (g : State → Nat → State) (hg : ∀ s x, (g s x).dram = s.dram) (n : Nat) : ((List.range n).foldl g s1).dram = s.dram :=
    (foldl_dram hg _ s1).trans h1
  have h2 (g : State → Nat → State) (hg : ∀ s x, (g s x).dram = s.dram) (n : Nat) : ((List.range n).foldl g s2).dram = s.dram :=
    (foldl_dram hg _ s2).trans h1
  clear_value s30 s1
  exact dram_of_ite (dram_of_ite (h2 _ (by intros; rfl) 12) h1) (dram_of_ite h1 (dram_of_ite (hf _ (by intros; rfl) 6)
    (dram_of_ite (hf _ (by intros; rfl) 6) (dram_of_ite h1 (dram_of_ite h1 (dram_of_ite h1 (dram_of_ite h1
      (dram_of_ite (dram_of_ite h31 h1) (dram_of_ite (dram_of_ite h30 h1) (dram_of_ite (dram_of_ite h33 h1) (dram_of_ite h1 h1)))))))))))

@[simp] theorem notePwr_dram (s : State) (st : Status) (us : Nat) : (notePwr s st us).dram = s.dram := rfl
@[simp] theorem pwrEnd_dram (s : State) (r : PwrRun) (st : Status) (cause : Nat) : (pwrEnd s r st cause).dram = s.dram := by simp [pwrEnd]
@[simp] theorem runPwrSet_dram (s : State) (id : Nat) (p : List Byte) : (runPwrSet s id p).1.dram = s.dram := by simp [runPwrSet]

/-! ### Verification -/

@[simp] theorem regionWrite_dram (s : State) (o r k v : Nat) : (regionWrite s o r k v).dram = s.dram := rfl
@[simp] theorem verTake_dram (s : State) (stamp : Nat) : (verTake s stamp).dram = s.dram := rfl

@[simp] theorem verSwitched_dram (s : State) : (verSwitched s).dram = s.dram := by
  unfold verSwitched
  extract_lets s1 _
  have h1 : s1.dram = s.dram := forN_dram (by intros; rfl) 112 s
  clear_value s1
  exact (forN_dram (by intros; rfl) 112 _).trans h1

@[simp] theorem verRecord_dram (s : State) (o r residue frame : Nat) (carried : Bool) :
    (verRecord s o r residue frame carried).dram = s.dram := by simp [verRecord]

@[simp] theorem verPass_dram (s : State) (o : Nat) (bytes : Region → List Byte) (changed frame : Nat) :
    (verPass s o bytes changed frame).dram = s.dram := by
  unfold verPass
  extract_lets on res inj real injR bad held s1 s2 s3 _ s4 s5
  have h1 : s1.dram = s.dram := by
    simp only [s1]
    cases inj <;> simp
  have h2 : s2.dram = s.dram := (foldl_dram (by intros; rfl) real s1).trans h1
  have h4 : s4.dram = s.dram := (bumpBy_dram s2 _ _).trans h2
  have h5 : s5.dram = s.dram := by simp [s5, h4]
  exact (foldl_dram (fun s e => by simp) res s5).trans h5

@[simp] theorem verPortPasses_dram (s : State) (ps : Pass) : (verPortPasses s ps).dram = s.dram := by simp [verPortPasses]
@[simp] theorem verCommit_dram (s : State) (arrival : Nat) : (verCommit s arrival).dram = s.dram := rfl
@[simp] theorem verStale_dram (s : State) : (verStale s).dram = s.dram := by simp [verStale]

/-! ### The fault collector -/

@[simp] theorem enterFault_dram (s : State) (src cls : Nat) : (enterFault s src cls).dram = s.dram := rfl
@[simp] theorem logNote_dram (s : State) (r : FaultRec) : (logNote s r).dram = s.dram := rfl
@[simp] theorem extNote_dram (s : State) (r : FaultRec) : (extNote s r).dram = s.dram := rfl
@[simp] theorem captureFirst_dram (s : State) (rc : FaultRec) : (captureFirst s rc).dram = s.dram := by simp [captureFirst]
@[simp] theorem countReport_dram (s : State) (r : Report) : (countReport s r).dram = s.dram := by simp [countReport]
@[simp] theorem noteSource_dram (s : State) (r : Report) (rc : FaultRec) (coal : Bool) : (noteSource s r rc coal).dram = s.dram :=
  by simp [noteSource]

@[simp] theorem applyReactions_dram (s : State) (l : List Report) : (applyReactions s l).dram = s.dram := by
  simp only [applyReactions]
  repeat' split
  all_goals simp

@[simp] theorem postRecovered_dram (s : State) (src cause count : Nat) : (postRecovered s src cause count).dram = s.dram :=
  by simp [postRecovered]
@[simp] theorem recover_dram (s : State) (src cause : Nat) : (recover s src cause).dram = s.dram := by simp [recover]
@[simp] theorem exitHold_dram (s : State) (src : Nat) : (exitHold s src).dram = s.dram := by simp [exitHold]
@[simp] theorem exitConditions_dram (before s : State) : (exitConditions before s).dram = s.dram := by simp [exitConditions]
@[simp] theorem quietOne_dram (s : State) (src : Nat) : (quietOne s src).dram = s.dram := by simp [quietOne]
@[simp] theorem quietTick_dram (s : State) : (quietTick s).dram = s.dram := by simp [quietTick]
@[simp] theorem quietFrame_dram (s : State) : (quietFrame s).dram = s.dram := by simp [quietFrame]
@[simp] theorem pendingClear_dram (s : State) (n v : Nat) : (pendingClear s n v).dram = s.dram := by simp [pendingClear]

@[simp] theorem runReadLog_dram (s : State) (p : List Byte) : (runReadLog s p).1.dram = s.dram := by
  simp only [runReadLog]
  split <;> simp

/-! ### The host message interface -/

@[simp] theorem sendLtr_dram (before s : State) : (sendLtr before s).dram = s.dram := by simp [sendLtr]
@[simp] theorem hmiEnable_dram (s : State) : (hmiEnable s).dram = s.dram := by simp [hmiEnable]
@[simp] theorem hmiDisable_dram (s : State) : (hmiDisable s).dram = s.dram := by simp [hmiDisable]
@[simp] theorem hmiReset_dram (s : State) : (hmiReset s).dram = s.dram := by simp [hmiReset]
@[simp] theorem writeHmiCtrl_dram (s : State) (v : Nat) : (writeHmiCtrl s v).dram = s.dram := by simp [writeHmiCtrl]
@[simp] theorem hmiClear_dram (s : State) : (hmiClear s).dram = s.dram := rfl
@[simp] theorem functionReset_dram (s : State) : (functionReset s).dram = s.dram := by simp [functionReset]
@[simp] theorem linkDown_dram (s : State) : (linkDown s).dram = s.dram := rfl
@[simp] theorem hmiResume_dram (s : State) : (hmiResume s).dram = s.dram := by simp [hmiResume]
@[simp] theorem setPowerState_dram (s : State) (d0 : Bool) : (setPowerState s d0).dram = s.dram := by simp [setPowerState]
@[simp] theorem setBusMaster_dram (s : State) (on : Bool) : (setBusMaster s on).dram = s.dram := by simp [setBusMaster]
@[simp] theorem ringError_dram (s : State) (ring reason index : Nat) : (ringError s ring reason index).dram = s.dram := by simp [ringError]
@[simp] theorem wdRestart_dram (s : State) : (wdRestart s).dram = s.dram := rfl
@[simp] theorem doorbellCmd_dram (s : State) (v : Nat) : (doorbellCmd s v).dram = s.dram := by simp [doorbellCmd]
@[simp] theorem doorbellCpl_dram (s : State) (v : Nat) : (doorbellCpl s v).dram = s.dram := by simp [doorbellCpl]
@[simp] theorem doorbellEvt_dram (s : State) (v : Nat) : (doorbellEvt s v).dram = s.dram := by simp [doorbellEvt]

@[simp] theorem writeQueued_dram (s : State) : (writeQueued s).dram = s.dram := by
  unfold writeQueued
  split <;> simp

@[simp] theorem writeLost_dram (s : State) : (writeLost s).dram = s.dram := by simp [writeLost]
@[simp] theorem eventPost_dram (s : State) (failed : Bool) : (eventPost s failed).dram = s.dram := by simp [eventPost]
@[simp] theorem coalesceTimeout_dram (s : State) (v : Nat) : (coalesceTimeout s v).dram = s.dram := by simp [coalesceTimeout]
@[simp] theorem unmaskVector_dram (s : State) (v : Nat) : (unmaskVector s v).dram = s.dram := by simp [unmaskVector]
@[simp] theorem hostWatchdog_dram (s : State) : (hostWatchdog s).dram = s.dram := by simp [hostWatchdog]
@[simp] theorem pcieError_dram (s : State) (e : Nat) : (pcieError s e).dram = s.dram := rfl

/-! ### Frame timing -/

@[simp] theorem setSync_dram (s : State) (m : SyncMode) (cause : Nat) : (setSync s m cause).dram = s.dram := by simp [setSync]
@[simp] theorem lockLost_dram (s : State) (cause : Nat) : (lockLost s cause).dram = s.dram := by simp [lockLost]
@[simp] theorem loseLock_dram (s : State) (cause : Nat) : (loseLock s cause).dram = s.dram := by simp [loseLock]
@[simp] theorem takeMode_dram (s : State) : (takeMode s).dram = s.dram := by simp [takeMode]

@[simp] theorem phaseHold_dram (s : State) (a : Option Nat) : (phaseHold s a).dram = s.dram := by
  unfold phaseHold
  split
  · simp
  · split <;> simp

@[simp] theorem sendSymbol_dram (s : State) (n : Nat) : (sendSymbol s n).dram = s.dram := rfl
@[simp] theorem relayEdge_dram (s : State) (high : Bool) : (relayEdge s high).dram = s.dram := by simp [relayEdge]

@[simp] theorem fsyncTick_dram (s : State) : (fsyncTick s).dram = s.dram := by
  unfold fsyncTick
  split <;> simp

@[simp] theorem decisionPoint_dram (s : State) : (decisionPoint s).dram = s.dram := by simp [decisionPoint]
@[simp] theorem frameDone_dram (s : State) (k : Nat) : (frameDone s k).dram = s.dram := by simp [frameDone]
@[simp] theorem groupAdvance_dram (d : Decision) (n : Nat) (s : State) (g : Nat) : (groupAdvance d n s g).dram = s.dram :=
  by simp [groupAdvance]

@[simp] theorem frameTallies_dram (before : State) (k : Option Nat) (d : Decision) (lost : Bool) (s : State) :
    (frameTallies before k d lost s).dram = s.dram := by
  unfold frameTallies
  split <;> simp

@[simp] theorem postSof_dram (s : State) (f frame tsc : Nat) : (postSof s f frame tsc).dram = s.dram := by simp [postSof]
@[simp] theorem lineEvents_dram (s : State) (f line : Nat) : (lineEvents s f line).dram = s.dram := by simp [lineEvents]
@[simp] theorem postVariant_dram (s : State) (prev cause pt : Nat) : (postVariant s prev cause pt).dram = s.dram := by simp [postVariant]

@[simp] theorem takeVariant_dram (s : State) (v : Option VarSel) : (takeVariant s v).dram = s.dram := by
  unfold takeVariant
  split <;> simp

@[simp] theorem variantEvents_dram (s : State) (v : Option VarSel) (prev : Nat) : (variantEvents s v prev).dram = s.dram := by
  simp only [variantEvents]
  repeat' split
  all_goals simp

@[simp] theorem segmentEnd_dram (s : State) (frame : Bool) : (segmentEnd s frame).dram = s.dram := by simp [segmentEnd]

@[simp] theorem showNew_dram (s : State) (seen : Bool) : (showNew s seen).dram = s.dram := by
  unfold showNew
  extract_lets new shown _ _ s1 s2
  have h2 : s2.dram = s.dram := forN_dram (by intros; rfl) 5 s1
  split
  · exact h2
  · split <;> simp [h2]

@[simp] theorem frameStart_dram (s : State) (k : Option Nat) (d : Decision) : (frameStart s k d).dram = s.dram := by
  unfold frameStart
  extract_lets n s0 ended v prev _ s1 s2 arr s3 _ _ _ s4 lost s5 s6 s7 s8 s9 s10 s11
  have h0 : s0.dram = s.dram := by
    simp only [s0]
    split <;> simp
  have h2 : s2.dram = s.dram := (foldl_dram (groupAdvance_dram d n) (List.range 4) s1).trans h0
  have h4 : s4.dram = s.dram := by
    refine (takeVariant_dram _ v).trans ?_
    exact ((phaseHold_dram _ arr).trans (takeMode_dram s2)).trans h2
  have h6 : s6.dram = s.dram := by simp [s6, s5, h4]
  have h7 : s7.dram = s.dram := (forN_dram (fun s p => by simp) 6 s6).trans h6
  have h10 : s10.dram = s.dram := by simp [s10, s9, s8, h7]
  have h11 : s11.dram = s.dram := by
    simp only [s11]
    split
    · simp [h10]
    · exact h10
  simp [h11]

@[simp] theorem segmentBoundary_dram (s : State) : (segmentBoundary s).dram = s.dram := by
  unfold segmentBoundary
  extract_lets d s1 _ s2 _ _
  have h1 : s1.dram = s.dram := (forN_dram (fun s p => blocksOff_dram s p) 6 _).trans (segmentEnd_dram s false)
  have h2 : s2.dram = s.dram := segmentEnd_dram s false
  clear_value s1 s2
  split
  · split
    · exact h1
    · split
      · exact frameStart_dram s _ d
      · exact h2
  · rfl

@[simp] theorem realignStart_dram (s : State) : (realignStart s).dram = s.dram := by simp [realignStart]

@[simp] theorem resumePass_dram (s : State) : (resumePass s).dram = s.dram := by
  unfold resumePass
  split <;> simp

@[simp] theorem unparkQuiesced_dram (s : State) : (unparkQuiesced s).dram = s.dram := by simp [unparkQuiesced]
@[simp] theorem reselect_dram (s : State) : (reselect s).dram = s.dram := by simp [reselect]
@[simp] theorem ftgStart_dram (s : State) (first : Bool) : (ftgStart s first).dram = s.dram := by simp [ftgStart]
@[simp] theorem ftgStop_dram (s : State) : (ftgStop s).dram = s.dram := by simp [ftgStop]
@[simp] theorem ftg1Sof_dram (s : State) : (ftg1Sof s).dram = s.dram := by simp [ftg1Sof]
@[simp] theorem lineStart_dram (s : State) (f : Nat) : (lineStart s f).dram = s.dram := by simp [lineStart]

@[simp] theorem latchAll_dram (s : State) (stamp frame start : Nat) : (latchAll s stamp frame start).dram = s.dram := by
  simp only [latchAll]
  repeat' split
  all_goals simp

@[simp] theorem latchLine_dram (s : State) : (latchLine s).dram = s.dram := by simp [latchLine]

@[simp] theorem latchResolve_dram (s : State) : (latchResolve s).dram = s.dram := by
  unfold latchResolve
  split <;> simp

@[simp] theorem latchTick_dram (s : State) : (latchTick s).dram = s.dram := by
  unfold latchTick
  split <;> simp

@[simp] theorem symbolArrival_dram (s : State) : (symbolArrival s).dram = s.dram := by simp [symbolArrival]

@[simp] theorem symbolDecoded_dram (s : State) : (symbolDecoded s).dram = s.dram := by
  unfold symbolDecoded
  split <;> simp

@[simp] theorem darkSpan_dram (s : State) : (darkSpan s).dram = s.dram := by simp [darkSpan]

@[simp] theorem holdEnd_dram (s : State) : (holdEnd s).dram = s.dram := by
  unfold holdEnd
  split <;> simp

@[simp] theorem portReady_dram (s : State) (p : Nat) : (portReady s p).dram = s.dram := by simp [portReady]

/-! ### Images -/

@[simp] theorem postImgState_dram (s : State) : (postImgState s).dram = s.dram := by simp [postImgState]
@[simp] theorem writeRecord_dram (s : State) (st : ImgState) (cause : Nat) (activating : Bool) :
    (writeRecord s st cause activating).dram = s.dram := rfl
@[simp] theorem enterImg_dram (s : State) (st : ImgState) (cause : Nat) (activating : Bool) :
    (enterImg s st cause activating).dram = s.dram := by simp [enterImg]
@[simp] theorem appendFlash_dram (s : State) (r : JRec) : (appendFlash s r).dram = s.dram := by simp [appendFlash]
@[simp] theorem eraseCheck_dram (s : State) : (eraseCheck s).dram = s.dram := by simp [eraseCheck]
@[simp] theorem beginAct_dram (s : State) (a : Activation) : (beginAct s a).dram = s.dram := rfl
@[simp] theorem eraseDone_dram (s : State) : (eraseDone s).dram = s.dram := by simp [eraseDone]

@[simp] theorem imgDone_dram (s : State) (id : Option Nat) (st : Status) (res : List Byte) : (imgDone s id st res).dram = s.dram := by
  unfold imgDone
  split <;> simp

@[simp] theorem withdraw_dram (s : State) (a : Append) : (withdraw s a).dram = s.dram := by
  unfold withdraw
  split <;> simp

@[simp] theorem quiesceRampEnd_dram (s : State) : (quiesceRampEnd s).dram = s.dram := by simp [quiesceRampEnd]
@[simp] theorem quiesceBegin_dram (s : State) : (quiesceBegin s).dram = s.dram := by simp [quiesceBegin]

@[simp] theorem quiesceTick_dram (s : State) : (quiesceTick s).dram = s.dram := by
  unfold quiesceTick
  split <;> simp

@[simp] theorem quiesceFinish_dram (s : State) : (quiesceFinish s).dram = s.dram := by simp [quiesceFinish]

@[simp] theorem loadTables_dram (s : State) : (loadTables s).dram = s.dram := by
  unfold loadTables
  extract_lets c _ _ s1
  exact foldl_dram (by intros; rfl) (List.range 12) s1

@[simp] theorem loadSchedule_dram (s : State) : (loadSchedule s).dram = s.dram := by simp [loadSchedule]
@[simp] theorem trainPorts_dram (s : State) : (trainPorts s).dram = s.dram := by simp [trainPorts]

@[simp] theorem endActivation_dram (s : State) (cause : Nat) (atWork : Bool) : (endActivation s cause atWork).dram = s.dram := by
  unfold endActivation
  split <;> simp

@[simp] theorem beginRevert_dram (s : State) (cause : Nat) (cmd : Option Nat) : (beginRevert s cause cmd).dram = s.dram :=
  by simp [beginRevert]

@[simp] theorem activationFatal_dram (s : State) : (activationFatal s).dram = s.dram := by
  unfold activationFatal
  split <;> simp

@[simp] theorem enterSwitched_dram (s : State) (a : Activation) : (enterSwitched s a).dram = s.dram := by simp [enterSwitched]

@[simp] theorem quiescedDone_dram (s : State) : (quiescedDone s).dram = s.dram := by
  unfold quiescedDone
  split <;> simp

@[simp] theorem trainingLimit_dram (s : State) : (trainingLimit s).dram = s.dram := by simp [trainingLimit]
@[simp] theorem enterConfirmed_dram (s : State) (cause : Nat) (dropStaged : Bool) : (enterConfirmed s cause dropStaged).dram = s.dram :=
  by simp [enterConfirmed]

@[simp] theorem switchedDone_dram (s : State) : (switchedDone s).dram = s.dram := by
  simp only [switchedDone]
  repeat' split
  all_goals simp

@[simp] theorem trialStart_dram (s : State) : (trialStart s).dram = s.dram := by simp [trialStart]
@[simp] theorem trialTimeout_dram (s : State) : (trialTimeout s).dram = s.dram := by simp [trialTimeout]
@[simp] theorem trialTick_dram (s : State) : (trialTick s).dram = s.dram := by simp [trialTick]

@[simp] theorem noteFail_dram (s : State) (f : Option CheckFail) : (noteFail s f).dram = s.dram := by
  unfold noteFail
  split <;> simp

@[simp] theorem imgNow_dram (s : State) (st : Status) : (imgNow s st).1.dram = s.dram := rfl
@[simp] theorem mirrorFinished_dram (s : State) : (mirrorFinished s).dram = s.dram := by simp [mirrorFinished]

@[simp] theorem runActivate_dram (s : State) (id : Nat) (p : List Byte) : (runActivate s id p).1.dram = s.dram := by
  simp only [runActivate]
  repeat' split
  all_goals simp

@[simp] theorem runConfirm_dram (s : State) (id arrival : Nat) (p : List Byte) : (runConfirm s id arrival p).1.dram = s.dram :=
  by simp [runConfirm]
@[simp] theorem runRollback_dram (s : State) (id : Nat) : (runRollback s id).1.dram = s.dram := by simp [runRollback]
@[simp] theorem runRevoke_dram (s : State) (p : List Byte) : (runRevoke s p).1.dram = s.dram := by simp [runRevoke]

@[simp] theorem selectRoles_dram (s : State) : (selectRoles s).dram = s.dram := by
  unfold selectRoles
  split <;> simp

end Sys2Proof.Machine
end


section
/-! Operations that leave the contents of DRAM alone, each with the equation that says so:
start-up, commands, registers and rows. -/

namespace Sys2Proof.Machine

/-! ### Reset and start-up -/

@[simp] theorem allDomainsOn_dram (s : State) : (allDomainsOn s).dram = s.dram := by simp [allDomainsOn]
@[simp] theorem brownout_dram (s : State) : (brownout s).dram = s.dram := by simp [brownout]
@[simp] theorem warmBegin_dram (s : State) (source : Nat) (kind : StartKind) (hostBoot : Bool) :
    (warmBegin s source kind hostBoot).dram = s.dram := by simp [warmBegin]
@[simp] theorem supervisorWatchdog_dram (s : State) : (supervisorWatchdog s).dram = s.dram := rfl

@[simp] theorem watchdogReset_dram (s : State) : (watchdogReset s).dram = s.dram := by
  unfold watchdogReset
  split <;> simp

@[simp] theorem clockLoss_dram (s : State) (lost : Bool) : (clockLoss s lost).dram = s.dram := by simp [clockLoss]
@[simp] theorem gather_dram (s : State) (mask : Nat) (on : Bool) : (gather s mask on).dram = s.dram := by simp [gather]
@[simp] theorem endStart_dram (s : State) : (endStart s).dram = s.dram := rfl
@[simp] theorem enterRunning_dram (s : State) : (enterRunning s).dram = s.dram := by simp [enterRunning]
@[simp] theorem stageFirmware_dram (s : State) : (stageFirmware s).dram = s.dram := by simp [stageFirmware]

@[simp] theorem stageDram_dram (s : State) (r : StageResult) : (stageDram s r).dram = s.dram := by
  unfold stageDram
  extract_lets warm cold s1 bad _ s2 s3 _
  have h1 : s1.dram = s.dram := forN_dram (fun s c => by
    split
    · rfl
    · split <;> simp) 16 s
  have h3 : s3.dram = s.dram := ((gather_dram s2 _ _).trans (foldl_dram (by intros; rfl) bad _)).trans h1
  rw [setStage_dram]
  split <;> exact h3

@[simp] theorem stageSelfTest_dram (s : State) (r : StageResult) : (stageSelfTest s r).dram = s.dram := by simp [stageSelfTest]
@[simp] theorem stagePinTest_dram (s : State) (r : StageResult) : (stagePinTest s r).dram = s.dram := by simp [stagePinTest]
@[simp] theorem writeFirmware_dram (s : State) (version : Nat) (readBackOk : Bool) : (writeFirmware s version readBackOk).dram = s.dram :=
  rfl

@[simp] theorem hostBootGo_dram (s : State) (v : Nat) (readBackOk : Bool) : (hostBootGo s v readBackOk).dram = s.dram := by
  unfold hostBootGo
  split <;> simp

@[simp] theorem ftg0Start_dram (s : State) : (ftg0Start s).dram = s.dram := by
  have key (t : State) (h : t.dram = s.dram) : (if ftgMayRun s then
      (if s.boot.firstStart then endStart { t with boot := { t.boot with firstStart := false } } else t) else s).dram = s.dram := by
    split
    · split
      · exact (endStart_dram _).trans h
      · exact h
    · rfl
  exact key _ ((trialStart_dram _).trans (ftgStart_dram s _))

@[simp] theorem interlockAct_dram (s : State) (aHigh bHigh : Bool) : (interlockAct s aHigh bHigh).dram = s.dram := by simp [interlockAct]
@[simp] theorem interlockDisagree_dram (s : State) : (interlockDisagree s).dram = s.dram := by simp [interlockDisagree]

/-! ### Message commands -/

@[simp] theorem runHello_dram (s : State) (id : Nat) (p : List Byte) : (runHello s id p).1.dram = s.dram := by
  simp only [runHello]
  repeat' split
  all_goals simp

@[simp] theorem runFenceQuery_dram (s : State) (p : List Byte) : (runFenceQuery s p).1.dram = s.dram := by simp [runFenceQuery]
@[simp] theorem runMid_dram (s : State) (f : InFlight) (p : List Byte) : (runMid s f p).1.dram = s.dram := by simp [runMid]
@[simp] theorem enterFlight_dram (s : State) (f : InFlight) : (enterFlight s f).dram = s.dram := rfl
@[simp] theorem advanceHead_dram (s : State) : (advanceHead s).dram = s.dram := rfl
@[simp] theorem forgetWrites_dram (s : State) : (forgetWrites s).dram = s.dram := by simp [forgetWrites]
@[simp] theorem withQueue_dram (s : State) (q : List Instr) : (withQueue s q).dram = s.dram := rfl

/-! ### Captures -/

@[simp] theorem capture_dram (s : State) (q : Requester) (off : Nat) : (capture s q off).dram = s.dram := by
  unfold capture
  split <;> simp

/-! ### Register writes -/

@[simp] theorem reject_dram (s : State) (q : Requester) (bar4 : Bool) (off : Nat) (st : Status) : (reject s q bar4 off st).dram = s.dram :=
  by simp [reject]
@[simp] theorem errClear_dram (s : State) : (errClear s).dram = s.dram := rfl
@[simp] theorem accessClear_dram (s : State) : (accessClear s).dram = s.dram := rfl
@[simp] theorem accessError_dram (s : State) (rid : Nat) (bar4 write : Bool) (addr firstBe lastBe len : Nat) :
    (accessError s rid bar4 write addr firstBe lastBe len).dram = s.dram := by simp [accessError]

@[simp] theorem plainWrite_dram (s : State) (off v : Nat) : (plainWrite s off v).dram = s.dram := by
  unfold plainWrite
  split <;> simp

@[simp] theorem levelChange_dram (s : State) (i lo old v : Nat) : (levelChange s i lo old v).dram = s.dram := rfl

@[simp] theorem thmWrite_dram (s : State) (off v : Nat) : (thmWrite s off v).dram = s.dram := by
  unfold thmWrite
  have hp := plainWrite_dram s off v
  have hl (i lo : Nat) := (levelChange_dram (plainWrite s off v) i lo (regN s off) v).trans hp
  split
  · split <;> rfl
  · split
    · dsimp only
      split
      · exact hl _ _
      · split
        · exact hl _ _
        · split
          · rfl
          · exact hp
    · exact hp

@[simp] theorem fltWrite_dram (s : State) (off v : Nat) : (fltWrite s off v).dram = s.dram := by simp [fltWrite]

@[simp] theorem glbWrite_dram (s : State) (off v : Nat) (flashOk : Bool) : (glbWrite s off v flashOk).dram = s.dram := by
  unfold glbWrite
  split <;> simp

@[simp] theorem hmiWrite_dram (s : State) (off v : Nat) : (hmiWrite s off v).dram = s.dram := by
  unfold hmiWrite
  split <;> simp

@[simp] theorem memWrite_dram (s : State) (off v : Nat) : (memWrite s off v).dram = s.dram := by simp [memWrite]

@[simp] theorem plkWrite_dram (s : State) (off v : Nat) : (plkWrite s off v).dram = s.dram := by
  unfold plkWrite
  split
  · exact modPort_dram s _ _
  · exact plainWrite_dram s off v

@[simp] theorem audWrite_dram (s : State) (off v : Nat) : (audWrite s off v).dram = s.dram := by
  unfold audWrite
  generalize (off - 0xE00000) / 0x100 = p
  dsimp only
  split
  · exact (modAud_dram _ p _).trans (plainWrite_dram s off v)
  · split
    · exact modAud_dram s p _
    · rfl
  · split
    · exact modAud_dram s p _
    · rfl
  · exact plainWrite_dram s off v

@[simp] theorem verWrite_dram (s : State) (off v : Nat) : (verWrite s off v).dram = s.dram := by simp [verWrite]
@[simp] theorem pqWrite_dram (s : State) (v : Nat) : (pqWrite s v).dram = s.dram := rfl
@[simp] theorem layerCoefWrite_dram (s : State) (v i w : Nat) : (layerCoefWrite s v i w).dram = s.dram := rfl
@[simp] theorem slotCoefWrite_dram (s : State) (i w v : Nat) : (slotCoefWrite s i w v).dram = s.dram := rfl

@[simp] theorem lutWrite_dram (s : State) (off v : Nat) : (lutWrite s off v).dram = s.dram := by
  unfold lutWrite
  split
  · exact layerCoefWrite_dram s _ _ _
  · split
    · extract_lets b
      clear_value b
      exact modBank_dram s b _
    · split
      · exact slotCoefWrite_dram s _ _ _
      · rfl

@[simp] theorem windowWrite_dram (s : State) (o v : Nat) : (windowWrite s o v).dram = s.dram := rfl
theorem writeCalTarget_dram {s t : State} {n v : Nat} (h : writeCalTarget s n v = .ok t) : t.dram = s.dram := by
  unfold writeCalTarget at h
  dsimp only at h
  repeat' split at h
  all_goals cases h
  rfl

@[simp] theorem writeEffect_dram (s : State) (off v : Nat) (flashOk : Bool) : (writeEffect s off v flashOk).dram = s.dram := by
  unfold writeEffect
  split
  case h_3 => split <;> [split <;> rfl; simp]
  case h_6 =>
    split
    · split
      · next t ht => exact writeCalTarget_dram ht
      · rfl
    · simp
  case h_8 => split <;> simp
  all_goals simp

@[simp] theorem regWrite_dram (s : State) (q : Requester) (off v : Nat) (flashOk : Bool) : (regWrite s q off v flashOk).dram = s.dram := by
  unfold regWrite
  split <;> simp

@[simp] theorem regRead_dram (s : State) (q : Requester) (off : Nat) : (regRead s q off).2.dram = s.dram := by simp [regRead]
@[simp] theorem msixWrite_dram (s : State) (i w v : Nat) : (msixWrite s i w v).dram = s.dram := by simp [msixWrite]
@[simp] theorem bar4Write_dram (s : State) (off v : Nat) : (bar4Write s off v).dram = s.dram := by simp [bar4Write]
@[simp] theorem pcieUp_dram (s : State) : (pcieUp s).dram = s.dram := by simp [pcieUp]
theorem pcieAccess_dram {f : State → State} (h : ∀ s, (f s).dram = s.dram) (s : State) : (pcieAccess s f).dram = s.dram := by
  unfold pcieAccess
  split
  · exact (h _).trans (pcieUp_dram s)
  · rfl

@[simp] theorem pcieWrite_dram (s : State) (off v : Nat) (flashOk : Bool) : (pcieWrite s off v flashOk).dram = s.dram :=
  pcieAccess_dram (fun s => regWrite_dram s .pcie off v flashOk) s
@[simp] theorem pcieBar4_dram (s : State) (off v : Nat) : (pcieBar4 s off v).dram = s.dram :=
  pcieAccess_dram (fun s => bar4Write_dram s off v) s
@[simp] theorem smbDiscard_dram (s : State) (pec : Pec) : (smbDiscard s pec).dram = s.dram := by simp [smbDiscard]
@[simp] theorem smbAdvance_dram (s : State) : (smbAdvance s).dram = s.dram := rfl
@[simp] theorem smbSetPointer_dram (s : State) (v : Nat) : (smbSetPointer s v).dram = s.dram := by simp [smbSetPointer]
@[simp] theorem smbRead_dram (s : State) : (smbRead s).dram = s.dram := by simp [smbRead]
@[simp] theorem smbWrite_dram (s : State) (v : Nat) (flashOk : Bool) : (smbWrite s v flashOk).dram = s.dram := by simp [smbWrite]
@[simp] theorem smbReply_dram (s : State) (code : Nat) (block : Bool) (f : State → List Byte) : (smbReply s code block f).dram = s.dram :=
  by simp [smbReply]
@[simp] theorem smbAlertResponse_dram (s : State) : (smbAlertResponse s).dram = s.dram := by simp [smbAlertResponse]

/-! ### The DRAM window -/

@[simp] theorem partErrors_dram (s : State) (l : List (Nat × Byte)) (e : DramErrs) : (partErrors s l e).dram = s.dram :=
  by simp [partErrors]
@[simp] theorem tlpReport_dram (s : State) (source a rid : Nat) (write : Bool) (dw : Nat) :
    (tlpReport s source a rid write dw).dram = s.dram := rfl
@[simp] theorem noteWrite_dram (s : State) (rid dw : Nat) (l w : List (Nat × Byte)) : (noteWrite s rid dw l w).dram = s.dram :=
  by simp [noteWrite]
@[simp] theorem noteErrors_dram (s : State) (l : List Nat) (ue ce : List Nat) : (noteErrors s l ue ce).dram = s.dram := by simp [noteErrors]

@[simp] theorem bar2Read_dram (s : State) (rid off : Nat) (be : List Bool) (ue ce : List Nat) :
    (bar2Read s rid off be ue ce).dram = s.dram := by
  simp only [bar2Read]
  repeat' split
  all_goals simp

@[simp] theorem bar2Resize_dram (s : State) (log2 : Nat) : (bar2Resize s log2).dram = s.dram := by simp [bar2Resize]
@[simp] theorem aonUe_dram (s : State) (address : Nat) : (aonUe s address).dram = s.dram := rfl
@[simp] theorem jtagLoad_dram (s : State) (i : JtagInstr) (lasers : Nat) (hl shutter : Bool) :
    (jtagLoad s i lasers hl shutter).dram = s.dram := by simp [jtagLoad]

/-! ### Beads -/

@[simp] theorem noteIssue_dram (s : State) (how : BeadCome) (b : Bead) : (noteIssue s how b).dram = s.dram := rfl
@[simp] theorem containPrimary_dram (s : State) (c : Nat) : (containPrimary s c).dram = s.dram := by simp [containPrimary]
@[simp] theorem containSlots_dram (s : State) (mask : Nat) : (containSlots s mask).dram = s.dram := by simp [containSlots]

/-! ### Host rows -/

@[simp] theorem linkLost_dram (s : State) : (linkLost s).dram = s.dram := by simp [linkLost]

@[simp] theorem hmiBy_dram (s : State) (q : Requester) (off v : Nat) : (hmiBy s q off v).dram = s.dram := by
  unfold hmiBy
  split <;> simp

/-! ### Plane Link rows -/

@[simp] theorem syncLate_dram (s : State) (p : Nat) : (syncLate s p).dram = s.dram := by simp [syncLate]
@[simp] theorem rowError_dram (s : State) (p block row : Nat) : (rowError s p block row).dram = s.dram := by simp [rowError]
@[simp] theorem pollStatus_dram (s : State) (p : Nat) : (pollStatus s p).dram = s.dram := by simp [pollStatus]

/-! ### Register rows -/

@[simp] theorem writeBy_dram (s : State) (q : Requester) (off v : Nat) (flashOk : Bool) : (writeBy s q off v flashOk).dram = s.dram := by
  unfold writeBy
  split <;> simp

@[simp] theorem readBy_dram (s : State) (q : Requester) (off : Nat) : (readBy s q off).dram = s.dram := by
  unfold readBy
  split
  · exact pcieAccess_dram (fun s => by simp) s
  · simp

@[simp] theorem msixAccess_dram (s : State) (write : Bool) (off data : Nat) : (msixAccess s write off data).dram = s.dram :=
  by simp [msixAccess]
@[simp] theorem pqRegenerated_dram (s : State) : (pqRegenerated s).dram = s.dram := by simp [pqRegenerated]

end Sys2Proof.Machine
end


section
/-! Operations that write DRAM keep its form: the picture, audio, power, faults, images and start-up (log entry 3). -/

namespace Sys2Proof.Machine

section
variable {s r t : State}

/-- A step that leaves the contents of DRAM keeps their form. -/
theorem wf_of_dram (h : Memory.wf r) (e : t.dram = r.dram) : Memory.wf t := by
  unfold Memory.wf at h ⊢
  rw [e]
  exact h

theorem wf_ite {c : Prop} [Decidable c] (hr : Memory.wf r) (ht : Memory.wf t) : Memory.wf (if c then r else t) := by split <;> assumption

theorem wf_ite_fst {β : Type} {c : Prop} [Decidable c] {a b : State × β} (ha : Memory.wf a.1) (hb : Memory.wf b.1) :
    Memory.wf (if c then a else b).1 := by split <;> assumption

theorem foldl_wf {β : Type} {f : State → β → State} (hf : ∀ s x, Memory.wf s → Memory.wf (f s x)) (l : List β) (h : Memory.wf s) :
    Memory.wf (l.foldl f s) :=
  List.foldlRecOn l f (motive := Memory.wf) h (fun s hs x _ => hf s x hs)

theorem forN_wf {f : State → Nat → State} (hf : ∀ s x, Memory.wf s → Memory.wf (f s x)) (n : Nat) (h : Memory.wf s) :
    Memory.wf (forN n f s) := foldl_wf hf _ h

/-! ### The picture -/

theorem writePlaneRow_wf (h : Memory.wf s) (set p band q row : Nat) (l : List Byte) : Memory.wf (writePlaneRow s set p band q row l) := by
  unfold writePlaneRow
  extract_lets off s1
  have h1 : Memory.wf s1 := wrBytes_wf h _ l
  split
  · exact wf_of_dram h1 (by simp)
  · exact h1

theorem writeTile_wf (h : Memory.wf s) (ps : Pass) (p band : Nat) : Memory.wf (writeTile s ps p band) :=
  foldl_wf (fun _ _ h => foldl_wf (fun _ _ h => foldl_wf (fun _ _ h => writePlaneRow_wf h _ _ _ _ _ _) _ h) _ h) _ h

theorem tileBuilt_wf (h : Memory.wf s) (sl : Nat) (l : List Nat) : Memory.wf (tileBuilt s sl l) := by
  unfold tileBuilt
  split
  · next ps e phys _ _ _ =>
    have hw := writeTile_wf h ps e.port e.band
    generalize writeTile s ps e.port e.band = x at hw
    refine wf_ite (wf_ite (wf_of_dram hw (by simp)) ?_) h
    exact wf_of_dram hw (by simp)
  · exact h

theorem fenceLate_wf (h : Memory.wf s) (l : List (Nat × Nat)) (a : Nat) (w : HostWrite) : Memory.wf (fenceLate l a s w) := by
  unfold fenceLate
  extract_lets hit s1 s2
  have h1 : Memory.wf s1 := foldl_wf (fun _ e h => wr_wf h e.1 e.2) _ h
  have h2 : Memory.wf s2 := wf_of_dram h1 (by simp [s2])
  split
  · exact h
  · exact wf_ite h (wf_ite h2 (wf_of_dram h2 (by simp)))

theorem fenceWrites_wf (h : Memory.wf s) (l : List (Nat × Nat)) (a : Nat) : Memory.wf (fenceWrites s l a) := by
  unfold fenceWrites
  extract_lets hit s1
  have h1 : Memory.wf s1 := foldl_wf (fun _ w h => fenceLate_wf h l a w) _ h
  exact h1

theorem runCommitChecks_wf (h : Memory.wf s) (a : Nat) (p : List Byte) : Memory.wf (runCommitChecks s a p).1 := by
  have hr (st : Status) (r l f : Nat) : Memory.wf (rejectCommit s st r l f).1 := wf_of_dram h (by simp)
  unfold runCommitChecks
  extract_lets mask wait changed fetch s0 s1
  have h0 : Memory.wf s0 := wf_of_dram h (by simp [s0])
  have h1 : Memory.wf s1 := wf_ite h0 (fenceWrites_wf h0 _ a)
  split
  · exact hr _ _ _ _
  · split
    · exact hr _ _ _ _
    · split
      · exact hr _ _ _ _
      · split
        · exact hr _ _ _ _
        · exact wf_ite_fst (hr _ _ _ _) h1

theorem runCommit_wf (h : Memory.wf s) (a : Nat) (p : List Byte) : Memory.wf (runCommit s a p).1 := by
  unfold runCommit
  extract_lets r
  have h1 : Memory.wf r.1 := runCommitChecks_wf h a p
  split
  · exact h1
  · exact wf_of_dram h1 (by simp)

theorem passLine_wf (s0 : State) (p : Pass) (y : Nat) (a : State × Bool) (h : Memory.wf a.1) : Memory.wf (passLine s0 p y a).1 :=
  wf_ite (wrBytes_wf h _ _) h

theorem finishPass_wf (h : Memory.wf s) (p : Pass) : Memory.wf (finishPass s p) := by
  unfold finishPass
  have h1 : Memory.wf ((List.range (cfg s).canvas.height).foldl (fun a y => passLine s p y a) (s, false)).1 :=
    List.foldlRecOn _ _ (motive := fun a : State × Bool => Memory.wf a.1) h (fun a ha y _ => passLine_wf s p y a ha)
  generalize (List.range (cfg s).canvas.height).foldl (fun a y => passLine s p y a) (s, false) = a at h1
  split
  next s1 clip =>
  extract_lets s2 n s3 s4
  have h2 : Memory.wf s2 := wf_of_dram h1 (by simp [s2])
  have h3 : Memory.wf s3 := wf_of_dram h2 (by simp [s3])
  have h4 : Memory.wf s4 := wf_of_dram h3 (by simp [s4])
  exact h4

theorem passDone_wf (h : Memory.wf s) (e : StoreError) : Memory.wf (passDone s e) := by
  unfold passDone
  split
  · next p _ => exact wf_ite (wf_of_dram (finishPass_wf h p) (by simp)) h
  · exact h

theorem hlPassWrite_wf (h : Memory.wf s) (p : HlPass) (bad : List Nat) : Memory.wf (hlPassWrite s p bad) := by
  unfold hlPassWrite
  extract_lets vals s' a s1 _ s2
  have h1 : Memory.wf s1 := wrBytes_wf (wf_of_dram h (by simp [s'])) a _
  have h2 : Memory.wf s2 := h1
  exact wf_ite h2 (wf_of_dram h2 (by simp))

theorem hlPassDone_wf (h : Memory.wf s) (bad : List Nat) : Memory.wf (hlPassDone s bad) := by
  unfold hlPassDone
  split
  · next p _ => exact wf_of_dram (hlPassWrite_wf h p (badSamples s bad)) (by simp)
  · exact h

/-! ### Audio -/

theorem ringPut_wf (h : Memory.wf s) (f : Nat × Nat) : Memory.wf (ringPut s f) := by
  unfold ringPut
  extract_lets x s1
  have h1 : Memory.wf s1 := wrBytes_wf h _ _
  exact wf_of_dram h1 (by simp)

theorem sampleIn_wf (h : Memory.wf s) (l r : Nat) : Memory.wf (sampleIn s l r) := by
  unfold sampleIn
  extract_lets s' s1 x f n s2 s3
  have h' : Memory.wf s' := wf_of_dram h (by simp [s'])
  have h1 : Memory.wf s1 := wf_of_dram h' (by simp [s1])
  have h3 : Memory.wf s3 := wf_of_dram h1 (by simp [s3, s2])
  exact wf_ite h (wf_ite (wf_of_dram h' (by simp)) (wf_ite (wf_ite (wf_of_dram h3 (by simp)) h3) (ringPut_wf h1 f)))

theorem fillCopy_wf (h : Memory.wf s) : Memory.wf (fillCopy s) := wf_ite (wf_of_dram (ringPut_wf h (audPort s 4).last) (by simp)) h

/-! ### Power -/

theorem setDomain_wf (h : Memory.wf s) (d : Nat) (m : DomMode) : Memory.wf (setDomain s d m) := by
  unfold setDomain
  extract_lets old _ s1 fresh
  have h1 : Memory.wf s1 := h
  clear_value s1
  exact wf_ite (wf_ite (wf_of_dram h1 (by simp)) (wf_of_dram h1 (by simp))) (wf_ite h1 (wf_ite rfl h1))

theorem powerGood_wf (h : Memory.wf s) : Memory.wf (powerGood s) := by
  unfold powerGood
  split
  · exact h
  · next r _ =>
    split
    · exact h
    · next d t _ =>
      have h1 := setDomain_wf h d r.target
      exact wf_ite h (wf_ite (wf_of_dram h1 (by simp)) (wf_of_dram h1 rfl))

theorem powerTimeout_wf (h : Memory.wf s) : Memory.wf (powerTimeout s) := by
  unfold powerTimeout
  split
  · exact h
  · split
    · exact h
    · next d t _ => exact wf_ite h (wf_of_dram (setDomain_wf h d .off) (by simp))

/-! ### Faults -/

theorem logRecord_wf (h : Memory.wf s) (r : FaultRec) : Memory.wf (logRecord s r) := by
  unfold logRecord
  extract_lets s1 s2
  have h1 : Memory.wf s1 := wf_of_dram h (by simp [s1])
  have h2 : Memory.wf s2 := wf_of_dram h1 (by simp [s2])
  exact wf_ite (wrBytes_wf (wf_of_dram h2 (by simp)) _ _) h1

theorem publish_wf (h : Memory.wf s) (r : FaultRec) (coal : Bool) : Memory.wf (publish s r coal) := by
  unfold publish
  extract_lets s1
  have h1 : Memory.wf s1 := logRecord_wf (wf_of_dram h (by simp)) r
  exact wf_ite (wf_of_dram h (by simp)) (wf_ite h1 (wf_of_dram h1 (by simp)))

theorem recordReport_wf (h : Memory.wf s) (several : Bool) (r : Report) : Memory.wf (recordReport several s r) := publish_wf (wf_of_dram h (by simp)) _ _

theorem collectOnce_wf (h : Memory.wf s) : Memory.wf (collectOnce s) := by
  unfold collectOnce
  extract_lets l s1
  have h1 : Memory.wf s1 := foldl_wf (fun _ r h => recordReport_wf h _ r) l h
  exact wf_of_dram h1 (by simp)

theorem collectN_wf (n : Nat) (h : Memory.wf s) : Memory.wf (collectN n s) := by
  induction n generalizing s with
  | zero => exact h
  | succ n ih => exact wf_ite h (ih (collectOnce_wf h))

theorem collect_wf (h : Memory.wf s) : Memory.wf (collect s) := collectN_wf 4 h

theorem runInject_wf (h : Memory.wf s) (p : List Byte) : Memory.wf (runInject s p).1 := by
  unfold runInject
  extract_lets src react s1
  have h1 : Memory.wf s1 := collect_wf (wf_of_dram h (by simp))
  clear_value s1
  exact wf_ite_fst h (wf_ite_fst h (wf_ite_fst h (wf_ite_fst h (wf_ite_fst (wf_of_dram h (by simp)) h1))))

end
end Sys2Proof.Machine
end


section
/-! Images, start-up, commands and the end of a command keep the form of DRAM (log entry 3). -/

namespace Sys2Proof.Machine

section
variable {s r t : State}

/-! ### Images -/

theorem fillCarry_wf (h : Memory.wf s) : Memory.wf (fillCarry s) := by
  unfold fillCarry
  extract_lets v _ s1
  have h1 : Memory.wf s1 := h
  clear_value s1
  exact wf_ite (foldl_wf (fun _ _ h => wrBytes_wf (wrBytes_wf h _ _) _ _) _ h1) h1

theorem initRegions_wf (h : Memory.wf s) : Memory.wf (initRegions s) := fillCarry_wf (foldl_wf (fun _ r h => zeroRange_wf h r.1 r.2) _ h)

theorem pbuSwitched_wf (h : Memory.wf s) (c : ImageCfg) : Memory.wf (pbuSwitched s c) := by
  unfold pbuSwitched
  extract_lets n _ s2
  have h2 : Memory.wf s2 := h
  exact zeroRange_wf h2 _ _

theorem hlsSwitched_wf (h : Memory.wf s) : Memory.wf (hlsSwitched s) := by
  unfold hlsSwitched
  extract_lets s1 _ s2 s3
  have h1 : Memory.wf s1 := zeroRange_wf h _ _
  have h2 : Memory.wf s2 := h1
  have h3 : Memory.wf s3 := wf_of_dram h2 (by simp [s3])
  clear_value s2 s3
  exact wf_ite h2 (wf_ite h2 (wf_of_dram h3 (by simp)))

theorem switchWork_wf (h : Memory.wf s) (c : Option ImageCfg) (keep : Bool) : Memory.wf (switchWork s c keep) := by
  unfold switchWork
  extract_lets s1 _ _ s2 s3
  have h1 : Memory.wf s1 := wf_of_dram h (by simp [s1])
  clear_value s1
  have h2 : Memory.wf s2 := h1
  clear_value s2
  have h3 : Memory.wf s3 := wf_of_dram (initRegions_wf (pbuSwitched_wf h2 (c.getD {}))) ((loadSchedule_dram _).trans (loadTables_dram _))
  clear_value s3
  exact wf_of_dram (hlsSwitched_wf (s := lpeSwitched (lsdSwitched (trainPorts s3))) (wf_of_dram h3 (by simp))) (by simp)

theorem switchedBegin_wf (h : Memory.wf s) (a : Activation) : Memory.wf (switchedBegin s a) := by
  unfold switchedBegin
  extract_lets k s1 s2
  have h1 : Memory.wf s1 := switchWork_wf h _ _
  have h2 : Memory.wf s2 := wf_of_dram h1 (by simp [s2])
  exact wf_ite (wf_ite (wf_of_dram h2 (by simp)) h2) h1

theorem afterAppend_wf (h : Memory.wf s) (r : JRec) : Memory.wf (afterAppend s r) := by
  unfold afterAppend
  refine wf_ite (wf_ite h h) (wf_ite h ?_)
  split
  · exact wf_of_dram h (by simp)
  · exact wf_of_dram h (by simp)
  · exact switchedBegin_wf h _
  · exact wf_of_dram h (by simp)
  · exact h

theorem appendFailed_wf (h : Memory.wf s) (a : Append) : Memory.wf (appendFailed s a) := by
  unfold appendFailed
  refine wf_ite h ?_
  split
  · exact wf_of_dram h (by simp)
  · exact wf_of_dram h (by simp)
  · exact wf_ite (wf_of_dram h (by simp)) (wf_of_dram h (by simp))
  · exact wf_ite (switchedBegin_wf h _) (wf_of_dram h (by simp))
  · exact wf_of_dram h (by simp)
  · split
    · exact wf_of_dram h (by simp)
    · dsimp only
      split
      · exact wf_of_dram h (by simp)
      · exact h
  · exact h

theorem appendDone_wf (h : Memory.wf s) (ok : Bool) : Memory.wf (appendDone s ok) := by
  unfold appendDone
  split
  · exact h
  · next a t _ =>
    have h1 : Memory.wf { s with img := { s.img with appends := t } } := h
    generalize ({ s with img := { s.img with appends := t } } : State) = s1 at h1
    have h2 : Memory.wf (appendFlash s1 a.record) := wf_of_dram h1 (by simp)
    exact wf_ite (wf_of_dram (afterAppend_wf h2 a.record) (by simp)) (wf_ite (appendFailed_wf (s := report s1 _) h1 a) h)

theorem vauxRetry_wf (h : Memory.wf s) (up : Bool) : Memory.wf (vauxRetry s up) := by
  unfold vauxRetry
  extract_lets s1
  have h1 : Memory.wf s1 := h
  exact wf_ite h1 (appendDone_wf h1 false)

theorem runStage_wf (h : Memory.wf s) (p : List Byte) : Memory.wf (runStage s p).1 := by
  have hn (t : State) (ht : Memory.wf t) (st : Status) : Memory.wf (imgNow t st).1 := wf_of_dram ht (by simp)
  unfold runStage
  extract_lets src len a fence rd k s1
  have h1 : Memory.wf s1 := wf_of_dram (wrBytes_wf h (slotDram s k) (rdBytes s a len)) (noteFail_dram _ none)
  refine wf_ite_fst (hn s h _) (wf_ite_fst (hn s h _) (wf_ite_fst (hn s h _) ?_))
  split
  · exact hn _ (wf_of_dram h (by simp)) _
  · exact hn _ h1 .ok

/-! ### Reset and start-up -/

theorem loadSlots_wf (h : Memory.wf s) : Memory.wf (loadSlots s) :=
  forN_wf (fun s k h => by
    refine wf_ite h ?_
    exact wrBytes_wf (zeroRange_wf h (slotDram s k) 0x1000000) (slotDram s k) (vget s.img.flash k [])) 3 h

theorem selectImage_wf (h : Memory.wf s) : Memory.wf (selectImage s) := by
  unfold selectImage
  extract_lets _ s1 _ s2 r
  have h1 : Memory.wf s1 := by
    refine wf_of_dram (loadSlots_wf ?_) (selectRoles_dram _)
    exact h
  have h2 : Memory.wf s2 := h1
  clear_value s2
  refine wf_ite h2 ?_
  split
  · exact wf_of_dram h2 (noteFail_dram s2 none)
  · extract_lets s3
    have h3 : Memory.wf s3 := wf_of_dram h2 (by simp [s3])
    clear_value s3
    split
    · exact wf_of_dram h3 (writeRecord_dram _ _ _ _)
    · exact wf_ite (wf_of_dram h3 (by simp)) h3

theorem coldState_wf (s : State) (k : StartKind) : Memory.wf (coldState s k) := rfl

theorem powerOnReset_wf (s : State) (src : Nat) (arm : Bool) (addr : Nat) : Memory.wf (powerOnReset s src arm addr) := by
  unfold powerOnReset
  extract_lets s1
  have h1 : Memory.wf s1 := coldState_wf s _
  clear_value s1
  exact h1

theorem thermalTrip_wf (h : Memory.wf s) : Memory.wf (thermalTrip s) := by
  unfold thermalTrip
  extract_lets s1 s2
  have h1 : Memory.wf s1 := wf_of_dram h (by simp [s1])
  clear_value s1
  have h2 : Memory.wf s2 := forN_wf (fun _ d h => wf_ite (setDomain_wf h d .off) h) 36 h1
  clear_value s2
  exact h2

theorem thermalRestart_wf (h : Memory.wf s) : Memory.wf (thermalRestart s) := by
  unfold thermalRestart
  split
  · extract_lets s0 _ s1 t s2
    have h1 : Memory.wf s1 := coldState_wf s .thermal
    clear_value s1
    have h2 : Memory.wf s2 := collect_wf h1
    clear_value s2
    exact wf_of_dram h2 (by simp)
  · exact h

theorem warmReset_wf (h : Memory.wf s) (t : Nat) : Memory.wf (warmReset s t) := h

theorem warmTick_wf (h : Memory.wf s) : Memory.wf (warmTick s) := by
  unfold warmTick
  split
  · next t _ =>
    have h1 : Memory.wf (if s.hls.mode == .parking then parkForced s else s) := wf_ite (wf_of_dram h (by simp)) h
    exact wf_ite (wf_of_dram (warmReset_wf h1 t) (by simp)) h
  · exact h

theorem enterLoad_wf (h : Memory.wf s) : Memory.wf (enterLoad s) := by
  unfold enterLoad
  split
  · exact switchWork_wf (s := setStage s 8) h _ _
  · exact wf_of_dram h (by simp)

theorem stageImage_wf (h : Memory.wf s) : Memory.wf (stageImage s) := by
  unfold stageImage
  extract_lets s1
  have h1 : Memory.wf s1 := selectImage_wf h
  clear_value s1
  exact wf_ite (enterLoad_wf h1) (wf_of_dram h1 (by simp))

theorem stageCal_wf (h : Memory.wf s) (r : StageResult) : Memory.wf (stageCal s r) := enterLoad_wf (wf_of_dram h (by simp))

theorem bootStageDone_wf (h : Memory.wf s) (r : StageResult) : Memory.wf (bootStageDone s r) := by
  unfold bootStageDone
  refine wf_ite h (wf_ite (wf_ite (wf_of_dram h (by simp)) (wf_of_dram h (by simp))) (wf_ite (wf_of_dram h (by simp)) (wf_ite (wf_of_dram h (by simp)) (wf_ite (wf_of_dram h (by simp))
    (wf_ite (wf_of_dram h (by simp)) (wf_ite (wf_of_dram h (by simp)) (wf_ite (stageImage_wf h) (wf_ite (stageCal_wf h r) (wf_ite (wf_of_dram h (by simp)) h)))))))))

/-! ### Commands -/

theorem runLow_wf (h : Memory.wf s) (f : InFlight) (p : List Byte) : Memory.wf (runLow s f p).1 := by
  have hd {x : State × Reply} (e : x.1.dram = s.dram := by simp) : Memory.wf x.1 := wf_of_dram h e
  unfold runLow
  exact wf_ite_fst hd (wf_ite_fst h (wf_ite_fst (runStage_wf h p) (wf_ite_fst hd (wf_ite_fst hd (wf_ite_fst hd (wf_ite_fst hd
    (wf_ite_fst hd (wf_ite_fst hd (wf_ite_fst hd (wf_ite_fst (wf_ite_fst (runCommit_wf h _ p) h) (wf_ite_fst hd (wf_ite_fst hd hd))))))))))))

theorem runMid_wf (h : Memory.wf s) (f : InFlight) (p : List Byte) : Memory.wf (runMid s f p).1 := wf_of_dram h (by simp)

theorem runHigh_wf (h : Memory.wf s) (f : InFlight) (p : List Byte) : Memory.wf (runHigh s f p).1 := by
  have hd {x : State × Reply} (e : x.1.dram = s.dram := by simp) : Memory.wf x.1 := wf_of_dram h e
  unfold runHigh
  exact wf_ite_fst hd (wf_ite_fst hd (wf_ite_fst hd (wf_ite_fst hd (wf_ite_fst hd (wf_ite_fst hd (wf_ite_fst hd (wf_ite_fst hd (wf_ite_fst hd
    (wf_ite_fst (wf_ite_fst h hd) (wf_ite_fst hd (wf_ite_fst (runInject_wf h p) hd)))))))))))

theorem runOp_wf (h : Memory.wf s) (f : InFlight) : Memory.wf (runOp s f).1 := by
  unfold runOp
  extract_lets p r
  have hr : Memory.wf r.1 := wf_ite_fst (runLow_wf h f p) (wf_ite_fst (runMid_wf h f p) (runHigh_wf h f p))
  refine wf_ite_fst hr ?_
  split <;> exact h

theorem startCmd_wf (h : Memory.wf s) (f : InFlight) : Memory.wf (startCmd s f) := by
  unfold startCmd
  generalize hx : withInFlight s (s.hmi.inFlight.map (fun g => if g.id == f.id then { g with waiting := false } else g)) = x
  have hr : Memory.wf (runOp x f).1 := runOp_wf (wf_of_dram h (by rw [← hx, withInFlight_dram])) f
  generalize runOp x f = r at hr
  dsimp only
  split
  · exact wf_of_dram hr (by simp)
  · exact hr

theorem startWaiting_wf (n : Nat) (h : Memory.wf s) : Memory.wf (startWaiting n s) := by
  induction n generalizing s with
  | zero => exact h
  | succ n ih =>
    unfold startWaiting
    split
    · exact h
    · exact ih (startCmd_wf h _)

theorem accept_wf (h : Memory.wf s) (op : Nat) (c : Cmd) (a : Nat) (sh : List (Nat × Nat)) : Memory.wf (accept s op c a sh) := by
  unfold accept
  extract_lets f
  have hf : Memory.wf (enterFlight s f) := h
  refine wf_ite (wf_of_dram hf (by simp)) ?_
  split
  · exact wf_of_dram hf (by simp)
  · exact wf_ite h (startCmd_wf hf f)

theorem commandFetch_wf (h : Memory.wf s) (e : Option (List Byte)) (fails : Bool) (sh : List (Nat × Nat)) :
    Memory.wf (commandFetch s e fails sh) := by
  unfold commandFetch
  refine wf_ite h ?_
  split
  · exact wf_of_dram h (by simp)
  · extract_lets stamp s1 _ s2 _ s3
    have h1 : Memory.wf s1 := wf_of_dram h (by simp [s1])
    clear_value s1
    have h2 : Memory.wf s2 := by
      refine accept_wf ?_ _ _ _ _
      exact h1
    clear_value s2
    have h3 : Memory.wf s3 := h2
    clear_value s3
    exact wf_ite (wf_of_dram h (by simp)) (wf_ite (wf_ite h3 (wf_of_dram h3 (by simp))) (accept_wf h1 _ _ _ _))

theorem message_wf (h : Memory.wf s) (op : Nat) (c : Cmd) (sh : List (Nat × Nat)) : Memory.wf (message s op c sh) :=
  wf_ite (accept_wf h op c s.tsc sh) h

/-! ### The end of a command -/

theorem settle_wf {a : State} (h : Memory.wf s) : Memory.wf (settle a s) := by
  unfold settle
  extract_lets s1 s2
  have h1 : Memory.wf s1 := collect_wf h
  have h2 : Memory.wf s2 := wf_ite (collect_wf (wf_of_dram h1 (by simp))) h1
  exact collect_wf (wf_of_dram h2 (by simp))

theorem finish_wf {a : State} (h : Memory.wf s) : Memory.wf (finish a s) := by
  unfold finish
  extract_lets s1
  have h1 : Memory.wf s1 := settle_wf h
  have h2 : Memory.wf (settle s1 (startWaiting s1.hmi.inFlight.length s1)) := settle_wf (startWaiting_wf _ h1)
  exact h2

variable {f : State → State}

theorem event_wf (h : Memory.wf s) (hf : ∀ s, Memory.wf s → Memory.wf (f s)) : Memory.wf (event s f) := wf_ite (finish_wf (hf s h)) h

theorem hostEvent_wf (h : Memory.wf s) (hf : ∀ s, Memory.wf s → Memory.wf (f s)) : Memory.wf (hostEvent s f) := wf_ite h (finish_wf (hf s h))

/-! ### The DRAM window -/

theorem wrMerge_wf (h : Memory.wf s) (l : List (Nat × Byte)) : Memory.wf (wrMerge s l) := by
  unfold wrMerge
  extract_lets whole inPart inj reads hit s1 s2
  have h1 : Memory.wf s1 := wrList_wf h l
  have h2 : Memory.wf s2 := h1
  exact wf_of_dram h2 (by simp)

theorem bar2Write_wf (h : Memory.wf s) (rid off : Nat) (data : List (Option Byte)) (errs : DramErrs) :
    Memory.wf (bar2Write s rid off data errs) := by
  unfold bar2Write
  extract_lets dw l w s0 s1 s2
  have h0 : Memory.wf s0 := wf_of_dram h (by simp [s0])
  have h1 : Memory.wf s1 := wrMerge_wf (wf_of_dram h0 (by simp)) w
  have h2 : Memory.wf s2 := by
    simp only [s2]
    split
    · exact wf_of_dram h1 (by simp)
    · exact h1
  refine wf_ite h (wf_ite (wf_of_dram h (by simp)) ?_)
  split
  · exact wf_of_dram h2 (by simp)
  · exact h2

theorem pcieAccess_wf (h : Memory.wf s) (hf : ∀ s, Memory.wf s → Memory.wf (f s)) : Memory.wf (pcieAccess s f) :=
  wf_ite (hf _ (wf_of_dram h (by simp))) h

end
end Sys2Proof.Machine
end


section
/-! Every step keeps the form of DRAM: the rows of the instructions, by what each does with DRAM (log entry 3). -/

namespace Sys2Proof.Machine

/-- The next state has memory in form. -/
def FormNext (o : Host.Outcome State Fault Refusal) : Prop := ∀ t, o = .next t → Memory.wf t

section
variable {s t : State} {f g : State → State} {p : Nat}

theorem formNext (h : Memory.wf t) : FormNext (.next t) := fun _ hx => by
  cases hx
  exact h

theorem FormNext.unit (h : Memory.wf s) (hf : ∀ s, Memory.wf s → Memory.wf (f s)) : FormNext (.next (event s f)) := formNext (event_wf h hf)

theorem FormNext.host (h : Memory.wf s) (hf : ∀ s, Memory.wf s → Memory.wf (f s)) : FormNext (.next (hostEvent s f)) :=
  formNext (hostEvent_wf h hf)

/-- An event of the running module that leaves DRAM alone. -/
theorem FormNext.unit_dram (h : Memory.wf s) (hf : ∀ s, (f s).dram = s.dram) : FormNext (.next (event s f)) :=
  .unit h (fun s hs => wf_of_dram hs (hf s))

/-- An event of the host interface that leaves DRAM alone. -/
theorem FormNext.host_dram (h : Memory.wf s) (hf : ∀ s, (f s).dram = s.dram) : FormNext (.next (hostEvent s f)) :=
  .host h (fun s hs => wf_of_dram hs (hf s))

/-- A message command. -/
theorem FormNext.message {op : Nat} {c : Cmd} {sh : List (Nat × Nat)} (h : Memory.wf s) :
    FormNext (.next (hostEvent s (fun s => Machine.message s op c sh))) := .host h (fun _ hs => message_wf hs op c sh)

/-- An event of a port that leaves DRAM alone. -/
theorem FormNext.port (h : Memory.wf s) (hf : ∀ s, (f s).dram = s.dram) : FormNext (.next (portEvent s p f)) :=
  .unit_dram h (fun s => by simp [hf])

theorem portBead_dram (hf : ∀ s, (f s).dram = s.dram) (s : State) : (portBead p f s).dram = s.dram := by simp [portBead, hf]
theorem primaryBead_dram (hf : ∀ s, (f s).dram = s.dram) (s : State) : (primaryBead p f s).dram = s.dram := by simp [primaryBead, hf]
theorem scannerBead_dram (hf : ∀ s, (f s).dram = s.dram) (s : State) : (scannerBead f s).dram = s.dram := by simp [scannerBead, hf]
theorem lateBead_dram {b : Bead} (hf : ∀ s, (f s).dram = s.dram) (s : State) : (lateBead b f s).dram = s.dram := by simp [lateBead, hf]

theorem smbBlockWrite_dram {n : Nat} {pec : Pec} (hf : ∀ s, (f s).dram = s.dram) (s : State) :
    (smbBlockWrite s n pec f).dram = s.dram := by simp [smbBlockWrite, hf]

/-- A bead whose effect, late or not, leaves DRAM alone. -/
theorem FormNext.bead {how : BeadCome} {b : Bead} (h : Memory.wf s) (hl : ∀ s, (f s).dram = s.dram) (hf : ∀ s, (g s).dram = s.dram) :
    FormNext (.next (Machine.bead s how b f g)) :=
  .unit_dram h (fun s => by
    split
    · split <;> simp [hl, hf]
    · rfl)

/-! ### The rows of the instructions -/

theorem exec_formNext (i : Instr) (h : Memory.wf s) : FormNext (exec i s) := by
  cases i
  case powerOnReset src arm addr => exact formNext (finish_wf (powerOnReset_wf s _ _ _))
  case brownout => exact formNext (wf_ite h (finish_wf (wf_of_dram h (by simp))))
  case sensorSample die ntc => exact formNext (wf_ite (hostEvent_wf h (fun s hs => wf_of_dram hs (by simp))) (event_wf h (fun s hs => wf_of_dram hs (by simp))))
  case thermalTrip => exact .unit h (fun _ => thermalTrip_wf)
  case bootStageDone r => exact .unit h (fun _ hs => bootStageDone_wf hs r)
  case journalAppendDone ok => exact .unit h (fun _ hs => appendDone_wf hs ok)
  case passComplete e => exact .unit h (fun _ hs => passDone_wf hs e)
  case highlightPassDone bad errs => exact .unit h (fun _ hs => wf_ite (hlPassDone_wf (wf_of_dram hs (by simp)) bad) hs)
  case tileBuilt sl l => exact .unit h (fun _ hs => tileBuilt_wf hs _ _)
  case sampleFrameIn l r => exact .unit h (fun _ hs => sampleIn_wf hs _ _)
  case audioFillCopy => exact .unit h (fun _ => fillCopy_wf)
  case domainPowerGood => exact .unit h (fun _ => powerGood_wf)
  case domainTimeout => exact .unit h (fun _ => powerTimeout_wf)
  case vaux3v3Retry up => exact .unit h (fun _ hs => vauxRetry_wf hs up)
  case thermalRestart => exact .host h (fun _ => thermalRestart_wf)
  case bar2Write rid off data errs => exact .host h (fun _ hs => pcieAccess_wf hs (fun _ hs => bar2Write_wf hs _ off data errs))
  case commandFetch e fails sh => exact .host h (fun _ hs => wf_of_dram (commandFetch_wf hs e fails sh) (by simp))
  case supervisorWatchdog | watchdogReset | ftg0Start | pqRegenDone | mirrorDone | journalEraseDone | quiescedDone | switchedDone |
      trialTimeout | lineStart | latchLine | composerDry | tileStart | pbuTestDone | decisionPoint | segmentBoundary | quietFrameTick |
      ftg1Sof | holdEnd | symbolDecoded | stale | levelPairCorrection | variantLoadDone | driverReply | bankUnverified | linkStartDone |
      derateUpdate | loopTick | fastCrossing | motionLost | lockTimeout | parkReached | parkForced | scanLineStart | scanLineEnd |
      refreshDue | refreshOpportunity | ownRefreshSlot | mr4Read | trainingStepDone | audioPortRunning | sampleFrameOut |
      audioPllUnlock | calRunDone | calRampStep | calStoreDone | thermalStopRampEnd | dlinkReplyMissing | audioPllLock |
      fetchBufferWatermark | realignmentFrameStart | symbolArrival => exact .unit_dram h (fun s => by simp)
  case clockLoss | aonUe | interlockOpen | interlockDiscrepancy | flr | linkDown | perstN | pmStateChange | busMasterDisable |
      pcieUncorrectable | hmiEnable | hmiReset | hmiDbCmd | hmiDbCpl | hmiDbEvt | hmiHeartbeat | hostWatchdog | eventPost |
      coalesceTimeout | smbReadRegister | smbReadStatus | smbReadSerial | smbAlertResponse | smbSclTimeout | boundaryScanInstruction |
      warmReset | hostBoot | hostBootGo | glbErrClear | glbAccessErrClear | writeLock | pqPeakWrite | calTargetWrite |
      syncModeWrite | pendingClear | firstErrorClear => exact .host_dram h (fun s => by simp)
  case bar2Resize n => exact .host_dram h (pcieAccess_dram (fun s => bar2Resize_dram s _))
  case bar2Read rid off be ue ce => exact .host_dram h (pcieAccess_dram (fun s => bar2Read_dram s _ off be ue ce))
  case msixVectorUnmask v => exact .host_dram h (pcieAccess_dram (fun s => unmaskVector_dram s _))
  case hello | echo | imgStage | imgActivate | imgConfirm | imgRollback | imgRevokeKey | memFenceQuery | cmpLayerSurface | cmpLayerGeom |
      cmpCommit | cmpLayerReady | pbuTest | rckRestore | plkRetrain | plkPark | plkUnpark | plkReadStatus | lsdRearm | lsdSafe |
      lsdBrightness | lsdPinTest | lsdColourLock | lsdDerateOverride | lsdLinkRestart | lpeSwap | lpeSlotReset | hlsStart | hlsPark |
      memTrain | audStart | audStop | calRun | calStore | pwrSet | thmClearMinmax | fltInject | fltReadLog => exact .message h
  case statusSync | syncTimeout | helloAck | ack | trainReport | ready | status | laneLost | rowErr | frameErr | replyTimeout |
      statusLaneSilent | parkLate | statusPoll | statusFrameDiscarded => exact .port h (fun s => by simp)
  case registerWrite q bar dw v ok =>
    refine .host_dram h (fun s => ?_)
    split
    · exact writeBy_dram s q _ _ ok
    · simp
  case shadowCaptureRead q bar dw =>
    refine .host_dram h (fun s => ?_)
    split
    · exact readBy_dram s q _
    · exact dram_of_ite (pcieAccess_dram (fun s => emit_dram s _) s) rfl
  case accessSize rid bar write off first last len data =>
    exact .host_dram h (fun s => dram_of_ite rfl (pcieAccess_dram (fun s => by simp) s))
  case smbSetPointer n v pec => exact .host_dram h (smbBlockWrite_dram (fun s => smbSetPointer_dram s _))
  case smbWriteRegister n v pec ok => exact .host_dram h (smbBlockWrite_dram (fun s => smbWrite_dram s _ ok))
  case loadBlock rod time how port block plane cached blank missing ce ue errs =>
    exact .bead h (portBead_dram (lateBead_dram (fun s => containPort_dram s _)))
      (portBead_dram (fun s => (loadBlock_dram _ _ _ _ _ _ _ _ _).trans (by simp)))
  case resetBlock rod time how port show' dark aborts =>
    exact .bead h (portBead_dram (lateBead_dram (fun s => containPort_dram s _))) (portBead_dram (fun s => resetBlock_dram s _ _ _ aborts))
  case level rod time how prim lvl =>
    exact .bead h (primaryBead_dram (lateBead_dram (fun s => containPrimary_dram s _))) (primaryBead_dram (fun s => levelBead_dram s _ _))
  case window rod time how slots opens => exact .bead h (lateBead_dram (fun s => containSlots_dram s _)) (fun s => windowBead_dram s _ opens)
  case diagPulse rod time how bank lvl width => exact .bead h (lateBead_dram (fun _ => rfl)) (fun s => diagPulse_dram s _ _ _)
  case calPair rod time how width gap => exact .bead h (lateBead_dram (fun _ => rfl)) (fun s => calPair_dram s _ _)
  case dramSlot rod time how training chans period count =>
    exact .bead h (lateBead_dram (fun _ => rfl)) (fun s => dram_of_ite (trainingBead_dram s _ _) (refreshBead_dram s _ _ _))
  case darkSpan rod time how len => exact .bead h (lateBead_dram (fun _ => rfl)) darkSpan_dram
  case scanLine rod time how first count period =>
    exact .bead h (scannerBead_dram (lateBead_dram (fun _ => rfl))) (scannerBead_dram (fun s => scanLine_dram s _ _ _))

/-! ### A step -/

theorem tick_wf (h : Memory.wf s) : Memory.wf (tick s) := by
  unfold tick
  refine wf_ite h ?_
  extract_lets s1
  have h1 : Memory.wf s1 := wf_of_dram h (by simp [s1])
  clear_value s1
  refine finish_wf (warmTick_wf (wf_of_dram (r := { s1 with tsc := (s.tsc + 1) % 2 ^ 64 }) ?_ (by simp)))
  exact h1

end

/-- Settles O4: every row writes DRAM only through the operations that keep its form. -/
theorem everyStepKeepsTheMemoryForm : Obligations.EveryStepKeepsTheMemoryForm := by
  unfold Obligations.EveryStepKeepsTheMemoryForm
  intro s t h hstep
  unfold step at hstep
  split at hstep
  · cases hstep
    exact tick_wf h
  · next c rest _ => exact exec_formNext c (s := { s with pending := rest }) h t hstep

end Sys2Proof.Machine
end
